-- ==== Sys2Proof/Word.lean ====
section
/-! DEFINITION. The word types of the HC6400 and the plainest helpers on bytes and lists. -/

namespace Sys2Proof

/-- A byte: the smallest unit the address map counts (R31). -/
abbrev Byte := BitVec 8
/-- A 16-bit half word. -/
abbrev Half := BitVec 16
/-- A 32-bit word: a register, a general register of a core, an address (R5, R31). -/
abbrev Word := BitVec 32
/-- A 64-bit word: two words, low word first. -/
abbrev DWord := BitVec 64
/-- A 72-bit accumulator of a Merzetil core (R388). -/
abbrev Accu := BitVec 72
/-- A string of bytes, the first one sent or lying lowest first. -/
abbrev Bytes := List Byte

/-- A sparse map from numbers: key and value pairs, keys strictly rising. -/
abbrev Tab (α : Type) := List (Nat × α)

end Sys2Proof
end

