-- ==== Sys2Proof/Machine/Types.lean ====
section
/-! DEFINITION. The named things of the spec that commands carry and State holds: status codes, transports, packets, log
entries, and the records of every block. -/

namespace Sys2Proof.Machine

/-! ## Huern Command Protocol -/

/-- The status codes of R153. -/
inductive Status where
  | ok | accepted | badCrc | badLength | unknownOpcode | badParam | busy | denied | roadside | stateFloor | stateBusy
  | notAvailable | timeout | missedStart | ledgerEmpty | region | conflict | aborted | authFail | owner | flashError
  | eccUncorrectable | noSpace | wlock | notFound | imageInvalid | linkDown | noTag | internal
  deriving DecidableEq, Repr

/-- The code of a status (R153). -/
def Status.code : Status → Nat
  | .ok => 0x0000 | .accepted => 0x0001 | .badCrc => 0x8001 | .badLength => 0x8002 | .unknownOpcode => 0x8003
  | .badParam => 0x8004 | .busy => 0x8005 | .denied => 0x8006 | .roadside => 0x8007 | .stateFloor => 0x8008
  | .stateBusy => 0x8009 | .notAvailable => 0x800A | .timeout => 0x800B | .missedStart => 0x800C | .ledgerEmpty => 0x800D
  | .region => 0x800E | .conflict => 0x800F | .aborted => 0x8010 | .authFail => 0x8011 | .owner => 0x8012
  | .flashError => 0x8013 | .eccUncorrectable => 0x8014 | .noSpace => 0x8015 | .wlock => 0x8016 | .notFound => 0x8017
  | .imageInvalid => 0x8018 | .linkDown => 0x8019 | .noTag => 0x801A | .internal => 0x80FF

/-- The transports of HCP, with the transport numbers of R142. -/
inductive Tp where
  | hport | uart | lp0 | lp1
  deriving DecidableEq, Repr

def Tp.num : Tp → Nat
  | .hport => 0 | .uart => 1 | .lp0 => 2 | .lp1 => 3

def Tp.all : List Tp := [.hport, .uart, .lp0, .lp1]

/-- The packet fields of an HCP command that reached execution: the transport, SEQ and CRC of its packet, its AUTH flag with
the session counter, and whether the session tag matches (R129, R130, R142). -/
structure Hdr where
  tp : Tp
  seq : Nat
  crc : Nat
  auth : Bool
  counter : Nat
  tagOk : Bool
  deriving DecidableEq, Repr

/-- A packet of the device: its header fields, its parameter block and its data (R129). -/
structure Pkt where
  flags : Nat
  opcode : Nat
  seq : Nat
  par : Bytes
  data : Bytes
  deriving DecidableEq, Repr

/-- A remembered command with its latest reply (R146). -/
structure Remembered where
  seq : Nat
  crc : Nat
  reply : Option Pkt
  deriving DecidableEq, Repr

/-- An open authenticated session (R142, R143). -/
structure Session where
  key : Bytes
  scope : Nat
  /-- the last counter of the host -/
  hostCtr : Nat
  /-- the last counter of the device -/
  devCtr : Nat
  /-- AUTH_FAIL replies in a row -/
  fails : Nat
  deriving DecidableEq, Repr

/-- A challenge answered on a transport and not yet used (R142, R143). -/
structure Challenge where
  nonce : Bytes
  priv : Nat
  epk : Bytes
  deriving DecidableEq, Repr

/-- A transport of HCP: its reply queue, its memory of commands, its session, its notifications (R142 to R148). -/
structure TpState where
  queue : List Pkt := []
  memory : List Remembered := []
  session : Option Session := none
  challenge : Option Challenge := none
  /-- notifications dropped since the last NOTIFY_LOST -/
  lost : Nat := 0
  /-- the notification counter -/
  notes : Nat := 0
  /-- the notification mask of TRANSPORT_CFG (UART and line ports) -/
  mask : Nat := 0xFF
  /-- packets sent so far on the UART or line port, oldest first: the model's record of what left the device -/
  sent : List Pkt := []
  deriving DecidableEq, Repr

/-! ## Errors (R480 to R504) -/

/-- An entry of the error log (R481). `age` orders the entries by their writing. -/
structure LogEntry where
  handled : Bool
  cls : Nat
  source : Nat
  count : Nat
  sec : Word
  undisc : Bool
  tick : Nat
  info : Word
  age : Nat
  /-- the syndrome of an entry from the DMC (R452; log entry 220) -/
  syndrome : Nat := 0
  deriving DecidableEq, Repr

/-- Counts since the last telemetry snapshot (R504). -/
structure TelCounts where
  sramCorr : Nat := 0
  dramCorr : Nat := 0
  flWarn : Nat := 0
  uncorr : Nat := 0
  s0 : Nat := 0
  s1 : Nat := 0
  s2 : Nat := 0
  s3 : Nat := 0
  ctxPeak : Nat := 0
  ctxMiss : Nat := 0
  jfreeMin : Nat := 262144
  /-- FRM_CNT values at the last snapshot -/
  frm : Tab Nat := []
  deriving DecidableEq, Repr

/-! ## Event fabric (R361 to R377) -/

/-- An event on its way through the fabric: published by a producer in the cycle before stage 1; combined on a channel
(stage 1 passed, or a software fire); matched to consumers (stage 2 passed) (R363, R369). -/
inductive Flight where
  | produced (p : Nat)
  | onChannel (c : Nat)
  | matched (cs : List Nat)
  deriving DecidableEq, Repr

/-! ## Flash and OTP (R413 to R442) -/

/-- Who asked for a flash command: firmware through FLC_CMD, the HCP job of a number, or a FLASH_REC of a commit (R423, R437). -/
inductive FlcReq where
  | firmware
  | job (id : Nat)
  | msu (rec : Nat)
  deriving DecidableEq, Repr

/-- A flash command as FLC_CMD queues it, with its copies of FLC_DATA and FLC_SRC (R425). -/
structure FlcCmd where
  tag : Nat
  op : Nat
  nwords : Nat
  offset : Nat
  data : List Word
  src : Nat
  req : FlcReq
  deriving DecidableEq, Repr

/-- An entry of the grown-bad or partial-erase table (R434). -/
structure FlEntry where
  block : Nat
  kind : Nat
  index : Nat
  suspect : Nat
  deriving DecidableEq, Repr

/-- A table update of FLC (R434): the grown-bad table, or else the partial-erase table; an entry that it adds, or what a completed erase
clears of it, as its OP, logical block and sector in the block; the result that follows it; the sub-pulses of its sector erase so far, and,
once the sector is erased, the lines programmed. -/
structure TabUpdate where
  grown : Bool
  add : Option FlEntry
  clear : Option (Nat × Nat × Nat)
  req : FlcReq
  tag : Nat
  code : Nat
  pulses : Nat := 0
  lines : Option Nat := none
  deriving DecidableEq, Repr

/-- An erase in progress: its command, the sub-pulses so far, whether it is suspended, the tags of SUSPENDs that wait for its
stop and of a RESUME that waits for programs to end (R424). -/
structure EraseRun where
  cmd : FlcCmd
  pulses : Nat
  suspended : Bool
  suspends : List Nat
  resume : Option Nat
  deriving DecidableEq, Repr

/-- A flash table in force: its entries, its sequence number and the copy that holds it, 0 for A and 1 for B (R434). -/
structure FlTable where
  entries : List FlEntry := []
  seq : Nat := 1
  copy : Nat := 0
  deriving DecidableEq, Repr

/-- The state of an OTP half (R438). -/
inductive HalfState where
  | unprogrammed | programmed | dirty | crcFailed
  deriving DecidableEq, Repr

def HalfState.code : HalfState → Nat
  | .unprogrammed => 0 | .programmed => 1 | .dirty => 2 | .crcFailed => 3

/-- An OTP program in progress: the row, the half, the data, and whether it is the fuse row's bits (R438, R441). -/
structure OtpRun where
  row : Nat
  half : Nat
  data : Nat
  fuse : Bool
  deriving DecidableEq, Repr

/-! ## Receive and transmit (R158 to R217) -/

/-- What a lane holds of the frame it is receiving: its context, the fields of R183 known so far, the end of the frame in
network-time ticks, and whether the MAC header has been delivered (R181 to R185). -/
structure LaneFrame where
  ctx : Nat
  arrSec : Word
  arrTick : Nat
  errs : Nat
  rssi : Nat
  fofs : Word
  length : Nat := 0
  coded : Bool := false
  endNt : Nat := 0
  gainStep : Bool := false
  desense : Bool := false
  deriving DecidableEq, Repr

/-- An entry of a synthesiser table (R196): frequency, die temperature, and the cycles of its calibration and last use. -/
structure SynEntry where
  freq : Nat
  temp : Int
  made : Nat
  used : Nat
  deriving DecidableEq, Repr

/-- What a transmission carries: the MAC frame at an address, the bytes the device built itself, or a wake pattern with its
address, group and repeat count (R191, R192, R215). -/
inductive TxBody where
  | buffer (addr : Nat)
  | frame (b : Bytes)
  | wake (addr group repeats : Nat)
  deriving DecidableEq, Repr

/-- Whom a transmission serves: a submission of CL0, the HCP job of a number, action a of milestone k, the pending downlink of a job with
the result code of R244, the wake pattern of its Detour (R243), or an entry of a radio queue. -/
inductive TxUse where
  | cl0
  | job (id : Nat)
  | milestone (k a : Nat)
  | downlink (job mode : Nat)
  | page (job : Nat)
  | sched (queue : Nat)
  deriving DecidableEq, Repr

/-- What an acknowledgement belongs to: the receiving lane, the triple SRC, CTR, EPOCH of its filter entry, and whether it is a
TREJ acknowledgement, which has no entry (R236, R238). -/
structure AckOf where
  lane : Nat
  triple : Bytes
  trej : Bool
  deriving DecidableEq, Repr

/-- An entry of the timed list, or a scheduled one at its launch (R191 to R202). `start` is T_S in ticks of network time; `asked`
is the T_S submitted; `planned` says that its move was planned from the table (R195, R198). -/
structure TxEntry where
  tag : Nat
  order : Nat
  use : TxUse
  freq : Nat
  start : Nat
  asked : Nat
  planned : Bool
  body : TxBody
  pre : Nat
  cls : Nat
  fast : Bool
  lateOk : Bool
  hard : Bool
  port : Nat
  profile : Nat
  coded : Bool
  length : Nat
  committed : Bool
  tries : Nat
  /-- in a listen backoff (R204) -/
  waiting : Bool
  ack : Option AckOf
  deriving DecidableEq, Repr

/-- The phases of an excursion (R198): moving to the transmit frequency, locked there and listening or waiting for A, a step of
the front-end sequence (ramp-up), data, a step of ramp-down, returning. -/
inductive TxPhase where
  | moving | locked | clear | up (step : Nat) | data | down (step : Nat) | back
  deriving DecidableEq, Repr

/-- The excursion of a port: its entry, phase, open reservation (sub-band and 0.1 us units), airtime start, the bits or chips on air
from the preamble on, the deviations in Hz of its symbols with twice the filter's bandwidth-time product (none for a wake pattern), and
the four words of its sub-band as they stood at the launch point (R167, R192, R198, R210, R212). -/
structure Excursion where
  entry : Option TxEntry
  phase : TxPhase
  stored : Bool := false
  reserved : Option (Nat × Nat) := none
  airStart : Nat := 0
  air : List Bool := []
  devs : List Int := []
  bt2 : Nat := 0
  band : List Nat := []
  deriving DecidableEq, Repr

/-- What a launch point or a backoff belongs to: an entry of the timed list by its tag, or the head of a radio queue. -/
inductive TxRef where
  | tag (t : Fin 64)
  | queue (q : Fin 16)
  deriving DecidableEq, Repr

/-- A result of the transmit path on its way to the requester (R218). -/
structure TxDone where
  entry : TxEntry
  code : Nat
  late : Nat
  airStart : Nat
  deriving DecidableEq, Repr

/-! ## Frames (R219 to R246) -/

/-- The states of a frame context beside FREE (R228), with the steps a frame in VERIFYING has passed: its tag and time checks
and its filter lookup. -/
inductive CtxState where
  | arriving | dead | verifying | timed | verdict | committing
  deriving DecidableEq, Repr

/-- A frame context (R228). -/
structure Ctx where
  lane : Nat
  st : CtxState
  /-- what the lane reported, complete from the frame-end event on -/
  info : LaneFrame
  port : Nat := 0
  freq : Nat := 0
  profile : Nat := 0
  quality : Nat := 0
  header : Bytes := []
  key : Bytes := []
  dlp : Bool := false
  frame : Bytes := []
  endNt : Nat := 0
  /-- order of the frame-end events -/
  order : Nat := 0
  /-- a new frame, whether it carries COLD and UNDISC, and whether an acknowledgement is due -/
  fresh : Bool := false
  cold : Bool := false
  undisc : Bool := false
  ackDue : Bool := false
  trej : Bool := false
  /-- a stored acknowledgement to send again: NT_SEC, NT_SUB and DLP -/
  again : Option (Word × Nat × Bool) := none
  deriving DecidableEq, Repr

/-- A cached derived key (R227). -/
structure KeyLine where
  group : Nat
  epoch : Nat
  src : Bytes
  key : Bytes
  deriving DecidableEq, Repr

/-- A pending downlink (R240 to R244). `plan` is the result code of the transmission under way; `tries` counts failed Detour
attempts. -/
structure Downlink where
  src : Nat
  frame : Bytes
  flags : Nat
  expiry : Nat
  job : Nat
  plan : Option Nat := none
  tries : Nat := 0
  deriving DecidableEq, Repr

/-! ## Milestones (R247 to R277) -/

/-- An action of a milestone (R251, R252): its four words, the order of its claim, the tag of its radio transmission, the 32 bytes
of a FLASH_REC, and how it stands after the commit point. -/
structure Action where
  w0 : Word
  w1 : Word
  w2 : Word
  w3 : Word
  claim : Nat
  tag : Option Nat := none
  data : Bytes := []
  /-- the final result of its transmission before the commit point -/
  final : Option Nat := none
  /-- the record bytes of the receive template (R263) -/
  record : Bytes := []
  landed : Bool := false
  passed : Bool := false
  deriving DecidableEq, Repr

/-- A milestone that is not FREE, beside its MSU_MS_k_STAT: its actions, the transport it is bound to and the HCP jobs that wait for it, the frame
context of a receive template, the order of its commit request, and the WAIT_MAX in force for its wait (R247 to R263). -/
structure Milestone where
  actions : List Action := []
  tp : Option Tp := none
  jobs : List Nat := []
  ctx : Option Nat := none
  request : Option Nat := none
  /-- the cycle in which the holds of its requested commit cleared (R257) -/
  ready : Option Nat := none
  /-- its requested commit has lacked journal room (R265) -/
  roomWait : Bool := false
  /-- a FLASH_REC of it failed (R262) -/
  flashErr : Bool := false
  csn : Nat := 0
  deriving DecidableEq, Repr

/-- An unretired record of the ring: its sequence number, ring offset and length, and whether it has been retired out of order
(R268). -/
structure RingRec where
  seq : Nat
  offset : Nat
  length : Nat
  retired : Bool
  /-- pushed to its RECORD queue (R298) -/
  queued : Bool := false
  deriving DecidableEq, Repr

/-! ## Scheduler (R307 to R325) -/

/-- An entry of a queue: its address and length, and the milestone action that holds it uncommitted (R308). -/
structure SchedEntry where
  addr : Nat
  length : Nat
  held : Option (Nat × Nat)
  deriving DecidableEq, Repr

/-! ## SRAM -/

/-- What a memory access of a core meets: bits that have come to be in error in the word it reads, the same in core 1's own scratchpad copy
when the pair reads there, whether the line of the instruction cache that the instruction comes from is in error, whether the parity of the address or of the control
word fails at the DMC, and whether the checker of the pair finds a difference in a compared output (R27, R380, R382, R383, R410, R452). -/
structure Upset where
  bits : Fin 3 := 0
  peer : Fin 3 := 0
  line : Bool := false
  parity : Bool := false
  differs : Bool := false
  deriving DecidableEq, Repr

/-- What follows the register fields of a word with NOP in slot A: bit 15 of the pair; or any other word, so that the encodings that no
row of the table spells, an OP or FN outside R394 and a SOP outside R395, can be fetched too. -/
inductive NopWord where
  | pair (bit15 : Bool)
  | raw (w : Word)
  deriving DecidableEq, Repr

/-- A word of an SRAM that has a scrubber of its own (R411): one of system, cluster or journal SRAM by its address, one of a
core's scratchpad by its offset, one of a cluster's microcode store, a line of a core's instruction cache. -/
inductive RamWord where
  | mem (addr : Nat)
  | pad (core offset : Nat)
  | ucode (cluster index : Nat)
  | icache (core line : Nat)
  deriving DecidableEq, Repr

/-! ## Line ports (R278 to R306) -/

/-- A line block (R282), its check byte left out. -/
structure Block where
  typ : Nat
  bseq : Nat
  last : Bool
  first : Bool
  hops : Nat
  addr : Nat
  /-- the payload bytes in use -/
  payload : Bytes
  /-- of a block received: the payload bytes behind them, LEN above 120, and bit 6 of byte 2, which pass unchanged (R296) -/
  rest : Bytes := []
  excess : Nat := 0
  rsv : Bool := false
  deriving DecidableEq, Repr

/-- A unit being put together on a port (R286): its key, the BSEQ and count of the blocks so far, and its bytes. -/
structure Assembly where
  typ : Nat
  addr : Nat
  bseq : Nat
  count : Nat
  bytes : Bytes
  deriving DecidableEq, Repr

/-- A line timestamp (R305): second, tick, fraction of 0.625 ns. -/
structure Stamp where
  sec : Nat
  tick : Nat
  frac : Nat
  deriving DecidableEq, Repr

/-- A line port beside its registers. -/
structure LinePort where
  /-- LINK and TIME blocks due, forwarded blocks, blocks of MGMT_UP and BEACON units (R297) -/
  link : List Block := []
  fwd : List Block := []
  own : List Block := []
  /-- the last block sent, whether it went as a burst in the LX3 form, the block before it, and the blocks sent since the last
  sync word (R279, R288) -/
  sent : Option Block := none
  burst : Bool := false
  before : Option Block := none
  coded : Nat := 0
  asm : List Assembly := []
  /-- an ANNOUNCE of the port waits for its ANSWER -/
  announced : Bool := false
  /-- the cycle in which the last ANNOUNCE of the port began (R306) -/
  announceAt : Option Nat := none
  /-- the silence of 1 s after a failed attempt runs (R291) -/
  silent : Bool := false
  /-- the agreed mode, and whether both ends allow fallback (R288) -/
  agreed : Nat := 0
  fallback : Bool := false
  /-- the mode left for a MODE_UP attempt (R293) -/
  upFrom : Option Nat := none
  /-- the mode in which HALF_M is entered 1,000 us after an ANSWER, the verdicts or a RETRAIN (R288, R291, R292) -/
  train : Option Nat := none
  /-- no further fallback after a failed MODE_UP (R293) -/
  noFall : Bool := false
  /-- CCHK failures and blocks in CHECK; own verdict; the peer's (R290) -/
  checkFails : Nat := 0
  passed : Option Bool := none
  peerPassed : Option Bool := none
  /-- blocks received in UP, failures in a row, and the numbers of the failing blocks among the last 1,024 (R292) -/
  received : Nat := 0
  badRun : Nat := 0
  bad : List Nat := []
  /-- bits that differed in the sync word found last (R289) -/
  syncErrs : Nat := 0
  /-- wake patterns sent, and the queue entries that wait since they failed (R299) -/
  wakes : Nat := 0
  waited : List SchedEntry := []
  /-- time transfer: the next SEQ of the master; SEQ, t1, t2 and t3 of the slave's exchange (R304, R305) -/
  seq : Nat := 0
  sync : Option (Nat × Stamp × Stamp) := none
  t3 : Option Stamp := none
  /-- time sets that a load or step has spoiled: moves seen at t1 (R336) -/
  moves : Nat := 0
  /-- HCP jobs that wait for the port to train again (R306) -/
  jobs : List Nat := []
  /-- the loopback of the port passed at the last boot (R116) -/
  loopOk : Bool := false
  deriving DecidableEq, Repr

/-! ## HCP jobs (R132, R144) -/

/-- A flash command of an HCP job, or of the Supervisor's own work. -/
structure Piece where
  op : Nat
  off : Nat
  data : Bytes
  deriving DecidableEq, Repr

/-- A command answered ACCEPTED whose completion is due: its packet fields, its opcode, and what it works on. Opcodes 0x10000, a move of
flash content, and 0x10001, the erase behind it, are work of the Supervisor's own that answers nobody (R436). -/
structure Job where
  hdr : Hdr
  opcode : Nat
  arg : Nat
  par : Bytes
  data : Bytes
  /-- flash commands of the job that have ended; one of them is with FLC -/
  step : Nat := 0
  busy : Bool := false
  /-- the reply parameters of a completion OK that brings none of its own -/
  onOk : Bytes := []
  /-- the flash commands of the Supervisor's own work -/
  own : List Piece := []
  deriving DecidableEq, Repr

/-- Whether a job is the Supervisor's own. -/
def Job.isOwn (j : Job) : Bool := j.opcode ≥ 0x10000

/-- The packet fields of a command that the host sends: transport, SEQ, and in a session its counter and tag (R129, R142). -/
structure CmdHead where
  tp : Tp
  seq : Half
  auth : Option (Word × BitVec 64)
  deriving DecidableEq, Repr

/-- What a user cluster's program does with a USER_CALL while the call is handed over: it goes on working, it answers with reply
parameters and data, or it has the Supervisor decrypt the delivery record at an address of its region and answers with the plaintext
(R42, R149, R156). -/
inductive UserAct where
  | later
  | answer (params data : Bytes)
  | decrypt (addr : Word)
  deriving DecidableEq, Repr

/-- A rate of the UART that waits for the reply of its TRANSPORT_CFG to be sent in full (R141): the transport, the SEQ and the rate code; on a
line port the packets that are still to be sent, the reply among them. -/
structure RateNext where
  tp : Nat
  seq : Nat
  rate : Nat
  ahead : Nat := 0
  deriving DecidableEq, Repr

/-- What the host sends on HPORT from the instruction byte of a transaction on (R135). -/
structure HostSend where
  instr : Byte := 0x02
  bytes : Bytes
  deriving DecidableEq, Repr

/-- The data of a USER_CALL, with what the user cluster's program does with the call at once (R149, R156). -/
structure CallData where
  bytes : Bytes
  act : UserAct := .later
  deriving DecidableEq, Repr

/-- A reply of the regulator to a read: its word, the packet error code behind it, and whether it was not acknowledged (R81). -/
structure PmbReply where
  word : Half
  code : Byte
  nack : Bool := false
  deriving DecidableEq, Repr

/-- A word read from the regulator behind tries that failed: so many were not acknowledged, so many had a bad packet error code (R81,
R85). -/
structure PmbTries where
  word : Half
  nacks : Nat := 0
  pecs : Nat := 0
  deriving DecidableEq, Repr

/-- The level of a port's converter: whether a sample has reached full scale, and whether the level has been above -6 dBFS for 2 us with
no rise in the last 10 us (R160). -/
structure Overload where
  clip : Bool
  high : Bool
  deriving DecidableEq, Repr

/-- A calibration window: the image rejection measured in it, and its highest channel level in quarter dBm (R189). -/
structure CalWindow where
  rej : Byte
  level : Half
  deriving DecidableEq, Repr

/-- A lane with the seconds for which none of its windows has completed (R189). -/
structure CalAge where
  lane : Fin 128
  secs : Byte
  deriving DecidableEq, Repr

/-- How an initialisation of the DRAM ended: the step that failed as INIT_ERR codes it, or 0, and whether the signature of a
self-refresh came back (R453, R455). -/
structure TrainEnd where
  fail : BitVec 4
  kept : Bool
  deriving DecidableEq, Repr

/-- An initiator of an access, numbered as in error log entries (R482): 0 to 23 the cores, 24 HPORT and so on to 34. -/
abbrev Who := Fin 35

/-- A register field of an instruction. -/
abbrev RegF := BitVec 5

/-- A core by its number. -/
abbrev CoreNo := Fin 24

/-! ## Power, clocks, boot (R76 to R128) -/

/-- What follows a boot (R49, R105): operation in RUN; LISTEN for the exchange of a wake source of HIBERNATE, by its bit of
RAISE_CAUSE; or the resting state of the configuration image after a park. -/
inductive BootAfter where
  | run | wake (cause : Nat) | recover
  deriving DecidableEq, Repr

/-- A voltage request (R83, R84): the target whose write is in progress, the one whose acknowledgement is awaited, the last one
that waits, the retries made, and the VOUT_COMMAND data last sent (R81). Targets count 5 mV. -/
structure PmbState where
  sending : Option Nat := none
  awaiting : Option Nat := none
  next : Option Nat := none
  retries : Nat := 0
  word : Nat := 0
  /-- the bytes of the write sent last: address, command, data and packet error code (R81, R83) -/
  frame : Bytes := []
  /-- CLEAR_FAULTS commands sent (R80) -/
  clears : Nat := 0
  /-- the exponent N of VOUT_MODE as read at boot (R81) -/
  exp : Int := -9
  /-- retries of the present poll (R85) -/
  pollRetries : Nat := 0
  deriving DecidableEq, Repr

/-- A Last Mile flush (R101): whether it was ordered by LMCFG.FLUSH, its trip in cycles of the model's clock and in ticks of network
time, and whether its slot is sealed. -/
structure Flush where
  orderly : Bool
  tripCyc : Nat
  tripNt : Nat
  sealed : Bool
  deriving DecidableEq, Repr

/-- What the boot ROM finds outside the state (R114 to R116): whether VBAK is present, SRAM words with a single-bit fault, an
uncorrectable SRAM word, the reply to VOUT_MODE with the tries that failed before it (not acknowledged, and with a bad packet error
code), whether PMB_PGOOD is wired, the raises to VCORE_NOM that are abandoned before one is acknowledged and what their writes met, the
references that are good, PLL0's lock, the four loopbacks, the copies of
the factory bad-block table that fail, and the boot step, 2 to 7, during which NRESET_IN falls (R113). -/
structure BootEnv where
  vbak : Bool := true
  sramSingles : List RamWord := []
  sramBad : Bool := false
  voutMode : Byte := 0x17
  voutNacks : Nat := 0
  voutPecs : Nat := 0
  pgoodWired : Bool := true
  nomLost : Nat := 0
  nomNack : Bool := false
  nomPec : Bool := false
  refA : Bool := true
  refB : Bool := true
  pllLock : Bool := true
  rfa : Bool := true
  rfb : Bool := true
  lp0 : Bool := true
  lp1 : Bool := true
  factoryFails : Nat := 0
  pinFalls : Option Nat := none
  deriving DecidableEq, Repr

/-- The bus after a trip: the level it has risen to, in 50 mV units, and what the boot ROM then finds (R99, R105). -/
structure BusRise where
  level : Byte
  env : BootEnv := {}
  deriving DecidableEq, Repr

/-- The factory calibration that rows 8 to 15 of OTP hold, as values: VCORE_NOM in 5 mV units, and for each RF port the RSSI, IQ gain
and IQ phase corrections, for each line port the latencies (R82, R128, R189, R305). The spec gives no layout of those rows (log entry
154). -/
structure FactoryCal where
  vcoreNom : Nat := 160
  rssi : List Int := [0, 0]
  iqGain : List Int := [0, 0]
  iqPhase : List Int := [0, 0]
  txLat : List Int := [0, 0]
  rxLat : List Int := [0, 0]
  deriving DecidableEq, Repr

/-- The configuration image (R56): the configuration registers, the vault, the radio role and the resting state as CONFIG_SAVE last
found them. -/
structure ConfigImage where
  regs : Tab Word := []
  vault : Tab (Nat × Bytes) := []
  role : Nat := 0
  rest : Nat := 0
  deriving DecidableEq, Repr

/-! ## Contactless (R458 to R479) -/

/-- A field command to which the tag's front end answers by itself beside GET_ID: GET_STATUS with its parameters, or one whose code R464
does not list (R465). -/
inductive StatusFrame where
  | own (params : Bytes)
  | undefined (code : Byte) (params : Bytes)
  deriving DecidableEq, Repr

/-- A field READ or WRITE: its parameters, and a word of tag memory with the bits in error that it has come to have (R469): none, one, or
two, which stands for more. -/
structure MemFrame where
  params : Bytes
  word : Fin 2048 := 0
  bits : Fin 3 := 0
  deriving DecidableEq, Repr

/-- The tag's secured session (R466, R467). -/
structure TagSession where
  enc : Bytes
  mac : Bytes
  cc : Nat
  deriving DecidableEq, Repr

/-- A PROVISION command in progress (R477): its job, the offset and the record. -/
structure Provision where
  job : Nat
  offset : Nat
  record : Bytes
  deriving DecidableEq, Repr

/-- What the reader waits for (R473 to R477): its carrier; the answer to a WUPA of the scan (n sent) or of the search for further
tags (n sent); to an ANTICOLLISION or SELECT of a level; to GET_ID; to AUTH1, AUTH2, a WRITE piece (n retries), END; the delay
before a WUPA or a WRITE piece. -/
inductive RdPhase where
  | carrier | wupa (n : Nat) | more (n : Nat) | anticol | select | getId | auth1 | auth2 | write (n : Nat) | ending
  | pause (n : Nat) | busy (n : Nat)
  deriving DecidableEq, Repr

/-- The reader exchange in progress (R474, R476, R477). -/
structure Reader where
  phase : RdPhase
  /-- the PROVISION that the touch serves -/
  prov : Option Provision := none
  /-- cascade level 1 to 3, the known UID bits of the level, BCC retries made -/
  level : Nat := 1
  known : List Bool := []
  bccTries : Nat := 0
  /-- UID bytes resolved so far of the tag in hand, and the four bytes of the level last selected -/
  uid : Bytes := []
  sel : Bytes := []
  /-- of the scan: tags resolved, a collision resolved, the first tag's UID and KIND -/
  count : Nat := 0
  multi : Bool := false
  ext : Bool := false
  first : Option (Bytes × Nat) := none
  /-- IDENT of the sensor, the random numbers and the session of a PROVISION -/
  ident : Bytes := []
  nr : Bytes := []
  nt : Bytes := []
  session : Option TagSession := none
  /-- record bytes written -/
  done : Nat := 0
  /-- the last frame sent -/
  sent : Bytes := []
  deriving DecidableEq, Repr

end Sys2Proof.Machine
end

