-- ==== Sys2Proof/Syntax.lean ====
section
/-! DEFINITION. The commands of the HC6400: one constructor for each row of the table of operations and events. The docstrings
give the row's mnemonic, the rule of spec/ it rests on and what it is. -/

namespace Sys2Proof

open Machine

/-- The commands. -/
inductive Instr where
  /-- REGISTER_WRITE (R9): A write to a register that has no row of its own sets its fields by their access types and take-effect classes, setting WLOCK for changed locked fields. -/
  | registerWrite (who : Who) (addr w : Word)
  /-- POWER_ON_RESET (R79): Reset is released 1 ms after VCORE, VDDA and VIO are valid, starting a cold reset and the boot sequence. -/
  | powerOnReset (env : BootEnv)
  /-- BROWN_OUT (R79): VCORE falls below 0.62 V; new flash pulses are blocked, a running pulse ends cleanly and the device is held in cold reset. -/
  | brownOut (lines : Half)
  /-- NRESET_IN_ASSERT (R109): NRESET_IN held low for at least 1 µs causes a warm reset, or restarts the boot, unless a flush ignores it. -/
  | nresetInAssert (env : BootEnv)
  /-- NRESET_IN_RELEASE (R79): NRESET_IN rises and releases the reset when it is the last condition for release. -/
  | nresetInRelease (env : BootEnv)
  /-- SYS_RESET (R109): A write of SYSCTL_RSTCTL.SYS_RESET with the key causes a warm reset. -/
  | sysReset (who : Who) (env : BootEnv)
  /-- CLUSTER_RESET (R109): A write of CL1_RESET or CL2_RESET with the key resets that cluster. -/
  | clusterReset (who : Who) (cl1 cl2 : Bool)
  /-- DEBUG_RESET (R109): A reset request through DBG while the debug port is open causes a warm reset. -/
  | debugReset (env : BootEnv)
  /-- ROADSIDE_BEACON (R124): Every 1.000 s each beacon port sends the status beacon as a burst. -/
  | roadsideBeacon
  /-- SET_POWER_STATE (R152): HCP command sets the resting state, refused below the floor, and starts an entry or raise. -/
  | setPowerState (c : CmdHead) (state : Byte)
  /-- ENTRY_CONDITIONS_CLEAR (R55): The waited-for entry conditions clear and the entry proceeds through its steps to the commit point. -/
  | entryConditionsClear
  /-- ENTRY_WAIT_TIMEOUT (R55): After 100 ms with conditions still failing the entry is abandoned with STATE_BUSY and allocation resumes. -/
  | entryWaitTimeout
  /-- DOZE_COMMIT_POINT (R95): SYSCTL_PSTATE.CUR takes DOZE, the system domain powers down, journal SRAM retains and VCORE_RET is requested. -/
  | dozeCommitPoint
  /-- HIBERNATE_COMMIT_POINT (R96): After the orderly flush the device powers down its domains, and NRESET_OUT goes low and is latched. -/
  | hibernateCommitPoint
  /-- RETURN_TIMER_EXPIRY (R48): RAISE_HOLD elapses after the last exchange and the device returns to its resting state. -/
  | returnTimerExpiry
  /-- RELAY_WINDOW_EXPIRY (R49): No sync word is found within RELAY_WINDOW after a WURX match and the relay exchange ends. -/
  | relayWindowExpiry
  /-- LINE_IDLE_TIMEOUT (R49): Only idle blocks cross the port for RAISE_HOLD and the line exchange ends. -/
  | lineIdleTimeout (port : Fin 2)
  /-- PAD_EXCHANGE_TIMEOUT (R49): 30 s after a pad touch the pad exchange ends. -/
  | padExchangeTimeout
  /-- PMB_VREQ_WRITE (R84): A write of VTARGET starts a VCORE_NOM request, queued behind a running transaction. -/
  | pmbVreqWrite (who : Who) (w : Word)
  /-- VOUT_COMMAND_DONE (R83): The VOUT_COMMAND write ends; a lower target takes effect in VACK, or the write is retried after NACK or PEC failure. -/
  | voutCommandDone (nack pec : Bool)
  /-- PMB_PGOOD_ACK (R83): PMB_PGOOD is high at or after 50 µs from the end of the write and the request is acknowledged. -/
  | pmbPgoodAck
  /-- STATUS_WORD_POLL (R83): Every 100 µs the device reads STATUS_WORD and READ_VOUT and acknowledges when they show the target. -/
  | statusWordPoll (status vout : PmbReply)
  /-- PMB_REQUEST_TIMEOUT (R85): No acknowledgement within TIMEOUT or retries exhausted; the request is abandoned and logged, possibly leading to Roadside. -/
  | pmbRequestTimeout
  /-- PMB_PGOOD_FALL (R85): PMB_PGOOD falls for more than 10 µs with no request pending; STATUS_WORD is read and an error logged. -/
  | pmbPgoodFall (status : PmbTries)
  /-- REF_FAIL (R88): A reference input shows no edge for 100 ns or is off frequency; PLL0 switches to the other reference or loses lock. -/
  | refFail (ref : Fin 2)
  /-- REF_GOOD (R89): 10 ms without failure declares a reference good, and with REF_REVERT the device reverts to REF_PREF. -/
  | refGood (ref : Fin 2)
  /-- PLL_EN_WRITE (R93): A write of PLL_EN starts PLL0, and a write of 0 while PLL0 is selected is ignored with WLOCK. -/
  | pllEnWrite (who : Who) (en : Bool)
  /-- SRC_SELECT (R93): A write of SRC switches the clock between FRC and PLL0 glitch-free, ignored while PLL_LOCK is 0. -/
  | srcSelect (who : Who) (pll : Bool)
  /-- PLL_LOCK (R91): PLL0 achieves lock and PLL_LOCK rises. -/
  | pllLock
  /-- PLL_LOCK_TIMEOUT (R91): PLL_LOCK has not risen within 50 ms; ERR logs S3 and the device enters Roadside on FRC. -/
  | pllLockTimeout
  /-- PLL_LOCK_LOSS (R94): PLL0 loses lock; hardware clears SRC, moves to FRC and stops PLL-dependent blocks. -/
  | pllLockLoss
  /-- VIN_SENSE_TRIP (R101): The bus stays below TRIP for 2 µs; front-end pins go safe, milestones settle, blocks stop and flash work is ended. -/
  | vinSenseTrip
  /-- LMCFG_FLUSH (R96): A write of SYSCTL_LMCFG.FLUSH starts an orderly flush of the journal, ignored unless armed. -/
  | lmcfgFlush (who : Who)
  /-- LMCFG_ARM (R100): A write of ARM arms Last Mile when an erased slot and a valid AREA exist. -/
  | lmcfgArm (who : Who) (area : BitVec 5)
  /-- FLUSH_WRITE_SLOT (R101): Once running flash work has ended the flush writes the slot header, commit records, dirty ring lines and seal. -/
  | flushWriteSlot
  /-- FLUSH_PARK (R101): After the seal the device parks to HIBERNATE or OFF and NRESET_OUT goes low. -/
  | flushPark
  /-- FLUSH_SEAL_TIMEOUT (R103): 60 ms after the trip without a seal the device parks anyway and the slot stays unsealed. -/
  | flushSealTimeout (lines : Half)
  /-- BUS_RECOVERY_RESTART (R106): After a park, VIN_SENSE above RELEASE for 10 ms restarts the device through the power-on reset path. -/
  | busRecoveryRestart (env : BusRise)
  /-- HPORT_CSN_FALL (R139): HPORT_CSN falls, starting a transaction or, in DOZE, waking the device without serving the transaction. -/
  | hportCsnFall
  /-- HPORT_CSN_RISE (R138): HPORT_CSN rises, ending the transaction and discarding a packet cut short. -/
  | hportCsnRise
  /-- WRITE_PACKET (R138): HPORT instruction 0x02 carries one command packet to the device. -/
  | writePacket (packet : HostSend)
  /-- READ_PACKET (R138): HPORT instruction 0x0B reads the head reply packet, removing it only when read in full. -/
  | readPacket (count : Half)
  /-- READ_STATUS (R136): HPORT instruction 0x05 returns the status word repeatedly. -/
  | readStatus
  /-- UART_GAP_TIMEOUT (R141): A gap of more than 10 ms between bytes of a packet discards it and the receiver resumes hunting. -/
  | uartGapTimeout
  /-- SESSION_TIMEOUT (R143): A session ends after 300 s without a valid AUTH command. -/
  | sessionTimeout (tp : Tp)
  /-- NONCE_EXPIRY (R143): A session nonce becomes invalid 10 s after SESSION_CHALLENGE. -/
  | nonceExpiry (tp : Tp)
  /-- HCP_RESET_TRIGGER (R152): The reset ordered by HCP RESET is taken once its reply has been read or sent, or 10 ms after it was queued. -/
  | hcpResetTrigger (env : BootEnv)
  /-- SLOT_RESOURCE_TIMEOUT (R155): An image slot held by IMAGE_WRITE is released 60 s after the last write to it. -/
  | slotResourceTimeout (slot : Fin 2)
  /-- PING (R149): HCP command returns CHIP_ID and UID. -/
  | ping (c : CmdHead)
  /-- GET_INFO (R149): HCP command returns identity, reset cause, boot status, power state, security state and firmware version. -/
  | getInfo (c : CmdHead)
  /-- RESET (R152): HCP command orders a warm reset or a cluster reset after its reply. -/
  | reset (c : CmdHead) (kind : Byte)
  /-- BLOW_FUSE (R126): HCP command blows a lock fuse when its conditions hold, otherwise DENIED. -/
  | blowFuse (c : CmdHead) (fuse : Byte) (confirm : Word)
  /-- RAISE_SEC_VERSION (R121): HCP command raises the OTP minimum security version, never above the running image's. -/
  | raiseSecVersion (c : CmdHead) (count : Byte)
  /-- CANCEL (R152): HCP command cancels a command in progress on the same transport, which completes ABORTED. -/
  | cancel (c : CmdHead) (seq : Half)
  /-- IMAGE_WRITE (R155): HCP command writes image data into a slot and takes that slot. -/
  | imageWrite (c : CmdHead) (slot : Byte) (offset : Word) (data : Bytes)
  /-- DIRECTORY_WRITE (R276): HCP command writes the boot directory by a milestone holding a FLASH_REC. -/
  | directoryWrite (c : CmdHead) (active trial tries : Byte)
  /-- USER_CALL (R156): HCP command passes parameters and data to a user cluster mailbox, raising to RUN while it runs. -/
  | userCall (c : CmdHead) (cluster mailbox : Byte) (params : Bytes) (data : CallData)
  /-- TRANSPORT_CFG (R141): HCP command sets the UART rate, effective after its reply, and the notification mask. -/
  | transportCfg (c : CmdHead) (rate mask : Byte)
  /-- RADIO_ROLE (R152): HCP command sets the radio role, test refused in CLOSED without a diagnostic session. -/
  | radioRole (c : CmdHead) (role : Byte)
  /-- PORT_CFG (R158): HCP command sets an RF port's LO and enable. -/
  | portCfg (c : CmdHead) (port : Byte) (lo : Word) (enable : Byte)
  /-- PROFILE_SET (R166): HCP command writes a 32-byte PHY profile entry. -/
  | profileSet (c : CmdHead) (index : Byte) (profile : Bytes)
  /-- LANE_SET (R163): HCP command places and enables a lane, answering BAD_PARAM on refusal. -/
  | laneSet (c : CmdHead) (lane port : Byte) (offset : Word) (profile enable : Byte)
  /-- LANE_STATUS (R149): HCP command returns four status words per lane. -/
  | laneStatus (c : CmdHead) (first count : Byte)
  /-- TRANSMIT (R218): HCP command submits a host transmission and completes with its transmit result. -/
  | transmit (c : CmdHead) (port : Byte) (freq sec tick : Word) (flags : Byte) (frame : Bytes)
  /-- WAKE_TX (R215): HCP command transmits a wake pattern and completes with its result. -/
  | wakeTx (c : CmdHead) (port : Byte) (freq : Word) (addr : Half) (group : Byte)
  /-- LEDGER_READ (R211): HCP command returns the eight sub-band ledger balances. -/
  | ledgerRead (c : CmdHead)
  /-- KEY_LOAD (R151): HCP command unwraps and loads a master or contactless key. -/
  | keyLoad (c : CmdHead) (group epoch : Byte) (wrapped : Bytes)
  /-- EPOCH_SWITCH (R226): HCP command switches a key group's current epoch. -/
  | epochSwitch (c : CmdHead) (group epoch : Byte)
  /-- FILTER_CFG (R149): HCP command writes FRM_DUP_CFG and FRM_CFG. -/
  | filterCfg (c : CmdHead) (dup cfg : Word)
  /-- DOWNLINK (R240): HCP command places a downlink in the pending list, replacing one for the same SRC. -/
  | downlink (c : CmdHead) (src : BitVec 48) (expiry : Half) (flags : Byte) (frame : Bytes)
  /-- FRAME_STATS (R149): HCP command returns the 16 frame counters. -/
  | frameStats (c : CmdHead)
  /-- JOURNAL_READ (R149): HCP command returns journal records as data. -/
  | journalRead (c : CmdHead) (first : Word) (count : Half)
  /-- LINE_ROLE (R294): HCP command sets a line port's role. -/
  | lineRole (c : CmdHead) (port role : Byte)
  /-- LINE_MODE (R278): HCP command sets a line port's mode and fallback. -/
  | lineMode (c : CmdHead) (port mode fallback : Byte)
  /-- LINE_STATUS (R149): HCP command returns link state and quality words. -/
  | lineStatus (c : CmdHead) (port : Byte)
  /-- LINE_RETRAIN (R306): HCP command retrains a line port and completes with the mode reached. -/
  | lineRetrain (c : CmdHead) (port : Byte)
  /-- MS_OPEN (R248): HCP command opens a milestone with the given policy owned by CL0 and the transport. -/
  | msOpen (c : CmdHead) (policy : Byte)
  /-- MS_ADD (R253): HCP command adds an action descriptor to a milestone. -/
  | msAdd (c : CmdHead) (milestone : Byte) (w0 w1 w2 w3 : Word)
  /-- MS_COMMIT (R262): HCP command commits a milestone and completes when it is FREE. -/
  | msCommit (c : CmdHead) (milestone : Byte)
  /-- MS_ABORT (R250): HCP command aborts an open or waiting milestone. -/
  | msAbort (c : CmdHead) (milestone : Byte)
  /-- MS_STATUS (R149): HCP command returns a milestone's state, actions, result and flags. -/
  | msStatus (c : CmdHead) (milestone : Byte)
  /-- FLASH_READ (R427): HCP command reads flash and reports the corrected-bit count. -/
  | flashRead (c : CmdHead) (addr : Word) (length : Half)
  /-- FLASH_PROGRAM (R427): HCP command programs native lines or compatibility pages. -/
  | flashProgram (c : CmdHead) (addr reserved : Word) (data : Bytes)
  /-- FLASH_ERASE (R427): HCP command erases a native sector or compatibility block. -/
  | flashErase (c : CmdHead) (addr : Word) (kind : Byte)
  /-- CONFIG_SAVE (R149): HCP command saves the configuration image. -/
  | configSave (c : CmdHead)
  /-- FLASH_TABLES (R432): HCP command returns a flash table. -/
  | flashTables (c : CmdHead) (table : Byte)
  /-- PART_SPLIT_SET (R427): HCP command programs the PART_SPLIT boundary once. -/
  | partSplitSet (c : CmdHead) (boundary : Byte)
  /-- NT_READ (R149): HCP command returns network time and DISC. -/
  | ntRead (c : CmdHead)
  /-- NT_SET (R331): HCP command loads network time. -/
  | ntSet (c : CmdHead) (sec tick : Word)
  /-- RTC_READ (R354): HCP command returns the calendar through a capture. -/
  | rtcRead (c : CmdHead)
  /-- RTC_SET (R353): HCP command sets the calendar by the halt, write, release sequence. -/
  | rtcSet (c : CmdHead) (calendar : BitVec 64)
  /-- RTC_ALARM (R357): HCP command writes an alarm's fields, EN and REARM_BACK. -/
  | rtcAlarm (c : CmdHead) (alarm : Byte) (calendar : BitVec 64) (flags : Byte)
  /-- TRICKLE_CFG (R359): HCP command sets the trickle charger current and limit. -/
  | trickleCfg (c : CmdHead) (current limit : Byte)
  /-- CTL_MODE (R478): HCP command sets the contactless mode. -/
  | ctlMode (c : CmdHead) (mode : Byte)
  /-- TAG_READ (R478): HCP command reads tag memory under HOLD. -/
  | tagRead (c : CmdHead) (offset length : Half)
  /-- TAG_WRITE (R478): HCP command writes tag memory under HOLD. -/
  | tagWrite (c : CmdHead) (offset : Half) (data : Bytes)
  /-- TAG_LOCK (R478): HCP command writes the tag memory lock mask. -/
  | tagLock (c : CmdHead) (mask : Word)
  /-- PROVISION (R477): HCP command waits for a touch, authenticates a sensor tag and writes its provisioning record. -/
  | provision (c : CmdHead) (record data : Bytes)
  /-- ERR_READ (R488): HCP command returns error log entries. -/
  | errRead (c : CmdHead) (first count : Byte)
  /-- SESSION_CHALLENGE (R142): HCP command returns a nonce and an ephemeral device key. -/
  | sessionChallenge (c : CmdHead)
  /-- SESSION_OPEN (R142): HCP command checks the diagnostic key and signature and opens an authenticated session. -/
  | sessionOpen (c : CmdHead) (epk : Bytes) (scope : Word) (key signature : Bytes)
  /-- SESSION_CLOSE (R143): HCP command ends the session on the transport. -/
  | sessionClose (c : CmdHead)
  /-- REG_READ (R150): HCP command reads registers with CL0 rights. -/
  | regRead (c : CmdHead) (addr : Word) (count : Half)
  /-- REG_WRITE (R150): HCP command writes registers with CL0 rights. -/
  | regWrite (c : CmdHead) (addr : Word) (count : Half) (words : List Word)
  /-- TELEMETRY (R504): HCP command returns the last telemetry snapshot. -/
  | telemetry (c : CmdHead)
  /-- ENTER_ROADSIDE (R122): HCP command puts the device into Roadside with cause 0x30. -/
  | enterRoadside (c : CmdHead) (confirm : Word)
  /-- DEBUG_OPEN (R127): HCP command opens the debug functions within a diagnostic session. -/
  | debugOpen (c : CmdHead) (scope : Byte)
  /-- RFX_LO_WRITE (R158): A write of RFx_LO sets or retunes the port LO, range-checked, locked while lanes run. -/
  | rfxLoWrite (who : Who) (port : Fin 2) (w : Word)
  /-- PORT_ENABLE (R158): A write of RFx_CTRL.EN enables or disables the port, refused with RANGE_ERR when LO is out of range. -/
  | portEnable (who : Who) (port : Fin 2) (w : Word)
  /-- SYN_LOCK (R159): A port synthesiser locks after a move, at RFx_LO or a transmit frequency. -/
  | synLock (port : Fin 2)
  /-- RX_READY_RISE (R159): 16 µs after lock at RFx_LO RX_READY rises; blanking ends and lanes leave HOLD or BLANKED. -/
  | rxReadyRise (port : Fin 2)
  /-- SYN_LOCK_LOSS (R496): A port synthesiser loses lock; the port blanks and recalibrates at RFx_LO, logging S2. -/
  | synLockLoss (port : Fin 2)
  /-- ATTEN_STEP_UP (R160): The composite ADC level exceeds −6 dBFS for 2 µs and AGC raises attenuation by one step. -/
  | attenStepUp (port : Fin 2) (clip : Overload)
  /-- ATTEN_STEP_DOWN (R160): The level stays below −24 dBFS for 10 ms with no frame in progress and AGC lowers attenuation. -/
  | attenStepDown (port : Fin 2)
  /-- LANE_ENABLE (R163): A write of EN 1 enables a lane when profile, port, placement and units allow, else sets an error flag. -/
  | laneEnable (who : Who) (lane : Fin 128)
  /-- LANE_DISABLE (R190): A write of EN 0 takes the lane to OFF at once or after its frame. -/
  | laneDisable (who : Who) (lane : Fin 128)
  /-- LANE_KILL (R190): A write of KILL takes the lane to OFF at once, cutting any frame. -/
  | laneKill (who : Who) (lane : Fin 128)
  /-- LANE_OFFSET_WRITE (R190): A write of LANE_n_OFFSET is applied at once, held until SEARCH, or refused with PLACE_ERR. -/
  | laneOffsetWrite (who : Who) (lane : Fin 128) (w : Word)
  /-- LANE_BANK_RUN (R179): A write of RUN 1 starts the lane bank unless Last Mile is unarmed or the clock is FRC. -/
  | laneBankRun (who : Who)
  /-- LANE_BANK_STOP (R179): The lane bank stops and every lane goes to HOLD, cutting frames. -/
  | laneBankStop (who : Who)
  /-- CALIBRATE_END (R177): 400 µs of CALIBRATE elapse and the lane enters SEARCH with its correction updated. -/
  | calibrateEnd (lane : Fin 128) (imageRej : Byte)
  /-- CAL_WINDOW (R189): Once per second a lane in SEARCH runs a 400 µs calibration window while searching. -/
  | calWindow (lane : Fin 128)
  /-- CAL_WINDOW_COMPLETE (R189): A calibration window completes undisturbed and updates the correction, clearing CAL_DUE. -/
  | calWindowComplete (lane : Fin 128) (imageRej : CalWindow)
  /-- CAL_DUE (R189): CAL_MAX seconds pass without a calibration; CAL_DUE is set and a forced calibration follows. -/
  | calDue (lane : CalAge)
  /-- SYNC_FOUND (R185): A lane matches the sync word, requests a frame context and enters HEADER or records a context miss. -/
  | syncFound (lane : Fin 128) (bits : List Bool) (level : Half) (fofs arrSec : Word) (arrTick : BitVec 27)
  /-- HEADER_END (R173): The PHY header is delivered and accepted, entering PAYLOAD, or rejected, returning to SEARCH. -/
  | headerEnd (lane : Fin 128) (soft : List (BitVec 3))
  /-- MAC_HEADER_COMPLETE (R225): The MAC header is delivered; the frame engine checks FC and key, and looks up or derives the sender key. -/
  | macHeaderComplete (lane : Fin 128) (soft : List (BitVec 3))
  /-- FRAME_END (R181): The lane delivers the last bit of a frame; the context enters VERIFYING and the lane returns to SEARCH. -/
  | frameEnd (lane : Fin 128) (soft tail : List (BitVec 3))
  /-- TAG_COMPARE (R229): The AES core finishes a frame's tail blocks and compares the CCM tag, then checks coarse time. -/
  | tagCompare (ctx : Fin 1024)
  /-- FILTER_LOOKUP_DONE (R235): The duplicate filter bucket is read and the frame is classed new or repeat and the entry inserted or updated. -/
  | filterLookupDone (ctx : Fin 1024)
  /-- RECEIVE_TEMPLATE_OPEN (R263): The frame engine opens a milestone for a verdict, adds JAPPEND and ENQ_RADIO and requests the commit. -/
  | receiveTemplateOpen (ctx : Fin 1024)
  /-- VAULT_LOAD (R226): A write of FRM_VAULT_SEL OP 1 loads a master key into a slot, refused for slots in use. -/
  | vaultLoad (who : Who) (group : BitVec 6) (epoch : Byte)
  /-- VAULT_ERASE (R227): A write of FRM_VAULT_SEL OP 2 erases a key slot and invalidates its cached keys. -/
  | vaultErase (who : Who) (group : BitVec 6) (epoch : Byte)
  /-- DUP_FLUSH (R234): A write of FRM_DUP_CFG.FLUSH invalidates every entry and makes the filter cold. -/
  | dupFlush (who : Who) (w : Word)
  /-- FILTER_COLD_SECOND (R234): Each second COLD_LEFT counts down and the filter becomes warm when it reaches 0. -/
  | filterColdSecond
  /-- DETOUR_RETRY (R243): A failed Detour attempt is retried 1 s and 2 s later. -/
  | detourRetry (src : BitVec 48)
  /-- DOWNLINK_EXPIRY (R244): A pending downlink's expiry passes and DOWNLINK completes with TIMEOUT. -/
  | downlinkExpiry (src : BitVec 48)
  /-- TX_SUBMIT (R194): A write of TXP_SUBMIT3 submits a descriptor, accepted into the timed list or refused with a result. -/
  | txSubmit (who : Who) (w : Word)
  /-- LAUNCH_POINT (R199): Network time reaches a launch point; region and ledger are checked, conflicts resolved and the synthesiser moves. -/
  | launchPoint (ref : TxRef) (temp : Half)
  /-- LBT_LISTEN_END (R204): The listen time ends and the channel is judged clear or busy. -/
  | lbtListenEnd (port : Fin 2) (level : Half)
  /-- LBT_BACKOFF_END (R204): The random backoff after a busy channel ends and the earliest start is replanned. -/
  | lbtBackoffEnd (ref : TxRef)
  /-- AIRTIME_START (R199): At A the milestone commitment is checked; the reservation is charged and ramp-up begins, or WITHDRAWN is posted. -/
  | airtimeStart (port : Fin 2)
  /-- FEMSEQ_STEP_END (R206): A front-end step's delay ends and the next ramp step or the data applies. -/
  | femseqStepEnd (port : Fin 2)
  /-- TX_DATA_END (R198): The last data bit airs and ramp-down begins. -/
  | txDataEnd (port : Fin 2)
  /-- LEDGER_REFILL (R211): At each 1 ms boundary every sub-band ledger grows by DUTY and waiting earliest starts are replanned. -/
  | ledgerRefill
  /-- TXP_RESULT_READ (R218): A read of TXP_RESULT removes the oldest result and latches TXP_RESULT_NT. -/
  | txpResultRead (who : Who)
  /-- SYNTAB_CLEAR (R196): A write of RFx_SYNCFG.CLEAR invalidates every synthesiser table entry. -/
  | syntabClear (who : Who) (port : Fin 2) (w : Word)
  /-- SYN_RECALIBRATION (R197): The die temperature has moved 5 °C and the port recalibrates at RFx_LO, blanking 76 µs. -/
  | synRecalibration (port : Fin 2) (temp : Half)
  /-- SYN_RECAL_FORCE (R197): No suitable moment came within the second and the recalibration is forced at its end. -/
  | synRecalForce (port : Fin 2) (temp : Half)
  /-- WAKE_PATTERN_RECEIVED (R216): The WURX decides a pattern at its last check chip, counts it and raises or publishes on a match. -/
  | wakePatternReceived (addr : Half) (group : Byte) (check : BitVec 4)
  /-- MSU_OPEN (R248): A read of MSU_OPEN opens the lowest free milestone for the reading cluster. -/
  | msuOpen (who : Who)
  /-- ACTION_WRITE (R252): An add of a WRITE action to a TVAR, checked and claiming its TVAR. -/
  | actionWrite (who : Who) (ms opt : BitVec 6) (target : Half) (p1 p2 p3 : Word)
  /-- ACTION_JAPPEND (R252): An add of a JAPPEND action of a journal record. -/
  | actionJappend (who : Who) (ms opt : BitVec 6) (target : Half) (p1 p2 p3 : Word)
  /-- ACTION_ENQ_RADIO (R252): An add of an ENQ_RADIO action, which submits the descriptor to TXP at the add. -/
  | actionEnqRadio (who : Who) (ms opt : BitVec 6) (target : Half) (p1 p2 p3 : Word)
  /-- ACTION_ENQ_LINE (R532): An add of an ENQ_LINE action, which queues an ineligible scheduler entry. -/
  | actionEnqLine (who : Who) (ms opt : BitVec 6) (target : Half) (p1 p2 p3 : Word)
  /-- ACTION_ARM_TIMER (R252): An add of an ARM_TIMER action claiming its timer. -/
  | actionArmTimer (who : Who) (ms opt : BitVec 6) (target : Half) (p1 p2 p3 : Word)
  /-- ACTION_FIRE_EVENT (R252): An add of a FIRE_EVENT action. -/
  | actionFireEvent (who : Who) (ms opt : BitVec 6) (target : Half) (p1 p2 p3 : Word)
  /-- ACTION_EPOCH_SWITCH (R252): An add of an EPOCH_SWITCH action claiming its group. -/
  | actionEpochSwitch (who : Who) (ms opt : BitVec 6) (target : Half) (p1 p2 p3 : Word)
  /-- ACTION_FLASH_REC (R252): An add of a FLASH_REC action that copies 32 bytes into the commit record's data area. -/
  | actionFlashRec (who : Who) (ms opt : BitVec 6) (target : Half) (p1 p2 p3 : Word)
  /-- MSU_CMD_COMMIT (R257): A write of MSU_CMD OP 1 requests the commit of a milestone. -/
  | msuCmdCommit (who : Who) (ms : BitVec 6)
  /-- MSU_CMD_ABORT (R250): A write of MSU_CMD OP 2 aborts an open or waiting milestone, revoking its actions. -/
  | msuCmdAbort (who : Who) (ms : BitVec 6)
  /-- MSU_CMD_SET_POLICY (R248): A write of MSU_CMD OP 3 sets the policy of an empty owned open milestone. -/
  | msuCmdSetPolicy (who : Who) (ms : BitVec 6) (abortLater : Bool)
  /-- MILESTONE_COMMIT (R257): A commit whose holds have cleared writes journal records and the commit record and lands its actions. -/
  | milestoneCommit (ms : Fin 64)
  /-- FLASH_REC_PASSED (R257): A committed FLASH_REC is passed to the FLC queue once it has room. -/
  | flashRecPassed (ms : Fin 64)
  /-- MILESTONE_WAIT_TIMEOUT (R260): A commit waits longer than WAIT_MAX and ends with TIMEOUT, aborting its actions. -/
  | milestoneWaitTimeout (ms : Fin 64)
  /-- JOURNAL_RETIRE (R268): A write of MSU_JRETIRE retires a record and advances the ring tail. -/
  | journalRetire (who : Who) (seq : Word)
  /-- MSU_REPLAY (R270): A write of MSU_REPLAY starts a replay of a Last Mile slot or of journal SRAM in place. -/
  | msuReplay (who : Who) (source : BitVec 2)
  /-- REPLAY_DONE (R270): A replay ends after restoring records and applying commit records, and DONE rises. -/
  | replayDone
  /-- LPN_WAKE_PEER (R299): A write of LPn_CTRL.WAKE_PEER from QUIET starts the wake of the peer. -/
  | lpnWakePeer (who : Who) (port : Fin 2)
  /-- LPN_CLR_CNT (R306): A write of LPn_CTRL.CLR_CNT clears the port counters. -/
  | lpnClrCnt (who : Who) (port : Fin 2)
  /-- LPN_RETRAIN (R292): A write of LPn_CTRL.RETRAIN in UP sends RETRAIN and retrains the link. -/
  | lpnRetrain (who : Who) (port : Fin 2)
  /-- ANNOUNCE_TIMER (R287): In DETECT an ANNOUNCE burst is sent every 64 ms plus a random delay. -/
  | announceTimer (port : Fin 2)
  /-- ANNOUNCE (R288): An ANNOUNCE is heard in DETECT or QUIET and the port answers as training slave. -/
  | announce (port : Fin 2) (mode flags : Byte) (node : Word)
  /-- ANSWER (R288): An ANSWER to the port's own ANNOUNCE is heard and the port becomes training master. -/
  | answer (port : Fin 2) (mode flags : Byte) (node : Word)
  /-- TRAINING_START (R288): 1,000 µs after the ANSWER or verdicts both ends enter HALF_M in the agreed mode. -/
  | trainingStart (port : Fin 2)
  /-- TRAINING_PHASE_END (R287): The symbol count of HALF_M, HALF_S or FULL is reached and the port moves to the next phase. -/
  | trainingPhaseEnd (port : Fin 2)
  /-- SYNC_WORD_FOUND (R289): The line sync word is matched and the port enters CHECK. -/
  | syncWordFound (port : Fin 2) (errs : Byte)
  /-- SYNC_SEARCH_FAIL (R291): The sync search window ends without a match and the attempt fails. -/
  | syncSearchFail (port : Fin 2)
  /-- CHECK_END (R290): After 256 IDLE blocks the port sends its VERDICT. -/
  | checkEnd (port : Fin 2) (snr : Half)
  /-- VERDICT (R290): The peer's VERDICT arrives; the link goes UP or falls back or returns to DETECT. -/
  | verdict (port : Fin 2) (pass : Bool)
  /-- VERDICT_TIMEOUT (R290): No peer VERDICT within two block times and the attempt fails. -/
  | verdictTimeout (port : Fin 2)
  /-- ENERGY_LOSS (R292): No energy at the receive pair for 1 ms takes the port to DETECT. -/
  | energyLoss (port : Fin 2)
  /-- SNR_LOW (R292): SNR below SNR_REQ + 1.0 dB averaged over 100 ms starts a retrain. -/
  | snrLow (port : Fin 2) (snr : Half)
  /-- RETRAIN (R292): A RETRAIN block is received and both ends retrain at the present mode. -/
  | retrain (port : Fin 2)
  /-- MODE_UP_TIMER (R293): Every UP_TRY minutes the master of a link below its mode sends MODE_UP. -/
  | modeUpTimer (port : Fin 2)
  /-- MODE_UP (R293): A MODE_UP is received and both ends train at the next faster mode. -/
  | modeUp (port : Fin 2)
  /-- DOZING (R299): A DOZING block is received and the port enters QUIET. -/
  | dozing (port : Fin 2)
  /-- LINE_WAKE_PATTERN_SENT (R299): The wake pattern has been sent and the port enters DETECT. -/
  | lineWakePatternSent (port : Fin 2)
  /-- WAKE_WAIT_EXPIRY (R299): The link is not UP within WAKE_WAIT; the pattern is repeated or WAKE_FAIL is set. -/
  | wakeWaitExpiry (port : Fin 2)
  /-- LINE_WAKE_DETECT (R300): In DOZE the line detector matches the wake pattern or energy and raises the device. -/
  | lineWakeDetect (port : Fin 2) (pattern : Bool)
  /-- BEACON_BURST_RECEIVED (R301): A beacon burst is received; BEACON_SEEN is set and the block forwarded or discarded. -/
  | beaconBurstReceived (port : Fin 2) (raw : Bytes)
  /-- LINE_BLOCK_RECEIVED (R295): A line block arrives; CCHK is checked, it is reassembled, taken, forwarded or dropped. -/
  | lineBlockReceived (port : Fin 2) (raw : Bytes)
  /-- CONFIRM (R298): A CONFIRM unit is taken and each confirmed record is retired. -/
  | confirm (port : Fin 2) (unit : Bytes)
  /-- MGMT_DOWN (R302): A MGMT_DOWN unit is taken and its HCP packet passed to the Supervisor. -/
  | mgmtDown (port : Fin 2) (unit : Bytes)
  /-- USER_DOWN (R284): A USER_DOWN unit addressed to the node is taken for the user clusters. -/
  | userDown (port : Fin 2) (unit : Bytes)
  /-- RECORD_CONFIRM_TIMEOUT (R298): A record unconfirmed 10 s after its last block is sent again. -/
  | recordConfirmTimeout (seq : Word)
  /-- TIME_SYNC_SEND (R304): Every 125 ms the time master sends SYNC with its send time. -/
  | timeSyncSend (port : Fin 2)
  /-- TIME_SYNC (R304): The slave receives SYNC, captures t2 and sends DELAY_REQ. -/
  | timeSync (port : Fin 2) (seq : Half) (sec : Word) (tick : BitVec 27) (frac : BitVec 4)
  /-- DELAY_REQ (R304): The master receives DELAY_REQ and answers DELAY_RESP with t4. -/
  | delayReq (port : Fin 2) (seq : Half)
  /-- DELAY_RESP (R305): The slave receives DELAY_RESP and latches t1 to t4. -/
  | delayResp (port : Fin 2) (seq : Half) (sec : Word) (tick : BitVec 27) (frac : BitVec 4)
  /-- SCHED_BLOCK_CHOICE (R311): 320 ns before each line block boundary the scheduler chooses the next block by band, WFQ, bucket and gate. -/
  | schedBlockChoice (port : Fin 2)
  /-- SCHED_PUSH (R308): A write of SCHED_PUSH1 pushes an entry into a queue or is refused. -/
  | schedPush (who : Who) (w : Word)
  /-- QUEUE_FLUSH (R325): A write of SCHED_CTRL OP 1 removes committed unstarted entries and refills the bucket. -/
  | queueFlush (who : Who) (queue : Byte)
  /-- SCHED_RUN (R317): A write of SCHED_CTRL.RUN starts or stops the scheduler, ignored on FRC. -/
  | schedRun (who : Who) (run : Bool)
  /-- SCHED_RRESULT_READ (R324): A read of SCHED_RRESULT removes the oldest radio result. -/
  | schedRresultRead (who : Who)
  /-- BUCKET_REFILL (R316): Every 10 µs of network time each bucket gains RATE units up to capacity. -/
  | bucketRefill
  /-- GATE_ENTRY_CHANGE (R319): Network time reaches the next gate-list entry and the open bands change. -/
  | gateEntryChange (port : Fin 2)
  /-- GATE_SWAP_REQUEST (R321): A write of SWAP plans the inactive list to take over at its next cycle start. -/
  | gateSwapRequest (who : Who) (port : Fin 2) (w : Word)
  /-- GATE_SWAP (R321): The planned swap takes effect at the cycle start and SWAP_PEND clears. -/
  | gateSwap (port : Fin 2)
  /-- NT_LOAD (R331): A write of NTC_CTRL.LOAD replaces network time with the staged values. -/
  | ntLoad (who : Who)
  /-- NT_STEP (R331): A write of NTC_CTRL.STEP adds NTC_STEPVAL to network time. -/
  | ntStep (who : Who)
  /-- NT_CAPTURE (R330): A write of NTC_CAPCMD.CAPTURE latches both counters into the cluster's capture pair. -/
  | ntCapture (who : Who)
  /-- NTC_TICK_READ (R329): A read of NTC_TICK samples both counters and loads the core's NTC_SECSH. -/
  | ntcTickRead (who : Who)
  /-- DISC_HOLDOVER_EXPIRY (R337): HOLDOVER seconds pass without an accepted sample and DISC falls. -/
  | discHoldoverExpiry
  /-- NT_FRC_CORRECTION (R333): On FRC, network time is corrected once per second against the 32.768 kHz oscillator. -/
  | ntFrcCorrection (ticks : Word)
  /-- NT_LOAD_FROM_RTC (R334): After reset or wake network time is loaded from the RTC at a 1/256 s boundary. -/
  | ntLoadFromRtc
  /-- RTC_OFFSET_SYNC (R335): The NTC rewrites the RTC network-time offset at a 1/256 s boundary. -/
  | rtcOffsetSync
  /-- COMPARE_ARM (R340): A write of NTC_CMPk_TICK arms the compare unit. -/
  | compareArm (who : Who) (cmp : Fin 16) (w : Word)
  /-- COMPARE_DISARM (R340): A write of DISARM disarms the compare unit. -/
  | compareDisarm (who : Who) (cmp : Fin 16)
  /-- COMPARE_FIRE (R340): Network time reaches an armed value; the unit fires, publishes and disarms or advances by PER. -/
  | compareFire (cmp : Fin 16)
  /-- TIMER_START (R343): A write of EN 1 starts a periodic timer or arms a one-shot from BUF. -/
  | timerStart (who : Who) (timer : Fin 32) (w : Word)
  /-- TIMER_STOP (R344): A write of EN 0 stops or disarms the timer. -/
  | timerStop (who : Who) (timer : Fin 32) (w : Word)
  /-- TIMER_RESTART (R343): A write of RESTART loads COUNT from BUF and runs the timer. -/
  | timerRestart (who : Who) (timer : Fin 32) (w : Word)
  /-- TIMER_COUNT_WRITE (R344): A write of TMR_n_COUNT loads the count, arming a one-shot. -/
  | timerCountWrite (who : Who) (timer : Fin 32) (w : Word)
  /-- TIMER_EXPIRY (R343): A timer's count expires; it publishes, sets EXP, reloads or stops, and acts on linked slaves. -/
  | timerExpiry (timer : Fin 32)
  /-- RTC_HALT (R353): A write of HALT 1 stops the calendar at the next oscillator edge. -/
  | rtcHalt (who : Who)
  /-- RTC_RELEASE (R353): A write of HALT 0 checks the set fields and restarts counting or sets BAD_SET. -/
  | rtcRelease (who : Who)
  /-- RTC_CAPTURE (R354): A write of RTC_CTRL.CAPTURE copies calendar and SUB on one edge. -/
  | rtcCapture (who : Who)
  /-- RTC_ADJ (R355): A write of RTC_ADJ moves the calendar by a signed second count, with alarm handling. -/
  | rtcAdj (who : Who) (seconds : BitVec 24)
  /-- RTC_SECOND (R356): At each RTC second boundary the calendar advances and alarms are compared and fire. -/
  | rtcSecond
  /-- VBAK_MEASURE (R359): Once per second VBAK is measured and VBAK_LOW and charging updated. -/
  | vbakMeasure (mv : Half)
  /-- BACKUP_POWER_UP (R351): The backup domain powers up after VBAK below 1.5 V; LOST is set and RTC registers reset. -/
  | backupPowerUp
  /-- XT32_START (R522): The 32.768 kHz oscillator starts and XT32_GOOD rises. -/
  | xt32Start
  /-- GPIO_EDGE (R362): A selected edge at a GPIO ball is synchronised and published as an event. -/
  | gpioEdge (pin : Fin 24) (rising : Bool)
  /-- EVF_FIRE (R369): A write of EVF_FIRE publishes a software event on a channel, checked against rights. -/
  | evfFire (who : Who) (channel : Byte)
  /-- CONSUMER_ACTIVATION (R366): Three cycles after publication a consumer task is activated once, or overruns if busy. -/
  | consumerActivation
  /-- EVF_GRP_SET (R374): A write of EVF_GRP_SET opens the owned groups named. -/
  | evfGrpSet (who : Who) (groups : Half)
  /-- EVF_GRP_CLR (R374): A write of EVF_GRP_CLR closes the owned groups named. -/
  | evfGrpClr (who : Who) (groups : Half)
  /-- CLR_COAL (R366): A write of EVF_CSTAT_c.CLR_COAL clears the consumer's COAL count. -/
  | clrCoal (who : Who) (consumer : Fin 320)
  /-- CORE_RELEASE (R381): A write of SYSCTL_CORE_EN releases cores at their cluster start address or holds them in reset. -/
  | coreRelease (who : Who) (w : Word)
  /-- INTERRUPT_ENTRY (R402): At an instruction boundary with PEND, IEN and IE set the core takes the lowest interrupt. -/
  | interruptEntry (core : CoreNo)
  /-- WAITI_RESUME (R403): An enabled PEND bit rises while the core waits in WAITI and it resumes. -/
  | waitiResume (core : CoreNo)
  /-- ADD (R394): Long RR operation rd ← rs1 + rs2. -/
  | add (core : CoreNo) (rd rs1 rs2 : RegF)
  /-- SUB (R394): Long RR operation rd ← rs1 − rs2. -/
  | sub (core : CoreNo) (rd rs1 rs2 : RegF)
  /-- AND (R394): Long RR operation bitwise AND. -/
  | and (core : CoreNo) (rd rs1 rs2 : RegF)
  /-- OR (R394): Long RR operation bitwise OR. -/
  | or (core : CoreNo) (rd rs1 rs2 : RegF)
  /-- XOR (R394): Long RR operation bitwise XOR. -/
  | xor (core : CoreNo) (rd rs1 rs2 : RegF)
  /-- SHL (R394): Long RR left shift by rs2[4:0]. -/
  | shl (core : CoreNo) (rd rs1 rs2 : RegF)
  /-- SHRU (R394): Long RR logical right shift. -/
  | shru (core : CoreNo) (rd rs1 rs2 : RegF)
  /-- SHRS (R394): Long RR arithmetic right shift. -/
  | shrs (core : CoreNo) (rd rs1 rs2 : RegF)
  /-- MUL (R394): Low 32 bits of the product. -/
  | mul (core : CoreNo) (rd rs1 rs2 : RegF)
  /-- MULHI (R394): Signed high 32 bits of the product. -/
  | mulhi (core : CoreNo) (rd rs1 rs2 : RegF)
  /-- MULHIU (R394): Unsigned high 32 bits of the product. -/
  | mulhiu (core : CoreNo) (rd rs1 rs2 : RegF)
  /-- MIN (R394): Signed minimum. -/
  | min (core : CoreNo) (rd rs1 rs2 : RegF)
  /-- MAX (R394): Signed maximum. -/
  | max (core : CoreNo) (rd rs1 rs2 : RegF)
  /-- CEQ (R394): rd ← 1 when rs1 equals rs2. -/
  | ceq (core : CoreNo) (rd rs1 rs2 : RegF)
  /-- CNE (R394): rd ← 1 when rs1 differs from rs2. -/
  | cne (core : CoreNo) (rd rs1 rs2 : RegF)
  /-- CLT (R394): rd ← 1 when rs1 < rs2 signed. -/
  | clt (core : CoreNo) (rd rs1 rs2 : RegF)
  /-- CLTU (R394): rd ← 1 when rs1 < rs2 unsigned. -/
  | cltu (core : CoreNo) (rd rs1 rs2 : RegF)
  /-- CGE (R394): rd ← 1 when rs1 ≥ rs2 signed. -/
  | cge (core : CoreNo) (rd rs1 rs2 : RegF)
  /-- CGEU (R394): rd ← 1 when rs1 ≥ rs2 unsigned. -/
  | cgeu (core : CoreNo) (rd rs1 rs2 : RegF)
  /-- ADDQ15 (R393): Q15 add with saturation or wrap. -/
  | addq15 (core : CoreNo) (rd rs1 rs2 : RegF)
  /-- SUBQ15 (R393): Q15 subtract. -/
  | subq15 (core : CoreNo) (rd rs1 rs2 : RegF)
  /-- MULQ15 (R393): Q15 multiply with rounding and range check. -/
  | mulq15 (core : CoreNo) (rd rs1 rs2 : RegF)
  /-- ABSQ15 (R393): Q15 absolute value. -/
  | absq15 (core : CoreNo) (rd rs1 rs2 : RegF)
  /-- NEGQ15 (R393): Q15 negation. -/
  | negq15 (core : CoreNo) (rd rs1 rs2 : RegF)
  /-- SHLQ15 (R393): Q15 left shift by rs2[3:0]. -/
  | shlq15 (core : CoreNo) (rd rs1 rs2 : RegF)
  /-- ADDQ31 (R393): Q31 add. -/
  | addq31 (core : CoreNo) (rd rs1 rs2 : RegF)
  /-- SUBQ31 (R393): Q31 subtract. -/
  | subq31 (core : CoreNo) (rd rs1 rs2 : RegF)
  /-- MULQ31 (R393): Q31 multiply with rounding. -/
  | mulq31 (core : CoreNo) (rd rs1 rs2 : RegF)
  /-- ABSQ31 (R393): Q31 absolute value. -/
  | absq31 (core : CoreNo) (rd rs1 rs2 : RegF)
  /-- NEGQ31 (R393): Q31 negation. -/
  | negq31 (core : CoreNo) (rd rs1 rs2 : RegF)
  /-- SHLQ31 (R393): Q31 left shift by rs2[4:0]. -/
  | shlq31 (core : CoreNo) (rd rs1 rs2 : RegF)
  /-- MAC15 (R392): Accumulator plus Q15 product. -/
  | mac15 (core : CoreNo) (rd rs1 rs2 : RegF)
  /-- MSU15 (R392): Accumulator minus Q15 product. -/
  | msu15 (core : CoreNo) (rd rs1 rs2 : RegF)
  /-- MAC31 (R392): Accumulator plus Q31 product. -/
  | mac31 (core : CoreNo) (rd rs1 rs2 : RegF)
  /-- MSU31 (R392): Accumulator minus Q31 product. -/
  | msu31 (core : CoreNo) (rd rs1 rs2 : RegF)
  /-- MPY15 (R392): Accumulator loaded with Q15 product. -/
  | mpy15 (core : CoreNo) (rd rs1 rs2 : RegF)
  /-- MPY31 (R392): Accumulator loaded with Q31 product. -/
  | mpy31 (core : CoreNo) (rd rs1 rs2 : RegF)
  /-- ACLR (R394): Accumulator cleared. -/
  | aclr (core : CoreNo) (rd rs1 rs2 : RegF)
  /-- ASET31 (R392): Accumulator loaded with a Q31 operand × 2^32. -/
  | aset31 (core : CoreNo) (rd rs1 rs2 : RegF)
  /-- AEXT15 (R393): Rounded, range-checked Q15 extract of an accumulator. -/
  | aext15 (core : CoreNo) (rd rs1 rs2 : RegF)
  /-- AEXT31 (R393): Rounded, range-checked Q31 extract of an accumulator. -/
  | aext31 (core : CoreNo) (rd rs1 rs2 : RegF)
  /-- AMVLO (R394): rd ← accumulator bits [31:0]. -/
  | amvlo (core : CoreNo) (rd rs1 rs2 : RegF)
  /-- AMVHI (R394): rd ← accumulator bits [63:32]. -/
  | amvhi (core : CoreNo) (rd rs1 rs2 : RegF)
  /-- AMVG (R394): rd ← guard bits sign-extended. -/
  | amvg (core : CoreNo) (rd rs1 rs2 : RegF)
  /-- AMVTLO (R394): Accumulator bits [31:0] ← rs1. -/
  | amvtlo (core : CoreNo) (rd rs1 rs2 : RegF)
  /-- AMVTHI (R394): Accumulator bits [63:32] ← rs1. -/
  | amvthi (core : CoreNo) (rd rs1 rs2 : RegF)
  /-- AMVTG (R394): Accumulator guard bits ← rs1. -/
  | amvtg (core : CoreNo) (rd rs1 rs2 : RegF)
  /-- ASRA (R394): Accumulator arithmetic right shift. -/
  | asra (core : CoreNo) (rd rs1 rs2 : RegF)
  /-- ASLA (R394): Accumulator left shift, setting AOV on overflow. -/
  | asla (core : CoreNo) (rd rs1 rs2 : RegF)
  /-- ADDI (R394): rd ← rs1 + simm15. -/
  | addi (core : CoreNo) (rd rs1 : RegF) (imm : BitVec 15)
  /-- ANDI (R394): rd ← rs1 AND zero-extended immediate. -/
  | andi (core : CoreNo) (rd rs1 : RegF) (imm : BitVec 15)
  /-- ORI (R394): rd ← rs1 OR zero-extended immediate. -/
  | ori (core : CoreNo) (rd rs1 : RegF) (imm : BitVec 15)
  /-- XORI (R394): rd ← rs1 XOR zero-extended immediate. -/
  | xori (core : CoreNo) (rd rs1 : RegF) (imm : BitVec 15)
  /-- SHLI (R394): Left shift by immediate. -/
  | shli (core : CoreNo) (rd rs1 : RegF) (imm : BitVec 15)
  /-- SHRUI (R394): Logical right shift by immediate. -/
  | shrui (core : CoreNo) (rd rs1 : RegF) (imm : BitVec 15)
  /-- SHRSI (R394): Arithmetic right shift by immediate. -/
  | shrsi (core : CoreNo) (rd rs1 : RegF) (imm : BitVec 15)
  /-- CEQI (R394): Compare equal with immediate. -/
  | ceqi (core : CoreNo) (rd rs1 : RegF) (imm : BitVec 15)
  /-- CNEI (R394): Compare not equal with immediate. -/
  | cnei (core : CoreNo) (rd rs1 : RegF) (imm : BitVec 15)
  /-- CLTI (R394): Compare less than, signed, with immediate. -/
  | clti (core : CoreNo) (rd rs1 : RegF) (imm : BitVec 15)
  /-- CLTUI (R394): Compare less than, unsigned, with immediate. -/
  | cltui (core : CoreNo) (rd rs1 : RegF) (imm : BitVec 15)
  /-- CGEI (R394): Compare greater or equal, signed, with immediate. -/
  | cgei (core : CoreNo) (rd rs1 : RegF) (imm : BitVec 15)
  /-- CGEUI (R394): Compare greater or equal, unsigned, with immediate. -/
  | cgeui (core : CoreNo) (rd rs1 : RegF) (imm : BitVec 15)
  /-- LDHI (R394): rd[31:12] ← imm20, keeping the low bits. -/
  | ldhi (core : CoreNo) (rd : RegF) (imm : BitVec 20)
  /-- PCREL (R394): rd ← PC + 4 × imm20. -/
  | pcrel (core : CoreNo) (rd : RegF) (imm : BitVec 20)
  /-- LD8S (R396): Load a sign-extended byte. -/
  | ld8s (core : CoreNo) (rd rs1 : RegF) (imm : BitVec 15) (upset : Upset)
  /-- LD8U (R396): Load a zero-extended byte. -/
  | ld8u (core : CoreNo) (rd rs1 : RegF) (imm : BitVec 15) (upset : Upset)
  /-- LD16S (R396): Load a sign-extended halfword. -/
  | ld16s (core : CoreNo) (rd rs1 : RegF) (imm : BitVec 15) (upset : Upset)
  /-- LD16U (R396): Load a zero-extended halfword. -/
  | ld16u (core : CoreNo) (rd rs1 : RegF) (imm : BitVec 15) (upset : Upset)
  /-- LD32 (R396): Load a word. -/
  | ld32 (core : CoreNo) (rd rs1 : RegF) (imm : BitVec 15) (upset : Upset)
  /-- ST8 (R397): Store a byte through the store buffer. -/
  | st8 (core : CoreNo) (rs2 rs1 : RegF) (imm : BitVec 15) (upset : Upset)
  /-- ST16 (R397): Store a halfword. -/
  | st16 (core : CoreNo) (rs2 rs1 : RegF) (imm : BitVec 15) (upset : Upset)
  /-- ST32 (R397): Store a word. -/
  | st32 (core : CoreNo) (rs2 rs1 : RegF) (imm : BitVec 15) (upset : Upset)
  /-- SWPM (R396): Atomic swap of a memory word. -/
  | swpm (core : CoreNo) (rd rs1 rs2 : RegF) (upset : Upset)
  /-- ADDM (R396): Atomic add to a memory word. -/
  | addm (core : CoreNo) (rd rs1 rs2 : RegF) (upset : Upset)
  /-- BZ (R394): Branch when rs is zero. -/
  | bz (core : CoreNo) (rs : RegF) (imm : BitVec 20)
  /-- BNZ (R394): Branch when rs is not zero. -/
  | bnz (core : CoreNo) (rs : RegF) (imm : BitVec 20)
  /-- CALL (R394): g31 ← PC + 4 and jump relative. -/
  | call (core : CoreNo) (imm : BitVec 25)
  /-- CALLR (R394): rd ← PC + 4 and jump to rs1 + simm15. -/
  | callr (core : CoreNo) (rd rs1 : RegF) (imm : BitVec 15)
  /-- JMP (R394): Jump relative. -/
  | jmp (core : CoreNo) (imm : BitVec 25)
  /-- CRD (R394): Read a control register, UCDATA advancing UCADDR. -/
  | crd (core : CoreNo) (rd rs1 : RegF) (mid : BitVec 3) (cr : BitVec 12)
  /-- CWR (R407): Write a control register, UCDATA writing the microcode store. -/
  | cwr (core : CoreNo) (rd rs1 : RegF) (mid : BitVec 3) (cr : BitVec 12)
  /-- TRAP (R399): Raise a TRAP exception with a code. -/
  | trap (core : CoreNo) (rd rs1 rs2 : RegF)
  /-- HRET (R400): Copy SSTAT to STATUS and return to RETA. -/
  | hret (core : CoreNo) (rd rs1 rs2 : RegF)
  /-- WAITI (R403): Wait until an enabled PEND bit is set. -/
  | waiti (core : CoreNo) (rd rs1 rs2 : RegF)
  /-- DRAIN (R397): Complete when the store buffer is empty. -/
  | drain (core : CoreNo) (rd rs1 rs2 : RegF)
  /-- ICINV (R380): Invalidate every line of the core's instruction cache. -/
  | icinv (core : CoreNo) (rd rs1 rs2 : RegF)
  /-- BRK (R399): Raise BREAK, or halt under an attached debug session. -/
  | brk (core : CoreNo) (rd rs1 rs2 : RegF)
  /-- CX (R405): Execute a custom opcode's microcode sequence from its decode entry. -/
  | cx (core : CoreNo) (rd rs1 rs2 cxn arg : RegF)
  /-- NOP (R395): Short operation doing nothing. -/
  | nop (core : CoreNo) (rd rs : RegF) (form : NopWord) (slotB : BitVec 15)
  /-- MOV (R395): Short rd ← rs. -/
  | mov (core : CoreNo) (rd rs : RegF) (bit15 : Bool) (slotB : BitVec 15)
  /-- MOVI (R395): Short rd ← simm5. -/
  | movi (core : CoreNo) (rd rs : RegF) (bit15 : Bool) (slotB : BitVec 15)
  /-- SHORT_ADD (R395): Short rd ← rd + rs. -/
  | shortAdd (core : CoreNo) (rd rs : RegF) (bit15 : Bool) (slotB : BitVec 15)
  /-- SHORT_SUB (R395): Short rd ← rd − rs. -/
  | shortSub (core : CoreNo) (rd rs : RegF) (bit15 : Bool) (slotB : BitVec 15)
  /-- SHORT_AND (R395): Short rd ← rd AND rs. -/
  | shortAnd (core : CoreNo) (rd rs : RegF) (bit15 : Bool) (slotB : BitVec 15)
  /-- SHORT_OR (R395): Short rd ← rd OR rs. -/
  | shortOr (core : CoreNo) (rd rs : RegF) (bit15 : Bool) (slotB : BitVec 15)
  /-- SHORT_XOR (R395): Short rd ← rd XOR rs. -/
  | shortXor (core : CoreNo) (rd rs : RegF) (bit15 : Bool) (slotB : BitVec 15)
  /-- SHORT_ADDI (R395): Short rd ← rd + simm5. -/
  | shortAddi (core : CoreNo) (rd rs : RegF) (bit15 : Bool) (slotB : BitVec 15)
  /-- SHORT_SHLI (R395): Short left shift by imm5. -/
  | shortShli (core : CoreNo) (rd rs : RegF) (bit15 : Bool) (slotB : BitVec 15)
  /-- SHORT_SHRUI (R395): Short logical right shift by imm5. -/
  | shortShrui (core : CoreNo) (rd rs : RegF) (bit15 : Bool) (slotB : BitVec 15)
  /-- SHORT_SHRSI (R395): Short arithmetic right shift by imm5. -/
  | shortShrsi (core : CoreNo) (rd rs : RegF) (bit15 : Bool) (slotB : BitVec 15)
  /-- SHORT_CLT (R395): Short signed compare less than. -/
  | shortClt (core : CoreNo) (rd rs : RegF) (bit15 : Bool) (slotB : BitVec 15)
  /-- SHORT_CEQ (R395): Short compare equal. -/
  | shortCeq (core : CoreNo) (rd rs : RegF) (bit15 : Bool) (slotB : BitVec 15)
  /-- SHORT_ADDQ15 (R395): Short Q15 add. -/
  | shortAddq15 (core : CoreNo) (rd rs : RegF) (bit15 : Bool) (slotB : BitVec 15)
  /-- SHORT_SUBQ15 (R395): Short Q15 subtract. -/
  | shortSubq15 (core : CoreNo) (rd rs : RegF) (bit15 : Bool) (slotB : BitVec 15)
  /-- SHORT_MULQ15 (R395): Short Q15 multiply. -/
  | shortMulq15 (core : CoreNo) (rd rs : RegF) (bit15 : Bool) (slotB : BitVec 15)
  /-- SHORT_ADDQ31 (R395): Short Q31 add. -/
  | shortAddq31 (core : CoreNo) (rd rs : RegF) (bit15 : Bool) (slotB : BitVec 15)
  /-- SHORT_MAC15 (R395): Short MAC15 into a0 to a3. -/
  | shortMac15 (core : CoreNo) (rd rs : RegF) (bit15 : Bool) (slotB : BitVec 15) (acc : BitVec 2)
  /-- SHORT_MAC31 (R395): Short MAC31 into a0 to a3. -/
  | shortMac31 (core : CoreNo) (rd rs : RegF) (bit15 : Bool) (slotB : BitVec 15) (acc : BitVec 2)
  /-- SHORT_LD32 (R395): Short word load, slot A only. -/
  | shortLd32 (core : CoreNo) (rd rs : RegF) (bit15 : Bool) (slotB : BitVec 15) (upset : Upset)
  /-- SHORT_ST32 (R395): Short word store, slot A only. -/
  | shortSt32 (core : CoreNo) (rd rs : RegF) (bit15 : Bool) (slotB : BitVec 15) (upset : Upset)
  /-- SRAM_SCRUB_READ (R411): A bank scrubber reads a word in an idle cycle and corrects or logs errors. -/
  | sramScrubRead (bank : Fin 80) (bits : Fin 3)
  /-- PROGRAM (R421): FLC_CMD OP 1 queues a native program of 1 to 8 words in a line. -/
  | program (who : Who) (nwords : BitVec 3) (offset : BitVec 25)
  /-- PAGE (R422): FLC_CMD OP 2 queues a compatibility page program. -/
  | page (who : Who) (offset : BitVec 25)
  /-- SERASE (R424): FLC_CMD OP 3 queues a native sector erase. -/
  | serase (who : Who) (offset : BitVec 25)
  /-- BERASE (R424): FLC_CMD OP 4 queues a compatibility block erase. -/
  | berase (who : Who) (offset : BitVec 25)
  /-- SUSPEND (R424): FLC_CMD OP 5 suspends the running erase at the end of its sub-pulse. -/
  | suspend (who : Who) (offset : BitVec 25)
  /-- RESUME (R424): FLC_CMD OP 6 continues the suspended erase. -/
  | resume (who : Who) (offset : BitVec 25)
  /-- BLANK (R425): FLC_CMD OP 7 checks a sector or page for blank. -/
  | blank (who : Who) (offset : BitVec 25)
  /-- MARK_BAD (R433): FLC_CMD OP 8 enters a block in the grown-bad table. -/
  | markBad (who : Who) (offset : BitVec 25)
  /-- FLASH_COMMAND_START (R423): A queued flash command starts when its bank or the array is free and writes its operation record. -/
  | flashCommandStart
  /-- PROGRAM_PULSE_END (R421): A native program pulse ends and verifies, posting its result or marking the block grown-bad. -/
  | programPulseEnd (bank : Fin 4) (verified : Bool)
  /-- PAGE_PULSE_END (R422): A page program pulse ends; the next pulse follows or the page completes with its marker and record. -/
  | pagePulseEnd (last verified : Bool)
  /-- ERASE_SUBPULSE_END (R424): An erase sub-pulse ends with verify; the erase completes, continues, suspends or fails after 80. -/
  | eraseSubpulseEnd (verified : Bool)
  /-- BLANK_DONE (R426): A blank check completes with DONE or NOT_BLANK. -/
  | blankDone
  /-- FLC_RESULT_READ (R426): A read of FLC_RESULT removes the oldest flash result. -/
  | flcResultRead (who : Who)
  /-- OTP_PROGRAM_HALF (R438): OTP_CTRL OP 1 programs a half row with its CRC and seal, or is refused. -/
  | otpProgramHalf (who : Who) (row : BitVec 7) (high : Bool)
  /-- OTP_PROGRAM_FUSE (R441): OTP_CTRL OP 2 programs selected fuse-row bits. -/
  | otpProgramFuse (who : Who) (row : BitVec 7) (high : Bool)
  /-- OTP_RELOAD (R439): OTP_CTRL OP 3 reloads every shadow. -/
  | otpReload (who : Who)
  /-- OTP_PROGRAM_DONE (R438): An OTP program completes, or is cut by a trip leaving the half dirty. -/
  | otpProgramDone (cut crcOk : Bool)
  /-- DMC_INIT (R453): DMC_CTRL.INIT runs reset, training, and the zero fill of DRAM. -/
  | dmcInit (who : Who)
  /-- DMC_STOP (R453): DMC_CTRL.STOP drains and stops the DMC, content counted lost. -/
  | dmcStop (who : Who)
  /-- DMC_FILL_DONE (R454): The DRAM fill passes each region and completes, releasing waiting requests. -/
  | dmcFillDone (pos : Word)
  /-- DRAM_REFRESH (R448): An all-bank refresh is issued at the refresh interval, or postponed under real-time load. -/
  | dramRefresh (postpone : Bool)
  /-- MR4_CHECK (R448): Every 16 ms MR4 is read and the refresh rate set. -/
  | mr4Check (rate : Byte) (hot : Bool)
  /-- TRACKING_PAUSE (R449): Every TRACK_MS a tracking pause measures drift, starting a re-centre or urgent re-centre. -/
  | trackingPause (drift : Byte) (rd wr : Byte)
  /-- RECENTRE_STEP (R450): Once per ms during a re-centre one eye-search step runs in a pause. -/
  | recentreStep (rd wr : Byte)
  /-- DRAM_SCRUB_READ (R451): The patrol scrubber reads a unit in an idle slot and corrects or logs it. -/
  | dramScrubRead (bits : Fin 3)
  /-- FIELD_ON (R462): A contactless field appears and the tag enters IDLE or stays QUIET. -/
  | fieldOn
  /-- FIELD_LOSS (R462): The field is absent for more than 50 µs; the tag powers off and a session ends. -/
  | fieldLoss
  /-- FIELD_OFF (R462): The field has been absent for 4 s; CTL_FIELD_OFF is published and the exchange ends. -/
  | fieldOff
  /-- REQA (R459): The tag answers ATQA and enters READY1. -/
  | reqa
  /-- WUPA (R459): The tag answers ATQA and enters READY1. -/
  | wupa
  /-- ANTICOLLISION (R459): The tag answers the UID bits of its cascade level. -/
  | anticollision (sel : Byte) (known : List Bool)
  /-- SELECT (R460): The tag is selected at a cascade level, answering SAK and advancing to READY2 or OPEN. -/
  | select (sel : Byte) (uid : Bytes)
  /-- HLTA (R461): The tag enters QUIET and answers nothing for 4 s. -/
  | hlta
  /-- GET_ID (R464): The tag returns UID, KIND and IDENT. -/
  | getId (params : Bytes)
  /-- GET_STATUS (R471): The tag returns its 16-byte status block; a command with an undefined code, which has no row of its own, is answered
  UNKNOWN (R465). -/
  | getStatus (frame : StatusFrame)
  /-- READ (R469): A field READ of tag memory, served by access rules and secure messaging. -/
  | read (frame : MemFrame)
  /-- WRITE (R469): A field WRITE of tag memory in SECURED, applied atomically. -/
  | write (frame : MemFrame)
  /-- AUTH1 (R466): The tag answers NT and MAC_T, or WAKING, LOCKOUT or NOT_AVAILABLE. -/
  | auth1 (params : Bytes)
  /-- AUTH2 (R466): The tag checks MAC_R, derives session keys and enters SECURED or answers AUTH_FAIL. -/
  | auth2 (params : Bytes)
  /-- END (R464): The secure session ends and the tag enters OPEN. -/
  | endSession (params : Bytes)
  /-- QUIET_EXPIRY (R461): 4 s after HLTA the tag leaves QUIET for IDLE or POWER_OFF. -/
  | quietExpiry
  /-- LOCKOUT_EXPIRY (R468): 10 s after a lockout FAILS is cleared and AUTH1 is served again. -/
  | lockoutExpiry
  /-- HOLD_REQUEST (R470): A write of CTL_HOLD.REQ holds off field memory commands once any step ends. -/
  | holdRequest (who : Who)
  /-- HOLD_TIMEOUT (R470): HOLD_ACT falls 10 ms after it rose. -/
  | holdTimeout
  /-- PAD_POLL (R475): At 8 Hz the pad is polled; a touch is detected or the baseline moved. -/
  | padPoll (count : BitVec 12)
  /-- READER_ANSWER (R474): A tag answer reaches the reader, which continues anti-collision, selection or commands. -/
  | readerAnswer (answer : Bytes) (collision : Option (Fin 40))
  /-- READER_ANSWER_TIMEOUT (R474): No answer within 5 ms; the reader retries WUPA or ends the scan. -/
  | readerAnswerTimeout
  /-- CARRIER_RETRY (R473): Every 20 ms the reader retries its carrier while an external field is absent. -/
  | carrierRetry
  /-- PROVISION_WAIT_TIMEOUT (R477): No touch within the PROVISION wait time and it completes with NO_TAG. -/
  | provisionWaitTimeout
  /-- S3_ERROR (R486): An S3 error silences the radio, withdraws transmit lists, stops blocks and leads to Roadside. -/
  | s3Error (source : BitVec 12) (info : Word)
  /-- ERR_ACK (R483): A write of ERR_ACK marks an unhandled entry handled. -/
  | errAck (who : Who) (w : Word)
  /-- ERR_REPORT (R487): A write of ERR_REPORT reports a firmware error of the written class. -/
  | errReport (who : Who) (w : Word)
  /-- WDT_KICK (R492): A write of ERR_WDT_n_KICK restarts the watchdog, or a bad or early kick expires it. -/
  | wdtKick (who : Who) (wdt : Fin 4) (w : Word)
  /-- WATCHDOG_EXPIRY (R493): A watchdog expires, logs S2 and causes a cluster reset or a held warm reset. -/
  | watchdogExpiry (wdt : Fin 4) (env : BootEnv)
  /-- HELD_RESET_TAKEN (R493): A warm reset held for a flash pulse or commit is taken when they end. -/
  | heldResetTaken (env : BootEnv)
  /-- CONSEC_CLEAR (R494): After 60 s of Supervisor running CONSEC is cleared. -/
  | consecClear
  /-- TELEMETRY_SNAPSHOT (R504): At each NT_SEC change or TELEMETRY_SNAP task the telemetry words are latched. -/
  | telemetrySnapshot (temp margin : Half)
  /-- AGEING_CHECK (R502): Every 24 h the Supervisor raises VTARGET when the age margin is below 40 ps. -/
  | ageingCheck
  /-- FLASH_PATROL (R436): The Supervisor reads flash areas on schedule and refreshes on WARN. -/
  | flashPatrol (offset : BitVec 25) (bits : Byte) (target ref : BitVec 25) (record : Bytes)
  /-- UART_PACKET (R141): Bytes arriving on UART_RX are hunted for SYNC and a packet taken whole is checked under R134, answered BAD_CRC, BAD_LENGTH or executed. -/
  | uartPacket (packet : Bytes)
  /-- READER_RETRY (R476): The reader's retry delay runs out, 20 ms between scan WUPAs and 10 ms between retries of a WRITE piece answered BUSY, and the reader sends again. -/
  | readerRetry
  /-- RTC_WRITE_DONE (R352): A write to the RTC reaches the backup domain within three oscillator periods, WBUSY falls and reads return the new value. -/
  | rtcWriteDone
  /-- RTC_CAPTURE_DONE (R354): The RTC capture copy completes within two oscillator periods and CAP_BUSY falls, freeing the RTC_CAPTURE consumer. -/
  | rtcCaptureDone
  /-- DMC_READY (R453): DRAM initialisation training ends and the DMC reaches READY, or fails with INIT_ERR and an S3. -/
  | dmcReady (mr8 gb : Byte) (ranks : BitVec 4) (typeOk : Bool) (fail : TrainEnd)
  /-- DEBUG_SESSION_ATTACH (R46): A debug session attaches or detaches through the debug port, setting or lifting the RUN floor and letting BRK halt cores. -/
  | debugSessionAttach (attach : Bool)
  /-- SUPPLY_LOSS (R54): The supplies fall, VCORE and VDDA below the power-on thresholds or all supplies including VBAK, and the device goes to OFF, the parked VIN_SENSE comparator losing power. -/
  | supplyLoss (vbakLost : Bool)
  deriving DecidableEq, Repr

end Sys2Proof
end

