-- ==== Sys2Proof/Config.lean ====
section
/-! DEFINITION. What an implementation fixes and the values the spec leaves open: opaque constants, so that no proof can see
what they are. Each is applied to the counter of free values that State holds, or to the operands it depends on. -/

namespace Sys2Proof.Config

/-- A free number: a random choice of the device or a value the spec leaves open (log entry 3). Applied to the counter
`State.free`, which the step that uses it advances. -/
opaque freeNat : Nat → Nat

/-- What a read of the DBG window answers at an address, with a fresh value each time from the counter `State.free`: the spec gives
DBG no registers (R32; log entry 4). -/
opaque dbgRead : Nat → Nat → Word

/-- The code of a security state, 0 DEVELOPMENT, 1 SECURED, 2 CLOSED, in the GET_INFO reply: the spec gives none (R149; log entry
58). -/
opaque securityCode : Nat → Byte

/-- Bases of the two image slots (0, 1) and the slot size (2) where no directory copy passes: the spec gives none (R117; log entry
70). -/
opaque imageLayout : Nat → Nat

/-- Which of two paths of equal metric the receiver's Viterbi decoder keeps, by step and state: the spec names none (R172; log entry
174). -/
opaque viterbiTie : Nat → Nat → Bool

/-- The state of a line port's generator as training begins: the spec gives none (R279; log entry 138). -/
opaque lineTraining : Nat

end Sys2Proof.Config
end

