-- ==== Sys2Proof/Machine/Tab.lean ====
section
/-! DEFINITION. Sparse maps with rising keys: lookup, update, removal. A map that has a default value for its unlisted keys is
kept canonical by putD: writing the default removes the entry. -/

namespace Sys2Proof.Machine

/-- The value listed at a key. -/
def Tab.find {α : Type} : Tab α → Nat → Option α
  | [], _ => none
  | (j, v) :: t, k => if j = k then some v else Tab.find t k

/-- The value at a key, or the given default. -/
def Tab.getD {α : Type} (t : Tab α) (k : Nat) (d : α) : α :=
  match Tab.find t k with
  | some v => v
  | none => d

/-- Insert or replace, keeping the keys rising. -/
def Tab.put {α : Type} : Tab α → Nat → α → Tab α
  | [], k, v => [(k, v)]
  | (j, w) :: t, k, v => if k < j then (k, v) :: (j, w) :: t else if k = j then (k, v) :: t else (j, w) :: Tab.put t k v

/-- Remove a key. -/
def Tab.del {α : Type} : Tab α → Nat → Tab α
  | [], _ => []
  | (j, w) :: t, k => if j = k then Tab.del t k else (j, w) :: Tab.del t k

/-- Write a value into a map whose unlisted keys read as d: writing d removes the entry. -/
def Tab.putD {α : Type} [DecidableEq α] (t : Tab α) (k : Nat) (d v : α) : Tab α :=
  if v = d then Tab.del t k else Tab.put t k v

/-- Replace the value at a key by a function of it. -/
def Tab.modify {α : Type} (t : Tab α) (k : Nat) (d : α) (f : α → α) : Tab α := Tab.put t k (f (Tab.getD t k d))

/-- The keys. -/
def Tab.keys {α : Type} (t : Tab α) : List Nat := t.map Prod.fst

/-- The values, in the order of their keys. -/
def Tab.vals {α : Type} (t : Tab α) : List α := t.map Prod.snd

/-- Keep the entries that satisfy a test. -/
def Tab.keep {α : Type} (t : Tab α) (p : Nat → α → Bool) : Tab α := t.filter fun e => p e.1 e.2

/-- Strictly rising keys, all above a bound. -/
def Tab.sortedFrom {α : Type} (lo : Nat) : Tab α → Bool
  | [] => true
  | (k, _) :: t => decide (lo ≤ k) && Tab.sortedFrom (k + 1) t

/-- Strictly rising keys. -/
def Tab.sorted {α : Type} (t : Tab α) : Bool := Tab.sortedFrom 0 t

/-- The canonical form of a map with a default: keys strictly rising, no entry equal to what an unlisted key reads as. -/
def Tab.canon {α : Type} [DecidableEq α] (d : Nat → α) (t : Tab α) : Bool :=
  Tab.sorted t && t.all fun e => decide (e.2 ≠ d e.1)

/-- The smallest number below n that a test accepts. -/
def leastBelow (p : Nat → Bool) : Nat → Option Nat
  | 0 => none
  | n + 1 => match leastBelow p n with
    | some k => some k
    | none => if p n then some n else none

/-- How many numbers below n a test accepts. -/
def countBelow (p : Nat → Bool) : Nat → Nat
  | 0 => 0
  | n + 1 => countBelow p n + (if p n then 1 else 0)

/-- Fold a state change over a list, first element first. -/
def foldOver {α σ : Type} (f : α → σ → σ) : List α → σ → σ
  | [], s => s
  | a :: l, s => foldOver f l (f a s)

/-- Saturating increment. -/
def satAdd (lim a b : Nat) : Nat := if a + b > lim then lim else a + b

/-- A number of n bytes, low byte first. -/
def leBytes : Nat → Nat → Bytes
  | 0, _ => []
  | n + 1, v => BitVec.ofNat 8 (v % 256) :: leBytes n (v / 256)

/-- A number of n bytes, high byte first. -/
def beBytes (n v : Nat) : Bytes := (leBytes n v).reverse

/-- The number that bytes spell, low byte first. -/
def leNat : Bytes → Nat
  | [] => 0
  | b :: t => b.toNat + 256 * leNat t

/-- The number that bytes spell, high byte first. -/
def beNat (l : Bytes) : Nat := leNat l.reverse

/-- Bits hi down to lo of a number. -/
def bits (v hi lo : Nat) : Nat := v / 2 ^ lo % 2 ^ (hi + 1 - lo)

/-- One bit of a number. -/
def bit (v n : Nat) : Bool := v / 2 ^ n % 2 == 1

/-- 1 for true, 0 for false. -/
def b2n (b : Bool) : Nat := if b then 1 else 0

/-- The signed reading of a number of w bits. -/
def sgn (w v : Nat) : Int := (BitVec.ofNat w v).toInt

/-- A value held within bounds. -/
def clampInt (lo hi v : Int) : Int := max lo (min hi v)

/-- The w-bit two's complement code of an integer, as a number. -/
def unsgn (w : Nat) (i : Int) : Nat := (BitVec.ofInt w i).toNat

end Sys2Proof.Machine
end

