-- ==== Sys2Proof/Machine/Crypto.lean ====
section
/-! DEFINITION. The checks and ciphers the spec names: CRC-16 (R131), the smaller CRCs of headers and tables, AES-128 with
CCM, CMAC and key wrap (R142, R151, R221, R466), SHA-256 and ECDSA and ECDH on P-256 (R118, R142). Bytes are read most significant
bit first. -/

namespace Sys2Proof.Machine

/-- One step of a w-bit CRC register: shift in one bit, most significant first. -/
def crcBit (w poly : Nat) (reg : Nat) (b : Bool) : Nat :=
  let top := bit reg (w - 1)
  let sh := reg * 2 % 2 ^ w
  if top != b then sh ^^^ poly else sh

/-- The n low bits of v, most significant first. -/
def msbBits : Nat → Nat → List Bool
  | 0, _ => []
  | n + 1, v => bit v n :: msbBits n v

/-- The n low bits of v, least significant first. -/
def lsbBits (n v : Nat) : List Bool := (msbBits n v).reverse

/-- The number that bits spell, most significant first. -/
def bitsNat (l : List Bool) : Nat := l.foldl (fun a b => 2 * a + b2n b) 0

/-- Bytes as bits, most significant bit of each byte first. -/
def byteBits (l : Bytes) : List Bool := l.flatMap fun b => msbBits 8 b.toNat

/-- Bits as n bytes, most significant bit first. -/
def bitsBytes : Nat → List Bool → Bytes
  | 0, _ => []
  | n + 1, l => BitVec.ofNat 8 (bitsNat (l.take 8)) :: bitsBytes n (l.drop 8)

/-- A CRC of width w over bits. -/
def crcBits (w poly init : Nat) (l : List Bool) : Nat := l.foldl (crcBit w poly) init

/-- CRC-16 of R131: polynomial 0x1021, initial value 0xFFFF, no reflection, no final XOR. -/
def crc16 (l : Bytes) : Nat := crcBits 16 0x1021 0xFFFF (byteBits l)

/-- CRC-32 with polynomial 0x04C11DB7, reflected, initial value and final XOR all ones. -/
def crc32 (l : Bytes) : Nat :=
  let r := crcBits 32 0x04C11DB7 0xFFFFFFFF (l.flatMap fun b => lsbBits 8 b.toNat)
  bitsNat (lsbBits 32 r) ^^^ 0xFFFFFFFF

/-- XOR of two byte strings, as long as the first. -/
def xorBytes : Bytes → Bytes → Bytes
  | [], _ => []
  | a :: l, [] => a :: l
  | a :: l, b :: m => (a ^^^ b) :: xorBytes l m

/-- The AES S-box, entry b in bits 8b+7 to 8b. -/
def aesSboxTable : Nat := 0x16BB54B00F2D99416842E6BF0D89A18CDF2855CEE9871E9B948ED9691198F8E19E1DC186B95735610EF6034866B53E708A8BBD4B1F74DDE8C6B4A61C2E2578BA08AE7A65EAF4566CA94ED58D6D37C8E779E4959162ACD3C25C2406490A3A32E0DB0B5EDE14B8EE4688902A22DC4F816073195D643D7EA7C41744975FEC130CCDD2F3FF1021DAB6BCF5389D928F40A351A89F3C507F02F94585334D43FBAAEFD0CF584C4A39BECB6A5BB1FC20ED00D153842FE329B3D63B52A05A6E1B1A2C830975B227EBE28012079A059618C323C7041531D871F1E5A534CCF73F362693FDB7C072A49CAFA2D4ADF04759FA7DC982CA76ABD7FE2B670130C56F6BF27B777C63

/-- The inverse AES S-box, entry b in bits 8b+7 to 8b. -/
def aesInvTable : Nat := 0x7D0C2155631469E126D677BA7E042B17619953833CBBEBC8B0F52AAE4D3BE0A0EF9CC9939F7AE52D0D4AB519A97F51605FEC8027591012B131C7078833A8DD1FF45ACD78FEC0DB9A2079D2C64B3E56FC1BBE18AA0E62B76F89C5291D711AF1476EDF751CE837F9E28535ADE72274AC9673E6B4F0CECFF297EADC674F4111913A6B8A130103BDAFC1020F3FCA8F1E2CD00645B3B80558E4F70AD3BC8C00ABD890849D8DA75746155EDAB9EDFD5048706C92B6655DCC5CA4D41698688664F6F87225D18B6D49A25B76B224D92866A12E084EC3FA420B954CEE3D23C2A632947B54CBE9DEC444438E3487FF2F9B8239E37CFBD7F3819EA340BF38A53630D56A0952

def aesSub (b : Byte) : Byte := BitVec.ofNat 8 (aesSboxTable >>> (8 * b.toNat))
def aesInvSub (b : Byte) : Byte := BitVec.ofNat 8 (aesInvTable >>> (8 * b.toNat))

/-- Multiplication by x in the field of AES. -/
def aesX2 (b : Byte) : Byte := if b.msb then (b <<< 1) ^^^ 0x1B#8 else b <<< 1
def aesX3 (b : Byte) : Byte := aesX2 b ^^^ b
def aesX9 (b : Byte) : Byte := aesX2 (aesX2 (aesX2 b)) ^^^ b
def aesXb (b : Byte) : Byte := aesX2 (aesX2 (aesX2 b)) ^^^ aesX2 b ^^^ b
def aesXd (b : Byte) : Byte := aesX2 (aesX2 (aesX2 b)) ^^^ aesX2 (aesX2 b) ^^^ b
def aesXe (b : Byte) : Byte := aesX2 (aesX2 (aesX2 b)) ^^^ aesX2 (aesX2 b) ^^^ aesX2 b

/-- Pick bytes of a block by position. -/
def pick (l : Bytes) (ix : List Nat) : Bytes := ix.map fun i => l.getD i 0

def aesShift (l : Bytes) : Bytes := pick l [0, 5, 10, 15, 4, 9, 14, 3, 8, 13, 2, 7, 12, 1, 6, 11]
def aesUnshift (l : Bytes) : Bytes := pick l [0, 13, 10, 7, 4, 1, 14, 11, 8, 5, 2, 15, 12, 9, 6, 3]

def aesMix : Bytes → Bytes
  | a :: b :: c :: d :: l =>
    (aesX2 a ^^^ aesX3 b ^^^ c ^^^ d) :: (a ^^^ aesX2 b ^^^ aesX3 c ^^^ d) :: (a ^^^ b ^^^ aesX2 c ^^^ aesX3 d)
      :: (aesX3 a ^^^ b ^^^ c ^^^ aesX2 d) :: aesMix l
  | _ => []

def aesUnmix : Bytes → Bytes
  | a :: b :: c :: d :: l =>
    (aesXe a ^^^ aesXb b ^^^ aesXd c ^^^ aesX9 d) :: (aesX9 a ^^^ aesXe b ^^^ aesXb c ^^^ aesXd d)
      :: (aesXd a ^^^ aesX9 b ^^^ aesXe c ^^^ aesXb d) :: (aesXb a ^^^ aesXd b ^^^ aesX9 c ^^^ aesXe d) :: aesUnmix l
  | _ => []

/-- The next round key. -/
def aesNextKey (rcon : Byte) (k : Bytes) : Bytes :=
  let t := (pick k [13, 14, 15, 12]).map aesSub
  let w0 := xorBytes (xorBytes (k.take 4) t) [rcon]
  let w1 := xorBytes ((k.drop 4).take 4) w0
  let w2 := xorBytes ((k.drop 8).take 4) w1
  let w3 := xorBytes ((k.drop 12).take 4) w2
  w0 ++ w1 ++ w2 ++ w3

/-- n round keys that follow k. -/
def aesKeys : Nat → Byte → Bytes → List Bytes
  | 0, _, _ => []
  | n + 1, rc, k => aesNextKey rc k :: aesKeys n (aesX2 rc) (aesNextKey rc k)

/-- The rounds of encryption that follow the first key addition. -/
def aesRounds : List Bytes → Bytes → Bytes
  | [], b => b
  | [k], b => xorBytes (aesShift (b.map aesSub)) k
  | k :: ks, b => aesRounds ks (xorBytes (aesMix (aesShift (b.map aesSub))) k)

/-- The rounds of decryption that follow the last round key: keys from the tenth to the first, then key 0. -/
def aesUnrounds (k0 : Bytes) : List Bytes → Bytes → Bytes
  | [], b => xorBytes b k0
  | k :: ks, b => aesUnrounds k0 ks ((aesUnshift (aesUnmix (xorBytes b k))).map aesInvSub)

/-- AES-128 encryption of one block of 16 bytes. -/
def aesEnc (key block : Bytes) : Bytes := aesRounds (aesKeys 10 1 key) (xorBytes block key)

/-- AES-128 decryption of one block. -/
def aesDec (key block : Bytes) : Bytes :=
  match (aesKeys 10 1 key).reverse with
  | [] => block
  | k :: ks => aesUnrounds key ks ((aesUnshift (xorBytes block k)).map aesInvSub)

/-- Cut bytes into blocks of 16, at most n; a last short block is kept short. -/
def blocks16 : Nat → Bytes → List Bytes
  | 0, _ => []
  | n + 1, l => if l.isEmpty then [] else l.take 16 :: blocks16 n (l.drop 16)

/-- Pad a string with zero bytes to n bytes. -/
def padTo (n : Nat) (l : Bytes) : Bytes := l ++ List.replicate (n - l.length) 0

/-- CBC-MAC over blocks, each padded with zeros, from a starting value. -/
def cbcMac (key : Bytes) (iv : Bytes) (bs : List Bytes) : Bytes :=
  bs.foldl (fun x b => aesEnc key (xorBytes x (padTo 16 b))) iv

def zeros (n : Nat) : Bytes := List.replicate n 0

/-- Doubling in the field of CMAC. -/
def cmacDouble (l : Bytes) : Bytes :=
  let v := beNat l
  beBytes 16 ((v * 2 % 2 ^ 128) ^^^ (if bit v 127 then 0x87 else 0))

/-- AES-CMAC (NIST SP 800-38B). -/
def cmac (key msg : Bytes) : Bytes :=
  let k1 := cmacDouble (aesEnc key (zeros 16))
  let k2 := cmacDouble k1
  let bs := blocks16 (msg.length / 16 + 1) msg
  let last := bs.getLastD []
  let lastBlock := if last.length = 16 then xorBytes last k1 else xorBytes (padTo 16 (last ++ [0x80#8])) k2
  cbcMac key (zeros 16) (bs.dropLast ++ [lastBlock])

/-- The unwrap rounds of NIST SP 800-38F KW for two 64-bit blocks, from round t down to 1. -/
def kwRounds (kek : Bytes) : Nat → Bytes × Bytes × Bytes → Bytes × Bytes × Bytes
  | 0, x => x
  | t + 1, (a, r1, r2) =>
    let r := if (t + 1) % 2 = 0 then r2 else r1
    let b := aesDec kek (xorBytes a (beBytes 8 (t + 1)) ++ r)
    if (t + 1) % 2 = 0 then kwRounds kek t (b.take 8, r1, b.drop 8) else kwRounds kek t (b.take 8, b.drop 8, r2)

/-- Unwrap a 128-bit key from its 24-byte wrapping; none when the integrity check fails (R151). -/
def kwUnwrap (kek w : Bytes) : Option Bytes :=
  let (a, r1, r2) := kwRounds kek 12 (w.take 8, (w.drop 8).take 8, (w.drop 16).take 8)
  if a = List.replicate 8 0xA6#8 then some (r1 ++ r2) else none

/-- The constants of SHA-256: entry i in bits 32i+31 to 32i. -/
def shaK : Nat := 0xC67178F2BEF9A3F7A4506CEB90BEFFFA8CC7020884C8781478A5636F748F82EE682E6FF35B9CCA4F4ED8AA4A391C0CB334B0BCB52748774C1E376C0819A4C116106AA070F40E3585D6990624D192E819C76C51A3C24B8B70A81A664BA2BFE8A192722C8581C2C92E766A0ABB650A735453380D134D2C6DFC2E1B213827B70A851429296706CA6351D5A79147C6E00BF3BF597FC7B00327C8A831C66D983E515276F988DA5CB0A9DC4A7484AA2DE92C6F240CA1CC0FC19DC6EFBE4786E49B69C1C19BF1749BDC06A780DEB1FE72BE5D74550C7DC3243185BE12835B01D807AA98AB1C5ED5923F82A459F111F13956C25BE9B5DBA5B5C0FBCF71374491428A2F98
def shaInit : Nat := 0x5BE0CD191F83D9AB9B05688C510E527FA54FF53A3C6EF372BB67AE856A09E667

def word32 (table i : Nat) : Word := BitVec.ofNat 32 (table >>> (32 * i))
def ror (n : Nat) (w : Word) : Word := w.rotateRight n

/-- The next word of the message schedule; the list holds the words so far, newest first. -/
def shaNextW (l : List Word) : Word :=
  let w2 := l.getD 1 0
  let w15 := l.getD 14 0
  (ror 17 w2 ^^^ ror 19 w2 ^^^ (w2 >>> 10)) + l.getD 6 0 + (ror 7 w15 ^^^ ror 18 w15 ^^^ (w15 >>> 3)) + l.getD 15 0

def shaSchedule : Nat → List Word → List Word
  | 0, l => l
  | n + 1, l => shaSchedule n (shaNextW l :: l)

/-- One round; the eight words stand in the list a to h. -/
def shaRound (st : List Word) (kw : Word × Word) : List Word :=
  match st with
  | [a, b, c, d, e, f, g, h] =>
    let t1 := h + (ror 6 e ^^^ ror 11 e ^^^ ror 25 e) + ((e &&& f) ^^^ (~~~e &&& g)) + kw.1 + kw.2
    let t2 := (ror 2 a ^^^ ror 13 a ^^^ ror 22 a) + ((a &&& b) ^^^ (a &&& c) ^^^ (b &&& c))
    [t1 + t2, a, b, c, d + t1, e, f, g]
  | _ => st

/-- The first n words of big-endian bytes. -/
def beWords : Nat → Bytes → List Word
  | 0, _ => []
  | n + 1, l => BitVec.ofNat 32 (beNat (l.take 4)) :: beWords n (l.drop 4)

def shaBlock (st : List Word) (b : Bytes) : List Word :=
  let ws := (shaSchedule 48 (beWords 16 b).reverse).reverse
  let ks := (List.range 64).map (word32 shaK)
  List.zipWith (· + ·) st ((ks.zip ws).foldl shaRound st)

def blocks64 : Nat → Bytes → List Bytes
  | 0, _ => []
  | n + 1, l => l.take 64 :: blocks64 n (l.drop 64)

/-- SHA-256. -/
def sha256 (msg : Bytes) : Bytes :=
  let z := (119 - msg.length % 64) % 64
  let m := msg ++ [0x80#8] ++ zeros z ++ beBytes 8 (8 * msg.length)
  ((blocks64 (m.length / 64) m).foldl shaBlock ((List.range 8).map (word32 shaInit))).flatMap fun w => beBytes 4 w.toNat

/-! P-256. A point is in Jacobian coordinates (x, y, z); z = 0 is the neutral element. -/

def p256p : Nat := 0xffffffff00000001000000000000000000000000ffffffffffffffffffffffff
def p256n : Nat := 0xffffffff00000000ffffffffffffffffbce6faada7179e84f3b9cac2fc632551
def p256b : Nat := 0x5ac635d8aa3a93e7b3ebbd55769886bc651d06b0cc53b0f63bce3c3e27d2604b
def p256gx : Nat := 0x6b17d1f2e12c4247f8bce6e563a440f277037d812deb33a0f4a13945d898c296
def p256gy : Nat := 0x4fe342e2fe1a7f9b8ee7eb4a7c0f9e162bce33576b315ececbb6406837bf51f5

/-- a to the power of a number of n bits, modulo m. -/
def powMod (m a : Nat) : Nat → Nat → Nat
  | 0, _ => 1
  | n + 1, e =>
    let h := powMod m a n (e / 2)
    if e % 2 = 1 then h * h % m * a % m else h * h % m

/-- The inverse modulo a prime. -/
def invMod (m a : Nat) : Nat := powMod m (a % m) 256 (m - 2)

/-- A point of P-256 in Jacobian coordinates. -/
abbrev Point := Nat × Nat × Nat

def subMod (m a b : Nat) : Nat := (a % m + m - b % m) % m

def ptDouble (q : Point) : Point :=
  let (x, y, z) := q
  if z = 0 then q else
    let p := p256p
    let d := z * z % p
    let g := y * y % p
    let b := x * g % p
    let a := 3 * (subMod p x d) * (x + d) % p
    let x3 := subMod p (a * a) (8 * b)
    let z3 := subMod p (subMod p ((y + z) * (y + z)) g) d
    (x3, subMod p (a * subMod p (4 * b) x3) (8 * g * g), z3)

def ptAdd (q r : Point) : Point :=
  let p := p256p
  let (x1, y1, z1) := q
  let (x2, y2, z2) := r
  if z1 = 0 then r else if z2 = 0 then q else
    let zz1 := z1 * z1 % p
    let zz2 := z2 * z2 % p
    let u1 := x1 * zz2 % p
    let u2 := x2 * zz1 % p
    let s1 := y1 * z2 * zz2 % p
    let s2 := y2 * z1 * zz1 % p
    if u1 = u2 then (if s1 = s2 then ptDouble q else (1, 1, 0)) else
      let h := subMod p u2 u1
      let hh := h * h % p
      let hhh := h * hh % p
      let rr := subMod p s2 s1
      let v := u1 * hh % p
      let x3 := subMod p (subMod p (rr * rr) hhh) (2 * v)
      (x3, subMod p (rr * subMod p v x3) (s1 * hhh), h * z1 * z2 % p)

/-- k times a point, k of n bits. -/
def ptMul (q : Point) : Nat → Nat → Point
  | 0, _ => (1, 1, 0)
  | n + 1, k =>
    let h := ptDouble (ptMul q n (k / 2))
    if k % 2 = 1 then ptAdd h q else h

/-- Affine coordinates; none for the neutral element. -/
def ptAffine (q : Point) : Option (Nat × Nat) :=
  let (x, y, z) := q
  if z = 0 then none else
    let i := invMod p256p z
    some (x * i * i % p256p, y * i * i * i % p256p)

/-- A public key of 64 bytes as a point on the curve (R142). -/
def keyPoint (k : Bytes) : Option Point :=
  let x := beNat (k.take 32)
  let y := beNat ((k.drop 32).take 32)
  if x < p256p && y < p256p && (y * y % p256p == (x * x * x + (p256p - 3) * x + p256b) % p256p) then some (x, y, 1) else none

/-- The public key of a private number. -/
def pubKey (d : Nat) : Bytes :=
  match ptAffine (ptMul (p256gx, p256gy, 1) 256 d) with
  | some (x, y) => beBytes 32 x ++ beBytes 32 y
  | none => zeros 64

/-- ECDSA P-256 verification with SHA-256 over msg; signature r then s (R142). -/
def ecdsaVerify (key msg sig : Bytes) : Bool :=
  match keyPoint key with
  | none => false
  | some q =>
    let r := beNat (sig.take 32)
    let s := beNat ((sig.drop 32).take 32)
    let e := beNat (sha256 msg)
    if r = 0 || s = 0 || r ≥ p256n || s ≥ p256n then false else
      let w := invMod p256n s
      let pt := ptAdd (ptMul (p256gx, p256gy, 1) 256 (e * w % p256n)) (ptMul q 256 (r * w % p256n))
      match ptAffine pt with
      | none => false
      | some (x, _) => x % p256n == r

/-- The shared x-coordinate of an ephemeral Diffie-Hellman exchange, 32 bytes big-endian; none for a key off the curve. -/
def ecdhX (d : Nat) (key : Bytes) : Option Bytes :=
  match keyPoint key with
  | none => none
  | some q => (ptAffine (ptMul q 256 d)).map fun a => beBytes 32 a.1

end Sys2Proof.Machine
end

