-- ==== Sys2Proof/Machine/RegMap.lean ====
section
/-! DEFINITION. The register map of the HC6400: one name per register of the spec, with its address, its instances,
its reset value and the access type and take-effect class of each of its bits (R5, R8, R9, R31, R32 and the register tables of
every chapter). -/

namespace Sys2Proof.Machine

/-- The registers, by the names of the register tables. A register of several instances (lanes, ports, timers ...) has one name
here; the instance is a number beside it. Control registers of the cores begin CORE_, those of a cluster CL_. -/
inductive RegName where
  | SYSCTL_CHIP_ID | SYSCTL_RSTCAUSE | SYSCTL_RSTCTL | SYSCTL_BOOTSTAT | SYSCTL_PSTATE | SYSCTL_SLEEPCFG 
  | SYSCTL_CLKCFG | SYSCTL_CLKSTAT | SYSCTL_VINCFG | SYSCTL_LMCFG | SYSCTL_LMSTAT | SYSCTL_CORE_EN 
  | SYSCTL_CLSTART | PMB_CFG | PMB_VREQ | PMB_STAT | HPORT_CFG | HPORT_STAT | EVF_STAT | EVF_FIRE | EVF_GRP_SET 
  | EVF_GRP_CLR | EVF_GRP_STATE | EVF_GRP_OWN | EVF_CH_CFG | EVF_PUB | EVF_SUB | EVF_CSTAT | EVF_CORE_PEND 
  | EVF_GPIO | TMR_STAT | TMR_CTRL | TMR_BUF | TMR_COUNT | TMR_TSTAT | NTC_CTRL | NTC_SEC | NTC_TICK | NTC_SECSH 
  | NTC_CAPCMD | NTC_CAP_SEC | NTC_CAP_TICK | NTC_EVCAP_SEC | NTC_EVCAP_TICK | NTC_SETSEC | NTC_SETTICK 
  | NTC_STEPVAL | NTC_RATE | NTC_DISC | NTC_DISC2 | NTC_RADIO_NODE | NTC_STAT | NTC_LEAD | NTC_CMP_SEC 
  | NTC_CMP_TICK | NTC_CMP_PER | NTC_CMP_CTRL | RTC_CTRL | RTC_TIME | RTC_DATE | RTC_SUB | RTC_CAPTIME 
  | RTC_CAPDATE | RTC_CAPSUB | RTC_ADJ | RTC_ALM_TIME | RTC_ALM_DATE | RTC_ALM_CTRL | RTC_STAT | RTC_TRICKLE 
  | RTC_NTOFS_SEC | RTC_NTOFS_TICK | RTC_BKP | MSU_OPEN | MSU_STAT | MSU_CFG | MSU_ACT | MSU_ADD_RES | MSU_CMD 
  | MSU_TPL_CFG | MSU_JHEAD | MSU_JTAIL | MSU_JFREE | MSU_JSEQ | MSU_JRETIRE | MSU_CSN | MSU_REPLAY | MSU_RPSTAT 
  | MSU_RPFAIL | MSU_MS_STAT | MSU_TVAR | FLC_CMD | FLC_STAT | FLC_RESULT | FLC_SRC | FLC_DATA | FLC_CFG 
  | FLC_RDSTAT | FLC_WARNADDR | FLC_SUSPADDR | FLC_WEARIDX | FLC_WEAR | FLC_PART | FLC_TABSTAT | OTP_CTRL 
  | OTP_STAT | OTP_PDATA | OTP_FUSE | OTP_HSTAT | OTP_ROW | DMC_CTRL | DMC_STAT | DMC_DEV | DMC_PAGE | DMC_TRAIN 
  | DMC_DRIFT | DMC_SCRUB | DMC_SCRUBPOS | DMC_FILLPOS | DMC_ERRCNT | DMC_ERRADDR | ERR_CFG | ERR_STAT | ERR_CUR 
  | ERR_ACK | ERR_CLSCNT | ERR_DROPPED | ERR_NEWEST | ERR_REPORT | ERR_WDT_CFG | ERR_WDT_KICK | ERR_WDT_STAT 
  | ERR_TEL | ERR_LOG | CTL_CFG | CTL_STAT | CTL_HOLD | CTL_LOCK | CTL_OPENRD | CTL_TIDENT | CTL_TSTATUS 
  | CTL_TSTATUS2 | CTL_TKEY | CTL_RKEY | CTL_PADCFG | CTL_PADSTAT | CTL_RDRES | CTL_RDUID | CTL_TMEM 
  | SCHED_CTRL | SCHED_STAT | SCHED_PUSH0 | SCHED_PUSH1 | SCHED_PUSH_RES | SCHED_RRESULT | SCHED_GATE_CTRL 
  | SCHED_GATE_STAT | SCHED_GL_BASESEC | SCHED_GL_BASETICK | SCHED_GL_CYCLE | SCHED_GL_LEN | SCHED_GCL 
  | SCHED_Q_CFG | SCHED_Q_RATE | SCHED_Q_BURST | SCHED_Q_STAT | SCHED_Q_TOKENS | SCHED_Q_VTAG | RF_CTRL | RF_LO 
  | RF_STAT | RF_CALOFS | RF_SYNCFG | RF_SYNSTAT | RF_SYNTAB_IDX | RF_SYNTAB_FREQ | RF_SYNTAB_INFO | LANE_CTRL 
  | LANE_PROFILE | LANE_OFFSET | LANE_STAT | LANE_LAST | LANE_FOFS | LANE_CAL | LANE_CNT_SYNC | LANE_CNT_HDRERR 
  | LANE_CNT_CTXMISS | LANE_CNT_CUT | LANE_CNT_FRAMES | LANE_BANK_CTRL | LANE_BANK_STAT | LANE_BANK_CALCFG 
  | LANE_BANK_CTXMISS | LANE_PT_MOD | LANE_PT_SYNC | LANE_PT_WORD | LANE_PT_LEN | LANE_PT_RX | LANE_PT_DEV 
  | TXP_CFG | TXP_HOSTCFG | TXP_STAT | TXP_SUBMIT | TXP_RESULT | TXP_RESULT_NT | TXP_FEMCFG | TXP_FEMSEQ_STEP 
  | TXP_LEDGER | TXP_RGN | FRM_CFG | FRM_STAT | FRM_NODE | FRM_VAULT_SEL | FRM_VAULT_KEY | FRM_DUP_CFG 
  | FRM_DUP_STAT | FRM_DL_CFG | FRM_DL_WAKEFREQ | FRM_DL_DETOURFREQ | FRM_CNT | FRM_EPOCH | WUR_CFG | WUR_STAT 
  | WUR_LAST | LP_CFG | LP_CTRL | LP_STAT | LP_QUAL | LP_PEER | LP_PEERINFO | LP_CNT | LP_TS_SEC | LP_TS_SUB 
  | LP_TSSEQ | LP_TSCFG | LP_WAKECFG | CL_CXDEC | CL_UCCFG | CL_UCDATA | CORE_CAUSE | CORE_FADDR | CORE_FXMODE 
  | CORE_FXSTAT | CORE_HBASE | CORE_IEN | CORE_RETA | CORE_SSTAT | CORE_STATUS | CORE_UCADDR | CORE_UCSTAT 
  deriving DecidableEq, Repr

/-- How the instance of a register reached over the bus is found: from the address alone, or, for a register of which every
cluster or core has its own copy at one address, from the initiator too. -/
inductive CopyKind where
  | one | perCluster | perCore
  deriving DecidableEq, Repr

/-- One row of the register map. Masks have a 1 for each bit of the kind. -/
structure RegRow where
  name : RegName
  /-- Byte address of instance 0; none for a control register of a core. -/
  base : Option Nat
  /-- (count, stride) of each index, outermost first. -/
  dims : List (Nat × Nat)
  copies : CopyKind
  reset : Word
  /-- bits that read back as stored: all but WO and RSV. -/
  readable : Word
  rw : Word
  w1c : Word
  /-- AT-BOUNDARY bits. -/
  boundary : Word
  /-- LOCKED-WHILE-RUNNING bits. -/
  locked : Word
  /-- the register of the block whose bit 31 is WLOCK. -/
  wlock : Option RegName
  deriving DecidableEq, Repr

/-- A row from its masks as numbers. -/
def regRowOf (name : RegName) (base : Option Nat) (dims : List (Nat × Nat)) (copies : CopyKind) (reset readable rw w1c boundary locked : Nat)
    (wlock : Option RegName) : RegRow :=
  ⟨name, base, dims, copies, .ofNat 32 reset, .ofNat 32 readable, .ofNat 32 rw, .ofNat 32 w1c, .ofNat 32 boundary, .ofNat 32 locked, wlock⟩


/-- Rows 0 to 24 of the register map, in the order of RegName. -/
def regTable0 : List RegRow := [
  regRowOf .SYSCTL_CHIP_ID (some 0x40000000) [] .one 0x640000B1 0xFFFFFFFF 0x0 0x0 0x0 0x0 (some .SYSCTL_CLKSTAT),
  regRowOf .SYSCTL_RSTCAUSE (some 0x40000004) [] .one 0x1 0x1FF 0x0 0x1FF 0x0 0x0 (some .SYSCTL_CLKSTAT),
  regRowOf .SYSCTL_RSTCTL (some 0x40000008) [] .one 0x0 0x0 0x0 0x0 0x0 0x0 (some .SYSCTL_CLKSTAT),
  regRowOf .SYSCTL_BOOTSTAT (some 0x4000000C) [] .one 0x0 0xFFF1FFF 0x0 0x0 0x0 0x0 (some .SYSCTL_CLKSTAT),
  regRowOf .SYSCTL_PSTATE (some 0x40000010) [] .one 0x700 0xFF1F77 0x0 0x0 0x0 0x0 (some .SYSCTL_CLKSTAT),
  regRowOf .SYSCTL_SLEEPCFG (some 0x40000014) [] .one 0x32000A 0xFF03FF 0xFF03FF 0x0 0xFF03FF 0x0 (some .SYSCTL_CLKSTAT),
  regRowOf .SYSCTL_CLKCFG (some 0x40000020) [] .one 0x0 0x189 0x189 0x0 0x0 0x0 (some .SYSCTL_CLKSTAT),
  regRowOf .SYSCTL_CLKSTAT (some 0x40000024) [] .one 0x1 0x8000FF7F 0x0 0x80000000 0x0 0x0 (some .SYSCTL_CLKSTAT),
  regRowOf .SYSCTL_VINCFG (some 0x40000030) [] .one 0x1DCD2 0x1FFFF 0x1FFFF 0x0 0x0 0x0 (some .SYSCTL_CLKSTAT),
  regRowOf .SYSCTL_LMCFG (some 0x40000038) [] .one 0x0 0x11F 0x11F 0x0 0x0 0x1F (some .SYSCTL_CLKSTAT),
  regRowOf .SYSCTL_LMSTAT (some 0x4000003C) [] .one 0x0 0xFFFFDF 0x0 0x40 0x0 0x0 (some .SYSCTL_CLKSTAT),
  regRowOf .SYSCTL_CORE_EN (some 0x40000040) [] .one 0x3 0xFFFFFF 0xFFFFFC 0x0 0x0 0x0 (some .SYSCTL_CLKSTAT),
  regRowOf .SYSCTL_CLSTART (some 0x40000044) [(3, 0x4)] .one 0x8000000 0xFFFFFFFC 0xFFFFFFFC 0x0 0xFFFFFFFC 0x0 (some .SYSCTL_CLKSTAT),
  regRowOf .PMB_CFG (some 0x40010000) [] .one 0x323000 0xFFF17F 0xFFF17F 0x0 0x0 0xFFF17F (some .PMB_STAT),
  regRowOf .PMB_VREQ (some 0x40010004) [] .one 0xA0 0xFF 0xFF 0x0 0x0 0x0 (some .PMB_STAT),
  regRowOf .PMB_STAT (some 0x40010008) [] .one 0x0 0x8001C1FF 0x0 0x8001C000 0x0 0x0 (some .PMB_STAT),
  regRowOf .HPORT_CFG (some 0x40020000) [] .one 0xFF01 0xFF01 0xFF01 0x0 0xFF01 0x0 (some .HPORT_STAT),
  regRowOf .HPORT_STAT (some 0x40020004) [] .one 0x0 0x80FFFFFF 0x0 0x80000000 0x0 0x0 (some .HPORT_STAT),
  regRowOf .EVF_STAT (some 0x40030004) [] .one 0x0 0xF00000FF 0x0 0xC0000000 0x0 0x0 (some .EVF_STAT),
  regRowOf .EVF_FIRE (some 0x40030008) [] .one 0x0 0x0 0x0 0x0 0x0 0x0 (some .EVF_STAT),
  regRowOf .EVF_GRP_SET (some 0x40030010) [] .one 0x0 0x0 0x0 0x0 0x0 0x0 (some .EVF_STAT),
  regRowOf .EVF_GRP_CLR (some 0x40030014) [] .one 0x0 0x0 0x0 0x0 0x0 0x0 (some .EVF_STAT),
  regRowOf .EVF_GRP_STATE (some 0x40030018) [] .one 0xFFFF 0xFFFF 0x0 0x0 0x0 0x0 (some .EVF_STAT),
  regRowOf .EVF_GRP_OWN (some 0x4003001C) [] .one 0x0 0xFFFFFFFF 0xFFFFFFFF 0x0 0x0 0xFFFFFFFF (some .EVF_STAT),
  regRowOf .EVF_CH_CFG (some 0x40030100) [(256, 0x4)] .one 0x20000000 0xE000010F 0xE000010F 0x0 0x0 0x0 (some .EVF_STAT)]

/-- Rows 25 to 49 of the register map, in the order of RegName. -/
def regTable1 : List RegRow := [
  regRowOf .EVF_PUB (some 0x40030800) [(384, 0x4)] .one 0x0 0x838000FF 0x800000FF 0x0 0x0 0x0 (some .EVF_STAT),
  regRowOf .EVF_SUB (some 0x40031000) [(320, 0x4)] .one 0x0 0xCE00FFFF 0xC000FFFF 0x0 0x0 0x0 (some .EVF_STAT),
  regRowOf .EVF_CSTAT (some 0x40031800) [(320, 0x4)] .one 0x0 0xC000FFFF 0x0 0x80000000 0x0 0x0 (some .EVF_STAT),
  regRowOf .EVF_CORE_PEND (some 0x40031E00) [(24, 0x4)] .one 0x0 0xF 0x0 0xF 0x0 0x0 (some .EVF_STAT),
  regRowOf .EVF_GPIO (some 0x40031F00) [(24, 0x4)] .one 0x0 0xC0000307 0xC0000303 0x0 0x0 0x0 (some .EVF_STAT),
  regRowOf .TMR_STAT (some 0x40040000) [] .one 0x1 0x80000001 0x0 0x80000000 0x0 0x0 (some .TMR_STAT),
  regRowOf .TMR_CTRL (some 0x40040100) [(32, 0x20)] .one 0x0 0xC00F1F71 0xC00F1F71 0x0 0xF1F70 0xC0000000 (some .TMR_STAT),
  regRowOf .TMR_BUF (some 0x40040104) [(32, 0x20)] .one 0x0 0xFFFFFFFF 0xFFFFFFFF 0x0 0xFFFFFFFF 0x0 (some .TMR_STAT),
  regRowOf .TMR_COUNT (some 0x40040108) [(32, 0x20)] .one 0x0 0xFFFFFFFF 0xFFFFFFFF 0x0 0x0 0x0 (some .TMR_STAT),
  regRowOf .TMR_TSTAT (some 0x4004010C) [(32, 0x20)] .one 0x0 0xC003FFFF 0x0 0xC0000000 0x0 0x0 (some .TMR_STAT),
  regRowOf .NTC_CTRL (some 0x40050000) [] .one 0x0 0x0 0x0 0x0 0x0 0x0 (some .NTC_STAT),
  regRowOf .NTC_SEC (some 0x40050004) [] .one 0x0 0xFFFFFFFF 0x0 0x0 0x0 0x0 (some .NTC_STAT),
  regRowOf .NTC_TICK (some 0x40050008) [] .one 0x0 0x7FFFFFF 0x0 0x0 0x0 0x0 (some .NTC_STAT),
  regRowOf .NTC_SECSH (some 0x4005000C) [] .perCore 0x0 0xFFFFFFFF 0x0 0x0 0x0 0x0 (some .NTC_STAT),
  regRowOf .NTC_CAPCMD (some 0x40050010) [] .one 0x0 0x0 0x0 0x0 0x0 0x0 (some .NTC_STAT),
  regRowOf .NTC_CAP_SEC (some 0x40050014) [] .perCluster 0x0 0xFFFFFFFF 0x0 0x0 0x0 0x0 (some .NTC_STAT),
  regRowOf .NTC_CAP_TICK (some 0x40050018) [] .perCluster 0x0 0x7FFFFFF 0x0 0x0 0x0 0x0 (some .NTC_STAT),
  regRowOf .NTC_EVCAP_SEC (some 0x4005001C) [] .one 0x0 0xFFFFFFFF 0x0 0x0 0x0 0x0 (some .NTC_STAT),
  regRowOf .NTC_EVCAP_TICK (some 0x40050020) [] .one 0x0 0x7FFFFFF 0x0 0x0 0x0 0x0 (some .NTC_STAT),
  regRowOf .NTC_SETSEC (some 0x40050024) [] .one 0x0 0xFFFFFFFF 0xFFFFFFFF 0x0 0x0 0x0 (some .NTC_STAT),
  regRowOf .NTC_SETTICK (some 0x40050028) [] .one 0x0 0x7FFFFFF 0x7FFFFFF 0x0 0x0 0x0 (some .NTC_STAT),
  regRowOf .NTC_STEPVAL (some 0x4005002C) [] .one 0x0 0xFFFFFFFF 0xFFFFFFFF 0x0 0x0 0x0 (some .NTC_STAT),
  regRowOf .NTC_RATE (some 0x40050030) [] .one 0x0 0xFFFFFFFF 0xFFFFFFFF 0x0 0x0 0xFFFFFFFF (some .NTC_STAT),
  regRowOf .NTC_DISC (some 0x40050034) [] .one 0xA050411 0xFF0FFF13 0xFF0FFF13 0x0 0xFF0FFF00 0x0 (some .NTC_STAT),
  regRowOf .NTC_DISC2 (some 0x40050038) [] .one 0xA3C 0xFFFF 0xFFFF 0x0 0xFFFF 0x0 (some .NTC_STAT)]

/-- Rows 50 to 74 of the register map, in the order of RegName. -/
def regTable2 : List RegRow := [
  regRowOf .NTC_RADIO_NODE (some 0x4005003C) [] .one 0x0 0xFFFFFFFF 0xFFFFFFFF 0x0 0xFFFFFFFF 0x0 (some .NTC_STAT),
  regRowOf .NTC_STAT (some 0x40050040) [] .one 0x4 0xF0000735 0x0 0xE0000000 0x0 0x0 (some .NTC_STAT),
  regRowOf .NTC_LEAD (some 0x40050044) [] .one 0x0 0xFFFFFFFF 0x0 0x0 0x0 0x0 (some .NTC_STAT),
  regRowOf .NTC_CMP_SEC (some 0x40050100) [(16, 0x10)] .one 0x0 0xFFFFFFFF 0xFFFFFFFF 0x0 0x0 0x0 (some .NTC_STAT),
  regRowOf .NTC_CMP_TICK (some 0x40050104) [(16, 0x10)] .one 0x0 0x7FFFFFF 0x7FFFFFF 0x0 0x0 0x0 (some .NTC_STAT),
  regRowOf .NTC_CMP_PER (some 0x40050108) [(16, 0x10)] .one 0x0 0xFFFFFFFF 0xFFFFFFFF 0x0 0x0 0x0 (some .NTC_STAT),
  regRowOf .NTC_CMP_CTRL (some 0x4005010C) [(16, 0x10)] .one 0x0 0xD000FF03 0xD0000000 0x2 0x0 0x0 (some .NTC_STAT),
  regRowOf .RTC_CTRL (some 0x40060000) [] .one 0x0 0x1 0x1 0x0 0x0 0x0 (some .RTC_STAT),
  regRowOf .RTC_TIME (some 0x40060004) [] .one 0x0 0xFFFFFF 0xFFFFFF 0x0 0x0 0xFFFFFF (some .RTC_STAT),
  regRowOf .RTC_DATE (some 0x40060008) [] .one 0x6000101 0x7FFFFFF 0xFFFFFF 0x0 0x0 0xFFFFFF (some .RTC_STAT),
  regRowOf .RTC_SUB (some 0x4006000C) [] .one 0x0 0xFF 0x0 0x0 0x0 0x0 (some .RTC_STAT),
  regRowOf .RTC_CAPTIME (some 0x40060010) [] .one 0x0 0xFFFFFF 0x0 0x0 0x0 0x0 (some .RTC_STAT),
  regRowOf .RTC_CAPDATE (some 0x40060014) [] .one 0x6000101 0x7FFFFFF 0x0 0x0 0x0 0x0 (some .RTC_STAT),
  regRowOf .RTC_CAPSUB (some 0x40060018) [] .one 0x0 0xFF 0x0 0x0 0x0 0x0 (some .RTC_STAT),
  regRowOf .RTC_ADJ (some 0x4006001C) [] .one 0x0 0x0 0x0 0x0 0x0 0x0 (some .RTC_STAT),
  regRowOf .RTC_ALM_TIME (some 0x40060020) [(2, 0x10)] .one 0x0 0xFFFFFF 0xFFFFFF 0x0 0xFFFFFF 0x0 (some .RTC_STAT),
  regRowOf .RTC_ALM_DATE (some 0x40060024) [(2, 0x10)] .one 0x101 0xFFFFFF 0xFFFFFF 0x0 0xFFFFFF 0x0 (some .RTC_STAT),
  regRowOf .RTC_ALM_CTRL (some 0x40060028) [(2, 0x10)] .one 0x0 0xC000003F 0xC000003F 0x0 0xC000003F 0x0 (some .RTC_STAT),
  regRowOf .RTC_STAT (some 0x40060040) [] .one 0x40000000 0xF8000F0F 0x0 0xF8000003 0x0 0x0 (some .RTC_STAT),
  regRowOf .RTC_TRICKLE (some 0x40060044) [] .one 0x0 0x13 0x13 0x0 0x0 0x0 (some .RTC_STAT),
  regRowOf .RTC_NTOFS_SEC (some 0x40060048) [] .one 0x0 0xFFFFFFFF 0xFFFFFFFF 0x0 0x0 0x0 (some .RTC_STAT),
  regRowOf .RTC_NTOFS_TICK (some 0x4006004C) [] .one 0x0 0x7FFFFFF 0x7FFFFFF 0x0 0x0 0x0 (some .RTC_STAT),
  regRowOf .RTC_BKP (some 0x40060080) [(16, 0x4)] .one 0x0 0xFFFFFFFF 0xFFFFFFFF 0x0 0x0 0x0 (some .RTC_STAT),
  regRowOf .MSU_OPEN (some 0x40070000) [] .one 0x0 0x8000003F 0x0 0x0 0x0 0x0 (some .MSU_STAT),
  regRowOf .MSU_STAT (some 0x40070004) [] .one 0x0 0xF07F7F00 0x0 0xF0000000 0x0 0x0 (some .MSU_STAT)]

/-- Rows 75 to 99 of the register map, in the order of RegName. -/
def regTable3 : List RegRow := [
  regRowOf .MSU_CFG (some 0x40070008) [] .one 0x64 0xFF 0xFF 0x0 0xFF 0x0 (some .MSU_STAT),
  regRowOf .MSU_ACT (some 0x40070010) [(4, 0x4)] .perCluster 0x0 0x0 0x0 0x0 0x0 0x0 (some .MSU_STAT),
  regRowOf .MSU_ADD_RES (some 0x40070020) [] .perCluster 0x0 0x8F00001F 0x0 0x0 0x0 0x0 (some .MSU_STAT),
  regRowOf .MSU_CMD (some 0x40070024) [] .one 0x0 0x0 0x0 0x0 0x0 0x0 (some .MSU_STAT),
  regRowOf .MSU_TPL_CFG (some 0x40070040) [] .one 0x1001 0xFF01 0xFF01 0x0 0x0 0xFF01 (some .MSU_STAT),
  regRowOf .MSU_JHEAD (some 0x40070050) [] .one 0x0 0x3FFFF 0x0 0x0 0x0 0x0 (some .MSU_STAT),
  regRowOf .MSU_JTAIL (some 0x40070054) [] .one 0x0 0x3FFFF 0x0 0x0 0x0 0x0 (some .MSU_STAT),
  regRowOf .MSU_JFREE (some 0x40070058) [] .one 0x38000 0x3FFFF 0x0 0x0 0x0 0x0 (some .MSU_STAT),
  regRowOf .MSU_JSEQ (some 0x4007005C) [] .one 0x0 0xFFFFFFFF 0x0 0x0 0x0 0x0 (some .MSU_STAT),
  regRowOf .MSU_JRETIRE (some 0x40070060) [] .one 0x0 0x0 0x0 0x0 0x0 0x0 (some .MSU_STAT),
  regRowOf .MSU_CSN (some 0x40070064) [] .one 0x0 0xFFFFFFFF 0x0 0x0 0x0 0x0 (some .MSU_STAT),
  regRowOf .MSU_REPLAY (some 0x40070068) [] .one 0x0 0x0 0x0 0x0 0x0 0x0 (some .MSU_STAT),
  regRowOf .MSU_RPSTAT (some 0x4007006C) [] .one 0x0 0xFFFFFFFF 0x0 0x0 0x0 0x0 (some .MSU_STAT),
  regRowOf .MSU_RPFAIL (some 0x40070070) [] .one 0x0 0xFFFF 0x0 0x0 0x0 0x0 (some .MSU_STAT),
  regRowOf .MSU_MS_STAT (some 0x40070100) [(64, 0x4)] .one 0x0 0xC7FF0007 0x0 0x0 0x0 0x0 (some .MSU_STAT),
  regRowOf .MSU_TVAR (some 0x40071000) [(256, 0x4)] .one 0x0 0xFFFFFFFF 0x0 0x0 0x0 0x0 (some .MSU_STAT),
  regRowOf .FLC_CMD (some 0x40080000) [] .one 0x0 0x0 0x0 0x0 0x0 0x0 (some .FLC_STAT),
  regRowOf .FLC_STAT (some 0x40080004) [] .one 0x0 0xF8FF0F01 0x0 0xC0000000 0x0 0x0 (some .FLC_STAT),
  regRowOf .FLC_RESULT (some 0x40080008) [] .one 0x0 0x8FF00000 0x0 0x0 0x0 0x0 (some .FLC_STAT),
  regRowOf .FLC_SRC (some 0x4008000C) [] .one 0x0 0xFFFFFFFF 0xFFFFFFFF 0x0 0x0 0x0 (some .FLC_STAT),
  regRowOf .FLC_DATA (some 0x40080010) [(8, 0x4)] .one 0xFFFFFFFF 0xFFFFFFFF 0xFFFFFFFF 0x0 0x0 0x0 (some .FLC_STAT),
  regRowOf .FLC_CFG (some 0x40080030) [] .one 0x302 0x307 0x307 0x0 0x0 0x300 (some .FLC_STAT),
  regRowOf .FLC_RDSTAT (some 0x40080034) [] .one 0x0 0xE0FF0007 0x0 0xE0000000 0x0 0x0 (some .FLC_STAT),
  regRowOf .FLC_WARNADDR (some 0x40080038) [] .one 0x0 0x1FFFFFF 0x0 0x0 0x0 0x0 (some .FLC_STAT),
  regRowOf .FLC_SUSPADDR (some 0x4008003C) [] .one 0x0 0x1FFFFFF 0x0 0x0 0x0 0x0 (some .FLC_STAT)]

/-- Rows 100 to 124 of the register map, in the order of RegName. -/
def regTable4 : List RegRow := [
  regRowOf .FLC_WEARIDX (some 0x40080040) [] .one 0x0 0x80000FFF 0x80000FFF 0x0 0x0 0x0 (some .FLC_STAT),
  regRowOf .FLC_WEAR (some 0x40080044) [] .one 0x0 0xFFFFFFFF 0x0 0x0 0x0 0x0 (some .FLC_STAT),
  regRowOf .FLC_PART (some 0x40080050) [] .one 0x80100010 0x801F003F 0x0 0x0 0x0 0x0 (some .FLC_STAT),
  regRowOf .FLC_TABSTAT (some 0x40080054) [] .one 0x8 0xFFFFFFFF 0x0 0x0 0x0 0x0 (some .FLC_STAT),
  regRowOf .OTP_CTRL (some 0x40090000) [] .one 0x0 0x0 0x0 0x0 0x0 0x0 (some .OTP_STAT),
  regRowOf .OTP_STAT (some 0x40090004) [] .one 0x0 0xE0000001 0x0 0xE0000000 0x0 0x0 (some .OTP_STAT),
  regRowOf .OTP_PDATA (some 0x40090010) [(4, 0x4)] .one 0x0 0xFFFFFFFF 0xFFFFFFFF 0x0 0x0 0x0 (some .OTP_STAT),
  regRowOf .OTP_FUSE (some 0x40090020) [] .one 0x0 0xF03F3F0F 0x0 0x0 0x0 0x0 (some .OTP_STAT),
  regRowOf .OTP_HSTAT (some 0x40090100) [(128, 0x4)] .one 0x0 0xF 0x0 0x0 0x0 0x0 (some .OTP_STAT),
  regRowOf .OTP_ROW (some 0x40091000) [(128, 0x20), (8, 0x4)] .one 0x0 0xFFFFFFFF 0x0 0x0 0x0 0x0 (some .OTP_STAT),
  regRowOf .DMC_CTRL (some 0x400A0000) [] .one 0x0 0x0 0x0 0x0 0x0 0x0 (some .DMC_STAT),
  regRowOf .DMC_STAT (some 0x400A0004) [] .one 0x0 0xCF070001 0x0 0xC0000000 0x0 0x0 (some .DMC_STAT),
  regRowOf .DMC_DEV (some 0x400A0008) [] .one 0x0 0x3FFFF 0x0 0x0 0x0 0x0 (some .DMC_STAT),
  regRowOf .DMC_PAGE (some 0x400A000C) [] .one 0x10 0xFF 0xFF 0x0 0xFF 0x0 (some .DMC_STAT),
  regRowOf .DMC_TRAIN (some 0x400A0010) [] .one 0x640810 0xFF3F3F 0xFF3F3F 0x0 0xFF3F3F 0x0 (some .DMC_STAT),
  regRowOf .DMC_DRIFT (some 0x400A0014) [] .one 0x0 0xFFFFFFFF 0x0 0x0 0x0 0x0 (some .DMC_STAT),
  regRowOf .DMC_SCRUB (some 0x400A0018) [] .one 0x18 0xFF 0xFF 0x0 0xFF 0x0 (some .DMC_STAT),
  regRowOf .DMC_SCRUBPOS (some 0x400A001C) [] .one 0x0 0xFFFFFFFF 0x0 0x0 0x0 0x0 (some .DMC_STAT),
  regRowOf .DMC_FILLPOS (some 0x400A0020) [] .one 0x0 0xFFFFFFFF 0x0 0x0 0x0 0x0 (some .DMC_STAT),
  regRowOf .DMC_ERRCNT (some 0x400A0024) [] .one 0x0 0xFFFFFFFF 0x0 0x0 0x0 0x0 (some .DMC_STAT),
  regRowOf .DMC_ERRADDR (some 0x400A0028) [] .one 0x0 0xFFFFFFFF 0x0 0x0 0x0 0x0 (some .DMC_STAT),
  regRowOf .ERR_CFG (some 0x400B0000) [] .one 0x301 0xF01 0xF01 0x0 0x0 0x0 (some .ERR_STAT),
  regRowOf .ERR_STAT (some 0x400B0004) [] .one 0x0 0xFF0001FF 0x0 0xF0000000 0x0 0x0 (some .ERR_STAT),
  regRowOf .ERR_CUR (some 0x400B0008) [] .one 0x0 0x800003FF 0x0 0x0 0x0 0x0 (some .ERR_STAT),
  regRowOf .ERR_ACK (some 0x400B000C) [] .one 0x0 0x0 0x0 0x0 0x0 0x0 (some .ERR_STAT)]

/-- Rows 125 to 149 of the register map, in the order of RegName. -/
def regTable5 : List RegRow := [
  regRowOf .ERR_CLSCNT (some 0x400B0010) [] .one 0x0 0xFFFFFFFF 0x0 0x0 0x0 0x0 (some .ERR_STAT),
  regRowOf .ERR_DROPPED (some 0x400B0014) [] .one 0x0 0xFFFF 0x0 0x0 0x0 0x0 (some .ERR_STAT),
  regRowOf .ERR_NEWEST (some 0x400B0018) [] .one 0x0 0x1FF 0x0 0x0 0x0 0x0 (some .ERR_STAT),
  regRowOf .ERR_REPORT (some 0x400B0020) [] .perCluster 0x0 0x0 0x0 0x0 0x0 0x0 (some .ERR_STAT),
  regRowOf .ERR_WDT_CFG (some 0x400B0100) [(4, 0x10)] .one 0x3E8 0x8007FFFF 0x8007FFFF 0x0 0x0 0x8007FFFF (some .ERR_STAT),
  regRowOf .ERR_WDT_KICK (some 0x400B0104) [(4, 0x10)] .one 0x0 0x0 0x0 0x0 0x0 0x0 (some .ERR_STAT),
  regRowOf .ERR_WDT_STAT (some 0x400B0108) [(4, 0x10)] .one 0x0 0xE000FFFF 0x0 0x80000000 0x0 0x0 (some .ERR_STAT),
  regRowOf .ERR_TEL (some 0x400B0200) [(16, 0x4)] .one 0x0 0xFFFFFFFF 0x0 0x0 0x0 0x0 (some .ERR_STAT),
  regRowOf .ERR_LOG (some 0x400B1000) [(256, 0x10), (4, 0x4)] .one 0x0 0xFFFFFFFF 0x0 0x0 0x0 0x0 (some .ERR_STAT),
  regRowOf .CTL_CFG (some 0x400C0000) [] .one 0x1901 0xFF03 0xFF03 0x0 0xFF03 0x0 (some .CTL_STAT),
  regRowOf .CTL_STAT (some 0x400C0004) [] .one 0x0 0xFC00F007 0x0 0x80000000 0x0 0x0 (some .CTL_STAT),
  regRowOf .CTL_HOLD (some 0x400C0008) [] .one 0x0 0x3 0x1 0x0 0x0 0x0 (some .CTL_STAT),
  regRowOf .CTL_LOCK (some 0x400C000C) [] .one 0x0 0xFFFFFFFF 0xFFFFFFFF 0x0 0x0 0x0 (some .CTL_STAT),
  regRowOf .CTL_OPENRD (some 0x400C0010) [] .one 0x0 0xFFFFFFFF 0xFFFFFFFF 0x0 0x0 0x0 (some .CTL_STAT),
  regRowOf .CTL_TIDENT (some 0x400C0014) [(2, 0x4)] .one 0x0 0xFFFFFFFF 0xFFFFFFFF 0x0 0x0 0x0 (some .CTL_STAT),
  regRowOf .CTL_TSTATUS (some 0x400C0020) [(2, 0x4)] .one 0x0 0xFFFFFFFF 0xFFFFFFFF 0x0 0x0 0x0 (some .CTL_STAT),
  regRowOf .CTL_TSTATUS2 (some 0x400C0028) [] .one 0x0 0xFFFF0000 0xFFFF0000 0x0 0x0 0x0 (some .CTL_STAT),
  regRowOf .CTL_TKEY (some 0x400C0030) [(4, 0x4)] .one 0x0 0x0 0x0 0x0 0x0 0x0 (some .CTL_STAT),
  regRowOf .CTL_RKEY (some 0x400C0040) [(4, 0x4)] .one 0x0 0x0 0x0 0x0 0x0 0x0 (some .CTL_STAT),
  regRowOf .CTL_PADCFG (some 0x400C0050) [] .one 0x20 0xFF 0xFF 0x0 0xFF 0x0 (some .CTL_STAT),
  regRowOf .CTL_PADSTAT (some 0x400C0054) [] .one 0x0 0x80FFFFFF 0x0 0x80000000 0x0 0x0 (some .CTL_STAT),
  regRowOf .CTL_RDRES (some 0x400C0060) [] .one 0x0 0xE0FFFF0F 0x0 0x0 0x0 0x0 (some .CTL_STAT),
  regRowOf .CTL_RDUID (some 0x400C0064) [(3, 0x4)] .one 0x0 0xFFFFFFFF 0x0 0x0 0x0 0x0 (some .CTL_STAT),
  regRowOf .CTL_TMEM (some 0x400C2000) [(2048, 0x4)] .one 0x0 0xFFFFFFFF 0xFFFFFFFF 0x0 0x0 0x0 (some .CTL_STAT),
  regRowOf .SCHED_CTRL (some 0x400D0000) [] .one 0x0 0x100 0x100 0x0 0x0 0x0 (some .SCHED_STAT)]

/-- Rows 150 to 174 of the register map, in the order of RegName. -/
def regTable6 : List RegRow := [
  regRowOf .SCHED_STAT (some 0x400D0004) [] .one 0x1000 0x80011FFF 0x0 0x80000000 0x0 0x0 (some .SCHED_STAT),
  regRowOf .SCHED_PUSH0 (some 0x400D0010) [] .perCluster 0x0 0x0 0x0 0x0 0x0 0x0 (some .SCHED_STAT),
  regRowOf .SCHED_PUSH1 (some 0x400D0014) [] .one 0x0 0x0 0x0 0x0 0x0 0x0 (some .SCHED_STAT),
  regRowOf .SCHED_PUSH_RES (some 0x400D0018) [] .perCluster 0x0 0x8F001FFF 0x0 0x0 0x0 0x0 (some .SCHED_STAT),
  regRowOf .SCHED_RRESULT (some 0x400D0020) [] .one 0x0 0x870FFFFF 0x0 0x0 0x0 0x0 (some .SCHED_STAT),
  regRowOf .SCHED_GATE_CTRL (some 0x400D0100) [(2, 0x400)] .one 0x0 0x301 0x1 0x0 0x0 0x0 (some .SCHED_STAT),
  regRowOf .SCHED_GATE_STAT (some 0x400D0104) [(2, 0x400)] .one 0x0 0xFF3F 0x0 0x0 0x0 0x0 (some .SCHED_STAT),
  regRowOf .SCHED_GL_BASESEC (some 0x400D0110) [(2, 0x400), (2, 0x10)] .one 0x0 0xFFFFFFFF 0xFFFFFFFF 0x0 0x0 0xFFFFFFFF (some .SCHED_STAT),
  regRowOf .SCHED_GL_BASETICK (some 0x400D0114) [(2, 0x400), (2, 0x10)] .one 0x0 0x7FFFFFF 0x7FFFFFF 0x0 0x0 0x7FFFFFF (some .SCHED_STAT),
  regRowOf .SCHED_GL_CYCLE (some 0x400D0118) [(2, 0x400), (2, 0x10)] .one 0x186A0 0xFFFFFFFF 0xFFFFFFFF 0x0 0x0 0xFFFFFFFF (some .SCHED_STAT),
  regRowOf .SCHED_GL_LEN (some 0x400D011C) [(2, 0x400), (2, 0x10)] .one 0x1 0x7F 0x7F 0x0 0x0 0x7F (some .SCHED_STAT),
  regRowOf .SCHED_GCL (some 0x400D0200) [(2, 0x400), (2, 0x100), (64, 0x4)] .one 0xFF000001 0xFFFFFFFF 0xFFFFFFFF 0x0 0x0 0xFFFFFFFF (some .SCHED_STAT),
  regRowOf .SCHED_Q_CFG (some 0x400D1000) [(144, 0x20)] .one 0x7010000 0xE7FF1FFF 0xE7FF1FFF 0x0 0x7FF0000 0xE0000000 (some .SCHED_STAT),
  regRowOf .SCHED_Q_RATE (some 0x400D1004) [(144, 0x20)] .one 0x0 0xFFFF 0xFFFF 0x0 0xFFFF 0x0 (some .SCHED_STAT),
  regRowOf .SCHED_Q_BURST (some 0x400D1008) [(144, 0x20)] .one 0x10000 0x1FFFFF 0x1FFFFF 0x0 0x1FFFFF 0x0 (some .SCHED_STAT),
  regRowOf .SCHED_Q_STAT (some 0x400D100C) [(144, 0x20)] .one 0x0 0xFFFF0001 0x0 0x0 0x0 0x0 (some .SCHED_STAT),
  regRowOf .SCHED_Q_TOKENS (some 0x400D1010) [(144, 0x20)] .one 0x0 0xFFFFFFFF 0x0 0x0 0x0 0x0 (some .SCHED_STAT),
  regRowOf .SCHED_Q_VTAG (some 0x400D1014) [(144, 0x20)] .one 0x0 0xFFFFFFFF 0x0 0x0 0x0 0x0 (some .SCHED_STAT),
  regRowOf .RF_CTRL (some 0x40100000) [(2, 0x10000)] .one 0x10 0x711 0x711 0x0 0x0 0x1 (some .RF_STAT),
  regRowOf .RF_LO (some 0x40100004) [(2, 0x10000)] .one 0x0 0xFFFFFFFF 0xFFFFFFFF 0x0 0x0 0xFFFFFFFF (some .RF_STAT),
  regRowOf .RF_STAT (some 0x40100008) [(2, 0x10000)] .one 0x0 0xE0000707 0x0 0xE0000000 0x0 0x0 (some .RF_STAT),
  regRowOf .RF_CALOFS (some 0x4010000C) [(2, 0x10000)] .one 0x0 0xFFFFFF 0xFFFFFF 0x0 0x0 0x0 (some .RF_STAT),
  regRowOf .RF_SYNCFG (some 0x40100010) [(2, 0x10000)] .one 0x1 0x1 0x1 0x0 0x0 0x0 (some .RF_STAT),
  regRowOf .RF_SYNSTAT (some 0x40100014) [(2, 0x10000)] .one 0x0 0x1FF0103 0x0 0x100 0x0 0x0 (some .RF_STAT),
  regRowOf .RF_SYNTAB_IDX (some 0x40100018) [(2, 0x10000)] .one 0x0 0xFF 0xFF 0x0 0x0 0x0 (some .RF_STAT)]

/-- Rows 175 to 199 of the register map, in the order of RegName. -/
def regTable7 : List RegRow := [
  regRowOf .RF_SYNTAB_FREQ (some 0x4010001C) [(2, 0x10000)] .one 0x0 0xFFFFFFFF 0x0 0x0 0x0 0x0 (some .RF_STAT),
  regRowOf .RF_SYNTAB_INFO (some 0x40100020) [(2, 0x10000)] .one 0x0 0x80FFFFFF 0x0 0x0 0x0 0x0 (some .RF_STAT),
  regRowOf .LANE_CTRL (some 0x40120000) [(128, 0x100)] .one 0x0 0x1 0x1 0x0 0x0 0x0 (some .LANE_BANK_STAT),
  regRowOf .LANE_PROFILE (some 0x40120004) [(128, 0x100)] .one 0x0 0x10F 0x10F 0x0 0x0 0x10F (some .LANE_BANK_STAT),
  regRowOf .LANE_OFFSET (some 0x40120008) [(128, 0x100)] .one 0x0 0xFFFFFFFF 0xFFFFFFFF 0x0 0xFFFFFFFF 0x0 (some .LANE_BANK_STAT),
  regRowOf .LANE_STAT (some 0x40120040) [(128, 0x100)] .one 0x0 0x7017F 0x0 0x70000 0x0 0x0 (some .LANE_BANK_STAT),
  regRowOf .LANE_LAST (some 0x40120044) [(128, 0x100)] .one 0x0 0xF7FFFFFF 0x0 0x0 0x0 0x0 (some .LANE_BANK_STAT),
  regRowOf .LANE_FOFS (some 0x40120048) [(128, 0x100)] .one 0x0 0xFFFFFFFF 0x0 0x0 0x0 0x0 (some .LANE_BANK_STAT),
  regRowOf .LANE_CAL (some 0x4012004C) [(128, 0x100)] .one 0x0 0xFFFFFF 0x0 0x0 0x0 0x0 (some .LANE_BANK_STAT),
  regRowOf .LANE_CNT_SYNC (some 0x40120050) [(128, 0x100)] .one 0x0 0xFFFFFFFF 0x0 0x0 0x0 0x0 (some .LANE_BANK_STAT),
  regRowOf .LANE_CNT_HDRERR (some 0x40120054) [(128, 0x100)] .one 0x0 0xFFFFFFFF 0x0 0x0 0x0 0x0 (some .LANE_BANK_STAT),
  regRowOf .LANE_CNT_CTXMISS (some 0x40120058) [(128, 0x100)] .one 0x0 0xFFFFFFFF 0x0 0x0 0x0 0x0 (some .LANE_BANK_STAT),
  regRowOf .LANE_CNT_CUT (some 0x4012005C) [(128, 0x100)] .one 0x0 0xFFFFFFFF 0x0 0x0 0x0 0x0 (some .LANE_BANK_STAT),
  regRowOf .LANE_CNT_FRAMES (some 0x40120060) [(128, 0x100)] .one 0x0 0xFFFFFFFF 0x0 0x0 0x0 0x0 (some .LANE_BANK_STAT),
  regRowOf .LANE_BANK_CTRL (some 0x40128000) [] .one 0x0 0x1 0x1 0x0 0x0 0x0 (some .LANE_BANK_STAT),
  regRowOf .LANE_BANK_STAT (some 0x40128004) [] .one 0x0 0xE0FFFF01 0x0 0xE0000000 0x0 0x0 (some .LANE_BANK_STAT),
  regRowOf .LANE_BANK_CALCFG (some 0x40128008) [] .one 0xA 0xFF 0xFF 0x0 0xFF 0x0 (some .LANE_BANK_STAT),
  regRowOf .LANE_BANK_CTXMISS (some 0x4012800C) [] .one 0x0 0xFFFFFFFF 0x0 0x0 0x0 0x0 (some .LANE_BANK_STAT),
  regRowOf .LANE_PT_MOD (some 0x40128100) [(16, 0x20)] .one 0x10000 0x71737 0x1737 0x0 0x0 0x1737 (some .LANE_BANK_STAT),
  regRowOf .LANE_PT_SYNC (some 0x40128104) [(16, 0x20)] .one 0x0 0x73F 0x73F 0x0 0x0 0x73F (some .LANE_BANK_STAT),
  regRowOf .LANE_PT_WORD (some 0x40128108) [(16, 0x20)] .one 0x0 0xFFFFFFFF 0xFFFFFFFF 0x0 0x0 0xFFFFFFFF (some .LANE_BANK_STAT),
  regRowOf .LANE_PT_LEN (some 0x4012810C) [(16, 0x20)] .one 0x7FF0017 0x7FF07FF 0x7FF07FF 0x0 0x0 0x7FF07FF (some .LANE_BANK_STAT),
  regRowOf .LANE_PT_RX (some 0x40128110) [(16, 0x20)] .one 0x8000 0xFFFF07 0xFFFF07 0x0 0x0 0xFFFF07 (some .LANE_BANK_STAT),
  regRowOf .LANE_PT_DEV (some 0x40128114) [(16, 0x20)] .one 0x0 0xFFFF 0xFFFF 0x0 0x0 0xFFFF (some .LANE_BANK_STAT),
  regRowOf .TXP_CFG (some 0x40140000) [] .one 0xA03 0xFF0F 0xFF0F 0x0 0xFF0F 0x0 (some .TXP_STAT)]

/-- Rows 200 to 224 of the register map, in the order of RegName. -/
def regTable8 : List RegRow := [
  regRowOf .TXP_HOSTCFG (some 0x40140004) [] .one 0x0 0xFFF1F 0xFFF1F 0x0 0xFFF1F 0x0 (some .TXP_STAT),
  regRowOf .TXP_STAT (some 0x40140008) [] .one 0x0 0xF03F7F07 0x0 0xE0000000 0x0 0x0 (some .TXP_STAT),
  regRowOf .TXP_SUBMIT (some 0x40140010) [(4, 0x4)] .one 0x0 0x0 0x0 0x0 0x0 0x0 (some .TXP_STAT),
  regRowOf .TXP_RESULT (some 0x40140020) [] .one 0x0 0xC73FFFFF 0x0 0x0 0x0 0x0 (some .TXP_STAT),
  regRowOf .TXP_RESULT_NT (some 0x40140024) [] .one 0x0 0xFFFFFFFF 0x0 0x0 0x0 0x0 (some .TXP_STAT),
  regRowOf .TXP_FEMCFG (some 0x40140100) [(2, 0x40)] .one 0x11 0x3FFF 0x3FFF 0x0 0x0 0x3FFF (some .TXP_STAT),
  regRowOf .TXP_FEMSEQ_STEP (some 0x40140104) [(2, 0x40), (8, 0x4)] .one 0x1 0xBFFFFFFF 0xBFFFFFFF 0x0 0x0 0xBFFFFFFF (some .TXP_STAT),
  regRowOf .TXP_LEDGER (some 0x40140200) [(8, 0x4)] .one 0x0 0xFFFFFFFF 0x0 0x0 0x0 0x0 (some .TXP_STAT),
  regRowOf .TXP_RGN (some 0x40140300) [(8, 0x10), (4, 0x4)] .one 0x0 0xFFFFFFFF 0xFFFFFFFF 0x0 0x0 0x0 (some .TXP_STAT),
  regRowOf .FRM_CFG (some 0x40150000) [] .one 0x781E01 0xFFFF01 0xFFFF01 0x0 0xFFFF01 0x0 (some .FRM_STAT),
  regRowOf .FRM_STAT (some 0x40150004) [] .one 0x0 0xF7FF07FF 0x0 0xC0000000 0x0 0x0 (some .FRM_STAT),
  regRowOf .FRM_NODE (some 0x40150008) [] .one 0x0 0xFFFFFFFF 0xFFFFFFFF 0x0 0xFFFFFFFF 0x0 (some .FRM_STAT),
  regRowOf .FRM_VAULT_SEL (some 0x40150010) [] .one 0x0 0x3FFF 0x3FFF 0x0 0x0 0x0 (some .FRM_STAT),
  regRowOf .FRM_VAULT_KEY (some 0x40150014) [(4, 0x4)] .one 0x0 0x0 0x0 0x0 0x0 0x0 (some .FRM_STAT),
  regRowOf .FRM_DUP_CFG (some 0x40150030) [] .one 0x1 0xFE000001 0xFE000001 0x0 0x0 0xFE000001 (some .FRM_STAT),
  regRowOf .FRM_DUP_STAT (some 0x40150034) [] .one 0x40 0xFFFF00FF 0x0 0x0 0x0 0x0 (some .FRM_STAT),
  regRowOf .FRM_DL_CFG (some 0x40150040) [] .one 0xA140101 0xFFFFFF09 0xFFFFFF09 0x0 0xFFFFFF09 0x0 (some .FRM_STAT),
  regRowOf .FRM_DL_WAKEFREQ (some 0x40150044) [] .one 0x0 0xFFFFFFFF 0xFFFFFFFF 0x0 0xFFFFFFFF 0x0 (some .FRM_STAT),
  regRowOf .FRM_DL_DETOURFREQ (some 0x40150048) [] .one 0x0 0xFFFFFFFF 0xFFFFFFFF 0x0 0xFFFFFFFF 0x0 (some .FRM_STAT),
  regRowOf .FRM_CNT (some 0x40150080) [(16, 0x4)] .one 0x0 0xFFFFFFFF 0x0 0x0 0x0 0x0 (some .FRM_STAT),
  regRowOf .FRM_EPOCH (some 0x40150100) [(64, 0x4)] .one 0x0 0x1FF 0x1FF 0x0 0x1FF 0x0 (some .FRM_STAT),
  regRowOf .WUR_CFG (some 0x40160000) [] .one 0x0 0x3FFFFFF 0x3FFFFFF 0x0 0x3FFFFFF 0x0 none,
  regRowOf .WUR_STAT (some 0x40160004) [] .one 0x0 0x8FFFFFFF 0x0 0x80000000 0x0 0x0 none,
  regRowOf .WUR_LAST (some 0x40160008) [] .one 0x0 0xFFFFFF 0x0 0x0 0x0 0x0 none,
  regRowOf .LP_CFG (some 0x40180000) [(2, 0x10000)] .one 0xF030312 0xFF0F0F3F 0xFF0F0F3F 0x0 0xFF0F0F3F 0x0 (some .LP_STAT)]

/-- Rows 225 to 249 of the register map, in the order of RegName. -/
def regTable9 : List RegRow := [
  regRowOf .LP_CTRL (some 0x40180004) [(2, 0x10000)] .one 0x0 0x0 0x0 0x0 0x0 0x0 (some .LP_STAT),
  regRowOf .LP_STAT (some 0x40180008) [(2, 0x10000)] .one 0x0 0xFE000F1F 0x0 0xFE000000 0x0 0x0 (some .LP_STAT),
  regRowOf .LP_QUAL (some 0x4018000C) [(2, 0x10000)] .one 0x0 0xFFFFFFFF 0x0 0x0 0x0 0x0 (some .LP_STAT),
  regRowOf .LP_PEER (some 0x40180010) [(2, 0x10000)] .one 0x0 0xFFFFFFFF 0x0 0x0 0x0 0x0 (some .LP_STAT),
  regRowOf .LP_PEERINFO (some 0x40180014) [(2, 0x10000)] .one 0x0 0x307 0x0 0x0 0x0 0x0 (some .LP_STAT),
  regRowOf .LP_CNT (some 0x40180020) [(2, 0x10000), (8, 0x4)] .one 0x0 0xFFFFFFFF 0x0 0x0 0x0 0x0 (some .LP_STAT),
  regRowOf .LP_TS_SEC (some 0x40180040) [(2, 0x10000), (4, 0x8)] .one 0x0 0xFFFFFFFF 0x0 0x0 0x0 0x0 (some .LP_STAT),
  regRowOf .LP_TS_SUB (some 0x40180044) [(2, 0x10000), (4, 0x8)] .one 0x0 0x7FFFFFFF 0x0 0x0 0x0 0x0 (some .LP_STAT),
  regRowOf .LP_TSSEQ (some 0x40180060) [(2, 0x10000)] .one 0x0 0xFFFF 0x0 0x0 0x0 0x0 (some .LP_STAT),
  regRowOf .LP_TSCFG (some 0x40180064) [(2, 0x10000)] .one 0x0 0xFFFFFFFF 0xFFFFFFFF 0x0 0x0 0xFFFFFFFF (some .LP_STAT),
  regRowOf .LP_WAKECFG (some 0x40180068) [(2, 0x10000)] .one 0x3142800 0xFFFFF01 0xFFFFF01 0x0 0xFFFFF01 0x0 (some .LP_STAT),
  regRowOf .CL_CXDEC none [(3, 0x0), (32, 0x0)] .one 0x0 0x800007FF 0x800007FF 0x0 0x0 0x800007FF none,
  regRowOf .CL_UCCFG none [(3, 0x0)] .one 0x100 0xFFF 0xFFF 0x0 0x0 0xFFF none,
  regRowOf .CL_UCDATA none [(3, 0x0), (2048, 0x0)] .one 0x0 0xFFFFFFFF 0xFFFFFFFF 0x0 0x0 0x0 none,
  regRowOf .CORE_CAUSE none [(24, 0x0)] .one 0x0 0x1F 0x1F 0x0 0x0 0x0 none,
  regRowOf .CORE_FADDR none [(24, 0x0)] .one 0x0 0xFFFFFFFF 0xFFFFFFFF 0x0 0x0 0x0 none,
  regRowOf .CORE_FXMODE none [(24, 0x0)] .one 0x1 0x7 0x7 0x0 0x0 0x0 none,
  regRowOf .CORE_FXSTAT none [(24, 0x0)] .one 0x0 0x3 0x0 0x3 0x0 0x0 none,
  regRowOf .CORE_HBASE none [(24, 0x0)] .one 0x0 0xFFFFFC00 0xFFFFFC00 0x0 0x0 0x0 none,
  regRowOf .CORE_IEN none [(24, 0x0)] .one 0x0 0xF 0xF 0x0 0x0 0x0 none,
  regRowOf .CORE_RETA none [(24, 0x0)] .one 0x0 0xFFFFFFFC 0xFFFFFFFC 0x0 0x0 0x0 none,
  regRowOf .CORE_SSTAT none [(24, 0x0)] .one 0x0 0x7 0x7 0x0 0x0 0x0 none,
  regRowOf .CORE_STATUS none [(24, 0x0)] .one 0x0 0x5 0x5 0x0 0x0 0x0 none,
  regRowOf .CORE_UCADDR none [(24, 0x0)] .one 0x0 0x7FF 0x7FF 0x0 0x0 0x0 none,
  regRowOf .CORE_UCSTAT none [(24, 0x0)] .one 0x0 0x80000000 0x0 0x80000000 0x0 0x0 none]

/-- The register map, in the order of RegName. -/
def regTable : List RegRow :=
  regTable0 ++ regTable1 ++ regTable2 ++ regTable3 ++ regTable4 ++ regTable5 ++ regTable6 ++ regTable7 ++ regTable8 ++ regTable9

/-- The row of a register. -/
def regRow (r : RegName) : RegRow :=
  regTable.getD r.ctorIdx (regRowOf .SYSCTL_CHIP_ID none [] .one 0 0 0 0 0 0 none)

end Sys2Proof.Machine
end

