-- ==== Sys2Proof/Machine/Fields.lean ====
section
/-! DEFINITION. The fields of the registers, by the names of the register tables (R5 and the Bits and Field columns). -/

namespace Sys2Proof.Machine

/-- A field of a register: bits hi down to lo. -/
structure Fld where
  reg : RegName
  hi : Nat
  lo : Nat
  deriving DecidableEq, Repr

namespace F

abbrev SYSCTL_CHIP_ID_ID : Fld := ⟨.SYSCTL_CHIP_ID, 31, 0⟩
abbrev SYSCTL_RSTCAUSE_HIB_WAKE : Fld := ⟨.SYSCTL_RSTCAUSE, 8, 8⟩
abbrev SYSCTL_RSTCAUSE_DEBUG : Fld := ⟨.SYSCTL_RSTCAUSE, 7, 7⟩
abbrev SYSCTL_RSTCAUSE_SOFT : Fld := ⟨.SYSCTL_RSTCAUSE, 6, 6⟩
abbrev SYSCTL_RSTCAUSE_CL2_WDT : Fld := ⟨.SYSCTL_RSTCAUSE, 5, 5⟩
abbrev SYSCTL_RSTCAUSE_CL1_WDT : Fld := ⟨.SYSCTL_RSTCAUSE, 4, 4⟩
abbrev SYSCTL_RSTCAUSE_WDT : Fld := ⟨.SYSCTL_RSTCAUSE, 3, 3⟩
abbrev SYSCTL_RSTCAUSE_PIN : Fld := ⟨.SYSCTL_RSTCAUSE, 2, 2⟩
abbrev SYSCTL_RSTCAUSE_BOR : Fld := ⟨.SYSCTL_RSTCAUSE, 1, 1⟩
abbrev SYSCTL_RSTCAUSE_POR : Fld := ⟨.SYSCTL_RSTCAUSE, 0, 0⟩
abbrev SYSCTL_RSTCTL_KEY : Fld := ⟨.SYSCTL_RSTCTL, 31, 16⟩
abbrev SYSCTL_RSTCTL_CL2_RESET : Fld := ⟨.SYSCTL_RSTCTL, 2, 2⟩
abbrev SYSCTL_RSTCTL_CL1_RESET : Fld := ⟨.SYSCTL_RSTCTL, 1, 1⟩
abbrev SYSCTL_RSTCTL_SYS_RESET : Fld := ⟨.SYSCTL_RSTCTL, 0, 0⟩
abbrev SYSCTL_BOOTSTAT_ROADSIDE_COUNT : Fld := ⟨.SYSCTL_BOOTSTAT, 27, 24⟩
abbrev SYSCTL_BOOTSTAT_ROADSIDE_CAUSE : Fld := ⟨.SYSCTL_BOOTSTAT, 23, 16⟩
abbrev SYSCTL_BOOTSTAT_JFLUSH : Fld := ⟨.SYSCTL_BOOTSTAT, 12, 12⟩
abbrev SYSCTL_BOOTSTAT_ROM_RESP : Fld := ⟨.SYSCTL_BOOTSTAT, 11, 11⟩
abbrev SYSCTL_BOOTSTAT_FALLBACK : Fld := ⟨.SYSCTL_BOOTSTAT, 10, 10⟩
abbrev SYSCTL_BOOTSTAT_TRIAL : Fld := ⟨.SYSCTL_BOOTSTAT, 9, 9⟩
abbrev SYSCTL_BOOTSTAT_SLOT : Fld := ⟨.SYSCTL_BOOTSTAT, 8, 8⟩
abbrev SYSCTL_BOOTSTAT_LP1_LB : Fld := ⟨.SYSCTL_BOOTSTAT, 7, 7⟩
abbrev SYSCTL_BOOTSTAT_LP0_LB : Fld := ⟨.SYSCTL_BOOTSTAT, 6, 6⟩
abbrev SYSCTL_BOOTSTAT_RFB_LB : Fld := ⟨.SYSCTL_BOOTSTAT, 5, 5⟩
abbrev SYSCTL_BOOTSTAT_RFA_LB : Fld := ⟨.SYSCTL_BOOTSTAT, 4, 4⟩
abbrev SYSCTL_BOOTSTAT_FLTAB_OK : Fld := ⟨.SYSCTL_BOOTSTAT, 3, 3⟩
abbrev SYSCTL_BOOTSTAT_IMAGE_OK : Fld := ⟨.SYSCTL_BOOTSTAT, 2, 2⟩
abbrev SYSCTL_BOOTSTAT_OTP_OK : Fld := ⟨.SYSCTL_BOOTSTAT, 1, 1⟩
abbrev SYSCTL_BOOTSTAT_SRAM_OK : Fld := ⟨.SYSCTL_BOOTSTAT, 0, 0⟩
abbrev SYSCTL_PSTATE_RAISE_CAUSE : Fld := ⟨.SYSCTL_PSTATE, 23, 16⟩
abbrev SYSCTL_PSTATE_ROADSIDE : Fld := ⟨.SYSCTL_PSTATE, 12, 12⟩
abbrev SYSCTL_PSTATE_RAISED : Fld := ⟨.SYSCTL_PSTATE, 11, 11⟩
abbrev SYSCTL_PSTATE_FLOOR : Fld := ⟨.SYSCTL_PSTATE, 10, 8⟩
abbrev SYSCTL_PSTATE_REST : Fld := ⟨.SYSCTL_PSTATE, 6, 4⟩
abbrev SYSCTL_PSTATE_CUR : Fld := ⟨.SYSCTL_PSTATE, 2, 0⟩
abbrev SYSCTL_SLEEPCFG_RELAY_WINDOW : Fld := ⟨.SYSCTL_SLEEPCFG, 23, 16⟩
abbrev SYSCTL_SLEEPCFG_WURX_HIB : Fld := ⟨.SYSCTL_SLEEPCFG, 9, 9⟩
abbrev SYSCTL_SLEEPCFG_DRAM_RETAIN : Fld := ⟨.SYSCTL_SLEEPCFG, 8, 8⟩
abbrev SYSCTL_SLEEPCFG_RAISE_HOLD : Fld := ⟨.SYSCTL_SLEEPCFG, 7, 0⟩
abbrev SYSCTL_CLKCFG_REF_REVERT : Fld := ⟨.SYSCTL_CLKCFG, 8, 8⟩
abbrev SYSCTL_CLKCFG_REF_PREF : Fld := ⟨.SYSCTL_CLKCFG, 7, 7⟩
abbrev SYSCTL_CLKCFG_PLL_EN : Fld := ⟨.SYSCTL_CLKCFG, 3, 3⟩
abbrev SYSCTL_CLKCFG_SRC : Fld := ⟨.SYSCTL_CLKCFG, 0, 0⟩
abbrev SYSCTL_CLKSTAT_WLOCK : Fld := ⟨.SYSCTL_CLKSTAT, 31, 31⟩
abbrev SYSCTL_CLKSTAT_REF_SWITCHES : Fld := ⟨.SYSCTL_CLKSTAT, 15, 8⟩
abbrev SYSCTL_CLKSTAT_SRC_CUR : Fld := ⟨.SYSCTL_CLKSTAT, 6, 6⟩
abbrev SYSCTL_CLKSTAT_PLL_LOCK : Fld := ⟨.SYSCTL_CLKSTAT, 5, 5⟩
abbrev SYSCTL_CLKSTAT_REF_ACTIVE : Fld := ⟨.SYSCTL_CLKSTAT, 4, 4⟩
abbrev SYSCTL_CLKSTAT_REFB_GOOD : Fld := ⟨.SYSCTL_CLKSTAT, 3, 3⟩
abbrev SYSCTL_CLKSTAT_REFA_GOOD : Fld := ⟨.SYSCTL_CLKSTAT, 2, 2⟩
abbrev SYSCTL_CLKSTAT_XT32_GOOD : Fld := ⟨.SYSCTL_CLKSTAT, 1, 1⟩
abbrev SYSCTL_CLKSTAT_FRC_ON : Fld := ⟨.SYSCTL_CLKSTAT, 0, 0⟩
abbrev SYSCTL_VINCFG_LM_EN : Fld := ⟨.SYSCTL_VINCFG, 16, 16⟩
abbrev SYSCTL_VINCFG_RELEASE : Fld := ⟨.SYSCTL_VINCFG, 15, 8⟩
abbrev SYSCTL_VINCFG_TRIP : Fld := ⟨.SYSCTL_VINCFG, 7, 0⟩
abbrev SYSCTL_LMCFG_FLUSH : Fld := ⟨.SYSCTL_LMCFG, 9, 9⟩
abbrev SYSCTL_LMCFG_ARM : Fld := ⟨.SYSCTL_LMCFG, 8, 8⟩
abbrev SYSCTL_LMCFG_AREA : Fld := ⟨.SYSCTL_LMCFG, 4, 0⟩
abbrev SYSCTL_LMSTAT_LAST_TIME : Fld := ⟨.SYSCTL_LMSTAT, 23, 8⟩
abbrev SYSCTL_LMSTAT_ARMED : Fld := ⟨.SYSCTL_LMSTAT, 7, 7⟩
abbrev SYSCTL_LMSTAT_UNSEALED : Fld := ⟨.SYSCTL_LMSTAT, 6, 6⟩
abbrev SYSCTL_LMSTAT_FLUSH_ACTIVE : Fld := ⟨.SYSCTL_LMSTAT, 4, 4⟩
abbrev SYSCTL_LMSTAT_SLOT_DATA : Fld := ⟨.SYSCTL_LMSTAT, 3, 2⟩
abbrev SYSCTL_LMSTAT_SLOT_READY : Fld := ⟨.SYSCTL_LMSTAT, 1, 0⟩
abbrev SYSCTL_CORE_EN_EN : Fld := ⟨.SYSCTL_CORE_EN, 23, 2⟩
abbrev SYSCTL_CORE_EN_PAIR : Fld := ⟨.SYSCTL_CORE_EN, 1, 0⟩
abbrev SYSCTL_CLSTART_ADDR : Fld := ⟨.SYSCTL_CLSTART, 31, 2⟩
abbrev PMB_CFG_TIMEOUT : Fld := ⟨.PMB_CFG, 23, 16⟩
abbrev PMB_CFG_RETRIES : Fld := ⟨.PMB_CFG, 15, 12⟩
abbrev PMB_CFG_PGOOD_USE : Fld := ⟨.PMB_CFG, 8, 8⟩
abbrev PMB_CFG_ADDR : Fld := ⟨.PMB_CFG, 6, 0⟩
abbrev PMB_VREQ_VTARGET : Fld := ⟨.PMB_VREQ, 7, 0⟩
abbrev PMB_STAT_WLOCK : Fld := ⟨.PMB_STAT, 31, 31⟩
abbrev PMB_STAT_PEC_ERR : Fld := ⟨.PMB_STAT, 16, 16⟩
abbrev PMB_STAT_NACK : Fld := ⟨.PMB_STAT, 15, 15⟩
abbrev PMB_STAT_TIMEOUT : Fld := ⟨.PMB_STAT, 14, 14⟩
abbrev PMB_STAT_BUSY : Fld := ⟨.PMB_STAT, 8, 8⟩
abbrev PMB_STAT_VACK : Fld := ⟨.PMB_STAT, 7, 0⟩
abbrev HPORT_CFG_NOTIFY_MASK : Fld := ⟨.HPORT_CFG, 15, 8⟩
abbrev HPORT_CFG_ENABLE : Fld := ⟨.HPORT_CFG, 0, 0⟩
abbrev HPORT_STAT_WLOCK : Fld := ⟨.HPORT_STAT, 31, 31⟩
abbrev HPORT_STAT_CRC_ERRS : Fld := ⟨.HPORT_STAT, 23, 16⟩
abbrev HPORT_STAT_ABORTS : Fld := ⟨.HPORT_STAT, 15, 8⟩
abbrev HPORT_STAT_BUSY_DROPS : Fld := ⟨.HPORT_STAT, 7, 0⟩
abbrev EVF_STAT_WLOCK : Fld := ⟨.EVF_STAT, 31, 31⟩
abbrev EVF_STAT_ACC_ERR : Fld := ⟨.EVF_STAT, 30, 30⟩
abbrev EVF_STAT_OVR_ANY : Fld := ⟨.EVF_STAT, 29, 29⟩
abbrev EVF_STAT_RUNNING : Fld := ⟨.EVF_STAT, 28, 28⟩
abbrev EVF_STAT_DISCONNECTS : Fld := ⟨.EVF_STAT, 7, 0⟩
abbrev EVF_FIRE_CH : Fld := ⟨.EVF_FIRE, 7, 0⟩
abbrev EVF_GRP_SET_GROUPS : Fld := ⟨.EVF_GRP_SET, 15, 0⟩
abbrev EVF_GRP_CLR_GROUPS : Fld := ⟨.EVF_GRP_CLR, 15, 0⟩
abbrev EVF_GRP_STATE_OPEN : Fld := ⟨.EVF_GRP_STATE, 15, 0⟩
abbrev EVF_GRP_OWN_OWNERS : Fld := ⟨.EVF_GRP_OWN, 31, 0⟩
abbrev EVF_CH_CFG_OWNER : Fld := ⟨.EVF_CH_CFG, 31, 30⟩
abbrev EVF_CH_CFG_SEC : Fld := ⟨.EVF_CH_CFG, 29, 29⟩
abbrev EVF_CH_CFG_IN_GRP : Fld := ⟨.EVF_CH_CFG, 8, 8⟩
abbrev EVF_CH_CFG_GRP : Fld := ⟨.EVF_CH_CFG, 3, 0⟩
abbrev EVF_PUB_EN : Fld := ⟨.EVF_PUB, 31, 31⟩
abbrev EVF_PUB_OWNER : Fld := ⟨.EVF_PUB, 25, 24⟩
abbrev EVF_PUB_SEC : Fld := ⟨.EVF_PUB, 23, 23⟩
abbrev EVF_PUB_CH : Fld := ⟨.EVF_PUB, 7, 0⟩
abbrev EVF_SUB_EN0 : Fld := ⟨.EVF_SUB, 31, 31⟩
abbrev EVF_SUB_EN1 : Fld := ⟨.EVF_SUB, 30, 30⟩
abbrev EVF_SUB_OWNER : Fld := ⟨.EVF_SUB, 27, 26⟩
abbrev EVF_SUB_SEC : Fld := ⟨.EVF_SUB, 25, 25⟩
abbrev EVF_SUB_CH1 : Fld := ⟨.EVF_SUB, 15, 8⟩
abbrev EVF_SUB_CH0 : Fld := ⟨.EVF_SUB, 7, 0⟩
abbrev EVF_CSTAT_OVR : Fld := ⟨.EVF_CSTAT, 31, 31⟩
abbrev EVF_CSTAT_BUSY : Fld := ⟨.EVF_CSTAT, 30, 30⟩
abbrev EVF_CSTAT_CLR_COAL : Fld := ⟨.EVF_CSTAT, 29, 29⟩
abbrev EVF_CSTAT_COAL : Fld := ⟨.EVF_CSTAT, 15, 0⟩
abbrev EVF_CORE_PEND_PEND : Fld := ⟨.EVF_CORE_PEND, 3, 0⟩
abbrev EVF_GPIO_OWNER : Fld := ⟨.EVF_GPIO, 31, 30⟩
abbrev EVF_GPIO_EDGE : Fld := ⟨.EVF_GPIO, 9, 8⟩
abbrev EVF_GPIO_IN : Fld := ⟨.EVF_GPIO, 2, 2⟩
abbrev EVF_GPIO_OE : Fld := ⟨.EVF_GPIO, 1, 1⟩
abbrev EVF_GPIO_OUT : Fld := ⟨.EVF_GPIO, 0, 0⟩
abbrev TMR_STAT_WLOCK : Fld := ⟨.TMR_STAT, 31, 31⟩
abbrev TMR_STAT_FROZEN : Fld := ⟨.TMR_STAT, 0, 0⟩
abbrev TMR_CTRL_OWNER : Fld := ⟨.TMR_CTRL, 31, 30⟩
abbrev TMR_CTRL_PRESC : Fld := ⟨.TMR_CTRL, 19, 16⟩
abbrev TMR_CTRL_MSEL : Fld := ⟨.TMR_CTRL, 12, 8⟩
abbrev TMR_CTRL_LMODE : Fld := ⟨.TMR_CTRL, 6, 4⟩
abbrev TMR_CTRL_RESTART : Fld := ⟨.TMR_CTRL, 1, 1⟩
abbrev TMR_CTRL_EN : Fld := ⟨.TMR_CTRL, 0, 0⟩
abbrev TMR_BUF_BUF : Fld := ⟨.TMR_BUF, 31, 0⟩
abbrev TMR_COUNT_COUNT : Fld := ⟨.TMR_COUNT, 31, 0⟩
abbrev TMR_TSTAT_EXP : Fld := ⟨.TMR_TSTAT, 31, 31⟩
abbrev TMR_TSTAT_OVR : Fld := ⟨.TMR_TSTAT, 30, 30⟩
abbrev TMR_TSTAT_OUT : Fld := ⟨.TMR_TSTAT, 17, 17⟩
abbrev TMR_TSTAT_RUNNING : Fld := ⟨.TMR_TSTAT, 16, 16⟩
abbrev TMR_TSTAT_EXP_CNT : Fld := ⟨.TMR_TSTAT, 15, 0⟩
abbrev NTC_CTRL_STEP : Fld := ⟨.NTC_CTRL, 1, 1⟩
abbrev NTC_CTRL_LOAD : Fld := ⟨.NTC_CTRL, 0, 0⟩
abbrev NTC_SEC_SEC : Fld := ⟨.NTC_SEC, 31, 0⟩
abbrev NTC_TICK_TICK : Fld := ⟨.NTC_TICK, 26, 0⟩
abbrev NTC_SECSH_SEC : Fld := ⟨.NTC_SECSH, 31, 0⟩
abbrev NTC_CAPCMD_CAPTURE : Fld := ⟨.NTC_CAPCMD, 0, 0⟩
abbrev NTC_CAP_SEC_SEC : Fld := ⟨.NTC_CAP_SEC, 31, 0⟩
abbrev NTC_CAP_TICK_TICK : Fld := ⟨.NTC_CAP_TICK, 26, 0⟩
abbrev NTC_EVCAP_SEC_SEC : Fld := ⟨.NTC_EVCAP_SEC, 31, 0⟩
abbrev NTC_EVCAP_TICK_TICK : Fld := ⟨.NTC_EVCAP_TICK, 26, 0⟩
abbrev NTC_SETSEC_SEC : Fld := ⟨.NTC_SETSEC, 31, 0⟩
abbrev NTC_SETTICK_TICK : Fld := ⟨.NTC_SETTICK, 26, 0⟩
abbrev NTC_STEPVAL_STEP : Fld := ⟨.NTC_STEPVAL, 31, 0⟩
abbrev NTC_RATE_RATE : Fld := ⟨.NTC_RATE, 31, 0⟩
abbrev NTC_DISC_STEP_THR : Fld := ⟨.NTC_DISC, 31, 24⟩
abbrev NTC_DISC_GI_SHIFT : Fld := ⟨.NTC_DISC, 19, 16⟩
abbrev NTC_DISC_GP : Fld := ⟨.NTC_DISC, 15, 8⟩
abbrev NTC_DISC_RTC_SYNC : Fld := ⟨.NTC_DISC, 4, 4⟩
abbrev NTC_DISC_SRC : Fld := ⟨.NTC_DISC, 1, 0⟩
abbrev NTC_DISC2_LOCK_THR : Fld := ⟨.NTC_DISC2, 15, 8⟩
abbrev NTC_DISC2_HOLDOVER : Fld := ⟨.NTC_DISC2, 7, 0⟩
abbrev NTC_RADIO_NODE_NODE : Fld := ⟨.NTC_RADIO_NODE, 31, 0⟩
abbrev NTC_STAT_WLOCK : Fld := ⟨.NTC_STAT, 31, 31⟩
abbrev NTC_STAT_STEPPED : Fld := ⟨.NTC_STAT, 30, 30⟩
abbrev NTC_STAT_SET_ERR : Fld := ⟨.NTC_STAT, 29, 29⟩
abbrev NTC_STAT_HOLD : Fld := ⟨.NTC_STAT, 28, 28⟩
abbrev NTC_STAT_LOCKCNT : Fld := ⟨.NTC_STAT, 10, 8⟩
abbrev NTC_STAT_SRC_USED : Fld := ⟨.NTC_STAT, 5, 4⟩
abbrev NTC_STAT_ON_FRC : Fld := ⟨.NTC_STAT, 2, 2⟩
abbrev NTC_STAT_DISC : Fld := ⟨.NTC_STAT, 0, 0⟩
abbrev NTC_LEAD_LEAD : Fld := ⟨.NTC_LEAD, 31, 0⟩
abbrev NTC_CMP_SEC_SEC : Fld := ⟨.NTC_CMP_SEC, 31, 0⟩
abbrev NTC_CMP_TICK_TICK : Fld := ⟨.NTC_CMP_TICK, 26, 0⟩
abbrev NTC_CMP_PER_PER : Fld := ⟨.NTC_CMP_PER, 31, 0⟩
abbrev NTC_CMP_CTRL_OWNER : Fld := ⟨.NTC_CMP_CTRL, 31, 30⟩
abbrev NTC_CMP_CTRL_SKIP : Fld := ⟨.NTC_CMP_CTRL, 28, 28⟩
abbrev NTC_CMP_CTRL_MISSED : Fld := ⟨.NTC_CMP_CTRL, 15, 8⟩
abbrev NTC_CMP_CTRL_DISARM : Fld := ⟨.NTC_CMP_CTRL, 2, 2⟩
abbrev NTC_CMP_CTRL_FIRED : Fld := ⟨.NTC_CMP_CTRL, 1, 1⟩
abbrev NTC_CMP_CTRL_ARMED : Fld := ⟨.NTC_CMP_CTRL, 0, 0⟩
abbrev RTC_CTRL_CAPTURE : Fld := ⟨.RTC_CTRL, 8, 8⟩
abbrev RTC_CTRL_HALT : Fld := ⟨.RTC_CTRL, 0, 0⟩
abbrev RTC_TIME_HOUR : Fld := ⟨.RTC_TIME, 23, 16⟩
abbrev RTC_TIME_MIN : Fld := ⟨.RTC_TIME, 15, 8⟩
abbrev RTC_TIME_SEC : Fld := ⟨.RTC_TIME, 7, 0⟩
abbrev RTC_DATE_WDAY : Fld := ⟨.RTC_DATE, 26, 24⟩
abbrev RTC_DATE_YEAR : Fld := ⟨.RTC_DATE, 23, 16⟩
abbrev RTC_DATE_MONTH : Fld := ⟨.RTC_DATE, 15, 8⟩
abbrev RTC_DATE_DAY : Fld := ⟨.RTC_DATE, 7, 0⟩
abbrev RTC_SUB_SUB : Fld := ⟨.RTC_SUB, 7, 0⟩
abbrev RTC_CAPTIME_HOUR : Fld := ⟨.RTC_CAPTIME, 23, 16⟩
abbrev RTC_CAPTIME_MIN : Fld := ⟨.RTC_CAPTIME, 15, 8⟩
abbrev RTC_CAPTIME_SEC : Fld := ⟨.RTC_CAPTIME, 7, 0⟩
abbrev RTC_CAPDATE_WDAY : Fld := ⟨.RTC_CAPDATE, 26, 24⟩
abbrev RTC_CAPDATE_YEAR : Fld := ⟨.RTC_CAPDATE, 23, 16⟩
abbrev RTC_CAPDATE_MONTH : Fld := ⟨.RTC_CAPDATE, 15, 8⟩
abbrev RTC_CAPDATE_DAY : Fld := ⟨.RTC_CAPDATE, 7, 0⟩
abbrev RTC_CAPSUB_SUB : Fld := ⟨.RTC_CAPSUB, 7, 0⟩
abbrev RTC_ADJ_ADJ : Fld := ⟨.RTC_ADJ, 23, 0⟩
abbrev RTC_ALM_TIME_HOUR : Fld := ⟨.RTC_ALM_TIME, 23, 16⟩
abbrev RTC_ALM_TIME_MIN : Fld := ⟨.RTC_ALM_TIME, 15, 8⟩
abbrev RTC_ALM_TIME_SEC : Fld := ⟨.RTC_ALM_TIME, 7, 0⟩
abbrev RTC_ALM_DATE_YEAR : Fld := ⟨.RTC_ALM_DATE, 23, 16⟩
abbrev RTC_ALM_DATE_MONTH : Fld := ⟨.RTC_ALM_DATE, 15, 8⟩
abbrev RTC_ALM_DATE_DAY : Fld := ⟨.RTC_ALM_DATE, 7, 0⟩
abbrev RTC_ALM_CTRL_EN : Fld := ⟨.RTC_ALM_CTRL, 31, 31⟩
abbrev RTC_ALM_CTRL_REARM_BACK : Fld := ⟨.RTC_ALM_CTRL, 30, 30⟩
abbrev RTC_ALM_CTRL_MASK : Fld := ⟨.RTC_ALM_CTRL, 5, 0⟩
abbrev RTC_STAT_WLOCK : Fld := ⟨.RTC_STAT, 31, 31⟩
abbrev RTC_STAT_LOST : Fld := ⟨.RTC_STAT, 30, 30⟩
abbrev RTC_STAT_BAD_SET : Fld := ⟨.RTC_STAT, 29, 29⟩
abbrev RTC_STAT_WRAP : Fld := ⟨.RTC_STAT, 28, 28⟩
abbrev RTC_STAT_WDROP : Fld := ⟨.RTC_STAT, 27, 27⟩
abbrev RTC_STAT_VBAK_LOW : Fld := ⟨.RTC_STAT, 11, 11⟩
abbrev RTC_STAT_CHARGING : Fld := ⟨.RTC_STAT, 10, 10⟩
abbrev RTC_STAT_CAP_BUSY : Fld := ⟨.RTC_STAT, 9, 9⟩
abbrev RTC_STAT_WBUSY : Fld := ⟨.RTC_STAT, 8, 8⟩
abbrev RTC_STAT_ALM1_CAUSE : Fld := ⟨.RTC_STAT, 3, 3⟩
abbrev RTC_STAT_ALM0_CAUSE : Fld := ⟨.RTC_STAT, 2, 2⟩
abbrev RTC_STAT_ALM1 : Fld := ⟨.RTC_STAT, 1, 1⟩
abbrev RTC_STAT_ALM0 : Fld := ⟨.RTC_STAT, 0, 0⟩
abbrev RTC_TRICKLE_LIMIT : Fld := ⟨.RTC_TRICKLE, 4, 4⟩
abbrev RTC_TRICKLE_CURRENT : Fld := ⟨.RTC_TRICKLE, 1, 0⟩
abbrev RTC_NTOFS_SEC_SEC : Fld := ⟨.RTC_NTOFS_SEC, 31, 0⟩
abbrev RTC_NTOFS_TICK_TICK : Fld := ⟨.RTC_NTOFS_TICK, 26, 0⟩
abbrev RTC_BKP_BKP : Fld := ⟨.RTC_BKP, 31, 0⟩
abbrev MSU_OPEN_VALID : Fld := ⟨.MSU_OPEN, 31, 31⟩
abbrev MSU_OPEN_NUM : Fld := ⟨.MSU_OPEN, 5, 0⟩
abbrev MSU_STAT_WLOCK : Fld := ⟨.MSU_STAT, 31, 31⟩
abbrev MSU_STAT_OPEN_FAIL : Fld := ⟨.MSU_STAT, 30, 30⟩
abbrev MSU_STAT_CMD_ERR : Fld := ⟨.MSU_STAT, 29, 29⟩
abbrev MSU_STAT_RETIRE_ERR : Fld := ⟨.MSU_STAT, 28, 28⟩
abbrev MSU_STAT_OPEN_CNT : Fld := ⟨.MSU_STAT, 22, 16⟩
abbrev MSU_STAT_FE_CNT : Fld := ⟨.MSU_STAT, 14, 8⟩
abbrev MSU_CFG_WAIT_MAX : Fld := ⟨.MSU_CFG, 7, 0⟩
abbrev MSU_ACT_WORD : Fld := ⟨.MSU_ACT, 31, 0⟩
abbrev MSU_ADD_RES_VALID : Fld := ⟨.MSU_ADD_RES, 31, 31⟩
abbrev MSU_ADD_RES_ERR : Fld := ⟨.MSU_ADD_RES, 27, 24⟩
abbrev MSU_ADD_RES_HELD : Fld := ⟨.MSU_ADD_RES, 4, 0⟩
abbrev MSU_CMD_OP : Fld := ⟨.MSU_CMD, 31, 30⟩
abbrev MSU_CMD_POLICY : Fld := ⟨.MSU_CMD, 8, 8⟩
abbrev MSU_CMD_NUM : Fld := ⟨.MSU_CMD, 5, 0⟩
abbrev MSU_TPL_CFG_FE_RESERVE : Fld := ⟨.MSU_TPL_CFG, 15, 8⟩
abbrev MSU_TPL_CFG_ACK_EN : Fld := ⟨.MSU_TPL_CFG, 0, 0⟩
abbrev MSU_JHEAD_OFFSET : Fld := ⟨.MSU_JHEAD, 17, 0⟩
abbrev MSU_JTAIL_OFFSET : Fld := ⟨.MSU_JTAIL, 17, 0⟩
abbrev MSU_JFREE_BYTES : Fld := ⟨.MSU_JFREE, 17, 0⟩
abbrev MSU_JSEQ_NEXT : Fld := ⟨.MSU_JSEQ, 31, 0⟩
abbrev MSU_JRETIRE_JSEQ : Fld := ⟨.MSU_JRETIRE, 31, 0⟩
abbrev MSU_CSN_NEXT : Fld := ⟨.MSU_CSN, 31, 0⟩
abbrev MSU_REPLAY_SOURCE : Fld := ⟨.MSU_REPLAY, 1, 0⟩
abbrev MSU_RPSTAT_BUSY : Fld := ⟨.MSU_RPSTAT, 31, 31⟩
abbrev MSU_RPSTAT_DONE : Fld := ⟨.MSU_RPSTAT, 30, 30⟩
abbrev MSU_RPSTAT_RECORDS : Fld := ⟨.MSU_RPSTAT, 29, 16⟩
abbrev MSU_RPSTAT_CRECS : Fld := ⟨.MSU_RPSTAT, 15, 8⟩
abbrev MSU_RPSTAT_DISCARDED : Fld := ⟨.MSU_RPSTAT, 7, 0⟩
abbrev MSU_RPFAIL_FAILS : Fld := ⟨.MSU_RPFAIL, 15, 0⟩
abbrev MSU_MS_STAT_LAND_ERR : Fld := ⟨.MSU_MS_STAT, 31, 31⟩
abbrev MSU_MS_STAT_DROPPED : Fld := ⟨.MSU_MS_STAT, 30, 30⟩
abbrev MSU_MS_STAT_LAST_RESULT : Fld := ⟨.MSU_MS_STAT, 26, 24⟩
abbrev MSU_MS_STAT_OWNER : Fld := ⟨.MSU_MS_STAT, 23, 22⟩
abbrev MSU_MS_STAT_POLICY : Fld := ⟨.MSU_MS_STAT, 21, 21⟩
abbrev MSU_MS_STAT_ACTIONS : Fld := ⟨.MSU_MS_STAT, 20, 16⟩
abbrev MSU_MS_STAT_STATE : Fld := ⟨.MSU_MS_STAT, 2, 0⟩
abbrev MSU_TVAR_VALUE : Fld := ⟨.MSU_TVAR, 31, 0⟩
abbrev FLC_CMD_OP : Fld := ⟨.FLC_CMD, 31, 28⟩
abbrev FLC_CMD_NWORDS : Fld := ⟨.FLC_CMD, 27, 25⟩
abbrev FLC_CMD_OFFSET : Fld := ⟨.FLC_CMD, 24, 0⟩
abbrev FLC_STAT_WLOCK : Fld := ⟨.FLC_STAT, 31, 31⟩
abbrev FLC_STAT_CMD_ERR : Fld := ⟨.FLC_STAT, 30, 30⟩
abbrev FLC_STAT_SUSPENDED : Fld := ⟨.FLC_STAT, 29, 29⟩
abbrev FLC_STAT_ERASING : Fld := ⟨.FLC_STAT, 28, 28⟩
abbrev FLC_STAT_PAGING : Fld := ⟨.FLC_STAT, 27, 27⟩
abbrev FLC_STAT_BANKS : Fld := ⟨.FLC_STAT, 23, 20⟩
abbrev FLC_STAT_LAST_TAG : Fld := ⟨.FLC_STAT, 19, 16⟩
abbrev FLC_STAT_QUEUED : Fld := ⟨.FLC_STAT, 11, 8⟩
abbrev FLC_STAT_BUSY : Fld := ⟨.FLC_STAT, 0, 0⟩
abbrev FLC_RESULT_VALID : Fld := ⟨.FLC_RESULT, 31, 31⟩
abbrev FLC_RESULT_CODE : Fld := ⟨.FLC_RESULT, 27, 24⟩
abbrev FLC_RESULT_TAG : Fld := ⟨.FLC_RESULT, 23, 20⟩
abbrev FLC_SRC_ADDR : Fld := ⟨.FLC_SRC, 31, 0⟩
abbrev FLC_DATA_WORD : Fld := ⟨.FLC_DATA, 31, 0⟩
abbrev FLC_CFG_BTC_EN : Fld := ⟨.FLC_CFG, 9, 9⟩
abbrev FLC_CFG_PF_EN : Fld := ⟨.FLC_CFG, 8, 8⟩
abbrev FLC_CFG_FL_ECC_WARN : Fld := ⟨.FLC_CFG, 2, 0⟩
abbrev FLC_RDSTAT_WARN : Fld := ⟨.FLC_RDSTAT, 31, 31⟩
abbrev FLC_RDSTAT_UNCORR : Fld := ⟨.FLC_RDSTAT, 30, 30⟩
abbrev FLC_RDSTAT_PARTIAL_RD : Fld := ⟨.FLC_RDSTAT, 29, 29⟩
abbrev FLC_RDSTAT_WARN_CNT : Fld := ⟨.FLC_RDSTAT, 23, 16⟩
abbrev FLC_RDSTAT_LAST_CORR : Fld := ⟨.FLC_RDSTAT, 2, 0⟩
abbrev FLC_WARNADDR_OFFSET : Fld := ⟨.FLC_WARNADDR, 24, 0⟩
abbrev FLC_SUSPADDR_OFFSET : Fld := ⟨.FLC_SUSPADDR, 24, 0⟩
abbrev FLC_WEARIDX_KIND : Fld := ⟨.FLC_WEARIDX, 31, 31⟩
abbrev FLC_WEARIDX_INDEX : Fld := ⟨.FLC_WEARIDX, 11, 0⟩
abbrev FLC_WEAR_ERASES : Fld := ⟨.FLC_WEAR, 31, 0⟩
abbrev FLC_PART_BLANK : Fld := ⟨.FLC_PART, 31, 31⟩
abbrev FLC_PART_B : Fld := ⟨.FLC_PART, 20, 16⟩
abbrev FLC_PART_TOP : Fld := ⟨.FLC_PART, 5, 0⟩
abbrev FLC_TABSTAT_PARTIAL : Fld := ⟨.FLC_TABSTAT, 31, 24⟩
abbrev FLC_TABSTAT_GROWN : Fld := ⟨.FLC_TABSTAT, 23, 16⟩
abbrev FLC_TABSTAT_FACTORY : Fld := ⟨.FLC_TABSTAT, 15, 8⟩
abbrev FLC_TABSTAT_SPARES : Fld := ⟨.FLC_TABSTAT, 7, 0⟩
abbrev OTP_CTRL_KEY : Fld := ⟨.OTP_CTRL, 31, 16⟩
abbrev OTP_CTRL_OP : Fld := ⟨.OTP_CTRL, 15, 14⟩
abbrev OTP_CTRL_HALF : Fld := ⟨.OTP_CTRL, 13, 13⟩
abbrev OTP_CTRL_ROW : Fld := ⟨.OTP_CTRL, 6, 0⟩
abbrev OTP_STAT_WLOCK : Fld := ⟨.OTP_STAT, 31, 31⟩
abbrev OTP_STAT_DENIED : Fld := ⟨.OTP_STAT, 30, 30⟩
abbrev OTP_STAT_FAIL : Fld := ⟨.OTP_STAT, 29, 29⟩
abbrev OTP_STAT_BUSY : Fld := ⟨.OTP_STAT, 0, 0⟩
abbrev OTP_PDATA_DATA : Fld := ⟨.OTP_PDATA, 31, 0⟩
abbrev OTP_FUSE_DISAGREE : Fld := ⟨.OTP_FUSE, 31, 28⟩
abbrev OTP_FUSE_PS_SET : Fld := ⟨.OTP_FUSE, 21, 21⟩
abbrev OTP_FUSE_PART_SPLIT : Fld := ⟨.OTP_FUSE, 20, 16⟩
abbrev OTP_FUSE_SECVER : Fld := ⟨.OTP_FUSE, 13, 8⟩
abbrev OTP_FUSE_SECURE_BOOT : Fld := ⟨.OTP_FUSE, 3, 3⟩
abbrev OTP_FUSE_REGION_LOCK : Fld := ⟨.OTP_FUSE, 2, 2⟩
abbrev OTP_FUSE_FACTORY_CLOSE : Fld := ⟨.OTP_FUSE, 1, 1⟩
abbrev OTP_FUSE_DEBUG_DISABLE : Fld := ⟨.OTP_FUSE, 0, 0⟩
abbrev OTP_HSTAT_HIGH : Fld := ⟨.OTP_HSTAT, 3, 2⟩
abbrev OTP_HSTAT_LOW : Fld := ⟨.OTP_HSTAT, 1, 0⟩
abbrev OTP_ROW_BITS : Fld := ⟨.OTP_ROW, 31, 0⟩
abbrev DMC_CTRL_STOP : Fld := ⟨.DMC_CTRL, 1, 1⟩
abbrev DMC_CTRL_INIT : Fld := ⟨.DMC_CTRL, 0, 0⟩
abbrev DMC_STAT_WLOCK : Fld := ⟨.DMC_STAT, 31, 31⟩
abbrev DMC_STAT_LOST : Fld := ⟨.DMC_STAT, 30, 30⟩
abbrev DMC_STAT_INIT_ERR : Fld := ⟨.DMC_STAT, 27, 24⟩
abbrev DMC_STAT_STATE : Fld := ⟨.DMC_STAT, 18, 16⟩
abbrev DMC_STAT_READY : Fld := ⟨.DMC_STAT, 0, 0⟩
abbrev DMC_DEV_RANKS : Fld := ⟨.DMC_DEV, 17, 16⟩
abbrev DMC_DEV_MR8 : Fld := ⟨.DMC_DEV, 15, 8⟩
abbrev DMC_DEV_CAP : Fld := ⟨.DMC_DEV, 7, 0⟩
abbrev DMC_PAGE_IDLE : Fld := ⟨.DMC_PAGE, 7, 0⟩
abbrev DMC_TRAIN_TRACK_MS : Fld := ⟨.DMC_TRAIN, 23, 16⟩
abbrev DMC_TRAIN_RECENTRE : Fld := ⟨.DMC_TRAIN, 13, 8⟩
abbrev DMC_TRAIN_URGENT : Fld := ⟨.DMC_TRAIN, 5, 0⟩
abbrev DMC_DRIFT_RECENTRES : Fld := ⟨.DMC_DRIFT, 31, 24⟩
abbrev DMC_DRIFT_RDEYE : Fld := ⟨.DMC_DRIFT, 23, 16⟩
abbrev DMC_DRIFT_WREYE : Fld := ⟨.DMC_DRIFT, 15, 8⟩
abbrev DMC_DRIFT_DRIFT : Fld := ⟨.DMC_DRIFT, 7, 0⟩
abbrev DMC_SCRUB_PERIOD : Fld := ⟨.DMC_SCRUB, 7, 0⟩
abbrev DMC_SCRUBPOS_ADDR : Fld := ⟨.DMC_SCRUBPOS, 31, 0⟩
abbrev DMC_FILLPOS_ADDR : Fld := ⟨.DMC_FILLPOS, 31, 0⟩
abbrev DMC_ERRCNT_CORRECTED : Fld := ⟨.DMC_ERRCNT, 31, 16⟩
abbrev DMC_ERRCNT_UNCORR : Fld := ⟨.DMC_ERRCNT, 15, 0⟩
abbrev DMC_ERRADDR_ADDR : Fld := ⟨.DMC_ERRADDR, 31, 0⟩
abbrev ERR_CFG_CONSEC_MAX : Fld := ⟨.ERR_CFG, 11, 8⟩
abbrev ERR_CFG_LOG_S0 : Fld := ⟨.ERR_CFG, 0, 0⟩
abbrev ERR_STAT_WLOCK : Fld := ⟨.ERR_STAT, 31, 31⟩
abbrev ERR_STAT_OVERFLOW : Fld := ⟨.ERR_STAT, 30, 30⟩
abbrev ERR_STAT_ACK_ERR : Fld := ⟨.ERR_STAT, 29, 29⟩
abbrev ERR_STAT_ESCALATED : Fld := ⟨.ERR_STAT, 28, 28⟩
abbrev ERR_STAT_CONSEC : Fld := ⟨.ERR_STAT, 27, 24⟩
abbrev ERR_STAT_UNHANDLED : Fld := ⟨.ERR_STAT, 8, 0⟩
abbrev ERR_CUR_VALID : Fld := ⟨.ERR_CUR, 31, 31⟩
abbrev ERR_CUR_CLASS : Fld := ⟨.ERR_CUR, 9, 8⟩
abbrev ERR_CUR_INDEX : Fld := ⟨.ERR_CUR, 7, 0⟩
abbrev ERR_ACK_INDEX : Fld := ⟨.ERR_ACK, 7, 0⟩
abbrev ERR_CLSCNT_S3 : Fld := ⟨.ERR_CLSCNT, 31, 24⟩
abbrev ERR_CLSCNT_S2 : Fld := ⟨.ERR_CLSCNT, 23, 16⟩
abbrev ERR_CLSCNT_S1 : Fld := ⟨.ERR_CLSCNT, 15, 8⟩
abbrev ERR_CLSCNT_S0 : Fld := ⟨.ERR_CLSCNT, 7, 0⟩
abbrev ERR_DROPPED_COUNT : Fld := ⟨.ERR_DROPPED, 15, 0⟩
abbrev ERR_NEWEST_HAS : Fld := ⟨.ERR_NEWEST, 8, 8⟩
abbrev ERR_NEWEST_INDEX : Fld := ⟨.ERR_NEWEST, 7, 0⟩
abbrev ERR_REPORT_CLASS : Fld := ⟨.ERR_REPORT, 29, 28⟩
abbrev ERR_REPORT_CODE : Fld := ⟨.ERR_REPORT, 15, 0⟩
abbrev ERR_WDT_CFG_EN : Fld := ⟨.ERR_WDT_CFG, 31, 31⟩
abbrev ERR_WDT_CFG_WIN : Fld := ⟨.ERR_WDT_CFG, 18, 16⟩
abbrev ERR_WDT_CFG_TIMEOUT : Fld := ⟨.ERR_WDT_CFG, 15, 0⟩
abbrev ERR_WDT_KICK_KEY : Fld := ⟨.ERR_WDT_KICK, 15, 0⟩
abbrev ERR_WDT_STAT_BADKICK : Fld := ⟨.ERR_WDT_STAT, 31, 31⟩
abbrev ERR_WDT_STAT_HELD : Fld := ⟨.ERR_WDT_STAT, 30, 30⟩
abbrev ERR_WDT_STAT_FROZEN : Fld := ⟨.ERR_WDT_STAT, 29, 29⟩
abbrev ERR_WDT_STAT_LEFT : Fld := ⟨.ERR_WDT_STAT, 15, 0⟩
abbrev ERR_TEL_WORD : Fld := ⟨.ERR_TEL, 31, 0⟩
abbrev ERR_LOG_WORD : Fld := ⟨.ERR_LOG, 31, 0⟩
abbrev CTL_CFG_SCAN_TRIES : Fld := ⟨.CTL_CFG, 15, 8⟩
abbrev CTL_CFG_MODE : Fld := ⟨.CTL_CFG, 1, 0⟩
abbrev CTL_STAT_WLOCK : Fld := ⟨.CTL_STAT, 31, 31⟩
abbrev CTL_STAT_LOCKOUT : Fld := ⟨.CTL_STAT, 30, 30⟩
abbrev CTL_STAT_TKEY_OK : Fld := ⟨.CTL_STAT, 29, 29⟩
abbrev CTL_STAT_RKEY_OK : Fld := ⟨.CTL_STAT, 28, 28⟩
abbrev CTL_STAT_FIELD : Fld := ⟨.CTL_STAT, 27, 27⟩
abbrev CTL_STAT_READER_ON : Fld := ⟨.CTL_STAT, 26, 26⟩
abbrev CTL_STAT_FAILS : Fld := ⟨.CTL_STAT, 15, 12⟩
abbrev CTL_STAT_TAG_STATE : Fld := ⟨.CTL_STAT, 2, 0⟩
abbrev CTL_HOLD_HOLD_ACT : Fld := ⟨.CTL_HOLD, 1, 1⟩
abbrev CTL_HOLD_REQ : Fld := ⟨.CTL_HOLD, 0, 0⟩
abbrev CTL_LOCK_MASK : Fld := ⟨.CTL_LOCK, 31, 0⟩
abbrev CTL_OPENRD_MASK : Fld := ⟨.CTL_OPENRD, 31, 0⟩
abbrev CTL_TIDENT_IDENT : Fld := ⟨.CTL_TIDENT, 31, 0⟩
abbrev CTL_TSTATUS_STATUS : Fld := ⟨.CTL_TSTATUS, 31, 0⟩
abbrev CTL_TSTATUS2_STATUS : Fld := ⟨.CTL_TSTATUS2, 31, 16⟩
abbrev CTL_TKEY_KEY : Fld := ⟨.CTL_TKEY, 31, 0⟩
abbrev CTL_RKEY_KEY : Fld := ⟨.CTL_RKEY, 31, 0⟩
abbrev CTL_PADCFG_THR : Fld := ⟨.CTL_PADCFG, 7, 0⟩
abbrev CTL_PADSTAT_TOUCH : Fld := ⟨.CTL_PADSTAT, 31, 31⟩
abbrev CTL_PADSTAT_BASELINE : Fld := ⟨.CTL_PADSTAT, 23, 12⟩
abbrev CTL_PADSTAT_LAST : Fld := ⟨.CTL_PADSTAT, 11, 0⟩
abbrev CTL_RDRES_VALID : Fld := ⟨.CTL_RDRES, 31, 31⟩
abbrev CTL_RDRES_MULTI : Fld := ⟨.CTL_RDRES, 30, 30⟩
abbrev CTL_RDRES_EXT : Fld := ⟨.CTL_RDRES, 29, 29⟩
abbrev CTL_RDRES_UIDLEN : Fld := ⟨.CTL_RDRES, 23, 20⟩
abbrev CTL_RDRES_KIND : Fld := ⟨.CTL_RDRES, 19, 16⟩
abbrev CTL_RDRES_COUNT : Fld := ⟨.CTL_RDRES, 15, 8⟩
abbrev CTL_RDRES_CODE : Fld := ⟨.CTL_RDRES, 3, 0⟩
abbrev CTL_RDUID_UID : Fld := ⟨.CTL_RDUID, 31, 0⟩
abbrev CTL_TMEM_DATA : Fld := ⟨.CTL_TMEM, 31, 0⟩
abbrev SCHED_CTRL_OP : Fld := ⟨.SCHED_CTRL, 31, 30⟩
abbrev SCHED_CTRL_RUN : Fld := ⟨.SCHED_CTRL, 8, 8⟩
abbrev SCHED_CTRL_QUEUE : Fld := ⟨.SCHED_CTRL, 7, 0⟩
abbrev SCHED_STAT_WLOCK : Fld := ⟨.SCHED_STAT, 31, 31⟩
abbrev SCHED_STAT_RUNNING : Fld := ⟨.SCHED_STAT, 16, 16⟩
abbrev SCHED_STAT_POOL_FREE : Fld := ⟨.SCHED_STAT, 12, 0⟩
abbrev SCHED_PUSH0_ADDR : Fld := ⟨.SCHED_PUSH0, 31, 0⟩
abbrev SCHED_PUSH1_QUEUE : Fld := ⟨.SCHED_PUSH1, 23, 16⟩
abbrev SCHED_PUSH1_LENGTH : Fld := ⟨.SCHED_PUSH1, 13, 0⟩
abbrev SCHED_PUSH_RES_VALID : Fld := ⟨.SCHED_PUSH_RES, 31, 31⟩
abbrev SCHED_PUSH_RES_ERR : Fld := ⟨.SCHED_PUSH_RES, 27, 24⟩
abbrev SCHED_PUSH_RES_DEPTH : Fld := ⟨.SCHED_PUSH_RES, 12, 0⟩
abbrev SCHED_RRESULT_VALID : Fld := ⟨.SCHED_RRESULT, 31, 31⟩
abbrev SCHED_RRESULT_CODE : Fld := ⟨.SCHED_RRESULT, 26, 24⟩
abbrev SCHED_RRESULT_RQ : Fld := ⟨.SCHED_RRESULT, 19, 16⟩
abbrev SCHED_RRESULT_DESC : Fld := ⟨.SCHED_RRESULT, 15, 0⟩
abbrev SCHED_GATE_CTRL_SWAP_PEND : Fld := ⟨.SCHED_GATE_CTRL, 9, 9⟩
abbrev SCHED_GATE_CTRL_ACTIVE : Fld := ⟨.SCHED_GATE_CTRL, 8, 8⟩
abbrev SCHED_GATE_CTRL_SWAP : Fld := ⟨.SCHED_GATE_CTRL, 1, 1⟩
abbrev SCHED_GATE_CTRL_GATE_EN : Fld := ⟨.SCHED_GATE_CTRL, 0, 0⟩
abbrev SCHED_GATE_STAT_STATE_CUR : Fld := ⟨.SCHED_GATE_STAT, 15, 8⟩
abbrev SCHED_GATE_STAT_ENTRY : Fld := ⟨.SCHED_GATE_STAT, 5, 0⟩
abbrev SCHED_GL_BASESEC_SEC : Fld := ⟨.SCHED_GL_BASESEC, 31, 0⟩
abbrev SCHED_GL_BASETICK_TICK : Fld := ⟨.SCHED_GL_BASETICK, 26, 0⟩
abbrev SCHED_GL_CYCLE_CYCLE : Fld := ⟨.SCHED_GL_CYCLE, 31, 0⟩
abbrev SCHED_GL_LEN_LEN : Fld := ⟨.SCHED_GL_LEN, 6, 0⟩
abbrev SCHED_GCL_STATE : Fld := ⟨.SCHED_GCL, 31, 24⟩
abbrev SCHED_GCL_DUR : Fld := ⟨.SCHED_GCL, 23, 0⟩
abbrev SCHED_Q_CFG_OWNER : Fld := ⟨.SCHED_Q_CFG, 31, 30⟩
abbrev SCHED_Q_CFG_UTYPE : Fld := ⟨.SCHED_Q_CFG, 29, 29⟩
abbrev SCHED_Q_CFG_BAND : Fld := ⟨.SCHED_Q_CFG, 26, 24⟩
abbrev SCHED_Q_CFG_WEIGHT : Fld := ⟨.SCHED_Q_CFG, 23, 16⟩
abbrev SCHED_Q_CFG_LIMIT : Fld := ⟨.SCHED_Q_CFG, 12, 0⟩
abbrev SCHED_Q_RATE_RATE : Fld := ⟨.SCHED_Q_RATE, 15, 0⟩
abbrev SCHED_Q_BURST_BURST : Fld := ⟨.SCHED_Q_BURST, 20, 0⟩
abbrev SCHED_Q_STAT_HELD_LEDGER : Fld := ⟨.SCHED_Q_STAT, 31, 31⟩
abbrev SCHED_Q_STAT_HELD_BUCKET : Fld := ⟨.SCHED_Q_STAT, 30, 30⟩
abbrev SCHED_Q_STAT_HELD_GATE : Fld := ⟨.SCHED_Q_STAT, 29, 29⟩
abbrev SCHED_Q_STAT_DEPTH : Fld := ⟨.SCHED_Q_STAT, 28, 16⟩
abbrev SCHED_Q_STAT_IN_UNIT : Fld := ⟨.SCHED_Q_STAT, 0, 0⟩
abbrev SCHED_Q_TOKENS_COUNT : Fld := ⟨.SCHED_Q_TOKENS, 31, 0⟩
abbrev SCHED_Q_VTAG_S : Fld := ⟨.SCHED_Q_VTAG, 31, 0⟩
abbrev RF_CTRL_ATTEN : Fld := ⟨.RF_CTRL, 10, 8⟩
abbrev RF_CTRL_AGC : Fld := ⟨.RF_CTRL, 4, 4⟩
abbrev RF_CTRL_EN : Fld := ⟨.RF_CTRL, 0, 0⟩
abbrev RF_LO_LO : Fld := ⟨.RF_LO, 31, 0⟩
abbrev RF_STAT_WLOCK : Fld := ⟨.RF_STAT, 31, 31⟩
abbrev RF_STAT_RANGE_ERR : Fld := ⟨.RF_STAT, 30, 30⟩
abbrev RF_STAT_CLIP : Fld := ⟨.RF_STAT, 29, 29⟩
abbrev RF_STAT_ATTEN_CUR : Fld := ⟨.RF_STAT, 10, 8⟩
abbrev RF_STAT_BLANKED : Fld := ⟨.RF_STAT, 2, 2⟩
abbrev RF_STAT_RX_READY : Fld := ⟨.RF_STAT, 1, 1⟩
abbrev RF_STAT_ENABLED : Fld := ⟨.RF_STAT, 0, 0⟩
abbrev RF_CALOFS_IQP_OFS : Fld := ⟨.RF_CALOFS, 23, 16⟩
abbrev RF_CALOFS_IQG_OFS : Fld := ⟨.RF_CALOFS, 15, 8⟩
abbrev RF_CALOFS_RSSI_OFS : Fld := ⟨.RF_CALOFS, 7, 0⟩
abbrev RF_SYNCFG_CLEAR : Fld := ⟨.RF_SYNCFG, 1, 1⟩
abbrev RF_SYNCFG_STORE : Fld := ⟨.RF_SYNCFG, 0, 0⟩
abbrev RF_SYNSTAT_ENTRIES : Fld := ⟨.RF_SYNSTAT, 24, 16⟩
abbrev RF_SYNSTAT_TAB_MISS : Fld := ⟨.RF_SYNSTAT, 8, 8⟩
abbrev RF_SYNSTAT_SYN_STATE : Fld := ⟨.RF_SYNSTAT, 1, 0⟩
abbrev RF_SYNTAB_IDX_INDEX : Fld := ⟨.RF_SYNTAB_IDX, 7, 0⟩
abbrev RF_SYNTAB_FREQ_FREQ : Fld := ⟨.RF_SYNTAB_FREQ, 31, 0⟩
abbrev RF_SYNTAB_INFO_VALID : Fld := ⟨.RF_SYNTAB_INFO, 31, 31⟩
abbrev RF_SYNTAB_INFO_TEMP : Fld := ⟨.RF_SYNTAB_INFO, 23, 16⟩
abbrev RF_SYNTAB_INFO_AGE : Fld := ⟨.RF_SYNTAB_INFO, 15, 0⟩
abbrev LANE_CTRL_KILL : Fld := ⟨.LANE_CTRL, 1, 1⟩
abbrev LANE_CTRL_EN : Fld := ⟨.LANE_CTRL, 0, 0⟩
abbrev LANE_PROFILE_PORT : Fld := ⟨.LANE_PROFILE, 8, 8⟩
abbrev LANE_PROFILE_PROFILE : Fld := ⟨.LANE_PROFILE, 3, 0⟩
abbrev LANE_OFFSET_OFFSET : Fld := ⟨.LANE_OFFSET, 31, 0⟩
abbrev LANE_STAT_PLACE_ERR : Fld := ⟨.LANE_STAT, 18, 18⟩
abbrev LANE_STAT_CUT : Fld := ⟨.LANE_STAT, 17, 17⟩
abbrev LANE_STAT_CTX_MISS : Fld := ⟨.LANE_STAT, 16, 16⟩
abbrev LANE_STAT_CAL_DUE : Fld := ⟨.LANE_STAT, 8, 8⟩
abbrev LANE_STAT_UNITS : Fld := ⟨.LANE_STAT, 6, 4⟩
abbrev LANE_STAT_DISABLING : Fld := ⟨.LANE_STAT, 3, 3⟩
abbrev LANE_STAT_STATE : Fld := ⟨.LANE_STAT, 2, 0⟩
abbrev LANE_LAST_VALID : Fld := ⟨.LANE_LAST, 31, 31⟩
abbrev LANE_LAST_GAIN_STEP : Fld := ⟨.LANE_LAST, 30, 30⟩
abbrev LANE_LAST_DESENSE : Fld := ⟨.LANE_LAST, 29, 29⟩
abbrev LANE_LAST_CODED : Fld := ⟨.LANE_LAST, 28, 28⟩
abbrev LANE_LAST_SYNC_ERRS : Fld := ⟨.LANE_LAST, 26, 24⟩
abbrev LANE_LAST_QUALITY : Fld := ⟨.LANE_LAST, 23, 16⟩
abbrev LANE_LAST_RSSI : Fld := ⟨.LANE_LAST, 15, 0⟩
abbrev LANE_FOFS_FOFS : Fld := ⟨.LANE_FOFS, 31, 0⟩
abbrev LANE_CAL_IMAGE_REJ : Fld := ⟨.LANE_CAL, 23, 16⟩
abbrev LANE_CAL_CAL_AGE : Fld := ⟨.LANE_CAL, 15, 0⟩
abbrev LANE_CNT_SYNC_COUNT : Fld := ⟨.LANE_CNT_SYNC, 31, 0⟩
abbrev LANE_CNT_HDRERR_COUNT : Fld := ⟨.LANE_CNT_HDRERR, 31, 0⟩
abbrev LANE_CNT_CTXMISS_COUNT : Fld := ⟨.LANE_CNT_CTXMISS, 31, 0⟩
abbrev LANE_CNT_CUT_COUNT : Fld := ⟨.LANE_CNT_CUT, 31, 0⟩
abbrev LANE_CNT_FRAMES_COUNT : Fld := ⟨.LANE_CNT_FRAMES, 31, 0⟩
abbrev LANE_BANK_CTRL_RUN : Fld := ⟨.LANE_BANK_CTRL, 0, 0⟩
abbrev LANE_BANK_STAT_WLOCK : Fld := ⟨.LANE_BANK_STAT, 31, 31⟩
abbrev LANE_BANK_STAT_BUDGET_ERR : Fld := ⟨.LANE_BANK_STAT, 30, 30⟩
abbrev LANE_BANK_STAT_START_ERR : Fld := ⟨.LANE_BANK_STAT, 29, 29⟩
abbrev LANE_BANK_STAT_LANES : Fld := ⟨.LANE_BANK_STAT, 23, 16⟩
abbrev LANE_BANK_STAT_UNITS : Fld := ⟨.LANE_BANK_STAT, 15, 8⟩
abbrev LANE_BANK_STAT_RUNNING : Fld := ⟨.LANE_BANK_STAT, 0, 0⟩
abbrev LANE_BANK_CALCFG_CAL_MAX : Fld := ⟨.LANE_BANK_CALCFG, 7, 0⟩
abbrev LANE_BANK_CTXMISS_COUNT : Fld := ⟨.LANE_BANK_CTXMISS, 31, 0⟩
abbrev LANE_PT_MOD_COST : Fld := ⟨.LANE_PT_MOD, 18, 16⟩
abbrev LANE_PT_MOD_CODED_ONLY : Fld := ⟨.LANE_PT_MOD, 12, 12⟩
abbrev LANE_PT_MOD_HDR_REP : Fld := ⟨.LANE_PT_MOD, 10, 9⟩
abbrev LANE_PT_MOD_HDR_CODED : Fld := ⟨.LANE_PT_MOD, 8, 8⟩
abbrev LANE_PT_MOD_BT : Fld := ⟨.LANE_PT_MOD, 5, 5⟩
abbrev LANE_PT_MOD_MOD : Fld := ⟨.LANE_PT_MOD, 4, 4⟩
abbrev LANE_PT_MOD_SRATE : Fld := ⟨.LANE_PT_MOD, 2, 0⟩
abbrev LANE_PT_SYNC_SYNC_ERR : Fld := ⟨.LANE_PT_SYNC, 10, 8⟩
abbrev LANE_PT_SYNC_SYNC_LEN : Fld := ⟨.LANE_PT_SYNC, 5, 0⟩
abbrev LANE_PT_WORD_WORD : Fld := ⟨.LANE_PT_WORD, 31, 0⟩
abbrev LANE_PT_LEN_MAX_LEN : Fld := ⟨.LANE_PT_LEN, 26, 16⟩
abbrev LANE_PT_LEN_MIN_LEN : Fld := ⟨.LANE_PT_LEN, 10, 0⟩
abbrev LANE_PT_RX_AFC : Fld := ⟨.LANE_PT_RX, 23, 16⟩
abbrev LANE_PT_RX_SQUELCH : Fld := ⟨.LANE_PT_RX, 15, 8⟩
abbrev LANE_PT_RX_CHBW : Fld := ⟨.LANE_PT_RX, 2, 0⟩
abbrev LANE_PT_DEV_DEV : Fld := ⟨.LANE_PT_DEV, 15, 0⟩
abbrev TXP_CFG_LBT_BACKOFF : Fld := ⟨.TXP_CFG, 15, 8⟩
abbrev TXP_CFG_LBT_TRIES : Fld := ⟨.TXP_CFG, 3, 0⟩
abbrev TXP_HOSTCFG_WAKE_REPEAT : Fld := ⟨.TXP_HOSTCFG, 19, 16⟩
abbrev TXP_HOSTCFG_PRE : Fld := ⟨.TXP_HOSTCFG, 15, 8⟩
abbrev TXP_HOSTCFG_CODED : Fld := ⟨.TXP_HOSTCFG, 4, 4⟩
abbrev TXP_HOSTCFG_PROFILE : Fld := ⟨.TXP_HOSTCFG, 3, 0⟩
abbrev TXP_STAT_WLOCK : Fld := ⟨.TXP_STAT, 31, 31⟩
abbrev TXP_STAT_CLAMP : Fld := ⟨.TXP_STAT, 30, 30⟩
abbrev TXP_STAT_SUBMIT_ERR : Fld := ⟨.TXP_STAT, 29, 29⟩
abbrev TXP_STAT_LOCKED : Fld := ⟨.TXP_STAT, 28, 28⟩
abbrev TXP_STAT_LAST_TAG : Fld := ⟨.TXP_STAT, 21, 16⟩
abbrev TXP_STAT_TL_COUNT : Fld := ⟨.TXP_STAT, 14, 8⟩
abbrev TXP_STAT_AIRING : Fld := ⟨.TXP_STAT, 2, 2⟩
abbrev TXP_STAT_PHASE_PORT : Fld := ⟨.TXP_STAT, 1, 0⟩
abbrev TXP_SUBMIT_WORD : Fld := ⟨.TXP_SUBMIT, 31, 0⟩
abbrev TXP_RESULT_VALID : Fld := ⟨.TXP_RESULT, 31, 31⟩
abbrev TXP_RESULT_REFUSED : Fld := ⟨.TXP_RESULT, 30, 30⟩
abbrev TXP_RESULT_CODE : Fld := ⟨.TXP_RESULT, 26, 24⟩
abbrev TXP_RESULT_TAG : Fld := ⟨.TXP_RESULT, 21, 16⟩
abbrev TXP_RESULT_LATE : Fld := ⟨.TXP_RESULT, 15, 0⟩
abbrev TXP_RESULT_NT_A_SEC : Fld := ⟨.TXP_RESULT_NT, 31, 27⟩
abbrev TXP_RESULT_NT_A_TICK : Fld := ⟨.TXP_RESULT_NT, 26, 0⟩
abbrev TXP_FEMCFG_RXPINS : Fld := ⟨.TXP_FEMCFG, 13, 8⟩
abbrev TXP_FEMCFG_DN_LEN : Fld := ⟨.TXP_FEMCFG, 7, 4⟩
abbrev TXP_FEMCFG_UP_LEN : Fld := ⟨.TXP_FEMCFG, 3, 0⟩
abbrev TXP_FEMSEQ_STEP_DRV : Fld := ⟨.TXP_FEMSEQ_STEP, 31, 31⟩
abbrev TXP_FEMSEQ_STEP_PINS : Fld := ⟨.TXP_FEMSEQ_STEP, 29, 24⟩
abbrev TXP_FEMSEQ_STEP_BIAS : Fld := ⟨.TXP_FEMSEQ_STEP, 23, 16⟩
abbrev TXP_FEMSEQ_STEP_DELAY : Fld := ⟨.TXP_FEMSEQ_STEP, 15, 0⟩
abbrev TXP_LEDGER_BALANCE : Fld := ⟨.TXP_LEDGER, 31, 0⟩
abbrev TXP_RGN_WORD : Fld := ⟨.TXP_RGN, 31, 0⟩
abbrev FRM_CFG_TWIN_UNDISC : Fld := ⟨.FRM_CFG, 23, 16⟩
abbrev FRM_CFG_TWIN : Fld := ⟨.FRM_CFG, 15, 8⟩
abbrev FRM_CFG_TREJ_ACK : Fld := ⟨.FRM_CFG, 0, 0⟩
abbrev FRM_STAT_WLOCK : Fld := ⟨.FRM_STAT, 31, 31⟩
abbrev FRM_STAT_VAULT_ERR : Fld := ⟨.FRM_STAT, 30, 30⟩
abbrev FRM_STAT_COLD : Fld := ⟨.FRM_STAT, 29, 29⟩
abbrev FRM_STAT_UNDISC : Fld := ⟨.FRM_STAT, 28, 28⟩
abbrev FRM_STAT_CTX_INUSE : Fld := ⟨.FRM_STAT, 26, 16⟩
abbrev FRM_STAT_CTX_PEAK : Fld := ⟨.FRM_STAT, 10, 0⟩
abbrev FRM_NODE_NODE : Fld := ⟨.FRM_NODE, 31, 0⟩
abbrev FRM_VAULT_SEL_OP : Fld := ⟨.FRM_VAULT_SEL, 31, 30⟩
abbrev FRM_VAULT_SEL_GROUP : Fld := ⟨.FRM_VAULT_SEL, 13, 8⟩
abbrev FRM_VAULT_SEL_EPOCH : Fld := ⟨.FRM_VAULT_SEL, 7, 0⟩
abbrev FRM_VAULT_KEY_KEY : Fld := ⟨.FRM_VAULT_KEY, 31, 0⟩
abbrev FRM_DUP_CFG_BASE : Fld := ⟨.FRM_DUP_CFG, 31, 25⟩
abbrev FRM_DUP_CFG_FLUSH : Fld := ⟨.FRM_DUP_CFG, 1, 1⟩
abbrev FRM_DUP_CFG_EN : Fld := ⟨.FRM_DUP_CFG, 0, 0⟩
abbrev FRM_DUP_STAT_OCCUPANCY : Fld := ⟨.FRM_DUP_STAT, 31, 16⟩
abbrev FRM_DUP_STAT_COLD_LEFT : Fld := ⟨.FRM_DUP_STAT, 7, 0⟩
abbrev FRM_DL_CFG_GUARD : Fld := ⟨.FRM_DL_CFG, 31, 24⟩
abbrev FRM_DL_CFG_DETOUR_GAP : Fld := ⟨.FRM_DL_CFG, 23, 16⟩
abbrev FRM_DL_CFG_DETOUR_PROFILE : Fld := ⟨.FRM_DL_CFG, 15, 12⟩
abbrev FRM_DL_CFG_DETOUR_REPEAT : Fld := ⟨.FRM_DL_CFG, 11, 8⟩
abbrev FRM_DL_CFG_DETOUR_PORT : Fld := ⟨.FRM_DL_CFG, 3, 3⟩
abbrev FRM_DL_CFG_DL_EN : Fld := ⟨.FRM_DL_CFG, 0, 0⟩
abbrev FRM_DL_WAKEFREQ_FREQ : Fld := ⟨.FRM_DL_WAKEFREQ, 31, 0⟩
abbrev FRM_DL_DETOURFREQ_FREQ : Fld := ⟨.FRM_DL_DETOURFREQ, 31, 0⟩
abbrev FRM_CNT_COUNT : Fld := ⟨.FRM_CNT, 31, 0⟩
abbrev FRM_EPOCH_ACTIVE : Fld := ⟨.FRM_EPOCH, 8, 8⟩
abbrev FRM_EPOCH_CUR : Fld := ⟨.FRM_EPOCH, 7, 0⟩
abbrev WUR_CFG_GROUP_EN : Fld := ⟨.WUR_CFG, 25, 25⟩
abbrev WUR_CFG_EN : Fld := ⟨.WUR_CFG, 24, 24⟩
abbrev WUR_CFG_GROUP : Fld := ⟨.WUR_CFG, 23, 16⟩
abbrev WUR_CFG_ADDR : Fld := ⟨.WUR_CFG, 15, 0⟩
abbrev WUR_STAT_MATCH : Fld := ⟨.WUR_STAT, 31, 31⟩
abbrev WUR_STAT_CHK_ERRS : Fld := ⟨.WUR_STAT, 27, 16⟩
abbrev WUR_STAT_VALID_CNT : Fld := ⟨.WUR_STAT, 15, 0⟩
abbrev WUR_LAST_GROUP : Fld := ⟨.WUR_LAST, 23, 16⟩
abbrev WUR_LAST_ADDR : Fld := ⟨.WUR_LAST, 15, 0⟩
abbrev LP_CFG_UP_TRY : Fld := ⟨.LP_CFG, 31, 24⟩
abbrev LP_CFG_SYNC_TOL : Fld := ⟨.LP_CFG, 19, 16⟩
abbrev LP_CFG_MARGIN_MIN : Fld := ⟨.LP_CFG, 11, 8⟩
abbrev LP_CFG_UPSTREAM : Fld := ⟨.LP_CFG, 5, 5⟩
abbrev LP_CFG_FALLBACK : Fld := ⟨.LP_CFG, 4, 4⟩
abbrev LP_CFG_MODE : Fld := ⟨.LP_CFG, 3, 2⟩
abbrev LP_CFG_ROLE : Fld := ⟨.LP_CFG, 1, 0⟩
abbrev LP_CTRL_WAKE_PEER : Fld := ⟨.LP_CTRL, 2, 2⟩
abbrev LP_CTRL_CLR_CNT : Fld := ⟨.LP_CTRL, 1, 1⟩
abbrev LP_CTRL_RETRAIN : Fld := ⟨.LP_CTRL, 0, 0⟩
abbrev LP_STAT_WLOCK : Fld := ⟨.LP_STAT, 31, 31⟩
abbrev LP_STAT_BEACON_SEEN : Fld := ⟨.LP_STAT, 30, 30⟩
abbrev LP_STAT_WAKE_FAIL : Fld := ⟨.LP_STAT, 29, 29⟩
abbrev LP_STAT_ROLE_CONFLICT : Fld := ⟨.LP_STAT, 28, 28⟩
abbrev LP_STAT_TRAIN_FAIL : Fld := ⟨.LP_STAT, 27, 27⟩
abbrev LP_STAT_TSNEW : Fld := ⟨.LP_STAT, 26, 26⟩
abbrev LP_STAT_TSOVR : Fld := ⟨.LP_STAT, 25, 25⟩
abbrev LP_STAT_MODE_CUR : Fld := ⟨.LP_STAT, 11, 10⟩
abbrev LP_STAT_TIME_MASTER : Fld := ⟨.LP_STAT, 9, 9⟩
abbrev LP_STAT_MASTER : Fld := ⟨.LP_STAT, 8, 8⟩
abbrev LP_STAT_UP : Fld := ⟨.LP_STAT, 4, 4⟩
abbrev LP_STAT_STATE : Fld := ⟨.LP_STAT, 3, 0⟩
abbrev LP_QUAL_MARGIN : Fld := ⟨.LP_QUAL, 31, 16⟩
abbrev LP_QUAL_SNR : Fld := ⟨.LP_QUAL, 15, 0⟩
abbrev LP_PEER_NODE : Fld := ⟨.LP_PEER, 31, 0⟩
abbrev LP_PEERINFO_WANT : Fld := ⟨.LP_PEERINFO, 9, 8⟩
abbrev LP_PEERINFO_THROUGH : Fld := ⟨.LP_PEERINFO, 2, 2⟩
abbrev LP_PEERINFO_UPSTREAM : Fld := ⟨.LP_PEERINFO, 1, 1⟩
abbrev LP_PEERINFO_FALLBACK : Fld := ⟨.LP_PEERINFO, 0, 0⟩
abbrev LP_CNT_COUNT : Fld := ⟨.LP_CNT, 31, 0⟩
abbrev LP_TS_SEC_SEC : Fld := ⟨.LP_TS_SEC, 31, 0⟩
abbrev LP_TS_SUB_FRAC : Fld := ⟨.LP_TS_SUB, 30, 27⟩
abbrev LP_TS_SUB_TICK : Fld := ⟨.LP_TS_SUB, 26, 0⟩
abbrev LP_TSSEQ_SEQ : Fld := ⟨.LP_TSSEQ, 15, 0⟩
abbrev LP_TSCFG_ASYM : Fld := ⟨.LP_TSCFG, 31, 16⟩
abbrev LP_TSCFG_TXLAT_OFS : Fld := ⟨.LP_TSCFG, 15, 8⟩
abbrev LP_TSCFG_RXLAT_OFS : Fld := ⟨.LP_TSCFG, 7, 0⟩
abbrev LP_WAKECFG_WAKE_TRIES : Fld := ⟨.LP_WAKECFG, 27, 24⟩
abbrev LP_WAKECFG_WAKE_WAIT : Fld := ⟨.LP_WAKECFG, 23, 16⟩
abbrev LP_WAKECFG_ED_THR : Fld := ⟨.LP_WAKECFG, 15, 8⟩
abbrev LP_WAKECFG_MODE : Fld := ⟨.LP_WAKECFG, 0, 0⟩
abbrev CL_CXDEC_VALID : Fld := ⟨.CL_CXDEC, 31, 31⟩
abbrev CL_CXDEC_START : Fld := ⟨.CL_CXDEC, 10, 0⟩
abbrev CL_UCCFG_UC_MAX : Fld := ⟨.CL_UCCFG, 11, 0⟩
abbrev CL_UCDATA_WORD : Fld := ⟨.CL_UCDATA, 31, 0⟩
abbrev CORE_CAUSE_CODE : Fld := ⟨.CORE_CAUSE, 4, 0⟩
abbrev CORE_FADDR_ADDR : Fld := ⟨.CORE_FADDR, 31, 0⟩
abbrev CORE_FXMODE_RND : Fld := ⟨.CORE_FXMODE, 2, 1⟩
abbrev CORE_FXMODE_SAT : Fld := ⟨.CORE_FXMODE, 0, 0⟩
abbrev CORE_FXSTAT_AOV : Fld := ⟨.CORE_FXSTAT, 1, 1⟩
abbrev CORE_FXSTAT_OV : Fld := ⟨.CORE_FXSTAT, 0, 0⟩
abbrev CORE_HBASE_BASE : Fld := ⟨.CORE_HBASE, 31, 10⟩
abbrev CORE_IEN_IEN : Fld := ⟨.CORE_IEN, 3, 0⟩
abbrev CORE_RETA_ADDR : Fld := ⟨.CORE_RETA, 31, 2⟩
abbrev CORE_SSTAT_STAT : Fld := ⟨.CORE_SSTAT, 2, 0⟩
abbrev CORE_STATUS_HND : Fld := ⟨.CORE_STATUS, 2, 2⟩
abbrev CORE_STATUS_IE : Fld := ⟨.CORE_STATUS, 0, 0⟩
abbrev CORE_UCADDR_ADDR : Fld := ⟨.CORE_UCADDR, 10, 0⟩
abbrev CORE_UCSTAT_WLOCK : Fld := ⟨.CORE_UCSTAT, 31, 31⟩

end F
end Sys2Proof.Machine
end

