-- ==== Sys2Proof/Machine/State.lean ====
section
/-! DEFINITION. The state of the HC6400 as plain data, its reset value, and the reasons a step can stop. -/

namespace Sys2Proof.Machine

/-- The reasons a step can stop with a fault. There is none: the spec answers every error with an effect on the state (a log
entry, an error flag, a status code, an exception of a core, Roadside), which is a next state. -/
inductive Fault where
  deriving DecidableEq, Repr

/-- The reasons a step can refuse a command. -/
inductive Refusal where
  /-- Raised by an arm of exec whose command has no meaning yet; safe, since nothing is claimed of it. -/
  | notModelled (mnemonic : String)
  deriving DecidableEq, Repr

/-- The error block beside its registers: the log and the counts of the running telemetry interval (R481, R504). -/
structure ErrState where
  log : Tab LogEntry := []
  /-- age given to the next entry, and to the first one of the present cycle (R489) -/
  nextAge : Nat := 0
  cycAge : Nat := 0
  /-- errors counted in the present cycle in an entry of an earlier one: the slot, the entry's count before, and what the errors write as a
  new entry if the old one is acknowledged in this cycle (R489) -/
  counted : List (Nat × Nat × LogEntry) := []
  tel : TelCounts := {}
  /-- CLK_EVT cycles counted towards the next millisecond of each watchdog (R491) -/
  wdtSub : Tab Nat := []
  /-- watchdogs whose count has run out and whose expiry has not been taken; those whose warm reset is held (R493) -/
  wdtDue : List Nat := []
  held : List Nat := []
  /-- a snapshot that the task TELEMETRY_SNAP has asked for is not yet written (R365, R504) -/
  snapDue : Bool := false
  /-- NT_SEC at the last snapshot, or at the last reset (R504) -/
  snapSec : Word := 0
  deriving DecidableEq, Repr

/-- The event fabric beside its registers: events on their way, and producers with an event kept while the fabric stands still
(R363, R376). -/
structure EvfState where
  flight : List (Nat × Flight) := []
  /-- groups closed in the present cycle (R375) -/
  closed : List Nat := []
  kept : List Nat := []
  /-- ports that an activation of LPn_RETRAIN trains (R365) -/
  retrains : List Nat := []
  /-- the cycle in which a consumer input that can be busy last became free (R377) -/
  freed : Tab Nat := []
  deriving DecidableEq, Repr

/-- A second boundary of the real-time clock: its cycle, the second before it, RTC_STAT, and the two tables of F before its alarms
(R356 to R358). -/
structure RtcEdge where
  cyc : Nat
  old : Nat
  stat : Word
  fired : Tab Nat
  back : Tab Nat
  deriving DecidableEq, Repr

/-- A synchronous command of HCP on the real-time clock: the writes that the Supervisor has still to make for it, one after the other, and
then its reply (R352, R353). -/
structure RtcOrder where
  hdr : Hdr
  op : Nat
  writes : List (RegName × Nat × Word)
  deriving DecidableEq, Repr

/-- The transports of HCP (R129 to R157). -/
structure HcpState where
  tps : Tab TpState := []
  /-- commands answered ACCEPTED whose completion is due: key job number -/
  jobs : Tab Job := []
  nextJob : Nat := 0
  /-- image slots held by IMAGE_WRITE: key slot, transport number (R155) -/
  slots : Tab Nat := []
  /-- HPORT: a transaction is under way; it is served, and its instruction byte has not come (R135, R138, R139) -/
  csnLow : Bool := false
  served : Bool := false
  /-- HPORT: READ_STATUS is under way, whose word is sent again for as long as the clock runs (R135) -/
  statusOn : Bool := false
  /-- the bytes that the device drove on HPORT_IO at the last read (R135) -/
  driven : Bytes := []
  /-- command slots taken in the present cycle: key transport number (R148) -/
  taken : Tab Nat := []
  /-- cycles that the packet at the head of the UART's reply queue has been on UART_TX (R141) -/
  uartSent : Nat := 0
  /-- rates of TRANSPORT_CFG whose replies have not been sent in full, oldest first (R141) -/
  rateNext : List RateNext := []
  /-- HOST_IRQ is asserted for READY until the next READ_STATUS (R139, R140) -/
  readyIrq : Bool := false
  /-- the reset that an HCP RESET has ordered: 0 warm, 1 CL1, 2 CL2 (R152) -/
  reset : Option Nat := none
  /-- the rate code of the UART (R141) -/
  uartRate : Nat := 0
  /-- bytes of a packet that is not yet whole on UART_RX (R141) -/
  uart : Bytes := []
  /-- USER_CALLs waiting in a cluster: job, cluster, mailbox (R156) -/
  calls : List (Nat × Nat × Nat) := []
  /-- commands on the real-time clock under way, oldest first (R352) -/
  rtc : List RtcOrder := []
  /-- reads and writes by HCP that wait for a pulse of the flash to end or the fill of the DRAM to pass: packet fields, opcode, address, bytes
  or words, and data (R423, R454) -/
  reads : List (Hdr × Nat × Nat × Nat × Bytes) := []
  /-- the scope that DEBUG_OPEN has opened the debug functions with (R127) -/
  debugScope : Option Nat := none
  deriving DecidableEq, Repr

/-- A region of system SRAM or DRAM that the Supervisor has marked non-secure and assigned to a user cluster (R39). -/
structure Region where
  base : Nat
  len : Nat
  cluster : Nat
  deriving DecidableEq, Repr

/-- The Merzetil cores beside their control registers (R378 to R403). -/
structure CoreState where
  /-- general registers: key core * 32 + i; unlisted ones are 0 (R388) -/
  gpr : Tab Word := []
  /-- accumulators: key core * 4 + k; unlisted ones are 0 (R388) -/
  acc : Tab Accu := []
  /-- the address of the next instruction of each core; unlisted ones are 0 (R381) -/
  pc : Tab Word := []
  /-- cores halted by a double fault, a lockstep difference, an expired watchdog or a debug session (R383, R399, R401, R493) -/
  halted : List Nat := []
  /-- cores that wait in WAITI (R403) -/
  waiting : List Nat := []
  /-- lines in the instruction caches, most recent first, each with its way: key core * 256 + set; way and address / 32 (R378 to R380) -/
  icache : Tab (List (Nat × Nat)) := []
  /-- cores that have been reset since the last instruction began (R381) -/
  lost : List Nat := []
  /-- the last cycle of each core's last CX (R405, R407) -/
  cxUntil : Tab Nat := []
  /-- cores whose next fetch is the target of a taken branch (R419) -/
  jumped : List Nat := []
  /-- scratchpads: key core * 65536 + offset; unlisted bytes are 0 (R33) -/
  pad : Tab Byte := []
  /-- micro-operation stores: key cluster * 2048 + address; unlisted ones are 0 (R404) -/
  ucode : Tab Word := []
  /-- the user cores that the Supervisor has released, as in bits [23:0] of SYSCTL_CORE_EN; they start again when RUN is entered (R48) -/
  userEn : Nat := 0
  /-- regions granted to user clusters (R39) -/
  regions : List Region := []
  /-- whether a debug session is attached (R46, R399) -/
  debug : Bool := false
  /-- delivery records of committed frames that wait in system SRAM for RUN, oldest first: cluster and bytes (R42, R45) -/
  waitingRecords : List (Nat × Bytes) := []
  /-- the delivery record handed over last to each user cluster: its address and length in that cluster's region (R42) -/
  delivered : Tab (Nat × Nat) := []
  deriving DecidableEq, Repr

/-- Network time beside its registers (R326 to R339). -/
structure NtcState where
  /-- the fraction accumulator, in 2^-32 tick (R327) -/
  frac : Nat := 0
  /-- the servo's integral (R336) -/
  integral : Int := 0
  /-- the cycle of the last accepted sample (R337) -/
  lastSample : Nat := 0
  /-- loads and steps so far: tells a sample that one fell between its timestamps (R336) -/
  moves : Nat := 0
  /-- the value of each compare unit, in ticks (R340) -/
  cmp : Tab Nat := []
  /-- the load of network time from the RTC after the last reset or wake is due (R334) -/
  loadDue : Bool := true
  /-- the second of the last radio sample (R339) -/
  radioSec : Option Word := none
  /-- the cycle of the last load or step by CL0; and the step that the servo makes as the present cycle ends: its ticks, with LEAD, SRC_USED
  and the cycle of the last sample before it (R341) -/
  cl0Move : Option Nat := none
  servoStep : Option (Int × Word × Nat × Nat) := none
  deriving DecidableEq, Repr

/-- The timers beside their registers (R342 to R346). -/
structure TmrState where
  /-- CLK_EVT cycles counted towards each timer's next tick (R342) -/
  presc : Tab Nat := []
  /-- timers that have expired, whose links act in the next cycle (R346) -/
  expired : List Nat := []
  /-- timers whose count has run out in the present cycle and whose expiry is still to be taken in it, and those that have reloaded in it
  (R343, R349) -/
  due : List Nat := []
  reloaded : List Nat := []
  deriving DecidableEq, Repr

/-- The real-time clock beside its registers (R351 to R358). -/
structure RtcState where
  /-- a write on its way into the backup domain: register, instance, word (R352) -/
  wr : Option (RegName × Nat × Word) := none
  /-- F of each alarm: the last occurrence it fired for, in seconds since 2000 (R356) -/
  fired : Tab Nat := []
  /-- F in force of each alarm after a backward adjustment to a time at or before it (R357) -/
  back : Tab Nat := []
  /-- the calendar at HALT, in seconds since 2000 (R355) -/
  old : Option Nat := none
  /-- an offset rewrite is due after an adjustment (R335) -/
  ofsDue : Bool := false
  /-- the trickle charger has stopped at its limit, and VBAK has not yet fallen 50 mV below it (R359) -/
  full : Bool := false
  /-- cycles of the model's clock towards the next count of SUB (R351; log entry 1) -/
  sub : Nat := 0
  /-- the cycles in which HALT has taken hold and in which a capture was copied; and the last second boundary, with what its alarms found
  (R354, R358) -/
  haltAt : Option Nat := none
  capAt : Option Nat := none
  edge : Option RtcEdge := none
  deriving DecidableEq, Repr

/-- The flash controller beside its registers, and the hidden cells of the array (R413 to R435). -/
structure FlcState where
  queue : List FlcCmd := []
  /-- native programs in progress: program bank, command (R423) -/
  programs : Tab FlcCmd := []
  page : Option FlcCmd := none
  erase : Option EraseRun := none
  blank : Option FlcCmd := none
  /-- the pulse of the page program, the erase or the table update that ran when a reset was held has ended (R493) -/
  pulseEnded : Bool := false
  /-- table updates that wait or run, oldest first (R434) -/
  updates : List TabUpdate := []
  results : List Word := []
  /-- results for FLASH_RECs, not yet taken by the MSU: record, code -/
  msuDone : List (Nat × Nat) := []
  /-- results for HCP jobs, not yet taken by the Supervisor: job, code -/
  jobDone : List (Nat × Nat) := []
  /-- words (offset / 4) whose programmed mark differs from their mark at shipment (R421, R530) -/
  marks : Tab Bool := []
  /-- compatibility pages programmed: key logical block * 64 + page (R422) -/
  pages : Tab Bool := []
  /-- mode of the last erase of each logical block, 1 for compatibility; unlisted blocks are native (R415) -/
  modes : Tab Nat := []
  /-- bits in error of each line (offset / 32) (R417) -/
  errs : Tab Nat := []
  /-- erase counts: native sector, or 4096 + compatibility block (R435) -/
  wear : Tab Nat := []
  grown : FlTable := {}
  partialTab : FlTable := {}
  /-- factory bad blocks with their spares (R432) -/
  factory : List (Nat × Nat) := []
  /-- next free operation record line, 0 to 255, and the next sequence number (R429) -/
  recNext : Nat := 0
  recSeq : Nat := 0
  /-- the open operation record -/
  recOpen : Option Nat := none
  /-- lines in the prefetch buffer and in the branch target cache, most recent first, with the bits corrected as they were read (R419) -/
  prefetch : List (Nat × Nat) := []
  btc : List (Nat × Nat) := []
  deriving DecidableEq, Repr

/-- The OTP array itself; the registers hold its shadows (R438, R439). -/
structure OtpState where
  /-- bits of each half: key row * 2 + half -/
  bits : Tab Nat := []
  /-- states of halves that differ from their state at shipment (R531) -/
  states : Tab HalfState := []
  run : Option OtpRun := none
  /-- the factory calibration (R128) -/
  cal : FactoryCal := {}
  /-- SECURE_BOOT as the last reset found it: the fuse acts at the next reset (R126) -/
  secure : Bool := false
  deriving DecidableEq, Repr

/-- System, cluster and journal SRAM and the scratchpads beside their contents (R409 to R412): words with bits in error, 1 or 2, by a
key word address / 4, or 2^30 + core * 16384 + offset / 4 for a scratchpad. -/
structure SramState where
  errs : Tab Nat := []
  /-- the next word of each bank that its scrubber reads, counted from the start of the bank (R411) -/
  scrub : Tab Nat := []
  deriving DecidableEq, Repr

/-- The DRAM controller beside its registers (R443 to R457). -/
structure DmcState where
  /-- 64-bit units (visible offset / 8) with bits in error, 1 or 2 -/
  errs : Tab Nat := []
  /-- the row last opened in each bank (rank * 8 + bank), the cycle of its last access, and IDLE as it was when the row opened (R447) -/
  rows : Tab (Nat × Nat × Nat) := []
  /-- the check lines that the check cache holds, most recent first, at most 64, each with whether it is dirty (R446) -/
  checks : List (Nat × Bool) := []
  /-- refresh rate multiplier of the last MR4 read, 1, 2 or 4 -/
  rate : Nat := 1
  /-- refreshes postponed, 0 to 8 -/
  postponed : Nat := 0
  /-- steps done of the re-centre in progress -/
  recentre : Option Nat := none
  /-- consecutive failed re-centres -/
  fails : Nat := 0
  /-- the counter of the self-refresh signature, the signature that the DMC has last written, and what the training region holds of it (R455) -/
  counter : Nat := 0
  sent : Bytes := []
  region : Option Bytes := none
  /-- the cycle in which a full initialisation began (R453) -/
  since : Option Nat := none
  deriving DecidableEq, Repr

/-- The RF ports, synthesisers and the lane bank beside their registers (R158 to R190, R195 to R197). -/
structure RfState where
  /-- the radio role: 0 concentrator, 1 relay, 2 test (chapter 2) -/
  role : Nat := 0
  /-- the die temperature as last reported, in degrees Celsius -/
  temp : Int := 0
  /-- synthesiser tables: key port * 256 + index -/
  synTab : Tab SynEntry := []
  /-- die temperature recorded at each port's last calibration at RFx_LO -/
  loTemp : Tab Int := []
  /-- ports whose synthesiser moves to RFx_LO -/
  toLo : List Nat := []
  /-- ports whose recalibration is due (R197) -/
  recal : List Nat := []
  /-- the frame in progress of each lane -/
  frames : Tab LaneFrame := []
  /-- the last decided bits of each lane, at most 256, oldest first, and how many of them its correlator has not tested (R174, R176) -/
  hist : Tab (List Bool) := []
  unsearched : Tab Nat := []
  /-- lanes with a calibration window open -/
  windows : List Nat := []
  /-- the cycle of each lane's last completed calibration, for CAL_AGE -/
  calAt : Tab Nat := []
  /-- lanes that have completed a calibration since EN rose -/
  calibrated : List Nat := []
  /-- CAL_MAX as each lane took it at its last window, and as a restored configuration left it for the others (R56, R189) -/
  calMaxOf : Tab Nat := []
  calMaxBase : Nat := 10
  /-- RUN was 1 when the bank stopped for the loss of PLL0 (R94) -/
  runAgain : Bool := false
  /-- ports whose airtime has run, for DESENSE: port, start and end of the interval in ticks of network time (R188) -/
  airings : List (Nat × Nat × Nat) := []
  /-- the cycle until which a pattern that ends has met an airtime of the device: 9 ms past the last one's end (R217) -/
  deafTo : Nat := 0
  deriving DecidableEq, Repr

/-- The transmit path beside its registers (R191 to R218). -/
structure TxpState where
  timed : List TxEntry := []
  nextOrder : Nat := 0
  /-- the excursion of each port -/
  exc : Tab Excursion := []
  /-- balances in 0.1 us units, key sub-band; unlisted ones are 0 (R211) -/
  ledger : Tab Nat := []
  results : List (Word × Word) := []
  /-- results on their way to their requesters; empty between steps -/
  done : List TxDone := []
  /-- front-end pins and PAVx code of each port as driven now: key port -/
  pins : Tab Nat := []
  bias : Tab Nat := []
  driver : Tab Bool := []
  /-- tags committed in the present cycle (R261) -/
  justCommitted : List Nat := []
  /-- the last wake pattern that matched: address, group, and the cycle it ended in (R216) -/
  lastWake : Option (Nat × Nat × Nat) := none
  deriving DecidableEq, Repr

/-- The frame engine beside its registers (R219 to R246). -/
structure FrmState where
  /-- contexts that are not FREE: key 0 to 1023 -/
  ctxs : Tab Ctx := []
  /-- contexts released, and lanes that took one, in the present cycle (R185) -/
  freed : List Nat := []
  granted : List Nat := []
  /-- the telemetry's peak of contexts before the first allocation of the present cycle (R190) -/
  peakWas : Option Nat := none
  /-- repeats of the present cycle that found PEND 1, with their contexts (R246) -/
  waved : List (Nat × Ctx) := []
  /-- key loads that wait for the verdicts of frames of their slots: group, epoch and key, oldest first (R246) -/
  loads : List (Nat × Nat × Bytes) := []
  /-- the vault: key group * 4 + epoch mod 4; the epoch and the 16 key bytes of each valid slot (R225) -/
  vault : Tab (Nat × Bytes) := []
  /-- the derived-key cache: key set, lines most recent first (R227) -/
  keys : Tab (List KeyLine) := []
  /-- the front cache of the filter: key set, triples most recent first (R232) -/
  front : Tab (List Bytes) := []
  /-- pending downlinks, oldest first (R240) -/
  downlinks : List Downlink := []
  deriving DecidableEq, Repr

/-- The milestone unit beside its registers (R247 to R273). -/
structure MsuState where
  /-- milestones that are not FREE -/
  ms : Tab Milestone := []
  nextClaim : Nat := 0
  nextRequest : Nat := 0
  /-- unretired records of the ring, oldest first (R268) -/
  ring : List RingRec := []
  /-- the replay under way: its source (R270) -/
  replay : Option Nat := none
  /-- CSNs and journal sequence numbers already replayed from earlier sources (R270) -/
  seenCsn : List Nat := []
  seenSeq : List Nat := []
  /-- unretired records that lie in journal SRAM after a warm reset, waiting for the replay in place (R111, R270) -/
  kept : List RingRec := []
  /-- sources replayed since the last reset, and whether one of them programmed a boot-directory copy (R270, R276) -/
  replayed : List Nat := []
  dirDone : Bool := false
  deriving DecidableEq, Repr

/-- The scheduler beside its registers (R307 to R325). -/
structure SchedState where
  /-- the queue of each port, less 64 * port, that the frame service pushes records to: named in the configuration image (R310) -/
  recQueue : Nat := 0
  /-- queues held by their bucket or gate at the last choice (R314) -/
  barred : List Nat := []
  /-- the scheduler has started since the last reset or DOZE (R317) -/
  started : Bool := false
  /-- entries of each queue, head first -/
  queues : Tab (List SchedEntry) := []
  /-- bucket counts in 0.01 bit units; unlisted ones are full, or 0 before the first start (R316, R317) -/
  tokens : Tab Int := []
  /-- virtual times: key band + 8 * server, server 0 LP0, 1 LP1, 2 radio (R313) -/
  vtime : Tab Nat := []
  /-- units in progress: key port * 2 + UTYPE; queue and blocks sent (R310) -/
  units : Tab (Nat × Nat) := []
  /-- the radio queue whose head is offered to the transmit path, and whether the choice is due again; that is false between steps
  (R323) -/
  offer : Option Nat := none
  again : Bool := false
  /-- entries pushed to each queue in the present cycle, which no choice of it counts (R325) -/
  fresh : Tab Nat := []
  /-- the multiple of 1,000 ticks of the last refill (R316, R328) -/
  refilled : Nat := 0
  /-- busy listens of each radio queue's head (R204) -/
  tries : Tab Nat := []
  /-- radio queues whose head waits out a listen backoff (R204) -/
  backoff : List Nat := []
  results : List Word := []
  /-- the instant of a planned gate swap, in ticks of network time: key port (R321) -/
  swapAt : Tab Nat := []
  /-- RUN was 1 when the scheduler stopped for the loss of PLL0 (R94) -/
  runAgain : Bool := false
  deriving DecidableEq, Repr

/-- The line ports beside their registers (R278 to R306). -/
structure LpState where
  ports : Tab LinePort := []
  /-- CONFIRM ranges held while a replay runs (R306) -/
  heldConfirms : List (Nat × Nat) := []
  /-- USER_DOWN units taken for the user clusters, oldest first (R284) -/
  userDown : List Bytes := []
  deriving DecidableEq, Repr

/-- Power states, supplies, clocks, boot and Roadside beside the registers (chapters 2, 4 and 5). -/
structure PwrState where
  /-- a wake from DOZE is under way: the system domain is powered, and CUR takes LISTEN once PLL0 has locked (R54, R97) -/
  waking : Bool := false
  /-- what follows the boot that waits for NRESET_IN (R49, R79, R105) -/
  after : BootAfter := .run
  /-- a sync word has been found since the last match of the WURX (R49) -/
  wurxSync : Bool := false
  /-- levels of the GPIO outputs latched at the last commit point: key GPIO; 1 low, 2 high, unlisted an input (R65) -/
  gpioLatch : Tab Nat := []
  /-- the bus was last found at or below the release level without a trip (R99, R442) -/
  busLow : Bool := false
  /-- NRESET_IN fell during a flush and has not risen since (R67) -/
  pinFlush : Bool := false
  /-- the state an entry to DOZE or HIBERNATE works towards, and whether its steps up to the commit point are done (R55, R95) -/
  entry : Option Nat := none
  ready : Bool := false
  /-- the device is in OFF; a supply or the brown-out detector holds it in reset; NRESET_IN is low (R54, R79, R109) -/
  off : Bool := false
  held : Bool := false
  pinLow : Bool := false
  /-- the Supervisor or the ROM responder has started (R112, R157) -/
  up : Bool := false
  /-- NRESET_OUT is released (R96, R112) -/
  resetOut : Bool := false
  /-- VBAK present -/
  vbak : Bool := true
  /-- consecutive abandoned raises (R85) -/
  raises : Nat := 0
  pmb : PmbState := {}
  /-- references that have been good since power-on (R88) -/
  refSeen : List Nat := []
  /-- references that have failed since, and whose failure has been logged (R88) -/
  refDown : List Nat := []
  flush : Option Flush := none
  /-- HIBERNATE was entered by a park, with the comparator powered (R106) -/
  parked : Bool := false
  /-- the last flush ended without a seal (R103, R107) -/
  unsealed : Bool := false
  /-- the digest of the Supervisor part saved in the backup domain (R120) -/
  digest : Bytes := []
  /-- DRAM held in self-refresh through DOZE (R58) -/
  dramKept : Bool := false
  /-- the configuration image in native flash (R56) -/
  config : ConfigImage := {}
  /-- the sector that holds it, once it has been saved (R436; log entry 42) -/
  configAt : Option Nat := none
  /-- what the boot ROM finds at its next boot (R114 to R116) -/
  env : BootEnv := {}
  /-- the reset waits for NRESET_IN to rise (R79) -/
  pinWait : Bool := false
  /-- an orderly flush has been sealed in the entry under way (R54, R96) -/
  flushed : Bool := false
  /-- a frame has been journalled since the last match of the WURX (R49) -/
  wurxFrame : Bool := false
  deriving DecidableEq, Repr

/-- The contactless block beside its registers (R458 to R479). -/
structure CtlState where
  /-- the tag is QUIET, with or without a field (R461) -/
  quiet : Bool := false
  /-- NR and NT of an AUTH1 directly before (R466) -/
  auth : Option (Bytes × Bytes) := none
  session : Option TagSession := none
  /-- the tag's last answer; none after a frame it did not answer -/
  answer : Option Bytes := none
  /-- polls above the threshold in a row, counted to 2 (R475) -/
  padPolls : Nat := 0
  /-- a field is present or has been absent for less than 4 s (R53) -/
  recent : Bool := false
  /-- a PROVISION that waits for a touch (R477) -/
  waiting : Option Provision := none
  reader : Option Reader := none
  /-- the last frame of the last PROVISION that ran to its end, HLTA (R477) -/
  parting : Bytes := []
  /-- words of tag memory with bits in error, 1 or 2 (R469) -/
  errs : Tab Nat := []
  deriving DecidableEq, Repr

/-- What the present cycle found running that no register keeps: a block that stops in a cycle counts as running in it (R10). -/
structure BusyWas where
  /-- FLC_STAT.BUSY -/
  flc : Bool := false
  /-- ports whose front-end table was in use -/
  fem : List Nat := []
  /-- queues with an entry or a unit in progress -/
  queues : List Nat := []
  deriving DecidableEq, Repr

/-- The whole state of the block. -/
structure State where
  /-- CLK_EVT cycles counted since reset; the model's own clock (log entry 1) -/
  cyc : Nat
  /-- counter of free values used; the model's own field (log entry 3) -/
  free : Nat
  /-- registers that do not read as their reset value: key RegName.key -/
  regs : Tab Word
  /-- values still in force of registers whose AT-BOUNDARY fields wait for their boundary (R9, R12) -/
  held : Tab Word
  /-- the registers as the present cycle found them: a block that stops in a cycle counts as running in it (R10) -/
  was : Tab Word
  /-- the rest of what it found running (R10) -/
  busyWas : BusyWas
  /-- W1C flags that hardware has set in the present cycle: a write in the same cycle does not clear them (R7) -/
  raised : Tab Word
  /-- memory cells that do not read as their default (R31) -/
  mem : List Host.Cell
  err : ErrState
  evf : EvfState
  hcp : HcpState
  core : CoreState
  ntc : NtcState
  tmr : TmrState
  rtc : RtcState
  flc : FlcState
  otp : OtpState
  sram : SramState
  dmc : DmcState
  rf : RfState
  txp : TxpState
  frm : FrmState
  msu : MsuState
  sched : SchedState
  lp : LpState
  pwr : PwrState
  ctl : CtlState
  /-- whether VIN_SENSE was last reported below RELEASE after a trip (R99, R442) -/
  vinLow : Bool
  /-- Roadside due at the end of this step, with its cause (R486) -/
  roadPend : Option Nat
  /-- the commands waiting, first in first out -/
  pending : List Instr
  deriving DecidableEq, Repr

/-- The machine right after a power-on reset. -/
def State.reset : State where
  cyc := 0
  free := 0
  regs := []
  held := []
  was := []
  busyWas := {}
  raised := []
  mem := []
  err := {}
  evf := {}
  hcp := {}
  core := {}
  ntc := {}
  tmr := {}
  rtc := {}
  flc := {}
  otp := {}
  sram := {}
  dmc := {}
  rf := {}
  txp := {}
  frm := {}
  msu := {}
  sched := {}
  lp := {}
  pwr := {}
  ctl := {}
  vinLow := false
  roadPend := none
  pending := []

end Sys2Proof.Machine
end

