-- ==== Sys2Proof/Machine/Ops.lean ====
section
/-! DEFINITION. The shared operations over the state: registers and fields with their access types and take-effect classes
(R5 to R12), memory (R31), free values, publication of events (R363, R376) and the power and clock conditions. -/

namespace Sys2Proof.Machine

/-! ## Registers -/

/-- The key of instance n of a register. -/
def RegName.key (r : RegName) (n : Nat) : Nat := r.ctorIdx + 512 * n

/-- The reset value of instance n of a register (R8). WDT0 is the one instance whose reset value differs from its siblings
(the table of ERR_WDT_n_CFG). -/
def regReset (r : RegName) (n : Nat) : Word :=
  if r = .ERR_WDT_CFG ∧ n = 0 then 0x800003E8#32 else (regRow r).reset

/-- The stored value of a register. -/
def State.reg (s : State) (r : RegName) (n : Nat := 0) : Word := Tab.getD s.regs (r.key n) (regReset r n)

/-- Store a register whole. -/
def State.setReg (s : State) (r : RegName) (n : Nat) (v : Word) : State :=
  { s with regs := Tab.putD s.regs (r.key n) (regReset r n) v }

/-- A word with the bits hi down to lo replaced by the low bits of v. -/
def wordPut (w : Word) (hi lo v : Nat) : Word :=
  let m := BitVec.ofNat 32 ((2 ^ (hi + 1 - lo) - 1) * 2 ^ lo)
  (w &&& ~~~m) ||| (BitVec.ofNat 32 (v * 2 ^ lo) &&& m)

/-- The value of a field, as a number. -/
def State.fld (s : State) (f : Fld) (n : Nat := 0) : Nat := bits (s.reg f.reg n).toNat f.hi f.lo

/-- The W1C bits that hardware sets when it gives a field a value (R7). -/
def Fld.raises (f : Fld) (v : Nat) : Word :=
  if v = 0 then 0 else wordPut 0 f.hi f.lo v &&& (regRow f.reg).w1c

/-- Note W1C flags as set in this cycle (R7). -/
def State.noteRaised (s : State) (r : RegName) (n : Nat) (m : Word) : State :=
  if m = 0 then s else { s with raised := Tab.put s.raised (r.key n) (Tab.getD s.raised (r.key n) 0 ||| m) }

/-- Hardware gives a field of a register a value; the other bits stay. -/
def State.setFld (s : State) (f : Fld) (v : Nat) (n : Nat := 0) : State :=
  (s.setReg f.reg n (wordPut (s.reg f.reg n) f.hi f.lo v)).noteRaised f.reg n (f.raises v)

/-- Whether a field is not zero. -/
def State.flag (s : State) (f : Fld) (n : Nat := 0) : Bool := s.fld f n != 0

/-- Write a one-bit field. -/
def State.setFlag (s : State) (f : Fld) (b : Bool) (n : Nat := 0) : State := s.setFld f (b2n b) n

/-- Count a field up by d, saturating at the field's greatest value. -/
def State.bump (s : State) (f : Fld) (n : Nat := 0) (d : Nat := 1) : State :=
  s.setFld f (satAdd (2 ^ (f.hi + 1 - f.lo) - 1) (s.fld f n) d) n

/-- Count a field up by d, wrapping at the field's width. -/
def State.bumpWrap (s : State) (f : Fld) (n : Nat := 0) (d : Nat := 1) : State := s.setFld f (s.fld f n + d) n

/-- The value in force of a register: the stored one, with AT-BOUNDARY bits from before while they wait (R9). -/
def State.inReg (s : State) (r : RegName) (n : Nat := 0) : Word :=
  match Tab.find s.held (r.key n) with
  | none => s.reg r n
  | some h => let m := (regRow r).boundary
    (s.reg r n &&& ~~~m) ||| (h &&& m)

/-- The value in force of a field. -/
def State.inFld (s : State) (f : Fld) (n : Nat := 0) : Nat := bits (s.inReg f.reg n).toNat f.hi f.lo

/-- The boundary of a register's waiting fields: the last value written takes effect (R9, R12). -/
def State.boundary (s : State) (r : RegName) (n : Nat := 0) : State := { s with held := Tab.del s.held (r.key n) }

/-- The register that holds the WLOCK flag for a register, with its instance: ports have one each. -/
def wlockOf (r : RegName) (n : Nat) : Option (RegName × Nat) :=
  match (regRow r).wlock with
  | none => none
  | some w => some (w, if w = .RF_STAT ∨ w = .LP_STAT then n else 0)

/-- Set the WLOCK flag of the block of a register (R9). -/
def State.setWlock (s : State) (r : RegName) (n : Nat) : State :=
  match wlockOf r n with
  | none => s
  | some (w, m) => (s.setReg w m (wordPut (s.reg w m) 31 31 1)).noteRaised w m (0x80000000#32)

/-- The word that a write leaves in a register (R5, R7, R9): RW fields take the written bits, less the locked ones while the block
runs; W1C flags written as 1 clear, but for those that hardware has set in the same cycle; all else stays. -/
def regMerge (row : RegRow) (running : Bool) (raised old w : Word) : Word :=
  let m := if running then row.rw &&& ~~~row.locked else row.rw
  ((old &&& ~~~m) ||| (w &&& m)) &&& ~~~(w &&& row.w1c &&& ~~~raised)

/-- Whether a condition on the registers holds, or held as the cycle began: a block that stops in a cycle counts as running in it (R10). -/
def State.nowOrWas (s : State) (p : State → Bool) : Bool := p s || p { s with regs := s.was }

/-- A write to a register that has no action of its own (R5, R9 to R12). `running` says whether the running condition of its
LOCKED-WHILE-RUNNING fields holds. -/
def State.regStore (s : State) (r : RegName) (n : Nat) (running : Bool) (w : Word) : State :=
  let row := regRow r
  let old := s.reg r n
  let new := regMerge row running (Tab.getD s.raised (r.key n) 0) old w
  let s1 := if (new ^^^ old) &&& row.boundary ≠ 0 ∧ Tab.find s.held (r.key n) = none
    then { s with held := Tab.put s.held (r.key n) old } else s
  let s2 := s1.setReg r n new
  if running ∧ (old ^^^ w) &&& row.locked ≠ 0 then s2.setWlock r n else s2

/-! ## Blocks: changing one block of the state -/

def State.onErr (s : State) (f : ErrState → ErrState) : State := { s with err := f s.err }
def State.onEvf (s : State) (f : EvfState → EvfState) : State := { s with evf := f s.evf }
/-- A busy consumer input becomes free in this cycle (R377). -/
def State.inputFree (c : Nat) (s : State) : State := s.onEvf fun e => { e with freed := Tab.put e.freed c s.cyc }
def State.onHcp (s : State) (f : HcpState → HcpState) : State := { s with hcp := f s.hcp }
def State.onCore (s : State) (f : CoreState → CoreState) : State := { s with core := f s.core }
def State.onNtc (s : State) (f : NtcState → NtcState) : State := { s with ntc := f s.ntc }
def State.onFlc (s : State) (f : FlcState → FlcState) : State := { s with flc := f s.flc }
def State.onOtp (s : State) (f : OtpState → OtpState) : State := { s with otp := f s.otp }
def State.onSram (s : State) (f : SramState → SramState) : State := { s with sram := f s.sram }
def State.onDmc (s : State) (f : DmcState → DmcState) : State := { s with dmc := f s.dmc }
def State.onRf (s : State) (f : RfState → RfState) : State := { s with rf := f s.rf }
def State.onTxp (s : State) (f : TxpState → TxpState) : State := { s with txp := f s.txp }
def State.onFrm (s : State) (f : FrmState → FrmState) : State := { s with frm := f s.frm }
def State.onMsu (s : State) (f : MsuState → MsuState) : State := { s with msu := f s.msu }
def State.onSched (s : State) (f : SchedState → SchedState) : State := { s with sched := f s.sched }
def State.onLp (s : State) (f : LpState → LpState) : State := { s with lp := f s.lp }
def State.onCtl (s : State) (f : CtlState → CtlState) : State := { s with ctl := f s.ctl }
def State.onTmr (s : State) (f : TmrState → TmrState) : State := { s with tmr := f s.tmr }
def State.onRtc (s : State) (f : RtcState → RtcState) : State := { s with rtc := f s.rtc }
def State.onPwr (s : State) (f : PwrState → PwrState) : State := { s with pwr := f s.pwr }

/-! ## Memory -/

/-- The first 16 bytes of a flash table at shipment, as one number, low byte first: magic, sequence number, no entries, and
the CRC-32 over them (R434, R530). -/
def shippedTable (sector : Nat) : Nat :=
  match sector with
  | 2 => 0xb3603502000000000000000147424144
  | 3 => 0x7fca359c000000000000000047424144
  | 4 => 0xd689a77a000000000000000150455253
  | _ => 0x1a23a7e4000000000000000050455253

/-- What a byte of the address space reads as while nothing is listed for it: the flash tables as shipped (R530), other flash
erased, which reads as all ones (R418), every other memory zero (R412; log entry 2). -/
def memDefault (a : Nat) : Byte :=
  if a < 0x08000000 ∨ 0x0A000000 ≤ a then 0
  else if 0x08002000 ≤ a ∧ a < 0x08006000 ∧ a % 4096 < 16 then
    BitVec.ofNat 8 (shippedTable ((a - 0x08000000) / 4096) >>> (8 * (a % 4096)))
  else 0xFF

/-- One byte of memory. -/
def State.byte (s : State) (a : Nat) : Byte := Tab.getD s.mem a (memDefault a)

/-- Store one byte of memory, keeping the canonical form. -/
def State.setByte (s : State) (a : Nat) (b : Byte) : State := { s with mem := Tab.putD s.mem a (memDefault a) b }

/-- n bytes from an address upwards. -/
def State.bytes (s : State) : Nat → Nat → Bytes
  | _, 0 => []
  | a, n + 1 => s.byte a :: s.bytes (a + 1) n

/-- Store bytes from an address upwards. -/
def State.setBytes (s : State) : Nat → Bytes → State
  | _, [] => s
  | a, b :: l => (s.setByte a b).setBytes (a + 1) l

/-- The word at an address, little-endian. -/
def State.word (s : State) (a : Nat) : Word := BitVec.ofNat 32 (leNat (s.bytes a 4))

/-- The canonical form of a memory. -/
abbrev Memory.wf (m : List Host.Cell) : Prop := Tab.canon memDefault m = true

/-- Forget n bytes from an address upwards: they read as their default again. -/
def State.clearMem (s : State) (a n : Nat) : State :=
  { s with mem := Tab.keep s.mem fun k _ => decide (k < a ∨ a + n ≤ k) }

/-! ## Free values -/

/-- A free number below a bound above zero, and the state with the counter advanced. -/
def State.fresh (s : State) (bound : Nat) : Nat × State := (Config.freeNat s.free % bound, { s with free := s.free + 1 })

/-- n free bytes. -/
def State.freshBytes (s : State) (n : Nat) : Bytes × State :=
  let (v, t) := s.fresh (256 ^ n)
  (leBytes n v, t)

/-! ## Power and clock -/

/-- The current power state: 0 RUN, 1 LISTEN, 2 DOZE, 3 HIBERNATE (SYSCTL_PSTATE.CUR). -/
def State.cur (s : State) : Nat := s.fld F.SYSCTL_PSTATE_CUR

/-- The state whose domains are powered: CUR, or LISTEN while a wake from DOZE is under way (R97). -/
def State.level (s : State) : Nat := if s.pwr.waking then 1 else s.cur

/-- Whether the system domain is powered and out of reset (R37, R79). -/
def State.sysOn (s : State) : Bool := s.level ≤ 1 && !s.pwr.off && !s.pwr.held && !s.pwr.pinWait

/-- Whether PLL0 is selected (R92). -/
def State.onPll (s : State) : Bool := s.flag F.SYSCTL_CLKSTAT_SRC_CUR

/-- Whether the user domain is powered: in RUN outside Roadside, until a Last Mile flush or the steps of an entry to a lower state gate
it (R37, R38, R95, R123). -/
def State.userOn (s : State) : Bool :=
  s.sysOn && s.level == 0 && !s.flag F.SYSCTL_PSTATE_ROADSIDE && !s.pwr.ready && (match s.pwr.flush with
    | some f => f.orderly
    | none => true)

/-- Whether the device is in Roadside. -/
def State.inRoadside (s : State) : Bool := s.flag F.SYSCTL_PSTATE_ROADSIDE

/-- Whether a line port is in UP (R287). -/
def State.lpUp (s : State) (p : Nat) : Bool := s.fld F.LP_STAT_STATE p == 9

/-! ## Events -/

/-- A producer presents its event (R363). While the fabric stands still on FRC, one event of the producer is kept (R376); while
it is unpowered, the event is lost. -/
def State.publish (s : State) (p : Nat) : State :=
  if !s.sysOn then s
  else if s.onPll then { s with evf := { s.evf with flight := s.evf.flight ++ [(s.cyc, .produced p)] } }
  else if s.evf.kept.contains p then s
  else { s with evf := { s.evf with kept := s.evf.kept ++ [p] } }

/-- An event presented in this cycle is taken back. -/
def State.unpublish (s : State) (p : Nat) : State :=
  { s with evf := { s.evf with flight := s.evf.flight.filter fun e => !(e == (s.cyc, .produced p)) } }

/-- Network time: seconds and ticks of 10 ns (R326). -/
def State.ntSec (s : State) : Word := s.reg .NTC_SEC
def State.ntTick (s : State) : Nat := s.fld F.NTC_TICK_TICK

/-- Network time as one count of ticks. -/
def State.nt (s : State) : Nat := s.ntSec.toNat * 100000000 + s.ntTick

end Sys2Proof.Machine
end

