-- ==== Sys2Proof/Machine/HcpBase.lean ====
section
/-! DEFINITION. The reply queues of HCP: building packets, replying, notifying (R129 to R148). -/

namespace Sys2Proof.Machine

/-- Header bytes 0 to 9 of a packet (R129). -/
def pktHead (p : Pkt) : Bytes :=
  [0xA5#8, BitVec.ofNat 8 p.flags] ++ leBytes 2 p.opcode ++ leBytes 2 p.seq ++ leBytes 2 p.par.length ++ leBytes 2 p.data.length

/-- A packet as it is sent: header, CRC-16 over bytes 0 to 9 and the parameter block, parameters, data (R129, R131). -/
def pktBytes (p : Pkt) : Bytes := pktHead p ++ leBytes 2 (crc16 (pktHead p ++ p.par)) ++ p.par ++ p.data

/-- The total length of a packet. -/
def pktLen (p : Pkt) : Nat := 12 + p.par.length + p.data.length

/-- A transport of the state. -/
def State.tp (s : State) (t : Tp) : TpState := Tab.getD s.hcp.tps t.num {}

def State.setTp (s : State) (t : Tp) (x : TpState) : State := { s with hcp := { s.hcp with tps := Tab.put s.hcp.tps t.num x } }

/-- The length of a transport's reply queue and its command slots (R148). -/
def Tp.queueLen : Tp → Nat
  | .hport => 31 | .uart => 8 | .lp0 => 16 | .lp1 => 16
def Tp.slots : Tp → Nat
  | .hport => 16 | .uart => 4 | .lp0 => 8 | .lp1 => 8

/-- The blocks of a unit, from block k on: n blocks at most (R282, R286). -/
def unitBlocks (typ addr : Nat) : Nat → Nat → Bytes → List Block
  | 0, _, _ => []
  | n + 1, k, b =>
    let last := b.length ≤ 120
    { typ, bseq := k % 16, last, first := k == 0, hops := 63, addr, payload := b.take 120 }
      :: (if last then [] else unitBlocks typ addr n (k + 1) (b.drop 120))

/-- Queue a unit of this node on a line port (R297). One that comes while the port is not in UP waits for it (R148). -/
def State.sendUnit (s : State) (p typ addr : Nat) (b : Bytes) : State :=
  s.onLp fun l => { l with ports := Tab.modify l.ports p {} fun x => { x with own := x.own ++ unitBlocks typ addr 73 0 b } }

/-- The line port of a transport. -/
def Tp.port : Tp → Option Nat
  | .lp0 => some 0
  | .lp1 => some 1
  | _ => none

/-- Put a packet into the reply queue of a transport: HPORT keeps it until it is read, the UART until it has been sent; on a line port
the blocks of its MGMT_UP unit are the queue (R140, R141, R148, R302). -/
def State.putPkt (s : State) (t : Tp) (p : Pkt) : State :=
  let x := s.tp t
  match t.port with
  | some n => (s.setTp t { x with sent := x.sent ++ [p] }).sendUnit n 4 (s.inReg .FRM_NODE).toNat (pktBytes p)
  | none => s.setTp t { x with queue := x.queue ++ [p] }

/-- The packets in the reply queue of a transport (R148). -/
def State.queued (s : State) (t : Tp) : Nat :=
  match t.port with
  | some n => ((Tab.getD s.lp.ports n {}).own.filter fun b => b.typ == 4 && b.last).length
  | none => (s.tp t).queue.length

/-- Whether the UART or a line port still has packets to send, or a synchronous command its reply to come (R156). -/
def State.replying (s : State) : Bool := !s.hcp.rtc.isEmpty || !s.hcp.reads.isEmpty || [Tp.uart, Tp.lp0, Tp.lp1].any fun t => s.queued t != 0

/-- Whether a transport takes a command: its reply queue has room, and a command slot is free (R148). A slot is free again with the
cycle after the one in which its command came (log entry 61). -/
def State.takesCmd (s : State) (t : Tp) : Bool := s.queued t < t.queueLen && Tab.getD s.hcp.taken t.num 0 < t.slots

/-- The free command slots of a transport (R136, R148). -/
def State.slotsFree (s : State) (t : Tp) : Nat := if s.queued t < t.queueLen then t.slots - Tab.getD s.hcp.taken t.num 0 else 0

/-- A command takes a slot. -/
def State.takeSlot (s : State) (t : Tp) : State := s.onHcp fun x => { x with taken := Tab.put x.taken t.num (Tab.getD x.taken t.num 0 + 1) }

/-- The rate of TRANSPORT_CFG applies once its reply has been sent in full (R141). -/
def State.rateApply (s : State) (t : Tp) (p : Pkt) : State :=
  let mine := fun (r : RateNext) => r.tp == t.num && r.seq == p.seq && p.opcode == 0x010A
  match s.hcp.rateNext.find? mine with
  | some r => s.onHcp fun x => { x with rateNext := x.rateNext.erase r, uartRate := r.rate }
  | none => s

/-- A packet of a line port has been sent in full: the rate whose reply it was applies (R141). -/
def State.rateSent (s : State) (tp : Nat) : State :=
  let l := s.hcp.rateNext.map fun r => if r.tp = tp then { r with ahead := r.ahead - 1 } else r
  let due := l.filter fun r => r.tp == tp && r.ahead == 0
  s.onHcp fun x => { x with rateNext := l.filter fun r => !(r.tp == tp && r.ahead == 0), uartRate := (due.getLast?.map RateNext.rate).getD x.uartRate }

/-- A packet of an authenticated session: AUTH set, the device's counter and the tag appended (R142). -/
def sealPkt (key : Bytes) (ctr : Nat) (p : Pkt) : Pkt :=
  let q := { p with flags := p.flags ||| 8, par := p.par ++ leBytes 4 ctr }
  let hd := pktHead { q with par := q.par ++ zeros 8 }
  { q with par := q.par ++ (cmac key (hd ++ q.par ++ q.data)).take 8 }

/-- Keep the latest reply of a remembered command (R146). -/
def remember (m : List Remembered) (seq crc : Nat) (p : Pkt) : List Remembered :=
  m.map fun r => if r.seq = seq ∧ r.crc = crc then { r with reply := some p } else r

/-- Answer a command: a packet with its opcode and SEQ, the status and, on OK or ACCEPTED, the reply parameters and data
(R133, R142, R146). Flags: 1 for a reply, 3 for a completion. What answers a packet of an open session is sealed, AUTH_FAIL as well (R142);
a reply other than AUTH_FAIL ends a row of those (R143). -/
def State.answer (s : State) (h : Hdr) (opcode flags : Nat) (st : Status) (par data : Bytes) : State :=
  let good := st = .ok ∨ st = .accepted
  let p : Pkt := { flags, opcode, seq := h.seq, par := leBytes 2 st.code ++ (if good then par else []), data := if good then data else [] }
  let x := s.tp h.tp
  match x.session with
  | some ss =>
    let ss1 := if st = .authFail then ss else { ss with fails := 0 }
    if h.auth then
      let q := sealPkt ss.key (ss.devCtr + 1) p
      (s.setTp h.tp { x with session := some { ss1 with devCtr := ss.devCtr + 1 }, memory := remember x.memory h.seq h.crc q }).putPkt h.tp q
    else
      (s.setTp h.tp { x with session := some ss1, memory := remember x.memory h.seq h.crc p }).putPkt h.tp p
  | none => (s.setTp h.tp { x with memory := remember x.memory h.seq h.crc p }).putPkt h.tp p

/-- An AUTH_FAIL reply: the third in a row ends the transport's session (R143). -/
def State.authFailed (s : State) (t : Tp) : State :=
  let x := s.tp t
  s.setTp t { x with session := x.session.bind fun y => if y.fails ≥ 2 then none else some { y with fails := y.fails + 1 } }

/-- The synchronous reply of a command. -/
def State.reply (s : State) (h : Hdr) (opcode : Nat) (st : Status) (par : Bytes := []) (data : Bytes := []) : State :=
  s.answer h opcode 1 st par data

/-- Take a command up as a job: it is answered ACCEPTED and its completion follows (R145). Its exchange is open from here on, so that an
entry to a lower state that has not been committed is abandoned (R52, R156). -/
def State.accept (s : State) (h : Hdr) (opcode arg : Nat) (par : Bytes := []) (data : Bytes := []) : State :=
  let j : Job := { hdr := h, opcode, arg, par, data }
  let s1 := s.onHcp fun x => { x with jobs := Tab.put x.jobs s.hcp.nextJob j, nextJob := x.nextJob + 1 }
  (s1.onPwr fun p => { p with entry := none, ready := false, flushed := false }).reply h opcode .accepted

/-- The image slots held after a job: those of its transport are free once its DIRECTORY_WRITE completes (R155; DESIGN CHOICE, log entry
164). -/
def slotsAfter (slots : Tab Nat) (j : Job) : Tab Nat :=
  if j.opcode = 0x0108 then Tab.keep slots fun _ t => t != j.hdr.tp.num else slots

/-- A directory written with TRIAL 0 ends the trial of the running slot (R119, R121). -/
def State.trialEnd (s : State) (j : Job) (st : Status) : State :=
  if j.opcode = 0x0108 ∧ st = .ok ∧ j.par.getD 1 0 = 0 then s.setFld F.SYSCTL_BOOTSTAT_TRIAL 0 else s

/-- What follows a work of the Supervisor's own: once a copy and its reference stand, the erase of the old unit (R436). -/
def State.ownNext (s : State) (j : Job) (st : Status) : State :=
  if j.opcode = 0x10000 ∧ st = .ok then
    let e : Job := { j with opcode := 0x10001, own := [⟨3 + (j.par.getD 4 0).toNat, leNat (j.par.take 4), []⟩], step := 0, busy := false }
    s.onHcp fun x => { x with jobs := Tab.put x.jobs x.nextJob e, nextJob := x.nextJob + 1 }
  else s

/-- The completion of a job (R145). -/
def State.complete (s : State) (id : Nat) (st : Status) (par : Bytes := []) (data : Bytes := []) : State :=
  match Tab.find s.hcp.jobs id with
  | none => s
  | some j =>
    let s1 := s.onHcp fun x => { x with jobs := Tab.del x.jobs id, slots := slotsAfter x.slots j }
    if j.isOwn then s1.ownNext j st else (s1.trialEnd j st).answer j.hdr j.opcode 3 st (if par.isEmpty then j.onOk else par) data

/-- Whether a transport is up (R147, R157). -/
def State.tpUp (s : State) : Tp → Bool
  | .hport => s.sysOn && (s.inFld F.HPORT_CFG_ENABLE == 1)
  | .uart => s.sysOn
  | .lp0 => s.sysOn && s.lpUp 0 && !s.inRoadside
  | .lp1 => s.sysOn && s.lpUp 1 && !s.inRoadside

/-- The notification mask of a transport: HPORT_CFG.NOTIFY_MASK on HPORT, the mask of TRANSPORT_CFG elsewhere. -/
def State.noteMask (s : State) (t : Tp) : Nat :=
  if t = .hport then s.inFld F.HPORT_CFG_NOTIFY_MASK else (s.tp t).mask

/-- Send one notification on one transport: k counts the notifications of R147 from 0 (opcode 0x01F0 + k). A full reply queue
drops it, which is counted (R147, R148). The counter shows 1 in the first notification, and a dropped one does not advance it (DESIGN
CHOICE, log entry 165). -/
def State.notifyOn (k : Nat) (content : Bytes) (t : Tp) (s : State) : State :=
  if !s.tpUp t || !bit (s.noteMask t) k then s else
    let x := s.tp t
    if s.queued t ≥ t.queueLen then s.setTp t { x with lost := satAdd 0xFFFF x.lost 1 }
    else (s.setTp t { x with notes := x.notes + 1 }).putPkt t
      { flags := 4, opcode := 0x01F0 + k, seq := 0xFFFF, par := leBytes 2 0 ++ leBytes 2 (x.notes + 1) ++ content, data := [] }

/-- Send a notification on every transport that is up. -/
def State.notify (s : State) (k : Nat) (content : Bytes) : State := foldOver (State.notifyOn k content) Tp.all s

/-- Tell a transport of its dropped notifications, once its queue has room (NOTIFY_LOST, R147). -/
def State.notifyLost (s : State) (t : Tp) : State :=
  let x := s.tp t
  if x.lost = 0 ∨ s.queued t ≥ t.queueLen then s
  else State.notifyOn 2 (leBytes 2 x.lost) t (s.setTp t { x with lost := 0 })

end Sys2Proof.Machine
end

