-- ==== Sys2Proof/Machine/Errors.lean ====
section
/-! DEFINITION. Raising an error: the log, its counts, its events and its escalation (R480 to R489). -/

namespace Sys2Proof.Machine

/-- The unhandled entry that an error of a class and source counts in (R483). -/
def matchEntry (log : Tab LogEntry) (cls src : Nat) : Option (Nat × LogEntry) :=
  log.find? fun e => !e.2.handled && e.2.cls == cls && e.2.source == src

/-- The entry with the least age among those a test accepts. -/
def oldest (log : Tab LogEntry) (p : LogEntry → Bool) : Option (Nat × LogEntry) :=
  log.foldl (fun best e => if p e.2 then (match best with
    | none => some e
    | some b => if e.2.age < b.2.age then some e else best) else best) none

/-- The slot a new entry takes: a free one, the lowest (log entry 5); else the oldest handled S0 or S1; else the oldest
handled; none when all 256 are unhandled (R485). -/
def logSlot (log : Tab LogEntry) : Option Nat :=
  match leastBelow (fun k => (Tab.find log k).isNone) 256 with
  | some k => some k
  | none => match oldest log fun e => e.handled && e.cls ≤ 1 with
    | some e => some e.1
    | none => (oldest log LogEntry.handled).map Prod.fst

/-- The telemetry counts with one more error of a class. -/
def TelCounts.addClass (t : TelCounts) (cls : Nat) : TelCounts :=
  match cls with
  | 0 => { t with s0 := t.s0 + 1 } | 1 => { t with s1 := t.s1 + 1 } | 2 => { t with s2 := t.s2 + 1 } | _ => { t with s3 := t.s3 + 1 }

/-- The count of a class in ERR_CLSCNT. -/
def clsField (cls : Nat) : Fld :=
  match cls with
  | 0 => F.ERR_CLSCNT_S0 | 1 => F.ERR_CLSCNT_S1 | 2 => F.ERR_CLSCNT_S2 | _ => F.ERR_CLSCNT_S3

/-- Count one occurrence of a class (ERR_CLSCNT, telemetry). -/
def State.countClass (s : State) (cls : Nat) : State :=
  { (s.bump (clsField cls)) with err := { s.err with tel := s.err.tel.addClass cls } }

/-- Publish the event of a class: ERR_S1, ERR_S2, ERR_S3 (R364, R484). -/
def State.publishClass (s : State) (cls : Nat) : State := if cls = 0 then s else s.publish (221 + cls)

/-- Record the cause of a Roadside entry that is due at the end of the step; the first one stands (R122, R486). -/
def State.wantRoadside (s : State) (cause : Nat) : State :=
  match s.roadPend with
  | some _ => s
  | none => { s with roadPend := some cause }

def State.setLog (s : State) (k : Nat) (e : LogEntry) : State := { s with err := { s.err with log := Tab.put s.err.log k e } }

/-- The entries that the present cycle has written, with their slots, oldest first. -/
def State.cycleEntries (s : State) : List (Nat × LogEntry) :=
  (List.range (s.err.nextAge - s.err.cycAge)).filterMap fun i => s.err.log.find? fun e => e.2.age == s.err.cycAge + i

/-- An entry takes its place behind those of a source not above its own (R489). -/
def placeEntry (e : LogEntry) : List LogEntry → List LogEntry
  | [] => [e]
  | x :: l => if e.source < x.source then e :: x :: l else x :: placeEntry e l

/-- Lay the entries of a cycle into their slots, oldest first; the last one is the newest. -/
def State.layEntries (s : State) (slots : List Nat) (es : List LogEntry) : State :=
  let base := s.err.cycAge
  let log := foldOver (fun (x : (Nat × LogEntry) × Nat) (l : Tab LogEntry) => Tab.put l x.1.1 { x.1.2 with age := base + x.2 })
    (slots.zip es).zipIdx s.err.log
  ({ s with err := { s.err with log, nextAge := base + min slots.length es.length } } : State).setFld F.ERR_NEWEST_INDEX (slots.getLastD 0)

/-- The content of NOTIFY_ERROR (R147). -/
def errorNote (k : Nat) (e : LogEntry) : Bytes := leBytes 1 k ++ leBytes 1 e.cls ++ leBytes 2 e.source

/-- A packet that names a moved entry names it by its new slot. -/
def renamePkt (moved : List (Bytes × Bytes)) (p : Pkt) : Pkt :=
  match moved.find? fun m => p.opcode == 0x01F3 && p.par.drop 4 == m.1 with
  | some m => { p with par := p.par.take 4 ++ m.2 }
  | none => p

/-- The blocks of a packet's unit in a line port's queue give way to those of another packet. -/
def swapBlocks (old new : List Block) : List Block → List Block
  | [] => []
  | x :: l => if (x :: l).take old.length = old ∧ old ≠ [] then new ++ (x :: l).drop old.length else x :: swapBlocks old new l

/-- NOTIFY_ERRORs that wait name the entries of the cycle by the slots that these now have (R147, R489). -/
def State.renameNotes (s : State) (moved : List (Bytes × Bytes)) : State :=
  if moved.isEmpty then s
  else
    let addr := (s.inReg .FRM_NODE).toNat
    let units := fun (p : Pkt) => unitBlocks 4 addr 73 0 (pktBytes p)
    foldOver (fun (t : Tp) (u : State) =>
      let x := u.tp t
      let u1 := u.setTp t { x with queue := x.queue.map (renamePkt moved), sent := x.sent.map (renamePkt moved) }
      match t.port with
      | none => u1
      | some n => u1.onLp fun l => { l with ports := Tab.modify l.ports n {} fun y =>
          { y with own := foldOver (fun p o => if renamePkt moved p = p then o else swapBlocks (units p) (units (renamePkt moved p)) o) x.sent y.own } })
      Tp.all s

/-- Write a new entry, with a slot for it or, in a full log, without one: the entries of one cycle stand in the order of their sources, and
without a slot the last of them is not recorded. An S2 or S3 that gets a place is notified (R481, R485, R488, R489). -/
def State.writeEntry (s : State) (slot : Option Nat) (e : LogEntry) : State :=
  let l := s.cycleEntries
  let slots := l.map Prod.fst ++ slot.toList
  let es := (placeEntry e (l.map Prod.snd)).take slots.length
  let at_ := fun (x : LogEntry) => ((slots.zip es).find? fun y => y.2 == x).map Prod.fst
  let moved := l.filterMap fun y => match at_ y.2 with
    | some k => if k = y.1 then none else some (errorNote y.1 y.2, errorNote k y.2)
    | none => none
  let s1 := if es = l.map Prod.snd then s else (s.renameNotes moved).layEntries slots es
  match at_ e with
  | some k => if e.cls ≥ 2 then s1.notify 3 (errorNote k e) else s1
  | none => s1

/-- The entry that an error writes now (R481). -/
def State.entryOf (s : State) (cls src : Nat) (info : Word) (syndrome : Nat) : LogEntry :=
  { handled := false, cls, source := src, count := 1, sec := s.ntSec, undisc := !s.flag F.NTC_STAT_DISC, tick := s.ntTick, info,
    age := s.err.nextAge, syndrome }

/-- Write a new entry into a slot, with its event (R481, R484). -/
def State.newEntry (s : State) (k : Nat) (e : LogEntry) : State :=
  ((s.setFld F.ERR_NEWEST_HAS 1).writeEntry (some k) e).publishClass e.cls

/-- A full log: an error is dropped, of those of one cycle the one of the highest source, and, with an S2 or S3 about, ERR escalates, whose
cause comes before one of the dropped error's own (R485, R489; DESIGN CHOICE, log entry 223). -/
def State.logFull (s : State) (e : LogEntry) : State :=
  let s0 := s.writeEntry none e
  let s1 := (s0.bump F.ERR_DROPPED_COUNT).setFld F.ERR_STAT_OVERFLOW 1
  if e.cls ≥ 2 || s.err.log.any (fun x => !x.2.handled && x.2.cls ≥ 2) then
    ((s1.countClass 3).setFld F.ERR_STAT_ESCALATED 1).wantRoadside 0x20
  else s1

/-- An error is counted in an unhandled entry; in one of an earlier cycle with what it would write otherwise (R483, R489). -/
def State.countIn (s : State) (k : Nat) (old new : LogEntry) : State :=
  let s1 := s.setLog k { old with count := satAdd 0xFFFF old.count 1 }
  (if old.age ≥ s.err.cycAge then s1
   else { s1 with err := { s1.err with counted := match s.err.counted.find? fun c => c.1 == k with
     | some _ => s.err.counted.map fun c => if c.1 = k then (k, c.2.1, { c.2.2 with count := satAdd 0xFFFF c.2.2.count 1 }) else c
     | none => s.err.counted ++ [(k, old.count, new)] } }).publishClass new.cls

/-- Raise an error of a class below S3 or the logging part of an S3 (R480, R483, R485). -/
def State.logError (s : State) (cls src : Nat) (info : Word) (syndrome : Nat := 0) : State :=
  let s1 := s.countClass cls
  let e := s1.entryOf cls src info syndrome
  if cls = 0 ∧ !s.flag F.ERR_CFG_LOG_S0 then s1
  else match matchEntry s1.err.log cls src with
    | some (k, old) => s1.countIn k old e
    | none => match logSlot s1.err.log with
      | some k => s1.newEntry k e
      | none => s1.logFull e

/-- SOURCE of a block code and a unit (R482). -/
def srcOf (code unit : Nat) : Nat := code * 64 + unit

/-- Raise an error of class S0 to S2 by block code and unit. -/
def State.raise (s : State) (cls code unit : Nat) (info : Word := 0) : State := s.logError cls (srcOf code unit) info

/-- Raise an error that a memory code of the DRAM has found, with the visible address and the syndrome. No rule states the code, so the
syndrome is free, and INFO has room for the address alone (R452, R481; DESIGN CHOICE, log entry 220). -/
def State.raiseDram (s : State) (cls : Nat) (addr : Word) : State :=
  let (x, s1) := s.fresh 255
  s1.logError cls (srcOf 0x0A 0) addr (x + 1)

/-- Raise an S3, with the Roadside cause that R122 assigns to it (R486). -/
def State.fatal (s : State) (code unit : Nat) (info : Word) (cause : Nat) : State :=
  (s.logError 3 (srcOf code unit) info).wantRoadside cause

end Sys2Proof.Machine
end

