-- ==== Sys2Proof/Machine/CoreBase.lean ====
section
/-! DEFINITION. Registers of the Merzetil cores, exceptions and interrupts (R378 to R403), and the rights of initiators
(R39 to R41). -/

namespace Sys2Proof.Machine

/-- The core whose state a core acts on: the lockstep pair is one core (R382). -/
def pairOf (c : Nat) : Nat := if c = 1 then 0 else c

/-- The cluster of a core (R378). -/
def clusterOf (c : Nat) : Nat := c / 8

/-- A general register of a core; g0 reads zero (R388). -/
def State.gpr (s : State) (c i : Nat) : Word := if i = 0 then 0 else Tab.getD s.core.gpr (c * 32 + i) 0

/-- Write a general register; writes to g0 are discarded (R388). -/
def State.setGpr (s : State) (c i : Nat) (v : Word) : State :=
  if i = 0 then s else { s with core := { s.core with gpr := Tab.putD s.core.gpr (c * 32 + i) 0 v } }

/-- An accumulator of a core. -/
def State.acc (s : State) (c k : Nat) : Accu := Tab.getD s.core.acc (c * 4 + k) 0

def State.setAcc (s : State) (c k : Nat) (v : Accu) : State :=
  { s with core := { s.core with acc := Tab.putD s.core.acc (c * 4 + k) 0 v } }

/-- The address of a core's next instruction. -/
def State.pcOf (s : State) (c : Nat) : Word := Tab.getD s.core.pc c 0

def State.setPc (s : State) (c : Nat) (v : Word) : State := { s with core := { s.core with pc := Tab.putD s.core.pc c 0 v } }

/-- Whether a core is released (R381): the pair always, the others by their bit of SYSCTL_CORE_EN. -/
def State.released (s : State) (c : Nat) : Bool := c ≤ 1 || bit (s.reg .SYSCTL_CORE_EN).toNat c

/-- Whether the domain of a core is powered: CL0 with the system domain, CL1 and CL2 with the user domain (R37, R38, R123). -/
def State.corePowered (s : State) (c : Nat) : Bool := if c < 8 then s.sysOn else s.userOn

/-- Whether a core executes instructions. -/
def State.runs (s : State) (c : Nat) : Bool :=
  s.released c && s.corePowered c && !s.core.halted.contains c && !s.core.waiting.contains c

/-- Halt a core. -/
def State.halt (s : State) (c : Nat) : State :=
  { s with core := { s.core with halted := if s.core.halted.contains c then s.core.halted else s.core.halted ++ [c] } }

/-- Scratchpads and instruction caches that are lost have no word in error. -/
def SramState.losePads (r : SramState) (p : Nat → Bool) : SramState :=
  { r with errs := Tab.keep r.errs fun k _ =>
    !((k / 1073741824 == 1 && p (k % 1073741824 / 16384)) || (k / 1073741824 == 4 && p (k % 1073741824 / 1024))) }

/-- Cluster SRAM and microcode that are lost have no word in error. -/
def SramState.loseCluster (r : SramState) (cl : Nat) : SramState :=
  { r with errs := Tab.keep r.errs fun k _ => !((k / 131072 == 1056 + cl) || (k / 1073741824 == 2 && k % 1073741824 / 2048 == cl)) }

/-- Cores are held in reset: their registers, scratchpads and caches are lost (R381). -/
def State.coresLose (s : State) (p : Nat → Bool) : State :=
  let s1 := { s with regs := Tab.keep s.regs fun k _ => !(decide (RegName.CORE_CAUSE.ctorIdx ≤ k % 512) && p (k / 512)) }
  let c := s.core
  { s1 with core := { c with
    gpr := Tab.keep c.gpr fun k _ => !p (k / 32), acc := Tab.keep c.acc fun k _ => !p (k / 4), pc := Tab.keep c.pc fun k _ => !p k,
    pad := Tab.keep c.pad fun k _ => !p (k / 65536), halted := c.halted.filter fun k => !p k,
    waiting := c.waiting.filter fun k => !p k, icache := Tab.keep c.icache fun k _ => !p (k / 256),
    jumped := c.jumped.filter (fun k => !p k), cxUntil := Tab.keep c.cxUntil (fun k _ => !p k), lost := (List.range 24).filter p }, sram := s1.sram.losePads p }

/-- A cluster loses its cores, its SRAM and its microcode, with its decode table and UC_MAX (R56, R110, R407). -/
def State.clusterLose (cl : Nat) (s : State) : State :=
  let s1 := (s.coresLose fun c => decide (clusterOf c = cl)).clearMem (0x21000000 + cl * 0x80000) 0x80000
  let s2 := { s1 with regs := Tab.keep s1.regs fun k _ =>
    !((k % 512 == RegName.CL_CXDEC.ctorIdx && k / 512 / 32 == cl) || (k % 512 == RegName.CL_UCCFG.ctorIdx && k / 512 == cl)) }
  let en := s.fld F.SYSCTL_CORE_EN_EN
  let keep := if cl = 1 then en - bits en 13 6 * 64 else if cl = 2 then en % 16384 else en - bits en 5 0
  ({ s2 with sram := s2.sram.loseCluster cl, core := { s2.core with ucode := Tab.keep s2.core.ucode fun k _ => k / 2048 != cl } } : State).setFld
    F.SYSCTL_CORE_EN_EN keep

/-- The exception causes with their codes (R399). -/
inductive Cause where
  | illegal | fetchFault | loadFault | storeFault | misaligned | ecc | trap | brk | ucode | irq (k : Nat)
  deriving DecidableEq, Repr

def Cause.code : Cause → Nat
  | .illegal => 1 | .fetchFault => 2 | .loadFault => 3 | .storeFault => 4 | .misaligned => 5 | .ecc => 6 | .trap => 7 | .brk => 8
  | .ucode => 9 | .irq k => 16 + k

/-- The entry of an exception or interrupt: RETA, CAUSE and FADDR are written, STATUS is copied into SSTAT, IE cleared and HND
set, and the core goes to HBASE + code * 0x20 (R400). -/
def State.enter (s : State) (c : Nat) (x : Cause) (reta : Word) (faddr : Word) : State :=
  let s1 := s.setReg .CORE_RETA c (reta &&& 0xFFFFFFFC#32)
  let s2 := (s1.setReg .CORE_CAUSE c (BitVec.ofNat 32 x.code)).setReg .CORE_FADDR c faddr
  let s3 := s2.setReg .CORE_SSTAT c (s2.reg .CORE_STATUS c &&& 7#32)
  let s4 := (s3.setFld F.CORE_STATUS_IE 0 c).setFld F.CORE_STATUS_HND 1 c
  s4.setPc c (s4.reg .CORE_HBASE c + BitVec.ofNat 32 (x.code * 0x20))

/-- A double fault: the core halts, the pair together; ERR logs S2 for CL1 and CL2 and S3 for CL0 (R401). -/
def State.doubleFault (s : State) (c : Nat) : State :=
  let s1 := if c = 0 then (s.halt 0).halt 1 else s.halt c
  if c < 8 then s1.fatal 0x21 c 0 0x20 else s1.raise 2 0x21 c

/-- An exception of codes 1 to 9: the entry, or a double fault while HND is 1 (R400, R401). -/
def State.except (s : State) (c : Nat) (x : Cause) (reta faddr : Word) : State :=
  if s.flag F.CORE_STATUS_HND c then s.doubleFault c else s.enter c x reta faddr

/-- The interrupt a core takes now: the lowest k with its PEND and IEN bits set, while IE is 1 and HND is 0 (R402). -/
def State.irqDue (s : State) (c : Nat) : Option Nat :=
  if s.flag F.CORE_STATUS_IE c && !s.flag F.CORE_STATUS_HND c then
    leastBelow (fun k => bit (s.reg .EVF_CORE_PEND c).toNat k && bit (s.reg .CORE_IEN c).toNat k) 4
  else none

/-! ## Rights -/

/-- The cluster that an initiator acts for: a user cluster for its cores, CL0 for everything else (R39, R482). -/
def clusterOfWho (who : Nat) : Nat := if who < 24 then clusterOf who else 0

/-- An owner field: 3 acts as 0. -/
def ownerNum (v : Nat) : Nat := if v ≥ 3 then 0 else v

/-- The owner of a timer or compare unit (R348). -/
def State.tmrOwner (s : State) (n : Nat) : Nat := ownerNum (s.fld F.TMR_CTRL_OWNER n)
def State.cmpOwner (s : State) (k : Nat) : Nat := ownerNum (s.fld F.NTC_CMP_CTRL_OWNER k)
def State.gpioOwner (s : State) (n : Nat) : Nat := ownerNum (s.fld F.EVF_GPIO_OWNER n)

/-- A register access that R39 does not permit: ERR logs S2 with the core and the address, and the core takes the exception
(R41). -/
def State.denied (s : State) (who : Nat) (addr : Word) (x : Cause) : State :=
  let s1 := s.raise 2 0x21 who addr
  if who < 24 then s1.except (pairOf who) x (s1.pcOf (pairOf who)) addr else s1

/-- An access that no block answers: ERR logs S2 with the initiator and the address (R30). -/
def State.noDecode (s : State) (who : Nat) (addr : Word) : State := s.raise 2 0x24 who addr

end Sys2Proof.Machine
end

