-- ==== Sys2Proof/Machine/EvfOps.lean ====
section
/-! DEFINITION. The event fabric: owners and rights, group gates, software fires and the three stages of an event
(R361 to R377). -/

namespace Sys2Proof.Machine

/-- Whether the fabric runs: system domain powered and PLL0 selected (R376). -/
def State.evfRuns (s : State) : Bool := s.sysOn && s.onPll

/-- The owner of a channel; 3 acts as 0 (R370). -/
def State.chOwner (s : State) (c : Nat) : Nat := ownerNum (s.fld F.EVF_CH_CFG_OWNER c)

/-- Whether a channel is secure: owned by CL0 with SEC 1 (R370). -/
def State.chSecure (s : State) (c : Nat) : Bool := s.chOwner c == 0 && s.flag F.EVF_CH_CFG_SEC c

/-- The owner of a group; 3 acts as 0. -/
def State.grpOwner (s : State) (g : Nat) : Nat := ownerNum (bits (s.reg .EVF_GRP_OWN).toNat (2 * g + 1) (2 * g))

/-- The owner of a producer (R364). -/
def State.prodOwner (s : State) (p : Nat) : Nat :=
  if p < 32 then s.tmrOwner p else if p < 48 then s.cmpOwner (p - 32)
  else if 228 ≤ p ∧ p < 252 then s.gpioOwner (p - 228) else 0

/-- The owner of a consumer (R365). -/
def State.consOwner (s : State) (c : Nat) : Nat :=
  if c < 96 then s.tmrOwner (c % 32)
  else if 97 ≤ c ∧ c < 113 then s.cmpOwner (c - 97)
  else if 113 ≤ c ∧ c < 185 then s.gpioOwner ((c - 113) % 24)
  else if 186 ≤ c ∧ c < 218 then s.grpOwner ((c - 186) % 16)
  else if 218 ≤ c ∧ c < 314 then clusterOf ((c - 218) / 4)
  else 0

/-- Refuse an EVF write or fire: ACC_ERR (R369, R371). -/
def State.evfRefuse (s : State) : State := s.setFld F.EVF_STAT_ACC_ERR 1

/-- Whether a cluster may make a producer publish on a channel (R371). -/
def State.pubOk (s : State) (cl p ch : Nat) : Bool := cl == 0 || (s.prodOwner p == cl && s.chOwner ch == cl)

/-- Whether a cluster may subscribe a consumer to a channel (R371). -/
def State.subOk (s : State) (cl c ch : Nat) : Bool :=
  if cl = 0 then s.consOwner c == 0 || !s.chSecure ch
  else s.consOwner c == cl && (s.chOwner ch == cl || (s.chOwner ch == 0 && !s.chSecure ch))

/-- A write of EVF_PUB_p (R371). A write that carries the present values is no write of them (R11). -/
def State.evfPubWrite (s : State) (cl p : Nat) (w : Word) : State :=
  let same := s.fld F.EVF_PUB_EN p = bits w.toNat 31 31 ∧ s.fld F.EVF_PUB_CH p = bits w.toNat 7 0
  if s.pubOk cl p (bits w.toNat 7 0) then s.regStore .EVF_PUB p false w else if same then s else s.evfRefuse

/-- A write of EVF_SUB_c: each slot is accepted or refused by itself (R371). A slot that carries its present values is not
written (R11). -/
def State.evfSubWrite (s : State) (cl c : Nat) (w : Word) : State :=
  let same0 := s.fld F.EVF_SUB_EN0 c == bits w.toNat 31 31 && s.fld F.EVF_SUB_CH0 c == bits w.toNat 7 0
  let same1 := s.fld F.EVF_SUB_EN1 c == bits w.toNat 30 30 && s.fld F.EVF_SUB_CH1 c == bits w.toNat 15 8
  let ok0 := same0 || s.subOk cl c (bits w.toNat 7 0)
  let ok1 := same1 || s.subOk cl c (bits w.toNat 15 8)
  let s1 := if ok0 then (s.setFld F.EVF_SUB_EN0 (bits w.toNat 31 31) c).setFld F.EVF_SUB_CH0 (bits w.toNat 7 0) c else s.evfRefuse
  if ok1 then (s1.setFld F.EVF_SUB_EN1 (bits w.toNat 30 30) c).setFld F.EVF_SUB_CH1 (bits w.toNat 15 8) c else s1.evfRefuse

/-- Disconnect the publication of a producer that its owner's rights no longer cover (R372). -/
def State.dropPub (p : Nat) (s : State) : State :=
  if s.flag F.EVF_PUB_EN p && !s.pubOk (s.prodOwner p) p (s.fld F.EVF_PUB_CH p) then
    (s.setFld F.EVF_PUB_EN 0 p).bump F.EVF_STAT_DISCONNECTS else s

/-- Disconnect the subscription slots of a consumer that its owner's rights no longer cover (R372). -/
def State.dropSub (c : Nat) (s : State) : State :=
  let o := s.consOwner c
  let s1 := if s.flag F.EVF_SUB_EN0 c && !s.subOk o c (s.fld F.EVF_SUB_CH0 c) then
    (s.setFld F.EVF_SUB_EN0 0 c).bump F.EVF_STAT_DISCONNECTS else s
  if s1.flag F.EVF_SUB_EN1 c && !s1.subOk o c (s1.fld F.EVF_SUB_CH1 c) then
    (s1.setFld F.EVF_SUB_EN1 0 c).bump F.EVF_STAT_DISCONNECTS else s1

/-- A change of a timer's owner disconnects its publication and its three tasks where needed (R372). -/
def State.tmrOwnerChanged (s : State) (n : Nat) : State :=
  foldOver State.dropSub [n, 32 + n, 64 + n] (s.dropPub n)
def State.cmpOwnerChanged (s : State) (k : Nat) : State := (s.dropPub (32 + k)).dropSub (97 + k)
def State.gpioOwnerChanged (s : State) (n : Nat) : State :=
  foldOver State.dropSub [113 + n, 137 + n, 161 + n] (s.dropPub (228 + n))

/-- A change of a channel's owner or security disconnects the slots that name it, and takes it out of a group of another owner
(R372). -/
def State.chOwnerChanged (s : State) (ch : Nat) : State :=
  let s1 := foldOver State.dropPub ((List.range 384).filter fun p => s.fld F.EVF_PUB_CH p == ch) s
  let s2 := foldOver State.dropSub
    ((List.range 320).filter fun c => s.fld F.EVF_SUB_CH0 c == ch || s.fld F.EVF_SUB_CH1 c == ch) s1
  if s2.flag F.EVF_CH_CFG_IN_GRP ch && s2.chOwner ch != s2.grpOwner (s2.fld F.EVF_CH_CFG_GRP ch) then
    s2.setFld F.EVF_CH_CFG_IN_GRP 0 ch else s2

/-- A write of EVF_CH_k_CFG by CL0: SEC is 0 while OWNER is not 0; a group is joined only with the channel's owner (R370 to
R372). -/
def State.evfChWrite (s : State) (ch : Nat) (w : Word) : State :=
  let o0 := s.fld F.EVF_CH_CFG_OWNER ch
  let sec0 := s.fld F.EVF_CH_CFG_SEC ch
  let o := bits w.toNat 31 30
  let sec := if ownerNum o = 0 then bits w.toNat 29 29 else 0
  let s1 := (s.setFld F.EVF_CH_CFG_OWNER o ch).setFld F.EVF_CH_CFG_SEC sec ch
  let join := bit w.toNat 8
  let s2 := if join && ownerNum o != s.grpOwner (bits w.toNat 3 0) then s1.evfRefuse
    else (s1.setFlag F.EVF_CH_CFG_IN_GRP join ch).setFld F.EVF_CH_CFG_GRP (bits w.toNat 3 0) ch
  if o0 = o ∧ sec0 = sec then s2 else s2.chOwnerChanged ch

/-- Whether a group has a member channel: the running condition of its owner field (EVF_GRP_OWN). -/
def State.grpHasMember (s : State) (g : Nat) : Bool :=
  (List.range 256).any fun c => s.flag F.EVF_CH_CFG_IN_GRP c && s.fld F.EVF_CH_CFG_GRP c == g

/-- A write of EVF_GRP_OWN, locked group by group. -/
def State.evfGrpOwnWrite (s : State) (w : Word) : State :=
  foldOver (fun g t =>
    let v := bits w.toNat (2 * g + 1) (2 * g)
    let old := bits (t.reg .EVF_GRP_OWN).toNat (2 * g + 1) (2 * g)
    if old = v then t else if t.nowOrWas (fun u => u.grpHasMember g) then t.setWlock .EVF_GRP_OWN 0
    else t.setReg .EVF_GRP_OWN 0 (wordPut (t.reg .EVF_GRP_OWN) (2 * g + 1) (2 * g) v)) (List.range 16) s

/-- A write of EVF_GPIO_n: only CL0 writes OWNER (R371, R372). -/
def State.evfGpioWrite (s : State) (cl n : Nat) (w : Word) : State :=
  let s1 := ((s.setFld F.EVF_GPIO_EDGE (bits w.toNat 9 8) n).setFld F.EVF_GPIO_OE (bits w.toNat 1 1) n).setFld F.EVF_GPIO_OUT
    (bits w.toNat 0 0) n
  let o := bits w.toNat 31 30
  if cl = 0 ∧ s.fld F.EVF_GPIO_OWNER n ≠ o then (s1.setFld F.EVF_GPIO_OWNER o n).gpioOwnerChanged n else s1

/-- Open or close a group (R374); when both fall in one cycle, the close applies (R375). -/
def State.groupSet (s : State) (g : Nat) (opening : Bool) : State :=
  if opening && s.evf.closed.contains g then s
  else
    let t := s.setReg .EVF_GRP_STATE 0 (wordPut (s.reg .EVF_GRP_STATE) g g (b2n opening))
    if opening then t else { t with evf := { t.evf with closed := t.evf.closed ++ [g] } }

/-- Open or close the groups that a cluster names; bits of groups it does not own are refused (R371, R374). -/
def State.evfGrpWrite (s : State) (cl : Nat) (opening : Bool) (w : Word) : State :=
  let mine := fun g => cl == 0 || s.grpOwner g == cl
  let s1 := foldOver (fun g (t : State) => if bit w.toNat g && mine g then t.groupSet g opening else t) (List.range 16) s
  if (List.range 16).any fun g => bit w.toNat g && !mine g then s1.evfRefuse else s1

/-- A software fire on a channel (R369): checked against the rights of the cluster that makes it. While the fabric stands still
the fire is lost. -/
def State.evfFire (s : State) (cl ch : Nat) : State :=
  if cl ≠ 0 ∧ s.chOwner ch ≠ cl then s.evfRefuse
  else if s.evfRuns then { s with evf := { s.evf with flight := s.evf.flight ++ [(s.cyc, .onChannel ch)] } } else s

/-- Stage 1: the producer's channel (R363). -/
def State.stage1 (s : State) : Flight → Option Flight
  | .produced p => if s.flag F.EVF_PUB_EN p then some (.onChannel (s.fld F.EVF_PUB_CH p)) else none
  | f => some f

/-- Whether a channel's event passes its group gate (R374). -/
def State.gateOpen (s : State) (ch : Nat) : Bool :=
  !s.flag F.EVF_CH_CFG_IN_GRP ch || bit (s.reg .EVF_GRP_STATE).toNat (s.fld F.EVF_CH_CFG_GRP ch)

/-- The consumers subscribed to a channel by an enabled slot (R366). -/
def State.subscribers (s : State) (ch : Nat) : List Nat :=
  (List.range 320).filter fun c =>
    (s.flag F.EVF_SUB_EN0 c && s.fld F.EVF_SUB_CH0 c == ch) || (s.flag F.EVF_SUB_EN1 c && s.fld F.EVF_SUB_CH1 c == ch)

/-- Stage 2: the group gate and the match to subscribers (R363). -/
def State.stage2 (s : State) : Flight → Option Flight
  | .onChannel ch => if s.gateOpen ch then some (.matched (s.subscribers ch)) else none
  | f => some f

/-- Move every event on by the stages its age gives it (R363). -/
def State.evfAdvance (s : State) : State :=
  let go := fun (e : Nat × Flight) =>
    let f1 := if s.cyc ≥ e.1 + 1 then s.stage1 e.2 else some e.2
    let f2 := if s.cyc ≥ e.1 + 2 then f1.bind s.stage2 else f1
    f2.map fun f => (e.1, f)
  { s with evf := { s.evf with flight := s.evf.flight.filterMap go } }

/-- The oldest cycle of an event in the fabric. -/
def State.evfOldest (s : State) : Option Nat := s.evf.flight.foldl (fun b e => some (min e.1 (b.getD e.1))) none

/-- The consumers that the events of the oldest cycle reach, one entry for each event, and the state without those events. -/
def State.evfArrive (s : State) : List Nat × State :=
  match s.evfOldest with
  | none => ([], s)
  | some c0 =>
    let mine := s.evf.flight.filter fun e => e.1 == c0
    let hits := mine.flatMap fun e => match (s.stage1 e.2).bind s.stage2 with
      | some (.matched cs) => cs
      | _ => []
    (hits, { s with evf := { s.evf with flight := s.evf.flight.filter fun e => e.1 != c0 } })

/-- The events kept on FRC are published when the fabric runs again (R376). -/
def State.evfRelease (s : State) : State :=
  { s with evf := { s.evf with flight := s.evf.flight ++ s.evf.kept.map fun p => (s.cyc, .produced p), kept := [] } }

/-- An overrun sets OVR of a consumer, also where it is set already (R7, R377); EVF_OVR is published once for each rise (R364). -/
def State.setOvr (s : State) (c : Nat) : State :=
  let t := s.setFld F.EVF_CSTAT_OVR 1 c
  if s.flag F.EVF_CSTAT_OVR c then t else t.publish 383

/-- The bookkeeping of n events that reach an input in one cycle (R366): COAL grows by n - 1, and a busy input sets OVR. -/
def State.coalesce (s : State) (c n : Nat) (busy : Bool) : State :=
  let s1 := if n > 1 then s.bump F.EVF_CSTAT_COAL c (n - 1) else s
  if busy then s1.setOvr c else s1

end Sys2Proof.Machine
end

