-- ==== Sys2Proof/Machine/TimeOps.lean ====
section
/-! DEFINITION. Network time, compare units, timers and the real-time clock: the operations (R326 to R360). -/

namespace Sys2Proof.Machine

/-! ## Network time -/

/-- Ticks of a second, and of the whole range of network time. -/
def ticksPerSec : Nat := 100000000
def ntRange : Nat := 4294967296 * 100000000

/-- Put both counters at a count of ticks (R326). -/
def State.setNt (s : State) (t : Nat) : State :=
  (s.setReg .NTC_SEC 0 (BitVec.ofNat 32 (t % ntRange / ticksPerSec))).setReg .NTC_TICK 0 (BitVec.ofNat 32 (t % ntRange % ticksPerSec))

/-- Move network time by a signed count of ticks, with carry and borrow (R326, R331). -/
def State.addNt (s : State) (d : Int) : State := s.setNt ((s.nt + d) % ntRange).toNat

/-- The signed rate in force, clamped to 500 ppm (R327). -/
def clampRate (r : Int) : Int := if r > 2147484 then 2147484 else if r < -2147484 then -2147484 else r

/-- One CLK_EVT cycle of network time: one tick plus the fraction on PLL0, one tick on FRC (R327, R333). -/
def State.ntCycle (s : State) : State :=
  if s.onPll then
    let a := (s.ntc.frac : Int) + clampRate (s.reg .NTC_RATE).toInt
    let s1 := { s with ntc := { s.ntc with frac := (a % 4294967296).toNat } }
    s1.addNt (if a ≥ 4294967296 then 2 else if a < 0 then 0 else 1)
  else s.addNt 1

/-- DISC rises (R337). -/
def State.discUp (s : State) : State := if s.flag F.NTC_STAT_DISC then s else (s.setFld F.NTC_STAT_DISC 1).publish 49

/-- DISC falls; LOCKCNT is cleared whether DISC was 1 or 0 (R337). -/
def State.discDown (s : State) : State :=
  let s1 := s.setFld F.NTC_STAT_LOCKCNT 0
  if s1.flag F.NTC_STAT_DISC then (s1.setFld F.NTC_STAT_DISC 0).publish 50 else s1

/-- The source of discipline in force (R338). -/
def State.ntSrc (s : State) : Nat := s.fld F.NTC_DISC_SRC

/-- The marks of a load or step: STEPPED, the event NTC_STEP, and the count that discards samples (R331, R336). -/
def State.ntMoved (s : State) : State :=
  { ((s.setFld F.NTC_STAT_STEPPED 1).publish 48) with ntc := { s.ntc with moves := s.ntc.moves + 1 } }

/-! ## Compare units -/

/-- Whether network time has reached a value of a compare unit (R340). -/
def State.ntReached (s : State) (v : Nat) : Bool :=
  let d := (s.ntSec.toNat + 4294967296 - v / ticksPerSec % 4294967296) % 4294967296
  d < 2147483648 && (d > 0 || s.ntTick ≥ v % ticksPerSec)

/-- The value of a compare unit. -/
def State.cmpVal (s : State) (k : Nat) : Nat := Tab.getD s.ntc.cmp k 0

def State.setCmpVal (s : State) (k v : Nat) : State := { s with ntc := { s.ntc with cmp := Tab.put s.ntc.cmp k v } }

/-- Arm a compare unit with its SEC register and a tick value (R340). -/
def State.cmpArm (s : State) (k : Nat) (tick : Word) : State :=
  let t := bits tick.toNat 26 0
  let s1 := s.setReg .NTC_CMP_TICK k (BitVec.ofNat 32 t)
  let v := (s.reg .NTC_CMP_SEC k).toNat * ticksPerSec + (if t > 99999999 then 99999999 else t)
  ((s1.setCmpVal k v).setFld F.NTC_CMP_CTRL_ARMED 1 k).setFld F.NTC_CMP_CTRL_MISSED 0 k

def State.cmpDisarm (s : State) (k : Nat) : State := s.setFld F.NTC_CMP_CTRL_ARMED 0 k

/-- The period of a compare unit; values of 2^31 and above act as 2^31 - 1. -/
def State.cmpPer (s : State) (k : Nat) : Nat :=
  let p := (s.reg .NTC_CMP_PER k).toNat
  if p ≥ 2147483648 then 2147483647 else p

/-- A compare unit fires (R340): FIRED, its event, and disarming or the advance by its period, with SKIP over whole periods
already reached. -/
def State.cmpFire (k : Nat) (s : State) : State :=
  let s1 := (s.setFld F.NTC_CMP_CTRL_FIRED 1 k).publish (32 + k)
  let p := s.cmpPer k
  if p = 0 then s1.cmpDisarm k else
    let v := (s.cmpVal k + p) % ntRange
    if s.flag F.NTC_CMP_CTRL_SKIP k && s.ntReached v then
      let n := (s.nt + ntRange - v) % ntRange / p + 1
      (s1.setCmpVal k ((v + n * p) % ntRange)).bump F.NTC_CMP_CTRL_MISSED k n
    else s1.setCmpVal k v

/-- The units that a move of network time makes fire: armed and reached (R332). -/
def State.cmpSweep (s : State) : State :=
  foldOver (fun k t => if t.flag F.NTC_CMP_CTRL_ARMED k && t.ntReached (t.cmpVal k) then t.cmpFire k else t) (List.range 16) s

/-! ## Timers -/

def isPeriodic (n : Nat) : Bool := n < 16

/-- Whether the timers stand still: not on PLL0 (R342). -/
def State.tmrFrozen (s : State) : Bool := !(s.sysOn && s.onPll)

/-- The link mode in force of a timer; values above 3 and a link to itself act as none (R346). -/
def State.tmrLink (s : State) (n : Nat) : Nat :=
  let l := s.inFld F.TMR_CTRL_LMODE n
  if l > 3 || s.inFld F.TMR_CTRL_MSEL n == n then 0 else l

/-- Load COUNT of a timer from the BUF now in force; 0 acts as 1 (R343). -/
def State.tmrReload (s : State) (n : Nat) : State :=
  let s1 := s.boundary .TMR_BUF n
  let b := s1.reg .TMR_BUF n
  s1.setReg .TMR_COUNT n (if b = 0 then 1 else b)

/-- A timer stops, or a one-shot is disarmed; the count is kept (R343, R344). -/
def State.tmrStop (n : Nat) (s : State) : State :=
  let s1 := (s.setFld F.TMR_CTRL_EN 0 n).setFld F.TMR_TSTAT_RUNNING 0 n
  if isPeriodic n then s1 else s1.setFld F.TMR_TSTAT_OUT 0 n

/-- What an expiry does to the timer itself (R343 to R345, R349). -/
def State.tmrExpireSelf (s : State) (n : Nat) : State :=
  let s1 := s.publish n
  let s2 := if s1.flag F.TMR_TSTAT_EXP n then s1.setFld F.TMR_TSTAT_OVR 1 n else s1.setFld F.TMR_TSTAT_EXP 1 n
  let s3 := s2.bumpWrap F.TMR_TSTAT_EXP_CNT n
  if isPeriodic n then (s3.tmrReload n).setFlag F.TMR_TSTAT_OUT (!s3.flag F.TMR_TSTAT_OUT n) n
  else (s3.tmrStop n).setReg .TMR_COUNT n 0

/-- The expiry that a timer's count has made due in this cycle is taken; its links act in the next one (R343 to R346). It comes before all
that this cycle does to the timer (R349), and at the cycle's end at the latest. -/
def State.tmrTake (n : Nat) (s : State) : State :=
  if !s.tmr.due.contains n then s
  else (s.tmrExpireSelf n).onTmr fun t => { t with due := t.due.filter (· != n), expired := t.expired ++ [n],
                                                   reloaded := if isPeriodic n then t.reloaded ++ [n] else t.reloaded }

/-- Load a timer from BUF and run or arm it; the waiting fields take effect (R343, R344). -/
def State.tmrLoad (s : State) (n : Nat) : State :=
  let s1 := ((s.tmrTake n).boundary .TMR_CTRL n).tmrReload n
  let s2 := ((s1.setFld F.TMR_CTRL_EN 1 n).setFld F.TMR_TSTAT_RUNNING 1 n).setFlag F.TMR_TSTAT_OUT (!isPeriodic n) n
  s2.onTmr fun t => { t with presc := Tab.del t.presc n }

/-- EN 1: load and run, with EXP_CNT cleared. -/
def State.tmrStart (s : State) (n : Nat) : State := (s.tmrLoad n).setFld F.TMR_TSTAT_EXP_CNT 0 n

/-- RESTART or a RESET link. -/
def State.tmrRestart (n : Nat) (s : State) : State := s.tmrLoad n

/-- EN 0 as a command: an expiry of the same cycle is still taken (R349). -/
def State.tmrHalt (n : Nat) (s : State) : State := (s.tmrTake n).tmrStop n

/-- A write of COUNT (R343, R344): a periodic timer takes the count and goes on, and 0 acts as 1 while it runs (DEDUCED: its COUNT never
reads 0 then; log entry 213); a one-shot is armed with it, or disarmed by 0. An expiry of the same cycle is taken before it (R349). -/
def State.tmrCount (s0 : State) (n : Nat) (w : Word) : State :=
  let s := s0.tmrTake n
  if isPeriodic n then
    (s.setReg .TMR_COUNT n (if w = 0 ∧ s.flag F.TMR_TSTAT_RUNNING n then 1 else w)).onTmr fun t => { t with reloaded := t.reloaded.filter (· != n) }
  else if w = 0 then (s.tmrStop n).setReg .TMR_COUNT n 0
  else
    let s1 := ((s.boundary .TMR_CTRL n).boundary .TMR_BUF n).setReg .TMR_COUNT n w
    let s2 := ((s1.setFld F.TMR_CTRL_EN 1 n).setFld F.TMR_TSTAT_RUNNING 1 n).setFld F.TMR_TSTAT_OUT 1 n
    s2.onTmr fun t => { t with presc := Tab.del t.presc n }

/-- A write of BUF: it waits for the next reload, and governs one of the same cycle (R343, R349). -/
def State.tmrBufWrite (s : State) (n : Nat) (w : Word) : State :=
  let s1 := s.regStore .TMR_BUF n false w
  if s.tmr.reloaded.contains n then s1.tmrReload n else s1

/-- One tick of a timer: the count falls, and at 1 it runs out (R343, R344). -/
def State.tmrDown (s : State) (n : Nat) : State :=
  if (s.reg .TMR_COUNT n).toNat > 1 then s.setReg .TMR_COUNT n (s.reg .TMR_COUNT n - 1)
  else s.onTmr fun t => { t with due := t.due ++ [n] }

/-- One CLK_EVT cycle of a timer that counts its own ticks: the prescaler, then a tick (R342 to R346). -/
def State.tmrCycle (n : Nat) (s : State) : State :=
  let l := s.tmrLink n
  let counts := s.flag F.TMR_TSTAT_RUNNING n && !s.tmrFrozen && l != 3
    && (l != 1 || s.flag F.TMR_TSTAT_OUT (s.inFld F.TMR_CTRL_MSEL n))
  if !counts then s else
    let p := Tab.getD s.tmr.presc n 0 + 1
    if p < 2 ^ s.inFld F.TMR_CTRL_PRESC n then s.onTmr fun t => { t with presc := Tab.put t.presc n p }
    else (s.onTmr fun t => { t with presc := Tab.del t.presc n }).tmrDown n

/-- One CLK_EVT cycle of a timer when the timers `ms` have expired in the cycle before (R346, R349): a RESET link restarts it, and its own
tick is lost; a CLOCK link counts one tick. -/
def State.tmrTick (ms : List Nat) (n : Nat) (s : State) : State :=
  let hit := ms.contains (s.inFld F.TMR_CTRL_MSEL n)
  let l := s.tmrLink n
  if l = 2 ∧ hit then State.tmrRestart n s
  else if l = 3 then (if hit && s.flag F.TMR_TSTAT_RUNNING n then s.tmrDown n else s)
  else State.tmrCycle n s

/-- One CLK_EVT cycle of the timers; on FRC they stand still (R342). -/
def State.tmrCycles (s : State) : State :=
  if s.tmrFrozen then s
  else foldOver (State.tmrTick s.tmr.expired) (List.range 32) (s.onTmr fun t => { t with expired := [] })

/-- A write of TMR_n_CTRL (R343, R344, R348): the fields by their classes, then RESTART, EN 1 or EN 0. -/
def State.tmrCtrlWrite (s : State) (cl n : Nat) (w : Word) : State :=
  let o0 := s.fld F.TMR_CTRL_OWNER n
  let w1 := if cl = 0 then w else wordPut w 31 30 o0
  let s1 := s.regStore .TMR_CTRL n (s.nowOrWas fun t => t.flag F.TMR_TSTAT_RUNNING n) w1
  let s2 := if s1.fld F.TMR_CTRL_OWNER n = o0 then s1 else s1.tmrOwnerChanged n
  if bit w.toNat 1 then s2.tmrRestart n else if bit w.toNat 0 then s2.tmrStart n else State.tmrHalt n s2

/-- A write of NTC_CMPk_CTRL: OWNER by CL0 only, SKIP, DISARM, FIRED (R340, R348). -/
def State.cmpCtrlWrite (s : State) (cl k : Nat) (w : Word) : State :=
  let o0 := s.fld F.NTC_CMP_CTRL_OWNER k
  let w1 := if cl = 0 then w else wordPut w 31 30 o0
  let s1 := s.regStore .NTC_CMP_CTRL k false w1
  let s2 := if s1.fld F.NTC_CMP_CTRL_OWNER k = o0 then s1 else s1.cmpOwnerChanged k
  if bit w.toNat 2 then s2.cmpDisarm k else s2

/-! ## The calendar -/

/-- Days of the years before 2000 + y, counted from 2000-01-01 (R351). -/
def daysBeforeYear (y : Nat) : Nat := 365 * y + (y + 3) / 4

def isLeap (y : Nat) : Bool := y % 4 == 0

/-- Days of a month of 2000 + y. -/
def monthDays (y m : Nat) : Nat :=
  match m with
  | 2 => if isLeap y then 29 else 28
  | 4 => 30 | 6 => 30 | 9 => 30 | 11 => 30
  | _ => 31

/-- Days of the months before month m of 2000 + y. -/
def daysBeforeMonth (y m : Nat) : Nat := ((List.range 13).filter fun k => 1 ≤ k && k < m).foldl (fun a k => a + monthDays y k) 0

def daysInAll : Nat := 36525
def calRange : Nat := 36525 * 86400

/-- The year, month and day of a day count. -/
def dateOf (d : Nat) : Nat × Nat × Nat :=
  let y := countBelow (fun k => daysBeforeYear (k + 1) ≤ d) 100
  let r := d - daysBeforeYear y
  let m := 1 + countBelow (fun k => daysBeforeMonth y (k + 2) ≤ r) 11
  (y, m, r - daysBeforeMonth y m + 1)

/-- The calendar as seconds from 2000-01-01 00:00:00. -/
def State.calSec (s : State) : Nat :=
  (daysBeforeYear (s.fld F.RTC_DATE_YEAR) + daysBeforeMonth (s.fld F.RTC_DATE_YEAR) (s.fld F.RTC_DATE_MONTH)
    + s.fld F.RTC_DATE_DAY - 1) * 86400 + s.fld F.RTC_TIME_HOUR * 3600 + s.fld F.RTC_TIME_MIN * 60 + s.fld F.RTC_TIME_SEC

/-- Put the calendar at a count of seconds, WDAY computed: 1 Monday to 7 Sunday; 2000-01-01 is a Saturday (R351). -/
def State.setCal (s : State) (t : Nat) : State :=
  let d := t % calRange / 86400
  let (y, m, dd) := dateOf d
  let r := t % 86400
  let s1 := ((s.setFld F.RTC_TIME_HOUR (r / 3600)).setFld F.RTC_TIME_MIN (r / 60 % 60)).setFld F.RTC_TIME_SEC (r % 60)
  (((s1.setFld F.RTC_DATE_YEAR y).setFld F.RTC_DATE_MONTH m).setFld F.RTC_DATE_DAY dd).setFld F.RTC_DATE_WDAY ((d + 5) % 7 + 1)

/-- Whether the fields of RTC_TIME and RTC_DATE are a valid time and date (R353). -/
def State.calValid (s : State) : Bool :=
  let y := s.fld F.RTC_DATE_YEAR
  let m := s.fld F.RTC_DATE_MONTH
  let d := s.fld F.RTC_DATE_DAY
  s.fld F.RTC_TIME_HOUR < 24 && s.fld F.RTC_TIME_MIN < 60 && s.fld F.RTC_TIME_SEC < 60 && y < 100 && 1 ≤ m && m ≤ 12
    && 1 ≤ d && d ≤ monthDays y m

/-- WDAY of the date that RTC_DATE holds (R351); of one that is no date the spec gives none: a free value (DESIGN CHOICE, log entry 214). -/
def State.wdaySet (s : State) : State :=
  let y := s.fld F.RTC_DATE_YEAR
  let m := s.fld F.RTC_DATE_MONTH
  let d := s.fld F.RTC_DATE_DAY
  if y < 100 ∧ 1 ≤ m ∧ m ≤ 12 ∧ 1 ≤ d ∧ d ≤ monthDays y m then
    s.setFld F.RTC_DATE_WDAY ((daysBeforeYear y + daysBeforeMonth y m + d - 1 + 5) % 7 + 1)
  else let (x, s1) := s.fresh 8
    s1.setFld F.RTC_DATE_WDAY x

/-- Whether a calendar second matches every selected field of an alarm (R356). -/
def State.alarmMatch (s : State) (a t : Nat) : Bool :=
  let mask := s.inFld F.RTC_ALM_CTRL_MASK a
  let (y, m, d) := dateOf (t / 86400 % daysInAll)
  let r := t % 86400
  let f := fun k (x : Nat) (g : Fld) => !bit mask k || x == s.inFld g a
  f 0 (r % 60) F.RTC_ALM_TIME_SEC && f 1 (r / 60 % 60) F.RTC_ALM_TIME_MIN && f 2 (r / 3600) F.RTC_ALM_TIME_HOUR
    && f 3 d F.RTC_ALM_DATE_DAY && f 4 m F.RTC_ALM_DATE_MONTH && f 5 y F.RTC_ALM_DATE_YEAR

/-- Whether a day matches the date fields of an alarm: the time of day is then free. -/
def State.alarmDay (s : State) (a d : Nat) : Bool :=
  let mask := s.inFld F.RTC_ALM_CTRL_MASK a
  let (y, m, dd) := dateOf (d % daysInAll)
  let f := fun k (x : Nat) (g : Fld) => !bit mask k || x == s.inFld g a
  f 3 dd F.RTC_ALM_DATE_DAY && f 4 m F.RTC_ALM_DATE_MONTH && f 5 y F.RTC_ALM_DATE_YEAR

/-- The first answer among the numbers below n. -/
def firstSome (f : Nat → Option Nat) : Nat → Option Nat
  | 0 => none
  | n + 1 => match firstSome f n with
    | some v => some v
    | none => f n

/-- The first second of a day, within the seconds from t to t + n - 1, that matches an alarm: by hour, minute and second. -/
def State.dayOcc (s : State) (a d t n : Nat) : Option Nat :=
  let meets := fun (x len : Nat) => t < x + len && x < t + n
  firstSome (fun h => if meets (d * 86400 + h * 3600) 3600 then
    firstSome (fun m => if meets (d * 86400 + h * 3600 + m * 60) 60 then
      firstSome (fun r => let x := d * 86400 + h * 3600 + m * 60 + r
        if meets x 1 && s.alarmMatch a x then some x else none) 60 else none) 60 else none) 24

/-- The first occurrence of an alarm from a second t to t + n - 1. -/
def State.firstOcc (s : State) (a t n : Nat) : Option Nat :=
  let d0 := t / 86400
  let days := n / 86400 + 2
  firstSome (fun c => firstSome (fun k => let d := d0 + c * 200 + k
    if c * 200 + k < days && s.alarmDay a d then s.dayOcc a d t n else none) 200) (days / 200 + 1)

/-- An alarm fires: ALMa, CAUSE, its event, and F (R356, R357). -/
def State.alarmFire (s : State) (a t : Nat) (passed : Bool) : State :=
  let s1 := if a = 0 then (s.setFld F.RTC_STAT_ALM0 1).setFlag F.RTC_STAT_ALM0_CAUSE passed
    else (s.setFld F.RTC_STAT_ALM1 1).setFlag F.RTC_STAT_ALM1_CAUSE passed
  { (s1.publish (51 + a)) with rtc := { s1.rtc with fired := Tab.put s1.rtc.fired a (t % calRange) } }

/-- Whether an enabled alarm fires at a second it meets: not at or before F after a backward adjustment with REARM_BACK 0
(R357). -/
def State.alarmDue (s : State) (a t : Nat) : Bool :=
  s.inFld F.RTC_ALM_CTRL_EN a == 1 && s.alarmMatch a t
    && match Tab.find s.rtc.back a with
      | some f => decide (f < t)
      | none => true

/-- The calendar has come to a second: an alarm held back up to F is held back no longer once F is reached (R357). -/
def State.alarmPast (a t : Nat) (s : State) : State :=
  match Tab.find s.rtc.back a with
  | some f => if f ≤ t then { s with rtc := { s.rtc with back := Tab.del s.rtc.back a } } else s
  | none => s

/-- Compare both alarms with the calendar at a second boundary (R356). -/
def State.alarms (s : State) (t : Nat) : State :=
  foldOver (fun a u => State.alarmPast a t (if u.alarmDue a t then u.alarmFire a t false else u)) [0, 1] s

/-- Enabled alarms at an adjustment from one second to another (R357). -/
def State.alarmsAdjust (s : State) (old new : Nat) : State :=
  foldOver (fun a u =>
    if new > old then
      State.alarmPast a new (if u.inFld F.RTC_ALM_CTRL_EN a = 1 then
        let from0 := match Tab.find u.rtc.back a with
          | some f => max old f
          | none => old
        match u.firstOcc a (from0 + 1) (new - from0) with
        | some t => u.alarmFire a t true
        | none => u
       else u)
    else if new = old ∨ u.inFld F.RTC_ALM_CTRL_EN a = 0 then u
    else match Tab.find u.rtc.fired a with
      | some f => if f < new then u
        else if u.inFld F.RTC_ALM_CTRL_REARM_BACK a = 1 then { u with rtc := { u.rtc with back := Tab.del u.rtc.back a } }
        else { u with rtc := { u.rtc with back := Tab.put u.rtc.back a f } }
      | none => u) [0, 1] s

/-- One second of the calendar: the waiting alarm fields take effect, the calendar advances, and the alarms are compared
(R351, R356, R358). -/
def State.calSecond (s : State) : State :=
  let s0 := foldOver (fun a t => ((t.boundary .RTC_ALM_TIME a).boundary .RTC_ALM_DATE a).boundary .RTC_ALM_CTRL a) [0, 1] s
  let t := s0.calSec + 1
  let s1 := (s0.setCal t).setReg .RTC_SUB 0 0
  let s2 := (if t ≥ calRange then s1.setFld F.RTC_STAT_WRAP 1 else s1).publish 53
  let s3 := s2.onRtc fun x => { x with sub := 0, edge := some ⟨s.cyc, s.calSec, s2.reg .RTC_STAT, x.fired, x.back⟩ }
  s3.alarms (t % calRange)

/-- An adjustment on the edge of a second boundary comes before its occurrences (R358): what the alarms have done at it is taken back, and
the old time is the second before it (DEDUCED, log entry 215). -/
def State.edgeUndo (s : State) : Nat × State :=
  match s.rtc.edge with
  | some e => if e.cyc ≠ s.cyc then (s.calSec, s)
    else
      let s1 := foldOver (fun (a : Nat) (t : State) =>
        if Tab.find t.rtc.fired a = Tab.find e.fired a && (bit (s.reg .RTC_STAT).toNat a == bit e.stat.toNat a) then t else t.unpublish (51 + a)) [0, 1] s
      (e.old, (s1.setReg .RTC_STAT 0 e.stat).onRtc fun x => { x with fired := e.fired, back := e.back, edge := none })
  | none => (s.calSec, s)

/-- Move the calendar by a signed count of seconds (R355, R358). Before 2000-01-01 the spec gives no calendar: a free value
(log entry 10). -/
def State.calAdjust (s0 : State) (d : Int) : State :=
  let (old, s) := s0.edgeUndo
  let new : Int := s0.calSec + d
  let (t, s1) := if new < 0 then s.fresh calRange else (new.toNat, s)
  let s2 := s1.setCal t
  let s3 := if t ≥ calRange then s2.setFld F.RTC_STAT_WRAP 1 else s2
  (s3.alarmsAdjust old t).onRtc fun x => { x with ofsDue := true }

/-- Halt the calendar: SUB held at 0, the old time kept for the adjustment (R353, R355). -/
def State.rtcHalt (s : State) : State :=
  if s.flag F.RTC_CTRL_HALT then s else
    ((s.setFld F.RTC_CTRL_HALT 1).setReg .RTC_SUB 0 0).onRtc fun x => { x with old := some s.calSec, sub := 0, haltAt := some s.cyc }

/-- Release the calendar: an invalid setting keeps HALT and sets BAD_SET; a valid one counts on and is an adjustment
(R353, R355, R357). -/
def State.rtcRelease (s : State) : State :=
  if !s.flag F.RTC_CTRL_HALT then s
  else if !s.calValid then s.setFld F.RTC_STAT_BAD_SET 1
  else
    let t := s.calSec
    let s1 := ((s.setFld F.RTC_CTRL_HALT 0).setCal t).setReg .RTC_SUB 0 0
    let s2 := match s.rtc.old with
      | some o => s1.alarmsAdjust o t
      | none => s1
    s2.onRtc fun x => { x with old := none, ofsDue := true, sub := 0 }

/-- The network time that the RTC gives (R334): seconds and ticks from the calendar, SUB and the offset; 0 while LOST is 1. -/
def State.rtcNt (s : State) : Nat :=
  if s.flag F.RTC_STAT_LOST then 0 else
    let x := s.fld F.RTC_SUB_SUB * 390625 + s.fld F.RTC_NTOFS_TICK_TICK
    let c := if x > 99999999 then 1 else 0
    (s.calSec + (s.reg .RTC_NTOFS_SEC).toNat + c) % 4294967296 * ticksPerSec + (x - c * 100000000)

/-- Load network time from the RTC; DISC is 0 after it (R334). -/
def State.ntFromRtc (s : State) : State := (s.setNt s.rtcNt).discDown

/-- Rewrite the offset so that R334 gives the present network time (R335). -/
def State.rtcSyncOfs (s : State) : State :=
  let x : Int := (s.ntTick : Int) - s.fld F.RTC_SUB_SUB * 390625
  let c : Nat := if x < 0 then 1 else 0
  let sec := (s.ntSec.toNat + 2 * 4294967296 - s.calSec % 4294967296 - c) % 4294967296
  let s1 := (s.setReg .RTC_NTOFS_SEC 0 (BitVec.ofNat 32 sec)).setReg .RTC_NTOFS_TICK 0 (BitVec.ofNat 32 (x + c * 100000000).toNat)
  { s1 with rtc := { s1.rtc with ofsDue := false } }

/-- Copy calendar and SUB into the capture registers (R354). -/
def State.rtcCapture (s : State) : State :=
  ((s.setReg .RTC_CAPTIME 0 (s.reg .RTC_TIME)).setReg .RTC_CAPDATE 0 (s.reg .RTC_DATE)).setReg .RTC_CAPSUB 0 (s.reg .RTC_SUB)

/-- The trickle charger stops (R359). -/
def State.chargeStop (s : State) : State := s.setFld F.RTC_STAT_CHARGING 0

/-- The limit of the trickle charger in mV. -/
def State.chargeLimit (s : State) : Nat := if s.flag F.RTC_TRICKLE_LIMIT then 3300 else 3000

/-- VBAK is measured, in mV (R359): VBAK_LOW, and charging with a hysteresis of 50 mV. `powered` says whether VDDA is present and
the charger may run. -/
def State.vbakMeasure (s : State) (powered : Bool) (mv : Nat) : State :=
  let full := s.chargeLimit ≤ mv || (s.rtc.full && s.chargeLimit < mv + 50)
  ((s.setFlag F.RTC_STAT_VBAK_LOW (decide (mv < 2000))).setFlag F.RTC_STAT_CHARGING (powered && s.flag F.RTC_TRICKLE_CURRENT && !full)).onRtc
    fun x => { x with full }

/-- The 8-byte calendar of HCP from the capture registers (R360). -/
def State.calBytes (s : State) : Bytes :=
  let g := fun (f : Fld) => BitVec.ofNat 8 (s.fld f)
  [g F.RTC_CAPSUB_SUB, g F.RTC_CAPTIME_SEC, g F.RTC_CAPTIME_MIN, g F.RTC_CAPTIME_HOUR, g F.RTC_CAPDATE_DAY, g F.RTC_CAPDATE_MONTH,
   g F.RTC_CAPDATE_YEAR, g F.RTC_CAPDATE_WDAY]

end Sys2Proof.Machine
end

