-- ==== Sys2Proof/Machine/RamOps.lean ====
section
/-! DEFINITION. Error correction of the SRAMs (R409 to R412) and the DRAM controller (R443 to R457). -/

namespace Sys2Proof.Machine

/-! ## SRAM -/

/-- The key of a word in the map of words with bits in error. -/
def RamWord.key : RamWord → Nat
  | .mem a => a / 4
  | .pad c o => 1073741824 + c * 16384 + o / 4
  | .ucode c i => 2147483648 + c * 2048 + i
  | .icache c l => 4294967296 + c * 1024 + l

/-- The ERR unit of a word of SRAM (R482). -/
def RamWord.unit : RamWord → Nat
  | .mem a => if a < 0x20400000 then (a - 0x20000000) / 262144 else if a < 0x20440000 then 16
      else if a < 0x21080000 then 17 else if a < 0x21100000 then 18 else 19
  | .pad c _ => 20 + c
  | .ucode c _ => 17 + c
  | .icache c _ => 20 + c

/-- The address that ERR logs for a word. -/
def RamWord.info : RamWord → Word
  | .mem a => BitVec.ofNat 32 (a / 4 * 4)
  | .pad _ o => BitVec.ofNat 32 (0x10000000 + o / 4 * 4)
  | .ucode _ i => BitVec.ofNat 32 i
  | .icache _ l => BitVec.ofNat 32 l

/-- Whether an address lies in system, journal or cluster SRAM (R31). -/
def inSram (a : Nat) : Bool := (0x20000000 ≤ a && a < 0x20440000) || (0x21000000 ≤ a && a < 0x21180000)

/-- The word at a position of a scrubber's bank (R411): sixteen banks of system SRAM, the journal SRAM, four banks of each cluster SRAM,
then one bank for each scratchpad, each instruction cache, by lines, and each microcode store. -/
def bankWord (b pos : Nat) : RamWord :=
  if b < 16 then .mem (0x20000000 + b * 262144 + 4 * pos)
  else if b = 16 then .mem (0x20400000 + 4 * pos)
  else if b < 29 then .mem (0x21000000 + (b - 17) * 131072 + 4 * pos)
  else if b < 53 then .pad (b - 29) (4 * pos)
  else if b < 77 then .icache (b - 53) pos
  else .ucode (b - 77) pos

/-- The words of a bank (R411). -/
def bankSize (b : Nat) : Nat := if b < 17 then 65536 else if b < 29 then 32768 else if b < 53 then 16384 else if b < 77 then 1024 else 2048

/-- The cluster in whose domain a bank lies: 0 for the system domain (R378). -/
def bankCluster (b : Nat) : Nat :=
  if b < 17 then 0 else if b < 29 then (b - 17) / 4 else if b < 53 then (b - 29) / 8 else if b < 77 then (b - 53) / 8 else b - 77

/-- Put bits in error into a word, beside those it has. -/
def State.upsetRam (s : State) (w : RamWord) (bits : Nat) : State :=
  if bits = 0 then s else s.onSram fun r => { r with errs := Tab.putD r.errs w.key 0 (max bits (Tab.getD r.errs w.key 0)) }

/-- A word becomes whole: corrected, or written whole. -/
def State.mendRam (s : State) (w : RamWord) : State := s.onSram fun r => { r with errs := Tab.putD r.errs w.key 0 0 }

def TelCounts.addSram (t : TelCounts) : TelCounts := { t with sramCorr := t.sramCorr + 1 }
def TelCounts.addDram (t : TelCounts) : TelCounts := { t with dramCorr := t.dramCorr + 1 }
def TelCounts.addUncorr (t : TelCounts) : TelCounts := { t with uncorr := t.uncorr + 1 }

/-- A read of a word of SRAM through its code (R410): whether the word is delivered. -/
def State.checkRam (s : State) (w : RamWord) : Bool × State :=
  match Tab.getD s.sram.errs w.key 0 with
  | 0 => (true, s)
  | 1 => (true, ((s.mendRam w).onErr fun e => { e with tel := e.tel.addSram }).raise 1 0x20 w.unit w.info)
  | _ => (false, (s.onErr fun e => { e with tel := e.tel.addUncorr }).raise 2 0x20 w.unit w.info)

/-! ## DRAM -/

def dramBase : Nat := 0x80000000

/-- The visible bytes of DRAM: seven eighths of what is installed (R34, R443). -/
def State.dramSize (s : State) : Nat := s.fld F.DMC_DEV_CAP * 234881024

def State.dramReady (s : State) : Bool := s.flag F.DMC_STAT_READY

/-- A place in the DRAM devices (R446). -/
structure DramPlace where
  rank : Nat
  row : Nat
  bank : Nat
  burst : Nat
  byte : Nat
  deriving DecidableEq, Repr

/-- The place of physical offset P: the rank is the highest bit of two ranks, and the row lies between it and the bank (R446). -/
def State.dramPlace (s : State) (P : Nat) : DramPlace :=
  let half := s.fld F.DMC_DEV_CAP * 134217728
  let two := s.fld F.DMC_DEV_RANKS == 2
  let low := if two then P % half else P
  { rank := if two then P / half else 0, row := low / 16384, bank := bits P 13 11, burst := bits P 10 5, byte := bits P 4 0 }

/-- The physical offset of the check byte of the unit of visible offset V (R444, R445). -/
def State.dramCheckByte (s : State) (V : Nat) : Nat := s.dramSize + V / 8

/-- The first physical offset of the training region (R444). -/
def State.dramTraining (s : State) : Nat := s.fld F.DMC_DEV_CAP * 264241152

/-- Whether an address lies in visible DRAM. -/
def State.inDram (s : State) (a : Nat) : Bool := dramBase ≤ a && a < dramBase + s.dramSize

/-- The key of a 64-bit unit. -/
def dramUnit (a : Nat) : Nat := (a - dramBase) / 8

def State.upsetDram (s : State) (a bits : Nat) : State :=
  if bits = 0 then s else s.onDmc fun d => { d with errs := Tab.putD d.errs (dramUnit a) 0 (max bits (Tab.getD d.errs (dramUnit a) 0)) }

def State.mendDram (s : State) (a : Nat) : State := s.onDmc fun d => { d with errs := Tab.putD d.errs (dramUnit a) 0 0 }

/-- Whether a request to physical offset P hits the row that its bank holds open: another row closes it, and so does IDLE without an
access, in units of 10 ns, one cycle each (R447; DMC_PAGE). -/
def State.rowHit (s : State) (P : Nat) : Bool :=
  let x := s.dramPlace P
  match Tab.find s.dmc.rows (x.rank * 8 + x.bank) with
  | some (row, last, idle) => row == x.row && s.cyc < last + idle
  | none => false

/-- A request opens the row it needs, with the IDLE then in force for that bank, and takes its check line into the write-back check cache, the
least recently used of 64 leaving; a write makes the line dirty (R446, R447). -/
def State.dramTouch (s : State) (a : Nat) (write : Bool) : State :=
  let V := a - dramBase
  let x := s.dramPlace V
  let b := x.rank * 8 + x.bank
  let idle := if s.rowHit V then (Tab.find s.dmc.rows b).elim 0 (·.2.2) else s.fld F.DMC_PAGE_IDLE
  let line := s.dramCheckByte V / 32
  let dirty := write || s.dmc.checks.contains (line, true)
  s.onDmc fun d => { d with rows := Tab.put d.rows b (x.row, s.cyc, idle),
                            checks := ((line, dirty) :: d.checks.filter (fun l => l.1 != line)).take 64 }

/-- The further bursts that the check line of a request costs: one for a miss, and one more where a dirty line leaves for it (R446). -/
def State.checkBursts (s : State) (a : Nat) : Nat :=
  let line := s.dramCheckByte (a - dramBase) / 32
  if s.dmc.checks.any fun l => l.1 == line then 0
  else if s.dmc.checks.length ≥ 64 ∧ (s.dmc.checks.getLast?.any fun l => l.2) then 2 else 1

/-- A read of the unit at an address through the inline code, for a read or before a write (R452): whether it is delivered. -/
def State.checkDram (s0 : State) (a : Nat) (write : Bool := false) : Bool × State :=
  let s := s0.dramTouch a write
  let info := BitVec.ofNat 32 (a / 8 * 8)
  match Tab.getD s.dmc.errs (dramUnit a) 0 with
  | 0 => (true, s)
  | 1 => (true, ((((s.mendDram a).dramTouch a true).bump F.DMC_ERRCNT_CORRECTED).onErr fun e => { e with tel := e.tel.addDram }).raiseDram 1 info)
  | _ => (false, (((s.bump F.DMC_ERRCNT_UNCORR).setReg .DMC_ERRADDR 0 info).onErr fun e =>
      { e with tel := e.tel.addUncorr }).raiseDram 2 info)

/-- Whether the fill has passed every byte from an address on (R453, R454). -/
def State.filledFrom (s : State) (a : Nat) : Bool := s.fld F.DMC_STAT_STATE != 3 || (s.reg .DMC_FILLPOS).toNat ≤ a

/-- The filter goes cold for 64 s (R234). -/
def State.filterCold (s : State) : State := s.setFld F.FRM_DUP_STAT_COLD_LEFT 64

/-- The content of DRAM is lost: it reads as zero once it is filled again; the duplicate filter goes cold (R234, R453, R456). -/
def State.dramLost (s : State) : State :=
  ((s.clearMem dramBase 0x80000000).onDmc fun d => { d with errs := [] }).filterCold.onFrm
    fun f => { f with front := [] }

/-- A write of DMC_CTRL.INIT (R453, R457). While the DMC is READY, also in its fill, it is ignored and sets WLOCK. -/
def State.dmcInit (s : State) : State :=
  if !s.onPll then s
  else if s.dramReady then s.setWlock .DMC_CTRL 0
  else if s.fld F.DMC_STAT_STATE = 1 ∨ s.fld F.DMC_STAT_STATE = 2 then s
  else
    let s1 := ((s.setReg .DMC_ERRCNT 0 0).setFld F.DMC_STAT_INIT_ERR 0).setReg .DMC_SCRUBPOS 0 0x80000000#32
    if s.fld F.DMC_STAT_STATE = 5 then s1.setFld F.DMC_STAT_STATE 2
    else (s1.dramLost.setFld F.DMC_STAT_STATE 1).onDmc fun d => { d with since := some s.cyc }

/-- Steps 1 to 4 of a full initialisation are over at their worst-case times, and its training begins (R453; DESIGN CHOICE, log entry 221). -/
def State.dmcCycle (s : State) : State :=
  if s.fld F.DMC_STAT_STATE = 1 ∧ s.dmc.since.any fun c => c + 220200 ≤ s.cyc then s.setFld F.DMC_STAT_STATE 2 else s

/-- The level of DDR_RESETN: low while the DMC is stopped and for 200 us of an initialisation (R453; log entry 221). -/
def State.ddrResetn (s : State) : Bool :=
  match s.fld F.DMC_STAT_STATE with
  | 0 => false
  | 1 => s.dmc.since.all fun c => c + 20000 ≤ s.cyc
  | _ => true

/-- The level of CKE: low while the DMC is stopped, for 2.2 ms of an initialisation, and in self-refresh (R453; log entry 221). -/
def State.ddrCke (s : State) : Bool :=
  match s.fld F.DMC_STAT_STATE with
  | 0 | 5 => false
  | 1 => s.dmc.since.all fun c => c + 220000 ≤ s.cyc
  | _ => true

/-- A write of DMC_CTRL.STOP: the content counts as lost, and a pause or a fill ends at once (R457). -/
def State.dmcStop (s : State) : State :=
  ((s.setFld F.DMC_STAT_STATE 0).setFld F.DMC_STAT_READY 0).dramLost.onDmc fun d =>
    { d with recentre := none, postponed := 0, rows := [], checks := [], since := none, region := none }

/-- The DMC stops without a self-refresh entry at a loss of PLL0 (R94, R456). -/
def State.dmcPllLoss (s : State) : State :=
  if s.fld F.DMC_STAT_STATE = 0 ∨ s.fld F.DMC_STAT_STATE = 5 then s else s.dmcStop.setFld F.DMC_STAT_LOST 1

/-- Self-refresh entry (R455, R457): dirty check lines are drained, then a 32-byte signature goes into the training region, its counter one
above the last; the rest of it is free. A re-centre that runs ends (DESIGN CHOICE, log entry 222). -/
def State.dmcSelfRefresh (s : State) : State :=
  let (x, s1) := s.freshBytes 28
  let sig := leBytes 4 (s.dmc.counter + 1) ++ x
  ((s1.setFld F.DMC_STAT_STATE 5).setFld F.DMC_STAT_READY 0).onDmc fun d =>
    { d with counter := d.counter + 1, sent := sig, region := some sig, recentre := none, rows := [], checks := [] }

/-- Self-refresh exit (R455): the signature read back is the one written, unless the DRAM has been unpowered; then the content is lost, and
every step runs again. -/
def State.dmcSelfRefreshExit (s : State) (kept : Bool) : State :=
  if kept && s.dmc.region == some s.dmc.sent then (s.setFld F.DMC_STAT_STATE 4).setFld F.DMC_STAT_READY 1
  else ((((s.dramLost.setFld F.DMC_STAT_LOST 1).raise 1 0x0A 0).setReg .DMC_ERRCNT 0 0).setFld F.DMC_STAT_STATE 1).onDmc fun d =>
    { d with region := none, since := some s.cyc }

/-- Whether a device of a density per rank (Gb) and rank count is supported (R443). -/
def dramSupported (gb ranks : Nat) : Bool :=
  (ranks == 1 && [2, 4, 8, 16].contains gb) || (ranks == 2 && [4, 8].contains gb)

/-- Initialisation or training fails: INIT_ERR and an S3 (R452). -/
def State.dmcFail (s : State) (err : Nat) : State :=
  (((((s.setFld F.DMC_STAT_INIT_ERR err).setFld F.DMC_STAT_STATE 6).setFld F.DMC_STAT_READY 0).onDmc fun d =>
    { d with recentre := none, since := none })).fatal 0x0A 0 (BitVec.ofNat 32 err) 0x20

/-- The end of initialisation: a failure, the exit from self-refresh, or READY with the fill begun at the top of the data part
(R443, R453, R455). `fail` is the step that failed, as INIT_ERR codes it, or 0; `kept` says whether the signature came back. -/
def State.dmcTrained (s : State) (mr8 : Byte) (gb ranks : Nat) (typeOk : Bool) (fail : Nat) (kept : Bool) : State :=
  if s.fld F.DMC_STAT_STATE ≠ 1 ∧ s.fld F.DMC_STAT_STATE ≠ 2 then s
  else if s.dmc.since = none then if fail = 0 then s.dmcSelfRefreshExit kept else s.dmcFail fail
  else
    let s1 := s.setFld F.DMC_DEV_MR8 mr8.toNat
    if !typeOk || !dramSupported gb ranks then s1.dmcFail 1
    else
      let s2 := (s1.setFld F.DMC_DEV_RANKS ranks).setFld F.DMC_DEV_CAP (gb * ranks / 2)
      if fail ≠ 0 then s2.dmcFail fail
      else (((s2.setFld F.DMC_STAT_STATE 3).setFld F.DMC_STAT_READY 1).setReg .DMC_FILLPOS 0
        (BitVec.ofNat 32 (dramBase + s2.dramSize))).onDmc fun d => { d with since := none }

/-- The fill passes down to an address; at the base it is complete (R453, R454). -/
def State.dmcFill (s : State) (pos : Word) : State :=
  if s.fld F.DMC_STAT_STATE ≠ 3 ∨ pos.toNat < dramBase ∨ s.reg .DMC_FILLPOS ≤ pos then s
  else
    let s1 := s.setReg .DMC_FILLPOS 0 pos
    if pos.toNat = dramBase then s1.setFld F.DMC_STAT_STATE 4 else s1

/-- A re-centre ends (R450): its eyes are recorded; one that is too narrow is S2 and is tried again, and from the third in a row
on it is S3. -/
def State.recentreEnd (s : State) (rd wr : Nat) : State :=
  let s1 := (s.setFld F.DMC_DRIFT_RDEYE rd).setFld F.DMC_DRIFT_WREYE wr
  if rd ≥ 16 ∧ wr ≥ 16 then
    ((s1.setFld F.DMC_DRIFT_DRIFT 0).bump F.DMC_DRIFT_RECENTRES).onDmc fun d => { d with recentre := none, fails := 0 }
  else
    let s2 := s1.onDmc fun d => { d with recentre := some 0, fails := d.fails + 1 }
    if s.dmc.fails + 1 ≥ 3 then s2.fatal 0x0A 0 0 0x20 else s2.raise 2 0x0A 0

/-- The thresholds of R450 in force: RECENTRE, 0 acting as 1, and URGENT, at least RECENTRE. -/
def State.recentreAt (s : State) : Nat := max 1 (s.inFld F.DMC_TRAIN_RECENTRE)
def State.urgentAt (s : State) : Nat := max s.recentreAt (s.inFld F.DMC_TRAIN_URGENT)

/-- A refresh is issued with every postponed one, or postponed itself, up to 8 (R448, R457). -/
def State.dmcRefresh (s : State) (postpone : Bool) : State :=
  s.onDmc fun d => { d with postponed := if postpone && d.postponed < 8 then d.postponed + 1 else 0 }

/-- A pause begins: directly after a refresh, and with its event (R449, R450). -/
def State.dmcPause (s : State) : State := (s.dmcRefresh false).publish 225

/-- A tracking pause measures the drift, with the eyes an urgent re-centre would find, which is a pause of its own (R449, R450). -/
def State.dmcTrack (s : State) (drift : BitVec 8) (rd wr : Nat) : State :=
  if s.fld F.DMC_STAT_STATE ≠ 4 ∧ s.fld F.DMC_STAT_STATE ≠ 3 then s
  else
    let s1 := (s.dmcPause.boundary .DMC_TRAIN).setFld F.DMC_DRIFT_DRIFT drift.toNat
    let m := drift.toInt.natAbs
    if m > s1.urgentAt then (s1.dmcPause.raise 1 0x0A 0).recentreEnd rd wr
    else if m > s1.recentreAt ∧ s1.dmc.recentre = none then s1.onDmc fun d => { d with recentre := some 0 }
    else s1

/-- One step of a re-centre in its pause (R449, R450). -/
def State.dmcStep (s : State) (rd wr : Nat) : State :=
  match if s.fld F.DMC_STAT_STATE = 4 ∨ s.fld F.DMC_STAT_STATE = 3 then s.dmc.recentre else none with
  | none => s
  | some k =>
    let s1 := s.dmcPause
    if k + 1 ≥ 16 then s1.recentreEnd rd wr else s1.onDmc fun d => { d with recentre := some (k + 1) }

/-- MR4 is read (R448): 1, 2 or 4 times the base rate; above the device's limit, S2 with the x4 rate in force. -/
def State.dmcMr4 (s : State) (rate : Nat) (hot : Bool) : State :=
  if hot then (s.onDmc fun d => { d with rate := 4 }).raise 2 0x0A 0
  else s.onDmc fun d => { d with rate := if rate = 2 ∨ rate = 4 then rate else 1 }

/-- The scrubber reads the unit at SCRUBPOS, finding bits in error, and moves on; it restarts at the lowest unit (R451, R452). It waits
for the fill to have passed the unit (R454). -/
def State.dmcScrub (s : State) (bits : Nat) : State :=
  let a := s.reg .DMC_SCRUBPOS
  let a0 := if s.inDram a.toNat then a.toNat else dramBase
  if !s.dramReady || !s.filledFrom a0 then s else
    let s1 := ((s.upsetDram a0 bits).checkDram a0).2
    let next := a0 + 8
    if s1.inDram next then s1.setReg .DMC_SCRUBPOS 0 (BitVec.ofNat 32 next)
    else (s1.boundary .DMC_SCRUB).setReg .DMC_SCRUBPOS 0 0x80000000#32

end Sys2Proof.Machine
end

