-- ==== Sys2Proof/Machine/FlcOps.lean ====
section
/-! DEFINITION. The embedded flash and the OTP: reads, commands, tables, operation records, resets and fuses (R413 to R442). -/

namespace Sys2Proof.Machine

/-! ## Layout -/

/-- FLC_STAT.BUSY: a command waits or runs. -/
def FlcState.busy (f : FlcState) : Bool :=
  !f.queue.isEmpty || !f.programs.isEmpty || f.page.isSome || f.erase.isSome || f.blank.isSome || !f.updates.isEmpty

def flashBase : Nat := 0x08000000

/-- The boundary B in MiB (R413, R414). -/
def State.partB (s : State) : Nat := s.fld F.FLC_PART_B

/-- Whether partitioning is blank (R44). -/
def State.partBlank (s : State) : Bool := s.flag F.FLC_PART_BLANK

/-- The region of a flash offset: 0 native, 1 compatibility, 2 unmapped (R413). -/
def State.flRegion (s : State) (off : Nat) : Nat :=
  if off < s.partB * 1048576 then 0 else if off < (32 - s.partB) * 1048576 then 1 else 2

/-- The logical block of an offset (R413). -/
def State.flBlock (s : State) (off : Nat) : Nat :=
  if s.flRegion off = 0 then off / 65536 else 16 * s.partB + (off - s.partB * 1048576) / 131072

/-- The page in its block of a compatibility offset. -/
def State.flPage (s : State) (off : Nat) : Nat := (off - s.partB * 1048576) % 131072 / 2048

/-- The native sector of an offset. -/
def flSector (off : Nat) : Nat := off / 4096

/-- Whether a word (offset / 4) was programmed at shipment: the four words of each shipped table (R530). -/
def shippedMark (w : Nat) : Bool := 2048 ≤ w && w < 6144 && w % 1024 < 4

/-- Whether a native word has been programmed since its last erase (R421). -/
def State.marked (s : State) (w : Nat) : Bool := Tab.getD s.flc.marks w (shippedMark w)

def State.setMark (s : State) (w : Nat) (b : Bool) : State :=
  { s with flc := { s.flc with marks := Tab.putD s.flc.marks w (shippedMark w) b } }

/-- Mark n words from w upwards. -/
def State.setMarks (s : State) (w n : Nat) (b : Bool) : State := foldOver (fun k t => t.setMark (w + k) b) (List.range n) s

/-- Whether a compatibility page has been programmed (R422). -/
def State.pageMarked (s : State) (b p : Nat) : Bool := Tab.getD s.flc.pages (b * 64 + p) false

/-- The mode that a block has in the present partitioning, 1 for compatibility (R413). -/
def State.blockMode (s : State) (b : Nat) : Nat := if b < 16 * s.partB then 0 else 1

/-- Whether the mode of a block's last erase differs from its present mode (R415). -/
def State.wrongMode (s : State) (off : Nat) : Bool :=
  Tab.getD s.flc.modes (s.flBlock off) 0 != s.blockMode (s.flBlock off)

/-! ## Tables -/

/-- An entry of a table as bytes (R434). -/
def FlEntry.bytes (e : FlEntry) : Bytes :=
  leBytes 2 e.block ++ [BitVec.ofNat 8 e.kind, BitVec.ofNat 8 e.index, BitVec.ofNat 8 e.suspect, 0#8, 0#8, 0#8]

/-- A table as bytes: magic, sequence number, count, entries and their CRC-32 (R434). -/
def tableBytes (magic seq : Nat) (es : List FlEntry) : Bytes :=
  let b := leBytes 4 magic ++ leBytes 4 seq ++ leBytes 2 es.length ++ [0#8, 0#8] ++ es.flatMap FlEntry.bytes
  b ++ leBytes 4 (crc32 b)

def magicGrown : Nat := 0x47424144
def magicPartial : Nat := 0x50455253

/-- The n entries that table bytes hold. -/
def parseEntries : Nat → Bytes → List FlEntry
  | 0, _ => []
  | n + 1, b => ⟨leNat (b.take 2), (b.getD 2 0).toNat, (b.getD 3 0).toNat, (b.getD 4 0).toNat⟩ :: parseEntries n (b.drop 8)

/-- The table that the bytes of a copy spell, when its magic, count and CRC-32 stand (R434). -/
def State.parseTable (s : State) (magic sector : Nat) : Option (Nat × List FlEntry) :=
  let a := flashBase + sector * 4096
  let n := leNat (s.bytes (a + 8) 2)
  if leNat (s.bytes a 4) = magic ∧ n ≤ 64 ∧ leNat (s.bytes (a + 12 + 8 * n) 4) = crc32 (s.bytes a (12 + 8 * n)) then
    some (leNat (s.bytes (a + 4) 4), parseEntries n (s.bytes (a + 12) (8 * n)))
  else none

/-- Put a native sector into the erased state: all ones, no word programmed, one more erase counted (R418, R421, R435). -/
def State.eraseSector (s : State) (sec : Nat) : State :=
  let s1 := { s with mem := (Tab.keep s.mem fun k _ => decide (k < flashBase + sec * 4096 ∨ flashBase + (sec + 1) * 4096 ≤ k)) }
  let s2 := if 2 ≤ sec ∧ sec < 6 then s1.setBytes (flashBase + sec * 4096) (List.replicate 16 0xFF#8) else s1
  let s3 := s2.setMarks (sec * 1024) 1024 false
  { s3 with flc := { s3.flc with wear := Tab.modify s3.flc.wear sec 0 (· + 1),
                                 errs := Tab.keep s3.flc.errs fun k _ => decide (k / 128 ≠ sec) } }

/-- Write words of native flash and mark them programmed (R421). -/
def State.writeNative (s : State) (off : Nat) (b : Bytes) : State :=
  (s.setBytes (flashBase + off) b).setMarks (off / 4) ((b.length + 3) / 4) true

/-- Write a table update of the boot ROM into the other copy's sector under the next sequence number (R434). -/
def State.updateTable (s : State) (magic base : Nat) (t : FlTable) (es : List FlEntry) : FlTable × State :=
  let c := 1 - t.copy
  let s1 := (s.eraseSector (base + c)).writeNative ((base + c) * 4096) (tableBytes magic (t.seq + 1) es)
  (⟨es, t.seq + 1, c⟩, s1)

def State.setPartial (s : State) (es : List FlEntry) : State :=
  let (t, s1) := s.updateTable magicPartial 4 s.flc.partialTab es
  s1.onFlc fun f => { f with partialTab := t }

/-- Whether a block is grown-bad (R433). -/
def State.isGrown (s : State) (b : Nat) : Bool := s.flc.grown.entries.any fun e => e.block == b

/-- Whether a table holds an entry. -/
def FlEntry.isIn (e : FlEntry) (grown : Bool) (l : List FlEntry) : Bool :=
  l.any fun x => x.block == e.block && (grown || (x.kind == e.kind && x.index == e.index))

/-- The boot ROM adds an entry to the partial-erase table; one already present is not added again, and a full table is S2 (R429, R434). -/
def State.addPartial (s : State) (e : FlEntry) : State :=
  if e.isIn false s.flc.partialTab.entries then s
  else if s.flc.partialTab.entries.length ≥ 64 then s.raise 2 0x08 0 (BitVec.ofNat 32 e.block)
  else s.setPartial (s.flc.partialTab.entries ++ [e])

/-- Whether an offset lies in what an entry names: a sector, a block, or a block with an abandoned page. -/
def State.entryCovers (s : State) (off : Nat) (e : FlEntry) : Bool :=
  e.block == s.flBlock off && (e.kind != 4 || e.index == flSector off % 16)

/-- Whether an offset lies in a sector or block with a PARTIAL entry, or in the one being erased or suspended (R430). -/
def State.isPartial (s : State) (off : Nat) : Bool :=
  s.flc.partialTab.entries.any (fun e => (e.kind == 4 || e.kind == 5) && s.entryCovers off e) ||
  match s.flc.erase with
  | some r => if r.cmd.op = 3 then flSector off == flSector r.cmd.offset else s.flRegion off == 1 && s.flBlock off == s.flBlock r.cmd.offset
  | none => false

/-- Whether a program into an offset meets PARTIAL: as isPartial, or a block with an abandoned page (R430). -/
def State.refusesProgram (s : State) (off : Nat) : Bool :=
  s.isPartial off || s.flc.partialTab.entries.any fun e => e.kind == 6 && e.block == s.flBlock off && s.flRegion off == 1

/-- Whether an offset lies in an abandoned page (R430). -/
def State.isAbandoned (s : State) (off : Nat) : Bool :=
  s.flRegion off == 1 && s.flc.partialTab.entries.any fun e => e.kind == 6 && e.block == s.flBlock off && e.index == s.flPage off

/-! ## Reading -/

/-- The outcome of reading a line: delivered with its count of corrected bits, an uncorrectable line, an error response of R415 and R430,
or none before the pulse in its program bank has ended (R423). -/
inductive LineRead where
  | data (corrected : Nat)
  | uncorrectable
  | errorResponse
  | waits
  deriving DecidableEq, Repr

/-- The warning threshold in force: 0 acts as 1, above 4 as 4 (FLC_CFG). -/
def State.warnAt (s : State) : Nat :=
  let v := s.fld F.FLC_CFG_FL_ECC_WARN
  if v = 0 then 1 else if v > 4 then 4 else v

/-- The program bank of a native offset: address bits [6:5] (R423). -/
def flBank (off : Nat) : Nat := bits off 6 5

/-- Whether a read meets R415 or R430. -/
def State.readBarred (s : State) (off : Nat) : Bool := s.wrongMode off || s.isPartial off || s.isAbandoned off

/-- The bits in error of a line. -/
def State.lineErrs (s : State) (line : Nat) : Nat := Tab.getD s.flc.errs line 0

/-- Whether the flash lines of a range read without an uncorrectable error. -/
def State.linesRead (s : State) (off n : Nat) : Bool := !s.flc.errs.any fun e => e.2 > 4 && off / 32 ≤ e.1 && e.1 * 32 < off + n

/-- Whether a range reads without an error response and without an uncorrectable line. -/
def State.readable (s : State) (off n : Nat) : Bool :=
  s.linesRead off n && !(List.range (n / 2048 + 2)).any fun i => s.readBarred (min (off + 2048 * i) (off + (n - 1)))

/-- The line that the prefetch buffer or the branch target cache holds, with the bits corrected as it was read (R419). -/
def State.buffered (s : State) (line : Nat) : Option Nat :=
  let held := fun (on : Fld) (l : List (Nat × Nat)) => if s.flag on then (l.find? fun e => e.1 == line).map Prod.snd else none
  (held F.FLC_CFG_PF_EN s.flc.prefetch).or (held F.FLC_CFG_BTC_EN s.flc.btc)

/-- The offset of the line that a table update programs. -/
def TabUpdate.lineOff (u : TabUpdate) (t : FlTable) : Option Nat :=
  u.lines.map fun n => ((if u.grown then 2 else 4) + (1 - t.copy)) * 4096 + 32 * n

/-- The table that an update writes, as it stands. -/
def State.tabOf (s : State) (u : TabUpdate) : FlTable := if u.grown then s.flc.grown else s.flc.partialTab

/-- The table update that runs: the oldest, while nothing else does (R423). -/
def State.updRuns (s : State) : Option TabUpdate :=
  if s.flc.programs.isEmpty && s.flc.page.isNone && s.flc.blank.isNone && s.flc.erase.all (fun r => r.suspended) then s.flc.updates.head?
  else none

/-- Whether a native line lies in a bank with a pulse in progress (R423). -/
def State.bankBusy (s : State) (off : Nat) : Bool :=
  s.flRegion off == 0 && ((Tab.find s.flc.programs (flBank off)).isSome ||
    ((s.updRuns.bind fun u => u.lineOff (s.tabOf u)).any fun o => flBank o == flBank off))

/-- What a read that delivers a line reports (R417). -/
def State.readReport (s : State) (cl0 : Bool) (line n : Nat) : State :=
  let s1 := if cl0 then s.setFld F.FLC_RDSTAT_LAST_CORR n else s
  if n < s1.warnAt then s1
  else
    let s2 := ((s1.setFld F.FLC_RDSTAT_WARN 1).bump F.FLC_RDSTAT_WARN_CNT).setFld F.FLC_WARNADDR_OFFSET (line * 32)
    ((s2.onErr fun e => { e with tel := { e.tel with flWarn := e.tel.flWarn + 1 } }).publish 227).raise 1 0x08 0
      (BitVec.ofNat 32 (flashBase + line * 32))

/-- The three lines that FLC reads behind a line of the array: those that it can deliver (R419; DESIGN CHOICE, log entry 106). -/
def State.prefetchLines (s : State) (line : Nat) : List (Nat × Nat) :=
  ((List.range 3).map fun k => line + 1 + k).filterMap fun l =>
    if s.flRegion (l * 32) = 2 ∨ s.readBarred (l * 32) ∨ s.bankBusy (l * 32) ∨ s.lineErrs l > 4 then none else some (l, s.lineErrs l)

/-- Read a line of the array (R417, R419). -/
def State.arrayRead (s : State) (cl0 : Bool) (line : Nat) : LineRead × State :=
  let n := s.lineErrs line
  if s.bankBusy (line * 32) then (.waits, s)
  else if n > 4 then
    let s1 := (s.setFld F.FLC_RDSTAT_UNCORR 1).setFld F.FLC_WARNADDR_OFFSET (line * 32)
    (.uncorrectable, (s1.onErr fun e => { e with tel := { e.tel with uncorr := e.tel.uncorr + 1 } }).raise 2 0x08 0
      (BitVec.ofNat 32 (flashBase + line * 32)))
  else
    let s1 := if s.flag F.FLC_CFG_PF_EN then s.onFlc fun f => { f with prefetch := s.prefetchLines line } else s
    (.data n, s1.readReport cl0 line n)

/-- Read a line (R415, R417, R419, R430): from the prefetch buffer or the branch target cache where one holds it. A read that one of them
serves reports the bits that were corrected as the line came from the array (DESIGN CHOICE, log entry 106). -/
def State.readLine (s : State) (cl0 : Bool) (off : Nat) : LineRead × State :=
  if s.readBarred off then (.errorResponse, s.setFld F.FLC_RDSTAT_PARTIAL_RD 1)
  else match s.buffered (off / 32) with
    | some n => (.data n, s.readReport cl0 (off / 32) n)
    | none => s.arrayRead cl0 (off / 32)

/-- Read the lines that n bytes from an offset touch; the first failure ends it; otherwise the largest correction (R427). -/
def State.readLines (s : State) (cl0 : Bool) : Nat → Nat → Nat → LineRead × State
  | _, 0, best => (.data best, s)
  | line, n + 1, best =>
    match s.readLine cl0 (line * 32) with
    | (.data c, s1) => s1.readLines cl0 (line + 1) n (max best c)
    | r => r

/-- The number of lines that n bytes from an offset touch. -/
def lineCount (off n : Nat) : Nat := if n = 0 then 0 else (off + n - 1) / 32 - off / 32 + 1

/-- Read n bytes from an offset on CL0. -/
def State.readSpan (s : State) (off n : Nat) : LineRead × State := s.readLines true (off / 32) (lineCount off n) 0

/-- Whether a read of n bytes waits for a pulse to end (R423). -/
def State.spanWaits (s : State) (off n : Nat) : Bool :=
  (List.range (lineCount off n)).any fun k =>
    let l := off / 32 + k
    s.bankBusy (l * 32) && !s.readBarred (l * 32) && (s.buffered l).isNone

/-- The boot ROM reads a copy of a table: the entries, unless a line fails (R417, R434). -/
def State.readTable (s : State) (magic sector : Nat) : Option (Nat × List FlEntry) × State :=
  let n := leNat (s.bytes (flashBase + sector * 4096 + 8) 2)
  match s.readSpan (sector * 4096) (16 + 8 * min n 64) with
  | (.data _, s1) => (s1.parseTable magic sector, s1)
  | (_, s1) => (none, s1)

/-! ## Commands -/

/-- Post a result: to FLC_RESULT for firmware, of whose 16 the oldest is lost; to the Supervisor or the MSU otherwise
(R425, R426). -/
def State.flcPost (s : State) (req : FlcReq) (tag code : Nat) : State :=
  match req with
  | .firmware =>
    let w := BitVec.ofNat 32 (0x80000000 + code * 16777216 + tag * 1048576)
    let l := s.flc.results ++ [w]
    { s with flc := { s.flc with results := if l.length > 16 then l.drop (l.length - 16) else l } }
  | .job id => { s with flc := { s.flc with jobDone := s.flc.jobDone ++ [(id, code)] } }
  | .msu r => { s with flc := { s.flc with msuDone := s.flc.msuDone ++ [(r, code)] } }

/-- The end of a program or erase that completed: FLC_DONE, and both read buffers invalidated (R364, R419). -/
def State.flcDone (s : State) (req : FlcReq) (tag code : Nat) : State :=
  let s1 := s.flcPost req tag code
  let s2 := { s1 with flc := { s1.flc with prefetch := [], btc := [] } }
  if code = 0 then s2.publish 226 else s2

/-- Take the next tag (log entry 20). -/
def State.flcTag (s : State) : Nat × State :=
  let t := (s.fld F.FLC_STAT_LAST_TAG + 1) % 16
  (t, s.setFld F.FLC_STAT_LAST_TAG t)

/-- A command as a write of FLC_CMD makes it, with copies of FLC_DATA and FLC_SRC (R425). -/
def State.flcCmd (s : State) (tag : Nat) (w : Word) (req : FlcReq) : FlcCmd :=
  { tag, op := bits w.toNat 31 28, nwords := bits w.toNat 27 25 + 1, offset := bits w.toNat 24 0,
    data := (List.range 8).map fun k => s.reg .FLC_DATA k, src := (s.reg .FLC_SRC).toNat, req }

/-- Queue a command; none when the queue of 8 is full (R423). -/
def State.flcQueue (s : State) (w : Word) (req : FlcReq) : Option State :=
  if s.flc.queue.length ≥ 8 then none else
    let (t, s1) := s.flcTag
    some { s1 with flc := { s1.flc with queue := s1.flc.queue ++ [s.flcCmd t w req] } }

/-- SUSPEND acts at once (R423, R424). -/
def State.flcSuspend (s : State) (req : FlcReq) : State :=
  let (t, s1) := s.flcTag
  match s1.flc.erase with
  | some r => if r.suspended then s1.flcPost req t 8
    else { s1 with flc := { s1.flc with erase := some { r with suspends := r.suspends ++ [t] } } }
  | none => s1.flcPost req t 8

/-- RESUME acts at once; the erase goes on when every native program started meanwhile has ended, and every table update (R424), and not
during a flush (R428). -/
def State.flcResume (s : State) (req : FlcReq) : State :=
  let (t, s1) := s.flcTag
  match s1.flc.erase with
  | some r =>
    if !r.suspended || r.resume.isSome then s1.flcPost req t 8
    else if s1.flc.programs.isEmpty && s1.flc.updates.isEmpty && s1.pwr.flush.isNone then
      { (s1.flcPost req t 0) with flc := { (s1.flcPost req t 0).flc with erase := some { r with suspended := false } } }
    else { s1 with flc := { s1.flc with erase := some { r with resume := some t } } }
  | none => s1.flcPost req t 8

/-- A write of FLC_CMD (R423, R425). -/
def State.flcWrite (s : State) (w : Word) : State :=
  match bits w.toNat 31 28 with
  | 5 => s.flcSuspend .firmware
  | 6 => s.flcResume .firmware
  | _ => match s.flcQueue w .firmware with
    | some t => t
    | none => s.setFld F.FLC_STAT_CMD_ERR 1

/-- Whether the array is busy with an erase that runs, a page program, a blank check or a table update. -/
def State.arrayBusy (s : State) : Bool :=
  s.flc.page.isSome || s.flc.blank.isSome || !s.flc.updates.isEmpty || match s.flc.erase with
  | some r => !r.suspended || r.resume.isSome
  | none => false

/-- Whether a command may start now (R423, R424). -/
def State.flcMayStart (s : State) (c : FlcCmd) : Bool :=
  match c.op with
  | 1 => !s.arrayBusy && (Tab.find s.flc.programs (flBank c.offset)).isNone
  | 2 | 3 | 4 => !s.arrayBusy && (s.flc.programs.isEmpty || s.flc.erase.isSome)
  | 7 | 8 => !s.arrayBusy && s.flc.programs.isEmpty && s.flc.erase.isNone
  | _ => true

/-- Whether FLC_SRC of a PAGE lies aligned in system, CL0 or journal SRAM (R425). -/
def pageSrcOk (a : Nat) : Bool :=
  a % 32 == 0 && ((0x20000000 ≤ a && a + 2048 ≤ 0x20440000) || (0x21000000 ≤ a && a + 2048 ≤ 0x21080000))

/-- The code that refuses a command at its start, or none (R415, R421, R422, R424, R426, R430, R433). -/
def State.flcRefusal (s : State) (c : FlcCmd) : Option Nat :=
  let reserved := decide (2 ≤ flSector c.offset ∧ flSector c.offset ≤ 7) && s.flRegion c.offset == 0
  match c.op with
  | 1 =>
    if s.flRegion c.offset ≠ 0 ∨ c.offset % 4 ≠ 0 ∨ bits c.offset 4 2 + c.nwords > 8 ∨ reserved then some 5
    else if s.isGrown (s.flBlock c.offset) then some 2
    else if s.refusesProgram c.offset then some 3
    else if s.wrongMode c.offset || (List.range c.nwords).any (fun k => s.marked (c.offset / 4 + k)) then some 4
    else none
  | 2 =>
    if s.flRegion c.offset ≠ 1 ∨ c.offset % 2048 ≠ 0 ∨ !pageSrcOk c.src then some 5
    else if s.flc.erase.isSome then some 6
    else if s.isGrown (s.flBlock c.offset) then some 2
    else if s.refusesProgram c.offset then some 3
    else if s.wrongMode c.offset || s.pageMarked (s.flBlock c.offset) (s.flPage c.offset)
        || (List.range (s.flPage c.offset)).any (fun p => !s.pageMarked (s.flBlock c.offset) p) then some 4
    else none
  | 3 =>
    if s.flRegion c.offset ≠ 0 ∨ c.offset % 4096 ≠ 0 ∨ reserved then some 5
    else if s.flc.erase.isSome then some 6 else if s.isGrown (s.flBlock c.offset) then some 2 else none
  | 4 =>
    if s.flRegion c.offset ≠ 1 ∨ (c.offset - s.partB * 1048576) % 131072 ≠ 0 then some 5
    else if s.flc.erase.isSome then some 6 else if s.isGrown (s.flBlock c.offset) then some 2 else none
  | 7 =>
    if s.flRegion c.offset = 2 ∨ (s.flRegion c.offset = 0 ∧ c.offset % 4096 ≠ 0) ∨ (s.flRegion c.offset = 1 ∧ c.offset % 2048 ≠ 0) then some 5
    else none
  | 8 => if s.flRegion c.offset = 2 then some 5 else none
  | _ => some 8

/-- Write the operation record of an erase or page program in the next free line of sectors 6 and 7; before the first record of
a sector the other sector is erased (R429). -/
def State.openRecord (s : State) (kind off : Nat) : State :=
  let k := s.flc.recNext % 256
  let s0 := if k = 0 then s.eraseSector 7 else if k = 128 then s.eraseSector 6 else s
  let b := leBytes 4 (kind * 268435456 + off) ++ leBytes 4 s.flc.recSeq
  let s1 := s0.writeNative (6 * 4096 + 32 * k) (b ++ leBytes 4 (crc16 b))
  { s1 with flc := { s1.flc with recNext := (k + 1) % 256, recSeq := s.flc.recSeq + 1, recOpen := some k } }

/-- Close the open operation record: DONE becomes 0 (R429). -/
def State.closeRecord (s : State) : State :=
  match s.flc.recOpen with
  | some k =>
    let s1 := s.writeNative (6 * 4096 + 32 * k + 12) (zeros 4)
    { s1 with flc := { s1.flc with recOpen := none } }
  | none => s

/-- A waiting RESUME goes on once no program and no table update runs (R424), and never during a flush (R428). -/
def State.flcResumeDue (s : State) : State :=
  match s.flc.erase with
  | some r => match r.resume with
    | some t => if s.flc.programs.isEmpty && s.flc.updates.isEmpty && s.pwr.flush.isNone then
        (s.flcPost .firmware t 0).onFlc fun f => { f with erase := some { r with suspended := false, resume := none } }
      else s
    | none => s
  | none => s

/-! ## Table updates (R433, R434) -/

/-- Whether an entry of the partial-erase table goes with a completed erase (R430). -/
def FlEntry.goes (e : FlEntry) (c : Nat × Nat × Nat) : Bool := e.block == c.2.1 && (c.1 != 3 || (e.kind == 4 && e.index == c.2.2))

/-- The entries after an update. -/
def TabUpdate.entries (u : TabUpdate) (l : List FlEntry) : List FlEntry := (l.filter fun e => !u.clear.any e.goes) ++ u.add.toList

/-- Whether an update that has not begun leaves the table as it is: its entry stands there already, or finds no room, or nothing goes. -/
def State.updIdle (s : State) (u : TabUpdate) : Bool :=
  let l := (s.tabOf u).entries
  match u.add with
  | some e => e.isIn u.grown l || l.length ≥ 64
  | none => !l.any fun e => u.clear.any e.goes

/-- What an update that finds no room logs: class S3 (R433). -/
def State.updFull (s : State) (u : TabUpdate) : State :=
  match u.add with
  | some e => if e.isIn u.grown (s.tabOf u).entries then s else s.fatal 0x08 0 (BitVec.ofNat 32 e.block) 0x20
  | none => s

/-- The oldest update is over: its command ends with its result. -/
def State.updEnd (s : State) (u : TabUpdate) : State :=
  ((s.onFlc fun f => { f with updates := f.updates.drop 1 }).flcDone u.req u.tag u.code).flcResumeDue

/-- Updates that have nothing to write end at once. -/
def State.updSettle : Nat → State → State
  | 0, s => s
  | n + 1, s => match s.flc.updates with
    | u :: _ => if u.lines.isNone && u.pulses == 0 && s.updIdle u then State.updSettle n ((s.updFull u).updEnd u) else s
    | [] => s

def State.updNext (s : State) : State := State.updSettle s.flc.updates.length s

/-- Begin an update behind those that wait. -/
def State.updAdd (s : State) (u : TabUpdate) : State := (s.onFlc fun f => { f with updates := f.updates ++ [u] }).updNext

/-- A program, an erase or MARK_BAD enters a block in the grown-bad table, and its result follows (R426, R433). -/
def State.growBad (s : State) (b kind : Nat) (req : FlcReq) (tag code : Nat) : State :=
  s.updAdd { grown := true, add := some ⟨b, kind, 0, 0xFF⟩, clear := none, req, tag, code }

def TabUpdate.magic (u : TabUpdate) : Nat := if u.grown then magicGrown else magicPartial
def TabUpdate.base (u : TabUpdate) : Nat := if u.grown then 2 else 4

/-- The sector that an update writes: that of the other copy. -/
def State.updSector (s : State) (u : TabUpdate) : Nat := u.base + (1 - (s.tabOf u).copy)

/-- The copy that an update writes. -/
def State.updBytes (s : State) (u : TabUpdate) : Bytes := tableBytes u.magic ((s.tabOf u).seq + 1) (u.entries (s.tabOf u).entries)

/-- An update has programmed its last line: the copy is the valid one; a block newly grown bad is S2 (R433). -/
def State.updFinish (s : State) (u : TabUpdate) : State :=
  let t := s.tabOf u
  let new : FlTable := ⟨u.entries t.entries, t.seq + 1, 1 - t.copy⟩
  let s1 := s.onFlc fun f => if u.grown then { f with grown := new } else { f with partialTab := new }
  let s2 := match u.grown, u.add with
    | true, some e => s1.raise 2 0x08 0 (BitVec.ofNat 32 e.block)
    | _, _ => s1
  (s2.updEnd u).updNext

/-- The copy under way does not pass: free bytes that spell no table (R428, R434). -/
def State.cutTable (s : State) (u : TabUpdate) : State :=
  let sec := s.updSector u
  let (x, s1) := s.freshBytes 4096
  let s2 := s1.setBytes (flashBase + sec * 4096) x
  if (s2.parseTable u.magic sec).isSome then s2.setBytes (flashBase + sec * 4096) [0#8] else s2

/-- An update fails its own verify: the copy in force stays, and the command ends with its result (DESIGN CHOICE, log entry 217). -/
def State.updFail (s : State) (u : TabUpdate) : State := ((s.cutTable u).updEnd u).updNext

/-- A line that an update programs is written. -/
def State.updWrite (s : State) (u : TabUpdate) (n : Nat) : State :=
  s.writeNative (s.updSector u * 4096 + 32 * n) (((s.updBytes u).drop (32 * n)).take 32)

/-- The lines of an update's copy. -/
def State.updLines (s : State) (u : TabUpdate) : Nat := ((s.updBytes u).length + 31) / 32

def State.setUpdate (s : State) (u : TabUpdate) : State := s.onFlc fun f => { f with updates := u :: f.updates.drop 1 }

/-- A pulse ends while a reset waits for it: its operation is left as it is (R428, R493, R495). -/
def State.pulseOver (s : State) : State := s.onFlc fun f => { f with pulseEnded := true }

/-- The pulse of an update's line ends with its verify. While a reset waits for it, nothing follows (R428). -/
def State.updLine (s : State) (u : TabUpdate) (n : Nat) (verified : Bool) : State :=
  if !s.err.held.isEmpty then s.pulseOver
  else if !verified then s.updFail u
  else if n + 1 ≥ s.updLines u then (s.updWrite u n).updFinish u
  else (s.updWrite u n).setUpdate { u with lines := some (n + 1) }

/-- A sub-pulse of an update's sector erase ends with its verify (R424). -/
def State.updPulse (s : State) (u : TabUpdate) (verified : Bool) : State :=
  if !s.err.held.isEmpty then s.pulseOver
  else if verified then (s.eraseSector (s.updSector u)).setUpdate { u with lines := some 0 }
  else if u.pulses + 1 ≥ 80 then s.updFail u
  else s.setUpdate { u with pulses := u.pulses + 1 }

/-- What a trip, a brown-out or a reset leaves of the table updates (R428): the sector erase is stopped, a line's pulse completes, and the
copy does not pass; the last line counts as not begun (DESIGN CHOICE, log entry 217). -/
def State.updCut (s : State) : State :=
  (match s.updRuns with
    | some u => match u.lines with
      | none => s.cutTable u
      | some n => if n + 1 < s.updLines u then s.updWrite u n else s
    | none => s).onFlc fun f => { f with updates := [] }

/-! ## Starting and ending commands -/

/-- The command of the queue that starts next, with those that stay (R423): the first native program of a bank that is free and that no
program before it waits for, whatever else waits before it; or the head, where it is another command and may start. -/
def State.flcPick (s : State) : Bool → List Nat → List FlcCmd → Option (FlcCmd × List FlcCmd)
  | _, _, [] => none
  | head, waits, c :: q =>
    let rest := fun (w : List Nat) => (s.flcPick false w q).map fun r => (r.1, c :: r.2)
    if c.op = 1 then (if s.flcMayStart c && !waits.contains (flBank c.offset) then some (c, q) else rest (flBank c.offset :: waits))
    else if head && s.flcMayStart c then some (c, q)
    else rest waits

/-- Start the next command of the queue that may start (R423), and none after a trip, during a flush, or while a held reset waits for the
pulse that runs (R428, R493): refusals post at once; MARK_BAD ends with its table update; erases and page programs open their record. -/
def State.flcStart (s : State) : State :=
  match if s.err.held.isEmpty && s.pwr.flush.isNone then s.flcPick true [] s.flc.queue else none with
  | none => s
  | some (c, q) =>
      let s0 := { s with flc := { s.flc with queue := q } }
      match s.flcRefusal c with
      | some code => s0.flcPost c.req c.tag code
      | none => match c.op with
        | 1 => { s0 with flc := { s0.flc with programs := Tab.put s0.flc.programs (flBank c.offset) c } }
        | 2 => { (s0.openRecord 1 c.offset) with flc := { (s0.openRecord 1 c.offset).flc with page := some c } }
        | 3 => { (s0.openRecord 2 c.offset) with flc := { (s0.openRecord 2 c.offset).flc with erase := some ⟨c, 0, false, [], none⟩ } }
        | 4 => { (s0.openRecord 3 c.offset) with flc := { (s0.openRecord 3 c.offset).flc with erase := some ⟨c, 0, false, [], none⟩ } }
        | 7 => { s0 with flc := { s0.flc with blank := some c } }
        | _ => s0.growBad (s.flBlock c.offset) 3 c.req c.tag 0

/-- The pulse of a native program, or of a table update's line, in a bank ends with its verify (R421, R433). After a failed verify the words
hold free values. During a flush, and while a reset waits for it, nothing follows it: no result, and no table update (R428, R495). -/
def State.flcProgramEnd (s : State) (bank : Nat) (verified : Bool) : State :=
  match Tab.find s.flc.programs bank with
  | none => match s.updRuns with
    | some u => match u.lines with
      | some n => if (u.lineOff (s.tabOf u)).any fun o => flBank o == bank then s.updLine u n verified else s
      | none => s
    | none => s
  | some c =>
    let s0 := s.onFlc fun f => { f with programs := Tab.del f.programs bank }
    let b := (c.data.take c.nwords).flatMap fun w => leBytes 4 w.toNat
    let quiet := s.pwr.flush.isSome || !s.err.held.isEmpty
    if verified then
      let s1 := s0.writeNative c.offset b
      if quiet then s1 else (s1.flcDone c.req c.tag 0).flcResumeDue
    else
      let (x, s1) := s0.freshBytes b.length
      let s2 := s1.writeNative c.offset x
      if quiet then s2 else (s2.growBad (s.flBlock c.offset) 2 c.req c.tag 1).flcResumeDue

/-- FLC reads n words of a page program's source, as an initiator of its own (R410, R422). A word that is uncorrectable goes into the page as
a free value (DESIGN CHOICE, log entry 218). -/
def State.pageSource (s : State) : Nat → Nat → Bytes × State
  | _, 0 => ([], s)
  | a, n + 1 =>
    let (ok, s1) := s.checkRam (.mem a)
    let (x, s2) := if ok then (s1.bytes a 4, s1) else s1.freshBytes 4
    let (l, s3) := s2.pageSource (a + 4) n
    (x ++ l, s3)

/-- The 2,048 bytes that a PAGE programs: those at FLC_SRC, or those that a command of the Supervisor's own carries (log entry
55). -/
def State.pageData (s : State) (c : FlcCmd) : Bytes × State :=
  if c.data.length = 512 then (c.data.flatMap fun w => leBytes 4 w.toNat, s) else s.pageSource c.src 512

/-- A pulse of the page program ends; the last one completes the page with its marker and closes the record (R422, R429). -/
def State.flcPageEnd (s : State) (last verified : Bool) : State :=
  match s.flc.page with
  | none => s
  | some c =>
    if !s.err.held.isEmpty then s.pulseOver
    else if !last && verified then s else
      let s0 := s.onFlc fun f => { f with page := none }
      let (x, s1) := if verified then s0.pageData c else s0.freshBytes 2048
      let s2 := (s1.setBytes (flashBase + c.offset) x).onFlc fun f =>
        { f with pages := Tab.putD f.pages (s.flBlock c.offset * 64 + s.flPage c.offset) false true }
      if verified then s2.closeRecord.flcDone c.req c.tag 0 else s2.closeRecord.growBad (s.flBlock c.offset) 2 c.req c.tag 1

/-- Put a compatibility block into the erased state (R418, R422, R435). -/
def State.eraseBlock (s : State) (off : Nat) : State :=
  let b := s.flBlock off
  let s1 := { s with mem := (Tab.keep s.mem fun k _ => decide (k < flashBase + off ∨ flashBase + off + 131072 ≤ k)) }
  { s1 with flc := { s1.flc with
      pages := Tab.keep s1.flc.pages fun k _ => decide (k / 64 ≠ b),
      errs := Tab.keep s1.flc.errs fun k _ => decide (k / 4096 ≠ off / 131072),
      wear := Tab.modify s1.flc.wear (4096 + (b - 16 * s.partB)) 0 (· + 1) } }

/-- An erase completes: the target is erased, its mode recorded, the record closes, its entries leave the partial-erase table, and the
result is posted (R415, R424, R429, R430). -/
def State.flcEraseDone (s : State) (r : EraseRun) : State :=
  let c := r.cmd
  let b := s.flBlock c.offset
  let s0 := s.onFlc fun f => { f with erase := none }
  let s1 := if c.op = 3 then s0.eraseSector (flSector c.offset) else s0.eraseBlock c.offset
  let s2 := s1.onFlc fun f => { f with modes := Tab.putD f.modes b 0 (s.blockMode b) }
  let s3 := foldOver (fun t u => u.flcPost .firmware t 8) r.suspends s2.closeRecord
  s3.updAdd { grown := false, add := none, clear := some (c.op, b, flSector c.offset % 16), req := c.req, tag := c.tag, code := 0 }

/-- A sub-pulse of the erase that runs ends with its verify: it completes, suspends, goes on, or fails after 80 (R424, R433, R437); that of
a table update goes on with its lines. -/
def State.flcErasePulse (s : State) (verified : Bool) : State :=
  let update := match s.updRuns with
    | some u => if u.lines.isNone then s.updPulse u verified else s
    | none => s
  match s.flc.erase with
  | none => update
  | some r =>
    if r.suspended then update
    else if !s.err.held.isEmpty then s.pulseOver
    else if verified then s.flcEraseDone r
    else if r.pulses + 1 ≥ 80 then
      let (x, s0) := s.freshBytes (if r.cmd.op = 3 then 4096 else 131072)
      let s1 := (({ s0 with flc := { s0.flc with erase := none } } : State).setBytes (flashBase + r.cmd.offset) x).closeRecord
      (foldOver (fun t u => u.flcPost .firmware t 8) r.suspends s1).growBad (s.flBlock r.cmd.offset) 1 r.cmd.req r.cmd.tag 1
    else if r.suspends.isEmpty then { s with flc := { s.flc with erase := some { r with pulses := r.pulses + 1 } } }
    else
      let s1 := { s with flc := { s.flc with erase := some { r with pulses := r.pulses + 1, suspended := true, suspends := [] } } }
      foldOver (fun t u => u.flcPost .firmware t 0) r.suspends (s1.setFld F.FLC_SUSPADDR_OFFSET r.cmd.offset)

/-- Whether a blank check finds its target blank: no word programmed, every byte all ones, nothing partly erased or abandoned (R426, R430). -/
def State.isBlank (s : State) (off : Nat) : Bool :=
  if s.flRegion off = 0 then
    !(List.range 1024).any (fun k => s.marked (off / 4 + k)) && !s.isPartial off && (s.bytes (flashBase + off) 4096).all (· == 0xFF#8)
  else !s.pageMarked (s.flBlock off) (s.flPage off) && !s.isPartial off && !s.isAbandoned off && (s.bytes (flashBase + off) 2048).all (· == 0xFF#8)

/-- A blank check completes (R425, R426). -/
def State.flcBlankDone (s : State) : State :=
  match s.flc.blank with
  | none => s
  | some c =>
    ({ s with flc := { s.flc with blank := none } } : State).flcPost c.req c.tag (if s.isBlank c.offset then 0 else 7)

/-- The lower page paired with an upper page, for an upper page (R431). -/
def lowerOf (p : Nat) : Option Nat :=
  if p = 63 then some 61 else if p ≥ 2 ∧ p % 2 = 0 then (if p = 2 then some 0 else some (p - 3)) else none

/-- A page program is abandoned: its paired lower page is perhaps damaged, with free counts of bits in error (R431). -/
def State.pageCut (s : State) : State :=
  (match s.flc.page.bind fun c => (lowerOf (s.flPage c.offset)).map fun p => (c.offset - s.flPage c.offset * 2048 + p * 2048) / 32 with
    | some base => foldOver (fun (k : Nat) (t : State) =>
        let (n, u) := t.fresh 8
        u.onFlc fun f => { f with errs := Tab.putD f.errs (base + k) 0 n }) (List.range 64) s
    | none => s).onFlc fun f => { f with page := none }

/-- What a brown-out or a reset leaves of the flash work (R428): running programs complete without a result; a page program is abandoned; a
table update is cut; an erase stays open; the queue is dropped. -/
def State.flcAbort (s : State) : State :=
  let s1 := foldOver (fun (c : FlcCmd) t => t.writeNative c.offset ((c.data.take c.nwords).flatMap fun w => leBytes 4 w.toNat))
    (Tab.vals s.flc.programs) s.updCut
  s1.pageCut.onFlc fun f => { f with queue := [], programs := [], erase := none, blank := none, pulseEnded := false }

/-- Boot step 5 for one table: the valid copy, a failed copy rewritten from it with S1; none when no copy passes (R114, R434). -/
def State.bootTable (s : State) (magic base : Nat) : Option FlTable × State :=
  let (a, s1) := s.readTable magic base
  let (b, s2) := s1.readTable magic (base + 1)
  let rewrite := fun (sec seq : Nat) (es : List FlEntry) =>
    ((s2.eraseSector sec).writeNative (sec * 4096) (tableBytes magic seq es)).raise 1 0x25 5
  match a, b with
  | some (qa, ea), some (qb, eb) => (some (if qb > qa then ⟨eb, qb, 1⟩ else ⟨ea, qa, 0⟩), s2)
  | some (qa, ea), none => (some ⟨ea, qa, 0⟩, rewrite (base + 1) qa ea)
  | none, some (qb, eb) => (some ⟨eb, qb, 1⟩, rewrite base qb eb)
  | none, none => (none, s2)

/-- The open operation record that a line of sectors 6 and 7 spells, when its CRC passes and DONE reads all ones (R429). -/
def State.recordAt (s : State) (k : Nat) : Option (Nat × Nat) :=
  let a := flashBase + 6 * 4096 + 32 * k
  let b := s.bytes a 8
  if leNat (s.bytes (a + 8) 2) = crc16 b ∧ leNat (s.bytes (a + 12) 4) = 0xFFFFFFFF then
    some (bits (leNat (b.take 4)) 31 28, bits (leNat (b.take 4)) 24 0)
  else none

/-- Boot step 5 at one record line: a valid open record becomes a partial-erase entry and is closed (R429). -/
def State.bootRecord (k : Nat) (s : State) : State :=
  match s.readLine true (6 * 4096 + 32 * k) with
  | (.data _, t) => match t.recordAt k with
    | none => t
    | some (kind, off) =>
      let e : FlEntry := if kind = 1 then ⟨t.flBlock off, 6, t.flPage off, (lowerOf (t.flPage off)).getD 0xFF⟩
        else if kind = 2 then ⟨t.flBlock off, 4, flSector off % 16, 0xFF⟩ else ⟨t.flBlock off, 5, 0, 0xFF⟩
      (t.addPartial e).writeNative (6 * 4096 + 32 * k + 12) (zeros 4)
  | (_, t) => t

/-- Boot step 5: every record is read (R429). -/
def State.bootRecords (s : State) : State := foldOver State.bootRecord (List.range 256) s

/-- An erase of a sector by the boot ROM or the Supervisor in their own step, with its operation record (R429). -/
def State.eraseRecorded (s : State) (sec : Nat) : State := ((s.openRecord 2 (sec * 4096)).eraseSector sec).closeRecord

/-! ## Wear (R435, R436) -/

/-- Whether a native sector is erased and may be programmed. -/
def State.sectorFree (s : State) (sec : Nat) : Bool :=
  let off := sec * 4096
  !s.flc.marks.any (fun e => e.2 && e.1 / 1024 == sec) && !s.refusesProgram off && !s.wrongMode off && !s.isGrown (s.flBlock off)

/-- Whether a compatibility block is erased and may be programmed, by its number c. -/
def State.blockFree (s : State) (c : Nat) : Bool :=
  let b := 16 * s.partB + c
  let off := s.partB * 1048576 + c * 131072
  !s.flc.pages.any (fun e => e.2 && e.1 / 64 == b) && !s.refusesProgram off && !s.wrongMode off && !s.isGrown b

/-- Of some units, the first with the lowest erase count. -/
def State.leastWorn (s : State) (key : Nat → Nat) (l : List Nat) : Option Nat :=
  l.foldl (fun (a : Option Nat) (u : Nat) => match a with
    | some v => if Tab.getD s.flc.wear (key u) 0 < Tab.getD s.flc.wear (key v) 0 then some u else a
    | none => some u) none

/-- The target of a move: of the free units, one with the lowest erase count (R436), that which is asked for where it is one. -/
def State.wearTarget (s : State) (key : Nat → Nat) (l : List Nat) (wanted : Nat) : Option Nat :=
  (s.leastWorn key l).map fun v =>
    if l.contains wanted && Tab.getD s.flc.wear (key wanted) 0 == Tab.getD s.flc.wear (key v) 0 then wanted else v

/-! ## OTP -/

/-- Halves programmed at shipment: row 0 low and rows 8 to 15 (R531). -/
def shippedHalf (k : Nat) : HalfState := if k = 0 ∨ (16 ≤ k ∧ k < 32) then .programmed else .unprogrammed

def State.halfState (s : State) (row half : Nat) : HalfState := Tab.getD s.otp.states (row * 2 + half) (shippedHalf (row * 2 + half))
def State.halfBits (s : State) (row half : Nat) : Nat := Tab.getD s.otp.bits (row * 2 + half) 0

/-- The majority of three bits (R126, R441). -/
def majority (v i j k : Nat) : Bool := b2n (bit v i) + b2n (bit v j) + b2n (bit v k) ≥ 2

/-- The majority of a lock fuse's three bits: 0 SECURE_BOOT, 1 REGION_LOCK, 2 FACTORY_CLOSE, 3 DEBUG_DISABLE (R441). -/
def fuseMaj (row7 k : Nat) : Bool := majority row7 (3 * k) (3 * k + 1) (3 * k + 2)

/-- Whether the three bits of a lock fuse disagree. -/
def fuseDisagrees (row7 k : Nat) : Bool := bits row7 (3 * k + 2) (3 * k) != 0 && bits row7 (3 * k + 2) (3 * k) != 7

/-- The 256 bits of a row in the array. -/
def State.rowBits (s : State) (row : Nat) : Nat := s.halfBits row 0 + s.halfBits row 1 * 2 ^ 128

/-- The majority of PART_SPLIT's value and of PS_SET (R441). -/
def splitMaj (row7 : Nat) : Nat := bitsNat ((List.range 5).reverse.map fun i => majority row7 (64 + i) (69 + i) (74 + i))
def psSetMaj (row7 : Nat) : Bool := majority row7 79 80 81

/-- The number of security-version fuses that read 1 (R121). -/
def secVersion (row7 : Nat) : Nat := countBelow (fun i => bit row7 (32 + i)) 32

/-- OTP_FUSE as read from the fuse row. -/
def fuseWord (row7 : Nat) : Word :=
  BitVec.ofNat 32 (b2n (fuseMaj row7 3) + 2 * b2n (fuseMaj row7 2) + 4 * b2n (fuseMaj row7 1) + 8 * b2n (fuseMaj row7 0)
    + 256 * secVersion row7 + 65536 * splitMaj row7 + 2097152 * b2n (psSetMaj row7)
    + 268435456 * (b2n (fuseDisagrees row7 3) + 2 * b2n (fuseDisagrees row7 2) + 4 * b2n (fuseDisagrees row7 1)
      + 8 * b2n (fuseDisagrees row7 0)))

/-- Copy every row into its shadow, with the states of the halves and the fuses (R439). -/
def State.otpReload (s : State) : State :=
  let s1 := foldOver (fun k t =>
    let v := t.rowBits k
    let t1 := foldOver (fun w u => u.setReg .OTP_ROW (k * 8 + w) (BitVec.ofNat 32 (v / 2 ^ (32 * w)))) (List.range 8) t
    if k = 7 then t1 else
      t1.setReg .OTP_HSTAT k (BitVec.ofNat 32 ((t.halfState k 0).code + 4 * (t.halfState k 1).code))) (List.range 128) s
  s1.setReg .OTP_FUSE 0 (fuseWord (s.rowBits 7))

/-- The fuses in force (R126): SECURE_BOOT as the last reset found it, the others as the array holds them, in every power state. -/
def State.secureBoot (s : State) : Bool := s.otp.secure
def State.regionLocked (s : State) : Bool := fuseMaj (s.rowBits 7) 1
def State.closed (s : State) : Bool := fuseMaj (s.rowBits 7) 2
def State.debugDisabled (s : State) : Bool := fuseMaj (s.rowBits 7) 3

/-- The security state: 0 DEVELOPMENT, 1 SECURED, 2 CLOSED (R43). -/
def State.security (s : State) : Nat := if s.closed then 2 else if s.secureBoot then 1 else 0

/-- Whether the region row counts as programmed (R440). -/
def State.regionRowSet (s : State) : Bool := (List.range 8).all fun k => s.halfState (3 + k / 2) (k % 2) == .programmed

/-- Whether VIN_SENSE lies at or above RELEASE, as a trip or a level of the bus last said (R99, R442). -/
def State.vinGood (s : State) : Bool := !s.vinLow && !s.pwr.busLow

/-- The shadow bytes of a row. -/
def State.rowBytes (s : State) (row : Nat) : Bytes := (List.range 8).flatMap fun w => leBytes 4 (s.reg .OTP_ROW (row * 8 + w)).toNat

/-- The UID: bytes 0 to 6 of the identity row (R439). -/
def State.uid (s : State) : Bytes := (s.rowBytes 0).take 7

/-- Whether a program of a half is refused (R442). -/
def State.otpHalfDenied (s : State) (row half : Nat) : Bool :=
  (8 ≤ row && row ≤ 15) || row == 7 || s.closed || s.halfState row half != .unprogrammed
    || (3 ≤ row && row ≤ 6 && s.regionLocked) || !s.vinGood

/-- Whether the fuse bits of a program are refused: after FACTORY_CLOSE all but bits 63 to 32; a lock fuse whose OTP condition
does not hold; a PART_SPLIT value outside 4 to 16 or once PS_SET reads 1 (R126, R442). -/
def State.otpFuseDenied (s : State) (half data : Nat) : Bool :=
  let v := if half = 0 then data else data * 2 ^ 128
  let r7 := s.rowBits 7 ||| v
  let split := bits v 81 64 != 0
  !s.vinGood || (s.closed && (v - bits v 63 32 * 2 ^ 32 != 0))
    || (bits v 2 0 != 0 && !(s.halfState 2 0 == .programmed && s.halfState 2 1 == .programmed))
    || (bits v 5 3 != 0 && !s.regionRowSet)
    || (bits v 8 6 != 0 && !(fuseMaj (s.rowBits 7) 0 && fuseMaj (s.rowBits 7) 1 && psSetMaj (s.rowBits 7)))
    || (split && (psSetMaj (s.rowBits 7) || !(4 ≤ splitMaj r7 && splitMaj r7 ≤ 16)))

/-- The data of OTP_PDATA as one number. -/
def State.pdata (s : State) : Nat := (List.range 4).foldl (fun a w => a + (s.reg .OTP_PDATA w).toNat * 2 ^ (32 * w)) 0

/-- A write of OTP_CTRL with the key (OTP_CTRL, R438, R441, R442). -/
def State.otpCtrl (s : State) (w : Word) : State :=
  if bits w.toNat 31 16 ≠ 0x4F54 then s
  else if s.otp.run.isSome then s.setWlock .OTP_CTRL 0
  else
    let row := bits w.toNat 6 0
    let half := bits w.toNat 13 13
    match bits w.toNat 15 14 with
    | 1 => if s.otpHalfDenied row half then s.setFld F.OTP_STAT_DENIED 1
      else { s with otp := { s.otp with run := some ⟨row, half, s.pdata, false⟩ } }
    | 2 => if row ≠ 7 ∨ s.otpFuseDenied half s.pdata then s.setFld F.OTP_STAT_DENIED 1
      else { s with otp := { s.otp with run := some ⟨7, half, s.pdata, true⟩ } }
    | 3 => s.otpReload
    | _ => s

/-- Or bits into a half of the array. -/
def State.otpBurn (s : State) (row half v : Nat) : State :=
  { s with otp := { s.otp with bits := Tab.putD s.otp.bits (row * 2 + half) 0 (s.halfBits row half ||| v) } }

def State.setHalf (s : State) (row half : Nat) (h : HalfState) : State :=
  { s with otp := { s.otp with states := Tab.putD s.otp.states (row * 2 + half) (shippedHalf (row * 2 + half)) h } }

/-- The bits of a fuse program that a cut leaves programmed: some of them, and one of PS_SET only behind all the others (R441). -/
def fuseCut (half data m : Nat) : Nat :=
  let ps := if half = 0 then 7 * 2 ^ 79 else 0
  let others := data - (data &&& ps)
  if others &&& m = others then data &&& m else others &&& m

/-- An OTP program ends: whole, or cut at a bit, which leaves a free part of its bits programmed and a half dirty (R438,
R442). -/
def State.otpDone (s : State) (cut crcOk : Bool) : State :=
  match s.otp.run with
  | none => s
  | some r =>
    let s0 := { s with otp := { s.otp with run := none } }
    if cut then
      let (m, s1) := s0.fresh (2 ^ 128)
      let s2 := s1.otpBurn r.row r.half (if r.fuse then fuseCut r.half r.data m else r.data &&& m)
      if r.fuse then s2 else (s2.setHalf r.row r.half .dirty).setFld F.OTP_STAT_FAIL 1
    else
      let s1 := s0.otpBurn r.row r.half r.data
      if r.fuse then s1
      else if crcOk then s1.setHalf r.row r.half .programmed
      else (s1.setHalf r.row r.half .crcFailed).setFld F.OTP_STAT_FAIL 1

end Sys2Proof.Machine
end

