-- ==== Sys2Proof/Machine/SoftOps.lean ====
section
/-! DEFINITION. Soft decisions of the receiver: the convolutional code and its Viterbi decoder, the interleaver, the summing of repeats,
the quality figure, and the search for the sync word (R170 to R176, R184). -/

namespace Sys2Proof.Machine

/-- A soft value: 0 is a sure 0, 7 a sure 1 (R172, R184). -/
abbrev Soft := BitVec 3

/-! ## The convolutional code -/

/-- The two output bits of the convolutional encoder for an input bit and the six bits before it, the latest in bit 5:
generators 171 and 133 octal, the newest bit weighted highest (R172). -/
def convStep (reg : Nat) (b : Bool) : Nat × List Bool :=
  let w := b2n b * 64 + reg
  let par := fun (g : Nat) => (msbBits 7 (w &&& g)).foldl (fun x y => x != y) false
  (w / 2, [par 0o171, par 0o133])

/-- Encode bits from the zero state. -/
def convEncode : Nat → List Bool → List Bool
  | _, [] => []
  | reg, b :: l => let (r, o) := convStep reg b
    o ++ convEncode r l

/-- Interleave one block of 128 coded bits (R171). -/
def interleave (c : List Bool) : List Bool := (List.range 128).map fun t => c.getD (t % 16 * 8 + t / 16) false

/-- Interleave n blocks. -/
def interleaveN : Nat → List Bool → List Bool
  | 0, _ => []
  | n + 1, l => interleave (l.take 128) ++ interleaveN n (l.drop 128)

/-- The coded bits of one block as received: coded bit i lies at on-air position (i mod 8) * 16 + i / 8 (R171). -/
def deinterleave (v : List Nat) : List Nat := (List.range 128).map fun i => v.getD (i % 8 * 16 + i / 8) 0

/-- Undo the interleaving of n blocks. -/
def deinterleaveN : Nat → List Nat → List Nat
  | 0, _ => []
  | n + 1, l => deinterleave (l.take 128) ++ deinterleaveN n (l.drop 128)

/-! ## The decoder (R172) -/

/-- |x - y|. -/
def absDiff (x y : Nat) : Nat := (x - y) + (y - x)

/-- A path through the code with its metric: the decided bits, the latest first. -/
abbrev Path := Nat × List Bool

/-- The metric of a branch: |soft - expected| over its two coded bits, expected 0 or `full` (R184). -/
def branchCost (full x y w : Nat) : Nat :=
  let o := (convStep (w % 64) (decide (64 ≤ w))).2
  absDiff x (if o.getD 0 false then full else 0) + absDiff y (if o.getD 1 false then full else 0)

/-- The path with the lower metric; of two equal ones the spec names none (R172; log entry 174). -/
def betterPath (tie : Bool) (a b : Path) : Path := if b.1 < a.1 then b else if a.1 < b.1 then a else if tie then b else a

/-- The survivors into the states 32 * bit + j, from the pairs of states that lead there (R172). -/
def survivors (full x y t : Nat) (bit : Bool) : Nat → List Path → List Path
  | j, a :: b :: l =>
    let w := b2n bit * 64 + 2 * j
    betterPath (Config.viterbiTie t (b2n bit * 32 + j)) (a.1 + branchCost full x y w, bit :: a.2) (b.1 + branchCost full x y (w + 1), bit :: b.2)
      :: survivors full x y t bit (j + 1) l
  | _, _ => []

/-- One step of the decoder: all 64 states. -/
def viterbiStep (full x y t : Nat) (l : List Path) : List Path := survivors full x y t false 0 l ++ survivors full x y t true 0 l

/-- The state of the decoder as it starts: only the zero state can be. -/
def viterbiStart : List Path := (0, []) :: List.replicate 63 (1000000000, [])

/-- The best path of a step. -/
def bestPath (t : Nat) (l : List Path) : Path := l.foldl (betterPath (Config.viterbiTie t 64)) (2000000000, [])

/-- Run the decoder over pairs of values from step t: the bits that the traceback of 64 decides on the way, and the paths at the end. -/
def viterbiRun (full : Nat) : Nat → List Nat → List Path → List Bool × List Path
  | t, x :: y :: l, p =>
    let q := viterbiStep full x y t p
    let r := viterbiRun full (t + 1) l q
    (if t < 64 then r.1 else (bestPath t q).2.getD 64 false :: r.1, r.2)
  | _, _, p => ([], p)

/-- The bits decided while the rest is still to come (R172): bit i once value 2 * (i + 64) + 1 is there. -/
def viterbiSoFar (v : List Nat) : List Bool := (viterbiRun 7 0 v viterbiStart).1

/-- The bits of a whole block of coded values, ending in the zero state, and the final metric of the surviving path (R172, R184). -/
def viterbi (full : Nat) (v : List Nat) : List Bool × Nat :=
  let r := viterbiRun full 0 v viterbiStart
  let last := r.2.headD (0, [])
  (r.1 ++ (last.2.take 64).reverse, last.1)

/-! ## Header, payload and quality -/

/-- Soft values as numbers. -/
def softNats (l : List Soft) : List Nat := l.map BitVec.toNat

/-- Exactly n values, missing ones 0. -/
def padNats (n : Nat) (v : List Nat) : List Nat := (v ++ List.replicate (n - v.length) 0).take n

/-- The decided bit of a soft value. -/
def softBit (v : Nat) : Bool := decide (4 ≤ v)

/-- The sums of each run of r repeats (R170), n of them. -/
def sumRuns (r : Nat) : Nat → List Nat → List Nat
  | 0, _ => []
  | n + 1, l => (l.take r).foldl (· + ·) 0 :: sumRuns r n (l.drop r)

/-- The 16 header bits from the soft values on air: plain, or coded with each bit sent `rep` times (R170, R172). -/
def softHeader (coded : Bool) (rep : Nat) (l : List Soft) : Nat :=
  if coded then bitsNat ((viterbi (7 * rep) (sumRuns rep 44 (softNats l))).1.take 16)
  else bitsNat ((padNats 16 (softNats l)).map softBit)

/-- The payload bits delivered so far (R172): plain ones as they come, coded ones block by block and 64 bits behind. -/
def softSoFar (coded : Bool) (l : List Soft) : List Bool :=
  if coded then viterbiSoFar (deinterleaveN (l.length / 128) (softNats l)) else (softNats l).map softBit

/-- The payload of a frame of `len` bytes from its soft values, with M and N of its quality (R171, R172, R184). The
padding bits are no coded bits and count in neither (DESIGN CHOICE, log entry 204). -/
def softPayload (coded : Bool) (len : Nat) (l : List Soft) : Bytes × Nat × Nat :=
  if coded then
    let n := 16 * len + 12
    let r := viterbi 7 ((deinterleaveN ((n + 127) / 128) (softNats l)).take n)
    (bitsBytes len r.1, r.2, n)
  else
    let v := padNats (8 * len) (softNats l)
    (bitsBytes len (v.map softBit), v.foldl (fun a x => a + (if softBit x then 7 - x else x)) 0, 8 * len)

/-- QUALITY (R184). -/
def qualityOf (m n : Nat) : Nat := 255 - 512 * m / (7 * n)

/-! ## The search for the sync word (R174, R176) -/

/-- How many bits differ. -/
def bitDiffs (a b : List Bool) : Nat := (a.zip b).countP fun x => x.1 != x.2

/-- The first match of a word among the last r bits of a history, oldest bit first, at most `tol` bits of the word differing: how many
differ, and how many bits follow the match (R174, R176). -/
def syncScan (word h : List Bool) (tol : Nat) : Nat → Option (Nat × Nat)
  | 0 => none
  | r + 1 =>
    let seen := h.take (h.length - r)
    let e := bitDiffs (seen.drop (seen.length - word.length)) word
    if word.length ≤ seen.length ∧ e ≤ tol then some (e, r) else syncScan word h tol r

/-- The last 256 bits. -/
def last256 (l : List Bool) : List Bool := l.drop (l.length - 256)

end Sys2Proof.Machine
end

