-- ==== Sys2Proof/Machine/RfOps.lean ====
section
/-! DEFINITION. RF ports, PHY profiles and the lane bank (R158 to R190). -/

namespace Sys2Proof.Machine

/-! ## Profiles -/

/-- Symbols per second of an SRATE code (R164). -/
def symRate (code : Nat) : Nat := [2400, 4800, 9600, 19200, 38400, 50000, 100000, 200000].getD code 2400

/-- Channel bandwidth in Hz of a CHBW code. -/
def chbwHz (code : Nat) : Nat := [6250, 12500, 25000, 50000, 100000, 200000, 400000, 800000].getD code 6250

def State.ptRate (s : State) (k : Nat) : Nat := symRate (s.fld F.LANE_PT_MOD_SRATE k)
def State.ptBw (s : State) (k : Nat) : Nat := chbwHz (s.fld F.LANE_PT_RX_CHBW k)

/-- Bits of a symbol: 1 in 2-GFSK, 2 in 4-GFSK (R167). -/
def State.ptBits (s : State) (k : Nat) : Nat := 1 + s.fld F.LANE_PT_MOD_MOD k

/-- Gross bit rate. -/
def State.ptGross (s : State) (k : Nat) : Nat := s.ptRate k * s.ptBits k

/-- The cost of a profile in lane units (R164). -/
def State.ptCost (s : State) (k : Nat) : Nat := if s.ptGross k ≤ 100000 then 1 else if s.ptGross k ≤ 200000 then 2 else 4

/-- Whether a profile is valid (R166). -/
def State.ptValid (s : State) (k : Nat) : Bool :=
  let len := s.fld F.LANE_PT_SYNC_SYNC_LEN k
  let dev := s.fld F.LANE_PT_DEV_DEV k * 10
  let outer := if s.ptBits k = 2 then 3 * dev else dev
  16 ≤ len && len ≤ 32 && (s.ptBits k == 1 || len % 2 == 0) && dev != 0 && 2 * outer + s.ptRate k ≤ s.ptBw k
    && s.fld F.LANE_PT_LEN_MIN_LEN k ≤ s.fld F.LANE_PT_LEN_MAX_LEN k

/-- Times a header bit is sent (R170): 1, 2 or 4. -/
def State.hdrRep (s : State) (k : Nat) : Nat := [1, 2, 4, 4].getD (s.fld F.LANE_PT_MOD_HDR_REP k) 4

/-- Header bits on air (R170). -/
def State.hdrBits (s : State) (k : Nat) : Nat := if s.flag F.LANE_PT_MOD_HDR_CODED k then 44 * s.hdrRep k else 16

/-- Payload bits on air (R171). -/
def payBits (coded : Bool) (len : Nat) : Nat := if coded then 128 * ((16 * len + 12 + 127) / 128) else 8 * len

/-- The deviations of the symbols that carry bits on a profile, in units of DEV (R167): 2-GFSK +1 and -1; 4-GFSK, the first bit of a pair
the more significant, 01 +3, 00 +1, 10 -1, 11 -3. -/
def symbolDevs (four : Bool) : List Bool → List Int
  | a :: b :: l =>
    if four then (match a, b with
      | false, true => 3
      | false, false => 1
      | true, false => -1
      | true, true => -3) :: symbolDevs four l
    else (if a then 1 else -1) :: symbolDevs four (b :: l)
  | [a] => [if a then 1 else -1]
  | [] => []

/-- The deviations on air of bits on a profile, in Hz (R167). -/
def State.devsOnAir (s : State) (k : Nat) (l : List Bool) : List Int :=
  (symbolDevs (s.flag F.LANE_PT_MOD_MOD k) l).map fun d => d * (s.fld F.LANE_PT_DEV_DEV k * 10 : Nat)

/-- Twice the bandwidth-time product of a profile's Gaussian filter: 0.5 or 1.0 (R167). -/
def State.ptBt2 (s : State) (k : Nat) : Nat := 1 + s.fld F.LANE_PT_MOD_BT k

/-- The preamble bits of n symbols (R192): 0 and 1 in turn in 2-GFSK, +3 DEV and -3 DEV in turn in 4-GFSK. -/
def preambleBits (four : Bool) (n : Nat) : List Bool :=
  (List.range n).flatMap fun i => if four then [i % 2 == 1, true] else [i % 2 == 1]

/-! ## The PHY header -/

/-- HCHK over the 12 bits LENGTH and CODED (R169). -/
def hchk (v : Nat) : Nat := crcBits 4 3 0 (msbBits 12 v)

/-- The PHY header of a length and coding (R169). -/
def phyHeader (len : Nat) (coded : Bool) : Nat := (len * 2 + b2n coded) * 16 + hchk (len * 2 + b2n coded)

/-- Whether a lane of a profile accepts a header (R173). -/
def State.hdrOk (s : State) (k hdr : Nat) : Bool :=
  let len := bits hdr 15 5
  hchk (bits hdr 15 4) == bits hdr 3 0 && s.fld F.LANE_PT_LEN_MIN_LEN k ≤ len && len ≤ s.fld F.LANE_PT_LEN_MAX_LEN k
    && (bit hdr 4 || !s.flag F.LANE_PT_MOD_CODED_ONLY k)

/-! ## The packet on air -/

/-- The header bits on air (R170). -/
def State.hdrOnAir (s : State) (k hdr : Nat) : List Bool :=
  if s.flag F.LANE_PT_MOD_HDR_CODED k then
    (convEncode 0 (msbBits 16 hdr ++ List.replicate 6 false)).flatMap fun b => List.replicate (s.hdrRep k) b
  else msbBits 16 hdr

/-- n alternating bits, starting with 0. -/
def alternating (n : Nat) : List Bool := (List.range n).map fun i => i % 2 == 1

/-- The payload bits on air (R168, R171). -/
def payOnAir (coded : Bool) (b : Bytes) : List Bool :=
  if coded then
    let c := convEncode 0 (byteBits b ++ List.replicate 6 false)
    let n := payBits true b.length
    interleaveN (n / 128) (c ++ alternating (n - c.length))
  else byteBits b

/-! ## Ports and lanes -/

def State.laneState (s : State) (n : Nat) : Nat := s.fld F.LANE_STAT_STATE n
def State.lanePort (s : State) (n : Nat) : Nat := s.fld F.LANE_PROFILE_PORT n
def State.lanePt (s : State) (n : Nat) : Nat := s.fld F.LANE_PROFILE_PROFILE n
def State.laneOffset (s : State) (n : Nat) : Int := (s.inReg .LANE_OFFSET n).toInt
def State.rfLo (s : State) (p : Nat) : Nat := (s.reg .RF_LO p).toNat

/-- The centre frequency of a lane (R161). -/
def State.laneFreq (s : State) (n : Nat) : Nat := ((s.rfLo (s.lanePort n) : Int) + s.laneOffset n).toNat

def State.bankRuns (s : State) : Bool := s.flag F.LANE_BANK_STAT_RUNNING
def State.portEnabled (s : State) (p : Nat) : Bool := s.flag F.RF_STAT_ENABLED p
def State.rxReady (s : State) (p : Nat) : Bool := s.flag F.RF_STAT_RX_READY p
def State.blanked (s : State) (p : Nat) : Bool := s.flag F.RF_STAT_BLANKED p

/-- The lanes of a port. -/
def State.lanesOf (s : State) (p : Nat) : List Nat := (List.range 128).filter fun n => s.lanePort n == p

/-- Whether some lane of a port is not OFF: the running condition of RFx_LO and RFx_CTRL.EN. -/
def State.portInUse (s : State) (p : Nat) : Bool := (List.range 128).any fun n => s.lanePort n == p && s.laneState n != 0

/-- Whether the lanes of a port lock its LO and its EN (R10, R158). -/
def State.portHeld (s : State) (p : Nat) : Bool := s.nowOrWas fun t => t.portInUse p

/-- Whether some lane not in OFF has a profile: the running condition of its entry. -/
def State.ptInUse (s : State) (k : Nat) : Bool := (List.range 128).any fun n => s.lanePt n == k && s.laneState n != 0

/-- Whether some lane of a port is in HEADER or PAYLOAD. -/
def State.portBusy (s : State) (p : Nat) : Bool :=
  (List.range 128).any fun n => s.lanePort n == p && (s.laneState n == 4 || s.laneState n == 5)

/-- The lane units held and the lanes not in OFF (R165). -/
def State.unitsHeld (s : State) : Nat := (List.range 128).foldl (fun a n => a + s.fld F.LANE_STAT_UNITS n) 0
def State.lanesOn (s : State) : Nat := countBelow (fun n => s.laneState n != 0) 128

/-- Whether an LO frequency lies in its range (R158). -/
def loOk (f : Nat) : Bool := 779000000 ≤ f && f ≤ 960000000

/-- Whether lane n is placed validly at an offset (R162). Twice the frequencies are compared, so that half a bandwidth is
whole. An offset of another lane that is written and not yet applied does not count (DESIGN CHOICE, log entry 206). -/
def State.placed (s : State) (n : Nat) (off : Int) : Bool :=
  let bw : Int := s.ptBw (s.lanePt n)
  let c : Int := 2 * ((s.rfLo (s.lanePort n) : Int) + off)
  2 * (off.natAbs : Int) + bw ≤ 19200000 && 1558000000 ≤ c - bw && c + bw ≤ 1920000000
    && !(List.range 128).any (fun m => m != n && s.laneState m != 0 && s.lanePort m == s.lanePort n && s.lanePt m == s.lanePt n
          && s.laneOffset m == off)

/-! ## Contexts at the lane -/

/-- Contexts held (R228). -/
def State.ctxInUse (s : State) : Nat := s.frm.ctxs.length

/-- Release a context (R15). -/
def State.ctxFree (s : State) (c : Nat) : State := s.onFrm fun f => { f with ctxs := Tab.del f.ctxs c, freed := f.freed ++ [c] }

def State.setCtx (s : State) (c : Nat) (x : Ctx) : State := s.onFrm fun f => { f with ctxs := Tab.put f.ctxs c x }

/-- A free context, the lowest number, of the pool as it stood at the start of the cycle; none while an entry to a lower state stops
allocation (R55, R185). -/
def State.ctxPick (s : State) : Option Nat :=
  if s.pwr.entry.isSome then none else leastBelow (fun c => (Tab.find s.frm.ctxs c).isNone && !s.frm.freed.contains c) 1024

/-- Allocate a context for a lane: the peak and the event at 1,024 (R185, R228, R364). -/
def State.ctxTake (s : State) (c : Nat) (x : Ctx) : State :=
  let s1 := s.setCtx c x
  let n := s1.ctxInUse
  let s2 := if n > s1.fld F.FRM_STAT_CTX_PEAK then s1.setFld F.FRM_STAT_CTX_PEAK n else s1
  let s3 := (s2.onErr fun e => { e with tel := { e.tel with ctxPeak := max e.tel.ctxPeak n } }).onFrm fun f =>
    { f with peakWas := some (f.peakWas.getD s.err.tel.ctxPeak) }
  if n = 1024 then s3.publish 196 else s3

/-! ## Lane states -/

def State.setLane (s : State) (n st : Nat) : State := s.setFld F.LANE_STAT_STATE st n

def State.dropWindow (s : State) (n : Nat) : State := s.onRf fun r => { r with windows := r.windows.filter (· != n) }

/-- A lane goes to OFF: its units are free again (R165, R190). -/
def State.laneOff (s : State) (n : Nat) : State :=
  let s1 := (((s.setLane n 0).setFld F.LANE_STAT_DISABLING 0 n).setFld F.LANE_STAT_UNITS 0 n).setFld F.LANE_CTRL_EN 0 n
  (s1.setFld F.LANE_STAT_CAL_DUE 0 n).onRf fun r =>
    { r with windows := r.windows.filter (· != n), calibrated := r.calibrated.filter (· != n) }

/-- A lane counts a frame as cut (LANE_n_STAT, LANE_n_CNT_CUT). -/
def State.cutCount (s : State) (n : Nat) : State := (s.setFld F.LANE_STAT_CUT 1 n).bumpWrap F.LANE_CNT_CUT_COUNT n

/-- A frame in progress on a lane is cut (R186): CUT, its counter, and its context released. -/
def State.laneCut (n : Nat) (s : State) : State :=
  match Tab.find s.rf.frames n with
  | none => s
  | some f =>
    (((s.cutCount n).ctxFree f.ctx).onRf fun r => { r with frames := Tab.del r.frames n })

/-- The decided bits that a lane keeps, and how many of the latest its correlator has not tested (R174, R176). -/
def State.setHist (s : State) (n : Nat) (l : List Bool) (open_ : Nat) : State :=
  s.onRf fun r => { r with hist := Tab.putD r.hist n [] (last256 l), unsearched := Tab.putD r.unsearched n 0 (min open_ (last256 l).length) }

/-- Enter SEARCH with an empty history: a pending EN 0 takes effect, or a held offset is applied (R177, R190). -/
def State.laneSearch (s : State) (n : Nat) : State :=
  let s1 := s.setHist n [] 0
  if s.flag F.LANE_STAT_DISABLING n then s1.laneOff n
  else (s1.boundary .LANE_OFFSET n).setLane n 3

/-- After a frame-end event a forced calibration comes first (R177, R189, R190). -/
def State.laneNext (s : State) (n : Nat) : State := if s.flag F.LANE_STAT_CAL_DUE n then s.setLane n 2 else s.laneSearch n

/-- Where a lane goes when it may run: CALIBRATE, BLANKED or HOLD (R177). A lane in HOLD whose port is blanked as RUN takes effect is
BLANKED like every lane of the port (R187; DESIGN CHOICE, log entry 205). -/
def State.laneStart (s : State) (n : Nat) : State :=
  let p := s.lanePort n
  s.setLane n (if s.bankRuns && s.rxReady p then 2 else if s.bankRuns && s.blanked p then 6 else 1)

/-- Clear what EN clears when it rises (LANE_n_LAST, the counters). -/
def State.laneClear (s : State) (n : Nat) : State :=
  let s1 := (s.setReg .LANE_LAST n 0).setReg .LANE_CNT_SYNC n 0
  ((s1.setReg .LANE_CNT_HDRERR n 0).setReg .LANE_CNT_CTXMISS n 0).setReg .LANE_CNT_CUT n 0 |>.setReg .LANE_CNT_FRAMES n 0

/-- Why an enabling of lane n is refused (R163): 0 not at all, 1 units alone, 2 anything else. -/
def State.laneRefusal (s : State) (n : Nat) : Nat :=
  let k := s.lanePt n
  if !(s.ptValid k && s.portEnabled (s.lanePort n) && s.placed n (s.laneOffset n)) then 2
  else if s.unitsHeld + s.ptCost k > 128 then 1 else 0

/-- EN written 1 (R163, R177). While EN 0 waits for the end of a frame, EN 1 takes its place (R12). -/
def State.laneEnable (s : State) (n : Nat) : State :=
  if s.laneState n ≠ 0 then (s.setFld F.LANE_CTRL_EN 1 n).setFld F.LANE_STAT_DISABLING 0 n
  else match s.laneRefusal n with
    | 0 => ((((s.setFld F.LANE_CTRL_EN 1 n).laneClear n).setFld F.LANE_STAT_UNITS (s.ptCost (s.lanePt n)) n).laneStart n)
    | 1 => s.setFld F.LANE_BANK_STAT_BUDGET_ERR 1
    | _ => s.setFld F.LANE_STAT_PLACE_ERR 1 n

/-- EN written 0 (R190). -/
def State.laneDisable (s : State) (n : Nat) : State :=
  if s.laneState n = 4 ∨ s.laneState n = 5 then (s.setFld F.LANE_CTRL_EN 0 n).setFld F.LANE_STAT_DISABLING 1 n
  else if s.laneState n = 0 then s else s.laneOff n

/-- KILL (R190). -/
def State.laneKill (s : State) (n : Nat) : State := if s.laneState n = 0 then s else (s.laneCut n).laneOff n

/-- A write of LANE_n_CTRL: KILL, else EN. -/
def State.laneCtrlWrite (s : State) (n : Nat) (w : Word) : State :=
  if bit w.toNat 1 then s.laneKill n else if bit w.toNat 0 then s.laneEnable n else s.laneDisable n

/-- A write of LANE_n_OFFSET (R190). -/
def State.laneOffsetWrite (s : State) (n : Nat) (w : Word) : State :=
  let st := s.laneState n
  if st ≠ 0 ∧ !s.placed n w.toInt then s.setFld F.LANE_STAT_PLACE_ERR 1 n
  else
    let s1 := s.regStore .LANE_OFFSET n false w
    if st = 0 ∨ st = 1 ∨ st = 3 then (s1.boundary .LANE_OFFSET n).setHist n [] 0 else s1

/-- The bank stops: every lane goes to HOLD, frames in progress are cut (R179). -/
def State.bankStop (s : State) : State :=
  let s1 := (s.setFld F.LANE_BANK_CTRL_RUN 0).setFld F.LANE_BANK_STAT_RUNNING 0
  foldOver (fun n t => if t.laneState n = 0 then t
    else if t.flag F.LANE_STAT_DISABLING n then (t.laneCut n).laneOff n
    else ((t.laneCut n).dropWindow n).setLane n 1) (List.range 128) s1

/-- The bank runs: lanes in HOLD go on (R177, R178). -/
def State.bankGo (s : State) : State :=
  let s1 := (s.setFld F.LANE_BANK_CTRL_RUN 1).setFld F.LANE_BANK_STAT_RUNNING 1
  foldOver (fun n t => if t.laneState n = 1 then t.laneStart n else t) (List.range 128) s1

/-- A write of LANE_BANK_CTRL (R179): RUN 0 also ends a run that waits for PLL0 (R94, R190). In Roadside the lanes stay stopped (R123). -/
def State.bankWrite (s : State) (w : Word) : State :=
  if bit w.toNat 0 then
    if s.flag F.SYSCTL_LMSTAT_ARMED && s.onPll && !s.inRoadside then (if s.bankRuns then s else s.bankGo) else s.setFld F.LANE_BANK_STAT_START_ERR 1
  else if s.bankRuns then s.bankStop else s.onRf fun r => { r with runAgain := false }

/-! ## Blanking and readiness -/

/-- A field as the cycle found it. -/
def State.fldWas (s : State) (f : Fld) (n : Nat) : Nat := ({ s with regs := s.was } : State).fld f n

/-- The peaks of the context pool without a context that this cycle's blanking takes back (R190). -/
def State.peakUndo (s : State) : State :=
  let n := s.ctxInUse
  let s1 := if n < 1024 then s.unpublish 196 else s
  (s1.setFld F.FRM_STAT_CTX_PEAK (max (s.fldWas F.FRM_STAT_CTX_PEAK 0) n)).onErr fun e =>
    { e with tel := { e.tel with ctxPeak := max (s.frm.peakWas.getD e.tel.ctxPeak) n } }

/-- Blanking wins over a sync-found event of the same cycle (R190, row 1): no context is allocated, none is missed, and the frame counts
as cut. -/
def State.syncUndo (n : Nat) (s : State) : State :=
  if s.frm.granted.contains n then
    match Tab.find s.rf.frames n with
    | none => s
    | some f => (((s.onFrm fun r => { r with ctxs := Tab.del r.ctxs f.ctx, granted := r.granted.filter (· != n) }).onRf fun r =>
        { r with frames := Tab.del r.frames n }).unpublish (252 + n)).peakUndo.cutCount n
  else if s.fld F.LANE_CNT_CTXMISS_COUNT n ≠ s.fldWas F.LANE_CNT_CTXMISS_COUNT n ∧ s.laneState n = 3 then
    ((((s.setFld F.LANE_CNT_CTXMISS_COUNT (s.fldWas F.LANE_CNT_CTXMISS_COUNT n) n).setFld F.LANE_STAT_CTX_MISS
      (s.fldWas F.LANE_STAT_CTX_MISS n) n).setFld F.LANE_BANK_CTXMISS_COUNT (s.fld F.LANE_BANK_CTXMISS_COUNT + 2 ^ 32 - 1)).onErr fun e =>
      { e with tel := { e.tel with ctxMiss := e.tel.ctxMiss - 1 } }).cutCount n
  else s

/-- Blanking of a port begins (R187): frames are cut and its lanes are BLANKED; while the bank stands still its lanes stay in HOLD. A frame
whose sync word was found in this very cycle has taken no context (R190), and the peak does not show it. -/
def State.blank (s : State) (p : Nat) : State :=
  let s1 := ((s.setFld F.RF_STAT_BLANKED 1 p).setFld F.RF_STAT_RX_READY 0 p).publish (184 + 2 * p)
  foldOver (fun n t => if t.laneState n = 0 ∨ (t.laneState n = 1 ∧ !t.bankRuns) then t
    else if t.flag F.LANE_STAT_DISABLING n then (t.laneCut n).laneOff n
    else ((t.laneCut n).dropWindow n).setLane n 6) (s.lanesOf p) (foldOver State.syncUndo (s.lanesOf p) s1)

/-- RX_READY rises: blanking ends; lanes leave HOLD or BLANKED (R159, R177). -/
def State.rxRise (s : State) (p : Nat) : State :=
  let s1 := ((s.setFld F.RF_STAT_BLANKED 0 p).setFld F.RF_STAT_RX_READY 1 p).publish (185 + 2 * p)
  foldOver (fun n t =>
    if t.laneState n = 6 then (if t.rf.calibrated.contains n then t.laneSearch n else t.setLane n 2)
    else if t.laneState n = 1 && t.bankRuns then t.setLane n 2 else t) (s.lanesOf p) s1

/-- The synthesiser of a port begins a move to RFx_LO (R159). -/
def State.synToLo (s : State) (p : Nat) : State :=
  (s.setFld F.RF_SYNSTAT_SYN_STATE 1 p).onRf fun r => { r with toLo := if r.toLo.contains p then r.toLo else r.toLo ++ [p] }

/-- CLK_SMP and the synthesiser of a port stop with PLL0: RX_READY falls (R36, R159). -/
def State.rxStop (p : Nat) (s : State) : State :=
  if !s.portEnabled p then s
  else ((s.setFld F.RF_STAT_RX_READY 0 p).setFld F.RF_SYNSTAT_SYN_STATE 3 p).onRf fun r =>
    { r with toLo := r.toLo.filter (· != p), recal := r.recal.filter (· != p) }

/-! ## Attenuation -/

/-- Frames in progress on a port carry GAIN_STEP (R160). -/
def State.gainStep (s : State) (p : Nat) : State :=
  s.onRf fun r => { r with frames := r.frames.map fun e => if s.lanePort e.1 = p then (e.1, { e.2 with gainStep := true }) else e }

/-- Set the step in use. -/
def State.setAtten (s : State) (p v : Nat) : State :=
  if s.fld F.RF_STAT_ATTEN_CUR p = v then s else (s.setFld F.RF_STAT_ATTEN_CUR v p).gainStep p

/-- The level of a port: whether a sample has reached full scale, and whether the level has been above -6 dBFS for 2 us with no rise in
the last 10 us (R160). -/
def State.attenUp (s : State) (p : Nat) (clip high : Bool) : State :=
  let s1 := if clip then s.setFld F.RF_STAT_CLIP 1 p else s
  if high && s1.portEnabled p && s1.flag F.RF_CTRL_AGC p && s1.fld F.RF_STAT_ATTEN_CUR p < 7 then
    s1.setAtten p (s1.fld F.RF_STAT_ATTEN_CUR p + 1) else s1

/-- The level has been low for 10 ms (R160). -/
def State.attenDown (s : State) (p : Nat) : State :=
  if s.portEnabled p && s.flag F.RF_CTRL_AGC p && !s.portBusy p && 0 < s.fld F.RF_STAT_ATTEN_CUR p then
    s.setAtten p (s.fld F.RF_STAT_ATTEN_CUR p - 1) else s

/-! ## Frames at the lane -/

/-- Ticks of network time in n bits at a rate, rounded down. -/
def bitTicks (n rate : Nat) : Nat := n * 100000000 / rate

/-- The squelch in force in quarter dBm; none when off. -/
def State.squelch (s : State) (k : Nat) : Option Int :=
  let v := s.fld F.LANE_PT_RX_SQUELCH k
  if v = 0x80 then none else some (4 * sgn 8 v)

/-- The tolerated bit errors: a value above 4 acts as 4 (R174). -/
def State.syncTol (s : State) (k : Nat) : Nat := min 4 (s.fld F.LANE_PT_SYNC_SYNC_ERR k)

/-- Whether a match counts: few enough bits differ, and the channel is above the squelch (R174). -/
def State.matches (s : State) (k errs : Nat) (rssi : BitVec 16) : Bool :=
  errs ≤ s.syncTol k && match s.squelch k with
  | none => true
  | some q => decide (q ≤ rssi.toInt)

/-- The RSSI correction in force on a port, in quarter dB: factory value and user offset, within the range of the offset's field (R128,
R189). -/
def State.rssiCal (s : State) (p : Nat) : Int := clampInt (-128) 127 (s.otp.cal.rssi.getD p 0 + sgn 8 (s.fld F.RF_CALOFS_RSSI_OFS p))

/-- The IQ gain and phase corrections in force on a port, in 0.01 dB and 0.01 degree (R128, R189). -/
def State.iqGainCal (s : State) (p : Nat) : Int := clampInt (-128) 127 (s.otp.cal.iqGain.getD p 0 + sgn 8 (s.fld F.RF_CALOFS_IQG_OFS p))
def State.iqPhaseCal (s : State) (p : Nat) : Int := clampInt (-128) 127 (s.otp.cal.iqPhase.getD p 0 + sgn 8 (s.fld F.RF_CALOFS_IQP_OFS p))

/-- RSSI as a port reports it: the level as measured with the correction, from -135 dBm to -20 dBm (R183, R189). -/
def State.rssiOf (s : State) (p : Nat) (level : BitVec 16) : BitVec 16 := BitVec.ofInt 16 (clampInt (-540) (-80) (level.toInt + s.rssiCal p))

/-- The lane that gives up the context it took in this cycle to a lower-numbered one (R185). -/
def State.ctxYielder (s : State) (n : Nat) : Option Nat :=
  (s.frm.granted.filter fun m => decide (n < m) && (Tab.find s.rf.frames m).isSome).foldl (fun b m => some (max m (b.getD 0))) none

/-- A match without a context (R185): the lane goes on searching. -/
def State.ctxMiss (s : State) (n : Nat) : State :=
  (((s.setFld F.LANE_STAT_CTX_MISS 1 n).bumpWrap F.LANE_CNT_CTXMISS_COUNT n).bumpWrap F.LANE_BANK_CTXMISS_COUNT).onErr
    fun e => { e with tel := { e.tel with ctxMiss := e.tel.ctxMiss + 1 } }

/-- A lane takes a context for the frame whose sync word it has found, and enters HEADER (R177, R185). -/
def State.laneTake (s : State) (n c errs : Nat) (rssi : BitVec 16) (fofs arrSec : Word) (arrTick : Nat) : State :=
  let f : LaneFrame := { ctx := c, arrSec, arrTick, errs, rssi := rssi.toNat, fofs }
  let x : Ctx := { lane := n, st := .arriving, info := f, port := s.lanePort n, freq := s.laneFreq n, profile := s.lanePt n }
  let s1 := (((s.ctxTake c x).onRf fun r => { r with frames := Tab.put r.frames n f }).setLane n 4).publish (252 + n)
  (s1.onFrm fun r => { r with granted := r.granted ++ [n] }).onPwr fun p => { p with wurxSync := true }

/-- A lane loses the context it took in this cycle to a lower-numbered one, and has missed (R185). -/
def State.laneYield (s : State) (m : Nat) : State :=
  match Tab.find s.rf.frames m with
  | none => s
  | some f => ((((s.onFrm fun r => { r with ctxs := Tab.del r.ctxs f.ctx, granted := r.granted.filter (· != m) }).onRf fun r =>
      { r with frames := Tab.del r.frames m }).setLane m 3).ctxMiss m)

/-- A sync-found event (R174, R185): the lane takes a context and enters HEADER, or misses; of lanes that find theirs in one cycle the
lower-numbered ones are served first. -/
def State.syncFound (s : State) (n errs : Nat) (rssi : BitVec 16) (fofs arrSec : Word) (arrTick : Nat) : State :=
  let k := s.lanePt n
  if s.laneState n ≠ 3 ∨ !s.matches k errs rssi then s
  else
    let s1 := (s.dropWindow n).bumpWrap F.LANE_CNT_SYNC_COUNT n
    match s1.ctxPick with
    | some c => s1.laneTake n c errs rssi fofs arrSec arrTick
    | none => match s1.ctxYielder n with
      | none => s1.ctxMiss n
      | some m => (s1.laneYield m).laneTake n (((Tab.find s1.rf.frames m).map LaneFrame.ctx).getD 0) errs rssi fofs arrSec arrTick

/-- The sync word of a profile (R168). -/
def State.syncWord (s : State) (k : Nat) : List Bool := msbBits (s.fld F.LANE_PT_SYNC_SYNC_LEN k) (s.reg .LANE_PT_WORD k).toNat

/-- A lane in SEARCH decides further bits at a channel level (R174, R176): the correlator tests every bit not tested yet, and the first
match is a sync-found event, of which T_ARR and FOFS are as measured. A match in the cycle in which blanking began counts and is cut
(R190). -/
def State.syncHeard (s : State) (n : Nat) (new : List Bool) (level : BitVec 16) (fofs arrSec : Word) (arrTick : Nat) : State :=
  let k := s.lanePt n
  let rssi := s.rssiOf (s.lanePort n) level
  let h := last256 (Tab.getD s.rf.hist n [] ++ new)
  let found := syncScan (s.syncWord k) h (s.syncTol k) (min h.length (Tab.getD s.rf.unsearched n 0 + new.length))
  if s.laneState n = 3 then
    match found with
    | some (e, r) => if s.matches k e rssi then (s.setHist n h r).syncFound n e rssi fofs arrSec arrTick else s.setHist n h 0
    | none => s.setHist n h 0
  else if s.laneState n = 6 ∧ s.fldWas F.LANE_STAT_STATE n = 3 ∧ found.any (fun e => s.matches k e.1 rssi) then
    (s.bumpWrap F.LANE_CNT_SYNC_COUNT n).cutCount n
  else s

/-- Network time of an arrival, in ticks. -/
def LaneFrame.arrNt (f : LaneFrame) : Nat := f.arrSec.toNat * 100000000 + f.arrTick

/-- A header-end event (R173, R182). -/
def State.headerEnd (s : State) (n : Nat) (hdr : Half) : State :=
  match Tab.find s.rf.frames n with
  | none => s
  | some f =>
    if s.laneState n ≠ 4 then s
    else
      let k := s.lanePt n
      if s.hdrOk k hdr.toNat then
        let len := bits hdr.toNat 15 5
        let coded := bit hdr.toNat 4
        let f1 := { f with length := len, coded, endNt := f.arrNt + bitTicks (s.hdrBits k + payBits coded len) (s.ptGross k) }
        (s.onRf fun r => { r with frames := Tab.put r.frames n f1 }).setLane n 5
      else
        (((s.bumpWrap F.LANE_CNT_HDRERR_COUNT n).ctxFree f.ctx).onRf fun r => { r with frames := Tab.del r.frames n }).laneSearch n

/-- A header-end event with the soft values of the header's bits on air (R170, R172, R173, R176): the repeats are summed, the header is
decoded; after a rejected one the search goes on with the bits behind the matched sync word. -/
def State.headerSoft (s : State) (n : Nat) (soft : List Soft) : State :=
  let k := s.lanePt n
  let t := s.headerEnd n (BitVec.ofNat 16 (softHeader (s.flag F.LANE_PT_MOD_HDR_CODED k) (s.hdrRep k) soft))
  if s.laneState n = 4 ∧ t.laneState n = 3 then
    let h := Tab.getD s.rf.hist n []
    let b := ((softNats soft).take (s.hdrBits k)).map softBit
    t.setHist n (h.take (h.length - Tab.getD s.rf.unsearched n 0) ++ b) b.length
  else t

/-- Whether the airtime of the other port overlaps a frame (R188). -/
def State.desensed (s : State) (n : Nat) (f : LaneFrame) : Bool :=
  let k := s.lanePt n
  let a := f.arrNt - bitTicks (s.fld F.LANE_PT_SYNC_SYNC_LEN k) (s.ptGross k)
  let p := 1 - s.lanePort n
  s.rf.airings.any (fun e => e.1 == p && e.2.1 ≤ f.endNt && a ≤ e.2.2) ||
  match Tab.find s.txp.exc p with
  | some x => (match x.phase with
    | .up _ => decide (x.airStart ≤ f.endNt)
    | .data => decide (x.airStart ≤ f.endNt)
    | .down _ => decide (x.airStart ≤ f.endNt)
    | _ => false)
  | none => false

/-- LANE_n_LAST and LANE_n_FOFS of a delivered frame (R183). -/
def State.laneLast (s : State) (n : Nat) (f : LaneFrame) (quality : Nat) : State :=
  let v := 0x80000000 + b2n f.gainStep * 0x40000000 + b2n f.desense * 0x20000000 + b2n f.coded * 0x10000000
    + f.errs * 0x1000000 + quality * 65536 + f.rssi
  ((s.setReg .LANE_LAST n (BitVec.ofNat 32 v)).setReg .LANE_FOFS n f.fofs).bumpWrap F.LANE_CNT_FRAMES_COUNT n

/-- The lane's part of a frame-end event: its report, and its next state (R177, R181, R183, R189). -/
def State.laneFrameEnd (s : State) (n : Nat) (f : LaneFrame) (quality : Nat) : State :=
  (((s.laneLast n f quality).onRf fun r => { r with frames := Tab.del r.frames n }).publish (56 + n)).laneNext n

/-! ## Calibration -/

/-- A calibration of a lane completes (R189). -/
def State.calDone (s : State) (n imageRej : Nat) : State :=
  ((s.setFld F.LANE_CAL_IMAGE_REJ imageRej n).setFld F.LANE_STAT_CAL_DUE 0 n).onRf fun r =>
    { r with calAt := Tab.put r.calAt n s.cyc, windows := r.windows.filter (· != n) }

/-- A measurement window opens on a lane in SEARCH (R189). -/
def State.calWindow (s : State) (n : Nat) : State :=
  if s.laneState n ≠ 3 then s
  else (s.boundary .LANE_BANK_CALCFG).onRf fun r =>
    { r with windows := if r.windows.contains n then r.windows else r.windows ++ [n],
             calMaxOf := Tab.put r.calMaxOf n (s.fld F.LANE_BANK_CALCFG_CAL_MAX) }

/-- A window has been measured (R189): a channel level above -90 dBm during it discards it. -/
def State.calWindowDone (s : State) (n imageRej : Nat) (level : BitVec 16) : State :=
  if !s.rf.windows.contains n then s else if level.toInt > -360 then s.dropWindow n else s.calDone n imageRej

/-- The longest time of a lane without a calibration in seconds, as it acts: the value the lane's last window took, 0 as 1, above 10
as 10 (LANE_BANK_CALCFG). -/
def State.calMax (s : State) (n : Nat) : Nat := max 1 (min 10 (Tab.getD s.rf.calMaxOf n s.rf.calMaxBase))

/-- The end of CALIBRATE (R177). -/
def State.calibrateEnd (s : State) (n imageRej : Nat) : State :=
  if s.laneState n ≠ 2 then s
  else ((s.calDone n imageRej).onRf fun r => { r with calibrated := if r.calibrated.contains n then r.calibrated else r.calibrated ++ [n] }).laneSearch n

/-- No window has completed for so many seconds (R189): from CAL_MAX on a calibration is due. -/
def State.calDue (s : State) (n secs : Nat) : State :=
  if s.laneState n = 0 ∨ secs < s.calMax n then s
  else
    let s1 := s.setFld F.LANE_STAT_CAL_DUE 1 n
    if s.laneState n = 3 then (s1.dropWindow n).setLane n 2 else s1

/-- CAL_AGE: the time since the last completed calibration in 10 ms units, saturating. -/
def State.calAge (s : State) (n : Nat) : Nat :=
  match Tab.find s.rf.calAt n with
  | none => 0
  | some c => min 0xFFFF ((s.cyc - c) / 1000000)

end Sys2Proof.Machine
end

