-- ==== Sys2Proof/Machine/TxpOps.lean ====
section
/-! DEFINITION. The transmit path, synthesisers, front-end sequencing, region check and airtime ledger (R191 to R218). -/

namespace Sys2Proof.Machine

/-! ## Regions and ledger -/

/-- Word w of sub-band k. -/
def State.rgn (s : State) (k w : Nat) : Nat := (s.reg .TXP_RGN (k * 4 + w)).toNat

def State.rgnDuty (s : State) (k : Nat) : Nat := bits (s.rgn k 1) 13 0
def State.rgnLow (s : State) (k : Nat) : Nat := bits (s.rgn k 0) 12 0
def State.rgnHigh (s : State) (k : Nat) : Nat := bits (s.rgn k 0) 28 16

/-- Whether a descriptor is valid and not malformed (R208, R533). -/
def State.rgnValid (s : State) (k : Nat) : Bool :=
  bit (s.rgn k 0) 31 && s.rgnLow k < s.rgnHigh k && s.rgnHigh k ≤ 7240 && s.rgnLow k ≤ 7239 && s.rgnDuty k ≤ 10000

/-- Sixteen times a frequency in Hz, at 25 kHz steps of a sixteenth from 779 MHz. -/
def rgnEdge (sixteenths : Nat) : Nat := 16 * 779000000 + 25000 * sixteenths

/-- The first valid sub-band that wholly contains a channel of a centre and bandwidth (R209). Sixteen times the edges are
compared, so that every segment edge is whole. -/
def State.subBand (s : State) (freq bw : Nat) : Option Nat :=
  leastBelow (fun k => s.rgnValid k && rgnEdge (16 * s.rgnLow k) ≤ 16 * freq - 8 * bw
    && 16 * freq + 8 * bw ≤ rgnEdge (16 * s.rgnHigh k)) 8

/-- Whether every segment that a channel touches is permitted (R209). -/
def State.segmentsOk (s : State) (k freq bw : Nat) : Bool :=
  let w := s.rgnHigh k - s.rgnLow k
  (List.range 16).all fun i =>
    let lo := rgnEdge (16 * s.rgnLow k + i * w)
    let hi := rgnEdge (16 * s.rgnLow k + (i + 1) * w)
    !(16 * freq - 8 * bw < hi && lo < 16 * freq + 8 * bw) || bit (s.rgn k 1) (16 + i)

/-- The capacity of a ledger in 0.1 us units (R211). A WINDOW of 61 to 63 counts as it is written (DESIGN CHOICE, log entry 209). -/
def State.ledgerCap (s : State) (k : Nat) : Nat :=
  let w := bits (s.rgn k 2) 5 0
  s.rgnDuty k * (if w = 0 then 60 else w) * 60000

def State.ledger (s : State) (k : Nat) : Nat := Tab.getD s.txp.ledger k 0

def State.setLedger (s : State) (k v : Nat) : State :=
  s.onTxp fun t => { t with ledger := Tab.putD t.ledger k 0 (min v (s.ledgerCap k)) }

/-- A balance above the capacity in force is cut to it (R211). -/
def State.ledgerClamp (k : Nat) (s : State) : State := s.setLedger k (s.ledger k)

/-- A 1 ms boundary: every ledger grows by its DUTY (R211). -/
def State.ledgerRefill (s : State) : State :=
  if !s.onPll then s else foldOver (fun k t => t.setLedger k (t.ledger k + t.rgnDuty k)) (List.range 8) s

/-- A write of a descriptor word (R210, R211): read-only once REGION_LOCK is blown. -/
def State.rgnWrite (s : State) (n : Nat) (w : Word) : State :=
  if s.regionLocked then s.setWlock .TXP_RGN 0
  else
    let s1 := s.setReg .TXP_RGN n w
    s1.ledgerClamp (n / 4)

/-! ## Lengths and times -/

/-- UP_LEN and DN_LEN as they act. -/
def State.upLen (s : State) (p : Nat) : Nat := max 1 (s.fld F.TXP_FEMCFG_UP_LEN p)
def State.dnLen (s : State) (p : Nat) : Nat := max 1 (s.fld F.TXP_FEMCFG_DN_LEN p)

/-- The delay of a step in ticks. -/
def State.stepTicks (s : State) (p k : Nat) : Nat := max 1 (s.fld F.TXP_FEMSEQ_STEP_DELAY (p * 8 + k))

/-- UP and DN in ticks (R198). -/
def State.upTicks (s : State) (p : Nat) : Nat := (List.range (s.upLen p)).foldl (fun a k => a + s.stepTicks p k) 0
def State.dnTicks (s : State) (p : Nat) : Nat :=
  (List.range (s.dnLen p)).foldl (fun a k => a + s.stepTicks p (s.upLen p + k)) 0

/-- Preamble symbols of a PRE code (R191). -/
def preSymbols (pre rate : Nat) : Nat :=
  if bit pre 7 then ((pre % 128 + 1) * rate + 1999) / 2000 else 32 + 8 * (pre % 128)

/-- Bits of a packet from the first preamble symbol to the last data bit (R192). -/
def State.packetBits (s : State) (e : TxEntry) : Nat :=
  preSymbols e.pre (s.ptRate e.profile) * s.ptBits e.profile + s.fld F.LANE_PT_SYNC_SYNC_LEN e.profile + s.hdrBits e.profile
    + payBits e.coded e.length

/-- Wake patterns of an entry. -/
def TxEntry.repeats (e : TxEntry) : Nat :=
  match e.body with
  | .wake _ _ r => r
  | _ => 0

/-- The planned airtime UP + packet + DN in 0.1 us units, rounded up (R212, R215). -/
def State.airUnits (s : State) (e : TxEntry) : Nat :=
  let ramps := s.upTicks e.port + s.dnTicks e.port
  if e.cls = 3 then (ramps + 900000 * e.repeats + 9) / 10
  else
    let g := s.ptGross e.profile
    (ramps * g + s.packetBits e * 100000000 + 10 * g - 1) / (10 * g)

/-- The bandwidth a transmission occupies in Hz (R192). -/
def State.txBw (s : State) (e : TxEntry) : Nat := if e.cls = 3 then 100000 else s.ptBw e.profile

/-- The sub-band of an entry. -/
def State.txBand (s : State) (e : TxEntry) : Option Nat := s.subBand e.freq (s.txBw e)

/-- The region check (R209). -/
def State.regionOk (s : State) (e : TxEntry) : Bool :=
  match s.txBand e with
  | none => false
  | some k => 0 < s.rgnDuty k && s.segmentsOk k e.freq (s.txBw e)
      && (bits (s.rgn k 3) 15 0 == 0 || s.airUnits e ≤ bits (s.rgn k 3) 15 0 * 1000)

/-- The words of the sub-band of an entry, as a launch takes them along (R210). -/
def State.bandWords (s : State) (e : TxEntry) : List Nat := (s.txBand e).elim [] fun k => (List.range 4).map (s.rgn k)

/-- LBT_TIME in ticks and LBT_THR in quarter dBm of a launch (R203, R210). -/
def Excursion.lbtTicks (x : Excursion) : Nat := bits (x.band.getD 3 0) 31 24 * 5000
def Excursion.lbtThr (x : Excursion) : Int := 4 * sgn 8 (bits (x.band.getD 3 0) 23 16)

/-- LBT_TIME of an entry in ticks (R203). -/
def State.lbtTicks (s : State) (e : TxEntry) : Nat :=
  match s.txBand e with
  | none => 0
  | some k => bits (s.rgn k 3) 31 24 * 5000

/-! ## Synthesiser tables -/

/-- The table entry of a frequency on a port (R196). -/
def State.synFind (s : State) (p freq : Nat) : Option (Nat × SynEntry) :=
  s.rf.synTab.find? fun e => e.1 / 256 == p && e.2.freq == freq

/-- Whether the table holds an entry fresh enough for a stored-table move (R195). -/
def State.synFresh (s : State) (p freq : Nat) : Bool :=
  match s.synFind p freq with
  | some (_, e) => (e.temp - s.rf.temp).natAbs ≤ 5
  | none => false

/-- The place of a new entry: its old one, a free one, or the least recently used (R196). -/
def State.synSlot (s : State) (p freq : Nat) : Nat :=
  match s.synFind p freq with
  | some (k, _) => k
  | none => match leastBelow (fun i => (Tab.find s.rf.synTab (p * 256 + i)).isNone) 256 with
    | some i => p * 256 + i
    | none => ((s.rf.synTab.filter fun e => e.1 / 256 == p).foldl (fun best e =>
        if e.2.used < best.2.used then e else best) (p * 256, ⟨0, 0, 0, s.txp.nextOrder⟩)).1

/-- A calibrating move to a transmit frequency writes its entry (R196). -/
def State.synStore (s : State) (p freq : Nat) : State :=
  if !s.flag F.RF_SYNCFG_STORE p then s
  else (s.onRf fun r => { r with synTab := Tab.put r.synTab (s.synSlot p freq) ⟨freq, r.temp, s.cyc, s.txp.nextOrder⟩ }).onTxp
    fun t => { t with nextOrder := t.nextOrder + 1 }

/-- A stored-table move uses its entry. -/
def State.synUse (s : State) (p freq : Nat) : State :=
  match s.synFind p freq with
  | none => s
  | some (k, e) => (s.onRf fun r => { r with synTab := Tab.put r.synTab k { e with used := s.txp.nextOrder } }).onTxp
      fun t => { t with nextOrder := t.nextOrder + 1 }

/-- RFx_SYNCFG.CLEAR (R196). -/
def State.synClear (s : State) (p : Nat) : State :=
  s.onRf fun r => { r with synTab := Tab.keep r.synTab fun k _ => decide (k / 256 ≠ p) }

def State.synCount (s : State) (p : Nat) : Nat := (s.rf.synTab.filter fun e => e.1 / 256 == p).length

/-- Whether a descriptor's FAST acts (R195). -/
def State.fastActs (s : State) (e : TxEntry) : Bool := e.fast && (s.rf.role == 2 || e.cls == 2)

/-- The move of an entry uses the table (R195). -/
def State.storedMove (s : State) (e : TxEntry) : Bool := s.fastActs e && s.synFresh e.port e.freq

/-- Ticks from the launch point to T_S (R198). -/
def State.leadTicks (s : State) (e : TxEntry) : Nat :=
  (if s.storedMove e then 1200 else 6000) + 400 + s.lbtTicks e + s.upTicks e.port

/-! ## Results -/

/-- The word of TXP_RESULT (R218). -/
def resultWord (refused : Bool) (code tag late : Nat) : Word :=
  BitVec.ofNat 32 (0x80000000 + b2n refused * 0x40000000 + code * 0x1000000 + tag * 65536 + min late 0xFFFF)

/-- Put a result into TXP_RESULT, of whose 64 the oldest is lost (R218, R364). -/
def State.pushResult (s : State) (w nt : Word) : State :=
  (s.onTxp fun t =>
    let l := t.results ++ [(w, nt)]
    { t with results := if l.length > 64 then l.drop (l.length - 64) else l }).publish 192

/-- A_SEC and A_TICK of a network time (TXP_RESULT_NT). -/
def ntWord (t : Nat) : Word := BitVec.ofNat 32 (t / 100000000 % 32 * 134217728 + t % 100000000)

/-- The end of a descriptor: its slot is free, its result goes to TXP_RESULT, unless it is a scheduled one, and to its requester
(R194, R218, R324). -/
def State.txPost (s : State) (e : TxEntry) (code late airStart : Nat) : State :=
  let s1 := s.onTxp fun t => { t with timed := t.timed.filter (fun x => x.tag != e.tag || x.order != e.order),
                                      done := t.done ++ [⟨e, code, late, airStart⟩] }
  match e.use with
  | .sched _ => if code = 0 then s1 else s1.onSched fun d => { d with again := true }
  | _ => (s1.onSched fun d => { d with again := true }).pushResult (resultWord false code e.tag late) (ntWord airStart)

/-! ## Submission -/

/-- Whether TXP is stopped (R36, R529). -/
def State.txpStopped (s : State) : Bool := !(s.sysOn && s.onPll)

/-- Whether n bytes from an address lie in system SRAM, journal SRAM or visible DRAM. -/
def State.inFrameMem (s : State) (a n : Nat) : Bool :=
  (0x20000000 ≤ a && a + n ≤ 0x20440000) || (dramBase ≤ a && a + n ≤ dramBase + s.dramSize)

/-- T_S of a descriptor: the instant within 16 s of now that its second modulo 32 and tick name; the later one of two (R191). -/
def startOf (now sec32 tick : Nat) : Nat :=
  let d : Int := ((sec32 : Int) - (now / 100000000 : Nat)) % 32
  let t : Int := ((now / 100000000 : Nat) + d) * 100000000 + tick
  (if t > (now : Int) + 1600000000 then t - 3200000000 else t).toNat

/-- A descriptor as an entry for a user (R191, R193): an acknowledgement is a hard start without LATE_OK and FAST. -/
def State.txEntry (s : State) (use : TxUse) (w0 w1 w2 w3 : Word) : TxEntry :=
  let d := w3.toNat
  let cls := bits d 22 20
  let t := startOf s.nt (bits w1.toNat 31 27) (bits w1.toNat 26 0)
  { tag := 0, order := s.txp.nextOrder, use, freq := w0.toNat, start := t, asked := t, planned := false,
    body := if cls = 3 then .wake (bits w2.toNat 15 0) (bits w2.toNat 23 16) (bits w2.toNat 27 24 + 1) else .buffer w2.toNat,
    pre := bits d 31 24, cls, fast := bit d 19 && cls != 0, lateOk := bit d 18 && cls != 0, hard := bit d 17 || cls == 0,
    port := bits d 16 16, profile := bits d 15 12, coded := bit d 11, length := bits d 10 0,
    committed := false, tries := 0, waiting := false, ack := none }

/-- Whether every field of a descriptor lies in its range (R191, R194). -/
def State.txFieldsOk (s : State) (w0 w1 w2 w3 : Word) : Bool :=
  loOk w0.toNat && bits w1.toNat 26 0 ≤ 99999999 && !bit w3.toNat 23 &&
  (if bits w3.toNat 22 20 = 3 then bits w2.toNat 31 28 == 0
   else bits w3.toNat 22 20 ≤ 5 && w2.toNat % 4 == 0 && s.inFrameMem w2.toNat (bits w3.toNat 10 0))

/-- Whether a class is permitted from the source of an entry (R193). -/
def TxEntry.classOk (e : TxEntry) : Bool :=
  match e.use with
  | .milestone _ _ => e.cls ≤ 4
  | .sched _ => e.cls == 5
  | _ => 1 ≤ e.cls && e.cls ≤ 4

/-- The code that refuses an entry at submission, or none (R194); `fields` says whether its fields lie in range. Where several conditions
hold, INVALID comes before REGION and that before LIST_FULL (DESIGN CHOICE, log entry 208). -/
def State.txRefusal (s : State) (e : TxEntry) (fields : Bool) : Option Nat :=
  if !s.portEnabled e.port || s.inRoadside || s.txpStopped || !s.ptValid e.profile || !fields || !e.classOk
      || s.upLen e.port + s.dnLen e.port > 8 then some 7
  else if !s.regionOk e then some 3
  else if s.txp.timed.length ≥ 64 then some 6
  else none

/-- The lowest free slot of the timed list (R194). -/
def State.txSlot (s : State) : Nat := (leastBelow (fun k => !s.txp.timed.any fun e => e.tag == k) 64).getD 0

/-- Take an entry into the timed list under a tag (R194). -/
def State.txAccept (s : State) (e : TxEntry) : Nat × State :=
  let tag := s.txSlot
  (tag, (s.onTxp fun t => { t with timed := t.timed ++ [{ e with tag, order := t.nextOrder, planned := s.storedMove e }], nextOrder := t.nextOrder + 1 }).setFld
    F.TXP_STAT_LAST_TAG tag)

/-- Submit an entry (R194): the code that refuses it, or its tag. -/
def State.txSubmit (s : State) (e : TxEntry) (fields : Bool) : (Nat ⊕ Nat) × State :=
  match s.txRefusal e fields with
  | some c => (.inl c, s)
  | none => let (t, s1) := s.txAccept e
    (.inr t, s1)

/-- A submission of CL0 refused (R194): SUBMIT_ERR and one result with REFUSED. -/
def State.txRefused (s : State) (code : Nat) : State :=
  (s.setFld F.TXP_STAT_SUBMIT_ERR 1).pushResult (resultWord true code 0 0) 0

/-- A write of TXP_SUBMIT3 (R194). -/
def State.txWrite (s : State) (w3 : Word) : State :=
  let w0 := s.reg .TXP_SUBMIT 0
  let w1 := s.reg .TXP_SUBMIT 1
  let w2 := s.reg .TXP_SUBMIT 2
  match s.txSubmit (s.txEntry .cl0 w0 w1 w2 w3) (s.txFieldsOk w0 w1 w2 w3) with
  | (.inl c, s1) => s1.txRefused c
  | (.inr _, s1) => s1

/-- A read of TXP_RESULT (R218). -/
def State.txResultRead (s : State) : Word × State :=
  match s.txp.results with
  | [] => (0, s)
  | (w, nt) :: l => (w, (s.onTxp fun t => { t with results := l }).setReg .TXP_RESULT_NT 0 nt)

/-! ## Excursions -/

def State.exc (s : State) (p : Nat) : Option Excursion := Tab.find s.txp.exc p
def State.setExc (s : State) (p : Nat) (x : Excursion) : State := s.onTxp fun t => { t with exc := Tab.put t.exc p x }
def State.dropExc (s : State) (p : Nat) : State := s.onTxp fun t => { t with exc := Tab.del t.exc p }

/-- Whether an entry is on its excursion. -/
def State.launched (s : State) (e : TxEntry) : Bool :=
  s.txp.exc.any fun x => match x.2.entry with
    | some f => f.tag == e.tag && f.order == e.order
    | none => false

/-- Release the reservation of an excursion (R212). -/
def State.release (s : State) (x : Excursion) : State :=
  match x.reserved with
  | some (k, u) => s.setLedger k (s.ledger k + u)
  | none => s

/-- The synthesiser of a port returns to RFx_LO without or after an airing (R198). -/
def State.excBack (s : State) (p : Nat) : State :=
  (s.setExc p { entry := none, phase := .back }).synToLo p

/-- Whether a phase lies between A and the end of airtime. -/
def TxPhase.airing : TxPhase → Bool
  | .up _ => true
  | .data => true
  | .down _ => true
  | _ => false

/-- Front-end pins, PAVx and driver of a port: pins and PAVx at their safe level from a trip until the bus recovers (R64), all of them
off in Roadside (R63, R123). -/
def State.setPins (s : State) (p pins0 bias0 : Nat) (drv0 : Bool) : State :=
  let pins := if s.vinLow || s.inRoadside then 0 else pins0
  let bias := if s.vinLow || s.inRoadside then 0 else bias0
  let drv := drv0 && !s.inRoadside
  s.onTxp fun t => { t with pins := Tab.putD t.pins p 0 pins, bias := Tab.putD t.bias p 0 bias, driver := Tab.putD t.driver p false drv }

/-- The safe level (R64). -/
def State.pinsSafe (s : State) (p : Nat) : State := s.setPins p 0 0 false

/-- The level while receiving (R206). -/
def State.pinsRx (s : State) (p : Nat) : State :=
  if s.portEnabled p then s.setPins p (s.fld F.TXP_FEMCFG_RXPINS p) 0 false else s.pinsSafe p

/-- The pins of an enabled port show RXPINS again once it receives after a cut airing, but for a trip and Roadside (R64, R123, R206). -/
def State.pinsBack (s : State) (p : Nat) : State := if s.vinLow || s.inRoadside then s else s.pinsRx p

/-- A write of TXP_FEMCFG, which is locked while the port is in use: an idle port shows RXPINS at once (R206). -/
def State.femcfgWrite (s : State) (p : Nat) (running : Bool) (w : Word) : State :=
  let s1 := s.regStore .TXP_FEMCFG p running w
  if running then s1 else s1.pinsBack p

/-- A clamp sets CLAMP, which is published as it rises (R207, R364). -/
def State.clamped (s : State) : State :=
  if s.flag F.TXP_STAT_CLAMP then s else (s.setFld F.TXP_STAT_CLAMP 1).publish 382

/-- Apply a step of the front-end table within the limits of the sub-band as the launch took them along (R206, R207, R210). -/
def State.femStep (s : State) (p k : Nat) (x : Excursion) : State :=
  let n := p * 8 + k
  let pins := s.fld F.TXP_FEMSEQ_STEP_PINS n
  let bias := s.fld F.TXP_FEMSEQ_STEP_BIAS n
  let gmax := bits (x.band.getD 2 0) 10 8
  let bmax := bits (x.band.getD 2 0) 23 16
  let g := pins / 8
  let s1 := s.setPins p (min g gmax * 8 + pins % 8) (min bias bmax) (s.flag F.TXP_FEMSEQ_STEP_DRV n)
  if g > gmax ∨ bias > bmax then s1.clamped else s1

/-! ## Conflicts -/

/-- The class order of R201: acknowledgement, Detour, downlink, wake pattern, host, scheduled. -/
def classRank (cls : Nat) : Nat := [0, 2, 1, 3, 4, 5].getD cls 6

/-- Whether entry e wins against entry f (R201). -/
def State.beats (s : State) (e f : TxEntry) : Bool :=
  let a := e.start - s.upTicks e.port
  let b := f.start - s.upTicks f.port
  if a ≠ b then a < b
  else if classRank e.cls ≠ classRank f.cls then classRank e.cls < classRank f.cls
  else match e.ack, f.ack with
    | some x, some y => if x.lane ≠ y.lane then x.lane < y.lane else e.order < f.order
    | _, _ => e.order < f.order

/-- The span of an entry on its own port, from L to RX_READY, in ticks (R198, R200). -/
def State.span (s : State) (e : TxEntry) : Nat × Nat :=
  (e.start - s.leadTicks e, e.start - s.upTicks e.port + s.airUnits e * 10 + 7600)

/-- The interval of an entry for the other port: from its listen, or A, to the end of ramp-down (R200). -/
def State.interval (s : State) (e : TxEntry) : Nat × Nat :=
  (e.start - s.upTicks e.port - s.lbtTicks e, e.start - s.upTicks e.port + s.airUnits e * 10)

def overlap (a b : Nat × Nat) : Bool := a.1 < b.2 && b.1 < a.2

/-- Whether two entries conflict (R200, R201). -/
def State.conflicts (s : State) (e f : TxEntry) : Bool :=
  if e.port = f.port then overlap (s.span e) (s.span f) else overlap (s.interval e) (s.interval f)

/-- An entry after a winner: replanned, or MISSED_START (R201). A scheduled entry stays with its queue. -/
def State.txLose (s : State) (winner e : TxEntry) : State :=
  match e.use with
  | .sched _ => s
  | _ =>
    if !e.hard || e.lateOk then
      let free := if e.port = winner.port then (s.span winner).2 + s.leadTicks e
        else (s.interval winner).2 + s.upTicks e.port + s.lbtTicks e
      s.onTxp fun t => { t with timed := t.timed.map fun x =>
        if x.tag = e.tag ∧ x.order = e.order then { x with start := max x.start free } else x }
    else s.txPost e 1 0 0

/-! ## The launch point -/

/-- The ledger's answer at a launch point: none when the balance does not cover the airtime (R199, R212). -/
def State.txReserve (s : State) (e : TxEntry) : Option (Option (Nat × Nat)) :=
  match s.txBand e with
  | none => none
  | some k => if s.rgnDuty k = 10000 then some none
    else if s.airUnits e ≤ s.ledger k then some (some (k, s.airUnits e)) else none

/-- Whether a port is free for a launch (R202). -/
def State.portFree (s : State) (p : Nat) : Bool :=
  !s.txpStopped && s.portEnabled p && (s.exc p).isNone && s.fld F.RF_SYNSTAT_SYN_STATE p == 0 && !s.rf.toLo.contains p

/-- An entry of the timed list as it is planned now (R201, R202, R204, R214): at its T_S while its launch point is still to come; at the
first feasible one where its port is free and the ledger covers it; else it has no planned airtime, being in backoff, queued, held by
the ledger, or too late. -/
def State.planned (s : State) (f : TxEntry) : Option TxEntry :=
  if f.waiting then none
  else if s.nt + s.leadTicks f ≤ f.start then some f
  else if (f.hard && !f.lateOk) || !s.portFree f.port || (s.txReserve f).isNone then none
  else some { f with start := s.nt + s.leadTicks f }

/-- The entries planned, and those under way, beside one. -/
def State.rivals (s : State) (e : TxEntry) : List TxEntry :=
  (s.txp.timed.filter fun f => !(f.tag == e.tag && f.order == e.order) && !s.launched f).filterMap s.planned ++ s.txp.exc.filterMap fun x => x.2.entry

/-- Start the excursion of an entry (R195, R198, R212). -/
def State.txGo (s : State) (e : TxEntry) (reserved : Option (Nat × Nat)) : State :=
  let st := s.storedMove e
  let s1 := if s.fastActs e && !st then s.setFld F.RF_SYNSTAT_TAB_MISS 1 e.port else s
  let s2 := match reserved with
    | some (k, u) => s1.setLedger k (s1.ledger k - u)
    | none => s1
  let s3 := s2.onTxp fun t => { t with timed := t.timed.map fun x => if x.tag = e.tag ∧ x.order = e.order then e else x }
  ((s3.setExc e.port { entry := some e, phase := .moving, stored := st, reserved, band := s.bandWords e }).blank e.port).setFld F.RF_SYNSTAT_SYN_STATE 1 e.port

/-- A hard start whose table entry is no longer fresh at its launch point: it calibrates, comes late, posts MISSED_START and
returns (R195, R198). It returns at once, before the calibrating move has locked (DESIGN CHOICE, log entry 210). -/
def State.txStale (s : State) (e : TxEntry) : State :=
  ((((s.setFld F.RF_SYNSTAT_TAB_MISS 1 e.port).blank e.port).excBack e.port).txPost e 1 0 0)

/-- An entry at its launch point, with the port free (R199, R201, R202, R204). -/
def State.txLaunch (s0 : State) (e0 : TxEntry) : State :=
  let s := s0.boundary .TXP_CFG
  let sched := match e0.use with
    | .sched _ => true
    | _ => false
  if !s.regionOk e0 then s.txPost e0 3 0 0
  else
    let t := max e0.start (s.nt + s.leadTicks e0)
    let missed := e0.hard && !e0.lateOk && t > e0.start
    let stale := missed && e0.planned && !s.storedMove e0 && s.nt + s.leadTicks e0 ≤ e0.start + 4800
    if missed && !stale then s.txPost e0 1 0 0
    else
      let e := if stale then e0 else { e0 with start := t }
      let foes := (s.rivals e).filter fun f => s.conflicts e f
      match foes.find? fun f => sched || s.launched f || s.beats f e with
      | some f => s.txLose f e
      | none => match s.txReserve e with
        | none => if e.hard then s.txPost e 2 0 0 else s
        | some r => if stale then s.txStale e else (foldOver (fun f u => u.txLose e f) foes s).txGo e r

/-- Whether network time has reached the launch point of an entry (R198, R328). -/
def State.launchReached (s : State) (e : TxEntry) : Bool := decide (e.start ≤ s.nt + s.leadTicks e)

/-- Network time has reached the launch point of an entry of the timed list. While its port is not free, the entry is queued. -/
def State.launchTag (s : State) (tag : Nat) : State :=
  match s.txp.timed.find? fun e => e.tag == tag with
  | none => s
  | some e => if s.launched e || e.waiting || !s.portFree e.port || !s.launchReached e then s else s.txLaunch e

/-- The launches whose points network time has reached are taken (R328), in the order of their submission. -/
def State.launchDue (s : State) : State := foldOver (fun (e : TxEntry) (t : State) => t.launchTag e.tag) s.txp.timed s

/-! ## Lock, listen, air -/

/-- Locked at RFx_LO: the die temperature is recorded (R197). -/
def State.synAtLo (s : State) (p : Nat) : State :=
  if !s.portEnabled p then s
  else ((s.setFld F.RF_SYNSTAT_SYN_STATE 0 p).onRf fun r =>
    { r with toLo := r.toLo.filter (· != p), recal := r.recal.filter (· != p), loTemp := Tab.put r.loTemp p r.temp })

/-- The synthesiser of a port locks (R159, R195, R198). -/
def State.synLock (s : State) (p : Nat) : State :=
  if s.fld F.RF_SYNSTAT_SYN_STATE p ≠ 1 then s
  else match s.exc p with
    | some x => match x.phase, x.entry with
      | .moving, some e =>
        let s1 := if x.stored then s.synUse p e.freq else s.synStore p e.freq
        (s1.setFld F.RF_SYNSTAT_SYN_STATE 2 p).setExc p { x with phase := if x.lbtTicks = 0 then .clear else .locked }
      | _, _ => s.synAtLo p
    | none => s.synAtLo p
/-- RX_READY rises 16 us after lock at RFx_LO, which ends an excursion (R159, R198). -/
def State.rxReadyRise (s : State) (p : Nat) : State :=
  let back := match s.exc p with
    | none => true
    | some x => x.phase == .back
  if s.portEnabled p && s.onPll && s.fld F.RF_SYNSTAT_SYN_STATE p == 0 && !s.rf.toLo.contains p && !s.rxReady p && back then
    ((s.dropExc p).pinsBack p).rxRise p else s

/-- An entry returns to the list after a busy listen or gives up (R204). -/
def State.lbtBusy (s : State) (p : Nat) (x : Excursion) (e : TxEntry) : State :=
  let s1 := (s.release x).excBack p
  let lim := s.inFld F.TXP_CFG_LBT_TRIES
  if e.hard then s1.txPost e 1 0 0
  else if lim ≠ 0 ∧ e.tries + 1 ≥ lim then s1.txPost e 5 0 0
  else match e.use with
    | .sched q => s1.onSched fun d => { d with tries := Tab.put d.tries q (e.tries + 1), backoff := d.backoff ++ [q], offer := none, again := true }
    | _ => s1.onTxp fun t => { t with timed := t.timed.map fun y =>
        if y.tag = e.tag ∧ y.order = e.order then { y with tries := e.tries + 1, waiting := true } else y }

/-- The end of a listen, with the mean level in quarter dBm (R203, R204). -/
def State.listenEnd (s : State) (p : Nat) (level : BitVec 16) : State :=
  match s.exc p with
  | none => s
  | some x => match x.phase, x.entry with
    | .locked, some e =>
      if x.lbtThr ≤ (s.rssiOf p level).toInt then s.lbtBusy p x e else s.setExc p { x with phase := .clear }
    | _, _ => s

/-- The end of a listen backoff of a timed entry (R204). -/
def State.backoffEnd (s : State) (tag : Nat) : State :=
  s.onTxp fun t => { t with timed := t.timed.map fun y => if y.tag = tag then { y with waiting := false } else y }

/-- The chips of one bit of a wake pattern (R215). -/
def chips (b : Bool) : List Bool := [b, !b]

/-- The chips of a wake pattern (R215). -/
def wakeChips (addr group : Nat) : List Bool :=
  let v := addr * 256 + group
  (List.range 12).map (fun i => i % 2 == 0) ++ [true, true, false, false]
    ++ (msbBits 16 addr ++ msbBits 8 group ++ msbBits 4 (crcBits 4 3 0 (msbBits 24 v))).flatMap chips

/-- The bytes of the MAC frame of an entry. -/
def State.txBytes (s : State) (e : TxEntry) : Bytes :=
  match e.body with
  | .buffer a => s.bytes a e.length
  | .frame b => b
  | .wake _ _ _ => []

/-- The bits or chips of an entry on air, from the preamble on (R167, R168, R192, R215). -/
def State.onAir (s : State) (e : TxEntry) : List Bool :=
  match e.body with
  | .wake a g r => (List.replicate r (wakeChips a g)).flatten
  | _ => preambleBits (s.flag F.LANE_PT_MOD_MOD e.profile) (preSymbols e.pre (s.ptRate e.profile)) ++ s.syncWord e.profile
      ++ s.hdrOnAir e.profile (phyHeader e.length e.coded) ++ payOnAir e.coded (s.txBytes e)

/-- The deviations of an entry on air; a wake pattern is on-off keying and has none (R192, R215). -/
def State.airDevs (s : State) (e : TxEntry) : List Int :=
  match e.body with
  | .wake _ _ _ => []
  | _ => s.devsOnAir e.profile (s.onAir e)

/-- The band and the weight of a queue in force (R312, R313). -/
def State.queueBand (s : State) (q : Nat) : Nat := s.inFld F.SCHED_Q_CFG_BAND q
def State.queueWeight (s : State) (q : Nat) : Nat := max 1 (s.inFld F.SCHED_Q_CFG_WEIGHT q)

/-- The server of a queue: 0 LP0, 1 LP1, 2 radio. -/
def serverOf (q : Nat) : Nat := q / 64

/-- The start tag of a queue (R313). -/
def State.vtag (s : State) (q : Nat) : Nat := (s.reg .SCHED_Q_VTAG q).toNat
def State.setVtag (s : State) (q v : Nat) : State := s.setReg .SCHED_Q_VTAG q (BitVec.ofNat 32 v)

/-- The account of a send of cost c bits (R313). -/
def State.serve (s : State) (q c : Nat) : State :=
  let v := s.vtag q
  (s.onSched fun d => { d with vtime := Tab.put d.vtime (s.queueBand q + 8 * serverOf q) v }).setVtag q
    ((v + c * 64 / s.queueWeight q) % 4294967296)

/-- A queue of the scheduler is charged (R316). -/
def State.chargeQueue (s : State) (q cost : Nat) : State :=
  if s.inFld F.SCHED_Q_RATE_RATE q = 0 then s
  else
    let cap : Int := (min 1048576 (max 1 (s.inFld F.SCHED_Q_BURST_BURST q)) : Nat) * 800
    s.onSched fun d => { d with tokens := Tab.put d.tokens q (Tab.getD d.tokens q cap - (cost : Int) * 100) }

/-- The airtime start A (R17, R18, R199, R261): an entry of a milestone must have been committed in an earlier cycle; then the charge is final and ramp-up
begins. -/
def State.airStart (s : State) (p : Nat) : State :=
  match s.exc p with
  | none => s
  | some x => match x.phase, x.entry with
    | .clear, some e =>
      let commit := match e.use with
        | .milestone _ _ => e.committed && !s.txp.justCommitted.contains e.tag
        | _ => true
      if !commit then ((s.release x).excBack p).txPost { e with committed := false } 4 0 0
      else
        let a := max (e.start - s.upTicks p) s.nt
        let s1 := s.setExc p { x with phase := .up 0, reserved := none, airStart := a }
        let s2 := ((s1.setFld F.TXP_STAT_AIRING 1).femStep p 0 x).publish (188 + 2 * p)
        match e.use with
        | .sched q => (s2.serve q (s.packetBits e)).chargeQueue q (s.packetBits e)
        | _ => s2
    | _, _ => s

/-- The end of an airing: its interval is kept for DESENSE and the wake-up receiver, one that was cut up to now (R188, R217). -/
def State.airOver (s : State) (p : Nat) (x : Excursion) (cut : Bool) : State :=
  let planned := x.airStart + (match x.entry with
    | some e => s.airUnits e * 10
    | none => 0)
  (s.setFld F.TXP_STAT_AIRING 0).onRf fun r =>
    { r with airings := (r.airings ++ [(p, x.airStart, if cut then max x.airStart s.nt else max s.nt planned)]).drop (r.airings.length - 7),
             deafTo := s.cyc + (if cut then 0 else planned - s.nt) + 900000 }

/-- Lateness of T_S in us. -/
def State.lateness (s : State) (p : Nat) (x : Excursion) (e : TxEntry) : Nat := (x.airStart + s.upTicks p - e.asked) / 100

/-- A step's delay ends (R206). -/
def State.femStepEnd (s : State) (p : Nat) : State :=
  match s.exc p with
  | none => s
  | some x => match x.phase, x.entry with
    | .up i, some e =>
      if i + 1 < s.upLen p then (s.setExc p { x with phase := .up (i + 1) }).femStep p (i + 1) x
      else (s.setExc p { x with phase := .data, air := s.onAir e, devs := s.airDevs e, bt2 := s.ptBt2 e.profile }).onTxp fun t =>
        { t with driver := Tab.put t.driver p true }
    | .down i, some e =>
      if i + 1 < s.dnLen p then (s.setExc p { x with phase := .down (i + 1) }).femStep p (s.upLen p + i + 1) x
      else ((((s.airOver p x false).pinsRx p).publish (189 + 2 * p)).excBack p).txPost e 0 (s.lateness p x e) x.airStart
    | _, _ => s

/-- The last data bit airs and ramp-down begins (R198, R206). -/
def State.txDataEnd (s : State) (p : Nat) : State :=
  match s.exc p with
  | none => s
  | some x => match x.phase, x.entry with
    | .data, some _ => (s.setExc p { x with phase := .down 0, air := [], devs := [] }).femStep p (s.upLen p) x
    | _, _ => s

/-! ## Withdrawing -/

/-- Take an entry out before its airtime: an excursion under way returns (R18, R250). -/
def State.txPull (s : State) (e : TxEntry) : State :=
  match s.exc e.port with
  | none => s
  | some x => match x.entry with
    | some f => if f.tag = e.tag ∧ f.order = e.order ∧ !x.phase.airing then (s.release x).excBack e.port else s
    | none => s

/-- Withdraw the entry of a tag: it posts WITHDRAWN (R250). -/
def State.txWithdraw (s : State) (tag : Nat) : State :=
  match s.txp.timed.find? fun e => e.tag == tag with
  | none => s
  | some e => (s.txPull e).txPost e 4 0 0

/-- The entry of a tag as committed. -/
def TxEntry.commit (tag : Nat) (e : TxEntry) : TxEntry :=
  match e.use with
  | .sched _ => e
  | _ => if e.tag = tag then { e with committed := true } else e

/-- The entry of a tag is committed (R257). -/
def State.txCommit (s : State) (tag : Nat) : State :=
  s.onTxp fun t => { t with
    timed := t.timed.map (TxEntry.commit tag), justCommitted := t.justCommitted ++ [tag],
    exc := t.exc.map fun x => (x.1, { x.2 with entry := x.2.entry.map (TxEntry.commit tag) }) }

/-- Cut or end the excursion of a port without posting (R101, R486, R529): the pins go to their safe level; a reservation is
released. -/
def State.excStop (s : State) (p : Nat) : State :=
  match s.exc p with
  | none => s
  | some x =>
    let s1 := if x.phase.airing then (s.airOver p x true).pinsSafe p else s.release x
    s1.dropExc p

/-- What R529 does to a port's excursion when PLL0 loses lock: an airing posts WITHDRAWN. -/
def State.excPllLoss (p : Nat) (s : State) : State :=
  match s.exc p with
  | none => s
  | some x => match x.entry with
    | some e => if x.phase.airing then (s.excStop p).txPost e 4 0 0 else s.excStop p
    | none => s.excStop p

/-- Withdraw everything, without results (R101, R486). -/
def State.txSilence (s : State) : State :=
  ((s.excStop 0).excStop 1).onTxp fun t => { t with timed := [], done := [] }

/-! ## Recalibration -/

/-- The port that the head of a radio queue asks for: bit 16 of its transmit descriptor (R194, R323). -/
def State.radioPortOf (s : State) (q : Nat) : Nat :=
  match (Tab.getD s.sched.queues q []).head? with
  | some e => b2n (bit (s.word (e.addr + 12)).toNat 16)
  | none => 2

/-- The die temperature has moved 5 degrees (R197): recalibrate at RFx_LO at a moment without frames and launches. -/
def State.synRecal (s : State) (p : Nat) (temp : Int) (force : Bool) : State :=
  let s1 := s.onRf fun r => { r with temp }
  let moved := (temp - Tab.getD s.rf.loTemp p temp).natAbs ≥ 5 || s.rf.recal.contains p
  if !moved || !s1.portFree p then s1
  else
    let near := (s.txp.timed.any fun e => e.port == p && (s.planned e).any fun f => f.start ≤ s.nt + s.leadTicks f + 8000)
      || s.sched.offer.any fun q => s.radioPortOf q == p
    if !force && (s.portBusy p || near) then
      s1.onRf fun r => { r with recal := if r.recal.contains p then r.recal else r.recal ++ [p] }
    else (s1.blank p).synToLo p

/-! ## Registers of the ports -/

/-- A write of RFx_LO (R158). -/
def State.loWrite (s : State) (p : Nat) (w : Word) : State :=
  if s.portHeld p then (if w = s.reg .RF_LO p then s else s.setWlock .RF_LO p)
  else if !s.portEnabled p then s.setReg .RF_LO p w
  else if !loOk w.toNat then s.setFld F.RF_STAT_RANGE_ERR 1 p
  else
    let s1 := (s.setReg .RF_LO p w).setFld F.RF_STAT_RX_READY 0 p
    if !s.onPll then s1 else match s.exc p with
    | some x => if x.phase = .back then s1.synToLo p else s1
    | none => s1.synToLo p

/-- A port is enabled (R159). -/
def State.portOn (s : State) (p : Nat) : State :=
  let s1 := (((s.setFld F.RF_CTRL_EN 1 p).setFld F.RF_STAT_ENABLED 1 p).pinsRx p)
  if s.onPll then s1.synToLo p else s1

/-- A port is disabled (R159, R206): its excursion ends and its pins are safe. -/
def State.portOff (s : State) (p : Nat) : State :=
  let s1 := (((s.setFld F.RF_CTRL_EN 0 p).setFld F.RF_STAT_ENABLED 0 p).setFld F.RF_STAT_RX_READY 0 p)
  ((s1.setFld F.RF_SYNSTAT_SYN_STATE 3 p).pinsSafe p).onRf fun r => { r with toLo := r.toLo.filter (· != p) }

/-- The entries of a port that is disabled under way end: cut ones post WITHDRAWN. -/
def State.portDrop (s : State) (p : Nat) : State := State.portOff (State.excPllLoss p s) p

/-- A write of RFx_CTRL (R158, R160). -/
def State.rfCtrlWrite (s : State) (p : Nat) (w : Word) : State :=
  let en := bit w.toNat 0
  let s1 := (s.setFld F.RF_CTRL_ATTEN (bits w.toNat 10 8) p).setFld F.RF_CTRL_AGC (bits w.toNat 4 4) p
  let s2 := if bit w.toNat 4 then s1 else s1.setAtten p (bits w.toNat 10 8)
  if en = s.portEnabled p then s2
  else if s.portHeld p then s2.setWlock .RF_CTRL p
  else if !en then s2.portDrop p
  else if !loOk (s.rfLo p) then s2.setFld F.RF_STAT_RANGE_ERR 1 p
  else s2.portOn p

/-- Whether the front-end table of a port is in use: the running condition of its registers. -/
def State.femInUse (s : State) (p : Nat) : Bool := (s.exc p).isSome || s.txp.timed.any fun e => e.port == p

/-! ## The wake-up receiver -/

/-- A write of WUR_CFG (R216): with EN 0 no pattern is in progress, so that the write takes effect at once; the counters are cleared when EN
rises. -/
def State.wurCfgWrite (s : State) (w : Word) : State :=
  let s1 := s.regStore .WUR_CFG 0 false w
  let s2 := if s.inFld F.WUR_CFG_EN = 0 then s1.boundary .WUR_CFG else s1
  if s.flag F.WUR_CFG_EN || !bit w.toNat 24 then s2 else (s2.setFld F.WUR_STAT_CHK_ERRS 0).setFld F.WUR_STAT_VALID_CNT 0

/-- A pattern decided at its last check chip (R216, R217): whether it matched, to raise the device or publish. One whose 9 ms an airtime
has overlapped is discarded, and in Roadside the receiver is off (R123). -/
def State.wurPattern (s0 : State) (addr : Half) (group : Byte) (check : Nat) : Bool × State :=
  let s := s0.boundary .WUR_CFG
  let deaf := s.flag F.TXP_STAT_AIRING || decide (s.cyc < s.rf.deafTo)
  if !s.flag F.WUR_CFG_EN || s.inRoadside || deaf then (false, s)
  else if crcBits 4 3 0 (msbBits 24 (addr.toNat * 256 + group.toNat)) ≠ check then (false, s.bumpWrap F.WUR_STAT_CHK_ERRS)
  else
    let s1 := (s.bumpWrap F.WUR_STAT_VALID_CNT).setReg .WUR_LAST 0 (BitVec.ofNat 32 (group.toNat * 65536 + addr.toNat))
    let own := addr.toNat != 0xFFFF && addr.toNat == s.fld F.WUR_CFG_ADDR
    let call := addr.toNat == 0xFFFF && s.flag F.WUR_CFG_GROUP_EN && (group.toNat == s.fld F.WUR_CFG_GROUP || group.toNat == 0xFF)
    if !own && !call then (false, s1)
    else
      let again := match s.txp.lastWake with
        | some (a, g, c) => a == addr.toNat && g == group.toNat && s.cyc ≤ c + 1000000
        | none => false
      let s2 := s1.onTxp fun t => { t with lastWake := some (addr.toNat, group.toNat, s.cyc) }
      if again then (false, s2) else (true, s2.setFld F.WUR_STAT_MATCH 1)

end Sys2Proof.Machine
end

