-- ==== Sys2Proof/Machine/FrmOps.lean ====
section
/-! DEFINITION. The frame engine: keys, protection, verdicts, the duplicate filter, acknowledgements and downlinks
(R219 to R246). -/

namespace Sys2Proof.Machine

/-- Count in FRM_CNT_k. -/
def State.frmCount (s : State) (k : Nat) : State := s.bumpWrap F.FRM_CNT_COUNT k

/-! ## The MAC header (R219, R220) -/

def macFc (h : Bytes) : Nat := beNat (h.take 2)
def macVer (h : Bytes) : Nat := bits (macFc h) 15 14
def macType (h : Bytes) : Nat := bits (macFc h) 13 12
def macGroup (h : Bytes) : Nat := bits (macFc h) 11 6
def macAckReq (h : Bytes) : Bool := bit (macFc h) 5
def macRxd (h : Bytes) : Nat := bits (macFc h) 4 3
def macClk (h : Bytes) : Nat := bits (macFc h) 2 0
def macSrc (h : Bytes) : Bytes := (h.drop 2).take 6
def macEpoch (h : Bytes) : Nat := (h.getD 8 0).toNat
def macCtr (h : Bytes) : Bytes := (h.drop 9).take 4
def macCtime (h : Bytes) : Nat := beNat ((h.drop 13).take 2)

/-- The triple SRC, CTR, EPOCH that keys the filter, in the order of R231. -/
def macTriple (h : Bytes) : Bytes := macSrc h ++ macCtr h ++ (h.drop 8).take 1

/-! ## Keys (R224 to R227) -/

/-- "SENSKEY1". -/
def keyLabel : Bytes := beBytes 8 0x53454E534B455931

/-- The sender key of a master key and SRC (R224). -/
def senderKey (mk src : Bytes) : Bytes := cmac mk (beBytes 4 1 ++ keyLabel ++ [0#8] ++ src ++ beBytes 4 0x80)

/-- The epoch of a group in force, and whether the group is ACTIVE in force (R9, R225). -/
def State.curEpoch (s : State) (g : Nat) : Nat := s.inFld F.FRM_EPOCH_CUR g
def State.groupActive (s : State) (g : Nat) : Bool := s.inFld F.FRM_EPOCH_ACTIVE g == 1

/-- Whether the vault slot of a group and epoch holds exactly that epoch. -/
def State.slotHolds (s : State) (g e : Nat) : Bool :=
  match Tab.find s.frm.vault (g * 4 + e % 4) with
  | some (x, _) => x == e
  | none => false

/-- Whether an epoch is CUR or CUR - 1 of a group (R225). -/
def State.epochAccepted (s : State) (g e : Nat) : Bool := e == s.curEpoch g || (e + 1) % 256 == s.curEpoch g

/-- The master key of a frame, when it has one (R225). -/
def State.masterKey (s : State) (g e : Nat) : Option Bytes :=
  if s.groupActive g && s.epochAccepted g e && s.slotHolds g e then (Tab.find s.frm.vault (g * 4 + e % 4)).map Prod.snd else none

/-- The set of a key in the derived-key cache (R227). -/
def keySet (g e : Nat) (src : Bytes) : Nat := crc32 ([BitVec.ofNat 8 g, BitVec.ofNat 8 e] ++ src) % 1024

/-- Find or derive a sender key, with the cache's counts and its replacement (R224, R227). -/
def State.deriveKey (s : State) (mk : Bytes) (g e : Nat) (src : Bytes) : Bytes × State :=
  let k := keySet g e src
  let set := Tab.getD s.frm.keys k []
  let rest := set.filter fun l => !(l.group == g && l.epoch == e && l.src == src)
  match set.find? fun l => l.group == g && l.epoch == e && l.src == src with
  | some l => (l.key, (s.frmCount 6).onFrm fun f => { f with keys := Tab.put f.keys k (l :: rest) })
  | none =>
    let key := senderKey mk src
    (key, (s.frmCount 7).onFrm fun f => { f with keys := Tab.put f.keys k ((⟨g, e, src, key⟩ :: rest).take 4) })

/-- Invalidate cached keys (R227). -/
def State.dropKeys (s : State) (p : KeyLine → Bool) : State :=
  s.onFrm fun f => { f with keys := (f.keys.map fun e => (e.1, e.2.filter fun l => !p l)).filter fun e => !e.2.isEmpty }

/-- Whether the slot of an epoch holds a key in use, which no load replaces (R226). -/
def State.vaultHeld (s : State) (g e : Nat) : Bool :=
  match Tab.find s.frm.vault (g * 4 + e % 4) with
  | some (x, _) => s.groupActive g && s.epochAccepted g x
  | none => false

/-- Put a key into a slot (R227). -/
def State.vaultNow (s : State) (g e : Nat) (key : Bytes) : State :=
  (s.onFrm fun f => { f with vault := Tab.put f.vault (g * 4 + e % 4) (e, key) }).dropKeys fun l => l.group == g && l.epoch % 4 == e % 4

/-- Whether a frame of a slot waits for its verdict (R228, R246). -/
def State.vaultBusy (s : State) (g e : Nat) : Bool :=
  s.frm.ctxs.any fun x => (x.2.st == .verifying || x.2.st == .timed) && macGroup x.2.header == g && macEpoch x.2.header % 4 == e % 4

/-- Load a key into a slot (R227), once the frames of that slot in VERIFYING have their verdicts (R246; log entry 27). -/
def State.vaultPut (s : State) (g e : Nat) (key : Bytes) : State :=
  if s.vaultBusy g e then s.onFrm fun f => { f with loads := f.loads ++ [(g, e, key)] } else s.vaultNow g e key

/-- The loads that wait no longer are made (R226, R246). -/
def State.vaultSettle (s : State) : State :=
  foldOver (fun (l : Nat × Nat × Bytes) (t : State) =>
    if t.vaultBusy l.1 l.2.1 then t
    else
      let t1 := t.onFrm fun f => { f with loads := f.loads.erase l }
      if t1.vaultHeld l.1 l.2.1 then t1.setFld F.FRM_STAT_VAULT_ERR 1 else t1.vaultNow l.1 l.2.1 l.2.2) s.frm.loads s

/-- A load of KEY0 to KEY3 into a slot (R226, R227). -/
def State.vaultLoad (s : State) (g e : Nat) : State :=
  if s.vaultHeld g e then s.setFld F.FRM_STAT_VAULT_ERR 1
  else
    let key := (List.range 4).flatMap fun w => beBytes 4 (s.reg .FRM_VAULT_KEY w).toNat
    foldOver (fun w t => t.setReg .FRM_VAULT_KEY w 0) (List.range 4) (s.vaultPut g e key)

/-- The erasure of a slot (R227). -/
def State.vaultErase (s : State) (g e : Nat) : State :=
  (s.onFrm fun f => { f with vault := Tab.del f.vault (g * 4 + e % 4) }).dropKeys fun l => l.group == g && l.epoch % 4 == e % 4

/-- A write of FRM_VAULT_SEL. -/
def State.vaultWrite (s : State) (w : Word) : State :=
  let s1 := s.regStore .FRM_VAULT_SEL 0 false w
  match bits w.toNat 31 30 with
  | 1 => s1.vaultLoad (bits w.toNat 13 8) (bits w.toNat 7 0)
  | 2 => s1.vaultErase (bits w.toNat 13 8) (bits w.toNat 7 0)
  | _ => s1

/-- A write of FRM_EPOCH_g (R226): refused while the slot of the epoch does not hold it. -/
def State.epochWrite (s : State) (g : Nat) (w : Word) : State :=
  if !s.slotHolds g (bits w.toNat 7 0) then s.setFld F.FRM_STAT_VAULT_ERR 1
  else s.regStore .FRM_EPOCH g false w

/-- The boundary of FRM_EPOCH_g, the next MAC header completed: keys of epochs no longer accepted leave the cache (R226, R227). A header
that completes in the cycle of a write sees the value before it (R246). -/
def State.epochEffect (g : Nat) (s : State) : State :=
  if (Tab.find s.held (RegName.FRM_EPOCH.key g)).isNone then s
  else
    let before := ({ s with regs := s.was } : State).reg .FRM_EPOCH g
    let s1 := if s.reg .FRM_EPOCH g = before then s.boundary .FRM_EPOCH g
      else { s with held := Tab.put s.held (RegName.FRM_EPOCH.key g) before }
    s1.dropKeys fun l => l.group == g && !s1.epochAccepted g l.epoch

/-! ## Protection (R222) -/

/-- The nonce of a frame and direction. -/
def macNonce (h : Bytes) (dir : Byte) : Bytes := macSrc h ++ macCtr h ++ (h.drop 8).take 1 ++ [dir]

/-- Counter block i of CCM. -/
def ccmCtr (nonce : Bytes) (i : Nat) : Bytes := [0x02#8] ++ nonce ++ beBytes 3 i

/-- The CCM key stream over n blocks, from counter i. -/
def ccmStream (key nonce : Bytes) : Nat → Nat → Bytes
  | _, 0 => []
  | i, n + 1 => aesEnc key (ccmCtr nonce i) ++ ccmStream key nonce (i + 1) n

/-- The 8-byte tag of a header and plaintext (R222; SP 800-38C). -/
def ccmTag (key h pt : Bytes) (dir : Byte) : Bytes :=
  let nonce := macNonce h dir
  let b0 := [0x5A#8] ++ nonce ++ beBytes 3 pt.length
  let ad := beBytes 2 h.length ++ h
  let blocks := b0 :: (blocks16 ((ad.length + 15) / 16) (padTo ((ad.length + 15) / 16 * 16) ad)
    ++ blocks16 ((pt.length + 15) / 16) (padTo ((pt.length + 15) / 16 * 16) pt))
  xorBytes ((cbcMac key (zeros 16) blocks).take 8) (aesEnc key (ccmCtr nonce 0))

/-- Whether the tag of an uplink frame matches. -/
def macTagOk (key frame : Bytes) : Bool :=
  let h := frame.take 15
  let ct := (frame.drop 15).take (frame.length - 23)
  let pt := xorBytes ct (ccmStream key (macNonce h 0) 1 ((ct.length + 15) / 16))
  ccmTag key h pt 0 == frame.drop (frame.length - 8)

/-! ## The way of a frame -/

/-- A frame dies: the lane keeps delivering, the engine discards the bytes (R221, R225). -/
def State.ctxDie (s : State) (c : Nat) (x : Ctx) (count : Nat) : State := (s.setCtx c { x with st := .dead }).frmCount count

/-- Whether a downlink for SRC is pending (R238). -/
def State.dlPending (s : State) (src : Bytes) : Bool := s.frm.downlinks.any fun d => d.src == beNat src

/-- The MAC header of a lane's frame is delivered (R221, R225, R238). -/
def State.macHeader (s0 : State) (n : Nat) (hdr : Bytes) : State :=
  match Tab.find s0.rf.frames n with
  | none => s0
  | some f => match Tab.find s0.frm.ctxs f.ctx with
    | none => s0
    | some x0 =>
      let h := (padTo 15 hdr).take 15
      if s0.laneState n ≠ 5 ∨ x0.st ≠ .arriving ∨ !x0.header.isEmpty then s0
      else
        let s := foldOver State.epochEffect (List.range 64) s0
        let x := { x0 with header := h, info := f }
        if macVer h ≠ 0 ∨ macType h ≠ 0 ∨ f.length < 23 then s.ctxDie f.ctx x 5
        else match s.masterKey (macGroup h) (macEpoch h) with
          | none => s.ctxDie f.ctx x 3
          | some master =>
            let (key, s1) := s.deriveKey master (macGroup h) (macEpoch h) (macSrc h)
            s1.setCtx f.ctx { x with key, dlp := s.dlPending (macSrc h) }

/-- The soft values of the payload so far hold the whole MAC header (R172, R221): it is decided and delivered. -/
def State.macSoft (s : State) (n : Nat) (soft : List Soft) : State :=
  match Tab.find s.rf.frames n with
  | none => s
  | some f =>
    let l := if payBits f.coded f.length ≤ soft.length then byteBits (softPayload f.coded f.length soft).1 else softSoFar f.coded soft
    if l.length < min 120 (8 * f.length) then s else s.macHeader n (bitsBytes 15 l)

/-- The frame engine's part of a frame-end event (R221, R228). -/
def State.frmFrameEnd (s : State) (f : LaneFrame) (quality : Nat) (body : Bytes) : State :=
  match Tab.find s.frm.ctxs f.ctx with
  | none => s
  | some x =>
    if x.st = .dead then s.ctxFree f.ctx
    else if x.header.isEmpty then (s.frmCount 5).ctxFree f.ctx
    else
      let frame := x.header ++ ((padTo f.length body).take f.length).drop 15
      s.setCtx f.ctx { x with st := .verifying, info := f, quality, frame, endNt := s.nt, order := s.cyc * 128 + x.lane }

/-- Whether no frame that ended earlier waits in a state beside one (R24): frames wait in the order of frame end, those that end in one
cycle in the order of their lanes. -/
def State.ctxFirst (s : State) (x : Ctx) (st : CtxState → Bool) : Bool := !s.frm.ctxs.any fun e => st e.2.st && e.2.order < x.order

/-- The window in seconds (R230): TWIN while disciplined, else TWIN_UNDISC. -/
def State.twin (s : State) : Nat :=
  if s.flag F.NTC_STAT_DISC then (let v := s.fld F.FRM_CFG_TWIN
    if v = 0 then 1 else if v > 31 then 31 else v)
  else max 1 (s.fld F.FRM_CFG_TWIN_UNDISC)

/-- Whether a coarse time lies inside the window around a second (R230). -/
def State.timeOk (s : State) (ctime : Nat) (sec : Word) : Bool :=
  (sgn 16 ((ctime + 65536 - sec.toNat % 65536) % 65536)).natAbs ≤ s.twin

/-- The tag comparison and the coarse-time check of the frame in VERIFYING that ended first (R24, R229, R230). -/
def State.tagCompare (s0 : State) (c : Nat) : State :=
  match Tab.find s0.frm.ctxs c with
  | none => s0
  | some x =>
    if x.st ≠ .verifying ∨ !s0.ctxFirst x (· == .verifying) then s0
    else if !macTagOk x.key x.frame then (((s0.frmCount 2).publish 195).ctxFree c).vaultSettle
    else
      let s := s0.boundary .FRM_CFG
      let undisc := !s.flag F.NTC_STAT_DISC
      if s.timeOk (macCtime x.header) x.info.arrSec then s.setCtx c { x with st := .timed, undisc }
      else
        let s2 := s.frmCount 4
        (if macAckReq x.header && s.flag F.FRM_CFG_TREJ_ACK then
          s2.setCtx c { x with st := .verdict, undisc, trej := true, ackDue := true } else s2.ctxFree c).vaultSettle

/-! ## The decryption service (R42) -/

/-- The plaintext of an uplink frame. -/
def macPlain (key frame : Bytes) : Bytes :=
  let ct := (frame.drop 15).take (frame.length - 23)
  xorBytes ct (ccmStream key (macNonce (frame.take 15) 0) 1 ((ct.length + 15) / 16))

/-- The decryption service of the Supervisor (R42): the plaintext of the frame in a delivery record, where the frame is an uplink frame
with a key (R221, R225), lay inside the window at its arrival (R230) and carries a tag that matches (R222, R229). The key stays
inside. -/
def State.decryptRecord (s : State) (rec : Bytes) : Option Bytes × State :=
  let frame := (rec.drop 32).take (leNat (rec.take 2))
  let h := frame.take 15
  if frame.length < 23 ∨ macVer h ≠ 0 ∨ macType h ≠ 0 ∨ !s.timeOk (macCtime h) (BitVec.ofNat 32 (leNat ((rec.drop 8).take 4))) then (none, s)
  else match s.masterKey (macGroup h) (macEpoch h) with
    | none => (none, s)
    | some master =>
      let (key, s1) := s.deriveKey master (macGroup h) (macEpoch h) (macSrc h)
      (if macTagOk key frame then some (macPlain key frame) else none, s1)

/-! ## The duplicate filter (R231 to R236) -/

/-- Base of the table. -/
def State.dupBase (s : State) : Nat := s.fld F.FRM_DUP_CFG_BASE * 33554432

/-- The Supervisor places the duplicate-filter table at the top of visible DRAM once DRAM is READY and the table does not lie there in
visible DRAM already; BASE is locked while the lane bank runs (R34; log entry 182). -/
def State.dupPlace (s : State) : State :=
  if s.dramReady ∧ !s.bankRuns ∧ !(dramBase ≤ s.dupBase ∧ s.dupBase + 33554432 ≤ dramBase + s.dramSize) then
    s.setFld F.FRM_DUP_CFG_BASE ((dramBase + s.dramSize) / 33554432 - 1)
  else s

/-- Whether the filter acts: enabled, with its table wholly in visible DRAM (FRM_DUP_CFG). -/
def State.dupOn (s : State) : Bool :=
  s.flag F.FRM_DUP_CFG_EN && dramBase ≤ s.dupBase && s.dupBase + 33554432 ≤ dramBase + s.dramSize

/-- Address of way w of the bucket of a triple. -/
def State.dupAddr (s : State) (t : Bytes) (w : Nat) : Nat := s.dupBase + crc32 t % 524288 * 64 + w * 16

/-- The front-cache set of a triple (R232). -/
def frontSet (t : Bytes) : Nat := crc32 t % 1024

/-- An entry of the filter as it stands in DRAM. -/
structure DupEntry where
  triple : Bytes
  insSec : Nat
  ackSub : Nat
  valid : Bool
  pend : Bool
  aired : Bool
  dlp : Bool
  carry : Bool
  group : Nat
  deriving DecidableEq, Repr

/-- The entry that 16 bytes hold (R231). -/
def dupParse (b : Bytes) : DupEntry :=
  let f := (b.getD 14 0).toNat
  { triple := b.take 11, insSec := (b.getD 11 0).toNat, ackSub := beNat ((b.drop 12).take 2), valid := bit f 7, pend := bit f 6,
    aired := bit f 5, dlp := bit f 4, carry := bit f 3, group := bits (b.getD 15 0).toNat 5 0 }

/-- The 16 bytes of an entry (R231). -/
def DupEntry.bytes (e : DupEntry) : Bytes :=
  (padTo 11 e.triple).take 11 ++ [BitVec.ofNat 8 e.insSec] ++ beBytes 2 e.ackSub
    ++ [BitVec.ofNat 8 (b2n e.valid * 128 + b2n e.pend * 64 + b2n e.aired * 32 + b2n e.dlp * 16 + b2n e.carry * 8),
        BitVec.ofNat 8 e.group]

/-- The age of an entry in seconds (R231). -/
def State.dupAge (s : State) (e : DupEntry) : Nat := (s.ntSec.toNat + 256 - e.insSec) % 256

/-- Whether an entry is live (R232). -/
def State.dupLive (s : State) (e : DupEntry) : Bool := e.valid && s.dupAge e < 64

/-- The entry in way w of a triple's bucket. -/
def State.dupWay (s : State) (t : Bytes) (w : Nat) : DupEntry := dupParse (s.bytes (s.dupAddr t w) 16)

/-- Write an entry through to DRAM, a request like any other (R232, R446, R447). -/
def State.dupPut (s : State) (t : Bytes) (w : Nat) (e : DupEntry) : State :=
  let a := s.dupAddr t w
  ((((s.setBytes a e.bytes).mendDram a).mendDram (a + 8)).dramTouch a true).dramTouch (a + 8) true

/-- The way that holds a live entry of a triple. -/
def State.dupFind (s : State) (t : Bytes) : Option Nat :=
  leastBelow (fun w => s.dupLive (s.dupWay t w) && (s.dupWay t w).triple == t) 4

/-- The way a new entry takes (R232): the first that is not live; else the oldest, a young eviction. Of
several as old as each other by their times of insertion it is the lowest way (DESIGN CHOICE, log entry 211). -/
def State.dupVictim (s : State) (t : Bytes) : Nat × Bool :=
  match leastBelow (fun w => !s.dupLive (s.dupWay t w)) 4 with
  | some w => (w, false)
  | none => ([1, 2, 3].foldl (fun b w => if s.dupAge (s.dupWay t w) > s.dupAge (s.dupWay t b) then w else b) 0, true)

/-- Touch a triple in the front cache (R232): whether it was there. A set gives up the triple touched longest ago, and a triple stays a
hit after its entry has expired or been overwritten (DESIGN CHOICE, log entry 212). -/
def State.frontTouch (s : State) (t : Bytes) : Bool × State :=
  let set := Tab.getD s.frm.front (frontSet t) []
  let s1 := s.onFrm fun f => { f with front := Tab.put f.front (frontSet t) ((t :: set.filter (· != t)).take 4) }
  if set.contains t then (true, s1.frmCount 8) else (false, s1)

/-- The first DRAM unit of a bucket whose read fails, or the state after a good read (R234, R452). -/
def State.dupRead (s : State) (t : Bytes) : Bool × State :=
  (List.range 8).foldl (fun r k => if r.1 then r.2.checkDram (s.dupAddr t 0 + 8 * k) else r) (true, s)

/-- NT_SUB of an instant (R238). -/
def ntSub (t : Nat) : Nat := t % 100000000 * 65536 / 100000000

/-- T_S of a frame's acknowledgement: 2.000 ms after the frame-end event (R239). -/
def Ctx.ackAt (x : Ctx) : Nat := x.endNt + 200000

/-- Whether a frame's acknowledgement will be enqueued (R229, R263). -/
def State.wantsAck (s : State) (x : Ctx) : Bool := macAckReq x.header && s.flag F.MSU_TPL_CFG_ACK_EN

/-- The entry of a frame with a fresh acknowledgement's time (R231, R235). -/
def State.dupEntry (s : State) (x : Ctx) (pend : Bool) : DupEntry :=
  let t := x.ackAt
  { triple := macTriple x.header, insSec := s.ntSec.toNat % 256, ackSub := if pend then ntSub t else 0, valid := true, pend,
    aired := false, dlp := pend && x.dlp, carry := pend && t / 100000000 == s.ntSec.toNat + 1, group := macGroup x.header }

/-- A frame classed new (R229). -/
def State.frameNew (s : State) (c : Nat) (x : Ctx) (cold : Bool) : State :=
  ((s.setCtx c { x with st := .verdict, fresh := true, cold, ackDue := s.wantsAck x }).frmCount 0).publish 193

/-- The answer to a repeat (R235). A fresh acknowledgement in a second that CARRY cannot reach from the insertion moves the insertion
second up to its own, but never past the present one, so that the entry stays live (R231, R233; log entry 19). -/
def State.repeatAnswer (s : State) (c : Nat) (x : Ctx) (w : Nat) (e : DupEntry) : State :=
  let t := macTriple x.header
  if !s.wantsAck x then s.ctxFree c
  else if e.pend then (s.ctxFree c).onFrm fun f => { f with waved := f.waved ++ [(c, x)] }
  else if e.aired then
    let sec := s.ntSec - BitVec.ofNat 32 (s.dupAge e) + BitVec.ofNat 32 (b2n e.carry)
    (s.dupPut t w { e with pend := true }).setCtx c { x with st := .verdict, ackDue := true, again := some (sec, e.ackSub, e.dlp) }
  else
    let t0 := x.ackAt
    let sec := t0 / 100000000
    let ins := s.ntSec.toNat - s.dupAge e
    let base := if sec ≤ ins + 1 then ins else min sec s.ntSec.toNat
    (s.dupPut t w { e with pend := true, dlp := x.dlp, ackSub := ntSub t0, carry := sec == base + 1, insSec := base % 256 }).setCtx c
      { x with st := .verdict, ackDue := true }

/-- A repeat (R229). -/
def State.frameRepeat (s : State) (c : Nat) (x : Ctx) (w : Nat) (e : DupEntry) : State :=
  ((s.frmCount 1).publish 194).repeatAnswer c x w e

/-- The filter lookup of a frame (R229, R231 to R235). Work on DRAM waits until the DMC is READY
(R36), and until the fill has passed the table (R454). -/
def State.filterVerdict (s : State) (c : Nat) : State :=
  match Tab.find s.frm.ctxs c with
  | none => s
  | some x =>
    if !s.dupOn then s.frameNew c x true
    else if !s.dramReady || !s.filledFrom s.dupBase then s
    else
      let t := macTriple x.header
      let cold := s.fld F.FRM_DUP_STAT_COLD_LEFT != 0
      let (hit, s1) := s.frontTouch t
      let (ok, s2) := if hit then (true, s1) else s1.dupRead t
      if !ok then
        let s3 := foldOver (fun w u => ((u.setBytes (u.dupAddr t w) (zeros 16)).mendDram (u.dupAddr t w)).mendDram (u.dupAddr t w + 8))
          [0, 1, 2, 3] s2
        (s3.dupPut t 0 (s.dupEntry x (s.wantsAck x))).frameNew c x true
      else match s2.dupFind t with
        | some w => s2.frameRepeat c x w (s2.dupWay t w)
        | none =>
          let (w, young) := s2.dupVictim t
          let s3 := if young then s2.frmCount 9 else s2
          (s3.dupPut t w (s.dupEntry x (s.wantsAck x))).frameNew c x cold

/-- The filter lookup of the frame that ended first of those that have reached the filter (R24, R229). -/
def State.filterLookup (s : State) (c : Nat) : State :=
  match Tab.find s.frm.ctxs c with
  | none => s
  | some x => if x.st ≠ .timed ∨ !s.ctxFirst x (· == .timed) then s else (s.filterVerdict c).vaultSettle

/-- The result of an acknowledgement in the filter and the counters (R236; FRM_CNT). A repeat of the same cycle sees an aired one
(R246). -/
def State.ackResult (s : State) (a : AckOf) (aired : Bool) : State :=
  let s1 := s.frmCount (if aired then 10 else 11)
  if a.trej || !s1.dupOn || !s1.dramReady then s1
  else match leastBelow (fun w => (s1.dupWay a.triple w).valid && (s1.dupWay a.triple w).triple == a.triple) 4 with
    | none => s1
    | some w =>
      let e := s1.dupWay a.triple w
      let s2 := s1.dupPut a.triple w { e with pend := false, aired := e.aired || aired }
      match s2.frm.waved.find? fun v => macTriple v.2.header == a.triple, aired with
      | some v, true => (s2.onFrm fun f => { f with waved := f.waved.filter (·.1 != v.1), freed := f.freed.filter (· != v.1) }).repeatAnswer
          v.1 v.2 w (s2.dupWay a.triple w)
      | _, _ => s2

/-- Every entry of the table becomes invalid and the filter goes cold (FRM_DUP_CFG.FLUSH, R234). -/
def State.dupFlush (s : State) : State :=
  let ks := (Tab.keys s.mem).filter fun k => s.dupBase ≤ k && k < s.dupBase + 33554432 && k % 16 == 14 && dramBase ≤ k
  (foldOver (fun k t => (t.setByte k (t.byte k &&& 0x7F#8)).dramTouch k true) ks s).filterCold.onFrm fun f => { f with front := [] }

/-- A write of FRM_DUP_CFG. -/
def State.dupWrite (s : State) (w : Word) : State :=
  let s1 := s.regStore .FRM_DUP_CFG 0 (s.nowOrWas State.bankRuns) w
  if bit w.toNat 1 then s1.dupFlush else s1

/-- Live entries of the table, in units of 32 (OCCUPANCY). -/
def State.dupOccupancy (s : State) : Nat :=
  if !s.dupOn then 0 else
    ((Tab.keys s.mem).filter fun k => s.dupBase ≤ k && k < s.dupBase + 33554432 && k % 16 == 14
      && s.dupLive (dupParse (s.bytes (k - 14) 16))).length / 32

/-- A second of a cold filter (R234). -/
def State.coldSecond (s : State) : State :=
  let v := s.fld F.FRM_DUP_STAT_COLD_LEFT
  if v = 0 then s else s.setFld F.FRM_DUP_STAT_COLD_LEFT (v - 1)

/-! ## Records and acknowledgements (R237 to R239) -/

/-- The journal record of a frame, with the sequence number and CRC still zero; padded to whole lines (R25, R237). -/
def Ctx.record (x : Ctx) : Bytes :=
  let f := x.info
  let flags := b2n f.coded + 2 * b2n f.desense + 4 * b2n f.gainStep + 8 * b2n x.cold + 16 * b2n x.undisc + 32 * b2n (macAckReq x.header)
  let h := leBytes 2 x.frame.length ++ leBytes 2 flags ++ zeros 4 ++ leBytes 4 f.arrSec.toNat ++ leBytes 4 f.arrTick
    ++ leBytes 4 f.fofs.toNat ++ leBytes 2 f.rssi ++ [BitVec.ofNat 8 x.lane, BitVec.ofNat 8 x.quality]
    ++ [BitVec.ofNat 8 (f.errs + 128 * x.port)] ++ zeros 7
  padTo ((32 + x.frame.length + 31) / 32 * 32) (h ++ x.frame)

/-- The 24 bytes of an acknowledgement (R238). -/
def ackBytes (key : Bytes) (group : Nat) (dlp trej undisc rpt : Bool) (ctr : Bytes) (sec : Word) (sub : Nat) (node : Word) : Bytes :=
  let fc := 4096 + group * 64 + b2n dlp * 32 + b2n trej * 16 + b2n undisc * 8 + b2n rpt * 4
  let b := beBytes 2 fc ++ ctr ++ beBytes 4 sec.toNat ++ beBytes 2 sub ++ beBytes 4 node.toNat
  b ++ (cmac key b).take 8

/-- The acknowledgement of a frame (R235, R238). -/
def State.ackFor (s0 : State) (x : Ctx) : Bytes :=
  let s := s0.boundary .FRM_NODE
  let node := s.reg .FRM_NODE
  let t := x.ackAt
  match x.again with
  | some (sec, sub, dlp) => ackBytes x.key (macGroup x.header) dlp false x.undisc true (macCtr x.header) sec sub node
  | none => ackBytes x.key (macGroup x.header) x.dlp x.trej x.undisc false (macCtr x.header) (BitVec.ofNat 32 (t / 100000000)) (ntSub t) node

/-- The transmit entry of a frame's acknowledgement (R193, R239), for action a of milestone k. -/
def State.ackEntry (s : State) (x : Ctx) (k a : Nat) : TxEntry :=
  { tag := 0, order := 0, use := .milestone k a, freq := x.freq, start := x.ackAt, asked := x.ackAt, planned := false,
    body := .frame (s.ackFor x), pre := 0, cls := 0, fast := false, lateOk := false, hard := true, port := x.port,
    profile := x.profile, coded := x.info.coded, length := 24, committed := false, tries := 0, waiting := false,
    ack := some ⟨x.lane, macTriple x.header, x.trej⟩ }

/-! ## Downlinks (R240 to R244) -/

/-- The receive-window delay of RXD in seconds, and the clock tolerance of CLK in ppm (R220). -/
def rxDelay (rxd : Nat) : Nat := [0, 1, 16, 128].getD rxd 0
def clkPpm (clk : Nat) : Nat := [10, 20, 50, 100, 200, 500, 1000, 2000].getD clk 10

def State.setDownlink (s : State) (d : Downlink) : State :=
  s.onFrm fun f => { f with downlinks := f.downlinks.map fun e => if e.src = d.src then d else e }

def State.dropDownlink (s : State) (src : Nat) : State :=
  s.onFrm fun f => { f with downlinks := f.downlinks.filter fun e => e.src != src }

/-- A transmission of the Supervisor itself: its entry (R191). -/
def txOwn (use : TxUse) (freq start port profile cls pre length : Nat) (body : TxBody) (coded fast hard : Bool) : TxEntry :=
  { tag := 0, order := 0, use, freq, start, asked := start, planned := false, body, pre, cls, fast, lateOk := false, hard, port,
    profile, coded, length, committed := false, tries := 0, waiting := false, ack := none }

/-- The two hard starts of a Detour (R243). The wake pattern starts 10 ms from now (log entry 18). -/
def State.detour (s0 : State) (d : Downlink) : State :=
  let s := ((s0.boundary .FRM_DL_CFG).boundary .FRM_DL_WAKEFREQ).boundary .FRM_DL_DETOURFREQ
  let wf := (s.reg .FRM_DL_WAKEFREQ).toNat
  let df := (s.reg .FRM_DL_DETOURFREQ).toNat
  if wf = 0 ∨ df = 0 ∨ !s.flag F.FRM_DL_CFG_DL_EN then s
  else
    let p := s.fld F.FRM_DL_CFG_DETOUR_PORT
    let k := s.fld F.FRM_DL_CFG_DETOUR_PROFILE
    let n := s.fld F.FRM_DL_CFG_DETOUR_REPEAT + 1
    let t := s.nt + 1000000
    let page := txOwn (.page d.job) wf t p k 3 0 0 (.wake (d.src % 65536) (macGroup d.frame) n) false false true
    let t2 := t + 900000 * n + max 5 (s.fld F.FRM_DL_CFG_DETOUR_GAP) * 100000
    let down := txOwn (.downlink d.job 2) df t2 p k 2 0 d.frame.length (.frame d.frame) (s.flag F.LANE_PT_MOD_CODED_ONLY k) true true
    match s.txSubmit page true with
    | (.inl c, s1) => (s1.txRefused c).setDownlink { d with tries := d.tries + 1, plan := none }
    | (.inr tag, s1) => match s1.txSubmit down true with
      | (.inl c, s2) => ((s2.txRefused c).txWithdraw tag).setDownlink { d with tries := d.tries + 1, plan := none }
      | (.inr _, s2) => s2.setDownlink { d with plan := some 2 }

/-- A journalled uplink with RXD names a pending downlink: it is planned (R241). -/
def State.planDownlink (s0 : State) (x : Ctx) : State :=
  let rxd := macRxd x.header
  match s0.frm.downlinks.find? fun d => d.src == beNat (macSrc x.header) with
  | none => s0
  | some d =>
    let s := s0.boundary .FRM_DL_CFG
    if rxd = 0 ∨ d.plan.isSome ∨ !s.flag F.FRM_DL_CFG_DL_EN then s
    else
      let t := x.info.endNt + rxDelay rxd * 100000000
      let u := rxDelay rxd * clkPpm (macClk x.header) * 100 + 10000
      let guard := max 1 (s.fld F.FRM_DL_CFG_GUARD) * 10000
      let window := fun (mode pre start : Nat) =>
        match s.txSubmit (txOwn (.downlink d.job mode) x.freq start x.port x.profile 1 pre d.frame.length (.frame d.frame) x.info.coded
            false true) true with
        | (.inl c, s1) => s1.txRefused c
        | (.inr _, s1) => s1.setDownlink { d with plan := some mode }
      if u ≤ guard then window 0 0 t
      else if 2 * u ≤ 6400000 then
        let p := (2 * u + 49999) / 50000
        window 1 (0x80 + (p - 1)) (t - p * 25000)
      else if bit d.flags 0 then s.detour { d with tries := 0 }
      else s

/-- The entries of a pending downlink's transmissions. -/
def TxEntry.serves (e : TxEntry) (job : Nat) : Bool :=
  match e.use with
  | .downlink j _ => j == job
  | .page j => j == job
  | _ => false

/-- The transmissions of a pending downlink that still wait are withdrawn: each posts WITHDRAWN. -/
def State.downlinkPull (s : State) (job : Nat) : State :=
  foldOver (fun (e : TxEntry) (t : State) => t.txWithdraw e.tag) (s.txp.timed.filter fun e => e.serves job) s

/-- A part of a downlink's transmission has failed (R241, R243): of a Detour the attempt fails, once, and its other part is withdrawn. -/
def State.downlinkFail (s : State) (d : Downlink) (mode : Nat) : State :=
  if d.plan ≠ some mode then s
  else if mode = 2 then (s.setDownlink { d with plan := none, tries := d.tries + 1 }).downlinkPull d.job
  else s.setDownlink { d with plan := none }

/-- The result of a downlink's transmission (R241, R243, R244). One of a downlink that has been replaced concerns none. -/
def State.downlinkResult (s : State) (job mode code : Nat) : State :=
  match s.frm.downlinks.find? fun d => d.job == job with
  | none => s
  | some d =>
    if code = 0 then (((s.dropDownlink d.src).frmCount (12 + mode)).complete d.job .ok [BitVec.ofNat 8 mode]) else s.downlinkFail d mode

/-- The result of a Detour's wake pattern (R243). -/
def State.pageResult (s : State) (job code : Nat) : State :=
  match s.frm.downlinks.find? fun d => d.job == job with
  | none => s
  | some d => if code = 0 then s else s.downlinkFail d 2

/-- A failed Detour attempt is made again, three in all (R243). -/
def State.detourRetry (s : State) (src : Nat) : State :=
  match s.frm.downlinks.find? fun d => d.src == src with
  | none => s
  | some d => if d.plan.isNone && 0 < d.tries && d.tries < 3 then s.detour d else s

/-- A pending downlink leaves the list before it has aired: its transmissions are withdrawn and its command completes (R240,
R244). -/
def State.downlinkEnd (s : State) (src : Nat) (st : Status) : State :=
  match s.frm.downlinks.find? fun d => d.src == src with
  | none => s
  | some d =>
    ((s.dropDownlink src).downlinkPull d.job).complete d.job st

/-- The expiry of a downlink (R244). -/
def State.downlinkExpire (s : State) (src : Nat) : State :=
  if s.frm.downlinks.any fun d => d.src == src then (s.frmCount 15).downlinkEnd src .timeout else s

end Sys2Proof.Machine
end

