-- ==== Sys2Proof/Machine/SchedOps.lean ====
section
/-! DEFINITION. The scheduler: queues, pushes, weighted fair queueing, token buckets, gates and radio offers (R307 to R325). -/

namespace Sys2Proof.Machine

def State.queue (s : State) (q : Nat) : List SchedEntry := Tab.getD s.sched.queues q []
def State.setQueue (s : State) (q : Nat) (l : List SchedEntry) : State := s.onSched fun d => { d with queues := Tab.putD d.queues q [] l }

/-- Free slots of the pool (R308). -/
def State.poolFree (s : State) : Nat := 4096 - (s.sched.queues.foldl (fun a e => a + e.2.length) 0)

def State.schedRuns (s : State) : Bool := s.flag F.SCHED_STAT_RUNNING
def isRadioQ (q : Nat) : Bool := 128 ≤ q

/-- The owner of a queue; radio queues belong to CL0. -/
def State.queueOwner (s : State) (q : Nat) : Nat := if isRadioQ q then 0 else ownerNum (s.fld F.SCHED_Q_CFG_OWNER q)

def State.queueRate (s : State) (q : Nat) : Nat := min 50000 (s.inFld F.SCHED_Q_RATE_RATE q)

/-- The capacity of a bucket in 0.01 bit units (R316). -/
def State.bucketCap (s : State) (q : Nat) : Int := (min 1048576 (max 1 (s.inFld F.SCHED_Q_BURST_BURST q)) : Nat) * 800

/-- The count of a bucket: 0 until the scheduler first starts, when every bucket is full (R317, SCHED_Q_q_TOKENS; DEDUCED, log entry
181). -/
def State.bucket (s : State) (q : Nat) : Int := Tab.getD s.sched.tokens q (if s.sched.started then s.bucketCap q else 0)

/-- The virtual time of a queue's band (R313). -/
def State.vtime (s : State) (q : Nat) : Nat := Tab.getD s.sched.vtime (s.queueBand q + 8 * serverOf q) 0

/-- Whether tag a precedes tag b (R313). -/
def precedes (a b : Nat) : Bool := (b + 4294967296 - a) % 4294967296 < 2147483648

/-- Committed entries of a queue. -/
def State.committed (s : State) (q : Nat) : Bool := (s.queue q).any fun e => e.held.isNone

/-! ## Pushes -/

/-- Whether a line queue's unit or entry is about: the running condition of its configuration. -/
def State.queueInUse (s : State) (q : Nat) : Bool := !(s.queue q).isEmpty || s.sched.units.any fun u => u.2.1 == q

/-- Why a push or an ENQ_LINE is refused (R308, R532): 1 NOT_OWNER, 2 POOL_EMPTY, 3 LIMIT, 4 BAD_FIELD. -/
def State.pushRefusal (s : State) (cl q addr len : Nat) : Option Nat :=
  let fields := if isRadioQ q then len == 0 && addr % 16 == 0 && 0x20000000 ≤ addr && addr + 16 ≤ 0x20440000
    else addr % 4 == 0 && 1 ≤ len && len ≤ 8192
  let lim := s.fld F.SCHED_Q_CFG_LIMIT q
  if q ≥ 144 then some 4
  else if s.queueOwner q ≠ cl then some 1
  else if !fields then some 4
  else if s.poolFree = 0 then some 2
  else if lim ≠ 0 ∧ (s.queue q).length ≥ lim then some 3
  else none

/-- A queue wakes as its first entry is committed (R314). -/
def State.wakeQueue (s : State) (q : Nat) (was : Bool) : State :=
  if !was && s.committed q then s.setVtag q (s.vtime q) else s

/-- Append an entry. -/
def State.append (s : State) (q : Nat) (e : SchedEntry) : State :=
  (s.setQueue q (s.queue q ++ [e])).wakeQueue q (s.committed q)

/-- A push of this cycle counts from the next choice on (R325). -/
def State.freshen (s : State) (q : Nat) : State := s.onSched fun d => { d with fresh := Tab.put d.fresh q (Tab.getD d.fresh q 0 + 1) }

/-- A push by a cluster, with its outcome in the cluster's SCHED_PUSH_RES (R308). -/
def State.push (s : State) (cl q addr len : Nat) : State :=
  match s.pushRefusal cl q addr len with
  | some e => s.setReg .SCHED_PUSH_RES cl (BitVec.ofNat 32 (e * 16777216 + (s.queue q).length))
  | none =>
    let s1 := (s.append q ⟨addr, len, none⟩).freshen q
    s1.setReg .SCHED_PUSH_RES cl (BitVec.ofNat 32 (0x80000000 + (s1.queue q).length))

/-- Entries of a milestone action become eligible (R257). -/
def State.entriesCommit (s : State) (k a : Nat) : State :=
  foldOver (fun (q : Nat) (t : State) =>
    if (t.queue q).any fun e => e.held == some (k, a) then
      (t.setQueue q ((t.queue q).map fun e => if e.held = some (k, a) then { e with held := none } else e)).wakeQueue q (t.committed q)
    else t) (Tab.keys s.sched.queues) s

/-- Entries of a milestone are removed (R250). -/
def State.entriesDrop (s : State) (k : Nat) : State :=
  foldOver (fun (q : Nat) (t : State) => t.setQueue q ((t.queue q).filter fun e => match e.held with
    | some (j, _) => j != k
    | none => true)) (Tab.keys s.sched.queues) s

/-! ## Gates -/

/-- Key of list L of port n, and of its entry k. -/
def glKey (n l : Nat) : Nat := n * 2 + l
def State.gclDur (s : State) (n l k : Nat) : Nat := max 1 (s.fld F.SCHED_GCL_DUR ((n * 2 + l) * 64 + k))
def State.gclState (s : State) (n l k : Nat) : Nat := s.fld F.SCHED_GCL_STATE ((n * 2 + l) * 64 + k)
def State.glLen (s : State) (n l : Nat) : Nat := min 64 (max 1 (s.fld F.SCHED_GL_LEN_LEN (glKey n l)))
def State.glCycle (s : State) (n l : Nat) : Nat := max 1000 (s.fld F.SCHED_GL_CYCLE_CYCLE (glKey n l))

/-- BASE of a list in ticks. -/
def State.glBase (s : State) (n l : Nat) : Nat :=
  s.fld F.SCHED_GL_BASESEC_SEC (glKey n l) * 100000000 + s.fld F.SCHED_GL_BASETICK_TICK (glKey n l)

def State.activeList (s : State) (n : Nat) : Nat := s.fld F.SCHED_GATE_CTRL_ACTIVE n

/-- The offset of an instant in the cycle of a list (R319). -/
def State.cyclePos (s : State) (n l t : Nat) : Nat := (((t : Int) - s.glBase n l) % (s.glCycle n l : Int)).toNat

/-- The entry in force at an offset: scan from entry k, which begins at b, with m entries left (R319). -/
def State.entryScan (s : State) (n l pos : Nat) : Nat → Nat → Nat → Nat
  | 0, k, _ => k - 1
  | m + 1, k, b => if pos < b + s.gclDur n l k ∨ m = 0 then k else s.entryScan n l pos m (k + 1) (b + s.gclDur n l k)

/-- The entry in force at an instant. -/
def State.entryAt (s : State) (n l t : Nat) : Nat := s.entryScan n l (s.cyclePos n l t) (s.glLen n l) 0 0

/-- Whether a band is open over the offsets a to b - 1 of one cycle: scan from entry k at offset at. -/
def State.openScan (s : State) (n l band a b : Nat) : Nat → Nat → Nat → Bool
  | 0, _, _ => true
  | m + 1, k, start =>
    let stop := if m = 0 then max (s.glCycle n l) (start + 1) else start + s.gclDur n l k
    (!(start < b && a < stop) || bit (s.gclState n l k) band) && s.openScan n l band a b m (k + 1) stop

/-- Whether a band is open from an instant for a length (R320). -/
def State.bandOpen (s : State) (n band t len : Nat) : Bool :=
  if !s.flag F.SCHED_GATE_CTRL_GATE_EN n then true
  else
    let l := s.activeList n
    let c := s.glCycle n l
    let p := s.cyclePos n l t
    let m := s.glLen n l
    if len ≥ c then s.openScan n l band 0 c m 0 0
    else s.openScan n l band p (min c (p + len)) m 0 0 && s.openScan n l band 0 (p + len - c) m 0 0

/-- The gates of a port follow network time (R319): GATE_n_STAT, with the event of a new entry (R364). -/
def State.gateMove (s : State) (n : Nat) : State :=
  let l := s.activeList n
  let k := s.entryAt n l s.nt
  let m := s.gclState n l k
  let s1 := (s.setFld F.SCHED_GATE_STAT_ENTRY k n).setFld F.SCHED_GATE_STAT_STATE_CUR m n
  if s.fld F.SCHED_GATE_STAT_ENTRY n = k then (if s.fld F.SCHED_GATE_STAT_STATE_CUR n = m then s else s1) else s1.publish (210 + n)

/-- The first cycle start of the inactive list at least 10 us from now (R321). -/
def State.swapTime (s : State) (n : Nat) : Nat :=
  let l := 1 - s.activeList n
  let t := s.nt + 1000
  let p := s.cyclePos n l t
  if p = 0 then t else t + (s.glCycle n l - p)

/-- A SWAP is planned (R321). -/
def State.gateSwapPlan (s : State) (n : Nat) : State :=
  (s.setFld F.SCHED_GATE_CTRL_SWAP_PEND 1 n).onSched fun d => { d with swapAt := Tab.put d.swapAt n (s.swapTime n) }

/-- The planned swap takes effect: the list that is active now enters its entry (R321, R364). -/
def State.gateSwap (s : State) (n : Nat) : State :=
  if !s.flag F.SCHED_GATE_CTRL_SWAP_PEND n then s
  else
    let s1 := (s.setFld F.SCHED_GATE_CTRL_SWAP_PEND 0 n).setFld F.SCHED_GATE_CTRL_ACTIVE (1 - s.activeList n) n
    let s2 := (s1.onSched fun d => { d with swapAt := Tab.del d.swapAt n }).publish (213 + n)
    let k := s2.entryAt n (s2.activeList n) s2.nt
    if s2.fld F.SCHED_GATE_STAT_ENTRY n = k then (s2.gateMove n).publish (210 + n) else s2.gateMove n

/-- Whether a list is in use while the scheduler runs: the running condition of its registers (R9, R321). -/
def State.listInUse (s : State) (n l : Nat) : Bool :=
  s.flag F.SCHED_STAT_RUNNING && (s.activeList n == l || s.flag F.SCHED_GATE_CTRL_SWAP_PEND n)

/-! ## Refills -/

/-- A refill of a bucket, at which the waiting fields take effect (R316, R317). -/
def State.refillQueue (q : Nat) (s : State) : State :=
  let c := s.bucket q
  let s1 := ((s.boundary .SCHED_Q_CFG q).boundary .SCHED_Q_RATE q).boundary .SCHED_Q_BURST q
  let cap := s1.bucketCap q
  let v := min cap (min c cap + s1.queueRate q)
  s1.onSched fun d => { d with tokens := if v = cap && d.started then Tab.del d.tokens q else Tab.put d.tokens q v }

/-- A refill of every bucket (R316). While the scheduler is stopped there is none (R317). -/
def State.refillAll (s : State) : State :=
  (if s.schedRuns then foldOver State.refillQueue (List.range 144) s else s).onSched fun d => { d with refilled := s.nt / 1000 }

/-- The refill of a multiple of 1,000 ticks that network time has reached or passed (R316, R328): one, however many it passed. It comes
before every charge of its cycle (R325), and at the cycle's end at the latest. -/
def State.refillDue (s : State) : State := if s.nt / 1000 = s.sched.refilled then s else s.refillAll

/-! ## Choosing -/

/-- Whether a queue's bucket allows it (R316). -/
def State.bucketOk (s : State) (q : Nat) : Bool := s.queueRate q == 0 || 0 < s.bucket q

/-- Whether the head entry of a queue is committed, and was not pushed in this very cycle (R325). -/
def State.headReady (s : State) (q : Nat) : Bool :=
  match s.queue q with
  | e :: l => e.held.isNone && decide (Tab.getD s.sched.fresh q 0 ≤ l.length)
  | [] => false

/-- Whether another unit of the same type is in progress on the queue's port (R310). -/
def State.unitBars (s : State) (q : Nat) : Bool :=
  match Tab.find s.sched.units (serverOf q * 2 + s.fld F.SCHED_Q_CFG_UTYPE q) with
  | some (r, _) => r != q
  | none => false

/-- The best queue of a list by band and start tag (R312, R313). -/
def State.bestQueue (s : State) (l : List Nat) : Option Nat :=
  l.foldl (fun best q => match best with
    | none => some q
    | some b =>
      if s.queueBand q < s.queueBand b then some q
      else if s.queueBand q = s.queueBand b ∧ s.vtag q ≠ s.vtag b ∧ precedes (s.vtag q) (s.vtag b) then some q
      else some b) none

/-- A queue that its bucket or gate has held comes back with the later of its tag and V (R314). -/
def State.unbar (s : State) (q : Nat) (ok : Bool) : State :=
  if ok then
    if s.sched.barred.contains q then
      (s.setVtag q (if precedes (s.vtag q) (s.vtime q) then s.vtime q else s.vtag q)).onSched fun d =>
        { d with barred := d.barred.filter (· != q) }
    else s
  else s.onSched fun d => { d with barred := if d.barred.contains q then d.barred else d.barred ++ [q] }

/-- The choice for a block boundary of a line port that the boundary leaves free (R311 to R314, R320): the boundary lies 320 ns
ahead; `len` is the block time in ticks. -/
def State.schedPick (s : State) (n len : Nat) : Option Nat × State :=
  if !s.schedRuns then (none, s)
  else
    let s0 := s.refillDue
    let qs := (List.range 64).map (· + 64 * n)
    let ready := qs.filter s0.headReady
    let gate := fun (t : State) (q : Nat) => t.bandOpen n (t.queueBand q) (t.nt + 32) len
    let s := foldOver (fun (q : Nat) (t : State) =>
      let g := gate t q
      (t.setFlag F.SCHED_Q_STAT_HELD_GATE (!g) q).unbar q (g && t.bucketOk q)) ready s0
    let idle := qs.filter fun q => !s0.headReady q && s0.flag F.SCHED_Q_STAT_HELD_GATE q
    let s2 := foldOver (fun (q : Nat) (t : State) => t.setFld F.SCHED_Q_STAT_HELD_GATE 0 q) idle s
    (s.bestQueue (ready.filter fun q => gate s q && s.bucketOk q && !s.unitBars q), s2)

/-- n bytes of an entry from an offset; a buffer that starts in the record ring wraps at its end (R309). -/
def State.entryBytes (s : State) (addr off n : Nat) : Bytes :=
  (List.range n).map fun i =>
    let a := addr + off + i
    s.byte (if 0x20400000 ≤ addr ∧ addr < 0x20438000 ∧ 0x20438000 ≤ a then a - 0x38000 else a)

/-- The chosen queue sends one block of its head unit (R309, R311, R313, R315, R316): the block, and whether it was the last of a
record, by its address. -/
def State.schedSend (s : State) (q : Nat) : Option Block × State :=
  match s.queue q with
  | [] => (none, s)
  | e :: rest =>
    let ut := s.fld F.SCHED_Q_CFG_UTYPE q
    let key := serverOf q * 2 + ut
    let done := match Tab.find s.sched.units key with
      | some (_, k) => k
      | none => 0
    let n := min 120 (e.length - 120 * done)
    let last := 120 * (done + 1) ≥ e.length
    let b : Block := { typ := if ut = 0 then 1 else 6, bseq := done % 16, last, first := done == 0, hops := 63,
                       addr := (s.inReg .FRM_NODE).toNat, payload := s.entryBytes e.addr (120 * done) n }
    let s1 := (s.serve q 1024).chargeQueue q 1024
    let s2 := if last then (s1.setQueue q rest).onSched fun d => { d with units := Tab.del d.units key }
      else s1.onSched fun d => { d with units := Tab.put d.units key (q, done + 1) }
    (some b, s2)

/-! ## Results, starts and flushes -/

/-- The radio result of an entry (R324, R364). -/
def State.pushRResult (s : State) (q code addr : Nat) : State :=
  (s.onSched fun d =>
    let l := d.results ++ [BitVec.ofNat 32 (0x80000000 + code * 16777216 + (q - 128) * 65536 + addr % 65536)]
    { d with results := if l.length > 64 then l.drop (l.length - 64) else l }).publish 212

/-- A read of SCHED_RRESULT. -/
def State.rresultRead (s : State) : Word × State :=
  match s.sched.results with
  | [] => (0, s)
  | w :: l => (w, s.onSched fun d => { d with results := l })

/-- The head entry of a radio queue leaves with a result (R324). -/
def State.radioEnd (s : State) (q code : Nat) : State :=
  match s.queue q with
  | [] => s
  | e :: rest =>
    ((s.setQueue q rest).pushRResult q code e.addr).onSched fun d =>
      { d with tries := Tab.del d.tries q, backoff := d.backoff.filter (· != q),
               offer := if d.offer = some q then none else d.offer }

/-- Whether the head of a radio queue is in its excursion, and before or after A (R324). -/
def State.radioInAir (s : State) (q : Nat) : Option Bool :=
  (s.txp.exc.find? fun x => match x.2.entry with
    | some e => e.use == .sched q
    | none => false).map fun x => x.2.phase.airing

/-- The flush of a queue (R324, R325): committed entries that have not begun go; the bucket is full again. -/
def State.flushQueue (s : State) (q : Nat) : State :=
  let begun := if isRadioQ q then s.radioInAir q == some true else s.sched.units.any fun u => u.2.1 == q
  let l := s.queue q
  let keepHead := fun (i : Nat) => begun && i == 0
  let gone := (l.zipIdx).filter fun e => e.1.held.isNone && !keepHead e.2
  let stay := ((l.zipIdx).filter fun e => !(e.1.held.isNone && !keepHead e.2)).map Prod.fst
  let s1 := (s.setQueue q stay).onSched fun d =>
    { d with tokens := if d.started then Tab.del d.tokens q else Tab.put d.tokens q (s.bucketCap q) }
  if !isRadioQ q then s1
  else
    let s2 := match s1.txp.exc.find? fun x => match x.2.entry with
        | some e => e.use == .sched q && !x.2.phase.airing
        | none => false with
      | some (p, x) => (s1.release x).excBack p
      | none => s1
    let s3 := s2.onSched fun d => { d with offer := if d.offer = some q then none else d.offer, tries := Tab.del d.tries q,
                                           backoff := d.backoff.filter (· != q) }
    foldOver (fun (e : SchedEntry × Nat) (t : State) => t.pushRResult q 4 e.1.addr) gone s3

/-- RUN starts the scheduler; FRC keeps it stopped (SCHED_CTRL), and Roadside, where no frame and no line unit is sent (R123). At the
first start after a reset or DOZE every bucket is full (R317). -/
def State.schedGo (s : State) : State :=
  if !s.onPll || s.inRoadside then s
  else
    let s1 := (s.setFld F.SCHED_CTRL_RUN 1).setFld F.SCHED_STAT_RUNNING 1
    if s.sched.started then s1 else s1.onSched fun d => { d with started := true, tokens := [] }

def State.schedHalt (s : State) : State := (s.setFld F.SCHED_CTRL_RUN 0).setFld F.SCHED_STAT_RUNNING 0

/-- A write of SCHED_CTRL. -/
def State.schedCtrlWrite (s : State) (w : Word) : State :=
  let s1 := if bit w.toNat 8 then s.schedGo else s.schedHalt
  if bits w.toNat 31 30 = 1 ∧ bits w.toNat 7 0 < 144 then s1.flushQueue (bits w.toNat 7 0) else s1

/-- Every entry is lost without a result; the configuration and the registers stay (R325). -/
def State.schedLose (s : State) : State :=
  s.onSched fun d => { d with queues := [], tokens := [], vtime := [], units := [], offer := none, tries := [], backoff := [], barred := [], started := false }

/-- A cluster reset flushes that cluster's queues, of which uncommitted entries stay, and cuts a unit in progress (R325). -/
def State.schedClusterReset (s : State) (cl : Nat) : State :=
  foldOver (fun (q : Nat) (t : State) => if t.queueOwner q = cl then
      (t.setQueue q ((t.queue q).filter fun e => e.held.isSome)).onSched fun d =>
        let tokens := if d.started then Tab.del d.tokens q else Tab.put d.tokens q (t.bucketCap q)
        { d with units := d.units.filter (fun u => u.2.1 != q), tokens } else t)
    (List.range 128) s

/-- The port left UP: a unit in progress restarts from its first block (R325). -/
def State.unitsRestart (s : State) (n : Nat) : State := s.onSched fun d => { d with units := d.units.filter fun u => u.1 / 2 != n }

/-! ## Radio queues -/

/-- The transmit entry of a radio queue's head (R322): CLASS, HARD_START and LATE_OK of its descriptor are ignored. -/
def State.radioEntry (s : State) (q : Nat) : Option TxEntry :=
  match s.queue q with
  | [] => none
  | e :: _ =>
    let w := fun k => s.word (e.addr + 4 * k)
    let x := s.txEntry (.sched q) (w 0) (w 1) (w 2) (w 3)
    let body := if s.txFieldsOk (w 0) (w 1) (w 2) ((w 3 &&& 0xFF8FFFFF#32) ||| 0x00500000#32) then TxBody.buffer (w 2).toNat else .frame []
    some { x with tag := q, cls := 5, fast := bit (w 3).toNat 19, hard := false, lateOk := false, body, tries := Tab.getD s.sched.tries q 0, waiting := s.sched.backoff.contains q }

/-- Whether the descriptor of a radio queue's head is one the transmit path takes (R194, R324): a port that is enabled, whose ramp steps
fit its table, a profile that is valid, and fields within their ranges. -/
def State.radioValid (s : State) (e : TxEntry) : Bool :=
  (match e.body with
    | .buffer _ => true
    | _ => false) && s.portEnabled e.port && s.ptValid e.profile && s.upLen e.port + s.dnLen e.port ≤ 8

/-- Whether the ledger covers an entry, or its sub-band sets no limit (R322). -/
def State.ledgerCovers (s : State) (e : TxEntry) : Bool :=
  match s.txBand e with
  | some k => s.rgnDuty k == 10000 || s.airUnits e ≤ s.ledger k
  | none => true

/-- Whether the head of a radio queue is eligible (R322). -/
def State.radioEligible (s : State) (q : Nat) : Bool :=
  s.headReady q && s.bucketOk q && !s.sched.backoff.contains q &&
  match s.radioEntry q with
  | none => false
  | some e => s.ledgerCovers e && s.launchReached e

/-- Whether a scheduled entry is on its excursion. -/
def State.radioOut (s : State) : Bool :=
  s.txp.exc.any fun x => match x.2.entry with
    | some e => match e.use with
      | .sched _ => true
      | _ => false
    | none => false

/-- Choose the radio entry to offer (R323). An entry on its excursion is the one offered until its result (DEDUCED, log entry 207). -/
def State.radioOffer (s0 : State) : State :=
  if !s0.schedRuns || s0.radioOut then s0
  else
    let ready := ((List.range 16).map (· + 128)).filter s0.headReady
    let s := foldOver (fun (q : Nat) (t : State) => t.unbar q (t.bucketOk q)) ready s0
    s.onSched fun d => { d with offer := s.bestQueue (ready.filter s.radioEligible) }

/-- The choice is due again: a timed entry has ended, or the offered entry's launch was not taken (R323). -/
def State.offerDue (s : State) : State := s.onSched fun d => { d with again := true }

/-- The choice that is due is made. -/
def State.offerAgain (s : State) : State :=
  if s.sched.again then (s.onSched fun d => { d with again := false }).radioOffer else s

/-- The offered entry at its launch point (R201, R323, R324): an entry the transmit path cannot take leaves with INVALID. -/
def State.radioLaunch (s : State) : State :=
  if !s.schedRuns || s.radioOut then s
  else match s.sched.offer with
    | none => s
    | some q => match s.radioEntry q with
      | none => (s.onSched fun d => { d with offer := none }).offerDue
      | some e =>
        if !s.radioValid e then (s.radioEnd q 7).offerDue
        else if !s.portFree e.port then s
        else
          let s1 := s.txLaunch e
          if s1.launched e then s1 else s1.offerDue

/-- The result of a radio entry (R324): one that aired, failed, or was cut under R529 leaves its queue. -/
def State.radioResult (s : State) (q code : Nat) : State :=
  if code = 0 ∨ code = 3 ∨ code = 4 ∨ code = 5 ∨ code = 7 then s.radioEnd q code else s

end Sys2Proof.Machine
end

