-- ==== Sys2Proof/Machine/MsuOps.lean ====
section
/-! DEFINITION. The milestone unit: opening, actions, claims, commit, the journal ring and the receive template (R247 to R277). -/

namespace Sys2Proof.Machine

/-- The commit record slot of a milestone in journal SRAM (R266). -/
def slotBase (k : Nat) : Nat := 0x20438000 + k * 512

/-! ## Milestones -/

def State.mile (s : State) (k : Nat) : Option Milestone := Tab.find s.msu.ms k
def State.setMile (s : State) (k : Nat) (m : Milestone) : State := s.onMsu fun u => { u with ms := Tab.put u.ms k m }
def State.mileState (s : State) (k : Nat) : Nat := s.fld F.MSU_MS_STAT_STATE k
def State.mileOwner (s : State) (k : Nat) : Nat := s.fld F.MSU_MS_STAT_OWNER k

/-- Numbers from here to 63 serve the frame engine (R248). -/
def State.feLow (s : State) : Nat :=
  let v := s.fld F.MSU_TPL_CFG_FE_RESERVE
  64 - (if v < 8 then 8 else if v > 56 then 56 else v)

/-- The lowest free milestone from lo to hi - 1. -/
def State.mileFree (s : State) (lo hi : Nat) : Option Nat := leastBelow (fun k => lo ≤ k && s.mileState k == 0) hi

/-- Open milestone k (R247, R248): results of its last life are cleared. -/
def State.openMile (s : State) (k owner policy : Nat) (m : Milestone) : State :=
  (s.setReg .MSU_MS_STAT k (BitVec.ofNat 32 (owner * 4194304 + policy * 2097152 + 1))).setMile k m

/-- A firmware or HCP opening (R55, R248, R270): none while an entry to a lower state or a replay stops it. -/
def State.msuOpenFor (s : State) (cl policy : Nat) (tp : Option Tp) : Option (Nat × State) :=
  if s.pwr.entry.isSome || s.msu.replay.isSome then none
  else (s.mileFree 0 s.feLow).map fun k => (k, s.openMile k cl policy { tp })

/-- A read of MSU_OPEN (R248). -/
def State.msuOpenRead (s : State) (cl : Nat) : Word × State :=
  match s.msuOpenFor cl 0 none with
  | some (k, t) => (BitVec.ofNat 32 (0x80000000 + k), t)
  | none => (0, if s.msu.replay.isSome then s else s.setFld F.MSU_STAT_OPEN_FAIL 1)

/-- A milestone becomes FREE with a result (R250, R262, R364): its record slot is closed, its context released, its command
completed. -/
def State.mileEnd (s : State) (k result : Nat) (st : Status) : State :=
  let s1 := ((s.setFld F.MSU_MS_STAT_STATE 0 k).setFld F.MSU_MS_STAT_LAST_RESULT result k).setFld F.MSU_MS_STAT_ACTIONS 0 k
  let s2 := ((s1.onMsu fun u => { u with ms := Tab.del u.ms k }).publish 198).setByte (slotBase k + 4) 0
  match s.mile k with
  | none => s2
  | some m =>
    let s3 := match m.ctx with
      | some c => s2.ctxFree c
      | none => s2
    foldOver (fun (j : Nat) (t : State) => t.complete j st) m.jobs s3

/-- Abort an OPEN or WAITING milestone (R250): radio descriptors are withdrawn, line entries removed, claims released. -/
def State.mileAbort (s : State) (k result : Nat) (st : Status) : State :=
  match s.mile k with
  | none => s
  | some m =>
    let s1 := (s.entriesDrop k).mileEnd k result st
    foldOver (fun (a : Action) (t : State) => match a.tag with
      | some g => t.txWithdraw g
      | none => t) m.actions s1

/-! ## Claims (R254, R259) -/

def Action.kind (a : Action) : Nat := bits a.w0.toNat 31 28
def Action.target (a : Action) : Nat := bits a.w0.toNat 15 0
def Action.isOptional (a : Action) : Bool := bit a.w0.toNat 27

/-- The target an action claims: a TVAR, a timer, a group or a flash line (R254). -/
def Action.claimed (a : Action) : Option (Nat × Nat) :=
  match a.kind with
  | 1 => some (1, a.target)
  | 5 => some (5, a.target)
  | 7 => some (7, a.target)
  | 8 => some (8, a.w1.toNat / 32)
  | _ => none

/-- Milestones with an earlier claim on a target of milestone k: those its commit waits for. -/
def State.waitsOn (s : State) (k : Nat) : List Nat :=
  match s.mile k with
  | none => []
  | some m => Tab.keys (Tab.keep s.msu.ms fun j n => j != k && m.actions.any fun a => a.claimed.isSome &&
      n.actions.any fun b => b.claimed == a.claimed && b.claim < a.claim)

/-- The milestones that milestone k waits on, directly or in n more hops. -/
def State.reaches (s : State) : Nat → Nat → List Nat
  | 0, _ => []
  | n + 1, k => let l := s.waitsOn k
    l ++ l.flatMap fun j => s.reaches n j

/-- Whether milestone i waits, through others, on milestone k. Paths are followed over a growing set of milestones. -/
def State.waitClosure (s : State) : Nat → List Nat → List Nat
  | 0, l => l
  | n + 1, l => s.waitClosure n ((List.range 64).filter fun j => l.contains j || l.any fun i => (s.waitsOn i).contains j)

/-- Other milestones that hold a target. -/
def State.holders (s : State) (k : Nat) (t : Nat × Nat) : List Nat :=
  Tab.keys (Tab.keep s.msu.ms fun j n => j != k && n.actions.any fun b => b.claimed == some t)

/-! ## Adding an action (R251 to R253, R532) -/

/-- Whether every field of an action lies in its range. -/
def State.actionFieldsOk (s : State) (a : Action) : Bool :=
  let w0 := a.w0.toNat
  let t := a.target
  let p1 := a.w1.toNat
  let p2 := a.w2.toNat
  let z2 := a.w2 == 0
  let z3 := a.w3 == 0
  bits w0 26 22 == 0 && (!a.isOptional || a.kind == 3) && z3 &&
  match a.kind with
  | 1 => t < 256
  | 2 => t == 0 && p1 % 4 == 0 && 32 ≤ p2 && p2 ≤ 2080 && p2 % 32 == 0
  | 3 => t == 0 && p1 % 16 == 0 && 0x20000000 ≤ p1 && p1 + 16 ≤ 0x20440000 && z2
  | 4 => t < 128 && p1 % 4 == 0 && 1 ≤ p2 && p2 ≤ 8192
  | 5 => t < 32 && z2
  | 6 => t < 256 && p1 == 0 && z2
  | 7 => t < 64 && p1 < 512 && z2
  | 8 => t == 0 && p1 % 32 == 0 && flashBase ≤ p1 && p1 < flashBase + s.partB * 1048576
  | _ => false

/-- The owner of a TVAR (R254). -/
def tvarOwner (k : Nat) : Nat := if k < 128 then 0 else if k < 192 then 1 else 2

/-- Whether a cluster may add an action (R252). -/
def State.actionRights (s : State) (cl : Nat) (a : Action) : Bool :=
  match a.kind with
  | 1 => tvarOwner a.target == cl
  | 4 => s.queueOwner a.target == cl
  | 5 => s.tmrOwner a.target == cl
  | 6 => s.chOwner a.target == cl
  | _ => cl == 0

/-- The outcome of an add: 0, or the ERR of R253; with 9, the code of the transmission's refusal. -/
structure AddResult where
  err : Nat
  tx : Nat := 0
  deriving DecidableEq, Repr

/-- Put an action into a milestone; the 32 bytes of a FLASH_REC go into the data area of its slot (R252, R267). -/
def State.putAction (s : State) (k : Nat) (a : Action) : State :=
  match s.mile k with
  | none => s
  | some m =>
    let s1 := if a.kind = 8 then s.setBytes (slotBase k + 0x120 + 32 * (m.actions.filter fun b => b.kind == 8).length) a.data else s
    ((s1.setMile k { m with actions := m.actions ++ [a] }).setFld F.MSU_MS_STAT_ACTIONS (m.actions.length + 1) k).onMsu fun u =>
      { u with nextClaim := u.nextClaim + 1 }

/-- The last checks of an add: the transmit path, the scheduler, and the claim, whose failure aborts the milestone (R253, R259). -/
def State.addLast (s : State) (cl k : Nat) (a : Action) : AddResult × State :=
  match a.kind with
  | 3 =>
    let w := fun i => s.word (a.w1.toNat + 4 * i)
    match s.txSubmit (s.txEntry (.milestone k a.claim) (w 0) (w 1) (w 2) (w 3)) (s.txFieldsOk (w 0) (w 1) (w 2) (w 3)) with
    | (.inl c, s1) => (⟨9, c⟩, s1)
    | (.inr t, s1) => (⟨0, 0⟩, s1.putAction k { a with tag := some t })
  | 4 => match s.pushRefusal cl a.target a.w1.toNat a.w2.toNat with
    | some 1 => (⟨4, 0⟩, s)
    | some 4 => (⟨3, 0⟩, s)
    | some _ => (⟨2, 0⟩, s)
    | none => (⟨0, 0⟩, (s.append a.target ⟨a.w1.toNat, a.w2.toNat, some (k, a.claim)⟩).putAction k a)
  | _ => match a.claimed with
    | none => (⟨0, 0⟩, s.putAction k a)
    | some t =>
      let h := s.holders k t
      if h.isEmpty then (⟨0, 0⟩, s.putAction k a)
      else if (s.waitClosure 64 h).contains k then (⟨7, 0⟩, s.mileAbort k 3 .conflict)
      else if s.flag F.MSU_MS_STAT_POLICY k then (⟨6, 0⟩, s.mileAbort k 3 .conflict)
      else (⟨0, 0⟩, s.putAction k a)

/-- Whether a requester may use a milestone: OPEN, without a commit request, owned by its cluster and bound to its transport
(R155, R249). -/
def State.mileUsable (s : State) (cl : Nat) (tp : Option Tp) (k : Nat) : Bool :=
  s.mileState k == 1 && s.mileOwner k == cl && match s.mile k with
  | some m => m.request.isNone && (tp.isNone || m.tp == tp)
  | none => false

/-- An add by a cluster or a transport (R253). -/
def State.msuAdd (s : State) (cl : Nat) (tp : Option Tp) (w0 w1 w2 w3 : Word) : AddResult × State :=
  let k := bits w0.toNat 21 16
  let a : Action := { w0, w1, w2, w3, claim := s.msu.nextClaim, data := if bits w0.toNat 31 28 = 8 then s.bytes w2.toNat 32 else [] }
  match s.mile k with
  | none => (⟨1, 0⟩, s)
  | some m =>
    if !s.mileUsable cl tp k then (⟨1, 0⟩, s)
    else if !s.actionFieldsOk a then (⟨3, 0⟩, s)
    else if !s.actionRights cl a then (⟨4, 0⟩, s)
    else if m.actions.length ≥ 16 ∨ (a.kind = 8 ∧ (m.actions.filter fun b => b.kind == 8).length ≥ 7) then (⟨2, 0⟩, s)
    else if a.claimed.isSome && m.actions.any (fun b => b.claimed == a.claimed) then (⟨5, 0⟩, s)
    else if a.kind = 2 ∧ !s.flag F.SYSCTL_LMSTAT_ARMED then (⟨8, 0⟩, s)
    else if a.kind = 7 ∧ !s.slotHolds a.target (bits w1.toNat 7 0) then (⟨3, 0⟩, s)
    else s.addLast cl k a

/-- MSU_CMD: a command that is ignored. -/
def State.msuCmdErr (s : State) : State := s.setFld F.MSU_STAT_CMD_ERR 1

/-- A write of MSU_ACT3: the add, with its outcome in the cluster's MSU_ADD_RES; one on another owner's milestone sets CMD_ERR
(R249, R253). -/
def State.msuActWrite (s : State) (cl : Nat) (w3 : Word) : State :=
  let w0 := s.reg .MSU_ACT (cl * 4)
  let (r, s1) := s.msuAdd cl none w0 (s.reg .MSU_ACT (cl * 4 + 1)) (s.reg .MSU_ACT (cl * 4 + 2)) w3
  let k := bits w0.toNat 21 16
  let held := s1.fld F.MSU_MS_STAT_ACTIONS k
  (if s.mileState k ≠ 0 ∧ s.mileOwner k ≠ cl then s1.msuCmdErr else s1).setReg .MSU_ADD_RES cl (BitVec.ofNat 32 ((if r.err = 0 then 0x80000000 else r.err * 16777216) + held))

/-! ## The journal ring (R266, R268) -/

def ringBase : Nat := 0x20400000
def ringSize : Nat := 229376

/-- Store bytes into the ring from an offset, wrapping at its end. -/
def State.ringWrite (s : State) : Nat → Bytes → State
  | _, [] => s
  | o, b :: l => (s.setByte (ringBase + o % ringSize) b).ringWrite (o + 1) l

/-- n bytes of the ring from an offset. -/
def State.ringRead (s : State) : Nat → Nat → Bytes
  | _, 0 => []
  | o, n + 1 => s.byte (ringBase + o % ringSize) :: s.ringRead (o + 1) n

/-- Ring bytes in use. -/
def ringUsed (l : List RingRec) : Nat := l.foldl (fun a r => a + r.length) 0

/-- Free ring bytes (R268). -/
def State.jfree (s : State) : Nat := ringSize - ringUsed s.msu.ring

/-- A record with its sequence number and header CRC (R237, R252). -/
def sealRecord (b : Bytes) (seq : Nat) : Bytes :=
  let h := b.take 4 ++ leBytes 4 seq ++ (b.drop 8).take 22
  h ++ leBytes 2 (crc16 h) ++ b.drop 32

/-- Append a record at the head (R257 step 2). -/
def State.jappend (s : State) (b : Bytes) : State :=
  let o := s.fld F.MSU_JHEAD_OFFSET
  let seq := (s.reg .MSU_JSEQ).toNat
  let s1 := s.ringWrite o (sealRecord b seq)
  let s2 := (s1.setFld F.MSU_JHEAD_OFFSET ((o + b.length) % ringSize)).setReg .MSU_JSEQ 0 (BitVec.ofNat 32 (seq + 1))
  let s3 := s2.onMsu fun u => { u with ring := u.ring ++ [⟨seq, o, b.length, false, false⟩] }
  s3.onErr fun e => { e with tel := { e.tel with jfreeMin := min e.tel.jfreeMin s3.jfree } }

/-- Drop the retired records at the tail. -/
def dropRetired : List RingRec → List RingRec
  | [] => []
  | r :: l => if r.retired then dropRetired l else r :: l

/-- Retire a record (R268). -/
def State.jretire (s : State) (seq : Nat) : State :=
  if s.msu.ring.any fun r => r.seq == seq && !r.retired then
    let l := dropRetired (s.msu.ring.map fun r => if r.seq = seq then { r with retired := true } else r)
    let tail := match l with
      | r :: _ => r.offset
      | [] => s.fld F.MSU_JHEAD_OFFSET
    (s.setFld F.MSU_JTAIL_OFFSET tail).onMsu fun u => { u with ring := l }
  else s.setFld F.MSU_STAT_RETIRE_ERR 1

/-- The RECORD queue that takes records now (R298): LP0's when LP0 faces the head end and is UP, else LP1's. -/
def State.recordQueue (s : State) : Option Nat :=
  let ok := fun p => s.lpUp p && s.inFld F.LP_CFG_UPSTREAM p == 1
  if ok 0 then some s.sched.recQueue else if ok 1 then some (64 + s.sched.recQueue) else none

/-- The frame service pushes a record to its queue (R298, R310). -/
def State.pushRecord (r : RingRec) (s : State) : State :=
  match s.recordQueue with
  | none => s
  | some q => match s.pushRefusal 0 q (ringBase + r.offset) r.length with
    | some _ => s
    | none => (s.push 0 q (ringBase + r.offset) r.length).onMsu fun u =>
        { u with ring := u.ring.map fun x => if x.seq = r.seq then { x with queued := true } else x }

/-- The frame service pushes every record that waits, oldest first (R298). -/
def State.forwardRecords (s : State) : State := foldOver State.pushRecord (s.msu.ring.filter fun r => !r.queued && !r.retired) s

/-- A record unconfirmed after 10 s is pushed again (R298), or waits again where no port or queue takes it now. -/
def State.recordTimeout (s : State) (seq : Nat) : State :=
  match s.msu.ring.find? fun r => r.seq == seq && !r.retired && r.queued with
  | some r => State.pushRecord r (s.onMsu fun u => { u with ring := u.ring.map fun x => if x.seq = seq then { x with queued := false } else x })
  | none => s

/-! ## Commit (R257 to R261) -/

/-- The journal room that a milestone's commit takes. -/
def State.journalNeed (m : Milestone) : Nat :=
  m.actions.foldl (fun n a => if a.kind = 2 then n + a.w2.toNat else n) 0

/-- Whether an earlier request waits for room that the journal lacks, or has lacked until it runs (R265). -/
def State.earlierAppend (s : State) (k r : Nat) : Bool :=
  s.msu.ms.any fun e => e.1 != k && (State.journalNeed e.2 > s.jfree || e.2.roomWait) && match e.2.request with
    | some q => q < r && s.mileState e.1 != 3
    | none => false

/-- Whether claims or missing journal room hold a milestone back (R247, R259, R265). -/
def State.mileHeld (s : State) (k : Nat) (m : Milestone) : Bool :=
  let need := State.journalNeed m
  !(s.waitsOn k).isEmpty || (need != 0 && (need > s.jfree || match m.request with
    | some r => s.earlierAppend k r
    | none => false))

/-- The commit that the MSU has accepted: of those whose holds have cleared, the one whose cleared first, and of several in one cycle the
lowest number (R257; that the row MILESTONE_COMMIT acts on it alone is DEDUCED, log entry 177). -/
def State.commitHead (s : State) : Option Nat :=
  (s.msu.ms.foldl (fun (b : Option (Nat × Nat)) e => match e.2.ready, b with
    | none, _ => b
    | some q, none => some (q, e.1)
    | some q, some (p, j) => if q < p || (q == p && e.1 < j) then some (q, e.1) else b) none).map Prod.snd

/-- Note whether the holds of a requested commit have cleared (R247, R257): one that they hold back is WAITING. -/
def State.readyOne (k : Nat) (s : State) : State :=
  match s.mile k with
  | none => s
  | some m =>
    if m.request.isNone || (s.mileState k != 1 && s.mileState k != 2) then s
    else if !s.mileHeld k m then (if m.ready.isSome then s else s.setMile k { m with ready := some s.cyc })
    else
      let s1 := s.setMile k { m with ready := none, roomWait := m.roomWait || (s.waitsOn k).isEmpty }
      if s.mileState k = 1 then (s1.boundary .MSU_CFG).setFld F.MSU_MS_STAT_STATE 2 k else s1

/-- Note it for every milestone. -/
def State.msuReady (s : State) : State := foldOver State.readyOne (Tab.keys s.msu.ms) s

/-- Request the commit of an OPEN milestone (R247, R257): without a hold it runs when its turn comes; with one, the milestone is
WAITING. -/
def State.mileRequest (s : State) (k : Nat) : State :=
  match s.mile k with
  | none => s
  | some m =>
    ((s.setMile k { m with request := some s.msu.nextRequest }).onMsu fun u => { u with nextRequest := u.nextRequest + 1 }).readyOne k

/-- Land one action within the commit (R252, R255): WRITE, ARM_TIMER, FIRE_EVENT, EPOCH_SWITCH, and the marks of transmissions
and line entries. -/
def State.land (k cl : Nat) (a : Action) (s : State) : State :=
  match a.kind with
  | 1 =>
    let old := s.reg .MSU_TVAR a.target
    s.setReg .MSU_TVAR a.target ((old &&& ~~~a.w2) ||| (a.w1 &&& a.w2))
  | 3 => match a.tag with
    | some t => s.txCommit t
    | none => s
  | 4 => s.entriesCommit k a.claim
  | 5 => if s.tmrOwner a.target = cl then s.tmrCount a.target a.w1 else s.setFld F.MSU_MS_STAT_LAND_ERR 1 k
  | 6 => if cl ≠ 0 ∧ s.chOwner a.target ≠ cl then (s.evfRefuse).setFld F.MSU_MS_STAT_LAND_ERR 1 k else s.evfFire cl a.target
  | 7 => s.epochWrite a.target a.w1
  | _ => s

/-- The action table of a commit record (R267). -/
def actionTable (l : List Action) : Bytes :=
  (padTo 256 (l.flatMap fun a => leBytes 4 a.w0.toNat ++ leBytes 4 a.w1.toNat ++ leBytes 4 a.w2.toNat ++ leBytes 4 a.w3.toNat)).take 256

/-- The data area of a commit record (R267). -/
def dataArea (l : List Action) : Bytes := (padTo 224 ((l.filter fun a => a.kind == 8).flatMap Action.data)).take 224

/-- A commit record slot (R267). -/
def commitRecord (csn k owner policy seq0 count : Nat) (sec : Word) (tick : Nat) (l : List Action) : Bytes :=
  let h := leBytes 4 csn ++ [0xC5#8, BitVec.ofNat 8 (k + owner * 64)]
  let r := [BitVec.ofNat 8 l.length, BitVec.ofNat 8 policy, 0#8, 0#8] ++ leBytes 4 seq0 ++ leBytes 2 count ++ zeros 2
    ++ leBytes 4 sec.toNat ++ leBytes 4 tick ++ zeros 2
  let body := actionTable l ++ dataArea l
  h ++ zeros 2 ++ r ++ leBytes 2 (crc16 (h ++ r ++ body)) ++ body

/-- The LANDED bits of actions after step 4 of their commit (R267). -/
def landedBits (l : List Action) : Nat := l.zipIdx.foldl (fun n e => n + b2n (e.1.kind != 8 || e.1.landed) * 2 ^ e.2) 0

/-- The bytes of the record that a JAPPEND copies. -/
def State.appendBytes (s : State) (a : Action) : Bytes :=
  if a.record.isEmpty then s.bytes a.w1.toNat a.w2.toNat else a.record

/-- The end of a milestone whose every action has landed (R257, R262). -/
def State.mileDone (s : State) (k : Nat) : State :=
  let bad := match s.mile k with
    | some m => m.flashErr
    | none => false
  s.mileEnd k 1 (if bad then .flashError else .ok)

/-! ## Delivery to the user clusters (R42, R45) -/

/-- The region of system SRAM assigned to a user cluster (R42). -/
def State.deliveryRegion (s : State) (cl : Nat) : Option Region :=
  s.core.regions.find? fun g => g.cluster == cl && g.base < 0x20400000

/-- CL0 hands a delivery record to a user cluster (R42): it lies in that cluster's region behind the record handed over before it, or at
the region's base where it does not fit there (log entry 161). -/
def State.deliver (x : Nat × Bytes) (s : State) : State :=
  match s.deliveryRegion x.1 with
  | none => s
  | some g =>
    let next := match Tab.find s.core.delivered x.1 with
      | some (a, n) => a + n
      | none => g.base
    let at_ := if next + x.2.length ≤ g.base + g.len then next else g.base
    if x.2.length > g.len then s
    else (s.setBytes at_ x.2).onCore fun c => { c with delivered := Tab.put c.delivered x.1 (at_, x.2.length) }

/-- The records that waited in system SRAM for RUN are handed over (R45). -/
def State.deliverWaiting (s : State) : State :=
  (foldOver State.deliver s.core.waitingRecords s).onCore fun c => { c with waitingRecords := [] }

/-- The delivery record of a committed frame (R42, R45, R245): to a user cluster, which one is free, in RUN; held in system SRAM in LISTEN.
The test role delivers nothing. -/
def State.deliverFrame (s : State) (b : Bytes) : State :=
  if s.rf.role = 2 then s
  else
    let (c, s1) := s.fresh 2
    if s1.userOn then s1.deliver (c + 1, b) else s1.onCore fun x => { x with waitingRecords := x.waitingRecords ++ [(c + 1, b)] }

/-- The commit of the milestone whose turn it is (R42, R257, R263, R270): steps 1 to 4, and for a journalled frame the plan of
its downlink, its delivery record and the push of its record. -/
def State.mileCommit (s : State) (k : Nat) : State :=
  match s.mile k with
  | none => s
  | some m =>
    if s.commitHead != some k || m.request.isNone || (s.mileState k != 1 && s.mileState k != 2) || s.mileHeld k m then s
    else if m.actions.any fun a => a.kind == 7 && !s.slotHolds a.target (bits a.w1.toNat 7 0) then s.mileAbort k 6 .badParam
    else
      let cl := s.mileOwner k
      let app := m.actions.filter fun a => a.kind == 2
      let seq0 := if app.isEmpty then 0xFFFFFFFF else (s.reg .MSU_JSEQ).toNat
      let csn := (s.reg .MSU_CSN).toNat
      let s1 := foldOver (fun (a : Action) (t : State) => t.jappend (s.appendBytes a)) app s
      let s2 := if m.actions.isEmpty then s1 else
        (s1.setBytes (slotBase k) (commitRecord csn k cl (s.fld F.MSU_MS_STAT_POLICY k) seq0 app.length s.ntSec s.ntTick
          m.actions)).setReg .MSU_CSN 0 (BitVec.ofNat 32 (csn + 1))
      let s3 := foldOver (State.land k (if cl = 3 then 0 else cl)) m.actions ((s2.setMile k { m with csn, ready := none }).publish 197)
      let s4 := (if m.actions.isEmpty then s3 else s3.setBytes (slotBase k + 6) (leBytes 2 (landedBits m.actions))).setFld
        F.MSU_MS_STAT_STATE 3 k
      let s5 := if m.actions.any fun a => a.kind == 8 then s4 else s4.mileDone k
      let s6 := match m.ctx with
        | some c => match Tab.find s.frm.ctxs c with
          | some x => if x.fresh then (s5.planDownlink x).onPwr fun p => { p with wurxFrame := true } else s5
          | none => s5
        | none => s5
      let s7 := foldOver (fun (e : Action × Nat) (t : State) =>
        if e.1.record.isEmpty then t else t.deliverFrame (sealRecord e.1.record (seq0 + e.2))) app.zipIdx s6
      if app.isEmpty then s7 else s7.forwardRecords

/-- A commit in progress completes (R101 step 3, R273). -/
def State.commitNow (s : State) : State := match s.commitHead with
  | some k => s.mileCommit k
  | none => s

/-- Pass the next FLASH_REC of a committed milestone to FLC, when its queue has room (R257 step 5, R437). -/
def State.flashRecPass (s : State) (k : Nat) : State :=
  match s.mile k with
  | none => s
  | some m =>
    if s.mileState k ≠ 3 ∨ s.flc.queue.length ≥ 8 then s
    else match m.actions.zipIdx.find? fun e => e.1.kind == 8 && !e.1.passed with
      | none => s
      | some (a, i) =>
        let (t, s1) := s.flcTag
        let data := (List.range 8).map fun w => BitVec.ofNat 32 (leNat ((a.data.drop (4 * w)).take 4))
        let c : FlcCmd := { tag := t, op := 1, nwords := 8, offset := a.w1.toNat - flashBase, data, src := 0, req := .msu (k * 16 + i) }
        (s1.onFlc fun f => { f with queue := f.queue ++ [c] }).setMile k
          { m with actions := m.actions.zipIdx.map fun e => if e.2 = i then { e.1 with passed := true } else e.1 }

/-- The result of a FLASH_REC (R255, R262, R267). -/
def State.flashRecDone (s : State) (rec code : Nat) : State :=
  let k := rec / 16
  let i := rec % 16
  match s.mile k with
  | none => s
  | some m =>
    let m1 := { m with flashErr := m.flashErr || code != 0,
                       actions := m.actions.zipIdx.map fun e => if e.2 = i then { e.1 with landed := true } else e.1 }
    let s1 := if code = 0 then s.setMile k m1 else (s.setMile k m1).setFld F.MSU_MS_STAT_LAND_ERR 1 k
    let s2 := s1.setBytes (slotBase k + 6) (leBytes 2 (landedBits m1.actions))
    if m1.actions.all fun a => a.kind != 8 || a.landed then s2.mileDone k else s2

/-! ## Results of transmissions (R256) -/

/-- The HCP status of a transmission's result (R218). -/
def State.txStatus (s : State) (code port : Nat) : Status :=
  match code with
  | 0 => .ok | 1 => .missedStart | 2 => .ledgerEmpty | 3 => .region | 4 => .aborted | 5 => .timeout | 6 => .noSpace
  | _ => if !s.portEnabled port || s.inRoadside || s.txpStopped then .notAvailable else .badParam

/-- A final result of a milestone's transmission before its commit point (R256): an optional action drops out, any other aborts the
milestone. From the acceptance of the commit on, and for an A in the cycle of the commit point, the action lands with that result and
LAND_ERR (R261). -/
def State.mileTxResult (s : State) (k : Nat) (e : TxEntry) (code : Nat) : State :=
  match s.mile k with
  | none => if !e.committed && s.fld F.MSU_MS_STAT_LAST_RESULT k == 1 then s.setFld F.MSU_MS_STAT_LAND_ERR 1 k else s
  | some m =>
    if e.committed || !m.actions.any fun a => a.tag == some e.tag then s
    else if s.mileState k = 3 ∨ s.commitHead = some k then
      (s.setMile k { m with actions := m.actions.map fun a => if a.tag = some e.tag then { a with tag := none } else a }).setFld
        F.MSU_MS_STAT_LAND_ERR 1 k
    else if m.actions.any fun a => a.tag == some e.tag && a.isOptional then
      let l := m.actions.filter fun a => a.tag != some e.tag
      ((s.setMile k { m with actions := l }).setFld F.MSU_MS_STAT_DROPPED 1 k).setFld F.MSU_MS_STAT_ACTIONS l.length k
    else s.mileAbort k 4 (s.txStatus code e.port)

/-! ## Commands (R248 to R250) -/

/-- Whether a core of a cluster may command a milestone (R249). -/
def State.mileMine (s : State) (cl k : Nat) : Bool := s.mileState k != 0 && s.mileOwner k == cl

/-- Whether an abort can still decide: in OPEN or WAITING, before the commit is accepted (R250, R277). -/
def State.abortable (s : State) (k : Nat) : Bool := (s.mileState k == 1 || s.mileState k == 2) && s.commitHead != some k

def State.msuCommit (s : State) (cl k : Nat) : State :=
  match s.mile k with
  | some m => if s.mileMine cl k && s.mileState k == 1 && m.request.isNone then s.mileRequest k else s.msuCmdErr
  | none => s.msuCmdErr

def State.msuAbort (s : State) (cl k : Nat) : State :=
  if s.mileMine cl k && s.abortable k then s.mileAbort k 2 .aborted else s.msuCmdErr

def State.msuPolicy (s : State) (cl k policy : Nat) : State :=
  match s.mile k with
  | some m => if s.mileMine cl k && s.mileState k == 1 && m.request.isNone && m.actions.isEmpty then
      s.setFld F.MSU_MS_STAT_POLICY policy k else s.msuCmdErr
  | none => s.msuCmdErr

/-- A write of MSU_CMD. -/
def State.msuCmdWrite (s : State) (cl : Nat) (w : Word) : State :=
  let k := bits w.toNat 5 0
  match bits w.toNat 31 30 with
  | 1 => s.msuCommit cl k
  | 2 => s.msuAbort cl k
  | 3 => s.msuPolicy cl k (bits w.toNat 8 8)
  | _ => s

/-- A commit waits too long (R260). -/
def State.mileTimeout (s : State) (k : Nat) : State :=
  if s.mileState k = 2 ∧ s.mileOwner k ≠ 3 ∧ s.commitHead ≠ some k then s.mileAbort k 5 .timeout else s

/-! ## The receive template (R263, R264) -/

/-- Whether the launch point of a frame's acknowledgement has passed (R264). -/
def State.ackLate (s : State) (x : Ctx) : Bool := s.nt + s.leadTicks (s.ackEntry x 0 0) > x.ackAt

/-- The launch point of the acknowledgement of a frame without a number passes (R264): it is dropped. -/
def State.ackExpire (c : Nat) (s : State) : State :=
  match Tab.find s.frm.ctxs c with
  | none => s
  | some x =>
    if x.st = .verdict ∧ x.ackDue ∧ s.flag F.MSU_TPL_CFG_ACK_EN ∧ s.ackLate x then
      (s.setCtx c { x with ackDue := false }).ackResult ⟨x.lane, macTriple x.header, x.trej⟩ false
    else s

/-- Add the acknowledgement of a frame to its milestone, or drop it (R19, R263, R264). -/
def State.templateAck (s : State) (k a : Nat) (x : Ctx) : State :=
  let e := s.ackEntry x k a
  let drop := s.ackResult ⟨x.lane, macTriple x.header, x.trej⟩ false
  if s.ackLate x then drop
  else match s.txSubmit e true with
    | (.inl _, _) => drop
    | (.inr t, s1) => s1.putAction k { w0 := BitVec.ofNat 32 (0x38000000 + k * 65536), w1 := 0, w2 := 0, w3 := 0,
                                       claim := s.msu.nextClaim, tag := some t }

/-- The frame engine opens a milestone for a verdict, adds its actions and requests the commit (R263, R264). Frames receive numbers
in the order of their frame-end events. -/
def State.templateOpen (s : State) (c : Nat) : State :=
  match Tab.find s.frm.ctxs c with
  | none => s
  | some x =>
    if x.st ≠ .verdict ∨ !s.ctxFirst x (fun t => t == .verifying || t == .timed || t == .verdict) ∨ (x.fresh && !s.flag F.SYSCTL_LMSTAT_ARMED) then s
    else match s.mileFree s.feLow 64 with
      | none => s
      | some k =>
        let s1 := (s.openMile k 3 0 { ctx := some c }).setCtx c { x with st := .committing }
        let s2 := if x.fresh then
            s1.putAction k { w0 := BitVec.ofNat 32 (0x20000000 + k * 65536), w1 := 0, w2 := BitVec.ofNat 32 x.record.length, w3 := 0,
                             claim := s.msu.nextClaim, record := x.record }
          else s1
        let s3 := if x.ackDue && s.flag F.MSU_TPL_CFG_ACK_EN then s2.templateAck k (if x.fresh then 1 else 0) x else s2
        s3.mileRequest k

/-! ## Resets (R273) -/

/-- A cluster reset: the OPEN and WAITING milestones of that cluster end with RESET; a commit in progress goes on. -/
def State.msuClusterReset (s : State) (cl : Nat) : State :=
  foldOver (fun (k : Nat) (t : State) => if t.mileOwner k = cl ∧ t.abortable k then t.mileAbort k 7 .aborted else t) (List.range 64) s

/-- A warm reset (R110, R273): OPEN and WAITING milestones end with RESET, LANDING ones read COMMITTED; the records in journal SRAM
stay for the replay. Frame contexts and transmissions go with their blocks. -/
def State.msuWarmReset (s : State) : State :=
  let s1 := foldOver (fun (k : Nat) (t : State) =>
    if t.mileState k = 1 ∨ t.mileState k = 2 then
      ((t.setFld F.MSU_MS_STAT_STATE 0 k).setFld F.MSU_MS_STAT_LAST_RESULT 7 k).setFld F.MSU_MS_STAT_ACTIONS 0 k
    else if t.mileState k = 3 then
      ((t.setFld F.MSU_MS_STAT_STATE 0 k).setFld F.MSU_MS_STAT_LAST_RESULT 1 k).setFld F.MSU_MS_STAT_ACTIONS 0 k
    else t) (List.range 64) s
  s1.onMsu fun u => { kept := u.kept ++ u.ring.filter fun r => !r.retired }

end Sys2Proof.Machine
end

