-- ==== Sys2Proof/Machine/NtOps.lean ====
section
/-! DEFINITION. Moves of network time, their effects, and the discipline by samples (R328 to R341). -/

namespace Sys2Proof.Machine

/-- What follows network time after it has moved (R328, R332): compare units and the gates of both ports. A refill and a launch that fall
due are taken later in the same cycle. -/
def State.ntFollow (s : State) : State :=
  (s.cmpSweep.gateMove 0).gateMove 1

/-- What follows a load or step (R332): the same, and one refill at the move. -/
def State.ntMoveFollow (s : State) : State := s.ntFollow.refillAll

/-- A step that the servo has called for in this cycle is discarded, with the sample that called for it (R341). -/
def State.servoUndo (s : State) : State :=
  match s.ntc.servoStep with
  | some (_, lead, src, last) =>
    ((s.setReg .NTC_LEAD 0 lead).setFld F.NTC_STAT_SRC_USED src).onNtc fun n => { n with servoStep := none, lastSample := last }
  | none => s

/-- The step that the servo has called for is made, at the end of its cycle: STEPPED, DISC falls, and what follows a move (R336, R337). -/
def State.servoCommit (s : State) : State :=
  match s.ntc.servoStep with
  | some (d, _) => ((((s.onNtc fun n => { n with servoStep := none }).addNt d).ntMoved).discDown).ntMoveFollow
  | none => s

/-- A load of network time by CL0 (R331, R337, R338, R341): with SRC 3 it is the sample. -/
def State.ntLoad (s : State) (sec : Word) (tick : Nat) : State :=
  if tick > 99999999 then s.setFld F.NTC_STAT_SET_ERR 1
  else
    let s1 := ((s.servoUndo.setNt (sec.toNat * ticksPerSec + tick)).ntMoved).onNtc fun n => { n with cl0Move := some s.cyc }
    let s2 := if s.ntSrc = 1 ∨ s.ntSrc = 2 then s1.discDown
      else if s.ntSrc = 3 then
        ((((s1.boundary .NTC_DISC).boundary .NTC_DISC2).setFld F.NTC_STAT_SRC_USED 3).discUp).onNtc fun n => { n with lastSample := s.cyc }
      else s1
    s2.ntMoveFollow

/-- A step of network time by CL0 (R331, R337, R341). -/
def State.ntStep (s : State) (d : Int) : State :=
  let s1 := ((s.servoUndo.addNt d).ntMoved).onNtc fun n => { n with cl0Move := some s.cyc }
  (if s.ntSrc = 1 ∨ s.ntSrc = 2 then s1.discDown else s1).ntMoveFollow

/-- A write of NTC_CTRL: with both bits set, the load is made (R331). -/
def State.ntcCtrlWrite (s : State) (w : Word) : State :=
  if bit w.toNat 0 then s.ntLoad (s.reg .NTC_SETSEC) (s.fld F.NTC_SETTICK_TICK)
  else if bit w.toNat 1 then s.ntStep (s.reg .NTC_STEPVAL).toInt
  else s

/-- A capture by a cluster (R330). -/
def State.ntCapture (s : State) (cl : Nat) : State :=
  (s.setReg .NTC_CAP_SEC cl s.ntSec).setReg .NTC_CAP_TICK cl (BitVec.ofNat 32 s.ntTick)

/-- The capture by the event task NTC_CAPTURE (R330). -/
def State.ntEvCapture (s : State) : State :=
  (s.setReg .NTC_EVCAP_SEC 0 s.ntSec).setReg .NTC_EVCAP_TICK 0 (BitVec.ofNat 32 s.ntTick)

/-- A quotient rounded to the nearest integer, halves away from zero (R336). The divisor is above zero. -/
def roundDiv (a : Int) (b : Nat) : Int :=
  if a < 0 then -(((-a).toNat * 2 + b) / (2 * b) : Nat) else ((a.toNat * 2 + b) / (2 * b) : Nat)

/-- A write that changes SRC (R336, R337). -/
def State.ntSrcWrite (s : State) (w : Word) : State :=
  let s1 := s.regStore .NTC_DISC 0 false w
  if s.ntSrc = s1.ntSrc then s1 else s1.discDown.onNtc fun n => { n with integral := 0 }

/-- A value of a field that acts as 1 when it is 0. -/
def atLeast1 (n : Nat) : Nat := max 1 n

/-- Count a sample towards DISC (R337): the threshold is in ns. -/
def State.ntQualify (s : State) (lead : Int) (thr : Nat) : State :=
  if lead.natAbs ≤ thr then
    let n := min 4 (s.fld F.NTC_STAT_LOCKCNT + 1)
    let s1 := s.setFld F.NTC_STAT_LOCKCNT n
    if n = 4 then s1.discUp else s1
  else s.setFld F.NTC_STAT_LOCKCNT 0

/-- A sample that the NTC accepts, with its lead in ns (R336, R337). On FRC the servo stands still (R333). A step that it calls for in the
cycle of a load or step by CL0 is discarded, and the sample with it (R341); else it is made as the cycle ends, so that one that comes
later in the cycle can still discard it. -/
def State.ntSample (s0 : State) (lead : Int) : State :=
  let s := (s0.boundary .NTC_DISC).boundary .NTC_DISC2
  if !s0.onPll then s0
  else if lead.natAbs > atLeast1 (s.fld F.NTC_DISC_STEP_THR) * 1000 ∧ s0.ntc.cl0Move = some s0.cyc then s
  else
    let s1 := ((s.setReg .NTC_LEAD 0 (BitVec.ofInt 32 lead)).setFld F.NTC_STAT_SRC_USED s.ntSrc).onNtc fun n =>
      { n with lastSample := s.cyc }
    if lead.natAbs > atLeast1 (s.fld F.NTC_DISC_STEP_THR) * 1000 then
      s1.onNtc fun n => { n with servoStep := some (roundDiv (-lead) 10, s.reg .NTC_LEAD, s.fld F.NTC_STAT_SRC_USED, s.ntc.lastSample) }
    else
      let g := s.fld F.NTC_DISC_GP
      let i := s.ntc.integral - (lead * g) / (2 ^ s.fld F.NTC_DISC_GI_SHIFT : Nat)
      let s2 := (s1.setReg .NTC_RATE 0 (BitVec.ofInt 32 (clampRate (i - lead * g)))).onNtc fun n => { n with integral := i }
      s2.ntQualify lead (if s.ntSrc = 2 then 20000 else atLeast1 (s.fld F.NTC_DISC2_LOCK_THR) * 100)

/-- HOLDOVER seconds without an accepted sample (R337): DISC falls, and LOCKCNT is cleared whether it was 1 or 0. -/
def State.ntHoldover (s : State) : State := if s.ntSrc = 0 then s else s.discDown

/-- Whether HOLD reads 1: more than a second since the last accepted sample (R337). -/
def State.ntHold (s : State) : Bool := s.flag F.NTC_STAT_DISC && s.cyc > s.ntc.lastSample + 100000000

/-- Whether a dead frame is an acknowledgement for the NTC (R339). -/
def State.radioTimeFrame (s : State) (b : Bytes) : Bool :=
  let fc := beNat (b.take 2)
  let node := s.reg .NTC_RADIO_NODE
  s.ntSrc == 2 && b.length == 24 && bits fc 13 12 == 1 && !bit fc 2 && !bit fc 3 && node != 0
    && beNat ((b.drop 12).take 4) == node.toNat

/-- The lead of an acknowledgement in ns (R339): the reception instant less the sender's instant, both exact, then rounded. `sr`
is the symbol rate, `n` the sync symbols. -/
def radioLead (arr sec sub sr n : Nat) : Int :=
  let den := 65536 * sr * 1000
  let rx : Int := (arr : Int) * den - ((32 + n) * 100000000 * 65536 * 1000 : Nat)
  let tx : Int := ((sec * 100000000 * 65536 * 1000 + sub * 100000000 * 1000 + 762900 * 65536) * sr : Nat)
  roundDiv ((rx - tx) * 10) den

/-- The radio sample of a dead frame (R339): the first one of a second, within 1 s while DISC is 1. -/
def State.radioSample (s0 : State) (k : Nat) (f : LaneFrame) (b : Bytes) : State :=
  if !s0.radioTimeFrame b then s0
  else
    let s := s0.boundary .NTC_RADIO_NODE
    let l := s.fld F.LANE_PT_SYNC_SYNC_LEN k
    let lead := radioLead f.arrNt (beNat ((b.drop 6).take 4)) (beNat ((b.drop 10).take 2)) (s.ptRate k) (l / s.ptBits k)
    let t := s.onNtc fun n => { n with radioSec := some s.ntSec }
    if s.ntc.radioSec == some s.ntSec then s
    else if s.flag F.NTC_STAT_DISC ∧ lead.natAbs > 1000000000 then t
    else t.ntSample lead

/-- A cycle of network time with what falls due in it (R327, R328). -/
def State.ntAdvance (s : State) : State := s.ntCycle

/-- The correction of network time against the crystal on FRC (R333): the difference is measured, so it is free. While the crystal is not
good there is none. -/
def State.ntFrcCorrection (s : State) (d : Int) : State :=
  if s.onPll || !s.flag F.SYSCTL_CLKSTAT_XT32_GOOD then s else (s.addNt d).ntFollow

/-- The offset rewrite at a 1/256 s boundary of the RTC (R335). -/
def State.ntOfsSync (s : State) : State :=
  if s.rtc.ofsDue || (s.flag F.NTC_STAT_DISC && s.flag F.NTC_DISC_RTC_SYNC && s.ntSec.toNat % 64 == 0) then s.rtcSyncOfs else s

end Sys2Proof.Machine
end

