-- ==== Sys2Proof/Machine/LpOps.lean ====
section
/-! DEFINITION. The line ports: blocks, bring-up, forwarding, units, sleep and wake, time transfer (R278 to R306). -/

namespace Sys2Proof.Machine

/-! ## Ports -/

def State.line (s : State) (p : Nat) : LinePort := Tab.getD s.lp.ports p {}
def State.onLine (s : State) (p : Nat) (f : LinePort → LinePort) : State :=
  s.onLp fun l => { l with ports := Tab.put l.ports p (f (s.line p)) }

/-- The codes of the port states (R287). -/
def lpOff : Nat := 0
def lpDetect : Nat := 1
def lpQuiet : Nat := 2
def lpWake : Nat := 3
def lpHalfM : Nat := 4
def lpHalfS : Nat := 5
def lpFull : Nat := 6
def lpSync : Nat := 7
def lpCheck : Nat := 8
def lpUpState : Nat := 9
def lpBeacon : Nat := 10

def State.lpState (s : State) (p : Nat) : Nat := s.fld F.LP_STAT_STATE p
def State.lpMode (s : State) (p : Nat) : Nat := s.fld F.LP_STAT_MODE_CUR p

/-- The role in force: 0 end, 1 through, 2 off (LPn_CFG). -/
def State.lpRole (s : State) (p : Nat) : Nat := min 2 (s.inFld F.LP_CFG_ROLE p)
def State.lpWant (s : State) (p : Nat) : Nat := min 2 (s.inFld F.LP_CFG_MODE p)
def State.lpFallback (s : State) (p : Nat) : Bool := s.inFld F.LP_CFG_FALLBACK p == 1
def State.lpUpstream (s : State) (p : Nat) : Bool := s.inFld F.LP_CFG_UPSTREAM p == 1

/-- The boundary of one field: its last written value takes effect (R9, R12). -/
def State.boundaryOf (s : State) (f : Fld) (n : Nat) : State :=
  match Tab.find s.held (f.reg.key n) with
  | none => s
  | some h =>
    let h1 := wordPut h f.hi f.lo (s.fld f n)
    if (h1 ^^^ s.reg f.reg n) &&& (regRow f.reg).boundary = 0 then s.boundary f.reg n
    else { s with held := Tab.put s.held (f.reg.key n) h1 }

/-- The boundary of the fields of a LINK exchange. -/
def State.linkBoundary (s : State) (p : Nat) : State :=
  ((s.boundaryOf F.LP_CFG_UPSTREAM p).boundaryOf F.LP_CFG_FALLBACK p).boundaryOf F.LP_CFG_MODE p

/-- SNR_REQ of a mode in 0.1 dB (R278). -/
def snrReq (mode : Nat) : Nat := [270, 150, 70].getD mode 70

/-- The block time of a mode in ticks (R278). -/
def blockTicks (mode : Nat) : Nat := [2048, 4096, 32768].getD mode 32768

/-- LPn_QUAL, valid in CHECK and UP. -/
def State.setQual (s : State) (p snr : Nat) : State :=
  (s.setFld F.LP_QUAL_SNR snr p).setFld F.LP_QUAL_MARGIN (unsgn 16 ((snr : Int) - snrReq (s.lpMode p))) p

/-- Count on one of the port's counters (LPn_CNT_k). -/
def State.lpCount (s : State) (p k : Nat) (d : Nat := 1) : State := s.bumpWrap F.LP_CNT_COUNT (p * 8 + k) d

/-- Leaving UP (R292, R325): the event, blocks waiting are lost, units in progress restart. A rate of the UART whose reply is lost does not
apply (R141). -/
def State.lpLeaveUp (s : State) (p : Nat) : State :=
  if s.lpState p ≠ lpUpState then s
  else (((s.publish (201 + 5 * p)).unitsRestart p).onLine p fun x =>
    { x with link := [], fwd := [], own := [], sync := none, t3 := none }).onHcp fun x =>
      { x with rateNext := x.rateNext.filter fun r => r.tp != 2 + p }

/-- Move a port to a state. -/
def State.lpGo (s : State) (p st : Nat) : State :=
  let s1 := if st = lpUpState then s else s.lpLeaveUp p
  let s2 := (s1.setFld F.LP_STAT_STATE st p).setFlag F.LP_STAT_UP (st == lpUpState) p
  let s3 := if (st = lpUpState ∨ st = lpDetect) ∧ s.evf.retrains.contains p
    then (s2.inputFree (317 + p)).onEvf fun e => { e with retrains := e.retrains.filter (· != p) } else s2
  if st = lpCheck ∨ st = lpUpState then s3 else s3.setReg .LP_QUAL p 0

/-- A retrain that has failed (R157, R306): the completion of a command that came over the port itself is lost; another one
completes with LINK_DOWN. -/
def State.lpDropJobs (s : State) (p : Nat) : State :=
  let own := fun (j : Nat) => (Tab.find s.hcp.jobs j).any fun x => x.hdr.tp.port == some p
  let s1 := s.onLine p fun x => { x with jobs := [] }
  foldOver (fun (j : Nat) (t : State) =>
    if own j then t.onHcp fun h => { h with jobs := Tab.del h.jobs j } else t.complete j .linkDown) (s.line p).jobs s1

/-- The payload of a LINK block (R287). -/
def State.linkBytes (s : State) (kind mode flags snr cf : Nat) : Bytes :=
  [BitVec.ofNat 8 kind, BitVec.ofNat 8 mode, BitVec.ofNat 8 flags, 0#8] ++ beBytes 4 (s.inReg .FRM_NODE).toNat ++ beBytes 2 snr ++ beBytes 2 cf

/-- The flags of this node in a LINK block. -/
def State.linkFlags (s : State) (p : Nat) : Nat := b2n (s.lpFallback p) + 2 * b2n (s.lpUpstream p) + 4 * b2n (s.lpRole p == 1)

/-- A link-local block of this node (R282, R284). -/
def linkBlock (typ : Nat) (payload : Bytes) : Block :=
  { typ, bseq := 0, last := true, first := true, hops := 63, addr := 0, payload }

def idleBlock : Block := linkBlock 0 []

/-- A block goes out in the LX3 form as a burst of its own (R288). -/
def LinePort.burstOut (x : LinePort) (b : Block) : LinePort := { x with sent := some b, burst := true, before := none, coded := 0 }

/-- A block goes out behind the blocks before it (R279). -/
def LinePort.blockOut (x : LinePort) (b : Block) : LinePort :=
  { x with sent := some b, burst := false, before := if x.coded = 0 then none else x.sent, coded := x.coded + 1 }

/-- An ANNOUNCE (kind 0) or ANSWER (kind 1) burst, with the mode that the port wants (R287, R288). -/
def State.greet (s : State) (p kind : Nat) : State :=
  s.onLine p fun x => { x.burstOut (linkBlock 9 (s.linkBytes kind (s.lpWant p) (s.linkFlags p) 0 0)) with
    announceAt := if kind = 0 then some s.cyc else x.announceAt }

/-- Whether an ANNOUNCE that ends now has overlapped one of the port's own, each 595.84 us long (R288, R306). -/
def State.announcing (s : State) (p : Nat) : Bool := (s.line p).announceAt.any fun t => s.cyc < t + 119168

/-- Entry to DETECT (R287): the role in force, and an ANNOUNCE at once unless the port must be silent (R291). -/
def State.lpToDetect (s : State) (p : Nat) (silent : Bool) : State :=
  let s1 := (s.lpGo p lpDetect).boundaryOf F.LP_CFG_ROLE p
  if s1.lpRole p = 2 then s1.lpGo p lpOff
  else
    let s2 := (s1.lpDropJobs p).linkBoundary p
    (if silent then s2 else s2.greet p 0).onLine p fun x =>
    { x with announced := !silent, silent, train := none, upFrom := none, noFall := false, passed := none, peerPassed := none }

/-- A port in OFF starts, while PLL0 is selected (R287, R306). -/
def State.lpStart (p : Nat) (s : State) : State :=
  let s1 := s.boundaryOf F.LP_CFG_ROLE p
  if s1.lpState p = lpOff ∧ s1.lpRole p < 2 ∧ s1.onPll ∧ s1.sysOn ∧ !s1.inRoadside then s1.lpToDetect p false else s1

/-- A port stops (R101, R306). -/
def State.lpStop (p : Nat) (s : State) : State :=
  ((s.lpGo p lpOff).lpDropJobs p).onLine p fun x => { x with train := none, wakes := 0, waited := [], announceAt := none }

/-! ## LINK blocks -/

/-- Queue a LINK block, which is an exchange (LPn_CFG). -/
def State.sendLink (s0 : State) (p kind mode : Nat) : State :=
  let s := s0.linkBoundary p
  s.onLine p fun x => { x with link := x.link ++ [linkBlock 9 (s.linkBytes kind mode (s.linkFlags p) 0 0)] }

/-- What a LINK block tells of the peer (LPn_PEER, LPn_PEERINFO, R303). -/
def State.lpPeer (s : State) (p mode flags : Nat) (node : Word) : State :=
  let s1 := (s.setReg .LP_PEER p node).setReg .LP_PEERINFO p
    (BitVec.ofNat 32 (mode % 4 * 256 + 4 * b2n (bit flags 2) + 2 * b2n (bit flags 1) + b2n (bit flags 0)))
  if bit flags 1 = s.lpUpstream p then s1.setFld F.LP_STAT_ROLE_CONFLICT 1 p else s1

/-! ## Bring-up -/

/-- An ANNOUNCE goes out (R287, R291). -/
def State.lpAnnounce (s : State) (p : Nat) : State :=
  if s.lpState p ≠ lpDetect ∨ (s.line p).train.isSome then s
  else ((s.linkBoundary p).greet p 0).onLine p fun x => { x with announced := true, silent := false }

/-- The two ends agree (R288): the slower mode, fallback when both allow it. -/
def State.lpAgree (s : State) (p mode flags : Nat) (node : Word) (master : Bool) : State :=
  let s1 := (s.lpPeer p mode flags node).setFlag F.LP_STAT_MASTER master p
  let m := max (s1.lpWant p) (min 2 mode)
  s1.onLine p fun x => { x with agreed := m, fallback := s1.lpFallback p && bit flags 0, train := some m, announced := false,
                                upFrom := none, noFall := false }

/-- An ANNOUNCE is heard (R287, R288); one that overlaps the port's own is not answered (R306). -/
def State.lpHearAnnounce (s : State) (p mode flags : Nat) (node : Word) : State :=
  if s.lpState p = lpDetect ∨ s.lpState p = lpQuiet then
    if (s.line p).train.isSome ∨ s.announcing p then s else ((s.linkBoundary p).greet p 1).lpAgree p mode flags node false
  else s

/-- An ANSWER to the port's own ANNOUNCE is heard (R287, R288). -/
def State.lpHearAnswer (s : State) (p mode flags : Nat) (node : Word) : State :=
  if s.lpState p = lpDetect ∧ (s.line p).announced ∧ (s.line p).train.isNone then s.lpAgree p mode flags node true else s

/-- Both ends enter HALF_M (R288, R291, R292). -/
def State.lpTrain (s : State) (p : Nat) : State :=
  match (s.line p).train with
  | none => s
  | some m => ((s.lpGo p lpHalfM).setFld F.LP_STAT_MODE_CUR m p).onLine p fun x =>
      { x with train := none, checkFails := 0, passed := none, peerPassed := none }

/-- The end of a training phase (R287). -/
def State.lpPhaseEnd (s : State) (p : Nat) : State :=
  let st := s.lpState p
  if st = lpHalfM ∨ st = lpHalfS then s.lpGo p (st + 1)
  else if st = lpFull then (s.lpGo p lpSync).boundaryOf F.LP_CFG_SYNC_TOL p
  else s

/-- An attempt fails (R291, R293). -/
def State.lpFail (s : State) (p : Nat) : State :=
  let x := s.line p
  match x.upFrom with
  | some m => s.onLine p fun y => { y with train := some m, upFrom := none, noFall := true }
  | none =>
    if x.fallback ∧ !x.noFall ∧ s.lpMode p < 2 then s.onLine p fun y => { y with train := some (s.lpMode p + 1) }
    else ((s.setFld F.LP_STAT_TRAIN_FAIL 1 p).lpCount p 7).lpToDetect p true

/-- SYNC_TOL in force. -/
def State.lpTol (s : State) (p : Nat) : Nat := min 6 (s.inFld F.LP_CFG_SYNC_TOL p)

/-- The sync word is found (R287, R289). SYNC_ERRS, which no register shows, is that of the last match (DEDUCED, log entry 176). -/
def State.lpSyncFound (s : State) (p errs : Nat) : State :=
  if s.lpState p ≠ lpSync ∨ errs > s.lpTol p then s
  else ((s.lpGo p lpCheck).boundaryOf F.LP_CFG_MARGIN_MIN p).onLine p fun x =>
    { x with checkFails := 0, passed := none, peerPassed := none, burst := false, before := none, coded := 0, syncErrs := errs }

/-- The search ends without a match (R287, R291). -/
def State.lpSyncFail (s : State) (p : Nat) : State := if s.lpState p = lpSync then s.lpFail p else s

/-- Entry to UP (R287, R290, R303): records that wait are sent, and an HCP retrain completes (R306). -/
def State.lpEnterUp (s : State) (p : Nat) : State :=
  let s1 := ((s.lpGo p lpUpState).boundaryOf F.LP_CFG_UP_TRY p).setFlag F.LP_STAT_TIME_MASTER (!s.lpUpstream p) p
  let jobs := (s.line p).jobs
  let s2 := (s1.onLine p fun x => { x with received := 0, badRun := 0, bad := [], wakes := 0, waited := [], jobs := [], upFrom := none, noFall := false }).publish (200 + 5 * p)
  (foldOver (fun (j : Nat) (t : State) => t.complete j .ok [BitVec.ofNat 8 (s.lpMode p)]) jobs s2).forwardRecords

/-- Both verdicts are known (R290, R291). -/
def State.lpVerdicts (s : State) (p : Nat) : State :=
  match (s.line p).passed, (s.line p).peerPassed with
  | some a, some b => if a && b then s.lpEnterUp p else s.lpFail p
  | _, _ => s

/-- The end of CHECK (R290): 256 IDLE blocks and the VERDICT have been sent; `snr` is averaged over CHECK, in 0.1 dB. -/
def State.lpCheckEnd (s0 : State) (p snr : Nat) : State :=
  if s0.lpState p ≠ lpCheck ∨ (s0.line p).passed.isSome then s0
  else
    let s := s0.linkBoundary p
    let x := s.line p
    let ok := x.checkFails ≤ 2 && snr ≥ snrReq (s.lpMode p) + 10 * s.inFld F.LP_CFG_MARGIN_MIN p
    let v := linkBlock 9 (s.linkBytes 2 (s.lpMode p) (s.linkFlags p + 128 * b2n ok) snr x.checkFails)
    (((s.setQual p snr).lpCount p 0 257).onLine p fun y =>
      { y with passed := some ok, sent := some v, burst := false, before := some idleBlock, coded := 257 }).lpVerdicts p

/-- The peer's VERDICT (R290); one that comes after the port has failed counts for nothing. -/
def State.lpVerdict (s : State) (p : Nat) (pass : Bool) : State :=
  if s.lpState p ≠ lpCheck ∨ (s.line p).train.isSome then s else (s.onLine p fun y => { y with peerPassed := some pass }).lpVerdicts p

/-- No VERDICT of the peer within two block times of the port's own (R290). -/
def State.lpVerdictTimeout (s : State) (p : Nat) : State :=
  if s.lpState p = lpCheck ∧ (s.line p).passed.isSome ∧ (s.line p).peerPassed.isNone ∧ (s.line p).train.isNone then s.lpFail p else s

/-- The port sends RETRAIN, and both ends train at the present mode (R292). -/
def State.lpRetrain (s : State) (p : Nat) : State :=
  if s.lpState p ≠ lpUpState ∨ (s.line p).train.isSome then s
  else (s.sendLink p 3 (s.lpMode p)).onLine p fun x => { x with train := some (s.lpMode p) }

/-- A retrain that a command over the port itself asks for (R306): RETRAIN goes out behind the packets that wait, ACCEPTED among them. -/
def State.lpRetrainOwn (s0 : State) (p : Nat) : State :=
  let s := s0.linkBoundary p
  if s.lpState p ≠ lpUpState ∨ (s.line p).train.isSome then s0
  else s.onLine p fun x => { x with train := some (s.lpMode p), own := x.own ++ [linkBlock 9 (s.linkBytes 3 (s.lpMode p) (s.linkFlags p) 0 0)] }

/-- A RETRAIN block is received (R292, R306). -/
def State.lpHearRetrain (s : State) (p : Nat) : State :=
  if s.lpState p ≠ lpUpState ∨ (s.line p).train.isSome then s
  else s.onLine p fun x => { x with train := some (s.lpMode p) }

/-- SNR averaged over 100 ms (R292). -/
def State.lpSnr (s : State) (p snr : Nat) : State :=
  if s.lpState p ≠ lpUpState then s
  else
    let s1 := s.setQual p snr
    if snr < snrReq (s.lpMode p) + 10 then s1.lpRetrain p else s1

/-- No energy for 1 ms (R292). -/
def State.lpEnergyLoss (s : State) (p : Nat) : State := if s.lpState p = lpUpState then s.lpToDetect p false else s

/-- Whether a link may try the next faster mode (R293). -/
def State.lpMayUp (s : State) (p : Nat) : Bool :=
  s.lpState p == lpUpState && (s.line p).fallback && (s.line p).agreed < s.lpMode p && (s.line p).train.isNone

/-- The training master tries the next faster mode (R293). -/
def State.lpModeUpTimer (s0 : State) (p : Nat) : State :=
  let s := s0.boundaryOf F.LP_CFG_UP_TRY p
  if s.lpMayUp p ∧ s.flag F.LP_STAT_MASTER p ∧ s.inFld F.LP_CFG_UP_TRY p ≠ 0 then
    (s.sendLink p 4 (s.lpMode p - 1)).onLine p fun x => { x with train := some (s.lpMode p - 1), upFrom := some (s.lpMode p) }
  else s

/-- A MODE_UP is received (R293). -/
def State.lpHearModeUp (s : State) (p : Nat) : State :=
  if s.lpState p = lpUpState ∧ 0 < s.lpMode p ∧ (s.line p).train.isNone then
    s.onLine p fun x => { x with train := some (s.lpMode p - 1), upFrom := some (s.lpMode p) }
  else s

/-! ## Sleep and wake (R299) -/

/-- A DOZING block is received (R287, R299, R306). -/
def State.lpHearDozing (s : State) (p : Nat) : State :=
  if s.lpState p = lpDetect ∨ s.lpState p = lpUpState then (s.lpGo p lpQuiet).onLine p fun x => { x with train := none, wakes := 0 } else s

/-- The wake of the peer starts (R287, R299). -/
def State.lpWakePeer (s : State) (p : Nat) : State :=
  if s.lpState p = lpQuiet then ((s.boundaryOf F.LP_WAKECFG_WAKE_TRIES p).boundaryOf F.LP_WAKECFG_WAKE_WAIT p |>.lpGo p lpWake |>.onLine p fun x => { x with waited := [], wakes := 0 }) else s

/-- The wake pattern has been sent (R299). -/
def State.lpWakeSent (s : State) (p : Nat) : State :=
  if s.lpState p = lpWake then (s.lpToDetect p false).onLine p fun x => { x with wakes := x.wakes + 1 } else s

/-- The entries of a port's queues. -/
def State.portEntries (s : State) (p : Nat) : List SchedEntry := (List.range 64).flatMap fun i => s.queue (64 * p + i)

/-- WAKE_WAIT ends without UP, between DETECT and CHECK (R287, R299): the pattern is repeated, or the port gives up, and what is queued
waits. -/
def State.lpWakeExpiry (s : State) (p : Nat) : State :=
  let n := (s.line p).wakes
  let st := s.lpState p
  if (st ≠ lpDetect ∧ (st < lpHalfM ∨ lpCheck < st)) ∨ n = 0 then s
  else if n < max 1 (s.inFld F.LP_WAKECFG_WAKE_TRIES p) then (s.lpGo p lpWake).onLine p fun x => { x with train := none }
  else ((s.lpGo p lpQuiet).setFld F.LP_STAT_WAKE_FAIL 1 p).onLine p fun x => { x with wakes := 0, train := none, waited := s.portEntries p }

/-- An end-role port in UP sends DOZING and stops (R299). -/
def State.lpDozing (p : Nat) (s0 : State) : State :=
  let s := s0.linkBoundary p
  if s.lpState p = lpUpState ∧ s.lpRole p = 0 then
    ((s.lpCount p 0).onLine p fun x => x.blockOut (linkBlock 9 (s.linkBytes 5 (s.lpMode p) (s.linkFlags p) 0 0))).lpStop p
  else s.lpStop p

/-! ## Time transfer (R303 to R305) -/

/-- Units of 0.625 ns in a second. -/
def stampSec : Nat := 1600000000

def Stamp.units (t : Stamp) : Nat := t.sec * stampSec + t.tick * 16 + t.frac

/-- A stamp of a count of units. -/
def stampOf (u : Int) : Stamp :=
  let v := (u % (4294967296 * stampSec : Nat)).toNat
  { sec := v / stampSec, tick := v % stampSec / 16, frac := v % 16 }

/-- Network time `ahead` ticks from now, moved by a signed count of 0.625 ns (R128, R305). -/
def State.stampNow (s : State) (ahead : Nat) (ofs : Int) : Stamp :=
  stampOf ((s.nt + ahead : Nat) * 16 + (s.ntc.frac * 16 / 4294967296 : Nat) + ofs)

/-- The stamp of a block whose first symbol arrives now. -/
def State.rxStamp (s : State) (p : Nat) : Stamp := s.stampNow 0 (-(s.otp.cal.rxLat.getD p 0 + sgn 8 (s.fld F.LP_TSCFG_RXLAT_OFS p)))
/-- The stamp of a block sent from the coming boundary, 320 ns ahead. -/
def State.txStamp (s : State) (p : Nat) : Stamp := s.stampNow 32 (s.otp.cal.txLat.getD p 0 + sgn 8 (s.fld F.LP_TSCFG_TXLAT_OFS p))

/-- The payload of a TIME block (R304). -/
def timeBytes (msg seq : Nat) (t : Stamp) : Bytes :=
  [BitVec.ofNat 8 msg, 0#8] ++ beBytes 2 seq ++ beBytes 4 t.sec ++ beBytes 4 t.tick ++ [BitVec.ofNat 8 (t.frac % 16)]

def timeBlock (msg seq : Nat) (t : Stamp) : Block := linkBlock 8 (timeBytes msg seq t)

/-- Whether the two ends show the same UPSTREAM in their LINK blocks (R303). -/
def State.sameRole (s : State) (p : Nat) : Bool := s.flag F.LP_PEERINFO_UPSTREAM p == s.lpUpstream p

/-- Whether a port takes part in time transfer: UP, without a conflict of roles; and as master or slave (R303). -/
def State.timeOn (s : State) (p : Nat) (master : Bool) : Bool :=
  s.lpState p == lpUpState && !s.sameRole p && s.flag F.LP_STAT_TIME_MASTER p == master

/-- The master's SYNC (R304). Its send time is inserted when the block is sent. -/
def State.timeSyncSend (s : State) (p : Nat) : State :=
  if !s.timeOn p true then s
  else s.onLine p fun x => { x with link := x.link ++ [timeBlock 0 x.seq ⟨0, 0, 0⟩], seq := (x.seq + 1) % 65536 }

/-- The slave receives SYNC and sends DELAY_REQ (R304). -/
def State.timeSync (s : State) (p seq : Nat) (t1 : Stamp) : State :=
  if !s.timeOn p false then s
  else s.onLine p fun x => { x with sync := some (seq, t1, s.rxStamp p), t3 := none, moves := s.ntc.moves,
                                    link := x.link ++ [timeBlock 1 seq ⟨0, 0, 0⟩] }

/-- The master receives DELAY_REQ and answers with its receive time (R304). -/
def State.delayReq (s : State) (p seq : Nat) : State :=
  if !s.timeOn p true then s else s.onLine p fun x => { x with link := x.link ++ [timeBlock 2 seq (s.rxStamp p)] }

/-- The lead of the slave clock in ns: half of (t2 - t1) - (t4 - t3) - ASYM, in units of 0.001 ns before rounding (R305). -/
def lineLead (t1 t2 t3 t4 : Stamp) (asym : Int) : Int :=
  roundDiv ((((t2.units : Int) - t1.units) - ((t4.units : Int) - t3.units)) * 625 - asym * 100) 2000

/-- Latch one of t1 to t4. -/
def State.latchStamp (s : State) (p k : Nat) (t : Stamp) : State :=
  (s.setFld F.LP_TS_SEC_SEC t.sec (p * 4 + k)).setReg .LP_TS_SUB (p * 4 + k) (BitVec.ofNat 32 (t.frac % 16 * 134217728 + t.tick))

/-- Whether the line source takes the sets of a port: SRC 1, and the port in use of R303. -/
def State.lineSource (s : State) (p : Nat) : Bool :=
  s.ntSrc == 1 && match s.recordQueue with
    | some q => q / 64 == p
    | none => false

/-- The slave receives DELAY_RESP (R305, R306, R336, R338). -/
def State.delayResp (s : State) (p seq : Nat) (t4 : Stamp) : State :=
  match (s.line p).sync, (s.line p).t3 with
  | some (n, t1, t2), some t3 =>
    if n ≠ seq ∨ !s.timeOn p false then s
    else
      let s1 := ((((s.latchStamp p 0 t1).latchStamp p 1 t2).latchStamp p 2 t3).latchStamp p 3 t4).setReg .LP_TSSEQ p (BitVec.ofNat 32 seq)
      let s2 := if s.flag F.LP_STAT_TSNEW p then s1.setFld F.LP_STAT_TSOVR 1 p else (s1.setFld F.LP_STAT_TSNEW 1 p).publish (202 + 5 * p)
      let s3 := s2.onLine p fun x => { x with sync := none, t3 := none }
      if !s3.lineSource p then s3
      else
        let s4 := s3.setFld F.LP_STAT_TSNEW 0 p
        if (s.line p).moves ≠ s.ntc.moves then s4
        else s4.ntSample (lineLead t1 t2 t3 t4 (sgn 16 (s.fld F.LP_TSCFG_ASYM p)))
  | _, _ => s

/-! ## Sending -/

/-- The send time goes into a SYNC or DELAY_REQ as it is sent (R304). -/
def State.stampBlock (s : State) (p : Nat) (b : Block) : Block × State :=
  let seq := beNat ((b.payload.drop 2).take 2)
  let t := s.txStamp p
  if b.typ ≠ 8 then (b, s)
  else match (b.payload.getD 0 0).toNat with
    | 0 => (timeBlock 0 seq t, s)
    | 1 => (timeBlock 1 seq t, s.onLine p fun x => { x with t3 := some t })
    | _ => (b, s)

/-- A block goes out. -/
def State.sendBlock (s : State) (p : Nat) (b : Block) : State := (s.lpCount p 0).onLine p fun x => x.blockOut b

/-- A block boundary of an out port (R297), 320 ns after the choice, which is made before every boundary (R311). In QUIET, a unit that is
due starts the wake (R287), but for those that wait since a wake failed (R299; DEDUCED, log entry 180). -/
def State.lpBoundary (s0 : State) (p : Nat) : State :=
  let x := s0.line p
  if s0.lpState p = lpQuiet then
    (if (s0.schedPick p (blockTicks (s0.lpMode p))).1.isSome && (s0.portEntries p).any fun e => !x.waited.contains e then s0.lpWakePeer p else s0)
  else if s0.lpState p ≠ lpUpState then s0
  else
    let (pick, s) := s0.schedPick p (blockTicks (s0.lpMode p))
    match x.link with
    | b :: l => let (b1, s1) := s.stampBlock p b
      (s1.onLine p fun y => { y with link := l }).sendBlock p b1
    | [] => match x.fwd with
      | b :: l => ((s.onLine p fun y => { y with fwd := l }).lpCount p 3).sendBlock p b
      | [] => match x.own with
        | b :: l =>
          let s1 := (s.onLine p fun y => { y with own := l }).sendBlock p b
          if b.typ = 4 ∧ b.last then s1.rateSent (2 + p) else s1
        | [] => match pick with
          | none => s.sendBlock p idleBlock
          | some q => match s.schedSend q with
            | (some b, s2) => s2.sendBlock p b
            | (none, s2) => s2.sendBlock p idleBlock

/-! ## Receiving -/

/-- CCHK over the control bytes (R283). -/
def cchk (b : Bytes) : Nat := crcBits 8 0x07 0 (byteBits (b.take 7))

/-- The block that 128 bytes spell, when its check holds (R282, R283). -/
def parseBlock (b : Bytes) : Option Block :=
  let v := fun i => (b.getD i 0).toNat
  if cchk b ≠ v 7 then none
  else some { typ := bits (v 0) 7 4, bseq := bits (v 0) 3 0, last := bit (v 1) 7, first := bit (v 2) 7, hops := bits (v 2) 5 0,
              addr := beNat ((b.drop 3).take 4), payload := (b.drop 8).take (min 120 (bits (v 1) 6 0)),
              rest := ((b.drop 8).take 120).drop (bits (v 1) 6 0), excess := bits (v 1) 6 0 - 120, rsv := bit (v 2) 6 }

/-- The control bytes of a block with its check byte (R282). -/
def Block.control (b : Block) : Bytes :=
  let c := [BitVec.ofNat 8 (b.typ * 16 + b.bseq), BitVec.ofNat 8 (b2n b.last * 128 + b.payload.length + b.excess),
    BitVec.ofNat 8 (b2n b.first * 128 + b2n b.rsv * 64 + b.hops)] ++ beBytes 4 b.addr
  c ++ [BitVec.ofNat 8 (cchk c)]

def Block.downward (b : Block) : Bool := b.typ == 2 || b.typ == 3 || b.typ == 7
def Block.linkLocal (b : Block) : Bool := b.typ == 0 || b.typ == 8 || b.typ == 9

/-- Whether this node takes a block (R285). -/
def State.takes (s : State) (b : Block) : Bool :=
  let node := (s.inReg .FRM_NODE).toNat
  b.downward && ((node != 0 && b.addr == node) || b.addr == 0xFFFFFFFF || b.addr == 0xFFFFFFFE)

/-- A block that only its taker sees (R295). -/
def State.takenOnly (s : State) (b : Block) : Bool := b.addr == (s.inReg .FRM_NODE).toNat || b.addr == 0xFFFFFFFE

/-- Forward a block from a through port to the other one (R294 to R296, R299). -/
def State.lpForward (s : State) (p : Nat) (b : Block) : State :=
  let o := 1 - p
  if s.lpRole o ≠ 1 ∨ s.lpState o ≠ lpUpState then
    let s1 := s.lpCount p 4
    if s.lpRole o = 1 then s1.lpWakePeer o else s1
  else if (s.line o).fwd.length ≥ 64 then s.lpCount o 4
  else s.onLine o fun x => { x with fwd := x.fwd ++ [{ b with hops := b.hops - 1 }] }

/-- Forward a block, drop it, or leave it taken (R294, R295). -/
def State.lpPass (s : State) (p : Nat) (b : Block) : State :=
  let taken := s.takes b
  if s.lpRole p = 1 ∧ !s.takenOnly b ∧ b.typ < 10 ∧ 1 ≤ b.hops then s.lpForward p b
  else if taken then s else s.lpCount p 5

/-- Put a taken block to its unit (R286): the unit, when it is complete. -/
def State.reassemble (s : State) (p : Nat) (b : Block) : Option Bytes × State :=
  let asm := (s.line p).asm
  let mine := fun (a : Assembly) => a.typ == b.typ && a.addr == b.addr
  let open? := asm.find? mine
  let rest := asm.filter fun a => !mine a
  let keep := fun (t : State) (l : List Assembly) => t.onLine p fun x => { x with asm := l }
  let go := fun (t : State) (a : Assembly) =>
    if b.last then (some a.bytes, keep t rest)
    else if a.count ≥ 74 then (none, (keep t rest).lpCount p 6)
    else (none, keep t (rest ++ [a]))
  if b.first then go (if open?.isSome then s.lpCount p 6 else s) ⟨b.typ, b.addr, b.bseq, 1, b.payload⟩
  else match open? with
    | none => (none, s.lpCount p 6)
    | some a =>
      if b.bseq ≠ (a.bseq + 1) % 16 then (none, (keep s rest).lpCount p 6)
      else go s ⟨b.typ, b.addr, b.bseq, a.count + 1, a.bytes ++ b.payload⟩

/-- A block in UP passes or fails its check (R292). -/
def State.lpQuality (s : State) (p : Nat) (ok : Bool) : State :=
  let x := s.line p
  let bad := (if ok then x.bad else x.bad ++ [x.received]).filter fun n => n + 1024 > x.received
  let run := if ok then 0 else x.badRun + 1
  let s1 := s.onLine p fun y => { y with received := y.received + 1, bad, badRun := run }
  if run ≥ 16 then s1.lpToDetect p false else if !ok && bad.length ≥ 16 then s1.lpRetrain p else s1

/-- A LINK block in SYNC to UP (R287). -/
def State.lpHearLink (s0 : State) (p : Nat) (b : Bytes) : State :=
  let v := fun i => (b.getD i 0).toNat
  let s := s0.lpPeer p (v 1) (v 2) (BitVec.ofNat 32 (beNat ((b.drop 4).take 4)))
  match v 0 with
  | 2 => s.lpVerdict p (bit (v 2) 7)
  | 3 => s.lpHearRetrain p
  | 4 => s.lpHearModeUp p
  | 5 => s.lpHearDozing p
  | _ => s

/-- A TIME block (R304). -/
def State.lpHearTime (s : State) (p : Nat) (b : Bytes) : State :=
  let seq := beNat ((b.drop 2).take 2)
  let t : Stamp := { sec := beNat ((b.drop 4).take 4), tick := beNat ((b.drop 8).take 4), frac := (b.getD 12 0).toNat % 16 }
  match (b.getD 0 0).toNat with
  | 0 => s.timeSync p seq t
  | 1 => s.delayReq p seq
  | 2 => s.delayResp p seq t
  | _ => s

/-- A block that passed its check in UP: link-local blocks end here; others are taken, forwarded or dropped (R284 to R286, R294,
R295). Answers the unit that it completes, with its type. -/
def State.lpTakeBlock (s : State) (p : Nat) (b : Block) : Option (Nat × Bytes) × State :=
  if b.typ = 0 then (none, s)
  else if b.typ = 8 then (none, s.lpHearTime p b.payload)
  else if b.typ = 9 then (none, s.lpHearLink p b.payload)
  else
    let s1 := s.lpPass p b
    if !s.takes b then (none, s1)
    else match s1.reassemble p b with
      | (some u, s2) => (some (b.typ, u), s2)
      | (none, s2) => (none, s2)

/-- A line block arrives in CHECK or UP (R283, R290, R292). -/
def State.lpReceive (s : State) (p : Nat) (raw : Bytes) : Option (Nat × Bytes) × State :=
  let st := s.lpState p
  if st ≠ lpCheck ∧ st ≠ lpUpState then (none, s)
  else
    let s1 := s.lpCount p 1
    match parseBlock raw with
    | none =>
      let s2 := s1.lpCount p 2
      (none, if st = lpUpState then s2.lpQuality p false else s2.onLine p fun x => { x with checkFails := x.checkFails + 1 })
    | some b => (if st = lpUpState then (s1.lpQuality p true).lpTakeBlock p b
      else (none, if b.typ = 9 then s1.lpHearLink p b.payload else s1))

/-- A burst with a block for others is received (R283, R294, R295, R301): a BEACON is seen, and forwarded or dropped; any other is
dropped. -/
def State.lpBeaconHeard (s : State) (p : Nat) (raw : Bytes) : State :=
  if s.lpState p ≠ lpDetect ∧ s.lpState p ≠ lpQuiet then s
  else match parseBlock raw with
    | none => s.lpCount p 2
    | some b =>
      if b.typ = 5 then (s.setFld F.LP_STAT_BEACON_SEEN 1 p).lpPass p b else if b.linkLocal then s else s.lpCount p 5

/-! ## Units taken (R298, R284) -/

/-- Retire the records of a range, in order (R268, R298). -/
def State.retireRange (r : Nat × Nat) (s : State) : State :=
  let hits := (List.range s.msu.ring.length).filterMap fun i => (s.msu.ring[i]?).bind fun x =>
    if !x.retired && (x.seq + 4294967296 - r.1) % 4294967296 < r.2 then some x.seq else none
  let s1 := foldOver (fun (q : Nat) (t : State) => t.jretire q) hits s
  if hits.length < r.2 then s1.setFld F.MSU_STAT_RETIRE_ERR 1 else s1

/-- The ranges of a confirm list (R284). -/
def confirmRanges : Nat → Bytes → List (Nat × Nat)
  | 0, _ => []
  | n + 1, b => if b.length < 8 then [] else (beNat (b.take 4), beNat ((b.drop 4).take 4)) :: confirmRanges n (b.drop 8)

/-- A CONFIRM unit is taken (R298, R306). -/
def State.lpConfirm (s : State) (p : Nat) (u : Bytes) : State :=
  let l := confirmRanges 15 u
  let s1 := s.publish (203 + 5 * p)
  if s.msu.replay.isSome then s1.onLp fun x => { x with heldConfirms := x.heldConfirms ++ l }
  else foldOver State.retireRange l s1

/-- The replay has ended: the confirms held for it are retired (R306). -/
def State.lpReleaseConfirms (s : State) : State :=
  (foldOver State.retireRange s.lp.heldConfirms s).onLp fun x => { x with heldConfirms := [] }

/-- A USER_DOWN unit is taken for the user clusters (R284). -/
def State.lpUserDown (s : State) (u : Bytes) : State := s.onLp fun x => { x with userDown := x.userDown ++ [u] }

/-! ## Registers -/

/-- A write of LPn_CFG: ROLE off acts at once, another ROLE starts a port in OFF (LPn_CFG, R306); BEACON
is left by a reset only (R125, R287). -/
def State.lpCfgWrite (s : State) (p : Nat) (w : Word) : State :=
  let s1 := s.regStore .LP_CFG p (s.nowOrWas fun t => t.lpState p != lpOff) w
  if s1.lpState p = lpBeacon then s1
  else if s1.fld F.LP_CFG_ROLE p ≥ 2 then (s1.boundaryOf F.LP_CFG_ROLE p).lpStop p
  else if s1.lpState p = lpOff then s1.lpStart p else s1

def State.lpClearCounts (s : State) (p : Nat) : State :=
  foldOver (fun (k : Nat) (t : State) => t.setReg .LP_CNT (p * 8 + k) 0) (List.range 8) s

/-- A write of LPn_CTRL. -/
def State.lpCtrlWrite (s : State) (p : Nat) (w : Word) : State :=
  let s1 := if bit w.toNat 1 then s.lpClearCounts p else s
  let s2 := if bit w.toNat 2 then s1.lpWakePeer p else s1
  if bit w.toNat 0 then s2.lpRetrain p else s2

/-- A port enters BEACON in Roadside (R301). -/
def State.lpBeaconEnter (p : Nat) (s : State) : State := if (s.line p).loopOk then (s.lpStop p).lpGo p lpBeacon else s.lpStop p

end Sys2Proof.Machine
end

