-- ==== Sys2Proof/Machine/LmOps.lean ====
section
/-! DEFINITION. Last Mile: its area, its slots, arming, and what a flush writes (R99 to R107). -/

namespace Sys2Proof.Machine

/-- The base of the Last Mile area in MiB (R100). -/
def State.lmArea (s : State) : Nat := s.fld F.SYSCTL_LMCFG_AREA

/-- Whether the area lies clear of the first MiB and wholly below the boundary (R100). -/
def State.areaOk (s : State) : Bool := 1 ≤ s.lmArea && s.lmArea < s.partB

/-- The flash offset of a slot. -/
def State.slotOff (s : State) (k : Nat) : Nat := s.lmArea * 1048576 + k * 524288

/-- Whether a table entry or the running erase touches a slot. -/
def State.slotHurt (s : State) (k : Nat) : Bool :=
  let b := s.slotOff k / 65536
  (s.flc.grown.entries ++ s.flc.partialTab.entries).any (fun e => b ≤ e.block && e.block < b + 8) ||
  match s.flc.erase with
  | some r => s.slotOff k ≤ r.cmd.offset && r.cmd.offset < s.slotOff k + 524288
  | none => false

/-- Whether a slot is erased: no word of it programmed, no bad or partly erased block in it (R100, R433). -/
def State.slotErased (s : State) (k : Nat) : Bool :=
  let w := s.slotOff k / 4
  !s.flc.marks.any (fun e => e.2 && w ≤ e.1 && e.1 < w + 131072) && !s.slotHurt k

/-- SLOT_READY, SLOT_DATA and ARMED follow the flash, AREA and ARM (R100, SYSCTL_LMSTAT). -/
def State.lmRefresh (s : State) : State :=
  if !s.areaOk then s.setFld F.SYSCTL_LMSTAT_ARMED 0
  else
    let ready := b2n (s.slotErased 0) + 2 * b2n (s.slotErased 1)
    let old := s.fld F.SYSCTL_LMSTAT_SLOT_DATA
    let data := fun k => s.marked (s.slotOff k / 4) || (bit old k && !s.slotErased k)
    ((s.setFld F.SYSCTL_LMSTAT_SLOT_READY ready).setFld F.SYSCTL_LMSTAT_SLOT_DATA (b2n (data 0) + 2 * b2n (data 1))).setFlag
      F.SYSCTL_LMSTAT_ARMED (s.flag F.SYSCTL_LMCFG_ARM && ready != 0)

/-! ## What a flush writes (R101, R102) -/

/-- The milestones whose record slots hold commit records (R102, R267). -/
def State.dirtyRecords (s : State) : List Nat := (List.range 64).filter fun k => s.byte (slotBase k + 4) == 0xC5#8

/-- Whether anything is dirty (R102). -/
def State.journalDirty (s : State) : Bool := !s.dirtyRecords.isEmpty || !s.msu.ring.isEmpty

/-- The header of a slot (R101 step 6; log entry 40). -/
def slotHeader (seq sec tick count tail head len : Nat) : Bytes :=
  leBytes 4 seq ++ leBytes 4 sec ++ leBytes 4 tick ++ leBytes 2 count ++ zeros 2 ++ leBytes 4 tail ++ leBytes 4 head ++ leBytes 4 len
    ++ zeros 4

/-- The fields of a slot header. -/
structure SlotHead where
  seq : Nat
  count : Nat
  tail : Nat
  head : Nat
  len : Nat
  deriving DecidableEq, Repr

def State.slotHead (s : State) (k : Nat) : SlotHead :=
  let b := s.bytes (flashBase + s.slotOff k) 32
  let f := fun o n => leNat ((b.drop o).take n)
  ⟨f 0 4, f 12 2, f 16 4, f 20 4, f 24 4⟩

/-- The sequence number of the next slot written: one above the highest of the slots that hold data. -/
def State.slotSeq (s : State) : Nat :=
  let q := fun k => if s.marked (s.slotOff k / 4) then (s.slotHead k).seq else 0
  max (q 0) (q 1) + 1

/-- The data of a slot: commit records in ascending milestone number, then the ring lines from the tail (R101 step 7). -/
def State.slotData (s : State) : Bytes :=
  s.dirtyRecords.flatMap (fun k => s.bytes (slotBase k) 512) ++ s.ringRead (s.fld F.MSU_JTAIL_OFFSET) (ringUsed s.msu.ring)

/-- The slot that a flush takes: the first that is erased. -/
def State.flushSlot (s : State) : Option Nat :=
  if !s.areaOk then none else if s.slotErased 0 then some 0 else if s.slotErased 1 then some 1 else none

/-- Steps 6 to 8 of R101, with the trip at a network time: the header, the data and the seal; with a limit, only so many data lines
and no seal. Nothing is written while nothing is dirty. A slot that is erased is used whatever ARMED reads (R101 step 6; DESIGN CHOICE,
log entry 171). -/
def State.writeSlot (s : State) (nt : Nat) (limit : Option Nat) : State :=
  match s.flushSlot with
  | none => s
  | some k =>
    if !s.journalDirty then s
    else
      let tail := s.fld F.MSU_JTAIL_OFFSET
      let len := ringUsed s.msu.ring
      let h := slotHeader s.slotSeq (nt / 100000000) (nt % 100000000) s.dirtyRecords.length tail ((tail + len) % ringSize) len
      let d := s.slotData
      match limit with
      | some n => (s.writeNative (s.slotOff k) h).writeNative (s.slotOff k + 32) (d.take (32 * n))
      | none => ((s.writeNative (s.slotOff k) h).writeNative (s.slotOff k + 32) d).writeNative (s.slotOff k + 32 + d.length)
          (leBytes 4 (crc32 (h ++ d)))

/-- The length of a slot's data as its header gives it. -/
def SlotHead.dataLen (h : SlotHead) : Nat := h.count * 512 + h.len

/-- Whether a slot is sealed: its seal is programmed and its CRC-32 holds (R101 step 8). -/
def State.slotSealed (s : State) (k : Nat) : Bool :=
  let h := s.slotHead k
  let n := 32 + h.dataLen
  n < 524288 && s.readable (s.slotOff k) (n + 4) && s.marked ((s.slotOff k + n) / 4) &&
    leNat (s.bytes (flashBase + s.slotOff k + n) 4) == crc32 (s.bytes (flashBase + s.slotOff k) n)

/-! ## Arming and the orderly flush (SYSCTL_LMCFG) -/

/-- Step 6 may begin: no pulse runs, and an erase is suspended (R101 step 5). -/
def State.flashQuiet (s : State) : Bool :=
  s.flc.programs.isEmpty && s.flc.page.isNone && (match s.flc.erase with
    | some r => r.suspended
    | none => true)

/-- A flush begins (R96, R101, R103), and discards the queue of FLC (R437). The network time of a trip in DOZE is what the NTC shows,
which is its reset value: it has no power there (DESIGN CHOICE, log entry 202). -/
def State.flushBegin (s : State) (orderly : Bool) : State :=
  ((s.setFld F.SYSCTL_LMSTAT_FLUSH_ACTIVE 1).onFlc fun f => { f with queue := [] }).onPwr fun p =>
    { p with flush := some { orderly, tripCyc := s.cyc, tripNt := s.nt, sealed := false } }

/-- A write of SYSCTL_LMCFG (R96, R100). -/
def State.lmcfgWrite (s : State) (w : Word) : State :=
  let area := bits w.toNat 4 0
  let armed := s.flag F.SYSCTL_LMSTAT_ARMED
  let s1 := if area = s.lmArea then s
    else if s.nowOrWas (fun t => t.flag F.SYSCTL_LMSTAT_ARMED) then s.setWlock .SYSCTL_LMCFG 0
    else (s.setFld F.SYSCTL_LMCFG_AREA area).setFld F.SYSCTL_LMSTAT_SLOT_DATA 0
  let s2 := s1.lmRefresh
  let s3 := if bit w.toNat 8 then
      (if s2.fld F.SYSCTL_LMSTAT_SLOT_READY = 0 ∨ !s2.areaOk then s2 else s2.setFld F.SYSCTL_LMCFG_ARM 1)
    else if s2.bankRuns ∨ (List.range 64).any (fun k => s2.mileState k != 0) then s2
    else s2.setFld F.SYSCTL_LMCFG_ARM 0
  let s4 := s3.lmRefresh
  if bit w.toNat 9 ∧ armed ∧ s.pwr.flush.isNone then s4.flushBegin true else s4

/-- A write of SYSCTL_VINCFG: LM_EN is cleared in DEVELOPMENT only. -/
def State.vincfgWrite (s : State) (w : Word) : State :=
  let s1 := (s.setFld F.SYSCTL_VINCFG_RELEASE (bits w.toNat 15 8)).setFld F.SYSCTL_VINCFG_TRIP (bits w.toNat 7 0)
  if bit w.toNat 16 then s1.setFld F.SYSCTL_VINCFG_LM_EN 1
  else if s.security = 0 then s1.setFld F.SYSCTL_VINCFG_LM_EN 0
  else if s.flag F.SYSCTL_VINCFG_LM_EN then s1.setWlock .SYSCTL_VINCFG 0 else s1

/-- The trip level in force: TRIP within 180 to 230 (SYSCTL_VINCFG). -/
def State.tripLevel (s : State) : Nat := min 230 (max 180 (s.fld F.SYSCTL_VINCFG_TRIP))

/-- The re-arm and restart level in force: RELEASE, at least 4 above the trip level (SYSCTL_VINCFG). -/
def State.releaseLevel (s : State) : Nat := max (s.tripLevel + 4) (s.fld F.SYSCTL_VINCFG_RELEASE)

/-- The least hold-up capacitance, in uF, for the regulator's efficiency in percent, the board's other power in mW, the trip level in 50 mV
units and the lowest bus voltage in mV (R108): 2 * (17 mJ / eta + P * 48 ms) / (Vtrip^2 - Vmin^2), rounded up; none where the trip
level does not lie above the lowest voltage. -/
def holdUpMicrofarads (eta other trip vmin : Nat) : Option Nat :=
  let v := trip * 50
  if eta = 0 ∨ v ≤ vmin then none
  else
    let n := 2 * (17 * 100 * 1000 + other * 48 * eta) * 1000000
    let d := eta * (v * v - vmin * vmin)
    some ((n + d - 1) / d)

end Sys2Proof.Machine
end

