-- ==== Sys2Proof/Machine/PwrOps.lean ====
section
/-! DEFINITION. Power states, voltage requests, references and clocks (R43 to R59, R76 to R98). -/

namespace Sys2Proof.Machine

/-! ## Exchanges, floor, resting state -/

/-- The bits of RAISE_CAUSE (R49). -/
inductive Exch where
  | host | lp0 | lp1 | wurx | field | pad | rtc
  deriving DecidableEq, Repr

def Exch.bit : Exch → Nat
  | .host => 0 | .lp0 => 1 | .lp1 => 2 | .wurx => 3 | .field => 4 | .pad => 5 | .rtc => 6

def State.restState (s : State) : Nat := s.fld F.SYSCTL_PSTATE_REST
def State.isExch (s : State) (e : Exch) : Bool := bit (s.fld F.SYSCTL_PSTATE_RAISE_CAUSE) e.bit
def State.noExch (s : State) : Bool := s.fld F.SYSCTL_PSTATE_RAISE_CAUSE == 0

def State.setExch (s : State) (e : Exch) (b : Bool) : State :=
  let w := BitVec.ofNat 32 (s.fld F.SYSCTL_PSTATE_RAISE_CAUSE)
  s.setFld F.SYSCTL_PSTATE_RAISE_CAUSE (wordPut w e.bit e.bit (b2n b)).toNat

/-- The floor of R46: 7 while no mode sets one. Roadside suspends the radio and line roles, and its floor is LISTEN (R53). -/
def State.floorNow (s : State) : Nat :=
  if s.inRoadside then 1
  else if s.rf.role = 2 ∨ s.core.debug then 0
  else if s.lpRole 0 = 1 ∨ s.lpRole 1 = 1 then 1
  else 7

/-- FLOOR, RAISED and the current state, kept in SYSCTL_PSTATE. -/
def State.pstate (s : State) : State :=
  (s.setFld F.SYSCTL_PSTATE_FLOOR s.floorNow).setFlag F.SYSCTL_PSTATE_RAISED (s.cur < s.restState)

/-- The current state takes a value, with its event while the fabric runs (R364). -/
def State.setCur (s : State) (v : Nat) : State :=
  if s.cur = v then s.pstate
  else
    let s1 := (s.setFld F.SYSCTL_PSTATE_CUR v).pstate
    if s.onPll then s1.publish 380 else s1

/-- The user domain is gated: CL1 and CL2 lose their cores and SRAM (R37, R56). -/
def State.userOff (s : State) : State :=
  ((s.clusterLose 1).clusterLose 2).onSram fun r => { r with scrub := Tab.keep r.scrub fun b _ => bankCluster b == 0 }

/-- Whether PLL0 is locked, which RUN asks for, and LISTEN outside Roadside (R54). -/
def State.pllLocks (s : State) : Bool := s.flag F.SYSCTL_CLKSTAT_PLL_LOCK

/-- Customer firmware starts again from its start address: the user cores that the Supervisor had released (R48, R381). -/
def State.userStart (s : State) : State :=
  let en := s.core.userEn
  let s1 := s.setFld F.SYSCTL_CORE_EN_EN ((s.fld F.SYSCTL_CORE_EN_EN ||| en / 4) % 4194304)
  foldOver (fun (c : Nat) (t : State) => if 8 ≤ c && bit en c then
    let u := t.boundary .SYSCTL_CLSTART (clusterOf c)
    u.setPc c (u.reg .SYSCTL_CLSTART (clusterOf c)) else t) (List.range 24) s1

/-- A raise to RUN from LISTEN, once PLL0 is locked (R48, R51, R54). Entering RUN hands over the delivery records that waited for it
(R45). -/
def State.raiseTo (s : State) (v : Nat) : State :=
  if v < s.cur ∧ s.cur ≤ 1 ∧ s.pllLocks then (s.setCur v).userStart.deliverWaiting else s

/-- NOTIFY_STATE (R147). -/
def State.notifyState (s : State) (old : Word) (st : Status) : State :=
  s.notify 1 (leBytes 4 old.toNat ++ leBytes 4 (s.reg .SYSCTL_PSTATE).toNat ++ leBytes 2 st.code)

/-- The resting state takes a value, with its notification (R51, R147). An entry under way to another state ends: the return that
follows takes the new one. -/
def State.setRest (s : State) (v : Nat) : State :=
  if s.restState = v then s.pstate
  else
    let s1 := ((s.setFld F.SYSCTL_PSTATE_REST v).pstate).notifyState (s.reg .SYSCTL_PSTATE) .ok
    if s.pwr.entry = some v then s1 else s1.onPwr fun p => { p with entry := none, ready := false, flushed := false }

/-- A mode has been set: a resting state below the floor rises to it (R46). -/
def State.applyFloor (s : State) : State :=
  let f := s.floorNow
  if f ≠ 7 ∧ s.restState > f then (s.setRest f).raiseTo f else s.pstate

/-- Whether the conditions for DOZE and HIBERNATE hold (R54, R274); for HIBERNATE, whether the journal is flushed or can be. -/
def State.entryClear (s : State) : Bool :=
  !(List.range 64).any (fun k => s.mileState k != 0) && s.flc.programs.isEmpty && s.flc.page.isNone && s.flc.erase.isNone
    && s.flc.updates.isEmpty && !(s.fld F.DMC_STAT_STATE == 3 && s.inFld F.SYSCTL_SLEEPCFG_DRAM_RETAIN == 1)
    && s.frm.ctxs.isEmpty && (s.floorNow == 7 || s.floorNow ≥ 2)
    && (s.pwr.entry != some 3 || !s.journalDirty || s.pwr.flushed || s.flag F.SYSCTL_LMSTAT_ARMED)

/-! ## Clocks (R87 to R94) -/

/-- The blocks that need PLL0 stop; a port in BEACON goes on from FRC (R36, R94, R497, R529). -/
def State.toFrc (s : State) : State :=
  if !s.onPll then s
  else
    let bank := s.bankRuns
    let sched := s.schedRuns
    let s1 := ((s.setFld F.SYSCTL_CLKSTAT_SRC_CUR 0).setFld F.SYSCTL_CLKCFG_SRC 0).setFld F.TMR_STAT_FROZEN 1
    let s2 := ((s1.setFld F.NTC_STAT_ON_FRC 1).discDown).bankStop
    let lines := [0, 1].filter fun p => s.lpState p != lpBeacon
    let s3 := (foldOver State.lpStop lines (foldOver State.rxStop [0, 1] (foldOver State.excPllLoss [0, 1] s2))).schedHalt.dmcPllLoss
    (s3.onRf fun r => { r with runAgain := bank }).onSched fun d => { d with runAgain := sched }

/-- PLL0 is selected: the blocks that it had stopped go on (R92, R306, R376, R497). -/
def State.toPll (s : State) : State :=
  if s.onPll then s
  else
    let s1 := ((s.setFld F.SYSCTL_CLKSTAT_SRC_CUR 1).setFld F.SYSCTL_CLKCFG_SRC 1).setFld F.TMR_STAT_FROZEN 0
    let s2 := (s1.setFld F.NTC_STAT_ON_FRC 0).evfRelease
    let s3 := if s.rf.runAgain && s.flag F.SYSCTL_LMSTAT_ARMED && !s.inRoadside then s2.bankGo else s2
    let s4 := if s.sched.runAgain && !s.inRoadside then s3.schedGo else s3
    let s5 := (s4.onRf fun r => { r with runAgain := false }).onSched fun d => { d with runAgain := false }
    foldOver (fun (p : Nat) (t : State) => if t.portEnabled p then t.synToLo p else t) [0, 1]
      (foldOver State.lpStart [0, 1] s5)

/-- PLL0 loses lock (R94, R497). -/
def State.pllLoss (s : State) : State := s.toFrc.setFld F.SYSCTL_CLKSTAT_PLL_LOCK 0

/-- Loss of lock with both references present (R497). -/
def State.pllLockLoss (s : State) : State :=
  if s.flag F.SYSCTL_CLKSTAT_PLL_LOCK then s.pllLoss.raise 2 0x00 0 else s

/-- Whether a reference is good. -/
def State.refGood (s : State) (r : Nat) : Bool := if r = 0 then s.flag F.SYSCTL_CLKSTAT_REFA_GOOD else s.flag F.SYSCTL_CLKSTAT_REFB_GOOD
def State.setRefGood (s : State) (r : Nat) (b : Bool) : State :=
  if r = 0 then s.setFlag F.SYSCTL_CLKSTAT_REFA_GOOD b else s.setFlag F.SYSCTL_CLKSTAT_REFB_GOOD b

/-- VACK below 0.75 V keeps PLL0 off (R83). -/
def State.vackNom (s : State) : Bool := s.fld F.PMB_STAT_VACK ≥ 150

/-- Whether PLL0 runs: enabled, VCORE acknowledged, a reference good. -/
def State.pllRuns (s : State) : Bool := s.flag F.SYSCTL_CLKCFG_PLL_EN && s.vackNom && s.refGood (s.fld F.SYSCTL_CLKSTAT_REF_ACTIVE)

/-- PLL0 moves to a reference, without a glitch, with its event (R88, R89, R364). -/
def State.refSwitch (s : State) (r cls : Nat) : State :=
  (((s.setFld F.SYSCTL_CLKSTAT_REF_ACTIVE r).bump F.SYSCTL_CLKSTAT_REF_SWITCHES).publish 55).raise cls 0x00 0

/-- The failure of a reference is noted (R88). -/
def State.refLost (s : State) (r : Nat) : State := s.onPwr fun p => { p with refDown := r :: p.refDown.filter fun k => k != r }

/-- A reference is declared failed (R87, R88, R90). -/
def State.refFail (s : State) (r : Nat) : State :=
  if !s.refGood r then s
  else
    let s1 := (s.setRefGood r false).refLost r
    if !s.flag F.SYSCTL_CLKCFG_PLL_EN ∨ s.fld F.SYSCTL_CLKSTAT_REF_ACTIVE ≠ r then s1.raise 1 0x00 0
    else if s1.refGood (1 - r) then s1.refSwitch (1 - r) 1
    else s1.pllLoss.fatal 0x00 0 0 0x11

/-- A reference is declared good (R87, R89). -/
def State.refOk (s : State) (r : Nat) : State :=
  let s1 := (s.setRefGood r true).onPwr fun p =>
    { p with refSeen := if p.refSeen.contains r then p.refSeen else p.refSeen ++ [r], refDown := p.refDown.filter fun k => k != r }
  if s.flag F.SYSCTL_CLKCFG_REF_REVERT ∧ s.fld F.SYSCTL_CLKCFG_REF_PREF = r ∧ s.fld F.SYSCTL_CLKSTAT_REF_ACTIVE ≠ r
    ∧ s.flag F.SYSCTL_CLKSTAT_PLL_LOCK then s1.refSwitch r 0
  else s1

/-- PLL0 starts: it takes REF_PREF when both references are good, else the good one (SYSCTL_CLKCFG). -/
def State.pllStart (s : State) : State :=
  let r := if s.refGood 0 && s.refGood 1 then s.fld F.SYSCTL_CLKCFG_REF_PREF else if s.refGood 1 then 1 else 0
  (s.setFld F.SYSCTL_CLKCFG_PLL_EN 1).setFld F.SYSCTL_CLKSTAT_REF_ACTIVE r

def State.pllStop (s : State) : State := (s.setFld F.SYSCTL_CLKCFG_PLL_EN 0).setFld F.SYSCTL_CLKSTAT_PLL_LOCK 0

/-- A wake from DOZE is complete: CUR takes LISTEN, whose condition holds (R54, R97). -/
def State.wakeDone (s : State) : State :=
  if s.pwr.waking then (s.onPwr fun p => { p with waking := false }).setCur 1 else s

/-- What needs RUN and waited for PLL0: a USER_CALL that runs, or a resting state above the current one (R48, R49, R51, R54, R156). -/
def State.raiseDue (s : State) : State :=
  if s.inRoadside then s else if s.hcp.calls.isEmpty then s.raiseTo s.restState else s.raiseTo 0

/-- PLL0 locks (R91): a wake from DOZE is complete, and a raise that waited for the lock takes place. -/
def State.pllLocked (s : State) : State := if s.pllRuns then (s.setFld F.SYSCTL_CLKSTAT_PLL_LOCK 1).wakeDone.raiseDue else s

/-- Lock has not come within 50 ms (R91, R497). -/
def State.pllTimeout (s : State) : State :=
  if s.flag F.SYSCTL_CLKCFG_PLL_EN ∧ !s.flag F.SYSCTL_CLKSTAT_PLL_LOCK then s.fatal 0x00 0 0 0x10 else s

/-- A write of SYSCTL_CLKCFG (R89, R93). -/
def State.clkcfgWrite (s : State) (w : Word) : State :=
  let s1 := (s.setFlag F.SYSCTL_CLKCFG_REF_REVERT (bit w.toNat 8)).setFlag F.SYSCTL_CLKCFG_REF_PREF (bit w.toNat 7)
  let s2 := if bit w.toNat 3 then (if s.flag F.SYSCTL_CLKCFG_PLL_EN then s1 else s1.pllStart)
    else if !s.flag F.SYSCTL_CLKCFG_PLL_EN then s1
    else if s.nowOrWas State.onPll then s1.setWlock .SYSCTL_CLKCFG 0 else s1.pllStop
  if bit w.toNat 0 then (if s2.flag F.SYSCTL_CLKSTAT_PLL_LOCK then s2.toPll else s2) else s2.toFrc

/-! ## Voltage requests (R80 to R85) -/

/-- VCORE_RET in 5 mV units (R82). -/
def vcoreRet : Nat := 130

/-- VCORE_NOM in force (PMB_VREQ). -/
def State.vcoreNom (s : State) : Nat := min 170 (max 150 (s.fld F.PMB_VREQ_VTARGET))

/-- The signed exponent N of a reply to VOUT_MODE (R81). -/
def voutExp (mode : Byte) : Int := (mode.extractLsb' 0 5).toInt

/-- 2^-N as a fraction. -/
def voutNum (n : Int) : Nat := 2 ^ (-n).toNat
def voutDen (n : Int) : Nat := 2 ^ n.toNat

/-- The data of VOUT_COMMAND for a target: round(V * 2^-N), V in 5 mV (R81). -/
def voutData (n : Int) (t : Nat) : Nat := (t * 5 * voutNum n * 2 + 1000 * voutDen n) / (2000 * voutDen n)

/-- The packet error code of PMBus, a CRC-8 of polynomial 0x07 over the bytes of a transaction, the address bytes with their direction bit
among them (R81; PRESUMED for the polynomial, log entry 199). -/
def pmbCode (l : Bytes) : Byte := BitVec.ofNat 8 (crcBits 8 0x07 0 (byteBits l))

/-- The address byte of a transaction: direction 0 writes, 1 reads. -/
def State.pmbAddr (s : State) (dir : Nat) : Byte := BitVec.ofNat 8 (s.fld F.PMB_CFG_ADDR * 2 + dir)

/-- A write to the regulator, with its packet error code (R81, R83). -/
def State.pmbFrame (s : State) (cmd : Byte) (data : Bytes) : Bytes :=
  let b := s.pmbAddr 0 :: cmd :: data
  b ++ [pmbCode b]

/-- The packet error code of a read of a word (R81). -/
def State.pmbReadCode (s : State) (cmd : Byte) (w : Half) : Byte :=
  pmbCode ([s.pmbAddr 0, cmd, s.pmbAddr 1] ++ leBytes 2 w.toNat)

/-- The VOUT_COMMAND write of a target goes out (R80, R81). -/
def State.pmbVout (s : State) (t : Nat) : State :=
  let w := voutData s.pwr.pmb.exp t
  s.onPwr fun p => { p with pmb := { p.pmb with word := w, frame := s.pmbFrame 0x21 (leBytes 2 w) } }

/-- The VOUT_COMMAND write of a target begins (R83). -/
def State.pmbSend (s : State) (t : Nat) : State :=
  ((s.setFld F.PMB_STAT_BUSY 1).onPwr fun p =>
    { p with pmb := { p.pmb with sending := some t, awaiting := none, next := none, retries := 0, pollRetries := 0 } }).pmbVout t

/-- A request for a target (R84). -/
def State.pmbRequest (s : State) (t : Nat) : State :=
  if s.pwr.pmb.sending.isSome then s.onPwr fun p => { p with pmb := { p.pmb with next := some t } } else s.pmbSend t

/-- VACK takes a value, with its event (R83, R364). -/
def State.setVack (s : State) (t : Nat) : State :=
  if s.fld F.PMB_STAT_VACK = t then s else (s.setFld F.PMB_STAT_VACK t).publish 381

/-- A request ends. -/
def State.pmbIdle (s : State) : State :=
  (s.setFld F.PMB_STAT_BUSY 0).onPwr fun p => { p with pmb := { p.pmb with sending := none, awaiting := none, retries := 0, pollRetries := 0 } }

/-- A fault has been logged: CLEAR_FAULTS is sent (R80). -/
def State.pmbClear (s : State) : State :=
  s.onPwr fun p => { p with pmb := { p.pmb with clears := p.pmb.clears + 1, frame := s.pmbFrame 0x03 [] } }

/-- A request is abandoned (R85). A raise abandoned while VACK is at or above 0.75 V does not count among the consecutive ones of the row
for lower levels (DESIGN CHOICE, log entry 156). -/
def State.pmbAbandon (s : State) (t : Nat) : State :=
  let s1 := s.pmbIdle.setFld F.PMB_STAT_TIMEOUT 1
  if t = vcoreRet then (s1.raise 1 0x01 0).pmbClear
  else if s.vackNom then (s1.raise 2 0x01 0).pmbClear
  else
    let n := s.pwr.raises + 1
    let s2 := s1.onPwr fun p => { p with raises := n }
    if n ≥ 3 then (s2.fatal 0x01 0 0 0x13).pmbClear else ((s2.raise 2 0x01 0).pmbClear).pmbSend t

/-- The next request that waited, if any (R84). -/
def State.pmbNext (s : State) : State :=
  match s.pwr.pmb.next with
  | some t => s.pmbSend t
  | none => s

/-- What a transaction met sets its flags: not acknowledged, or a packet error code that fails (R81, R85). -/
def State.pmbMet (s : State) (nack pec : Bool) : State :=
  let s1 := if nack then s.setFld F.PMB_STAT_NACK 1 else s
  if pec then s1.setFld F.PMB_STAT_PEC_ERR 1 else s1

/-- The VOUT_COMMAND write ends (R83 to R85): with or without an acknowledgement and a good packet error code. A write that fails while a
newer target waits is not tried again: the newer one takes its place (DESIGN CHOICE, log entry 200). -/
def State.pmbWriteDone (s : State) (nack pec : Bool) : State :=
  match s.pwr.pmb.sending with
  | none => s
  | some t =>
    if nack || pec then
      let s2 := s.pmbMet nack pec
      if s.pwr.pmb.next.isSome then s2.pmbNext
      else if s.pwr.pmb.retries < s.fld F.PMB_CFG_RETRIES then
        s2.onPwr fun p => { p with pmb := { p.pmb with retries := p.pmb.retries + 1 } }
      else s2.pmbAbandon t
    else
      let s1 := if t < s.fld F.PMB_STAT_VACK then s.setVack t else s
      (s1.onPwr fun p => { p with pmb := { p.pmb with sending := none, awaiting := some t } }).pmbNext

/-- The request is acknowledged (R83, R85). -/
def State.pmbAck (s : State) : State :=
  match s.pwr.pmb.awaiting with
  | none => s
  | some t =>
    let raise := t > s.fld F.PMB_STAT_VACK
    (s.pmbIdle.setVack t).onPwr fun p => { p with raises := if raise then 0 else p.raises }

/-- PMB_PGOOD is high (R83). -/
def State.pmbPgood (s : State) : State := if s.flag F.PMB_CFG_PGOOD_USE then s.pmbAck else s

/-- A poll of STATUS_WORD and READ_VOUT (R83): the target is met within 15 mV. A poll that fails is tried again up to RETRIES times;
then the request is abandoned (R81, R85). -/
def State.pmbPoll (s : State) (status vout : PmbReply) : State :=
  let bad := fun (cmd : Byte) (r : PmbReply) => !r.nack && r.code != s.pmbReadCode cmd r.word
  let nack := status.nack || vout.nack
  let pec := bad 0x79 status || bad 0x8B vout
  match s.pwr.pmb.awaiting with
  | none => s
  | some t =>
    if s.flag F.PMB_CFG_PGOOD_USE then s
    else if nack || pec then
      let s1 := s.pmbMet nack pec
      if s.pwr.pmb.pollRetries < s.fld F.PMB_CFG_RETRIES then
        s1.onPwr fun p => { p with pmb := { p.pmb with pollRetries := p.pmb.pollRetries + 1 } }
      else s1.pmbAbandon t
    else
      let n := s.pwr.pmb.exp
      let d : Int := (vout.word.toNat * 1000 * voutDen n : Nat) - (t * 5 * voutNum n : Nat)
      let s1 := s.onPwr fun p => { p with pmb := { p.pmb with pollRetries := 0 } }
      if bit status.word.toNat 15 || bit status.word.toNat 11 || d.natAbs > 15 * voutNum n then s1 else s1.pmbAck

/-- No acknowledgement within TIMEOUT (R85). -/
def State.pmbTimeout (s : State) : State :=
  match s.pwr.pmb.awaiting with
  | some t => s.pmbAbandon t
  | none => s

/-- PMB_PGOOD falls with no request pending (R85): STATUS_WORD is read, and an output fault in it is an S3. Reads that are not acknowledged
or carry a bad code set their flags; where every retry fails, STATUS_WORD is not known, and the fall itself is logged S2. -/
def State.pmbFall (s0 : State) (x : PmbTries) : State :=
  let s := s0.pmbMet (x.nacks != 0) (x.pecs != 0)
  if !s.flag F.PMB_CFG_PGOOD_USE ∨ s.flag F.PMB_STAT_BUSY then s0
  else if x.nacks + x.pecs > s.fld F.PMB_CFG_RETRIES then (s.raise 2 0x01 0).pmbClear
  else (if bit x.word.toNat 15 then s.fatal 0x01 0 (BitVec.ofNat 32 x.word.toNat) 0x14
    else s.raise 2 0x01 0 (BitVec.ofNat 32 x.word.toNat)).pmbClear

/-- A write of PMB_VREQ (R82, R84). -/
def State.vreqWrite (s : State) (w : Word) : State :=
  let s1 := s.setFld F.PMB_VREQ_VTARGET (bits w.toNat 7 0)
  s1.pmbRequest s1.vcoreNom

/-! ## Cycles -/

/-- A new cycle begins: it finds the registers and the blocks as they stand, and no flag has been set in it yet (R7, R10). A cycle is what
comes between two steps on an empty queue, and a commit point ends its cycle (DESIGN CHOICE, log entry 163). -/
def State.newCycle (s : State) : State :=
  let frm : FrmState := { s.frm with freed := [], granted := [], peakWas := none, waved := [] }
  let tmr : TmrState := { s.tmr with reloaded := [] }
  let busyWas : BusyWas := { flc := s.flc.busy, fem := [0, 1].filter s.femInUse, queues :=
    (Tab.keys s.sched.queues).filter (fun q => !(s.queue q).isEmpty) ++ s.sched.units.map fun u => u.2.1 }
  let err : ErrState := { s.err with cycAge := s.err.nextAge, counted := [] }
  { s with was := s.regs, busyWas, raised := [], tmr, err, evf := { s.evf with closed := [] }, hcp := { s.hcp with taken := [] }, frm,
           txp := { s.txp with justCommitted := [] }, sched := { s.sched with fresh := [] } }

/-! ## Entry to DOZE and HIBERNATE (R52, R54, R55, R95) -/

/-- Steps 2 to 4 of R95: the user domain, the radio, SCHED and the line ports stop, the DRAM goes to self-refresh or stops, and
the clock moves to FRC. An entry abandoned after them leaves the device in the state it was in (R52): what ran goes on once PLL0 is
selected again. -/
def State.entrySteps (s : State) : State :=
  let s1 := foldOver State.lpDozing [0, 1] s.userOff
  let s2 := (s1.txSilence.bankStop).schedHalt
  let s3 := if s.inFld F.SYSCTL_SLEEPCFG_DRAM_RETAIN = 1 ∧ s.dramReady then s2.dmcSelfRefresh else s2.dmcStop
  (((s3.toFrc.pllStop).onRf fun r => { r with runAgain := s.bankRuns }).onSched fun d => { d with runAgain := s.schedRuns }).onPwr
    fun p => { p with ready := true }

/-- The conditions hold: the steps before the commit point are done (R55, R95); for HIBERNATE the orderly flush comes first, with
the radio silent (R96). -/
def State.entryGo (s : State) : State :=
  if s.pwr.entry.isSome && !s.pwr.ready && s.entryClear && s.pwr.flush.isNone then
    (if s.pwr.entry = some 3 ∧ s.journalDirty ∧ !s.pwr.flushed then s.txSilence.flushBegin true else s.entrySteps)
  else s

/-- An entry to a lower state begins (R48, R55). From RUN, LISTEN has no conditions: its commit point is here, and the waiting fields of
SYSCTL_SLEEPCFG take effect (R52). A wake of the same cycle has been sent before (log entry 163). -/
def State.entryStart (s : State) : State :=
  let v := s.restState
  if v ≤ s.level ∨ s.inRoadside ∨ s.pwr.flush.isSome ∨ s.pwr.entry.isSome then s
  else if v = 1 then (if s.pllLocks then ((s.boundary .SYSCTL_SLEEPCFG).userOff.setCur 1).newCycle else s)
  else (s.onPwr fun p => { p with entry := some v, ready := false, flushed := false }).entryGo

/-- An entry is given up: openings and allocation resume (R52, R55). -/
def State.entryDrop (s : State) : State := s.onPwr fun p => { p with entry := none, ready := false, flushed := false }

/-- A condition has failed for 100 ms, before the steps of R95 or between them and the commit point (R54, R55, R152). -/
def State.entryTimeout (s : State) : State :=
  if s.pwr.entry.isNone || s.entryClear then s
  else
    let s1 := ((s.entryDrop).setFld F.SYSCTL_PSTATE_REST s.cur).pstate
    s1.notifyState (s.reg .SYSCTL_PSTATE) .stateBusy

/-- An exchange opens in LISTEN or RUN: it stops the return, and a pending entry is abandoned (R50, R52). -/
def State.exchOpen (s : State) (e : Exch) : State := (s.setExch e true).entryDrop

def State.exchClose (s : State) (e : Exch) : State := s.setExch e false

/-- RAISE_HOLD has elapsed after the last exchange (R48); a command in progress, and a completion that has not been sent, hold their
exchange open (R156). -/
def State.returnTimer (s : State) : State := if s.noExch && s.hcp.jobs.isEmpty && !s.replying then s.entryStart else s

/-- The sync window after a match of the WURX has passed: without a sync word the exchange ends; with one it goes on until the frame
has been journalled and its acknowledgement has ended (R49). -/
def State.relayWindow (s : State) : State := if s.pwr.wurxSync then s else s.exchClose .wurx

end Sys2Proof.Machine
end

