-- ==== Sys2Proof/Machine/BootOps.lean ====
section
/-! DEFINITION. Resets, the boot sequence, Roadside, the flush of Last Mile, DOZE and HIBERNATE (R95 to R128). -/

namespace Sys2Proof.Machine

/-! ## What survives -/

/-- Keep the registers, of every instance, whose names a test accepts. -/
def State.keepRegs (s : State) (p : RegName → Bool) : Tab Word :=
  Tab.keep s.regs fun k _ => match regTable[k % 512]? with
    | some row => p row.name
    | none => false

/-- Registers of the backup domain (R37, R110, SYSCTL_LMSTAT, CTL). -/
def isBackup (r : RegName) : Bool :=
  (RegName.RTC_CTRL.ctorIdx ≤ r.ctorIdx && r.ctorIdx ≤ RegName.RTC_BKP.ctorIdx) || [.SYSCTL_LMSTAT, .CTL_CFG, .CTL_STAT, .CTL_LOCK,
    .CTL_OPENRD, .CTL_TIDENT, .CTL_TSTATUS, .CTL_TSTATUS2, .CTL_TKEY, .CTL_RKEY, .CTL_TMEM].contains r

/-- The flash controller after a reset: the array and its tables stay (R428). -/
def FlcState.afterReset (f : FlcState) : FlcState :=
  { f with queue := [], programs := [], page := none, erase := none, blank := none, results := [], msuDone := [], jobDone := [],
           recOpen := none, prefetch := [], btc := [], pulseEnded := false }

/-- Load the region row into TXP; balances above a new capacity are cut to it (R211, R440). -/
def State.regionLoad (s : State) : State :=
  foldOver State.ledgerClamp (List.range 8) (foldOver (fun (n : Nat) (t : State) =>
    let k := n / 4
    t.setReg .TXP_RGN n (if t.halfState (3 + k / 2) (k % 2) = .unprogrammed then 0
      else t.reg .OTP_ROW ((3 + k / 2) * 8 + k % 2 * 4 + n % 4))) (List.range 32) s)

/-- What fuses that read as blown now, and did not before, do at once (R126): TXP takes the region row; the debug session ends with its
scope. -/
def State.fusesAct (old s : State) : State :=
  let s1 := if s.regionLocked && !old.regionLocked then s.regionLoad else s
  if s1.debugDisabled && !old.debugDisabled then
    (s1.onCore fun c => { c with debug := false }).onHcp fun x => { x with debugScope := none }
  else s1

/-- An OTP program is cut (R442); a fuse that reads as blown for it acts (R126). -/
def State.otpCut (s : State) : State := State.fusesAct s (s.otpDone true true)

/-- Running flash and OTP work ends at a reset, a brown-out or a loss of power (R428, R442, R495). -/
def State.workEnds (s : State) : State := s.flcAbort.otpCut

/-- The CTL core has lost its power or has been reset: the carrier is off and the session is gone. The front end lives on field energy:
the tag keeps its state, but SECURED becomes OPEN (R45, R460, R463, R479). -/
def State.ctlCoreLost (s : State) : State :=
  (if s.fld F.CTL_STAT_TAG_STATE = 5 then s.setFld F.CTL_STAT_TAG_STATE 4 else s).setFld F.CTL_STAT_READER_ON 0

/-- What the front end and its retention capacitor keep of the tag when the backup domain itself is lost (R461, R463). -/
def State.frontEnd (old s : State) : State :=
  (((s.setFld F.CTL_STAT_FIELD (old.fld F.CTL_STAT_FIELD)).setFld F.CTL_STAT_TAG_STATE (old.fld F.CTL_STAT_TAG_STATE)).onCtl
    fun c => { c with quiet := old.ctl.quiet, recent := old.ctl.recent }).ctlCoreLost

/-- LMSTAT keeps its value outside a flush; the contactless core is lost. -/
def State.backupAfter (s : State) : State :=
  (((s.setFld F.SYSCTL_LMSTAT_FLUSH_ACTIVE 0).setFld F.SYSCTL_LMSTAT_ARMED 0).ctlCoreLost).chargeStop

/-- What a loss of every domain but the backup domain leaves (R37, R56, R110): the reset state with the backup domain, the flash and
OTP arrays, and what lies outside the device. -/
def State.powerDown (s0 : State) : State :=
  let s := s0.workEnds
  State.backupAfter { State.reset with
    cyc := s.cyc, free := s.free, pending := s.pending, vinLow := s.vinLow, rtc := s.rtc,
    regs := s.keepRegs isBackup,
    mem := Tab.keep s.mem fun k _ => decide (flashBase ≤ k ∧ k < 0x0A000000),
    flc := s.flc.afterReset, otp := { s.otp with run := none },
    ctl := { quiet := s.ctl.quiet, recent := s.ctl.recent, errs := s.ctl.errs }, core := { debug := s.core.debug, lost := List.range 24 }, rf := { temp := s.rf.temp },
    pwr := { vbak := s.pwr.vbak, digest := s.pwr.digest, unsealed := s.pwr.unsealed, config := s.pwr.config, env := s.pwr.env,
             pinLow := s.pwr.pinLow, pinFlush := s.pwr.pinFlush, busLow := s.pwr.busLow, configAt := s.pwr.configAt, refSeen := s.pwr.refSeen, refDown := s.pwr.refDown } }

/-- The backup domain is lost (R56): calendar, backup registers, tag memory, the saved digest. -/
def State.backupLost (s : State) : State :=
  State.frontEnd s { s with regs := [], rtc := {}, ctl := {}, pwr := { s.pwr with vbak := false, digest := [] } }

/-- A cold reset: RSTCAUSE holds its own cause alone, the filter is cold (R57, R110). -/
def State.coldReset (s : State) (cause : Fld) : State :=
  (((s.powerDown).setReg .SYSCTL_RSTCAUSE 0 0).setFld cause 1).filterCold

/-! ## Warm reset (R110, R111, R273) -/

/-- Registers that a warm reset keeps beside those of the backup domain (R110). -/
def isWarm (r : RegName) : Bool :=
  isBackup r || [.SYSCTL_RSTCAUSE, .SYSCTL_VINCFG, .SYSCTL_LMCFG, .MSU_MS_STAT, .MSU_TVAR, .ERR_CLSCNT, .ERR_DROPPED,
    .ERR_NEWEST].contains r

/-- Whether a warm reset leaves the journal SRAM as it is: ARMED is 0 or no slot is erased (R111). -/
def State.journalKept (s : State) : Bool := !(s.flag F.SYSCTL_LMSTAT_ARMED && s.flushSlot.isSome)

/-- Whether the boot ROM flushes the journal at a warm reset (R111). -/
def State.flushDue (s : State) : Bool := !s.journalKept && s.journalDirty

/-- The fields of other registers that a warm reset keeps: REF_SWITCHES and the monitors of the references, ROADSIDE_COUNT,
PMB_CFG, VACK, and ERR_STAT but its flags WLOCK and ACK_ERR. -/
def State.warmFields (old s : State) : State :=
  let cp := fun (f : Fld) (t : State) => t.setFld f (old.fld f)
  foldOver cp [F.SYSCTL_CLKSTAT_REF_SWITCHES, F.SYSCTL_CLKSTAT_REFA_GOOD, F.SYSCTL_CLKSTAT_REFB_GOOD, F.SYSCTL_CLKSTAT_XT32_GOOD,
    F.SYSCTL_BOOTSTAT_ROADSIDE_COUNT, F.PMB_STAT_VACK, F.ERR_STAT_OVERFLOW, F.ERR_STAT_ESCALATED, F.ERR_STAT_CONSEC,
    F.PMB_CFG_TIMEOUT, F.PMB_CFG_RETRIES, F.PMB_CFG_PGOOD_USE, F.PMB_CFG_ADDR] s

/-- A warm reset with its causes (R110, R111, R273). Unless it is kept, the journal SRAM takes the full test of step 2, which leaves
nothing in it. -/
def State.warmReset (s0 : State) (causes : List Fld) : State :=
  let s1 := s0.commitNow.workEnds
  let due := s1.flushDue
  let kept := s1.journalKept
  let s2 := (if due then s1.writeSlot s1.nt none else s1)
  let s := s2.msuWarmReset
  let d := s2.powerDown
  let t : State := { d with
    regs := s.keepRegs isWarm,
    mem := Tab.keep s.mem fun k _ => decide ((flashBase ≤ k ∧ k < 0x0A000000) ∨ (kept ∧ 0x20400000 ≤ k ∧ k < 0x20440000)),
    err := { log := s.err.log, nextAge := s.err.nextAge, cycAge := s.err.nextAge, snapSec := s.ntSec }, msu := if kept then s.msu else {},
    sram := { errs := if !kept then [] else Tab.keep s.sram.errs fun k _ => decide (0x08100000 ≤ k ∧ k < 0x08110000) } }
  let t1 := ((State.warmFields s t).setFld F.SYSCTL_LMSTAT_FLUSH_ACTIVE 0).ctlCoreLost
  (foldOver (fun (f : Fld) (u : State) => u.setFld f 1) causes (t1.setFlag F.SYSCTL_BOOTSTAT_JFLUSH due)).filterCold

/-! ## Cluster reset (R110, R273, R325, R348, R373) -/

/-- Drop a PROVISION whose carrier a reset has switched off; it gets no completion (chapter 18). -/
def State.provisionCut (s : State) : State :=
  let ids := (s.ctl.waiting.map Provision.job).toList ++ ((s.ctl.reader.bind Reader.prov).map Provision.job).toList
  if ids.isEmpty then s
  else (foldOver (fun (j : Nat) (t : State) => t.onHcp fun h => { h with jobs := Tab.del h.jobs j }) ids s).onCtl fun c =>
    { c with waiting := none, reader := none }

/-- The consumers of a cluster lose PEND, OVR and COAL (R373). -/
def State.consumersClear (s : State) (cl : Nat) : State :=
  foldOver (fun (c : Nat) (t : State) => if t.consOwner c = cl then
      (t.setFld F.EVF_CSTAT_OVR 0 c).setFld F.EVF_CSTAT_COAL 0 c else t) (List.range 320)
    (foldOver (fun (c : Nat) (t : State) => if clusterOf c = cl then t.setReg .EVF_CORE_PEND c 0 else t) (List.range 24) s)

/-- A cluster reset of CL1 or CL2. -/
def State.clusterReset (s : State) (cl : Nat) : State :=
  let s1 := ((s.clusterLose cl).msuClusterReset cl).schedClusterReset cl
  let s2 := foldOver (fun (n : Nat) (t : State) => if t.tmrOwner n = cl then t.tmrHalt n else t) (List.range 32) s1
  let s3 := foldOver (fun (k : Nat) (t : State) => if t.cmpOwner k = cl then t.cmpDisarm k else t) (List.range 16) s2
  let en := ((List.range 24).filter fun k => bit s.core.userEn k && clusterOf k != cl).foldl (fun a k => a + 2 ^ k) 0
  let s4 := ((s3.consumersClear cl).provisionCut).onCore fun c => { c with userEn := en }
  let mine := s4.hcp.calls.filter fun c => c.2.1 == cl
  let s5 := foldOver (fun (c : Nat × Nat × Nat) (t : State) => t.complete c.1 .aborted) mine s4
  ((s5.onHcp fun h => { h with calls := h.calls.filter fun c => c.2.1 != cl }).setReg .ERR_WDT_CFG (cl + 1)
    (regReset .ERR_WDT_CFG (cl + 1))).setReg .ERR_WDT_STAT (cl + 1) (regReset .ERR_WDT_STAT (cl + 1)) |>.onErr fun e =>
      { e with wdtDue := e.wdtDue.filter (· != cl + 1) }

/-! ## Roadside (R122 to R125, R486) -/

/-- Enter Roadside: silence, blocks stopped, FRC for causes 0x10 to 0x13, the sessions and memories of HCP
cleared, the reader
suspended, beacons on. A second cause changes nothing but the log (R122). -/
def State.enterRoadside (s0 : State) (cause : Nat) : State :=
  let s := { s0 with roadPend := none }
  if s.inRoadside then s
  else
    let s1 := (((((s.pinsSafe 0).pinsSafe 1).txSilence).bankStop).schedHalt).schedLose
    let s2 := (s1.userOff.onRf fun r => { r with runAgain := false }).onSched fun d => { d with runAgain := false }
    let s3 := if (0x10 ≤ cause ∧ cause ≤ 0x13) ∨ !s2.flag F.SYSCTL_CLKSTAT_PLL_LOCK then s2.toFrc else s2
    let s4 := ((s3.setFld F.SYSCTL_PSTATE_ROADSIDE 1).setFld F.SYSCTL_BOOTSTAT_ROADSIDE_CAUSE cause).bump F.SYSCTL_BOOTSTAT_ROADSIDE_COUNT
    let s5 := s4.setFlag F.SYSCTL_BOOTSTAT_ROM_RESP (!s.pwr.up || s.core.halted.contains 0)
    let s6 := (s5.entryDrop.setCur 1).applyFloor
    let s7 := (foldOver (fun (c : Nat × Nat × Nat) (t : State) => t.complete c.1 .aborted) s6.hcp.calls s6).onHcp fun h =>
      { h with uartRate := 0, rateNext := [], calls := [], tps := h.tps.map fun e =>
        (e.1, { e.2 with memory := [], session := none, challenge := none }) }
    let s8 := (s7.onCtl fun c => { c with reader := none, waiting := none }).setFld F.CTL_STAT_READER_ON 0
    foldOver State.lpBeaconEnter [0, 1] (s8.onPwr fun p => { p with waking := false })

/-! ## Configuration image (R56, R100) -/

/-- The bits of a register that the configuration image holds: its RW bits, less those that start a block, act at once or belong to
another domain (log entry 42). -/
def configMask (row : RegRow) : Word :=
  let r := row.name
  if isBackup r || RegName.CL_CXDEC.ctorIdx ≤ r.ctorIdx then 0
  else match r with
    | .SYSCTL_CLKCFG | .SYSCTL_CORE_EN | .SYSCTL_PSTATE | .PMB_CFG | .PMB_VREQ | .FLC_SRC | .FLC_DATA | .FLC_WEARIDX | .OTP_PDATA | .ERR_WDT_CFG
    | .NTC_SETSEC | .NTC_SETTICK | .NTC_STEPVAL | .NTC_CMP_SEC | .NTC_CMP_TICK | .TMR_COUNT | .SCHED_CTRL
    | .RF_SYNTAB_IDX | .LANE_CTRL | .LANE_BANK_CTRL | .FRM_VAULT_SEL | .TXP_RGN | .CTL_HOLD => 0
    | .SYSCTL_LMCFG => 0x1F
    | .SCHED_GATE_CTRL => 1
    | .TMR_CTRL => row.rw &&& 0xFFFFFFFE
    | .RF_CTRL => row.rw &&& 0xFFFFFFFE
    | _ => row.rw

/-- CONFIG_SAVE: the image as the registers stand. -/
def State.configNow (s : State) : ConfigImage :=
  { regs := (s.regs.map fun e => (e.1, match regTable[e.1 % 512]? with
      | some row => e.2 &&& configMask row
      | none => 0)).filter fun e => match regTable[e.1 % 512]? with
      | some row => configMask row != 0
      | none => false,
    vault := s.frm.vault, role := s.rf.role, rest := s.restState }

/-- Restore one register of the image; AREA is loaded when it reads 0 (R100). -/
def State.configPut (e : Nat × Word) (s : State) : State :=
  match regTable[e.1 % 512]? with
  | none => s
  | some row =>
    let m := configMask row
    let n := e.1 / 512
    if row.name = .SYSCTL_LMCFG ∧ s.lmArea ≠ 0 then s
    else s.setReg row.name n ((s.reg row.name n &&& ~~~m) ||| (e.2 &&& m))

/-- The Supervisor restores its configuration, the vault and the radio role (R56, R97); line ports start under their roles. After
DOZE the SYSCTL and PMB registers stand as they were kept (log entry 46), and WUR_CFG after DOZE and HIBERNATE. -/
def State.configRestore (s : State) (doze : Bool) : State :=
  let c := s.pwr.config
  let wur := match s.pwr.after with
    | .wake _ => true
    | _ => doze
  let regs := Tab.keep c.regs fun k _ => !(doze && decide (k % 512 < RegName.HPORT_CFG.ctorIdx)) && !(wur && k % 512 == RegName.WUR_CFG.ctorIdx)
  let s1 := (foldOver State.configPut regs s).onFrm fun f => { f with vault := c.vault }
  (foldOver State.lpStart [0, 1] (s1.onRf fun r =>
    { r with role := c.role, calMaxBase := s1.fld F.LANE_BANK_CALCFG_CAL_MAX })).applyFloor

/-! ## Images (R117 to R121) -/

/-- A boot directory copy (R117), with the sector that holds it. -/
structure BootDir where
  sector : Nat
  seq : Nat
  active : Nat
  trial : Bool
  tries : Nat
  baseA : Nat
  baseB : Nat
  size : Nat
  deriving DecidableEq, Repr

/-- A directory as bytes. -/
def BootDir.bytes (d : BootDir) : Bytes :=
  let b := leBytes 4 0x48444952 ++ leBytes 4 d.seq ++ [BitVec.ofNat 8 d.active, BitVec.ofNat 8 (b2n d.trial), BitVec.ofNat 8 d.tries, 0#8]
    ++ leBytes 4 d.baseA ++ leBytes 4 d.baseB ++ leBytes 4 d.size ++ zeros 4
  b ++ leBytes 4 (crc32 b)

/-- The directory in a sector, when it passes. -/
def State.readDir (s : State) (sector : Nat) : Option BootDir :=
  let b := s.bytes (flashBase + sector * 4096) 32
  let f := fun o n => leNat ((b.drop o).take n)
  if f 0 4 = 0x48444952 ∧ f 28 4 = crc32 (b.take 28) ∧ s.readable (sector * 4096) 32 then
    some ⟨sector, f 4 4, f 8 1, f 9 1 != 0, f 10 1, f 12 4, f 16 4, f 20 4⟩
  else none

/-- The boot ROM reads both copies (R417). -/
def State.dirReads (s : State) : State := ((s.readSpan 0 32).2.readSpan 4096 32).2

/-- The valid directory (R117). -/
def State.bootDir (s : State) : Option BootDir :=
  match s.readDir 0, s.readDir 1 with
  | some a, some b => some (if b.seq > a.seq then b else a)
  | some a, none => some a
  | none, d => d

/-- The valid directory, or one of a free layout where no copy passes (log entry 70). -/
def State.dirNow (s : State) : BootDir :=
  s.bootDir.getD ⟨1, 0, 0, false, 0, Config.imageLayout 0, Config.imageLayout 1, Config.imageLayout 2⟩

/-- Write a directory into the sector of the other copy, under the next sequence number, its erase with an operation record (R119, R429). -/
def State.writeDir (s : State) (d : BootDir) : State :=
  let sec := 1 - d.sector
  (s.eraseRecorded sec).writeNative (sec * 4096) { d with sector := sec, seq := d.seq + 1 }.bytes

/-- The base of a slot. -/
def BootDir.slotBase (d : BootDir) (k : Nat) : Nat := if k = 0 then d.baseA else d.baseB

/-- The image header fields used (R118): security version, body and Supervisor part lengths. -/
structure ImageHead where
  version : Nat
  body : Nat
  sup : Nat
  deriving DecidableEq, Repr

def State.imageHead (s : State) (base : Nat) : ImageHead :=
  let f := fun o => leNat (s.bytes (flashBase + base + o) 4)
  ⟨f 4, f 8, f 12⟩

/-- The signature part of the check: the key matches the root hash, and the signature verifies (R118). -/
def State.imageSigned (s : State) (base : Nat) : Bool :=
  let a := flashBase + base
  let key := s.bytes (a + 0x60) 64
  sha256 key == s.rowBytes 2 && ecdsaVerify key (s.bytes a 0xA0) (s.bytes (a + 0xA0) 64)

/-- The magic, lengths, version and digests of the check (R118, R121). A version above 32, a slot above 4 MiB and a base off a 4 KiB
boundary fail as well (DESIGN CHOICE, log entry 172). -/
def State.imageWhole (s : State) (base size : Nat) : Bool :=
  let a := flashBase + base
  let h := s.imageHead base
  leNat (s.bytes a 4) == 0x4855494D && h.body % 64 == 0 && h.body + 256 ≤ size && h.sup % 64 == 0 && h.sup ≤ 524288 && h.sup ≤ h.body
    && size ≤ 4194304 && base % 4096 == 0 && h.version ≤ 32 && s.fld F.OTP_FUSE_SECVER ≤ h.version && s.readable base (256 + h.body)
    && sha256 (s.bytes (a + 256) h.body) == s.bytes (a + 0x20) 32 && sha256 (s.bytes (a + 256) h.sup) == s.bytes (a + 0x40) 32

/-- The boot ROM reads a slot for its check: the header, and as much of the body as its lengths say within the slot (R118, R417). -/
def State.slotReads (s : State) (d : BootDir) (k : Nat) : State :=
  let base := d.slotBase k
  let n := (s.imageHead base).body
  (s.readSpan base (if leNat (s.bytes (flashBase + base) 4) = 0x4855494D ∧ n + 256 ≤ d.size then 256 + n else 256)).2

/-- Whether a slot passes (R118). -/
def State.slotPasses (s : State) (d : BootDir) (k : Nat) : Bool :=
  s.imageWhole (d.slotBase k) d.size && (s.security == 0 || s.imageSigned (d.slotBase k))

/-- Image selection (R119): the slot to boot, with the state after its reads and the directory write it took. A trial without tries left goes
back to the other slot before that slot has been checked, and then to Roadside where it fails (DESIGN CHOICE, log entry 173). -/
def State.imageSelect (s : State) : Option Nat × State :=
  let t := s.dirReads
  match t.bootDir with
  | none => (none, t)
  | some d =>
    let other := 1 - d.active
    let u := t.slotReads d d.active
    let good := u.slotPasses d d.active
    if good && !d.trial then (some d.active, u)
    else if good && d.tries > 0 then
      (some d.active, (u.writeDir { d with tries := d.tries - 1 }).setFld F.SYSCTL_BOOTSTAT_TRIAL 1)
    else
      let v := u.slotReads d other
      if !good && !v.slotPasses d other then (none, v)
      else
        let s1 := ((v.writeDir { d with active := other, trial := false }).setFld F.SYSCTL_BOOTSTAT_FALLBACK 1).setFld F.ERR_STAT_CONSEC 0
        (if v.slotPasses d other then some other else none, s1.raise 2 0x25 4)

/-- The digest of the Supervisor part of a slot. -/
def State.supDigest (s : State) : Bytes :=
  match s.bootDir with
  | some d => s.bytes (flashBase + d.slotBase d.active + 0x40) 32
  | none => []

/-- The Supervisor part as it stands in flash, hashed (R120). The active slot is the one that the directory names at the wake, also after a
switch without a reset (DESIGN CHOICE, log entry 170). -/
def State.supHash (s : State) : Bytes :=
  match s.bootDir with
  | some d => sha256 (s.bytes (flashBase + d.slotBase d.active + 256) (s.imageHead (d.slotBase d.active)).sup)
  | none => []

/-! ## The boot sequence (R114 to R116) -/

/-- Set a bit of BOOTSTAT. -/
def State.bootBit (s : State) (f : Fld) (b : Bool) : State := s.setFlag f b

/-- Step 2: the SRAM test. A journal SRAM that a warm reset has kept is only read through its code (R111). -/
def State.bootSram (s : State) : Bool × State :=
  let e := s.pwr.env
  let s0 := foldOver (fun (k : Nat) (t : State) => (t.checkRam (.mem (4 * k))).2) (Tab.keys s.sram.errs) s
  let s1 := foldOver (fun (w : RamWord) (t : State) => t.raise 1 0x25 2 w.info) e.sramSingles s0
  let ok := !e.sramBad && e.sramSingles.length ≤ 16
  (ok, if ok then s1.bootBit F.SYSCTL_BOOTSTAT_SRAM_OK true else s1.fatal 0x25 2 0 0x01)

/-- Boot step 3 logs each malformed descriptor of the region row S1 (R533). -/
def State.regionCheck (s : State) : State :=
  foldOver (fun (k : Nat) (t : State) => if bit (t.rgn k 0) 31 && !t.rgnValid k then t.raise 1 0x14 0 (BitVec.ofNat 32 k) else t)
    (List.range 8) s

/-- Whether OTP passes step 3 (R114, R440). -/
def State.otpPasses (s : State) : Bool :=
  !(List.range 16).any (fun r => s.halfState r 0 == .crcFailed || s.halfState r 1 == .crcFailed)
    && !([3, 4, 5, 6].any fun r => s.halfState r 0 == .dirty || s.halfState r 1 == .dirty)
    && s.halfState 0 0 == .programmed
    && (!fuseMaj (s.rowBits 7) 0 || (s.halfState 2 0 == .programmed && s.halfState 2 1 == .programmed))

/-- FLC_PART from the fuse row (R413, R414). -/
def State.partLoad (s : State) : State :=
  let r7 := s.rowBits 7
  let b := if psSetMaj r7 then splitMaj r7 else 16
  s.setReg .FLC_PART 0 (BitVec.ofNat 32 (b2n (!psSetMaj r7) * 2147483648 + b * 65536 + (32 - b)))

/-- An abandoned raise of the boot ROM that leads nowhere: TIMEOUT, an S2 and CLEAR_FAULTS (R80, R85). -/
def State.nomLost (s : State) : State := ((s.setFld F.PMB_STAT_TIMEOUT 1).raise 2 0x01 0).pmbClear

/-- The request of VCORE_NOM at boot (R82, R85, R114). At a VACK of 0.75 V or more an abandoned raise leaves the device there; below,
the boot ROM sends it again up to the third. Its outcome is settled within step 3, before step 4 begins (DESIGN CHOICE, log entry 201). -/
def State.bootVcore (s : State) : Bool × State :=
  let e := s.pwr.env
  let nom := s.vcoreNom
  let s1 := (s.pmbVout nom).pmbMet e.nomNack e.nomPec
  let got := fun (t : State) => (t.setFld F.PMB_STAT_VACK nom).onPwr fun p => { p with raises := 0 }
  if nom ≤ s1.fld F.PMB_STAT_VACK then (true, (if e.nomLost = 0 then s1 else s1.nomLost).setFld F.PMB_STAT_VACK nom)
  else if e.nomLost = 0 then (true, got s1)
  else if s1.vackNom then (true, s1.nomLost)
  else if e.nomLost < 3 then (true, got (if e.nomLost = 1 then s1.nomLost else s1.nomLost.nomLost))
  else (false, (((s1.nomLost.nomLost).fatal 0x01 0 0 0x13).pmbClear).onPwr fun p => { p with raises := 3 })

/-- VOUT_MODE is read, with its retries (R80, R81, R85): PGOOD_USE follows the pin, N is taken over; a mode other than LINEAR16, or one
that cannot be read (DESIGN CHOICE, log entry 157), is an S3. -/
def State.bootVout (s : State) : Bool × State :=
  let e := s.pwr.env
  let s1 := (s.setFlag F.PMB_CFG_PGOOD_USE e.pgoodWired).onPwr fun p => { p with pmb := { p.pmb with exp := voutExp e.voutMode } }
  let s2 := s1.pmbMet (e.voutNacks != 0) (e.voutPecs != 0)
  if bits e.voutMode.toNat 7 5 ≠ 0 ∨ e.voutNacks + e.voutPecs > s1.fld F.PMB_CFG_RETRIES then (false, (s2.fatal 0x01 0 0 0x12).pmbClear) else s2.bootVcore

/-- Step 3: OTP integrity, the fuses, partitioning, the PMBus address, the factory calibration, the region row, and the request of
VCORE_NOM (R82, R114, R128). -/
def State.bootOtp (s : State) : Bool × State :=
  let s1 := (s.otpReload).partLoad
  let s2 := foldOver (fun (k : Nat) (t : State) => if fuseDisagrees (t.rowBits 7) k then t.raise 1 0x25 3 (BitVec.ofNat 32 k) else t)
    (List.range 4) s1
  let s3 := foldOver (fun (k : Nat) (t : State) =>
    let h := t.halfState (16 + k / 2) (k % 2)
    if h = .dirty ∨ h = .crcFailed then t.raise 2 0x09 0 (BitVec.ofNat 32 (16 + k / 2)) else t) (List.range 224) s2
  if !s3.otpPasses then (false, s3.fatal 0x25 3 0 0x02)
  else
    let s4 := s3.setFld F.PMB_CFG_ADDR (if s3.halfState 0 1 = .programmed then bits ((s3.rowBytes 0).getD 16 0).toNat 6 0
      else if s3.halfState 0 1 = .unprogrammed then 0x40 else s3.fld F.PMB_CFG_ADDR)
    let s5 := (s4.setFld F.PMB_VREQ_VTARGET (min 170 (max 150 s4.otp.cal.vcoreNom)))
    let s6 := (if s5.regionRowSet then s5 else s5.raise 0 0x09 0).regionLoad.regionCheck.bootBit F.SYSCTL_BOOTSTAT_OTP_OK true
    s6.bootVout

/-- Step 4: image selection. -/
def State.bootImage (s : State) : Bool × State :=
  match s.imageSelect with
  | (some k, s1) => (true, (s1.bootBit F.SYSCTL_BOOTSTAT_IMAGE_OK true).setFld F.SYSCTL_BOOTSTAT_SLOT k)
  | (none, s1) => (false, s1.fatal 0x25 4 0 0x03)

/-- Step 5: the flash tables and the operation records. One copy of the factory table that passes serves; a copy that fails cannot be
written again (R114, R432, R434). -/
def State.bootTables (s : State) : Bool × State :=
  let fail := fun (t : State) => (false, t.fatal 0x25 5 0 0x04)
  if s.pwr.env.factoryFails ≥ 2 then fail s
  else match s.bootTable magicGrown 2 with
    | (none, s1) => fail s1
    | (some g, s1) => match (s1.onFlc fun f => { f with grown := g }).bootTable magicPartial 4 with
      | (none, s2) => fail s2
      | (some p, s2) => (true, ((s2.onFlc fun f => { f with partialTab := p }).bootRecords).bootBit F.SYSCTL_BOOTSTAT_FLTAB_OK true)

/-- What step 6 finds at a reference: good; bad although it was good since power-on, which is its failure, logged once; or never good,
which is logged S0 at each boot (R87, R88). -/
def State.bootRef (x : Nat × Bool) (s : State) : State :=
  if x.2 then s.refOk x.1
  else if s.pwr.refSeen.contains x.1 then
    (if s.pwr.refDown.contains x.1 then s else ((s.setRefGood x.1 false).refLost x.1).raise 1 0x00 0)
  else (s.setRefGood x.1 false).raise 0 0x00 0 (BitVec.ofNat 32 x.1)

/-- Step 6: the references, PLL0's lock and its selection. -/
def State.bootPll (s : State) : Bool × State :=
  let e := s.pwr.env
  let s1 := foldOver State.bootRef [(0, e.refA), (1, e.refB)] s
  let s2 := s1.pllStart
  if !s2.pllRuns ∨ !e.pllLock then (false, s2.fatal 0x25 6 0 0x10)
  else (true, (s2.setFld F.SYSCTL_CLKSTAT_PLL_LOCK 1).toPll)

/-- Step 7: the loopbacks (R116). -/
def State.bootLoops (s : State) : Bool × State :=
  let e := s.pwr.env
  let s1 := ((s.bootBit F.SYSCTL_BOOTSTAT_RFA_LB e.rfa).bootBit F.SYSCTL_BOOTSTAT_RFB_LB e.rfb).bootBit F.SYSCTL_BOOTSTAT_LP0_LB e.lp0
  let s2 := ((s1.bootBit F.SYSCTL_BOOTSTAT_LP1_LB e.lp1).onLine 0 fun x => { x with loopOk := e.lp0 }).onLine 1
    fun x => { x with loopOk := e.lp1 }
  let fails := [(5, e.rfa), (6, e.rfb), (7, e.lp0), (8, e.lp1)].filter fun x => !x.2
  match fails with
  | [] => (true, s2)
  | (c, _) :: _ => (false, foldOver (fun (x : Nat × Bool) (t : State) => t.fatal 0x25 7 (BitVec.ofNat 32 x.1) c) fails s2)

/-- Run boot steps until one fails. -/
def bootRun : List (State → Bool × State) → State → Bool × State
  | [], s => (true, s)
  | f :: fs, s => match f s with
    | (true, s1) => bootRun fs s1
    | r => r

/-- The first instruction of the Supervisor or of the ROM responder (R112, R139, R147): NRESET_OUT is released, the transports
open, WDT0 counts 1,000 ms (R490). -/
def State.firstInstruction (s : State) : State :=
  ((s.setFld F.ERR_WDT_STAT_LEFT 1000 0).onPwr fun p => { p with up := true, resetOut := true }).onHcp fun h => { h with readyIrq := true }

def State.notifyReset (s : State) : State :=
  s.notify 0 (leBytes 4 (s.reg .SYSCTL_RSTCAUSE).toNat ++ leBytes 4 (s.reg .SYSCTL_BOOTSTAT).toNat)

/-- What a flush without a seal leaves for the restart (R107). -/
def State.unsealedNote (s : State) : State :=
  if s.pwr.unsealed then ((s.setFld F.SYSCTL_LMSTAT_UNSEALED 1).raise 2 0x00 0).onPwr fun p => { p with unsealed := false } else s

/-- The Supervisor marks a region of system SRAM and a region of DRAM non-secure for each user cluster (R39, R42). Which ones is a free
value; the DRAM regions lie below the filter's table (log entry 81). -/
def State.regionsGrant (s : State) : State :=
  foldOver (fun (x : Nat × Nat × Nat) (t : State) =>
    let (b, t1) := t.fresh (x.2.2 / 32)
    let (n, t2) := t1.fresh (x.2.2 / 32 - b)
    t2.onCore fun c => { c with regions := c.regions ++ [⟨x.2.1 + 32 * b, 32 * (n + 1), x.1⟩] })
    [(1, 0x20000000, 0x400000), (2, 0x20000000, 0x400000), (1, dramBase, 0x80000000), (2, dramBase, 0x80000000)] s

/-- The steps 2 to 7 of the boot ROM (R114). -/
def bootSteps : List (State → Bool × State) :=
  [State.bootSram, State.bootOtp, State.bootImage, State.bootTables, State.bootPll, State.bootLoops]

/-- What follows the boot ROM: the Supervisor with its configuration, or Roadside; then what the boot was for (R49, R105, R114, R494). -/
def State.handOver (r : Bool × State) : State :=
  match r with
  | (true, s1) =>
    let s2 := (s1.firstInstruction.onPwr fun p => { p with digest := s1.supDigest }).pstate
    if s2.fld F.ERR_STAT_CONSEC ≥ max 1 (s2.fld F.ERR_CFG_CONSEC_MAX) then (s2.enterRoadside 0x20).notifyReset
    else
      let s3 := ((s2.configRestore false).regionsGrant).notifyReset
      match s1.pwr.after with
      | .run => s3
      | .wake c => ((s3.setFld F.SYSCTL_PSTATE_CUR 1).setFld F.SYSCTL_PSTATE_REST 3).setFld F.SYSCTL_PSTATE_RAISE_CAUSE (2 ^ c) |>.applyFloor
      | .recover => s3.setRest s1.pwr.config.rest
  | (false, s1) => ((s1.enterRoadside (s1.roadPend.getD 0x20)).firstInstruction).notifyReset

/-- The boot sequence, after the reset itself (R114): SECURE_BOOT acts as the reset finds it (R126). NRESET_IN may fall during one of
the steps: what has been done up to it is lost to a warm reset, and the boot runs again from step 1 (R113). -/
def State.boot (s0 : State) : State :=
  let s := ((s0.onOtp fun o => { o with secure := fuseMaj (s0.rowBits 7) 0 }).unsealedNote)
  let t := match s.pwr.env.pinFalls with
    | none => bootRun bootSteps s
    | some k => match bootRun (bootSteps.take (k - 1)) s with
      | (true, s1) =>
        let s2 := (s1.onPwr fun p => { p with env := { p.env with pinFalls := none } }).warmReset [F.SYSCTL_RSTCAUSE_PIN]
        bootRun bootSteps (s2.onPwr fun p => { p with after := s.pwr.after })
      | r => r
  (State.handOver t).onPwr fun p => { p with after := .run }

/-! ## Resets with their boots -/

/-- The environment of the next boot. -/
def State.setEnv (s : State) (e : BootEnv) : State := s.onPwr fun p => { p with env := e }

def State.setEnvIf (s : State) (b : Bool) (e : BootEnv) : State := if b then s.setEnv e else s

/-- Whether a flush runs: it ignores resets, wakes and commands (R103). -/
def State.flushing (s : State) : Bool := s.pwr.flush.isSome

/-- Whether a reset by a source inside the device can be taken: powered, not held, and no flush running. -/
def State.resettable (s : State) : Bool := s.sysOn && !s.flushing

/-- A warm reset and its boot. -/
def State.warmBoot (s : State) (causes : List Fld) : State := (s.warmReset causes).boot

/-- The release of the power-on reset, or its wait for NRESET_IN (R79). -/
def State.releaseOrWait (s : State) : State :=
  if s.pwr.pinLow then s.onPwr fun p => { p with pinWait := true } else s.boot

/-- Supplies valid (R79, R109): the brown-out's own reset goes on; otherwise a power-on reset begins. Whether VBAK is present is what the
command finds; an absent one holds nothing of the backup domain. The bus is above its release level again (R99). -/
def State.powerOn (s : State) (e : BootEnv) : State :=
  let s0 := ({ s with vinLow := false } : State).onPwr fun p => { p with busLow := false }
  if s.pwr.held then ((s0.setEnv e).onPwr fun p => { p with held := false }).releaseOrWait
  else
    let s1 := (s0.onPwr fun p => { p with refSeen := [], refDown := [] }).setEnv e
    let s2 := if e.vbak then s1 else s1.backupLost
    ((s2.coldReset F.SYSCTL_RSTCAUSE_POR).onPwr fun p => { p with vbak := e.vbak }).releaseOrWait

/-- Whether VCORE is present, with the device out of its power-on reset: NRESET_IN acts in RUN, LISTEN and DOZE (R82, R109). -/
def State.pinResets (s : State) : Bool := s.level ≤ 2 && !s.pwr.off && !s.pwr.held && !s.pwr.pinWait && !s.flushing

/-- NRESET_IN falls for 1 us (R67, R109, R113): a warm reset and a boot; one held by a watchdog takes place with it. During a flush the
fall is ignored; a pin still low when the flush has ended acts then. -/
def State.pinFall (s : State) (e : BootEnv) : State :=
  let s1 := (s.onPwr fun p => { p with pinLow := true, pinFlush := p.flush.isSome }).setEnvIf s.flushing e
  if !s.pinResets then s1
  else if !s.err.held.isEmpty then s1.setFld F.SYSCTL_RSTCAUSE_PIN 1
  else (s1.setEnv e).warmBoot [F.SYSCTL_RSTCAUSE_PIN]

/-- NRESET_IN rises (R79). -/
def State.pinRise (s : State) (e : BootEnv) : State :=
  let s1 := s.onPwr fun p => { p with pinLow := false, pinFlush := false }
  if s.pwr.pinWait then ((s1.setEnv e).onPwr fun p => { p with pinWait := false }).boot else s1

/-- A write of RSTCTL (R109). -/
def State.rstctlWrite (s : State) (w : Word) : State :=
  if bits w.toNat 31 16 ≠ 0xC0DE then s
  else if bit w.toNat 0 then (if s.resettable then s.warmBoot [F.SYSCTL_RSTCAUSE_SOFT] else s)
  else
    let s1 := if bit w.toNat 1 then s.clusterReset 1 else s
    if bit w.toNat 2 then s1.clusterReset 2 else s1

/-- The levels of the GPIO outputs, latched at a commit point (R65). -/
def State.gpioLevels (s : State) : Tab Nat :=
  foldOver (fun (n : Nat) (t : Tab Nat) => if s.flag F.EVF_GPIO_OE n then Tab.putD t n 0 (1 + s.fld F.EVF_GPIO_OUT n) else t) (List.range 24) []

/-! ## Flush and park (R101 to R107) -/

/-- The commit in progress completes; OPEN and WAITING milestones are discarded, frame contexts released (R101 step 3, R262). -/
def State.mileSettle (s0 : State) : State :=
  let s := s0.commitNow
  let s1 := foldOver (fun (k : Nat) (t : State) => if t.mileState k = 1 ∨ t.mileState k = 2 then t.mileAbort k 7 .aborted else t)
    (List.range 64) s
  foldOver (fun (c : Nat) (t : State) => t.ctxFree c) (Tab.keys s1.frm.ctxs) s1

/-- The flash work at a trip (R101 step 5, R104, R428): the queue is discarded, a page program abandoned, a table update cut, an erase
suspended; program pulses end by themselves. -/
def State.flcTrip (s : State) : State :=
  s.updCut.pageCut.onFlc fun f =>
    { f with queue := [], blank := none, erase := f.erase.map fun r => { r with suspended := true, suspends := [], resume := none } }

/-- Steps 2 to 4 of R101 after the front-end pins, and the flush begins. -/
def State.lastMile (a : State) : State :=
  let s1 := ((a.txSilence).mileSettle).chargeStop
  let s2 := ((s1.userOff.bankStop).schedHalt).schedLose
  let s3 := (s2.onRf fun r => { r with runAgain := false }).onSched fun d => { d with runAgain := false }
  let s4 := (((foldOver State.lpStop [0, 1] s3).dmcStop).toFrc).onRf fun r => { r with runAgain := false }
  let s5 := ((s4.entryDrop).setFld F.SYSCTL_PSTATE_RAISE_CAUSE 0).onHcp fun _ => {}
  let s6 := ((s5.onErr fun e => { e with held := [] }).onCtl fun c => { c with reader := none, waiting := none }).setFld F.CTL_STAT_READER_ON 0
  (s6.flcTrip.onFlc fun f => { f with pulseEnded := false }).flushBegin false

/-- The VIN_SENSE trip (R64, R99, R101): the front-end pins go to their safe level and stay there until the bus recovers, charging stops
(R359), an OTP program ends (R442), and unless Last Mile is off or its flush runs, the flush begins; it takes the place of an orderly one.
In HIBERNATE and OFF nothing happens (R53). A comparator that has tripped acts again once the bus has risen above its release level. -/
def State.vinTrip (s0 : State) : State :=
  if s0.level ≥ 3 ∨ s0.pwr.off ∨ s0.pwr.held ∨ s0.pwr.pinWait ∨ s0.vinLow then s0
  else
    let a := (((({ s0 with vinLow := true } : State).otpCut).pinsSafe 0).pinsSafe 1).chargeStop
    let late := a.pwr.flush.any fun f => !f.orderly
    if !a.flag F.SYSCTL_VINCFG_LM_EN || late then a else a.lastMile

/-- FLUSH_WRITE_SLOT: steps 6 to 8 of R101, once the flash is quiet; an orderly flush ends here: a NRESET_IN that fell during it and is
still low acts now (R67), otherwise the entry it serves goes on (R96). -/
def State.flushWrite (s : State) : State :=
  match s.pwr.flush with
  | none => s
  | some f =>
    if f.sealed || !s.flashQuiet then s
    else
      let s1 := s.writeSlot f.tripNt none
      if f.orderly then
        let s2 := (s1.setFld F.SYSCTL_LMSTAT_FLUSH_ACTIVE 0).onPwr fun p => { p with flush := none, flushed := true }
        if s2.pwr.pinFlush then (s2.onPwr fun p => { p with pinFlush := false }).warmBoot [F.SYSCTL_RSTCAUSE_PIN] else s2.entryGo
      else s1.onPwr fun p => { p with flush := some { f with sealed := true } }

/-- Step 9: the park, to HIBERNATE with VBAK present, otherwise to OFF (R96, R101, R106). The GPIO hold their last level, which after a trip
in DOZE is the one latched there (R65). -/
def State.park (s : State) (f : Flush) : State :=
  let t := (s.setFld F.SYSCTL_LMSTAT_LAST_TIME (min 65535 ((s.cyc - f.tripCyc) / 1000))).powerDown
  if s.pwr.vbak then
    ((t.setFld F.SYSCTL_PSTATE_CUR 3).setReg .SYSCTL_VINCFG 0 (s.reg .SYSCTL_VINCFG)).onPwr fun p =>
      { p with parked := true, gpioLatch := if s.level = 2 then s.pwr.gpioLatch else s.gpioLevels }
  else t.backupLost.onPwr fun p => { p with parked := true, off := true }

/-- A NRESET_IN that fell during the flush and is still low acts once the device has parked (R67): VCORE being present in a HIBERNATE
entered by a park (R106), it is the warm reset of R109 (DEDUCED, log entry 158). In OFF it holds back the release of the restart (R79). -/
def State.parkedPin (s : State) (low : Bool) : State :=
  if low && !s.pwr.off then s.warmBoot [F.SYSCTL_RSTCAUSE_PIN] else s

/-- FLUSH_PARK, after the seal. -/
def State.flushPark (s : State) : State :=
  match s.pwr.flush with
  | some f => if f.orderly || !f.sealed then s else (s.park f).parkedPin s.pwr.pinFlush
  | none => s

/-- 60 ms without a seal: the device parks with the slot unsealed, n data lines written (R103). -/
def State.sealTimeout (s : State) (n : Nat) : State :=
  match s.pwr.flush with
  | some f => if f.orderly || f.sealed then s
    else
      let t := (s.writeSlot f.tripNt (some n)).park f
      (t.onPwr fun p => { p with unsealed := s.journalDirty && s.flushSlot.isSome }).parkedPin s.pwr.pinFlush
  | none => s

/-- The bus has recovered (R99): the comparator is armed again, and the front-end pins leave the level of the trip where Last Mile is off
(R64). After a park the device restarts by a cold boot, recorded as HIB_WAKE while the comparator kept its power (R105, R106). -/
def State.busRecovery (s0 : State) (e : BootEnv) : State :=
  let s := ({ s0 with vinLow := false } : State).onPwr fun p => { p with busLow := false }
  if !s.pwr.parked then foldOver (fun (p : Nat) (t : State) => if t.portEnabled p && (t.exc p).isNone then t.pinsBack p else t) [0, 1] s
  else
    let s1 := (s.setEnv e).coldReset (if s.pwr.off then F.SYSCTL_RSTCAUSE_POR else F.SYSCTL_RSTCAUSE_HIB_WAKE)
    (s1.onPwr fun p => { p with after := .recover }).releaseOrWait

/-- The bus has stayed at a level, in 50 mV units, for 10 ms (R99, R105): a recovery while it lies above the release level in force. A bus
below that level refuses OTP programs, trip or none (R442). -/
def State.busAbove (s : State) (e : BootEnv) (level : Nat) : State :=
  if level > s.releaseLevel then s.busRecovery e else s.onPwr fun p => { p with busLow := decide (level < s.releaseLevel) }

/-- The brown-out detector acts (R79, R107): a flush ends with its slot unsealed, n data lines written, none and no header while step 5 of
R101 still runs; the device is held. -/
def State.brownOut (s : State) (n : Nat) : State :=
  if s.level ≥ 3 ∨ s.pwr.off ∨ s.pwr.held then s
  else
    let (cut, s1) := match s.pwr.flush with
      | some f => if f.sealed then (false, s)
        else (s.journalDirty && s.flushSlot.isSome, if s.flashQuiet then s.writeSlot f.tripNt (some n) else s)
      | none => (false, s)
    (s1.coldReset F.SYSCTL_RSTCAUSE_BOR).onPwr fun p => { p with held := true, pinWait := false, unsealed := p.unsealed || cut }

/-- The supplies fall (R54, R106): OFF; with VBAK lost, the backup domain goes too. -/
def State.supplyLoss (s : State) (vbakLost : Bool) : State :=
  let t := (s.powerDown).onPwr fun p => { p with off := true, parked := false, vbak := s.pwr.vbak && !vbakLost }
  (if vbakLost then t.backupLost else t).setReg .SYSCTL_LMSTAT 0 0

/-! ## DOZE and HIBERNATE (R95 to R98) -/

/-- Registers that stay powered in DOZE (R37, R56): the backup domain; of SYSCTL and PMB what the wake controller, the monitors, the
comparator and a flush from DOZE work with; the hold-up domain's journal pointers; the line and pad detectors; the wake receiver; and the
shadows of OTP and PART that a flush works with (log entry 46). -/
def isDoze (r : RegName) : Bool :=
  isBackup r || [.SYSCTL_PSTATE, .SYSCTL_SLEEPCFG, .SYSCTL_CLKSTAT, .SYSCTL_VINCFG, .SYSCTL_LMCFG,
    .PMB_CFG, .PMB_VREQ, .CTL_PADCFG, .CTL_PADSTAT, .MSU_MS_STAT, .MSU_TVAR, .MSU_JHEAD, .MSU_JTAIL, .MSU_JSEQ, .MSU_CSN,
    .LP_CFG, .LP_WAKECFG, .WUR_CFG, .WUR_STAT, .WUR_LAST, .OTP_HSTAT, .OTP_ROW, .OTP_FUSE, .FLC_PART].contains r

/-- Registers of the DRAM controller and the filter, kept with a DRAM in self-refresh (R56, R58). -/
def isDram (r : RegName) : Bool :=
  (RegName.DMC_CTRL.ctorIdx ≤ r.ctorIdx && r.ctorIdx ≤ RegName.DMC_ERRADDR.ctorIdx) || [.FRM_DUP_CFG, .FRM_DUP_STAT].contains r

/-- The commit point of DOZE (R95): the conditions hold, and CUR takes DOZE. It ends its cycle: a wake of the same cycle counts as earlier,
and has been sent before (R52; DESIGN CHOICE, log entry 163). -/
def State.dozeCommit (s0 : State) : State :=
  if s0.pwr.entry ≠ some 2 ∨ s0.restState ≠ 2 ∨ !s0.pwr.ready ∨ !s0.entryClear ∨ s0.flushing then s0
  else
    let s := (s0.boundary .SYSCTL_SLEEPCFG).boundaryOf F.LP_WAKECFG_MODE 0
    let kept := s.fld F.DMC_STAT_STATE == 5
    let p := fun r => isDoze r || (kept && isDram r)
    let t : State := { State.reset with
      cyc := s.cyc, free := s.free, pending := s.pending, vinLow := s.vinLow, rtc := s.rtc, regs := s.keepRegs p,
      mem := Tab.keep s.mem fun k _ => decide ((flashBase ≤ k ∧ k < 0x0A000000) ∨ (0x20400000 ≤ k ∧ k < 0x20440000) ∨ (kept ∧ dramBase ≤ k)),
      flc := s.flc.afterReset, otp := s.otp, ctl := { s.ctl with reader := none, waiting := none }, core := { debug := s.core.debug, userEn := s.core.userEn },
      rf := { temp := s.rf.temp, role := s.rf.role }, lp := { ports := s.lp.ports.map fun e => (e.1, { loopOk := e.2.loopOk }) }, msu := { s.msu with ms := [], replay := none, seenCsn := [], seenSeq := [], replayed := [], dirDone := false },
      dmc := if kept then s.dmc else {}, sched := { recQueue := s.sched.recQueue },
      txp := { lastWake := s.txp.lastWake },
      sram := { errs := Tab.keep s.sram.errs fun k _ => decide (0x08100000 ≤ k ∧ k < 0x08110000) },
      pwr := { s.pwr with entry := none, ready := false, up := false, dramKept := kept, flushed := false, waking := false,
                          gpioLatch := s.gpioLevels } }
    let u := foldOver (fun (f : Fld) (v : State) => v.setFld f (s.fld f)) [F.SYSCTL_BOOTSTAT_ROADSIDE_COUNT, F.PMB_STAT_VACK] t
    let t1 := (if kept then u else u.filterCold).setFld F.SYSCTL_PSTATE_CUR 2
    ((t1.ctlCoreLost.onCtl fun c => { c with session := none, auth := none }).pstate.pmbRequest vcoreRet).newCycle

/-- A wake from DOZE (R97, R98, R120): the system domain is powered, the warm path of the boot ROM runs on FRC, then the Supervisor with
its configuration. CUR takes LISTEN once PLL0 has locked (R54; DEDUCED, log entry 162). -/
def State.wakeDoze (s : State) (e : Exch) : State :=
  if s.level ≠ 2 ∨ s.flushing then s
  else
    let s1 := (((s.onPwr fun p => { p with waking := true }).setExch e true).pstate).pmbRequest s.vcoreNom
    if s1.security ≠ 0 ∧ s1.supHash ≠ s1.pwr.digest then
      (((((s1.fatal 0x25 4 0 0x03).enterRoadside 0x03).firstInstruction).pstate).notifyReset)
    else (((s1.regionLoad.firstInstruction).configRestore true).regionsGrant).notifyReset

/-- A wake from HIBERNATE by a source (R49, R109): a full boot, then LISTEN for the exchange. WUR_CFG keeps its value (R216). What the wake
receiver has found, and the pattern that its repeats are compared with, stay: its domain has kept its power (R37, R216; DEDUCED, log
entry 159). -/
def State.wakeHib (s : State) (e : Exch) : State :=
  if s.level ≠ 3 ∨ s.pwr.parked then s
  else
    let s1 := s.coldReset F.SYSCTL_RSTCAUSE_HIB_WAKE
    let s2 := (foldOver (fun (r : RegName) (t : State) => t.setReg r 0 (s.reg r)) [.WUR_CFG, .WUR_STAT, .WUR_LAST] s1).onTxp
      fun t => { t with lastWake := s.txp.lastWake }
    (s2.onPwr fun p => { p with after := .wake e.bit }).releaseOrWait

/-- The commit point of HIBERNATE (R96): after the orderly flush. WUR_CFG keeps its value, and the receiver what it has found and the role
when WURX_HIB is 1 (R37, WUR_CFG). It ends its cycle, as that of DOZE does (R52). -/
def State.hibCommit (s0 : State) : State :=
  if s0.pwr.entry ≠ some 3 ∨ s0.restState ≠ 3 ∨ !s0.pwr.ready ∨ !s0.entryClear ∨ s0.flushing ∨ (s0.journalDirty && !s0.pwr.flushed) then s0
  else
    let s := s0.boundary .SYSCTL_SLEEPCFG
    let wur := s.flag F.SYSCTL_SLEEPCFG_WURX_HIB
    let d := s.powerDown
    let t : State := { d with
      regs := s.keepRegs fun r => isBackup r || r == .WUR_CFG || (wur && [.SYSCTL_SLEEPCFG, .WUR_STAT, .WUR_LAST].contains r),
      rf := { d.rf with role := if wur then s.rf.role else 0 }, txp := { lastWake := if wur then s.txp.lastWake else none },
      pwr := { d.pwr with gpioLatch := s.gpioLevels } }
    (((t.backupAfter).setFld F.SYSCTL_PSTATE_CUR 3).setFld F.SYSCTL_PSTATE_REST 3).newCycle

/-- An event that wakes the device from DOZE or HIBERNATE, or opens its exchange in LISTEN and RUN (R49, R52). -/
def State.wake (s : State) (e : Exch) : State :=
  if s.flushing then s else if s.level = 2 then s.wakeDoze e else if s.level = 3 then s else s.exchOpen e

end Sys2Proof.Machine
end

