-- ==== Sys2Proof/Machine/CtlOps.lean ====
section
/-! DEFINITION. The contactless tag and reader: field commands, secure messaging, anti-collision, pad and provisioning (R458 to
R479). -/

namespace Sys2Proof.Machine

/-! ## The tag's condition -/

def State.ctlMode (s : State) : Nat := s.inFld F.CTL_CFG_MODE
def State.tagState (s : State) : Nat := s.fld F.CTL_STAT_TAG_STATE
def State.setTag (s : State) (v : Nat) : State := s.setFld F.CTL_STAT_TAG_STATE v
def State.fieldOn (s : State) : Bool := s.flag F.CTL_STAT_FIELD

/-- Whether the tag role has the coil (R463, R473): mode tag or both, any mode with VBAK absent, and no carrier of the reader. -/
def State.tagOn (s : State) : Bool :=
  (!s.pwr.vbak || s.ctlMode == 1 || s.ctlMode == 3) && !s.flag F.CTL_STAT_READER_ON

/-- Whether the CTL core operates: the reader and the secure layer stand still while the system runs on FRC (R36). -/
def State.ctlRuns (s : State) : Bool := s.sysOn && s.onPll

/-- The conditions of R463: 0 no VBAK and no other supply; 1 HIBERNATE, OFF or Roadside, and LISTEN or RUN on FRC, where the CTL core
stands still (R36; DESIGN CHOICE, log entry 197); 2 DOZE, up to the end of the wake (R97); 3 LISTEN or RUN. -/
def State.tagCond (s : State) : Nat :=
  if s.sysOn then (if s.inRoadside then 1 else if s.pwr.waking then 2 else if s.ctlRuns then 3 else 1)
  else if s.cur == 2 && !s.pwr.off && !s.pwr.held then 2
  else if s.pwr.vbak then 1 else 0

/-- The 16 bytes of a key kept in four registers, byte 4w in bits 31 to 24. -/
def State.keyRegs (s : State) (r : RegName) : Bytes := (List.range 4).flatMap fun w => beBytes 4 (s.reg r w).toNat

/-- Load a key into its registers, and mark it loaded while it is not zero (R478). -/
def State.setKeyRegs (s : State) (r : RegName) (ok : Fld) (k : Bytes) : State :=
  (foldOver (fun (w : Nat) (t : State) => t.setReg r w (BitVec.ofNat 32 (beNat ((k.drop (4 * w)).take 4)))) (List.range 4) s).setFlag ok
    (k.any fun b => b != 0)

/-- A write of one word of a key register. -/
def State.keyRegWrite (s : State) (r : RegName) (ok : Fld) (w : Nat) (v : Word) : State :=
  let s1 := s.setReg r w v
  s1.setFlag ok ((s1.keyRegs r).any fun b => b != 0)

/-- The UID, from the OTP array itself: the front end reads it from field energy (R439, R459). -/
def State.tagUid (s : State) : Bytes := leBytes 7 (s.halfBits 0 0)

/-! ## Tag memory (R469) -/

/-- A byte of tag memory: byte 4k in bits 31 to 24 of word k. -/
def State.tagByte (s : State) (o : Nat) : Byte :=
  BitVec.ofNat 8 (bits (s.reg .CTL_TMEM (o / 4)).toNat (31 - 8 * (o % 4)) (24 - 8 * (o % 4)))

def State.tagBytes (s : State) (o n : Nat) : Bytes := (List.range n).map fun k => s.tagByte (o + k)

def State.setTagByte (s : State) (o : Nat) (b : Byte) : State :=
  s.setReg .CTL_TMEM (o / 4) (wordPut (s.reg .CTL_TMEM (o / 4)) (31 - 8 * (o % 4)) (24 - 8 * (o % 4)) b.toNat)

def State.setTagBytes (s : State) : Nat → Bytes → State
  | _, [] => s
  | o, b :: l => (s.setTagByte o b).setTagBytes (o + 1) l

/-- Log what a read of a word through its code finds, while ERR is powered; whether it is delivered (R409, R410). -/
def State.checkTag (s : State) (w : Nat) : Bool × State :=
  let info := BitVec.ofNat 32 (0x400C2000 + 4 * w)
  let log := fun (t : State) (c : Nat) => if t.sysOn then t.raise c 0x0C 0 info else t
  match Tab.getD s.ctl.errs w 0 with
  | 0 => (true, s)
  | 1 => (true, log (s.onCtl fun c => { c with errs := Tab.putD c.errs w 0 0 }) 1)
  | _ => (false, log s 2)

/-- Check words through their code: whether all of them are delivered. -/
def State.checkWords (s : State) (l : List Nat) : Bool × State :=
  l.foldl (fun (x : Bool × State) w =>
    let (ok, t) := x.2.checkTag w
    (x.1 && ok, t)) (true, s)

/-- Check every word of a range. -/
def State.checkTags (s : State) (o n : Nat) : Bool × State :=
  s.checkWords ((List.range ((o + n + 3) / 4 - o / 4)).map fun k => o / 4 + k)

/-- Words that a write covers whole lose their errors. -/
def State.mendTags (s : State) (o n : Nat) : State :=
  s.onCtl fun c => { c with errs := Tab.keep c.errs fun w _ => !(decide (o ≤ 4 * w) && decide (4 * w + 4 ≤ o + n)) }

/-- The words that a write of a range covers in part only: they are read before they are written. -/
def edgeWords (o n : Nat) : List Nat :=
  ((if o % 4 = 0 then [] else [o / 4]) ++ (if (o + n) % 4 = 0 then [] else [(o + n) / 4])).eraseDups

/-- A write of tag memory: the words it covers in part are checked first, and nothing is written where one of them is uncorrectable; those
it covers whole lose their errors (R409, R410, R469). -/
def State.writeTags (s : State) (o : Nat) (d : Bytes) : Bool × State :=
  match s.checkWords (edgeWords o d.length) with
  | (true, t) => (true, (t.setTagBytes o d).mendTags o d.length)
  | (false, t) => (false, t)

/-- Whether every region of a range has its bit of a mask at 1, or some has. -/
def regionsAll (mask o n : Nat) : Bool := (List.range 32).all fun r => !(decide (o < 256 * (r + 1)) && decide (256 * r < o + n)) || bit mask r
def regionsAny (mask o n : Nat) : Bool := (List.range 32).any fun r => decide (o < 256 * (r + 1)) && decide (256 * r < o + n) && bit mask r

/-! ## Part 3 (R458 to R462) -/

def State.tagAnswer (s : State) (a : Option Bytes) : State := s.onCtl fun c => { c with answer := a }

/-- A frame has come: AUTH2 is no longer directly after AUTH1. -/
def State.tagFrame (s : State) : State := s.onCtl fun c => { c with answer := none, auth := none }

/-- A field appears (R460 to R462). -/
def State.fieldAppears (s : State) : State :=
  if s.fieldOn then s
  else (((s.setFld F.CTL_STAT_FIELD 1).setTag (if s.ctl.quiet then 6 else 1)).onCtl fun c => { c with recent := true }).publish 215

/-- The field is gone for more than 50 us (R460, R462). -/
def State.fieldLost (s : State) : State :=
  if !s.fieldOn then s
  else ((s.setFld F.CTL_STAT_FIELD 0).setTag 0).onCtl fun c => { c with session := none, auth := none, answer := none }

/-- A contactless exchange has ended: a change of mode takes effect when none is left (R479). -/
def State.ctlBoundary (s : State) : State :=
  if s.ctl.reader.isNone && !s.isExch .field && !s.isExch .pad then s.boundary .CTL_CFG else s

/-- The field has been absent for 4 s (R462). -/
def State.fieldGone (s : State) : State :=
  if s.fieldOn ∨ !s.ctl.recent then s
  else (((s.onCtl fun c => { c with recent := false }).publish 216).exchClose .field).ctlBoundary

/-- REQA and WUPA (R459, R460): a tag in READY1 or READY2 returns to IDLE without an answer. -/
def State.tagWake (s0 : State) : State :=
  let s := s0.tagFrame
  if !s.tagOn then s
  else match s.tagState with
    | 1 => (s.setTag 2).tagAnswer (some [0x48, 0x00])
    | 2 | 3 => s.setTag 1
    | _ => s

/-- The four bytes and BCC of a cascade level (R459). -/
def State.tagLevel (s : State) (level : Nat) : Bytes :=
  let b := if level = 1 then 0x88#8 :: s.tagUid.take 3 else s.tagUid.drop 3
  b ++ [b.foldl (· ^^^ ·) 0#8]

/-- The bits of bytes in transmission order, lowest bit first. -/
def airBits (b : Bytes) : List Bool := b.flatMap fun x => lsbBits 8 x.toNat

/-- Bytes of bits in transmission order. -/
def airBytes : Nat → List Bool → Bytes
  | 0, _ => []
  | n + 1, l => if l.isEmpty then [] else BitVec.ofNat 8 (bitsNat (l.take 8).reverse) :: airBytes n (l.drop 8)

/-- The level that a SEL byte names. -/
def selLevel (sel : Byte) : Nat := if sel = 0x93#8 then 1 else if sel = 0x95#8 then 2 else if sel = 0x97#8 then 3 else 0

/-- ANTICOLLISION with the known bits of the level (R459, R460): the bits that follow, when the known ones match. -/
def State.tagAnticol (s0 : State) (sel : Byte) (known : List Bool) : State :=
  let s := s0.tagFrame
  if !s.tagOn then s
  else if s.tagState = 2 ∨ s.tagState = 3 then
    if selLevel sel + 1 ≠ s.tagState then s.setTag 1
    else
      let all := airBits (s.tagLevel (selLevel sel))
      if known.length ≤ 40 ∧ all.take known.length = known then s.tagAnswer (some (airBytes 5 (all.drop known.length))) else s
  else s

/-- SELECT of a level with four UID bytes (R459, R460). -/
def State.tagSelect (s0 : State) (sel : Byte) (uid : Bytes) : State :=
  let s := s0.tagFrame
  if !s.tagOn then s
  else if s.tagState = 2 ∨ s.tagState = 3 then
    if selLevel sel + 1 ≠ s.tagState then s.setTag 1
    else if uid ≠ (s.tagLevel (selLevel sel)).take 4 then s
    else if s.tagState = 2 then (s.setTag 3).tagAnswer (some [0x04]) else (s.setTag 4).tagAnswer (some [0x00])
  else s

/-- HLTA (R460, R461). -/
def State.tagHalt (s0 : State) : State :=
  let s := s0.tagFrame
  if !s.tagOn then s
  else match s.tagState with
    | 2 | 3 => s.setTag 1
    | 4 | 5 => (s.setTag 6).onCtl fun c => { c with quiet := true, session := none }
    | _ => s

/-- 4 s after HLTA (R461). -/
def State.quietEnd (s : State) : State :=
  if !s.ctl.quiet then s
  else (s.setTag (if s.fieldOn then 1 else 0)).onCtl fun c => { c with quiet := false }

/-! ## Secure layer (R464 to R468) -/

/-- The answers that carry a status alone (R465). -/
def stNotAvail : Byte := 0x01
def stAuthFail : Byte := 0x02
def stDenied : Byte := 0x03
def stRange : Byte := 0x04
def stBusy : Byte := 0x05
def stLength : Byte := 0x06
def stUnknown : Byte := 0x07

/-- CMAC of the secure layer: the first eight bytes. -/
def cmac8 (k m : Bytes) : Bytes := (cmac k m).take 8

/-- The keystream of secure messaging for n bytes (R467). -/
def smStream (k : Bytes) (cc : Nat) (dir : Byte) (n : Nat) : Bytes :=
  ((List.range ((n + 15) / 16)).flatMap fun i => aesEnc k (beBytes 2 cc ++ [dir] ++ zeros 11 ++ beBytes 2 i)).take n

/-- Encrypt or decrypt data of secure messaging. -/
def smCrypt (x : TagSession) (dir : Byte) (d : Bytes) : Bytes := xorBytes d (smStream x.enc x.cc dir d.length)

/-- The MAC of secure messaging over the earlier bytes of a frame. -/
def smMac (x : TagSession) (dir : Byte) (f : Bytes) : Bytes := cmac8 x.mac (beBytes 2 x.cc ++ [dir] ++ f)

/-- Session keys (R466). -/
def smKeys (k nr nt : Bytes) : TagSession := ⟨cmac k (0x01#8 :: (nr ++ nt)), cmac k (0x02#8 :: (nr ++ nt)), 0⟩

/-- An AUTH_FAIL answer: FAILS counts it, and the fourth starts a lockout with S0 (R468). -/
def State.tagFail (s : State) : State :=
  let n := min 4 (s.fld F.CTL_STAT_FAILS + 1)
  let s1 := (s.setFld F.CTL_STAT_FAILS n).tagAnswer (some [stAuthFail])
  if n = 4 ∧ !s.flag F.CTL_STAT_LOCKOUT then
    let s2 := s1.setFld F.CTL_STAT_LOCKOUT 1
    if s2.sysOn then s2.raise 0 0x0C 0 else s2
  else s1

/-- 10 s after a lockout (R468). -/
def State.lockoutEnd (s : State) : State :=
  if s.flag F.CTL_STAT_LOCKOUT then (s.setFld F.CTL_STAT_LOCKOUT 0).setFld F.CTL_STAT_FAILS 0 else s

/-- The end of a secured answer: CC rises; at 65,535 the session ends (R467). -/
def State.tagNext (s : State) (x : TagSession) : State :=
  if x.cc + 1 ≥ 65535 then (s.setTag 4).onCtl fun c => { c with session := none }
  else s.onCtl fun c => { c with session := some { x with cc := x.cc + 1 } }

/-- A field command of OPEN or SECURED: the frame is taken, and `f` runs it; elsewhere a tag in READY1 or READY2 returns to IDLE
(R460, R464). -/
def State.tagServe (s0 : State) (f : State → State) : State :=
  let s := s0.tagFrame
  if !s.tagOn then s
  else match s.tagState with
    | 2 | 3 => s.setTag 1
    | 4 | 5 => f s
    | _ => s

/-- A command of SECURED: without the CTL core, which holds the session, it is not available (R45, R463). -/
def State.tagSecured (s : State) (f : State → State) : State := if s.tagCond ≤ 2 then s.tagAnswer (some [stNotAvail]) else f s

/-- A failed check of a secured command: AUTH_FAIL in plain form, to OPEN (R467). -/
def State.tagDrop (s : State) : State := ((s.setTag 4).onCtl fun c => { c with session := none }).tagFail

/-- Whether the front end can read the backup domain and the state of the device: VBAK or another supply is there (R463). -/
def State.tagKnown (s : State) : Bool := s.pwr.vbak || s.tagCond ≥ 2 || s.sysOn

/-- GET_ID (R464). -/
def State.tagGetId (s0 : State) (par : Bytes) : State := s0.tagServe fun s =>
  if !par.isEmpty then s.tagAnswer (some [stLength])
  else
    let ident := if s.tagKnown then (List.range 2).flatMap fun w => beBytes 4 (s.reg .CTL_TIDENT w).toNat else zeros 8
    s.tagAnswer (some (0x00#8 :: (s.tagUid ++ [0x01#8] ++ ident)))

/-- The status block (R471); fields that cannot be read are zero, and an unknown power state reads 7. -/
def State.tagStatus (s : State) : Bytes :=
  let known := s.tagKnown
  let st := if !known then 7 else if s.pwr.off then 4 else s.cur
  let b4 := b2n s.pwr.vbak + 2 * b2n s.sysOn + 4 * st + 32 * b2n (known && s.inRoadside)
  let app := if known then (List.range 2).flatMap (fun w => beBytes 4 (s.reg .CTL_TSTATUS w).toNat)
    ++ beBytes 2 (s.fld F.CTL_TSTATUS2_STATUS) else zeros 10
  beBytes 4 (s.reg .SYSCTL_CHIP_ID).toNat ++ [BitVec.ofNat 8 b4, BitVec.ofNat 8 (if known then s.fld F.SYSCTL_BOOTSTAT_ROADSIDE_CAUSE else 0)]
    ++ app

/-- GET_STATUS. -/
def State.tagGetStatus (s0 : State) (par : Bytes) : State := s0.tagServe fun s =>
  s.tagAnswer (some (if par.isEmpty then 0x00#8 :: s.tagStatus else [stLength]))

/-- Whether offset and length lie in range (R465). -/
def tagRangeOk (o n : Nat) : Bool := 1 ≤ n && n ≤ 64 && o + n ≤ 8192

/-- READ in OPEN (R463, R469). -/
def State.tagReadOpen (s : State) (par : Bytes) : State :=
  let o := beNat (par.take 2)
  let n := (par.getD 2 0).toNat
  if par.length ≠ 3 then s.tagAnswer (some [stLength])
  else if s.tagCond = 0 then s.tagAnswer (some [stNotAvail])
  else if !tagRangeOk o n then s.tagAnswer (some [stRange])
  else if s.flag F.CTL_HOLD_HOLD_ACT then s.tagAnswer (some [stBusy])
  else if !regionsAll (s.reg .CTL_OPENRD).toNat o n then s.tagAnswer (some [stDenied])
  else match s.checkTags o n with
    | (true, t) => t.tagAnswer (some (0x00#8 :: t.tagBytes o n))
    | (false, t) => t.tagAnswer (some [0x0A#8])

/-- Take the MAC off a secured command: the parameters before it, when it passes (R467). -/
def smOpen (x : TagSession) (code : Byte) (par : Bytes) : Option Bytes :=
  let p := par.take (par.length - 8)
  if smMac x 0 (code :: p) = par.drop (par.length - 8) then some p else none

/-- An OK answer of secure messaging with its data and MAC. -/
def smSeal (x : TagSession) (d : Bytes) : Bytes :=
  let f := 0x00#8 :: smCrypt x 1 d
  f ++ smMac x 1 f

/-- READ in SECURED. -/
def State.tagReadSec (s : State) (x : TagSession) (par : Bytes) : State :=
  if par.length ≠ 11 then (s.tagAnswer (some [stLength])).tagNext x
  else match smOpen x 0xA2 par with
    | none => s.tagDrop
    | some p =>
      let o := beNat (p.take 2)
      let n := (p.getD 2 0).toNat
      if !tagRangeOk o n then (s.tagAnswer (some [stRange])).tagNext x
      else if s.flag F.CTL_HOLD_HOLD_ACT then (s.tagAnswer (some [stBusy])).tagNext x
      else match s.checkTags o n with
        | (true, t) => (t.tagAnswer (some (smSeal x (t.tagBytes o n)))).tagNext x
        | (false, t) => (t.tagAnswer (some [0x0A#8])).tagNext x

/-- READ (R464, R469). -/
def State.tagRead (s0 : State) (par : Bytes) : State := s0.tagServe fun s =>
  match s.ctl.session with
  | some x => if s.tagState = 5 then s.tagSecured fun t => t.tagReadSec x par else s.tagReadOpen par
  | none => s.tagReadOpen par

/-- WRITE (R463, R464, R469): DENIED in OPEN; in SECURED one atomic step after its MAC. -/
def State.tagWrite (s0 : State) (par : Bytes) : State := s0.tagServe fun u => u.tagSecured fun s =>
  match s.ctl.session with
  | none => s.tagAnswer (some [stDenied])
  | some x =>
    let n := (par.getD 2 0).toNat
    if s.tagState ≠ 5 then s.tagAnswer (some [stDenied])
    else if par.length < 11 ∨ par.length ≠ 11 + n then (s.tagAnswer (some [stLength])).tagNext x
    else match smOpen x 0xA3 par with
      | none => s.tagDrop
      | some p =>
        let o := beNat (p.take 2)
        if !tagRangeOk o n then (s.tagAnswer (some [stRange])).tagNext x
        else if s.flag F.CTL_HOLD_HOLD_ACT then (s.tagAnswer (some [stBusy])).tagNext x
        else if regionsAny (s.reg .CTL_LOCK).toNat o n then (s.tagAnswer (some [stDenied])).tagNext x
        else match s.writeTags o (smCrypt x 0 (p.drop 3)) with
          | (true, t) => ((t.publish 218).tagAnswer (some (smSeal x []))).tagNext x
          | (false, t) => (t.tagAnswer (some [0x0A#8])).tagNext x

/-- The UID padded to ten bytes (R466). -/
def uid10 (u : Bytes) : Bytes := padTo 10 u

def macT (k uid nr nt : Bytes) : Bytes := cmac8 k (0x5A#8 :: (uid10 uid ++ nr ++ nt))
def macR (k uid nr nt : Bytes) : Bytes := cmac8 k (0xA5#8 :: (uid10 uid ++ nt ++ nr))
def macC (x : TagSession) (nr nt : Bytes) : Bytes := cmac8 x.mac (0xC3#8 :: (nt ++ nr))

/-- The answer UNKNOWN; in SECURED it counts as every answer does (R465, R467). -/
def State.tagUnknown (s : State) : State :=
  let t := s.tagAnswer (some [stUnknown])
  match s.ctl.session with
  | some x => if s.tagState = 5 then t.tagNext x else t
  | none => t

/-- A command whose code R464 does not list (R460, R465). -/
def State.tagUndefined (s0 : State) : State := s0.tagServe State.tagUnknown

/-- A word of tag memory has come to hold bits in error (R469). -/
def State.tagUpset (s : State) (f : MemFrame) : State :=
  if f.bits = 0 then s else s.onCtl fun c => { c with errs := Tab.putD c.errs f.word.val 0 f.bits.val }

/-- AUTH1 (R463, R466, R468): in DOZE it wakes the device. -/
def State.tagAuth1 (s0 : State) (par : Bytes) : State := s0.tagServe fun s =>
  if s.tagState ≠ 4 then s.tagUnknown
  else if par.length ≠ 17 then s.tagAnswer (some [stLength])
  else if s.tagCond ≤ 1 then s.tagAnswer (some [stNotAvail])
  else if s.flag F.CTL_STAT_LOCKOUT then s.tagAnswer (some [0x09#8])
  else if s.tagCond = 2 then (s.tagAnswer (some [0x08#8])).wake .field
  else if par.getD 0 0 ≠ 0#8 ∨ !s.flag F.CTL_STAT_TKEY_OK then (s.tagAnswer (some [stNotAvail])).exchOpen .field
  else
    let nr := par.drop 1
    let (nt, s1) := (s.exchOpen .field).freshBytes 16
    let s2 := s1.tagAnswer (some (0x00#8 :: (nt ++ macT (s.keyRegs .CTL_TKEY) s.tagUid nr nt)))
    s2.onCtl fun c => { c with auth := some (nr, nt) }

/-- AUTH2 (R466). -/
def State.tagAuth2 (s0 : State) (par : Bytes) : State := s0.tagServe fun s =>
  match s0.ctl.auth with
  | none => if s.tagCond ≤ 2 then s.tagAnswer (some [stNotAvail]) else s.tagUnknown
  | some (nr, nt) =>
    if s.tagState ≠ 4 then s.tagAnswer (some [stUnknown])
    else if par.length ≠ 8 then s.tagAnswer (some [stLength])
    else if s.tagCond ≤ 2 then s.tagAnswer (some [stNotAvail])
    else
      let k := s.keyRegs .CTL_TKEY
      if par ≠ macR k s.tagUid nr nt then s.tagFail
      else
        let x := smKeys k nr nt
        (((s.setFld F.CTL_STAT_FAILS 0).setTag 5).onCtl fun c => { c with session := some x }).tagAnswer (some (0x00#8 :: macC x nr nt))

/-- END (R463, R464). -/
def State.tagEnd (s0 : State) (par : Bytes) : State := s0.tagServe fun u => u.tagSecured fun s =>
  match s.ctl.session with
  | none => s.tagAnswer (some [stUnknown])
  | some x =>
    if s.tagState ≠ 5 then s.tagAnswer (some [stUnknown])
    else if par.length ≠ 8 then (s.tagAnswer (some [stLength])).tagNext x
    else match smOpen x 0xB2 par with
      | none => s.tagDrop
      | some _ => (s.tagAnswer (some (smSeal x []))).setTag 4 |>.onCtl fun c => { c with session := none }

/-! ## HOLD (R470) -/

def State.holdWrite (s : State) (w : Word) : State :=
  if bit w.toNat 0 then (s.setFld F.CTL_HOLD_REQ 1).setFld F.CTL_HOLD_HOLD_ACT 1
  else (s.setFld F.CTL_HOLD_REQ 0).setFld F.CTL_HOLD_HOLD_ACT 0

def State.holdTimeout (s : State) : State :=
  if s.flag F.CTL_HOLD_HOLD_ACT then (s.setFld F.CTL_HOLD_REQ 0).setFld F.CTL_HOLD_HOLD_ACT 0 else s

/-! ## The reader (R473 to R477) -/

def State.onReader (s : State) (f : Reader → Reader) : State := s.onCtl fun c => { c with reader := c.reader.map f }

/-- The reader sends a frame and waits in a phase. -/
def State.rdSend (s : State) (p : RdPhase) (f : Bytes) : State := s.onReader fun r => { r with phase := p, sent := f }

/-- The HCP status of a PROVISION that ends with a result code (R477). -/
def rdStatus (code : Nat) (range : Bool) : Status :=
  if range then .badParam
  else match code with
    | 0 => .ok | 2 => .authFail | 3 => .denied | 6 => .timeout | _ => .noTag

/-- The end of the reader exchange (R476, R477): results, carrier off, CTL_READER_DONE, completion. -/
def State.rdDone (s : State) (r : Reader) (code : Nat) (range : Bool) : State :=
  let (uid, kind) := r.first.getD ([], 0)
  let w := 0x80000000 + b2n r.multi * 2 ^ 30 + b2n r.ext * 2 ^ 29 + uid.length % 16 * 2 ^ 20 + kind % 16 * 2 ^ 16
    + min 255 r.count * 256 + code % 16
  let s1 := (s.setReg .CTL_RDRES 0 (BitVec.ofNat 32 w)).setFld F.CTL_STAT_READER_ON 0
  let u := padTo 12 uid
  let s2 := foldOver (fun (k : Nat) (t : State) => t.setReg .CTL_RDUID k (BitVec.ofNat 32 (beNat ((u.drop (4 * k)).take 4)))) (List.range 3) s1
  let s3 := (((s2.onCtl fun c => { c with reader := none }).publish 219).exchClose .pad).ctlBoundary
  match r.prov with
  | some p => s3.complete p.job (rdStatus code range) (r.ident.take 6)
  | none => s3

/-- The carrier is tried: not while an external field is present; in mode both not until it has been absent for 4 s (R53, R473). On FRC
the reader waits for the next try (R36; DESIGN CHOICE, log entry 197). -/
def State.rdCarrier (s : State) : State :=
  if !s.ctlRuns then s
  else if s.fieldOn || (s.ctlMode == 3 && s.ctl.recent) then s.onReader fun r => { r with ext := true, phase := .carrier }
  else (s.setFld F.CTL_STAT_READER_ON 1).rdSend (.wupa 1) [0x52]

/-- A touch starts the reader (R475 to R477). -/
def State.rdStart (s : State) : State :=
  let r : Reader := { phase := .carrier, prov := s.ctl.waiting }
  (s.onCtl fun c => { c with reader := some r, waiting := none }).rdCarrier

def selByte (level : Nat) : Byte := if level = 1 then 0x93 else if level = 2 then 0x95 else 0x97

/-- NVB for n known bits (R474). -/
def nvb (n : Nat) : Byte := BitVec.ofNat 8 ((2 + n / 8) * 16 + n % 8)

/-- Begin a cascade level. -/
def State.rdLevel (s : State) (level : Nat) : State :=
  (s.onReader fun r => { r with level, known := [], bccTries := 0 }).rdSend .anticol [selByte level, 0x20]

/-- SELECT with four bytes. -/
def State.rdSelect (s : State) (r : Reader) (b : Bytes) : State :=
  (s.onReader fun x => { x with sel := b }).rdSend .select ([selByte r.level, 0x70] ++ b ++ [b.foldl (· ^^^ ·) 0#8])

/-- A BCC error, or a collision only in the BCC: three retries (R474). -/
def State.rdBcc (s : State) (r : Reader) : State :=
  if r.bccTries < 3 then s.onReader fun x => { x with bccTries := x.bccTries + 1 } else s.rdDone r 4 false

/-- The answer to ANTICOLLISION: the five bytes of the level as the reader holds them, its known bits among them, and the first bit
that collides (R474). -/
def State.rdAnticol (s : State) (r : Reader) (b : Bytes) (coll : Option Nat) : State :=
  let u := b.take 4
  match coll with
  | some k =>
    if k ≥ 32 then s.rdBcc r
    else
      let known := (airBits u).take k ++ [true]
      let s1 := s.onReader fun x => { x with multi := true, known }
      if k = 31 then s1.rdSelect r (airBytes 4 known)
      else s1.rdSend .anticol ([selByte r.level, nvb (k + 1)] ++ airBytes 4 known)
  | none => if b.getD 4 0 = u.foldl (· ^^^ ·) 0#8 then s.rdSelect r u else s.rdBcc r

/-- After a tag: HLTA, and WUPA for the next one (R474). -/
def State.rdNextTag (s : State) : State :=
  (s.onReader fun r => { r with uid := [], sel := [], level := 1 }).rdSend (.more 1) [0x50, 0x00, 0x52]

/-- The answer to SELECT: SAK leads to the next level or completes the UID (R474, R476). -/
def State.rdSak (s : State) (r : Reader) (sak : Byte) : State :=
  if bit sak.toNat 2 ∧ r.level < 3 then
    (s.onReader fun x => { x with uid := x.uid ++ r.sel.drop 1 }).rdLevel (r.level + 1)
  else
    (s.onReader fun x => { x with uid := r.uid ++ r.sel, count := r.count + 1 }).rdSend .getId [0xA0]

/-- The answer to GET_ID: the first tag's identity is kept; a PROVISION goes on with a sensor and skips other kinds (R476,
R477). -/
def State.rdIdent (s : State) (r : Reader) (b : Bytes) : State :=
  let kind := if b.getD 0 1 = 0#8 then (b.getD 8 0).toNat else 0
  let s1 := s.onReader fun x => { x with first := some (r.first.getD (r.uid, kind)) }
  match r.prov with
  | none => s1.rdNextTag
  | some _ =>
    if kind ≠ 2 then s1.rdNextTag
    else
      let (nr, s2) := s1.freshBytes 16
      (s2.onReader fun x => { x with nr, ident := (b.drop 9).take 8 }).rdSend .auth1 ([0xB0, 0x00] ++ nr)

/-- The answer to AUTH1 (R466). -/
def State.rdAuth1 (s : State) (r : Reader) (b : Bytes) : State :=
  let k := s.keyRegs .CTL_RKEY
  let nt := (b.drop 1).take 16
  if b.length = 25 ∧ b.getD 0 1 = 0#8 ∧ b.drop 17 = macT k r.uid r.nr nt then
    (s.onReader fun x => { x with nt }).rdSend .auth2 (0xB1#8 :: macR k r.uid r.nr nt)
  else s.rdDone r 2 false

/-- Send the next piece of the record (R477). -/
def State.rdPiece (s : State) (r : Reader) (x : TagSession) (n : Nat) : State :=
  match r.prov with
  | none => s
  | some p =>
    let d := (p.record.drop r.done).take 64
    let f := 0xA3#8 :: (beBytes 2 (p.offset + r.done) ++ [BitVec.ofNat 8 d.length] ++ smCrypt x 0 d)
    s.rdSend (.write n) (f ++ smMac x 0 f)

/-- The answer to AUTH2 (R466). -/
def State.rdAuth2 (s : State) (r : Reader) (b : Bytes) : State :=
  let x := smKeys (s.keyRegs .CTL_RKEY) r.nr r.nt
  if b = 0x00#8 :: macC x r.nr r.nt then (s.onReader fun y => { y with session := some x }).rdPiece r x 0 else s.rdDone r 2 false

/-- The answer to a WRITE piece (R477): three retries of BUSY, the failures of step 5, the next piece, or END. -/
def State.rdWrote (s : State) (r : Reader) (x : TagSession) (n : Nat) (b : Bytes) : State :=
  let x1 := { x with cc := x.cc + 1 }
  match (b.getD 0 0xFF).toNat with
  | 0 =>
    if b ≠ smSeal x [] then s.rdDone r 2 false
    else match r.prov with
      | none => s
      | some p =>
        let r1 := { r with done := min p.record.length (r.done + 64), session := some x1 }
        let s1 := s.onReader fun y => { y with done := r1.done, session := some x1 }
        if r1.done ≥ p.record.length then s1.rdSend .ending (0xB2#8 :: smMac x1 0 [0xB2]) else s1.rdPiece r1 x1 0
  | 5 => if n < 3 then s.onReader fun y => { y with phase := .busy n, session := some x1 } else s.rdDone r 6 false
  | 3 => s.rdDone r 3 false
  | 4 => let (c, s1) := s.fresh 16
    s1.rdDone r c true
  | 2 => s.rdDone r 2 false
  | _ => s.rdDone r 5 false

/-- The last step of a PROVISION: HLTA, and the exchange ends (R477). -/
def State.rdHalt (s : State) (r : Reader) : State := (s.onCtl fun c => { c with parting := [0x50, 0x00] }).rdDone r 0 false

/-- An answer reaches the reader (R474 to R477). -/
def State.rdAnswer (s : State) (b : Bytes) (coll : Option Nat) : State :=
  match s.ctl.reader with
  | none => s
  | some r => match r.phase with
    | .wupa _ | .more _ => s.rdLevel 1
    | .anticol => s.rdAnticol r b coll
    | .select => s.rdSak r (b.getD 0 0)
    | .getId => s.rdIdent r b
    | .auth1 => s.rdAuth1 r b
    | .auth2 => s.rdAuth2 r b
    | .write n => match r.session with
      | some x => s.rdWrote r x n b
      | none => s
    | .ending => s.rdHalt r
    | .carrier | .pause _ | .busy _ => s

/-- WUPAs of a scan: 0 acts as 1. -/
def State.scanTries (s : State) : Nat := max 1 (s.inFld F.CTL_CFG_SCAN_TRIES)

/-- The end of a scan with no further tag: a PROVISION has found no sensor (R476, R477). -/
def State.rdScanEnd (s : State) (r : Reader) : State :=
  s.rdDone r (if r.prov.isSome || r.count == 0 then 1 else 0) false

/-- No answer within 5 ms (R474 to R477; DEDUCED, log entry 226); the END of a PROVISION has no failure. -/
def State.rdTimeout (s : State) : State :=
  match s.ctl.reader with
  | none => s
  | some r => match r.phase with
    | .wupa n => if n ≥ s.scanTries then s.rdScanEnd r else s.onReader fun x => { x with phase := .pause n }
    | .more n => if n = 1 then s.rdSend (.more 2) [0x52] else s.rdScanEnd r
    | .carrier | .pause _ | .busy _ => s
    | .ending => s.rdHalt r
    | .getId => match r.prov with
      | none => s.rdIdent r []
      | some _ => s.rdDone r 5 false
    | .auth1 | .auth2 => s.rdDone r 2 false
    | _ => s.rdDone r 5 false

/-- The delay between WUPAs of a scan or before a retried piece runs out (R476, R477). -/
def State.rdRetry (s : State) : State :=
  match s.ctl.reader with
  | none => s
  | some r => match r.phase with
    | .pause n => s.rdSend (.wupa (n + 1)) [0x52]
    | .busy n => match r.session with
      | some x => s.rdPiece r x (n + 1)
      | none => s
    | _ => s

/-- Every 20 ms the carrier is tried again (R473). -/
def State.rdCarrierRetry (s : State) : State :=
  match s.ctl.reader with
  | some r => if r.phase = .carrier then s.rdCarrier else s
  | none => s

/-- A poll of the pad (R53, R475): a touch at the second poll in a row above the threshold; else the baseline moves 1/64 of the
way. A touch that raises the device from DOZE publishes no event (R376). -/
def State.padPoll (s0 : State) (count : Nat) : State :=
  let m := s0.ctlMode
  if (m ≠ 2 ∧ m ≠ 3) ∨ s0.cur > 2 ∨ s0.pwr.off ∨ s0.pwr.held ∨ s0.inRoadside ∨ s0.flushing then s0
  else
    let s := s0.boundary .CTL_PADCFG
    let base := s.fld F.CTL_PADSTAT_BASELINE
    let high := base + max 1 (s.fld F.CTL_PADCFG_THR) ≤ count
    let n := if high then min 2 (s.ctl.padPolls + 1) else 0
    let s1 := (s.setFld F.CTL_PADSTAT_LAST count).onCtl fun c => { c with padPolls := n }
    if n = 2 ∧ s.ctl.padPolls = 1 ∧ s.ctl.reader.isNone then
      let t := (s1.setFld F.CTL_PADSTAT_TOUCH 1).wake .pad
      (if s.level = 2 then t else t.publish 217).rdStart
    else if n = 2 then s1
    else s1.setFld F.CTL_PADSTAT_BASELINE ((base : Int) + ((count : Int) - base).tdiv 64).toNat

/-- No touch within the wait time of a PROVISION (R477). -/
def State.provisionTimeout (s : State) : State :=
  match s.ctl.waiting with
  | some p => (s.onCtl fun c => { c with waiting := none }).rdDone { phase := .carrier, prov := some p } 1 false
  | none => s

/-- A write of CTL_CFG: at once while no exchange runs (R479). -/
def State.ctlCfgWrite (s : State) (w : Word) : State := (s.regStore .CTL_CFG 0 false w).ctlBoundary

end Sys2Proof.Machine
end

