-- ==== Sys2Proof/Machine/ErrOps.lean ====
section
/-! DEFINITION. The error block's commands: acknowledgement, reports, watchdogs, telemetry (R483 to R504). -/

namespace Sys2Proof.Machine

/-! ## The log as software sees it -/

/-- Words of a log entry (R481). -/
def LogEntry.word (e : LogEntry) (w : Nat) : Word :=
  match w with
  | 0 => BitVec.ofNat 32 (0x80000000 + b2n e.handled * 0x40000000 + e.cls % 4 * 2 ^ 28 + e.source % 4096 * 65536 + e.count % 65536)
  | 1 => e.sec
  | 2 => BitVec.ofNat 32 (b2n e.undisc * 0x80000000 + e.tick % 2 ^ 27)
  | _ => e.info

/-- A word of an entry of the log; a free entry reads zero. -/
def State.logWord (s : State) (k w : Nat) : Word :=
  match Tab.find s.err.log k with
  | some e => e.word w
  | none => 0

/-- Unhandled entries. -/
def State.unhandled (s : State) : Nat := (s.err.log.filter fun e => !e.2.handled).length

/-- The entry to handle next: the oldest unhandled one of the highest class (R484). -/
def State.errCur (s : State) : Option (Nat × LogEntry) :=
  let at_ := fun c => oldest s.err.log fun e => !e.handled && e.cls == c
  match at_ 3, at_ 2, at_ 1, at_ 0 with
  | some e, _, _, _ => some e
  | none, some e, _, _ => some e
  | none, none, some e, _ => some e
  | none, none, none, e => e

def State.errCurWord (s : State) : Word :=
  match s.errCur with
  | some (k, e) => BitVec.ofNat 32 (0x80000000 + e.cls * 256 + k)
  | none => 0

/-- A write of ERR_ACK (R483). It comes before the errors of its cycle: an entry that they have written is not there yet, and what they have
counted in the entry acknowledged writes a new one (R489). -/
def State.errAck (s : State) (w : Word) : State :=
  let k := bits w.toNat 7 0
  match Tab.find s.err.log k with
  | some e =>
    if e.handled || e.age ≥ s.err.cycAge then s.setFld F.ERR_STAT_ACK_ERR 1
    else match s.err.counted.find? fun c => c.1 == k with
      | none => s.setLog k { e with handled := true }
      | some (_, n, new) =>
        let s1 := (s.setLog k { e with handled := true, count := n }).onErr fun x => { x with counted := x.counted.filter fun c => c.1 != k }
        s1.writeEntry (logSlot s1.err.log) { new with age := s1.err.nextAge }
  | none => s.setFld F.ERR_STAT_ACK_ERR 1

/-- A write of ERR_REPORT by a cluster (R487). -/
def State.errReport (s : State) (cl : Nat) (w : Word) : State :=
  let c := bits w.toNat 29 28
  let code := bits w.toNat 15 0
  let info := BitVec.ofNat 32 code
  if cl ≠ 0 then s.raise (min 2 c) 0x27 cl info
  else if c = 3 then s.fatal 0x26 (code % 64) info 0x20
  else s.raise c 0x26 (code % 64) info

/-- An entry as ERR_READ returns it (R488). -/
def State.logBytes (s : State) (k : Nat) : Bytes := (List.range 4).flatMap fun w => leBytes 4 (s.logWord k w).toNat

/-- Entries from an index upwards, wrapping (R488). -/
def State.logRange (s : State) (first count : Nat) : Bytes :=
  (List.range (if count = 0 then 256 else count)).flatMap fun i => s.logBytes ((first + i) % 256)

/-! ## An S3 of a source (R383, R486) -/

/-- An S3 raised by a source that R122 gives no cause of its own; a lockstep difference halts the pair (R383). -/
def State.s3 (s : State) (source : Nat) (info : Word) : State :=
  let s1 := if source / 64 = 0x22 then (s.halt 0).halt 1 else s
  s1.fatal (source / 64) (source % 64) info 0x20

/-- A port's synthesiser loses lock (R496): the port blanks and recalibrates at RFx_LO; an excursion under way ends. -/
def State.synLockLoss (s : State) (p : Nat) : State :=
  if !s.portEnabled p || !s.onPll then s
  else ((State.excPllLoss p s).blank p |>.synToLo p).raise 2 (0x10 + p) 0

/-! ## Watchdogs (R490 to R495) -/

/-- The timeout in force: 0 acts as 1. -/
def State.wdtTimeout (s : State) (n : Nat) : Nat := max 1 (s.fld F.ERR_WDT_CFG_TIMEOUT n)

/-- The cores of a watchdog's scope: every core for WDT0, the cores of a cluster for the others (R490, R491; DEDUCED, log entry 224). -/
def wdtScope (n : Nat) : List Nat := (List.range 24).filter fun c => n == 0 || clusterOf c == n - 1

/-- Whether a watchdog is frozen: during a flush, or while DBG holds every core of its scope that runs halted (R491). -/
def State.wdtFrozen (s : State) (n : Nat) : Bool :=
  let l := (wdtScope n).filter s.released
  s.flushing || (s.core.debug && !l.isEmpty && l.all fun c => s.core.halted.contains c)

/-- Restart the count at TIMEOUT. -/
def State.wdtRestart (s : State) (n : Nat) : State :=
  (s.setFld F.ERR_WDT_STAT_LEFT (s.wdtTimeout n) n).onErr fun e => { e with wdtSub := Tab.del e.wdtSub n }

/-- A write of ERR_WDT_n_CFG: locked while EN is 1; a 1 in EN starts the count with the other fields of the write (R490). -/
def State.wdtCfgWrite (s : State) (n : Nat) (w : Word) : State :=
  if s.flag F.ERR_WDT_CFG_EN n then s.regStore .ERR_WDT_CFG n true w
  else
    let s1 := s.regStore .ERR_WDT_CFG n false w
    if s1.flag F.ERR_WDT_CFG_EN n then s1.wdtRestart n else s1

/-- CONSEC counts a warm reset by WDT0 or WDT1 (R494). -/
def State.consecUp (s : State) : State := s.bump F.ERR_STAT_CONSEC

/-- Whether a flash program pulse or an erase sub-pulse runs (R493). -/
def State.pulseRuns (s : State) : Bool :=
  !s.flc.programs.isEmpty || (!s.flc.pulseEnded && (s.flc.page.isSome || s.updRuns.isSome || s.flc.erase.any fun r => !r.suspended))

/-- Whether a warm reset waits: for a flash pulse, or for a commit in steps 1 to 4 (R493). -/
def State.resetHeld (s : State) : Bool := s.pulseRuns || s.commitHead.isSome

/-- What an expiry does (R493): S2, then a cluster reset, or a warm reset, held while a flash pulse or a commit runs with the cores of the
scope stopped. -/
def State.wdtFire (s : State) (n : Nat) : State :=
  let s1 := (s.raise 2 0x23 n).onErr fun e => { e with wdtDue := e.wdtDue.filter (· != n) }
  if n ≥ 2 then (s1.setFld (if n = 2 then F.SYSCTL_RSTCAUSE_CL1_WDT else F.SYSCTL_RSTCAUSE_CL2_WDT) 1).clusterReset (n - 1)
  else if s1.resetHeld then
    let s2 := (foldOver (fun (c : Nat) (t : State) => t.halt c) (wdtScope n) s1).setFld F.ERR_WDT_STAT_HELD 1 n
    (s2.setFld F.SYSCTL_RSTCAUSE_WDT 1).onErr fun e => { e with held := if e.held.contains n then e.held else e.held ++ [n] }
  else s1.consecUp.warmBoot [F.SYSCTL_RSTCAUSE_WDT]

/-- The expiry of a watchdog whose count has run out (R493). -/
def State.wdtExpire (s : State) (n : Nat) : State := if s.sysOn && s.err.wdtDue.contains n then s.wdtFire n else s

/-- The held reset is taken once the pulse has ended; it completes a commit in progress (R493, R495). -/
def State.heldReset (s : State) : State :=
  if s.err.held.isEmpty ∨ s.pulseRuns then s else s.consecUp.warmBoot [F.SYSCTL_RSTCAUSE_WDT]

/-- A write of ERR_WDT_n_KICK (R492): early and bad kicks count as an expiry. -/
def State.wdtKick (s : State) (n : Nat) (w : Word) : State :=
  let t := s.wdtTimeout n
  let gone := (t - s.fld F.ERR_WDT_STAT_LEFT n) * 100000 + Tab.getD s.err.wdtSub n 0
  if !s.flag F.ERR_WDT_CFG_EN n then s
  else if bits w.toNat 15 0 ≠ 0xA5C3 ∨ gone * 8 < s.fld F.ERR_WDT_CFG_WIN n * t * 100000 then
    (s.setFld F.ERR_WDT_STAT_BADKICK 1 n).wdtFire n
  else s.wdtRestart n

/-- One cycle of a watchdog's clock: a millisecond counts LEFT down, and at 0 the expiry is due in the cycle that follows (R491, R493). -/
def State.wdtCycle (n : Nat) (s : State) : State :=
  if !s.flag F.ERR_WDT_CFG_EN n || s.wdtFrozen n || s.fld F.ERR_WDT_STAT_LEFT n == 0 then s
  else if n == 0 && s.inRoadside && s.flag F.SYSCTL_BOOTSTAT_ROM_RESP then s.wdtRestart 0
  else
    let c := Tab.getD s.err.wdtSub n 0 + 1
    if c < 100000 then s.onErr fun e => { e with wdtSub := Tab.put e.wdtSub n c }
    else
      let left := s.fld F.ERR_WDT_STAT_LEFT n - 1
      (s.setFld F.ERR_WDT_STAT_LEFT left n).onErr fun e =>
        { e with wdtSub := Tab.del e.wdtSub n, wdtDue := if left = 0 then e.wdtDue ++ [n] else e.wdtDue }

/-- 60 s of Supervisor running (R494). -/
def State.consecClear (s : State) : State :=
  if s.sysOn && s.pwr.up && !s.flag F.SYSCTL_BOOTSTAT_ROM_RESP then s.setFld F.ERR_STAT_CONSEC 0 else s

/-! ## Telemetry and ageing (R502, R504) -/

/-- A saturated count. -/
def sat (w n : Nat) : Nat := min (2 ^ w - 1) n

/-- The change of a counter of FRM since the last snapshot. -/
def State.frmDelta (s : State) (k : Nat) : Nat := ((s.reg .FRM_CNT k).toNat + 2 ^ 32 - Tab.getD s.err.tel.frm k 0) % 2 ^ 32

/-- The sixteen words of a snapshot (R504), with the die temperature and the margin of the delay monitor as measured. -/
def State.telWords (s : State) (temp margin : Half) : List Nat :=
  let t := s.err.tel
  let lp := fun p => s.fld F.LP_STAT_STATE p * 2 ^ 28 + s.fld F.LP_STAT_MODE_CUR p * 2 ^ 26 + s.fld F.LP_QUAL_MARGIN p
  [(s.reg .ERR_TEL 0).toNat + 1, s.ntSec.toNat, temp.toNat * 65536 + s.fld F.PMB_STAT_VACK * 256 + s.cur,
   s.frmDelta 0, s.frmDelta 1, sat 16 (s.frmDelta 2) * 65536 + sat 16 (s.frmDelta 4),
   sat 16 t.ctxPeak * 65536 + sat 16 t.ctxMiss, min t.jfreeMin s.jfree, sat 16 (s.frmDelta 10) * 65536 + sat 16 (s.frmDelta 11),
   lp 0, lp 1, (s.reg .NTC_LEAD).toNat, sat 16 t.sramCorr * 65536 + sat 16 t.dramCorr, sat 16 t.flWarn * 65536 + sat 16 t.uncorr,
   sat 8 t.s3 * 2 ^ 24 + sat 8 t.s2 * 65536 + sat 8 t.s1 * 256 + sat 8 t.s0, margin.toNat]

/-- Whether a snapshot is due: NT_SEC has changed since the last one, or TELEMETRY_SNAP has asked for one (R504). -/
def State.snapWanted (s : State) : Bool := s.err.snapDue || s.err.snapSec != s.ntSec

/-- A telemetry snapshot; what is due more than once is taken once (R504). -/
def State.telSnap (s : State) (temp margin : Half) : State :=
  if !s.sysOn || !s.snapWanted then s
  else
    let s1 := foldOver (fun (e : Nat × Nat) (t : State) => t.setReg .ERR_TEL e.2 (BitVec.ofNat 32 e.1)) (s.telWords temp margin).zipIdx s
    let frm := (List.range 12).map fun k => (k, (s.reg .FRM_CNT k).toNat)
    (if s.err.snapDue then s1.inputFree 316 else s1).onErr fun e => { e with snapDue := false, snapSec := s.ntSec, tel := { frm, ctxPeak := s.ctxInUse, jfreeMin := s.jfree } }

/-- Whether an offset lies in an image slot of the directory in force. -/
def State.inSlots (s : State) (off : Nat) : Bool := s.bootDir.any fun d => [d.baseA, d.baseB].any fun b => b ≤ off && off < b + d.size

/-- Whether a move under way writes at an offset within n bytes from another. -/
def State.moveTarget (s : State) (off n : Nat) : Bool :=
  s.hcp.jobs.any fun e => e.2.own.any fun p => p.op ≤ 2 && off ≤ p.off && p.off < off + n

/-- The erased native sectors that the Supervisor may take: those of the first MiB that are neither reserved nor in an image slot (DESIGN
CHOICE, log entry 42). -/
def State.spareSectors (s : State) : List Nat :=
  ((List.range 248).map fun k => k + 8).filter fun sec =>
    s.sectorFree sec && !s.inSlots (sec * 4096) && !s.moveTarget (sec * 4096) 4096

/-- The configuration image is written: into an erased sector with the lowest erase count, and the sector that held the last one is erased; not
where no sector is free. Its length and layout are not stated (R56, R436; DESIGN CHOICE, log entries 42, 68). -/
def State.writeImage (s : State) (c : ConfigImage) : Option State :=
  (s.wearTarget (fun u => u) s.spareSectors 4096).map fun t =>
    let (x, s1) := s.freshBytes 4096
    let s2 := (s1.writeNative (t * 4096) x).onPwr fun p => { p with config := c, configAt := some t }
    match s.pwr.configAt with
    | some o => s2.eraseRecorded o
    | none => s2

/-- The daily ageing check of the Supervisor (R502): a margin below 40 ps raises VTARGET by 5 mV and saves it. -/
def State.ageing (s : State) : State :=
  if !s.sysOn ∨ s.inRoadside ∨ sgn 16 (bits (s.reg .ERR_TEL 15).toNat 15 0) ≥ 40 then s
  else if s.fld F.PMB_VREQ_VTARGET ≥ 170 then s.raise 2 0x26 0
  else
    let s1 := s.vreqWrite (BitVec.ofNat 32 (s.fld F.PMB_VREQ_VTARGET + 1))
    let c := s1.pwr.config
    (s1.writeImage { c with regs := Tab.put c.regs (RegName.PMB_VREQ.key 0) (s1.reg .PMB_VREQ) }).getD s1

end Sys2Proof.Machine
end

