-- ==== Sys2Proof/Machine/ReplayOps.lean ====
section
/-! DEFINITION. The replay of a Last Mile slot or of journal SRAM in place (R270 to R272, R276). -/

namespace Sys2Proof.Machine

/-! ## What a source holds -/

/-- Whether a commit record's CRC passes (R267). -/
def commitOk (b : Bytes) : Bool :=
  leNat ((b.drop 30).take 2) == crc16 (b.take 6 ++ (b.drop 8).take 22 ++ b.drop 32)

def commitCsn (b : Bytes) : Nat := leNat (b.take 4)

/-- The journal sequence numbers that a commit record covers: the first and their count (R267). -/
def commitRange (b : Bytes) : Nat × Nat := (leNat ((b.drop 12).take 4), leNat ((b.drop 16).take 2))

/-- The actions of a commit record: their four words. -/
def commitActions (b : Bytes) : List (Word × Word) :=
  (List.range (b.getD 8 0).toNat).map fun i =>
    let d := (b.drop (32 + 16 * i)).take 16
    (BitVec.ofNat 32 (leNat (d.take 4)), BitVec.ofNat 32 (leNat ((d.drop 4).take 4)))

/-- Word 2 of action i of a commit record. -/
def commitMask (b : Bytes) (i : Nat) : Word := BitVec.ofNat 32 (leNat ((b.drop (40 + 16 * i)).take 4))

/-- Insert a commit record by its CSN. -/
def insertCommit (b : Bytes) : List Bytes → List Bytes
  | [] => [b]
  | c :: l => if commitCsn b < commitCsn c then b :: c :: l else c :: insertCommit b l

/-- Commit records in CSN order (R270 step 1). -/
def sortCommits (l : List Bytes) : List Bytes := l.foldr insertCommit []

/-- Whether a ring line is the header of a record (R237). -/
def ringHeadOk (b : Bytes) : Bool := leNat ((b.drop 30).take 2) == crc16 (b.take 30)

/-- The length of the record that a header begins: the header and the frame in whole lines (R25, R237). -/
def ringLen (b : Bytes) : Nat := (63 + leNat (b.take 2)) / 32 * 32

def ringSeq (b : Bytes) : Nat := leNat ((b.drop 4).take 4)

/-- The records in ring data: position, sequence number and length of each whose header CRC passes. A line that is no header is
passed over. -/
def scanRing : Nat → Nat → Bytes → List (Nat × Nat × Nat)
  | 0, _, _ => []
  | n + 1, pos, b =>
    if b.length < 32 then []
    else if ringHeadOk (b.take 32) && ringLen b ≤ b.length then (pos, ringSeq b, ringLen b) :: scanRing n (pos + ringLen b) (b.drop (ringLen b))
    else scanRing n (pos + 32) (b.drop 32)

/-! ## Restoring ring lines (R270 step 2) -/

/-- Insert a record by its sequence number. -/
def insertRec (r : RingRec) : List RingRec → List RingRec
  | [] => [r]
  | x :: l => if r.seq < x.seq then r :: x :: l else x :: insertRec r l

/-- Bring records into the order of their sequence numbers, with the room between two of them kept as retired (R268). -/
def fillRing : List RingRec → List RingRec
  | [] => []
  | [r] => [r]
  | r :: x :: l =>
    let gap := (x.offset + ringSize - (r.offset + r.length) % ringSize) % ringSize
    if gap = 0 then r :: fillRing (x :: l)
    else r :: ⟨r.seq, (r.offset + r.length) % ringSize, gap, true, true⟩ :: fillRing (x :: l)

/-- Take records into the ring: the tail at the lowest sequence number, the head after the highest, the counter above (R270 steps 2
and 4). -/
def State.ringTake (s : State) (l : List RingRec) : State :=
  let all := fillRing (foldOver insertRec l (s.msu.ring.filter fun r => !r.retired))
  match all.head?, all.getLast? with
  | some a, some z =>
    let next := max (s.reg .MSU_JSEQ).toNat (z.seq + 1)
    (((s.setFld F.MSU_JTAIL_OFFSET a.offset).setFld F.MSU_JHEAD_OFFSET ((z.offset + z.length) % ringSize)).setReg .MSU_JSEQ 0
      (BitVec.ofNat 32 next)).onMsu fun u => { u with ring := all, seenSeq := u.seenSeq ++ l.map RingRec.seq }
  | _, _ => s

/-- Count discarded records. -/
def State.discard (s : State) (n : Nat) : State := s.bump F.MSU_RPSTAT_DISCARDED 0 n

/-- How many of the first n words from w on are programmed before the first line that is not (R272). -/
def State.linesRun (s : State) (w : Nat) : Nat → Nat
  | 0 => 0
  | n + 1 => if (List.range 8).all fun k => s.marked (w + k) then 1 + s.linesRun (w + 8) n else 0

/-- Restore the ring data of a slot: ring data line j goes to ring offset tail + 32 j. In an unsealed slot a record stands when a
good commit record of the slot covers it or when it lies in the written extent; the others are discarded (R270, R272). -/
def State.replayLines (s : State) (k : Nat) (h : SlotHead) (good : List Bytes) : State :=
  let off := s.slotOff k + 32 + h.count * 512
  let d := s.bytes (flashBase + off) h.len
  let sealed := s.slotSealed k
  let extent := 32 * s.linesRun (off / 4) (h.len / 32)
  let covered := fun q => good.any fun b => let (f, n) := commitRange b
    f != 0xFFFFFFFF && f ≤ q && q < f + n
  let found := (scanRing (h.len / 32) 0 d).filter fun r => !s.msu.seenSeq.contains r.2.1
  let keep := found.filter fun r => sealed || covered r.2.1 || r.1 + r.2.2 ≤ extent
  let s1 := foldOver (fun (r : Nat × Nat × Nat) (t : State) => t.ringWrite (h.tail + r.1) ((d.drop r.1).take r.2.2)) keep s
  let s2 := (s1.discard (found.length - keep.length)).bump F.MSU_RPSTAT_RECORDS 0 keep.length
  s2.ringTake (keep.map fun r => ⟨r.2.1, (h.tail + r.1) % ringSize, r.2.2, false, false⟩)

/-- The offsets of ring lines that hold anything. -/
def State.ringLines (s : State) : List Nat :=
  (((Tab.keys s.mem).filter fun k => ringBase ≤ k && k < ringBase + ringSize).map fun k => (k - ringBase) / 32 * 32).eraseDups

/-- The records whose headers stand in the ring in place, retired ones with the unretired: lines whose CRC passes, but for those inside a
record known to be unretired (R270; log entry 93). -/
def State.ringFound (s : State) : List RingRec :=
  let inside := fun o => s.msu.kept.any fun r => let d := (o + ringSize - r.offset) % ringSize
    0 < d && d < r.length
  ((s.ringLines.filter fun o => !inside o).map fun o => (o, s.ringRead o 32)).filterMap fun e =>
    if ringHeadOk e.2 then some ⟨ringSeq e.2, e.1, ringLen e.2, true, true⟩ else none

/-- The records in journal SRAM in place (R270): the whole ring is examined, the unretired records whose header CRC passes are restored,
retired ones behind the first of them keep their room (R268), and the counter resumes above the highest of all. -/
def State.replayPlace (s : State) : State :=
  let l := s.msu.kept.filter fun r => ringHeadOk (s.ringRead r.offset 32) && !s.msu.seenSeq.contains r.seq
  let s1 := (s.discard (s.msu.kept.length - l.length)).bump F.MSU_RPSTAT_RECORDS 0 l.length
  let low := l.foldl (fun b r => min b r.seq) 4294967296
  let behind := s.ringFound.filter fun r => low < r.seq && !l.any fun k => k.seq == r.seq
  let s2 := (s1.ringTake (l.map (fun r => { r with queued := false }) ++ behind)).onMsu fun u => { u with kept := [] }
  s2.setReg .MSU_JSEQ 0 (BitVec.ofNat 32 (s.ringFound.foldl (fun b r => max b (r.seq + 1)) (s2.reg .MSU_JSEQ).toNat))

/-! ## Applying commit records (R271) -/

/-- A FLASH_REC on replay: landed when the line stands, programmed when the target is erased, failed otherwise. -/
def State.replayFlash (s : State) (a : Nat) (line : Bytes) : State :=
  let off := a - flashBase
  let cur := s.bytes a 32
  let ok := s.readable off 32 && s.flRegion off == 0 && flashBase ≤ a
  if ok && cur == line then s
  else if ok && cur.all (fun b => b == 0xFF#8) && !s.refusesProgram off then
    (s.writeNative off line).onMsu fun u => { u with dirDone := u.dirDone || off == 0 || off == 4096 }
  else (s.bump F.MSU_RPFAIL_FAILS).raise 2 0x07 0 (BitVec.ofNat 32 a)

/-- Apply one action of a commit record. -/
def State.replayAction (b : Bytes) (e : (Word × Word) × Nat) (s : State) : State :=
  let w0 := e.1.1.toNat
  let t := bits w0 15 0
  match bits w0 31 28 with
  | 1 => let m := commitMask b e.2
    s.setReg .MSU_TVAR (t % 256) ((s.reg .MSU_TVAR (t % 256) &&& ~~~m) ||| (e.1.2 &&& m))
  | 7 => s.epochWrite (t % 64) e.1.2
  | 8 =>
    let j := ((commitActions b).take e.2).countP fun a => bits a.1.toNat 31 28 == 8
    s.replayFlash e.1.2.toNat ((b.drop (0x120 + 32 * j)).take 32)
  | _ => s

/-- Apply a commit record, and take its CSN (R270 steps 3 and 4). -/
def State.replayCommit (b : Bytes) (s : State) : State :=
  let s1 := foldOver (State.replayAction b) (commitActions b).zipIdx s
  let (f, n) := commitRange b
  let q := if f = 0xFFFFFFFF then 0 else f + n
  let s2 := s1.setReg .MSU_CSN 0 (BitVec.ofNat 32 (max (s1.reg .MSU_CSN).toNat (commitCsn b + 1)))
  let s3 := s2.setReg .MSU_JSEQ 0 (BitVec.ofNat 32 (max (s2.reg .MSU_JSEQ).toNat q))
  (s3.bump F.MSU_RPSTAT_CRECS).onMsu fun u => { u with seenCsn := u.seenCsn ++ [commitCsn b] }

/-! ## The replay -/

/-- A write of MSU_REPLAY. -/
def State.replayWrite (s : State) (w : Word) : State :=
  if s.msu.replay.isSome ∨ (List.range 64).any (fun k => s.mileState k != 0) then s.setFld F.MSU_STAT_CMD_ERR 1
  else
    let s1 := (s.setReg .MSU_RPSTAT 0 0).setReg .MSU_RPFAIL 0 0
    if bits w.toNat 1 0 = 0 then s1
    else (s1.setFld F.MSU_RPSTAT_BUSY 1).onMsu fun u => { u with replay := some (bits w.toNat 1 0) }

/-- The commit records of a source. -/
def State.replayRecords (s : State) (src : Nat) : List Bytes :=
  if src = 3 then s.dirtyRecords.map fun k => s.bytes (slotBase k) 512
  else (List.range (s.slotHead (src - 1)).count).map fun i => s.bytes (flashBase + s.slotOff (src - 1) + 32 + i * 512) 512

/-- Whether a source holds a slot header that can be followed. -/
def State.replayable (s : State) (src : Nat) : Bool :=
  src == 3 || (s.areaOk && s.marked (s.slotOff (src - 1) / 4) && (s.slotHead (src - 1)).dataLen + 32 < 524288 &&
    (s.slotHead (src - 1)).len ≤ ringSize && (s.slotHead (src - 1)).count ≤ 64)

/-- Discard commit records whose CRC fails, with an S2 each (R270 step 1). -/
def State.replayDrop (s : State) (n : Nat) : State := foldOver (fun (_ : Nat) (t : State) => t.raise 2 0x07 0) (List.range n) (s.discard n)

/-- Whether another slot still waits for its replay. -/
def State.replayMore (s : State) (src : Nat) : Bool :=
  src != 3 && [1, 2].any fun q => q != src && bit (s.fld F.SYSCTL_LMSTAT_SLOT_DATA) (q - 1) && !s.msu.replayed.contains q

/-- REPLAY_DONE: the replay's work, its end, and what follows: CONFIRMs held back take effect (R306), the restored records are
forwarded, and a directory copy that the last source's replay has completed leads to a warm reset (R276). -/
def State.replayDone (s : State) : State :=
  match s.msu.replay with
  | none => s
  | some src =>
    let raw := if s.replayable src then s.replayRecords src else []
    let good := raw.filter commitOk
    let s1 := s.replayDrop (raw.length - good.length)
    let s2 := if src = 3 then s1.replayPlace else if s1.replayable src then s1.replayLines (src - 1) (s1.slotHead (src - 1)) good else s1
    let s3 := foldOver State.replayCommit (sortCommits (good.filter fun b => !s.msu.seenCsn.contains (commitCsn b))) s2
    let s4 := foldOver (fun (k : Nat) (t : State) => t.setByte (slotBase k + 4) 0) s3.dirtyRecords s3
    let s5 := ((s4.setFld F.MSU_RPSTAT_BUSY 0).setFld F.MSU_RPSTAT_DONE 1).onMsu fun u =>
      { u with replay := none, replayed := u.replayed ++ [src] }
    let s6 := ((s5.publish 199).lpReleaseConfirms).forwardRecords
    if s6.msu.dirDone && !s6.replayMore src && s6.resettable then
      (s6.onMsu fun u => { u with dirDone := false }).warmBoot [F.SYSCTL_RSTCAUSE_SOFT] else s6

end Sys2Proof.Machine
end

