-- ==== Sys2Proof/Machine/BusOps.lean ====
section
/-! DEFINITION. The interconnect: the register an address names, what registers read as, what writes of them do, memory, and the
rights of user clusters (R5 to R12, R28 to R41, R396, R409, R410, R420). -/

namespace Sys2Proof.Machine

/-! ## Addresses of registers (R32) -/

/-- The number of instances that a list of indexes spans. -/
def dimCount : List (Nat × Nat) → Nat
  | [] => 1
  | (n, _) :: l => n * dimCount l

/-- The instance at an offset from instance 0. -/
def dimIndex : List (Nat × Nat) → Nat → Option Nat
  | [], off => if off = 0 then some 0 else none
  | (n, st) :: l, off =>
    if st = 0 ∨ off / st ≥ n then none else (dimIndex l (off % st)).map fun k => off / st * dimCount l + k

/-- The copy of a register that an initiator reaches: its cluster's, its core's, or the only one. -/
def copyOf (row : RegRow) (who : Nat) : Nat :=
  match row.copies with
  | .one => 0
  | .perCluster => clusterOfWho who
  | .perCore => if who < 24 then pairOf who else 0

/-- The instance of a register that an initiator reaches at an address. -/
def RegRow.instAt (row : RegRow) (who a : Nat) : Option Nat :=
  match row.base with
  | none => none
  | some b =>
    if a < b then none
    else match row.copies with
      | .one => dimIndex row.dims (a - b)
      | _ => (dimIndex row.dims.tail (a - b)).map fun k => copyOf row who * dimCount row.dims.tail + k

/-- The register and instance at an address. -/
def regScan (who a : Nat) : List RegRow → Option (RegName × Nat)
  | [] => none
  | r :: l => match r.instAt who a with
    | some n => some (r.name, n)
    | none => regScan who a l

def regAt (who a : Nat) : Option (RegName × Nat) := if a < 0x40000000 ∨ 0x40200000 ≤ a then none else regScan who a regTable

/-! ## What registers read as -/

/-- Fields put together: value times 2^low. -/
def fieldsWord (l : List (Nat × Nat)) : Word := BitVec.ofNat 32 (l.foldl (fun a e => a + e.1 * 2 ^ e.2) 0)

/-- The busy inputs of R365. -/
def State.consBusy (s : State) (c : Nat) : Bool :=
  if 218 ≤ c ∧ c < 314 then bit (s.reg .EVF_CORE_PEND ((c - 218) / 4)).toNat ((c - 218) % 4)
  else if c = 185 then s.flag F.RTC_STAT_CAP_BUSY
  else if c = 316 then s.err.snapDue
  else if c = 317 ∨ c = 318 then s.evf.retrains.contains (c - 317)
  else false

/-- FLC_STAT's live bits. -/
def State.flcStatus (s : State) : Word :=
  let f := s.flc
  let susp := f.erase.any EraseRun.suspended
  let erasing := s.updRuns.any fun u => u.lines.isNone
  let line := (s.updRuns.bind fun u => u.lineOff (s.tabOf u)).elim 0 fun o => 2 ^ flBank o
  let banks := f.programs.foldl (fun a e => a + 2 ^ e.1) line
  fieldsWord [(b2n susp, 29), (b2n ((f.erase.isSome && !susp) || erasing), 28), (b2n f.page.isSome, 27), (banks, 20), (f.queue.length, 8),
    (b2n f.busy, 0)]

/-- SCHED_Q_q_STAT's live bits. -/
def State.queueStatus (s : State) (q : Nat) : Word :=
  let ledger := isRadioQ q && s.headReady q && match s.radioEntry q with
    | some e => s.radioValid e && !s.ledgerCovers e
    | none => false
  fieldsWord [(b2n ledger, 31), (b2n (!s.bucketOk q), 30), ((s.queue q).length, 16), (b2n (s.sched.units.any fun u => u.2.1 == q), 0)]

/-- The selected entry of a synthesiser table. -/
def State.synShown (s : State) (p : Nat) : Option SynEntry := Tab.find s.rf.synTab (p * 256 + s.fld F.RF_SYNTAB_IDX_INDEX p)

/-- The erase count that FLC_WEARIDX selects (R435). -/
def State.wearShown (s : State) : Nat :=
  let i := s.fld F.FLC_WEARIDX_INDEX
  Tab.getD s.flc.wear (if s.flag F.FLC_WEARIDX_KIND then 4096 + i else i) 0

/-- The live part of a register that is not stored: fields that show another part of the state. UNDISC of FRM_STAT follows network time
(R230), also where its table gives a reset value of 0 (DEDUCED, log entry 178). -/
def State.live (s : State) (r : RegName) (n : Nat) : Word :=
  match r with
  | .EVF_STAT => fieldsWord [(b2n ((List.range 320).any fun c => s.flag F.EVF_CSTAT_OVR c), 29), (b2n s.evfRuns, 28)]
  | .EVF_PUB => fieldsWord [(s.prodOwner n, 24), (b2n (s.prodOwner n == 0), 23)]
  | .EVF_SUB => fieldsWord [(s.consOwner n, 26), (b2n (s.consOwner n == 0), 25)]
  | .EVF_CSTAT => fieldsWord [(b2n (s.consBusy n), 30)]
  | .NTC_STAT => fieldsWord [(b2n s.ntHold, 28)]
  | .RTC_STAT => fieldsWord [(b2n s.rtc.wr.isSome, 8)]
  | .MSU_STAT => fieldsWord [(countBelow (fun k => s.mileState k != 0) 64, 16),
      (countBelow (fun k => s.mileState k != 0 && s.mileOwner k == 3) 64, 8)]
  | .MSU_JFREE => BitVec.ofNat 32 s.jfree
  | .FLC_STAT => s.flcStatus
  | .FLC_WEAR => BitVec.ofNat 32 s.wearShown
  | .FLC_TABSTAT => fieldsWord [(s.flc.partialTab.entries.length, 24), (s.flc.grown.entries.length, 16), (s.flc.factory.length, 8),
      (8 - s.flc.factory.length, 0)]
  | .OTP_STAT => fieldsWord [(b2n s.otp.run.isSome, 0)]
  | .ERR_STAT => BitVec.ofNat 32 s.unhandled
  | .ERR_CUR => s.errCurWord
  | .ERR_WDT_STAT => fieldsWord [(b2n (s.wdtFrozen n), 29)]
  | .ERR_LOG => s.logWord (n / 4) (n % 4)
  | .SCHED_STAT => BitVec.ofNat 32 s.poolFree
  | .SCHED_Q_STAT => s.queueStatus n
  | .SCHED_Q_TOKENS => BitVec.ofInt 32 (s.bucket n)
  | .RF_SYNSTAT => fieldsWord [(s.synCount n, 16)]
  | .RF_SYNTAB_FREQ => match s.synShown n with
    | some e => BitVec.ofNat 32 e.freq
    | none => 0
  | .RF_SYNTAB_INFO => match s.synShown n with
    | some e => fieldsWord [(1, 31), (unsgn 8 e.temp, 16), (min 65535 ((s.cyc - e.made) / 100000000), 0)]
    | none => 0
  | .LANE_CAL => BitVec.ofNat 32 (s.calAge n)
  | .LANE_BANK_STAT => fieldsWord [(s.lanesOn, 16), (s.unitsHeld, 8)]
  | .LANE_PT_MOD => fieldsWord [(s.ptCost n, 16)]
  | .TXP_STAT => fieldsWord [(b2n s.regionLocked, 28), (s.txp.timed.length, 8), (b2n (s.exc 0).isSome + 2 * b2n (s.exc 1).isSome, 0)]
  | .TXP_LEDGER => BitVec.ofNat 32 (s.ledger n / 10)
  | .FRM_STAT => fieldsWord [(b2n (s.flag F.FRM_DUP_STAT_COLD_LEFT), 29), (b2n !s.flag F.NTC_STAT_DISC, 28), (s.ctxInUse, 16)]
  | .FRM_DUP_STAT => fieldsWord [(s.dupOccupancy, 16)]
  | _ => 0

/-- The bits of a register that `live` gives; the others are stored. -/
def liveMask (r : RegName) : Word :=
  match r with
  | .EVF_STAT => 0x30000000 | .EVF_PUB => 0x03800000 | .EVF_SUB => 0x0E000000 | .EVF_CSTAT => 0x40000000 | .NTC_STAT => 0x10000000
  | .RTC_STAT => 0x100 | .MSU_STAT => 0x007F7F00 | .FLC_STAT => 0x38F00F01 | .OTP_STAT => 1 | .ERR_STAT => 0x1FF
  | .ERR_WDT_STAT => 0x20000000 | .SCHED_STAT => 0x1FFF | .SCHED_Q_STAT => 0xDFFF0001 | .RF_SYNSTAT => 0x01FF0000
  | .LANE_CAL => 0xFFFF | .LANE_BANK_STAT => 0x00FFFF00 | .LANE_PT_MOD => 0x70000 | .TXP_STAT => 0x10007F03
  | .FRM_STAT => 0x37FF0000 | .FRM_DUP_STAT => 0xFFFF0000
  | .MSU_JFREE | .FLC_WEAR | .FLC_TABSTAT | .ERR_CUR | .ERR_LOG | .SCHED_Q_TOKENS | .RF_SYNTAB_FREQ | .RF_SYNTAB_INFO
  | .TXP_LEDGER => 0xFFFFFFFF
  | _ => 0

/-- What a read of a register without side effects returns (R5): stored bits and live ones; WO and RSV bits read zero. -/
def State.view (s : State) (r : RegName) (n : Nat := 0) : Word :=
  let w := (s.reg r n &&& ~~~(liveMask r)) ||| (s.live r n &&& liveMask r)
  let v := w &&& (regRow r).readable
  if r = .SYSCTL_CORE_EN ∧ s.cur ≠ 0 then v &&& 0xFF else v

/-- Remove the oldest flash result (FLC_RESULT). -/
def State.flcResultRead (s : State) : Word × State :=
  match s.flc.results with
  | [] => (0, s)
  | w :: l => (w, s.onFlc fun f => { f with results := l })

/-- A read of NTC_TICK loads the reading core's NTC_SECSH (R329). -/
def State.ntTickRead (s : State) (core : Nat) : Word × State := (s.reg .NTC_TICK, s.setReg .NTC_SECSH core s.ntSec)

/-- A read of a register by an initiator in the name of a cluster, with what it does. Only a core has an NTC_SECSH (R329). -/
def State.readReg (s : State) (who cl : Nat) (r : RegName) (n : Nat) : Word × State :=
  match r with
  | .MSU_OPEN => s.msuOpenRead cl
  | .NTC_TICK => if who < 24 then s.ntTickRead (pairOf who) else (s.view r n, s)
  | .FLC_RESULT => s.flcResultRead
  | .TXP_RESULT => s.txResultRead
  | .SCHED_RRESULT => s.rresultRead
  | _ => (s.view r n, s)

/-! ## Writes of registers -/

/-- The running condition of a register's LOCKED-WHILE-RUNNING fields as the status registers show it, for registers that have no write
of their own. -/
def State.locksNow (s : State) (r : RegName) (n : Nat) : Bool :=
  match r with
  | .PMB_CFG => s.flag F.PMB_STAT_BUSY
  | .NTC_RATE => s.ntSrc == 1 || s.ntSrc == 2
  | .MSU_TPL_CFG => s.bankRuns
  | .FLC_CFG => s.flc.busy
  | .LANE_PROFILE => s.laneState n != 0
  | .LANE_PT_MOD | .LANE_PT_SYNC | .LANE_PT_WORD | .LANE_PT_LEN | .LANE_PT_RX | .LANE_PT_DEV => s.ptInUse n
  | .TXP_FEMCFG => s.femInUse n
  | .TXP_FEMSEQ_STEP => s.femInUse (n / 8)
  | .LP_TSCFG => s.lpState n != lpOff
  | .SCHED_GL_BASESEC | .SCHED_GL_BASETICK | .SCHED_GL_CYCLE | .SCHED_GL_LEN => s.listInUse (n / 2) (n % 2)
  | .SCHED_GCL => s.listInUse (n / 128) (n / 64 % 2)
  | .SCHED_Q_CFG => s.queueInUse n
  | .RTC_TIME | .RTC_DATE => !s.flag F.RTC_CTRL_HALT
  | _ => false

/-- Whether the present cycle found the block of a register running, where that is no matter of the registers (R10). -/
def State.locksWas (s : State) (r : RegName) (n : Nat) : Bool :=
  match r with
  | .FLC_CFG => s.busyWas.flc
  | .TXP_FEMCFG => s.busyWas.fem.contains n
  | .TXP_FEMSEQ_STEP => s.busyWas.fem.contains (n / 8)
  | .SCHED_Q_CFG => s.busyWas.queues.contains n
  | _ => false

/-- The running condition of R9 and R10: a block that stops in this cycle still counts as running in it. -/
def State.locks (s : State) (r : RegName) (n : Nat) : Bool := (s.nowOrWas fun t => t.locksNow r n) || s.locksWas r n

/-- A write to the RTC: it reaches the backup domain later; another one meanwhile is dropped (R352). -/
def State.rtcWrite (s : State) (r : RegName) (n : Nat) (w : Word) : State :=
  match s.rtc.wr with
  | some _ => s.setFld F.RTC_STAT_WDROP 1
  | none => s.onRtc fun x => { x with wr := some (r, n, w) }

/-- A capture is commanded (R354). -/
def State.rtcCaptureStart (s : State) : State := s.setFld F.RTC_STAT_CAP_BUSY 1

/-- The Supervisor goes on with the commands on the real-time clock (R352 to R354): while no write is on its way, the next one sets out; a
command without further writes is answered, RTC_READ once its capture is complete, and RTC_SET by whether the calendar has been
released. -/
def State.rtcNext : Nat → State → State
  | 0, s => s
  | k + 1, s => match s.hcp.rtc with
    | [] => s
    | o :: rest =>
      if s.rtc.wr.isSome then s
      else match o.writes with
        | (r, n, w) :: ws =>
          let w1 := if r = .RTC_CTRL ∧ w = 0x100 then w ||| (s.reg .RTC_CTRL &&& 1) else w
          (s.onRtc fun x => { x with wr := some (r, n, w1) }).onHcp fun x => { x with rtc := { o with writes := ws } :: rest }
        | [] =>
          let s1 := s.onHcp fun x => { x with rtc := rest }
          if o.op = 0x0703 then
            if s.flag F.RTC_STAT_CAP_BUSY then s else State.rtcNext k (s1.reply o.hdr 0x0703 .ok s1.calBytes)
          else State.rtcNext k (s1.reply o.hdr o.op (if o.op = 0x0704 ∧ s.flag F.RTC_CTRL_HALT then .badParam else .ok))

/-- A command of HCP on the real-time clock sets out (R352). -/
def State.rtcOrder (s : State) (h : Hdr) (op : Nat) (writes : List (RegName × Nat × Word)) : State :=
  let s1 := s.onHcp fun x => { x with rtc := x.rtc ++ [⟨h, op, writes⟩] }
  State.rtcNext s1.hcp.rtc.length s1

/-- RTC_CAPTURE_DONE: the copy is complete (R354, R377). -/
def State.rtcCaptureDone (s : State) : State :=
  if !s.flag F.RTC_STAT_CAP_BUSY then s
  else
    let s1 := ((s.rtcCapture.inputFree 185).setFld F.RTC_STAT_CAP_BUSY 0).onRtc fun x => { x with capAt := some s.cyc }
    State.rtcNext s1.hcp.rtc.length s1

/-- A write that has reached the backup domain (R352 to R359). -/
def State.rtcApply (s : State) (r : RegName) (n : Nat) (w : Word) : State :=
  match r with
  | .RTC_CTRL =>
    let s1 := if bit w.toNat 0 then s.rtcHalt else s.rtcRelease
    if bit w.toNat 8 then s1.rtcCaptureStart else s1
  | .RTC_DATE =>
    let s1 := s.regStore .RTC_DATE 0 (s.locks .RTC_DATE 0) w
    if s.locks .RTC_DATE 0 then s1 else s1.wdaySet
  | .RTC_ADJ => s.calAdjust (sgn 24 (bits w.toNat 23 0))
  | .RTC_STAT =>
    let s1 := s.regStore .RTC_STAT 0 false w
    if s1.flag F.RTC_STAT_ALM0 || s1.flag F.RTC_STAT_ALM1 then s1
    else if w.toNat % 4 = 0 then s1 else s1.exchClose .rtc
  | .RTC_TRICKLE =>
    let s1 := s.regStore .RTC_TRICKLE 0 false w
    if s1.flag F.RTC_TRICKLE_CURRENT then s1 else s1.chargeStop
  | _ => s.regStore r n (s.locks r n) w

/-- An alarm flag that has risen wakes the device from DOZE and HIBERNATE, and opens its exchange in LISTEN and RUN (R49, R52, R356). -/
def State.alarmWake (s0 s : State) : State :=
  let rose := fun (f : Fld) => !s0.flag f && s.flag f
  if s.flushing || !(rose F.RTC_STAT_ALM0 || rose F.RTC_STAT_ALM1) then s
  else if s.level = 3 then s.wakeHib .rtc else s.wake .rtc

/-- RTC_WRITE_DONE: the write has its effect, and the Supervisor's next one can set out (R352). -/
def State.rtcWriteDone (s : State) : State :=
  match s.rtc.wr with
  | none => s
  | some (r, n, w) =>
    let s1 := State.alarmWake s ((s.onRtc fun x => { x with wr := none }).rtcApply r n w)
    State.rtcNext s1.hcp.rtc.length s1

/-- A write of SYSCTL_CORE_EN (R381): cores held in reset lose what they hold; released ones start at their cluster's address. -/
def State.coreEnWrite (s : State) (w : Word) : State :=
  let old := (s.reg .SYSCTL_CORE_EN).toNat
  let ok := fun c => 2 ≤ c && (c < 8 || s.corePowered c)
  let now := fun c => ok c && bit w.toNat c
  let s1 := s.coresLose fun c => 2 ≤ c && c < 24 && bit old c && !now c
  let en := (List.range 24).foldl (fun a c => a + b2n (now c) * 2 ^ c) 0
  let s2 := (s1.setFld F.SYSCTL_CORE_EN_EN (en / 4)).onCore fun c => { c with userEn := if s.userOn then en / 256 * 256 else c.userEn }
  foldOver (fun (c : Nat) (t : State) => if now c && !bit old c then
      let u := (t.boundary .SYSCTL_CLSTART (clusterOf c)).coresLose fun k => k == c
      u.setPc c (u.reg .SYSCTL_CLSTART (clusterOf c))
    else t) (List.range 24) s2

/-- A write of SCHED_Q_q_CFG: OWNER and UTYPE by CL0 only; UTYPE 0 goes with OWNER 0 alone (R309); radio queues have no OWNER. -/
def State.queueCfgWrite (s : State) (cl q : Nat) (w : Word) : State :=
  let own := bits (s.reg .SCHED_Q_CFG q).toNat 31 30
  let typ := s.fld F.SCHED_Q_CFG_UTYPE q
  let o := if cl ≠ 0 then own else if isRadioQ q then 0 else bits w.toNat 31 30
  let t := if cl ≠ 0 then typ else bits w.toNat 29 29
  let bad := ownerNum o ≠ 0 ∧ t = 0 ∧ !isRadioQ q
  let o1 := if bad ∧ typ = 0 then own else o
  let t1 := if bad then typ else t
  let s1 := s.regStore .SCHED_Q_CFG q (s.locks .SCHED_Q_CFG q) (wordPut (wordPut w 31 30 o1) 29 29 t1)
  if bad then s1.setWlock .SCHED_Q_CFG q else s1

/-- A write of a word of tag memory, which becomes whole. -/
def State.tmemWrite (s : State) (n : Nat) (w : Word) : State :=
  (s.setReg .CTL_TMEM n w).onCtl fun c => { c with errs := Tab.putD c.errs n 0 0 }

/-- A register that an owner field of its own guards, in the event fabric (R371). -/
def State.evfWrite (s : State) (cl : Nat) (r : RegName) (n : Nat) (w : Word) : State :=
  match r with
  | .EVF_FIRE => s.evfFire cl (bits w.toNat 7 0)
  | .EVF_GRP_SET => s.evfGrpWrite cl true w
  | .EVF_GRP_CLR => s.evfGrpWrite cl false w
  | .EVF_GRP_OWN => s.evfGrpOwnWrite w
  | .EVF_CH_CFG => s.evfChWrite n w
  | .EVF_PUB => s.evfPubWrite cl n w
  | .EVF_SUB => s.evfSubWrite cl n w
  | .EVF_GPIO => s.evfGpioWrite cl n w
  | .EVF_CSTAT =>
    let s1 := s.regStore .EVF_CSTAT n false w
    if bit w.toNat 29 then s1.setFld F.EVF_CSTAT_COAL 0 n else s1
  | .EVF_CORE_PEND =>
    let s1 := s.regStore .EVF_CORE_PEND n false w
    foldOver (fun (k : Nat) (t : State) =>
      if bit (s.reg .EVF_CORE_PEND n).toNat k && !bit (s1.reg .EVF_CORE_PEND n).toNat k then t.inputFree (218 + 4 * n + k) else t)
      (List.range 4) s1
  | _ => s.regStore r n false w

/-- Registers of SYSCTL, PMB and HPORT. -/
def State.sysWrite (s : State) (r : RegName) (n : Nat) (w : Word) : State :=
  match r with
  | .SYSCTL_RSTCTL => s.rstctlWrite w
  | .SYSCTL_CLKCFG => s.clkcfgWrite w
  | .SYSCTL_VINCFG => s.vincfgWrite w
  | .SYSCTL_LMCFG => s.lmcfgWrite w
  | .SYSCTL_CORE_EN => s.coreEnWrite w
  | .PMB_VREQ => s.vreqWrite w
  | _ => s.regStore r n (s.locks r n) w

/-- Registers of NTC and TMR. -/
def State.timeWrite (s : State) (cl : Nat) (r : RegName) (n : Nat) (w : Word) : State :=
  match r with
  | .NTC_CTRL => s.ntcCtrlWrite w
  | .NTC_CAPCMD => if bit w.toNat 0 then s.ntCapture cl else s
  | .NTC_DISC => s.ntSrcWrite w
  | .NTC_CMP_TICK => s.cmpArm n w
  | .NTC_CMP_CTRL => s.cmpCtrlWrite cl n w
  | .TMR_CTRL => s.tmrCtrlWrite cl n w
  | .TMR_COUNT => s.tmrCount n w
  | .TMR_BUF => s.tmrBufWrite n w
  | _ => s.regStore r n (s.locks r n) w

/-- Registers of MSU, FLC, OTP, DMC and ERR. -/
def State.storeWrite (s : State) (cl : Nat) (r : RegName) (n : Nat) (w : Word) : State :=
  match r with
  | .MSU_ACT => if n % 4 = 3 then (s.setReg .MSU_ACT n w).msuActWrite cl w else s.setReg .MSU_ACT n w
  | .MSU_CMD => s.msuCmdWrite cl w
  | .MSU_JRETIRE => s.jretire w.toNat
  | .MSU_REPLAY => s.replayWrite w
  | .MSU_TVAR => s.setWlock .MSU_TVAR n
  | .FLC_CMD => s.flcWrite w
  | .FLC_RDSTAT =>
    let s1 := s.regStore .FLC_RDSTAT 0 false w
    if bit w.toNat 31 then s1.setFld F.FLC_RDSTAT_WARN_CNT 0 else s1
  | .OTP_CTRL => s.otpCtrl w
  | .DMC_CTRL => if bit w.toNat 1 then s.dmcStop else if bit w.toNat 0 then s.dmcInit else s
  | .ERR_ACK => s.errAck w
  | .ERR_REPORT => s.errReport cl w
  | .ERR_WDT_CFG => s.wdtCfgWrite n w
  | .ERR_WDT_KICK => s.wdtKick n w
  | _ => s.regStore r n (s.locks r n) w

/-- A push, with the cluster's SCHED_PUSH0 (R308). -/
def State.pushWrite (s : State) (cl : Nat) (w : Word) : State :=
  s.push cl (bits w.toNat 23 16) (s.reg .SCHED_PUSH0 cl).toNat (bits w.toNat 13 0)

/-- A write of SCHED_GATE_n_CTRL. -/
def State.gateWrite (s : State) (n : Nat) (w : Word) : State :=
  let s1 := s.regStore .SCHED_GATE_CTRL n false w
  (if bit w.toNat 1 then s1.gateSwapPlan n else s1).gateMove n

/-- Registers of CTL, SCHED, RF, the lane bank, TXP, FRM and the line ports. -/
def State.radioWrite (s : State) (cl : Nat) (r : RegName) (n : Nat) (w : Word) : State :=
  match r with
  | .CTL_CFG => s.ctlCfgWrite w
  | .CTL_HOLD => s.holdWrite w
  | .CTL_TKEY => s.keyRegWrite .CTL_TKEY F.CTL_STAT_TKEY_OK n w
  | .CTL_RKEY => s.keyRegWrite .CTL_RKEY F.CTL_STAT_RKEY_OK n w
  | .CTL_TMEM => s.tmemWrite n w
  | .SCHED_CTRL => s.schedCtrlWrite w
  | .SCHED_PUSH0 => s.setReg .SCHED_PUSH0 n w
  | .SCHED_PUSH1 => s.pushWrite cl w
  | .SCHED_GATE_CTRL => s.gateWrite n w
  | .SCHED_Q_CFG => s.queueCfgWrite cl n w
  | .RF_CTRL => s.rfCtrlWrite n w
  | .RF_LO => s.loWrite n w
  | .RF_SYNCFG =>
    let s1 := s.regStore .RF_SYNCFG n false w
    if bit w.toNat 1 then s1.synClear n else s1
  | .LANE_CTRL => s.laneCtrlWrite n w
  | .LANE_OFFSET => s.laneOffsetWrite n w
  | .LANE_BANK_CTRL => s.bankWrite w
  | .TXP_SUBMIT => if n = 3 then (s.setReg .TXP_SUBMIT 3 w).txWrite w else s.setReg .TXP_SUBMIT n w
  | .TXP_RGN => s.rgnWrite n w
  | .TXP_FEMCFG => s.femcfgWrite n (s.locks .TXP_FEMCFG n) w
  | .WUR_CFG => s.wurCfgWrite w
  | .FRM_VAULT_SEL => s.vaultWrite w
  | .FRM_VAULT_KEY => s.setReg .FRM_VAULT_KEY n w
  | .FRM_DUP_CFG => s.dupWrite w
  | .FRM_EPOCH => s.epochWrite n w
  | .LP_CFG => s.lpCfgWrite n w
  | .LP_CTRL => s.lpCtrlWrite n w
  | _ => s.regStore r n (s.locks r n) w

/-- A write of a register on behalf of a cluster. -/
def State.writeReg (s : State) (cl : Nat) (r : RegName) (n : Nat) (w : Word) : State :=
  let i := r.ctorIdx
  if i < RegName.EVF_STAT.ctorIdx then s.sysWrite r n w
  else if i < RegName.TMR_STAT.ctorIdx then s.evfWrite cl r n w
  else if i < RegName.RTC_CTRL.ctorIdx then s.timeWrite cl r n w
  else if i < RegName.MSU_OPEN.ctorIdx then s.rtcWrite r n w
  else if i < RegName.CTL_CFG.ctorIdx then s.storeWrite cl r n w
  else s.radioWrite cl r n w

/-! ## Rights of user clusters (R39 to R41) -/

/-- The clusters in whose name an initiator acts: a core in that of its own, the debug port in none without a session or once
DEBUG_DISABLE is blown (R46, R68), in CL0's where the debug functions reach everything, and otherwise in those of CL1 and CL2 (R127);
all others in CL0's. -/
def State.rights (s : State) (who : Nat) : List Nat :=
  if who ≠ 27 then [clusterOfWho who]
  else if s.debugDisabled || !s.core.debug then []
  else if s.security == 0 || s.hcp.debugScope.isSome then [0] else [1, 2]

/-- The initiator as which one reaches a register that each cluster or core has for itself: the debug port, where it is held to CL1 and CL2,
the first core of CL1 (DESIGN CHOICE, log entry 198). -/
def State.actsAs (s : State) (who : Nat) : Nat := if s.rights who = [1, 2] then 8 else who

/-- Whether the part of the event fabric that a register describes is open to a user cluster (R371 and the register tables). -/
def State.evfReach (s : State) (cl : Nat) (r : RegName) (n : Nat) (writing : Bool) : Bool :=
  match r with
  | .EVF_FIRE | .EVF_GRP_SET | .EVF_GRP_CLR => true
  | .EVF_GRP_STATE => !writing
  | .EVF_CH_CFG => !writing && s.chOwner n == cl
  | .EVF_PUB => writing || s.prodOwner n == cl
  | .EVF_SUB => writing || s.consOwner n == cl
  | .EVF_CSTAT => s.consOwner n == cl
  | .EVF_CORE_PEND => clusterOf n == cl
  | .EVF_GPIO => s.gpioOwner n == cl
  | _ => false

/-- Whether a core of a user cluster reaches a register (R39, R40 and the register tables of every chapter). -/
def State.userReach (s : State) (cl : Nat) (r : RegName) (n : Nat) (writing : Bool) : Bool :=
  match r with
  | .NTC_SEC | .NTC_TICK | .NTC_SECSH | .NTC_CAP_SEC | .NTC_CAP_TICK | .NTC_EVCAP_SEC | .NTC_EVCAP_TICK => !writing
  | .NTC_CAPCMD => true
  | .NTC_CMP_SEC | .NTC_CMP_TICK | .NTC_CMP_PER | .NTC_CMP_CTRL => s.cmpOwner n == cl
  | .TMR_CTRL | .TMR_BUF | .TMR_COUNT | .TMR_TSTAT => s.tmrOwner n == cl
  | .MSU_OPEN | .MSU_ACT | .MSU_CMD | .MSU_ADD_RES | .MSU_MS_STAT => true
  | .MSU_TVAR => tvarOwner n == cl
  | .SCHED_PUSH0 | .SCHED_PUSH1 | .SCHED_PUSH_RES => true
  | .SCHED_Q_CFG | .SCHED_Q_RATE | .SCHED_Q_BURST | .SCHED_Q_STAT | .SCHED_Q_TOKENS | .SCHED_Q_VTAG => s.queueOwner n == cl
  | .ERR_REPORT => true
  | .ERR_WDT_CFG | .ERR_WDT_KICK | .ERR_WDT_STAT => n == cl + 1
  | _ => s.evfReach cl r n writing

/-- Whether a core of a user cluster reaches n bytes of memory: its cluster's SRAM, or a region granted to it, the duplicate
filter's table left out (R39, R40). -/
def State.userMem (s : State) (cl a n : Nat) : Bool :=
  let own := 0x21000000 + cl * 0x80000
  let filter := s.dupBase < a + n && a < s.dupBase + 0x2000000
  (own ≤ a && a + n ≤ own + 0x80000) || (!filter && s.core.regions.any fun g => g.cluster == cl && g.base ≤ a && a + n ≤ g.base + g.len)

/-! ## The answers of an access -/

/-- How an access ends: served, an error response (R30, R41), an uncorrectable memory code (R410), or not before a pulse of the flash has
ended (R423) or the fill of the DRAM has passed (R454). -/
inductive Resp where
  | ok
  | error
  | ecc
  | waits
  deriving DecidableEq, Repr

/-- Log an access that R39 does not permit (R41). -/
def State.deniedLog (s : State) (who a : Nat) : State := s.raise 2 0x21 who (BitVec.ofNat 32 a)

/-- The window of the debug block (R32). -/
def inDbg (a : Nat) : Bool := 0x401F0000 ≤ a && a < 0x40200000

def inScratch (a : Nat) : Bool := 0x10000000 ≤ a && a < 0x10010000
def inFlash (a : Nat) : Bool := 0x08000000 ≤ a && a < 0x0A000000

/-- The core whose scratchpad an initiator reaches (R33): its own; for DBG that of the core halted last among those it reaches (R127; log
entry 155). -/
def State.padCore (s : State) (who : Nat) : Option Nat :=
  if who < 24 then some (pairOf who)
  else if who = 27 then (s.core.halted.filter fun c => (s.rights who).any fun cl => cl == 0 || cl == clusterOf c).getLast?
  else none

/-- The cluster in whose name an access to a register is made, where R39 permits it in one (R41). -/
def State.regRight (s : State) (who : Nat) (r : RegName) (n : Nat) (writing : Bool) : Option Nat :=
  (s.rights who).find? fun cl => cl == 0 || s.userReach cl r n writing

/-- Whether R39 permits an access to n bytes of memory. -/
def State.memRight (s : State) (who a n : Nat) : Bool := inScratch a || (s.rights who).any fun cl => cl == 0 || s.userMem cl a n

/-- Log an access that R39 does not permit (R41). A debug port that is not open is no initiator, and leaves no trace (R68). -/
def State.noRight (s : State) (who a : Nat) : State := if (s.rights who).isEmpty then s else s.deniedLog who a

/-- The word of SRAM, or of a scratchpad, at an address. The SRAM of CL1 and CL2 answers while the user domain is powered (R37). -/
def State.ramWordAt (s : State) (who a : Nat) : Option RamWord :=
  if inScratch a then (s.padCore who).map fun c => .pad c (a - 0x10000000)
  else if inSram a ∧ (a < 0x21080000 ∨ s.userOn) then some (.mem a) else none

/-- A byte of a core's scratchpad (R33). -/
def State.padByte (s : State) (c o : Nat) : Byte := Tab.getD s.core.pad (c * 65536 + o) 0
def State.setPadByte (s : State) (c o : Nat) (b : Byte) : State :=
  { s with core := { s.core with pad := Tab.putD s.core.pad (c * 65536 + o) 0 b } }

/-- A byte as an initiator sees it. -/
def State.byteFor (s : State) (who a : Nat) : Byte :=
  if inScratch a then s.padByte ((s.padCore who).getD 0) (a - 0x10000000) else s.byte a
def State.setByteFor (s : State) (who a : Nat) (b : Byte) : State :=
  if inScratch a then s.setPadByte ((s.padCore who).getD 0) (a - 0x10000000) b else s.setByte a b

/-- n bytes as an initiator sees them. -/
def State.bytesFor (s : State) (who : Nat) : Nat → Nat → Bytes
  | _, 0 => []
  | a, n + 1 => s.byteFor who a :: s.bytesFor who (a + 1) n

/-- Store bytes for an initiator. -/
def State.setBytesFor (s : State) (who : Nat) : Nat → Bytes → State
  | _, [] => s
  | a, b :: l => (s.setByteFor who a b).setBytesFor who (a + 1) l

/-! ## Reads -/

/-- A read of n bytes of DRAM within a unit (R34, R452, R454). Offsets past the data part meet the command error of R452. -/
def State.dramRead (s : State) (who a n : Nat) : Resp × Word × State :=
  if s.inDram a ∧ s.dramReady then
    if !s.filledFrom (a / 8 * 8) then (.waits, 0, s)
    else match s.checkDram a with
      | (true, s1) => (.ok, BitVec.ofNat 32 (leNat (s1.bytes a n)), s1)
      | (false, s1) => (.ecc, 0, s1)
  else if s.dramReady ∧ a < dramBase + s.fld F.DMC_DEV_CAP * 268435456 then (.error, 0, s.raise 2 0x0A 0 (BitVec.ofNat 32 a))
  else (.error, 0, s.noDecode who (BitVec.ofNat 32 a))

/-- A data read of flash (R413, R417, R420). -/
def State.flashRead (s : State) (who a n : Nat) : Resp × Word × State :=
  let off := a - flashBase
  if s.flRegion off = 2 then (.error, 0, s.noDecode who (BitVec.ofNat 32 a))
  else match s.readLine (who < 8) off with
    | (.data _, s1) => (.ok, BitVec.ofNat 32 (leNat (s1.bytes a n)), s1)
    | (.uncorrectable, s1) => (.ecc, 0, s1)
    | (.errorResponse, s1) => (.error, 0, s1)
    | (.waits, s1) => (.waits, 0, s1)

/-- A read of memory, naturally aligned, after the rights have been checked. -/
def State.memRead (s : State) (who a n : Nat) : Resp × Word × State :=
  match s.ramWordAt who a with
  | some w => match s.checkRam w with
    | (true, s1) => (.ok, BitVec.ofNat 32 (leNat (s1.bytesFor who a n)), s1)
    | (false, s1) => (.ecc, 0, s1)
  | none =>
    if a < 0x10000 then (.ok, BitVec.ofNat 32 (leNat (s.bytes a n)), s)
    else if inFlash a then s.flashRead who a n
    else if dramBase ≤ a then s.dramRead who a n
    else (.error, 0, s.noDecode who (BitVec.ofNat 32 a))

/-- A read of a register for an initiator: the word at the register's address (R30, R39, R41, R249, R410). -/
def State.regRead (s : State) (who a : Nat) : Resp × Word × State :=
  if inDbg a then
    (if (s.rights who).contains 0 then (.ok, Config.dbgRead a s.free, { s with free := s.free + 1 }) else (.error, 0, s.noRight who a))
  else if (s.rights who).isEmpty then (.error, 0, s)
  else match regAt (s.actsAs who) a with
    | none => (.error, 0, s.noDecode who (BitVec.ofNat 32 a))
    | some (r, n) => match s.regRight who r n false with
      | none => (.error, 0, s.deniedLog who a)
      | some cl =>
        if cl ≠ 0 ∧ r = .MSU_MS_STAT ∧ s.mileOwner n ≠ cl then (.ok, 0, s.msuCmdErr)
        else if r = .CTL_TMEM then match s.checkTag n with
          | (true, s1) => (.ok, s1.view r n, s1)
          | (false, s1) => (.ecc, 0, s1)
        else let (w, s1) := s.readReg who cl r n
          (.ok, w, s1)

/-- A read of n bytes, 1, 2 or 4, at an aligned address by an initiator. A part of a register comes out of its word. -/
def State.busRead (s : State) (who a n : Nat) : Resp × Word × State :=
  if 0x40000000 ≤ a ∧ a < 0x40200000 then
    let (r, w, s1) := s.regRead who (a / 4 * 4)
    (r, BitVec.ofNat 32 (w.toNat / 2 ^ (8 * (a % 4)) % 2 ^ (8 * n)), s1)
  else if !s.memRight who a n then (.error, 0, s.noRight who a)
  else s.memRead who a n

/-! ## Writes -/

/-- A write of DRAM: a partial one needs the unit's old content (R452, R454). -/
def State.dramWrite (s : State) (who a : Nat) (b : Bytes) : Resp × State :=
  if s.inDram a ∧ s.dramReady then
    if !s.filledFrom (a / 8 * 8) then (.waits, s)
    else match s.checkDram a true with
      | (true, s1) => (.ok, s1.setBytes a b)
      | (false, s1) => (.ecc, s1)
  else if s.dramReady ∧ a < dramBase + s.fld F.DMC_DEV_CAP * 268435456 then (.error, s.raise 2 0x0A 0 (BitVec.ofNat 32 a))
  else (.error, s.noDecode who (BitVec.ofNat 32 a))

/-- A write of memory, naturally aligned, after the rights have been checked: a whole word of SRAM becomes whole; a part of one
reads it first (R409, R410). The boot ROM and the flash windows take no write. -/
def State.memWrite (s : State) (who a : Nat) (b : Bytes) : Resp × State :=
  match s.ramWordAt who a with
  | some w =>
    if b.length = 4 then (.ok, (s.mendRam w).setBytesFor who a b)
    else match s.checkRam w with
      | (true, s1) => (.ok, s1.setBytesFor who a b)
      | (false, s1) => (.ecc, s1)
  | none => if dramBase ≤ a then s.dramWrite who a b else (.error, s.noDecode who (BitVec.ofNat 32 a))

/-- A write of a register by an initiator (R30, R39, R41). -/
def State.regWrite (s : State) (who a : Nat) (w : Word) : Resp × State :=
  if inDbg a then (if (s.rights who).contains 0 then (.ok, s) else (.error, s.noRight who a))
  else if (s.rights who).isEmpty then (.error, s)
  else match regAt (s.actsAs who) a with
    | none => (.error, s.noDecode who (BitVec.ofNat 32 a))
    | some (r, n) => match s.regRight who r n true with
      | none => (.error, s.deniedLog who a)
      | some cl => (.ok, s.writeReg cl r n w)

/-- The word that a store of b at an address within a register's word writes: the bytes that are not stored are free (the spec
gives no meaning to a part of a register write). -/
def State.regPart (s : State) (a : Nat) (b : Bytes) : Word × State :=
  if b.length = 4 then (BitVec.ofNat 32 (leNat b), s)
  else let (v, s1) := s.fresh (2 ^ 32)
    (wordPut (BitVec.ofNat 32 v) (8 * (a % 4 + b.length) - 1) (8 * (a % 4)) (leNat b), s1)

/-- A write of 1, 2 or 4 bytes at an aligned address by an initiator. -/
def State.busWrite (s : State) (who a : Nat) (b : Bytes) : Resp × State :=
  if 0x40000000 ≤ a ∧ a < 0x40200000 then
    let (w, s1) := s.regPart a b
    s1.regWrite who (a / 4 * 4) w
  else if !s.memRight who a b.length then (.error, s.noRight who a)
  else s.memWrite who a b

end Sys2Proof.Machine
end

