-- ==== Sys2Proof/Machine/JobOps.lean ====
section
/-! DEFINITION. What follows a command within its step: results on their way to those who asked for them, flash commands of HCP
jobs, Last Mile's status, the host exchange, and a Roadside entry that is due (R49, R123, R145, R156, R218, R276, R427, R486). -/

namespace Sys2Proof.Machine

/-! ## Flash jobs (R119, R155, R276, R427) -/

/-- Bytes cut at the boundaries of units of a size: n pieces at most. -/
def cutPieces (op size : Nat) : Nat → Nat → Bytes → List Piece
  | 0, _, _ => []
  | n + 1, off, b =>
    if b.isEmpty then []
    else
      let k := size - off % size
      ⟨op, off, b.take k⟩ :: cutPieces op size n (off + k) (b.drop k)

/-- The sector erases under a span. -/
def erasePieces (off n : Nat) : List Piece := (List.range ((n + 4095) / 4096)).map fun i => ⟨3, off + 4096 * i, []⟩

/-- The offset in the array of an address parameter. -/
def parOffset (par : Bytes) : Nat := leNat (par.take 4) - flashBase

/-- The flash commands of a job, in order. -/
def Job.pieces (j : Job) : List Piece :=
  match j.opcode with
  | 0x0602 => if j.arg = 0 then cutPieces 1 32 257 (parOffset j.par) j.data else cutPieces 2 2048 4 (parOffset j.par) j.data
  | 0x0603 => [⟨3 + j.arg, parOffset j.par, []⟩]
  | 0x0107 => erasePieces j.arg j.data.length ++ cutPieces 1 32 257 j.arg j.data
  | 0x0108 => [⟨3, j.arg * 4096, []⟩]
  | _ => j.own

/-- Bytes as words, the last one filled up with zeros. -/
def wordsOf : Nat → Bytes → List Word
  | 0, _ => []
  | n + 1, b => BitVec.ofNat 32 (leNat (b.take 4)) :: wordsOf n (b.drop 4)

def State.setJob (s : State) (id : Nat) (j : Job) : State := s.onHcp fun h => { h with jobs := Tab.put h.jobs id j }

/-- Hand the next flash command of a job to FLC, when its queue has room (R423). -/
def State.jobFeed (id : Nat) (s : State) : State :=
  match Tab.find s.hcp.jobs id with
  | none => s
  | some j => if j.busy || s.flc.queue.length ≥ 8 then s
    else match j.pieces[j.step]? with
      | none => s
      | some p =>
        let (t, s1) := s.flcTag
        let n := (p.data.length + 3) / 4
        let c : FlcCmd := { tag := t, op := p.op, nwords := n, offset := p.off, data := wordsOf n p.data, src := 0x21000000, req := .job id }
        (s1.onFlc fun f => { f with queue := f.queue ++ [c] }).setJob id { j with busy := true }

/-- The HCP status of a flash result (R427). -/
def flashStatus (code : Nat) : Status :=
  match code with
  | 0 => .ok | 5 | 8 => .badParam | 6 => .busy | _ => .flashError

/-- The Supervisor's own milestone of one action for a job, committed at once (R226, R276). -/
def State.jobMile (s : State) (id : Nat) (w0 w1 : Word) (data : Bytes) : State :=
  match s.msuOpenFor 0 0 none with
  | none => s.complete id .noSpace
  | some (k, s1) =>
    let m : Milestone := { jobs := [id] }
    let a : Action := { w0 := w0 + BitVec.ofNat 32 (k * 65536), w1, w2 := 0, w3 := 0, claim := s.msu.nextClaim, data }
    let (r, s2) := (s1.setMile k m).addLast 0 k a
    if r.err = 0 then s2.mileRequest k else s2

/-- The directory that DIRECTORY_WRITE writes: the parameters over the valid copy, under the next sequence number (R119, R276). -/
def State.newDir (s : State) (par : Bytes) : BootDir :=
  let d := s.dirNow
  { d with sector := 1 - d.sector, seq := d.seq + 1, active := (par.getD 0 0).toNat, trial := par.getD 1 0 != 0, tries := (par.getD 2 0).toNat }

/-- A job whose flash commands have all ended well: DIRECTORY_WRITE goes on to its milestone (R276), a move of the Supervisor to that of its
reference (R436). -/
def State.jobFlashed (s : State) (id : Nat) (j : Job) : State :=
  if j.opcode = 0x10000 then s.jobMile id 0x80000000#32 (BitVec.ofNat 32 (flashBase + j.arg)) j.data
  else if j.opcode = 0x0108 then s.jobMile id 0x80000000#32 (BitVec.ofNat 32 (flashBase + j.arg * 4096)) j.data else s.complete id .ok

/-- A flash command of a job has ended (R427): a failure ends the job. -/
def State.jobPiece (e : Nat × Nat) (s : State) : State :=
  match Tab.find s.hcp.jobs e.1 with
  | none => s
  | some j =>
    if e.2 ≠ 0 then s.complete e.1 (flashStatus e.2)
    else
      let j1 := { j with step := j.step + 1, busy := false }
      if j1.step < j.pieces.length then s.setJob e.1 j1 else (s.setJob e.1 j1).jobFlashed e.1 j1

/-! ## Results of transmissions (R218) -/

/-- The airtime start of a result as HCP returns it: NT_SEC and NT_TICK. -/
def ntBytes (t : Nat) : Bytes := leBytes 4 (t / ticksPerSec % 4294967296) ++ leBytes 4 (t % ticksPerSec)

/-- One result reaches its requester. -/
def State.txDeliver (d : TxDone) (s : State) : State :=
  let s1 := match d.entry.ack with
    | some a => s.ackResult a (d.code == 0)
    | none => s
  match d.entry.use with
  | .cl0 => s1
  | .job id => s1.complete id (s.txStatus d.code d.entry.port) (ntBytes d.airStart)
  | .milestone k _ => s1.mileTxResult k d.entry d.code
  | .downlink job mode => s1.downlinkResult job mode d.code
  | .page job => s1.pageResult job d.code
  | .sched q => s1.radioResult q d.code

/-! ## Reads and writes of memory by HCP (R150, R423, R427, R454) -/

/-- FLASH_READ of an address in the window, once no pulse is in its way. -/
def State.flashReadNow (s : State) (h : Hdr) (a n : Nat) : State :=
  match s.readSpan (a - flashBase) n with
  | (.data c, s1) => s1.reply h 0x0601 .ok [BitVec.ofNat 8 c] (s1.bytes a n)
  | (.uncorrectable, s1) => s1.reply h 0x0601 .eccUncorrectable
  | (_, s1) => s1.reply h 0x0601 .flashError

/-- Read n words with the rights of CL0; an error response or an uncorrectable word ends it with its status (R30, R150, R153). -/
def State.readWords (s : State) : Nat → Nat → (Status ⊕ Bytes) × State
  | _, 0 => (.inr [], s)
  | a, n + 1 => match s.busRead 0 a 4 with
    | (.ok, w, s1) => match s1.readWords (a + 4) n with
      | (.inr b, s2) => (.inr (leBytes 4 w.toNat ++ b), s2)
      | (.inl st, s2) => (.inl st, s2)
    | (.ecc, _, s1) => (.inl .eccUncorrectable, s1)
    | (_, _, s1) => (.inl .badParam, s1)

/-- REG_READ, once no pulse is in its way. -/
def State.regReadNow (s : State) (h : Hdr) (a n : Nat) : State :=
  match s.readWords a n with
  | (.inr b, s1) => s1.reply h 0x0904 .ok [] b
  | (.inl st, s1) => s1.reply h 0x0904 st

/-- Write words with the rights of CL0: an error response or an uncorrectable unit ends it with its status; words before it
stand. -/
def State.writeWords (s : State) : Nat → Nat → Bytes → Option Status × State
  | _, 0, _ => (none, s)
  | a, n + 1, d => match s.busWrite 0 a (d.take 4) with
    | (.ok, s1) => s1.writeWords (a + 4) n (d.drop 4)
    | (.ecc, s1) => (some .eccUncorrectable, s1)
    | (_, s1) => (some .badParam, s1)

/-- REG_WRITE, once nothing is in its way. -/
def State.regWriteNow (s : State) (h : Hdr) (a n : Nat) (d : Bytes) : State :=
  match s.writeWords a n d with
  | (none, s1) => s1.reply h 0x0905 .ok
  | (some st, s1) => s1.reply h 0x0905 st

/-- Whether an access by HCP waits for a pulse of the flash to end (R423) or for the fill of the DRAM to pass (R454). -/
def State.hcpWaits (s : State) (e : Hdr × Nat × Nat × Nat × Bytes) : Bool :=
  let (_, op, a, n, _) := e
  if op = 0x0601 then s.spanWaits (a - flashBase) n
  else (List.range n).any fun i =>
    let b := a + 4 * i
    (op == 0x0904 && inFlash b && s.spanWaits (b - flashBase) 4) || (s.inDram b && s.dramReady && !s.filledFrom (b / 8 * 8))

def State.accessNow (e : Hdr × Nat × Nat × Nat × Bytes) (s : State) : State :=
  let (h, op, a, n, d) := e
  if op = 0x0601 then s.flashReadNow h a n else if op = 0x0904 then s.regReadNow h a n else s.regWriteNow h a n d

/-- An access by HCP: at once, or once nothing is in its way any more. -/
def State.hcpAccess (s : State) (e : Hdr × Nat × Nat × Nat × Bytes) : State :=
  if s.hcpWaits e then s.onHcp fun x => { x with reads := x.reads ++ [e] } else State.accessNow e s

/-- Accesses that nothing is in the way of any more. -/
def State.readsDue (s : State) : State :=
  foldOver State.accessNow (s.hcp.reads.filter fun e => !s.hcpWaits e) (s.onHcp fun x => { x with reads := x.reads.filter s.hcpWaits })

/-- Every result that waits is delivered once. -/
def State.settleOnce (s : State) : State :=
  let s1 := foldOver State.txDeliver s.txp.done (s.onTxp fun t => { t with done := [] })
  let s2 := foldOver (fun (e : Nat × Nat) (t : State) => t.flashRecDone e.1 e.2) s1.flc.msuDone (s1.onFlc fun f => { f with msuDone := [] })
  foldOver State.jobPiece s2.flc.jobDone (s2.onFlc fun f => { f with jobDone := [] })

/-- Whether a result waits. -/
def State.waits (s : State) : Bool := !(s.txp.done.isEmpty && s.flc.msuDone.isEmpty && s.flc.jobDone.isEmpty)

/-- Deliver results until none waits; a delivery can withdraw further transmissions. -/
def State.settle : Nat → State → State
  | 0, s => s
  | n + 1, s => if s.waits then State.settle n s.settleOnce else s

/-! ## The host exchange and Roadside -/

/-- The host exchange ends when the replies have been read, no command of HPORT is in progress and HOST_IRQ is high (R49,
R156). -/
def State.hostRefresh (s : State) : State :=
  if s.isExch .host && (s.tp .hport).queue.isEmpty && !s.hcp.readyIrq && !s.hcp.csnLow && !s.hcp.jobs.any (fun j => j.2.hdr.tp == .hport && !j.2.isOwn) &&
      !s.hcp.rtc.any (fun o => o.hdr.tp == .hport) && !s.hcp.reads.any (fun e => e.1.tp == .hport) then
    s.exchClose .host
  else s

/-- The relay exchange ends when a frame has been journalled and no acknowledgement waits for the air (R49). -/
def State.relayRefresh (s : State) : State :=
  let acks := s.txp.timed.any (fun e => e.ack.isSome) || s.txp.exc.any fun x => match x.2.entry with
    | some e => e.ack.isSome
    | none => false
  if s.isExch .wurx && s.pwr.wurxFrame && !acks then s.exchClose .wurx else s

/-- HOST_IRQ is asserted (R140). -/
def State.hostIrq (s : State) : Bool := !(s.tp .hport).queue.isEmpty || s.hcp.readyIrq

/-- A Roadside entry that is due takes place (R486); a ROM responder that takes over from the Supervisor says so (R147). One out of DOZE
powers the system domain, and the responder starts (R112). -/
def State.roadDue (s : State) : State :=
  match s.roadPend with
  | none => s
  | some c =>
    let t := s.enterRoadside c
    if t.flag F.SYSCTL_BOOTSTAT_ROM_RESP && !s.inRoadside then (if s.pwr.up then t else t.firstInstruction).notifyReset else t

/-- The end of a command's step. -/
def State.done (s : State) : State :=
  let s1 := (State.settle 128 s.readsDue).offerAgain
  let s2 := (foldOver State.jobFeed (Tab.keys s1.hcp.jobs) s1).msuReady.lmRefresh
  let s3 := if s2.sysOn && s2.pwr.up then s2.applyFloor else s2
  foldOver (fun (p : Tp) (t : State) => t.notifyLost p) [.lp0, .lp1] s3.forwardRecords.roadDue.hostRefresh.relayRefresh

end Sys2Proof.Machine
end

