-- ==== Sys2Proof/Machine/Flags.lean ====
section
/-! DEFINITION. The arithmetic of the Merzetil cores on values: integer operations, compares, fixed point with its rounding, range
check and flags, and the accumulators (R388 to R395). -/

namespace Sys2Proof.Machine

/-- The operations that compute a register from two values (OP 0x00 and 0x01, their immediate forms, and the short forms). -/
inductive AluOp where
  | add | sub | and | or | xor | shl | shru | shrs | mul | mulhi | mulhiu | min | max
  | ceq | cne | clt | cltu | cge | cgeu
  | addq15 | subq15 | mulq15 | absq15 | negq15 | shlq15
  | addq31 | subq31 | mulq31 | absq31 | negq31 | shlq31
  deriving DecidableEq, Repr

/-- The operations on accumulators (OP 0x02). -/
inductive AccOp where
  | mac15 | msu15 | mac31 | msu31 | mpy15 | mpy31 | aclr | aset31 | aext15 | aext31
  | amvlo | amvhi | amvg | amvtlo | amvthi | amvtg | asra | asla
  deriving DecidableEq, Repr

/-! ## Rounding and range (R389 to R391) -/

/-- The exact value v / 2^k rounded to an integer under FXMODE.RND (R390); k is above zero. -/
def roundFx (rnd k : Nat) (v : Int) : Int :=
  let q := v / (2 ^ k : Nat)
  let r := (v % (2 ^ k : Nat)).toNat
  match rnd with
  | 1 => if v ≥ 0 then (v + (2 ^ (k - 1) : Nat)) / (2 ^ k : Nat) else -((-v + (2 ^ (k - 1) : Nat)) / (2 ^ k : Nat))
  | 2 => if r > 2 ^ (k - 1) ∨ (r = 2 ^ (k - 1) ∧ q % 2 = 1) then q + 1 else q
  | _ => q

/-- The greatest number of an n-bit format. -/
def fxTop (n : Nat) : Int := (2 ^ (n - 1) : Nat) - 1

/-- Whether a value lies in the range of an n-bit format. -/
def fxFits (n : Nat) (v : Int) : Bool := -(fxTop n + 1) ≤ v && v ≤ fxTop n

/-- A result in an n-bit format, sign-extended, with its overflow flag (R389, R391): saturated with SAT at 1, else its low bits. -/
def fxResult (n : Nat) (sat : Bool) (v : Int) : Word × Bool :=
  if fxFits n v then (BitVec.ofInt 32 v, false)
  else if sat then (BitVec.ofInt 32 (if v < 0 then -(fxTop n + 1) else fxTop n), true)
  else (((BitVec.ofInt n v).signExtend 32), true)

/-- The fraction that a Q15 operand's low half names (R389). -/
def q15 (w : Word) : Int := (w.setWidth 16).toInt
def q31 (w : Word) : Int := w.toInt

def fxRnd (mode : Word) : Nat := mode.toNat / 2 % 4
def fxSat (mode : Word) : Bool := mode.toNat % 2 == 1

/-! ## Register results -/

def flagWord (b : Bool) : Word := if b then 1 else 0

/-- The result of an operation on two values under FXMODE, and whether it sets FXSTAT.OV (R393 to R395). -/
def aluResult (f : AluOp) (mode x y : Word) : Word × Bool :=
  match f with
  | .add => (x + y, false)
  | .sub => (x - y, false)
  | .and => (x &&& y, false)
  | .or => (x ||| y, false)
  | .xor => (x ^^^ y, false)
  | .shl => (x <<< (y.toNat % 32), false)
  | .shru => (x >>> (y.toNat % 32), false)
  | .shrs => (x.sshiftRight (y.toNat % 32), false)
  | .mul => (x * y, false)
  | .mulhi => (BitVec.ofInt 32 (x.toInt * y.toInt / (2 ^ 32 : Nat)), false)
  | .mulhiu => (BitVec.ofNat 32 (x.toNat * y.toNat / 2 ^ 32), false)
  | .min => (if x.toInt ≤ y.toInt then x else y, false)
  | .max => (if x.toInt ≤ y.toInt then y else x, false)
  | .ceq => (flagWord (x == y), false)
  | .cne => (flagWord (x != y), false)
  | .clt => (flagWord (decide (x.toInt < y.toInt)), false)
  | .cltu => (flagWord (decide (x.toNat < y.toNat)), false)
  | .cge => (flagWord (decide (x.toInt ≥ y.toInt)), false)
  | .cgeu => (flagWord (decide (x.toNat ≥ y.toNat)), false)
  | .addq15 => fxResult 16 (fxSat mode) (q15 x + q15 y)
  | .subq15 => fxResult 16 (fxSat mode) (q15 x - q15 y)
  | .mulq15 => fxResult 16 (fxSat mode) (roundFx (fxRnd mode) 15 (q15 x * q15 y))
  | .absq15 => fxResult 16 (fxSat mode) (q15 x).natAbs
  | .negq15 => fxResult 16 (fxSat mode) (-(q15 x))
  | .shlq15 => fxResult 16 (fxSat mode) (q15 x * (2 ^ (y.toNat % 16) : Nat))
  | .addq31 => fxResult 32 (fxSat mode) (q31 x + q31 y)
  | .subq31 => fxResult 32 (fxSat mode) (q31 x - q31 y)
  | .mulq31 => fxResult 32 (fxSat mode) (roundFx (fxRnd mode) 31 (q31 x * q31 y))
  | .absq31 => fxResult 32 (fxSat mode) (q31 x).natAbs
  | .negq31 => fxResult 32 (fxSat mode) (-(q31 x))
  | .shlq31 => fxResult 32 (fxSat mode) (q31 x * (2 ^ (y.toNat % 32) : Nat))

/-! ## Accumulators (R388, R392, R393) -/

/-- What an accumulator operation writes: rd with its OV flag, or the accumulator with its AOV flag. -/
inductive AccOut where
  | reg (v : Word) (ov : Bool)
  | acc (v : Accu) (aov : Bool)
  deriving DecidableEq, Repr

/-- A 72-bit result, exact modulo 2^72; AOV when it wraps (R388). -/
def accWrap (v : Int) : AccOut := .acc (BitVec.ofInt 72 v) (!fxFits 72 v)

/-- An accumulator with n bits from lo upwards replaced. -/
def accPut (a : Accu) (lo n v : Nat) : Accu :=
  let old := a.toNat / 2 ^ lo % 2 ^ n
  BitVec.ofNat 72 (a.toNat - old * 2 ^ lo + v % 2 ^ n * 2 ^ lo)

/-- An accumulator operation on the accumulator a, the sources x and y and the shift count n (R392 to R394). -/
def accResult (f : AccOp) (mode : Word) (a : Accu) (x y : Word) (n : Nat) : AccOut :=
  match f with
  | .mac15 => accWrap (a.toInt + q15 x * q15 y * (2 ^ 33 : Nat))
  | .msu15 => accWrap (a.toInt - q15 x * q15 y * (2 ^ 33 : Nat))
  | .mac31 => accWrap (a.toInt + q31 x * q31 y * 2)
  | .msu31 => accWrap (a.toInt - q31 x * q31 y * 2)
  | .mpy15 => accWrap (q15 x * q15 y * (2 ^ 33 : Nat))
  | .mpy31 => accWrap (q31 x * q31 y * 2)
  | .aclr => .acc 0 false
  | .aset31 => accWrap (q31 x * (2 ^ 32 : Nat))
  | .aext15 => let r := fxResult 16 (fxSat mode) (roundFx (fxRnd mode) 48 a.toInt)
    .reg r.1 r.2
  | .aext31 => let r := fxResult 32 (fxSat mode) (roundFx (fxRnd mode) 32 a.toInt)
    .reg r.1 r.2
  | .amvlo => .reg (a.setWidth 32) false
  | .amvhi => .reg ((a >>> 32).setWidth 32) false
  | .amvg => .reg (((a >>> 64).setWidth 8).signExtend 32) false
  | .amvtlo => .acc (accPut a 0 32 x.toNat) false
  | .amvthi => .acc (accPut a 32 32 x.toNat) false
  | .amvtg => .acc (accPut a 64 8 x.toNat) false
  | .asra => .acc (a.sshiftRight n) false
  | .asla => accWrap (a.toInt * (2 ^ n : Nat))

end Sys2Proof.Machine
end

