-- ==== Sys2Proof/Machine/Operands.lean ====
section
/-! DEFINITION. The operand forms of the Merzetil instruction set: long operations with their encoding and decoding, and short
operations in their slots (R384 to R387, R394, R395). -/

namespace Sys2Proof.Machine

/-- The loads and the stores by width; S sign-extends. -/
inductive LoadOp where
  | ld8s | ld8u | ld16s | ld16u | ld32
  deriving DecidableEq, Repr

inductive StoreOp where
  | st8 | st16 | st32
  deriving DecidableEq, Repr

/-- The operations of OP 0x2A. -/
inductive SysOp where
  | trap | hret | waiti | drain | icinv | brk
  deriving DecidableEq, Repr

def LoadOp.size : LoadOp → Nat
  | .ld8s => 1 | .ld8u => 1 | .ld16s => 2 | .ld16u => 2 | .ld32 => 4

def StoreOp.size : StoreOp → Nat
  | .st8 => 1 | .st16 => 2 | .st32 => 4

/-- What a load writes into rd from the bytes it has read. -/
def LoadOp.extend (f : LoadOp) (v : Word) : Word :=
  match f with
  | .ld8s => (v.setWidth 8).signExtend 32
  | .ld8u => (v.setWidth 8).setWidth 32
  | .ld16s => (v.setWidth 16).signExtend 32
  | .ld16u => (v.setWidth 16).setWidth 32
  | .ld32 => v

/-- A long operation with every field of its form (R385, R394). -/
inductive LOp where
  | rr (f : AluOp) (rd rs1 rs2 : RegF)
  | ri (f : AluOp) (rd rs1 : RegF) (imm : BitVec 15)
  | ac (f : AccOp) (rd rs1 rs2 : RegF)
  | ldhi (rd : RegF) (imm : BitVec 20)
  | pcrel (rd : RegF) (imm : BitVec 20)
  | load (f : LoadOp) (rd rs1 : RegF) (imm : BitVec 15)
  | store (f : StoreOp) (rs2 rs1 : RegF) (imm : BitVec 15)
  | swpm (rd rs1 rs2 : RegF)
  | addm (rd rs1 rs2 : RegF)
  | bz (rs : RegF) (imm : BitVec 20)
  | bnz (rs : RegF) (imm : BitVec 20)
  | call (imm : BitVec 25)
  | callr (rd rs1 : RegF) (imm : BitVec 15)
  | jmp (imm : BitVec 25)
  | crd (rd rs1 : RegF) (mid : BitVec 3) (cr : BitVec 12)
  | cwr (rd rs1 : RegF) (mid : BitVec 3) (cr : BitVec 12)
  | sys (f : SysOp) (rd rs1 rs2 : RegF)
  | cx (rd rs1 rs2 cxn arg : RegF)
  deriving DecidableEq, Repr

/-! ## Encoding -/

/-- OP and FN of the register operations of OP 0x00 and 0x01 (R394). -/
def AluOp.code : AluOp → Nat × Nat
  | .add => (0, 0) | .sub => (0, 1) | .and => (0, 2) | .or => (0, 3) | .xor => (0, 4) | .shl => (0, 5) | .shru => (0, 6)
  | .shrs => (0, 7) | .mul => (0, 8) | .mulhi => (0, 9) | .mulhiu => (0, 10) | .min => (0, 11) | .max => (0, 12)
  | .ceq => (0, 16) | .cne => (0, 17) | .clt => (0, 18) | .cltu => (0, 19) | .cge => (0, 20) | .cgeu => (0, 21)
  | .addq15 => (1, 0) | .subq15 => (1, 1) | .mulq15 => (1, 2) | .absq15 => (1, 3) | .negq15 => (1, 4) | .shlq15 => (1, 5)
  | .addq31 => (1, 8) | .subq31 => (1, 9) | .mulq31 => (1, 10) | .absq31 => (1, 11) | .negq31 => (1, 12) | .shlq31 => (1, 13)

/-- OP of the immediate operations (R394); none for an operation without an immediate form. -/
def AluOp.immCode : AluOp → Option Nat
  | .add => some 0x04 | .and => some 0x05 | .or => some 0x06 | .xor => some 0x07 | .shl => some 0x08 | .shru => some 0x09
  | .shrs => some 0x0A | .ceq => some 0x0B | .cne => some 0x0C | .clt => some 0x0D | .cltu => some 0x0E | .cge => some 0x0F
  | .cgeu => some 0x10 | _ => none

/-- FN of the accumulator operations. -/
def AccOp.code : AccOp → Nat
  | .mac15 => 0 | .msu15 => 1 | .mac31 => 2 | .msu31 => 3 | .mpy15 => 4 | .mpy31 => 5 | .aclr => 6 | .aset31 => 7 | .aext15 => 8
  | .aext31 => 9 | .amvlo => 10 | .amvhi => 11 | .amvg => 12 | .amvtlo => 13 | .amvthi => 14 | .amvtg => 15 | .asra => 16 | .asla => 17

def LoadOp.code : LoadOp → Nat
  | .ld8s => 0x14 | .ld8u => 0x15 | .ld16s => 0x16 | .ld16u => 0x17 | .ld32 => 0x18

def StoreOp.code : StoreOp → Nat
  | .st8 => 0x1C | .st16 => 0x1D | .st32 => 0x1E

def SysOp.code : SysOp → Nat
  | .trap => 0 | .hret => 1 | .waiti => 2 | .drain => 3 | .icinv => 4 | .brk => 5

/-- The word of the three-register form. -/
def encRR (op : Nat) (rd rs1 rs2 : RegF) (fn : Nat) : Word :=
  BitVec.ofNat 32 (op * 0x2000000 + rd.toNat * 0x100000 + rs1.toNat * 0x8000 + rs2.toNat * 0x400 + fn)

/-- The word of the forms with a 15-bit immediate. -/
def encRI (op : Nat) (rd rs1 : RegF) (imm : BitVec 15) : Word :=
  BitVec.ofNat 32 (op * 0x2000000 + rd.toNat * 0x100000 + rs1.toNat * 0x8000 + imm.toNat)

/-- The word of the forms with a 20-bit immediate. -/
def encWI (op : Nat) (rd : RegF) (imm : BitVec 20) : Word := BitVec.ofNat 32 (op * 0x2000000 + rd.toNat * 0x100000 + imm.toNat)

/-- The word of the forms with a 25-bit immediate. -/
def encLJ (op : Nat) (imm : BitVec 25) : Word := BitVec.ofNat 32 (op * 0x2000000 + imm.toNat)

/-- The word of a control register access. -/
def encCR (op : Nat) (rd rs1 : RegF) (mid : BitVec 3) (cr : BitVec 12) : Word :=
  BitVec.ofNat 32 (op * 0x2000000 + rd.toNat * 0x100000 + rs1.toNat * 0x8000 + mid.toNat * 0x1000 + cr.toNat)

/-- The word of a long operation (R385, R394). -/
def LOp.encode : LOp → Word
  | .rr f rd a b => encRR f.code.1 rd a b f.code.2
  | .ri f rd a imm => encRI (f.immCode.getD 0) rd a imm
  | .ac f rd a b => encRR 0x02 rd a b f.code
  | .ldhi rd imm => encWI 0x11 rd imm
  | .pcrel rd imm => encWI 0x12 rd imm
  | .load f rd a imm => encRI f.code rd a imm
  | .store f d a imm => encRI f.code d a imm
  | .swpm rd a b => encRR 0x1F rd a b 0
  | .addm rd a b => encRR 0x1F rd a b 1
  | .bz r imm => encWI 0x20 r imm
  | .bnz r imm => encWI 0x21 r imm
  | .call imm => encLJ 0x22 imm
  | .callr rd a imm => encRI 0x23 rd a imm
  | .jmp imm => encLJ 0x24 imm
  | .crd rd a m cr => encCR 0x28 rd a m cr
  | .cwr rd a m cr => encCR 0x29 rd a m cr
  | .sys f rd a b => encRR 0x2A rd a b f.code
  | .cx rd a b n g => encRR 0x30 rd a b (n.toNat * 32 + g.toNat)

/-! ## Decoding, for micro-operations -/

/-- The operation of a code in a table of operations. -/
def byCode {α : Type} (l : List α) (code : α → Nat) (n : Nat) : Option α := l.find? fun a => code a == n

def allAlu : List AluOp :=
  [.add, .sub, .and, .or, .xor, .shl, .shru, .shrs, .mul, .mulhi, .mulhiu, .min, .max, .ceq, .cne, .clt, .cltu, .cge, .cgeu,
   .addq15, .subq15, .mulq15, .absq15, .negq15, .shlq15, .addq31, .subq31, .mulq31, .absq31, .negq31, .shlq31]

def allAcc : List AccOp :=
  [.mac15, .msu15, .mac31, .msu31, .mpy15, .mpy31, .aclr, .aset31, .aext15, .aext31, .amvlo, .amvhi, .amvg, .amvtlo, .amvthi, .amvtg,
   .asra, .asla]

def allLoad : List LoadOp := [.ld8s, .ld8u, .ld16s, .ld16u, .ld32]
def allStore : List StoreOp := [.st8, .st16, .st32]
def allSys : List SysOp := [.trap, .hret, .waiti, .drain, .icinv, .brk]

/-- The long operation that a word with bit 31 at 0 spells; none for an OP or FN that R394 does not list. -/
def decodeLong (w : Word) : Option LOp :=
  let v := w.toNat
  let op := bits v 30 25
  let fn := bits v 9 0
  let rd : RegF := BitVec.ofNat 5 (bits v 24 20)
  let a : RegF := BitVec.ofNat 5 (bits v 19 15)
  let b : RegF := BitVec.ofNat 5 (bits v 14 10)
  let i15 := BitVec.ofNat 15 v
  let i20 := BitVec.ofNat 20 v
  let i25 := BitVec.ofNat 25 v
  if op ≤ 1 then (allAlu.find? fun f => f.code == (op, fn)).map fun f => .rr f rd a b
  else if op = 2 then (byCode allAcc AccOp.code fn).map fun f => .ac f rd a b
  else if op ≤ 0x10 then (allAlu.find? fun f => f.immCode == some op).map fun f => .ri f rd a i15
  else match op with
    | 0x11 => some (.ldhi rd i20)
    | 0x12 => some (.pcrel rd i20)
    | 0x1F => if fn = 0 then some (.swpm rd a b) else if fn = 1 then some (.addm rd a b) else none
    | 0x20 => some (.bz rd i20)
    | 0x21 => some (.bnz rd i20)
    | 0x22 => some (.call i25)
    | 0x23 => some (.callr rd a i15)
    | 0x24 => some (.jmp i25)
    | 0x28 => some (.crd rd a (BitVec.ofNat 3 (bits v 14 12)) (BitVec.ofNat 12 v))
    | 0x29 => some (.cwr rd a (BitVec.ofNat 3 (bits v 14 12)) (BitVec.ofNat 12 v))
    | 0x2A => if fn % 1024 ≤ 5 then (byCode allSys SysOp.code fn).map fun f => .sys f rd a b else none
    | 0x30 => some (.cx rd a b (BitVec.ofNat 5 (bits v 9 5)) (BitVec.ofNat 5 v))
    | _ => match byCode allLoad LoadOp.code op with
      | some f => some (.load f rd a i15)
      | none => (byCode allStore StoreOp.code op).map fun f => .store f rd a i15

/-! ## Fields that must be 0, and the registers used -/

/-- Control register numbers that exist, and those that take a CWR (the register tables of chapter 15). -/
def crDefined (n : Nat) : Bool := n ≤ 9 || (0x10 ≤ n && n ≤ 0x13) || (0x20 ≤ n && n ≤ 0x3F)
def crWritable (n : Nat) : Bool := crDefined n && n != 0

/-- Whether an accumulator field names one of a0 to a3 (R388). -/
def accField (f : RegF) : Bool := f.toNat < 4

/-- Whether every field of a long operation has a permitted value (R385, R388, R394, R399). -/
def LOp.fieldsOk : LOp → Bool
  | .rr f _ _ b => match f with
    | .absq15 | .negq15 | .absq31 | .negq31 => b == 0
    | _ => true
  | .ri f _ _ imm => match f with
    | .shl | .shru | .shrs => imm.toNat < 32
    | _ => true
  | .ac f rd a b => match f with
    | .mac15 | .msu15 | .mac31 | .msu31 | .mpy15 | .mpy31 => accField rd
    | .aclr => accField rd && a == 0 && b == 0
    | .aset31 | .amvtlo | .amvthi | .amvtg => accField rd && b == 0
    | .aext15 | .aext31 | .amvlo | .amvhi | .amvg => accField a && b == 0
    | .asra | .asla => accField rd && a == 0
  | .crd _ a m cr => a == 0 && m == 0 && crDefined cr.toNat
  | .cwr rd _ m cr => rd == 0 && m == 0 && crWritable cr.toNat
  | .sys f rd a b => rd == 0 && (f == .trap || (a == 0 && b == 0))
  | _ => true

/-- The second value of an immediate operation: logical immediates zero-extended, shifts their count, others sign-extended
(R394). -/
def immValue (f : AluOp) (imm : BitVec 15) : Word :=
  match f with
  | .and | .or | .xor | .shl | .shru | .shrs => imm.setWidth 32
  | _ => imm.signExtend 32

/-- The general registers that an operation reads, and the one it writes, by their fields. -/
def LOp.sources : LOp → List RegF
  | .rr _ _ a b => [a, b]
  | .ri _ _ a _ => [a]
  | .ac f _ a b => match f with
    | .aset31 | .amvtlo | .amvthi | .amvtg => [a]
    | .mac15 | .msu15 | .mac31 | .msu31 | .mpy15 | .mpy31 => [a, b]
    | _ => []
  | .ldhi rd _ => [rd]
  | .load _ _ a _ => [a]
  | .store _ d a _ => [d, a]
  | .swpm _ a b => [a, b]
  | .addm _ a b => [a, b]
  | .bz r _ => [r]
  | .bnz r _ => [r]
  | _ => []

def LOp.dest : LOp → Option RegF
  | .rr _ rd _ _ => some rd
  | .ri _ rd _ _ => some rd
  | .ac f rd _ _ => match f with
    | .aext15 | .aext31 | .amvlo | .amvhi | .amvg => some rd
    | _ => none
  | .ldhi rd _ => some rd
  | .load _ rd _ _ => some rd
  | .swpm rd _ _ => some rd
  | .addm rd _ _ => some rd
  | _ => none

/-- The accumulator that an operation names: its destination field, or rs1 of an extract or move out. -/
def accIndex (f : AccOp) (rd a : RegF) : Nat :=
  match f with
  | .aext15 | .aext31 | .amvlo | .amvhi | .amvg => a.toNat % 4
  | _ => rd.toNat % 4

/-! ## Short operations (R386, R387, R395) -/

/-- The short operations. -/
inductive SOp where
  | nop | mov | add | sub | and | or | xor | addi | movi | shli | shrui | shrsi | clt | ceq | addq15 | subq15 | mulq15 | addq31
  | mac15 (k : BitVec 2) | mac31 (k : BitVec 2) | ld32 | st32
  deriving DecidableEq, Repr

/-- A short operation in a slot, with its two fields. -/
structure Slot where
  op : SOp
  rd : RegF
  rs : RegF
  deriving DecidableEq, Repr

def SOp.code : SOp → Nat
  | .nop => 0x00 | .mov => 0x01 | .add => 0x02 | .sub => 0x03 | .and => 0x04 | .or => 0x05 | .xor => 0x06 | .addi => 0x07
  | .movi => 0x08 | .shli => 0x09 | .shrui => 0x0A | .shrsi => 0x0B | .clt => 0x0C | .ceq => 0x0D | .addq15 => 0x0E | .subq15 => 0x0F
  | .mulq15 => 0x10 | .addq31 => 0x11 | .mac15 k => 0x12 + k.toNat | .mac31 k => 0x16 + k.toNat | .ld32 => 0x1A | .st32 => 0x1B

/-- The 15 bits of a slot. -/
def Slot.encode (x : Slot) : BitVec 15 := BitVec.ofNat 15 (x.op.code * 1024 + x.rd.toNat * 32 + x.rs.toNat)

/-- The word of a pair (R384). -/
def encPair (a : Slot) (bit15 : Bool) (b : BitVec 15) : Word :=
  BitVec.ofNat 32 (0x80000000 + a.encode.toNat * 65536 + b2n bit15 * 32768 + b.toNat)

/-- The short operation of a SOP value; none from 0x1C upwards. -/
def sopOf (n : Nat) : Option SOp :=
  if 0x12 ≤ n ∧ n ≤ 0x15 then some (.mac15 (BitVec.ofNat 2 (n - 0x12)))
  else if 0x16 ≤ n ∧ n ≤ 0x19 then some (.mac31 (BitVec.ofNat 2 (n - 0x16)))
  else byCode [.nop, .mov, .add, .sub, .and, .or, .xor, .addi, .movi, .shli, .shrui, .shrsi, .clt, .ceq, .addq15, .subq15, .mulq15,
    .addq31, .ld32, .st32] SOp.code n

/-- The slot that 15 bits spell. -/
def decodeSlot (b : BitVec 15) : Option Slot :=
  (sopOf (b.toNat / 1024)).map fun op => ⟨op, BitVec.ofNat 5 (b.toNat / 32 % 32), BitVec.ofNat 5 (b.toNat % 32)⟩

/-- Whether a NOP's fields are 0 (R395). -/
def Slot.fieldsOk (x : Slot) : Bool := x.op != .nop || (x.rd == 0 && x.rs == 0)

/-- Whether a slot accesses memory. -/
def Slot.isMem (x : Slot) : Bool := x.op == .ld32 || x.op == .st32

/-- The destination of a slot: a general register, or 32 and the accumulator's number; none for g0, NOP and ST32 (R387). -/
def Slot.dest (x : Slot) : Option Nat :=
  match x.op with
  | .nop => none
  | .st32 => none
  | .mac15 k => some (32 + k.toNat)
  | .mac31 k => some (32 + k.toNat)
  | _ => if x.rd = 0 then none else some x.rd.toNat

/-- The register operation that a short operation stands for, with its second value from the register rs or from the field. -/
def SOp.alu : SOp → Option AluOp
  | .add => some .add | .sub => some .sub | .and => some .and | .or => some .or | .xor => some .xor | .addi => some .add
  | .shli => some .shl | .shrui => some .shru | .shrsi => some .shrs | .clt => some .clt | .ceq => some .ceq
  | .addq15 => some .addq15 | .subq15 => some .subq15 | .mulq15 => some .mulq15 | .addq31 => some .addq31
  | _ => none

/-- Whether the low field of a short operation is an immediate. -/
def SOp.immediate : SOp → Bool
  | .addi | .movi | .shli | .shrui | .shrsi => true
  | _ => false

/-- Whether two slots may stand in one word (R387, R395). -/
def pairOk (a b : Slot) : Bool :=
  a.fieldsOk && b.fieldsOk && !b.isMem && (a.dest.isNone || a.dest != b.dest)

end Sys2Proof.Machine
end

