-- ==== Sys2Proof/Machine/CoreOps.lean ====
section
/-! DEFINITION. How a Merzetil core executes: fetching, register operations, memory accesses, control registers, custom opcodes,
paired words, and the end of an instruction (R378 to R408). -/

namespace Sys2Proof.Machine

/-! ## How an instruction ends -/

/-- The end of an instruction: it goes on at an address, waits at its own for a pulse of the flash (R423; log entry 219), raises an
exception with its FADDR, with RETA at the instruction or, for TRAP, at the next one, halts the core, meets a reset of the core that it
has itself brought about, or shows a difference between the cores of the pair. -/
inductive Ended where
  | next (s : State) (pc : Word)
  | waits (s : State)
  | fault (s : State) (x : Cause) (faddr : Word)
  | trapped (s : State) (code : Word)
  | halted (s : State)
  | gone (s : State)
  | differs (s : State)
  deriving DecidableEq, Repr

/-- The core's state after an instruction that stood at its pc. -/
def Ended.state (k : Nat) : Ended → State
  | .next s pc => s.setPc k pc
  | .waits s => s
  | .fault s x a => s.except k x (s.pcOf k) a
  | .trapped s code => s.except k .trap (s.pcOf k + 4) code
  | .halted s => s.halt k
  | .gone s => s
  | .differs s => s.s3 0x880 0

/-- The address of the next instruction in order. -/
def State.pcNext (s : State) (k : Nat) : Word := s.pcOf k + 4

/-! ## Fetching (R379, R380, R410, R419) -/

/-- The cache set of a line, and its key. -/
def icKey (k line : Nat) : Nat := k * 256 + line % 256

/-- The lines of a set with their ways, most recent first. -/
def State.icSet (s : State) (k line : Nat) : List (Nat × Nat) := Tab.getD s.core.icache (icKey k line) []

/-- The way that holds a line. -/
def State.icWay (s : State) (k line : Nat) : Option Nat := ((s.icSet k line).find? fun e => e.2 == line).map Prod.fst

/-- Whether a core's instruction cache holds a line. -/
def State.icHit (s : State) (k line : Nat) : Bool := (s.icWay k line).isSome

/-- Use a line: four ways, a free one first, else the least recently used replaced (R378). -/
def State.icTouch (s : State) (k line : Nat) : State :=
  let l := s.icSet k line
  let way := (s.icWay k line).getD ((leastBelow (fun w => !l.any fun e => e.1 == w) 4).getD ((l.getLast?.map Prod.fst).getD 0))
  s.onCore fun c => { c with icache := Tab.put c.icache (icKey k line) ((way, line) :: l.filter fun e => e.1 != way) }

/-- Invalidate the line at a position of a core's cache, 256 times its way and its set, and with it what was in error there (R380, R410,
R411). -/
def State.icDrop (s : State) (k pos : Nat) : State :=
  let key := k * 256 + pos % 256
  let kept := (Tab.getD s.core.icache key []).filter fun e => e.1 != pos / 256
  (s.onCore fun c => { c with icache := Tab.put c.icache key kept }).mendRam (.icache k pos)

/-- Whether a core's cache serves a line: a line that fails its memory code is invalidated, and is then fetched again (R380). -/
def State.icServe (s : State) (k line : Nat) : Bool × State :=
  match s.icWay k line with
  | none => (false, s)
  | some w =>
    let pos := w * 256 + line % 256
    if Tab.getD s.sram.errs (RamWord.icache k pos).key 0 = 0 then (true, s) else (false, s.icDrop k pos)

/-- The line that a core fetches from its cache has come to be in error, or not. -/
def State.icUpset (s : State) (k : Nat) (bad : Bool) : State :=
  let line := (s.pcOf k).toNat / 32
  match s.icWay k line with
  | some w => if bad then s.upsetRam (.icache k (w * 256 + line % 256)) 1 else s
  | none => s

/-- Invalidate a core's cache (ICINV). -/
def State.icFlush (s : State) (k : Nat) : State :=
  (s.onCore fun c => { c with icache := Tab.keep c.icache fun i _ => i / 256 != k }).onSram fun r =>
    { r with errs := Tab.keep r.errs fun i _ => !(i / 1073741824 == 4 && i % 1073741824 / 1024 == k) }

/-- Whether a core may fetch at an address (R379). -/
def State.fetchable (s : State) (k a : Nat) : Bool :=
  let cl := clusterOf k
  let own := 0x21000000 + cl * 0x80000
  inFlash a || (own ≤ a && a < own + 0x80000) || (cl == 0 && a < 0x10000) ||
    (0x20000000 ≤ a && a < 0x20400000 && (cl == 0 || s.core.regions.any fun g => g.cluster == cl && g.base ≤ a && a < g.base + g.len))

/-- A line fetched as the target of a taken branch enters the branch target cache of FLC, with the bits corrected (R419). -/
def State.btcEnter (s : State) (k a n : Nat) : State :=
  if s.core.jumped.contains k && s.flag F.FLC_CFG_BTC_EN && inFlash a then
    let l := (a - flashBase) / 32
    s.onFlc fun f => { f with btc := ((l, n) :: f.btc.filter (fun e => e.1 != l)).take 64 }
  else s

/-- A fetch that the cache does not serve. -/
def State.fetchRead (s : State) (k a : Nat) : Resp × State :=
  if inFlash a then
    if s.flRegion (a - flashBase) = 2 then (.error, s.noDecode k (BitVec.ofNat 32 a))
    else match s.readLine (clusterOf k == 0) (a - flashBase) with
      | (.data n, s1) => (.ok, s1.btcEnter k a n)
      | (.uncorrectable, s1) => (.ecc, s1)
      | (.errorResponse, s1) => (.error, s1)
      | (.waits, s1) => (.waits, s1)
  else let (r, _, s1) := s.memRead k a 4
    (r, s1)

/-- How a fetch ends: with the line in the cache, with the cause of an exception, or not yet (R423). -/
inductive Fetched where
  | line
  | fault (x : Cause)
  | waits
  deriving DecidableEq, Repr

/-- Whether R39 gives a core no access to a word at an address, fetch or not: R41 then logs the fetch that R379 refuses. -/
def State.fetchDenied (s : State) (k a : Nat) : Bool :=
  clusterOf k != 0 && !inScratch a && !s.userMem (clusterOf k) a 4 &&
    !(match regAt k a with
      | some (r, n) => s.userReach (clusterOf k) r n false
      | none => false)

/-- A core fetches at its pc. The core itself refuses an address that R379 leaves out;
of such refusals ERR logs those that R39 denies (R41, R399). Core 1 fetches what core 0 fetches into a cache of its own (R382). -/
def State.fetch (s : State) (k : Nat) : Fetched × State :=
  let a := (s.pcOf k).toNat
  let peer := fun (t : State) => if k = 0 then (t.icServe 1 (a / 32)).2.icTouch 1 (a / 32) else t
  let done := fun (t : State) => (peer (t.icTouch k (a / 32))).onCore fun c => { c with jumped := c.jumped.filter (fun l => l != k) }
  let (served, s0) := s.icServe k (a / 32)
  if !s.fetchable k a then (.fault .fetchFault, if s.fetchDenied k a then s.deniedLog k a else s)
  else if served then (.line, done s0)
  else match s0.fetchRead k a with
    | (.ok, s1) => (.line, done s1)
    | (.error, s1) => (.fault .fetchFault, s1)
    | (.ecc, s1) => (.fault .ecc, s1)
    | (.waits, s1) => (.waits, s1)

/-- Run an instruction on a core: the pair acts as core 0; a core that is not running does nothing (R381, R382). An error of the
highest class on the way leads to Roadside (R486). The line may have come to be in error. -/
def State.coreRun (s : State) (c : Fin 24) (f : Nat → State → Ended) (line : Bool := false) : State :=
  let k := pairOf c.val
  if !s.runs k then s
  else match ((s.onCore fun x => { x with lost := [] }).icUpset k line).fetch k with
    | (.fault x, s1) => (s1.except k x (s1.pcOf k) (s1.pcOf k)).roadDue
    | (.line, s1) => ((f k s1).state k).roadDue
    | (.waits, s1) => s1

/-! ## Register operations -/

/-- What a register operation writes. -/
structure Writes where
  reg : Option (RegF × Word) := none
  acc : Option (Nat × Accu) := none
  ov : Bool := false
  aov : Bool := false
  deriving DecidableEq, Repr

/-- The writes of an operation into rd. -/
def aluWrites (f : AluOp) (mode : Word) (rd : RegF) (x y : Word) : Writes :=
  let r := aluResult f mode x y
  { reg := some (rd, r.1), ov := r.2 }

/-- The writes of an accumulator operation. -/
def accWrites (f : AccOp) (mode : Word) (rd rs1 : RegF) (a : Accu) (x y : Word) (n : Nat) : Writes :=
  match accResult f mode a x y n with
  | .reg v ov => { reg := some (rd, v), ov }
  | .acc v aov => { acc := some (accIndex f rd rs1, v), aov }

/-- The writes of a long operation on registers, with the registers and accumulators as it sees them; none for the others. -/
def LOp.writes (op : LOp) (mode : Word) (reg : RegF → Word) (acc : Nat → Accu) : Option Writes :=
  match op with
  | .rr f rd a b => some (aluWrites f mode rd (reg a) (reg b))
  | .ri f rd a imm => some (aluWrites f mode rd (reg a) (immValue f imm))
  | .ac f rd a b => some (accWrites f mode rd a (acc (accIndex f rd a)) (reg a) (reg b) b.toNat)
  | .ldhi rd imm => some { reg := some (rd, (imm.zeroExtend 32 <<< 12) ||| (reg rd &&& 0xFFF#32)) }
  | _ => none

def State.gprF (s : State) (k : Nat) (r : RegF) : Word := s.gpr k r.toNat
def State.setGprF (s : State) (k : Nat) (r : RegF) (v : Word) : State := s.setGpr k r.toNat v

/-- Set FXSTAT flags. -/
def State.fxFlags (s : State) (k : Nat) (ov aov : Bool) : State :=
  let s1 := if ov then s.setFld F.CORE_FXSTAT_OV 1 k else s
  if aov then s1.setFld F.CORE_FXSTAT_AOV 1 k else s1

/-- Carry out the writes of an operation. -/
def State.applyWrites (s : State) (k : Nat) (w : Writes) : State :=
  let s1 := match w.reg with
    | some (r, v) => s.setGprF k r v
    | none => s
  let s2 := match w.acc with
    | some (i, v) => s1.setAcc k i v
    | none => s1
  s2.fxFlags k w.ov w.aov

def State.fxMode (s : State) (k : Nat) : Word := s.reg .CORE_FXMODE k

/-! ## Memory (R396) -/

/-- How an access of an instruction ends: with a word, with the cause of an exception, not before a pulse of the flash has ended, or with
a difference between the two cores of the pair, one of which has met an error that the other has not (R382, R383). -/
inductive MemEnd where
  | ok (w : Word)
  | fault (x : Cause)
  | differs
  | waits
  deriving DecidableEq, Repr

/-- The word of core 1's own scratchpad copy that an access of the pair meets too (R382). -/
def peerWord (k a : Nat) : Option RamWord := if k = 0 ∧ inScratch a then some (.pad 1 (a - 0x10000000)) else none

/-- Bits in error appear in the words that an access meets. -/
def State.upsetAt (s : State) (k a : Nat) (u : Upset) : State :=
  let s1 := match s.ramWordAt k a with
    | some w => s.upsetRam w u.bits
    | none => if s.inDram a then s.upsetDram a u.bits else s
  match peerWord k a with
  | some w => s1.upsetRam w u.peer
  | none => s1

/-- What core 1 meets at an access of the pair to the scratchpad, none elsewhere: a read through the code, or a whole word written
(R382, R409). -/
def State.peerMeets (s : State) (k a : Nat) (whole : Bool) : Option Bool × State :=
  match peerWord k a with
  | none => (none, s)
  | some w => if whole then (some true, s.mendRam w) else ((some (s.checkRam w).1), (s.checkRam w).2)

/-- Whether a request of a core for n bytes reaches the DMC and meets its command error for a failed parity (R27, R452). No rule gives a failed
parity an effect at another target. -/
def State.parityError (s : State) (k a n : Nat) (u : Upset) : Bool := u.parity && s.inDram a && s.dramReady && s.memRight k a n

/-- The command error: nothing is performed, class S2 (R452). -/
def State.commandError (s : State) (a : Word) : State := s.raise 2 0x0A 0 a

/-- A load. -/
def State.coreLoad (s : State) (k : Nat) (f : LoadOp) (a : Word) (u : Upset) : MemEnd × State :=
  if a.toNat % f.size ≠ 0 then (.fault .misaligned, s)
  else if s.parityError k a.toNat f.size u then (.fault .loadFault, s.commandError a)
  else
    let (p, s0) := (s.upsetAt k a.toNat u).peerMeets k a.toNat false
    match s0.busRead k a.toNat f.size with
    | (.ok, w, s1) => (if p = some false then .differs else .ok (f.extend w), s1)
    | (.error, _, s1) => (.fault .loadFault, s1)
    | (.ecc, _, s1) => (if p = some true then .differs else .fault .ecc, s1)
    | (.waits, _, _) => (.waits, s)

/-- A store, performed at once (log entry 8); no request of a differing pair leaves it (R383). -/
def State.coreStore (s : State) (k : Nat) (f : StoreOp) (a v : Word) (u : Upset) : MemEnd × State :=
  if a.toNat % f.size ≠ 0 then (.fault .misaligned, s)
  else if s.parityError k a.toNat f.size u then (.fault .storeFault, s.commandError a)
  else
    let (p, s0) := (s.upsetAt k a.toNat u).peerMeets k a.toNat (f.size == 4)
    match s0.busWrite k a.toNat (leBytes f.size v.toNat) with
    | (.ok, s1) => if p = some false then (.differs, s0) else (.ok 0, s1)
    | (.error, s1) => (.fault .storeFault, s1)
    | (.ecc, s1) => (if p = some true then .differs else .fault .ecc, s1)
    | (.waits, _) => (.waits, s)

/-- SWPM and ADDM: the old word, with the new one in its place; only in the scratchpad and in cluster, system and journal SRAM. -/
def State.coreAtomic (s : State) (k : Nat) (a : Word) (f : Word → Word) (u : Upset) : MemEnd × State :=
  if a.toNat % 4 ≠ 0 then (.fault .misaligned, s)
  else if !(inScratch a.toNat || inSram a.toNat) then (.fault .storeFault, s)
  else
    let (p, s0) := (s.upsetAt k a.toNat u).peerMeets k a.toNat false
    match s0.busRead k a.toNat 4 with
    | (.ok, w, s1) => if p = some false then (.differs, s1) else (.ok w, (s1.busWrite k a.toNat (leBytes 4 (f w).toNat)).2)
    | (.error, _, s1) => (.fault .storeFault, s1)
    | (.ecc, _, s1) => (if p = some true then .differs else .fault .ecc, s1)
    | (.waits, _, _) => (.waits, s)

/-- A memory operation of a core on the values of its registers: the address, and the register it writes. -/
def State.memOp (s : State) (k : Nat) (op : LOp) (reg : RegF → Word) (upset : Upset) : Option (Word × MemEnd × State) :=
  match op with
  | .load f _ a imm => let x := reg a + imm.signExtend 32
    some (x, s.coreLoad k f x upset)
  | .store f d a imm => let x := reg a + imm.signExtend 32
    some (x, s.coreStore k f x (reg d) upset)
  | .swpm _ a b => some (reg a, s.coreAtomic k (reg a) (fun _ => reg b) upset)
  | .addm _ a b => some (reg a, s.coreAtomic k (reg a) (fun w => w + reg b) upset)
  | _ => none

/-! ## Control registers -/

/-- The control register of a number that is a core's own and has no action. -/
def crName (n : Nat) : Option RegName :=
  match n with
  | 0x001 => some .CORE_STATUS | 0x002 => some .CORE_RETA | 0x003 => some .CORE_CAUSE | 0x004 => some .CORE_FADDR
  | 0x005 => some .CORE_HBASE | 0x006 => some .CORE_IEN | 0x007 => some .CORE_SSTAT | 0x008 => some .CORE_FXMODE
  | 0x009 => some .CORE_FXSTAT | 0x011 => some .CORE_UCADDR | 0x013 => some .CORE_UCSTAT
  | _ => none

/-- UCADDR moves on after an access to UCDATA (R407). -/
def State.ucNext (s : State) (k : Nat) : State := s.setFld F.CORE_UCADDR_ADDR ((s.fld F.CORE_UCADDR_ADDR k + 1) % 2048) k

/-- The key of a micro-operation. -/
def ucKey (k a : Nat) : Nat := clusterOf k * 2048 + a % 2048

/-- A CRD of a defined control register: its value, or none for an uncorrectable micro-operation. -/
def State.crRead (s : State) (k n : Nat) : Option Word × State :=
  match crName n with
  | some r => (some (s.reg r k), s)
  | none =>
    if n = 0 then (some (BitVec.ofNat 32 (clusterOf k * 32 + k)), s)
    else if n = 0x10 then (some (s.reg .CL_UCCFG (clusterOf k)), s)
    else if n = 0x12 then
      let a := s.fld F.CORE_UCADDR_ADDR k
      match s.checkRam (.ucode (clusterOf k) a) with
      | (true, s1) => (some (Tab.getD s1.core.ucode (ucKey k a) 0), s1.ucNext k)
      | (false, s1) => (none, s1)
    else (some (s.reg .CL_CXDEC (clusterOf k * 32 + (n - 0x20))), s)

/-- Whether another core of a core's cluster executes a CX (R407). -/
def State.cxBusy (s : State) (k : Nat) : Bool :=
  s.core.cxUntil.any fun e => e.1 != k && clusterOf e.1 == clusterOf k && decide (s.cyc ≤ e.2)

/-- A CWR of a writable control register (R7, R407): while another core of the cluster executes a CX, a write of the store, the decode
table or UC_MAX is ignored. -/
def State.crWrite (s : State) (k n : Nat) (w : Word) : State :=
  match crName n with
  | some r => s.regStore r k false w
  | none =>
    if s.cxBusy k then s.setFld F.CORE_UCSTAT_WLOCK 1 k
    else if n = 0x10 then s.regStore .CL_UCCFG (clusterOf k) false w
    else if n = 0x12 then
      let a := s.fld F.CORE_UCADDR_ADDR k
      ((s.onCore fun c => { c with ucode := Tab.putD c.ucode (ucKey k a) 0 w }).mendRam (.ucode (clusterOf k) a)).ucNext k
    else s.regStore .CL_CXDEC (clusterOf k * 32 + (n - 0x20)) false w

/-! ## Custom opcodes (R404 to R407) -/

/-- The CX that runs: its register fields and ARG. -/
structure CxFields where
  rd : RegF
  rs1 : RegF
  rs2 : RegF
  arg : RegF
  deriving DecidableEq, Repr

/-- The writes that a sequence holds until END, with its temporaries (R404, R406). -/
structure Held where
  temps : Tab Word := []
  opd : Option Word := none
  accs : Tab Accu := []
  ov : Bool := false
  aov : Bool := false
  deriving DecidableEq, Repr

/-- A general register as a sequence reads it: the held value of OPD's register, else the core's (R406). -/
def State.heldGpr (s : State) (k : Nat) (x : CxFields) (h : Held) (r : RegF) : Word :=
  match h.opd with
  | some v => if r = x.rd ∧ r ≠ 0 then v else s.gprF k r
  | none => s.gprF k r

/-- A register of a micro-operation (R404). -/
def State.microReg (s : State) (k : Nat) (x : CxFields) (h : Held) (r : RegF) : Word :=
  match r.toNat with
  | 0 => 0
  | 8 => s.heldGpr k x h x.rd
  | 9 => s.heldGpr k x h x.rs1
  | 10 => s.heldGpr k x h x.rs2
  | 11 => x.arg.setWidth 32
  | n => Tab.getD h.temps n 0

/-- Hold a write of a micro-operation (R404, R406). -/
def Held.put (h : Held) (r : RegF) (v : Word) : Held :=
  if r = 0 then h else if r = 8 then { h with opd := some v } else { h with temps := Tab.put h.temps r.toNat v }

/-- Hold the writes of a micro-operation. -/
def Held.take (h : Held) (w : Writes) : Held :=
  let h1 := match w.reg with
    | some (r, v) => h.put r v
    | none => h
  let h2 := match w.acc with
    | some (i, v) => { h1 with accs := Tab.put h1.accs i v }
    | none => h1
  { h2 with ov := h2.ov || w.ov, aov := h2.aov || w.aov }

/-- An accumulator as a sequence reads it. -/
def State.heldAcc (s : State) (k : Nat) (h : Held) (i : Nat) : Accu := (Tab.find h.accs i).getD (s.acc k i)

/-- Operations that no sequence may hold: reason 1 of UCODE. -/
def LOp.banned : LOp → Bool
  | .call _ | .jmp _ | .callr _ _ _ | .pcrel _ _ | .crd _ _ _ _ | .cwr _ _ _ _ | .sys _ _ _ _ | .cx _ _ _ _ _ => true
  | _ => false

/-- Whether every register of a micro-operation is one of R404, and none is written that is read only. -/
def LOp.microRegsOk (op : LOp) : Bool :=
  op.sources.all (fun r => r.toNat ≤ 11) && match op.dest with
  | some r => r.toNat ≤ 8
  | none => true

/-- The reason of UCODE for a micro-operation, or the operation. -/
def microCheck (w : Word) : Nat ⊕ LOp :=
  match decodeLong (w &&& 0x7FFFFFFF#32) with
  | none => .inl 4
  | some op => if op.banned then .inl 1 else if !op.fieldsOk then .inl 4 else if !op.microRegsOk then .inl 2 else .inr op

/-- How a micro-operation ends: it goes on with what is held, at a store address, having branched or not; it faults; or the core stops. -/
inductive MicroEnd where
  | go (s : State) (h : Held) (ua : Nat) (taken : Bool)
  | fault (s : State) (x : Cause) (faddr : Word)
  | stop (e : Ended)
  deriving DecidableEq, Repr

/-- FADDR of UCODE (R399). -/
def ucodeInfo (ua reason : Nat) : Word := BitVec.ofNat 32 (ua * 65536 + reason)

/-- The address that a taken micro-branch leads to (R404). -/
def microTarget (ua : Nat) (imm : BitVec 20) : Nat := (((ua : Int) + imm.toInt) % 2048).toNat

/-- One micro-operation that has passed its checks. -/
def State.microStep (s : State) (k : Nat) (x : CxFields) (h : Held) (ua : Nat) (op : LOp) : MicroEnd :=
  let reg := s.microReg k x h
  let next := (ua + 1) % 2048
  match op.writes (s.fxMode k) reg (s.heldAcc k h) with
  | some w => .go s (h.take w) next false
  | none => match s.memOp k op reg {} with
    | some (a, .fault c, s1) => .fault s1 c a
    | some (_, .differs, s1) => .stop (.differs s1)
    | some (_, .waits, s1) => .stop (.waits s1)
    | some (_, .ok v, s1) => if s1.core.lost.contains k then .stop (.gone s1) else .go s1 (match op.dest with
        | some r => h.put r v
        | none => h) next false
    | none => match op with
      | .bz r imm => if reg r = 0 then .go s h (microTarget ua imm) true else .go s h next false
      | .bnz r imm => if reg r ≠ 0 then .go s h (microTarget ua imm) true else .go s h next false
      | _ => .fault s .ucode (ucodeInfo ua 4)

/-- The end of a sequence: what was held is written (R406). -/
def State.microFinish (s : State) (k : Nat) (x : CxFields) (h : Held) : Ended :=
  let s1 := match h.opd with
    | some v => s.setGprF k x.rd v
    | none => s
  let s2 := foldOver (fun (e : Nat × Accu) (t : State) => t.setAcc k e.1 e.2) h.accs s1
  .next (s2.fxFlags k h.ov h.aov) (s2.pcNext k)

/-- A core's CX has taken so many CLK_CORE cycles, four to the model's cycle (R405): its effects stand at its start, and it keeps the core
until then (log entry 216). -/
def State.cxTime (s : State) (k took : Nat) : State :=
  s.onCore fun c => { c with cxUntil := Tab.put c.cxUntil k (s.cyc + (took - 1) / 4) }

/-- Run a sequence from a store address, with so many micro-operations left, the CX having taken so many cycles (R405). -/
def State.microRun (k : Nat) (x : CxFields) : Nat → Nat → Held → Nat → State → Ended
  | 0, _, _, ua, s => .fault s .ucode (ucodeInfo ua 3)
  | n + 1, took, h, ua, s =>
    match (s.cxTime k (took + 1)).checkRam (.ucode (clusterOf k) ua) with
    | (false, s1) => .fault s1 .ecc (BitVec.ofNat 32 ua)
    | (true, s1) =>
      let w := Tab.getD s1.core.ucode (ucKey k ua) 0
      match microCheck w with
      | .inl reason => .fault s1 .ucode (ucodeInfo ua reason)
      | .inr op => match s1.microStep k x h ua op with
        | .fault s2 c a => .fault s2 c a
        | .stop e => e
        | .go s2 h2 ua2 taken => if w.msb && !taken then s2.microFinish k x h2
          else State.microRun k x n (took + 1 + b2n taken) h2 ua2 s2

/-- UC_MAX in force. -/
def State.ucMax (s : State) (k : Nat) : Nat := min 2048 (max 1 (s.fld F.CL_UCCFG_UC_MAX (clusterOf k)))

/-- The temporaries at entry: undefined, so free (R404). -/
def freeTemps (v : Nat) : Tab Word := (List.range 7).map fun i => (i + 1, BitVec.ofNat 32 (v / 2 ^ (32 * i)))

/-- CX: the sequence of its decode entry (R399, R405). One that meets a pulse of the flash waits at its start (log entry 219). -/
def State.runCx (s : State) (k : Nat) (rd rs1 rs2 cxn arg : RegF) : Ended :=
  let n := clusterOf k * 32 + cxn.toNat
  if !s.flag F.CL_CXDEC_VALID n then .fault s .illegal (LOp.cx rd rs1 rs2 cxn arg).encode
  else
    let (v, s1) := s.fresh (2 ^ 224)
    match State.microRun k ⟨rd, rs1, rs2, arg⟩ (s.ucMax k) 1 { temps := freeTemps v } (s.fld F.CL_CXDEC_START n) s1 with
    | .waits _ => .waits s
    | e => e

/-! ## Long operations -/

/-- Jump to a target: the next fetch is that of a taken branch (R419). -/
def State.jump (s : State) (k : Nat) (target : Word) : Ended :=
  .next (s.onCore fun c => { c with jumped := c.jumped ++ [k] }) target

/-- A branch by a signed count of words from the operation itself. -/
def State.jumpBy (s : State) (k : Nat) (words : Word) : Ended := s.jump k (s.pcOf k + 4 * words)

/-- Whether the debug functions reach a core: an attached session reaches every one in DEVELOPMENT, in SECURED and CLOSED those of CL1 and
CL2 alone unless DEBUG_OPEN has opened the rest (R127). -/
def State.debugReach (s : State) (k : Nat) : Bool :=
  s.core.debug && (s.security == 0 || clusterOf k != 0 || s.hcp.debugScope.isSome)

/-- The operations of OP 0x2A (R380, R397, R399, R400, R403). ICINV of the pair runs on both of its cores (R382). -/
def State.runSys (s : State) (k : Nat) (f : SysOp) (code : Word) : Ended :=
  match f with
  | .trap => .trapped s code
  | .hret => .next (s.setReg .CORE_STATUS k (s.reg .CORE_SSTAT k &&& 5#32)) (s.reg .CORE_RETA k)
  | .waiti => .next (if (s.reg .EVF_CORE_PEND k &&& s.reg .CORE_IEN k) = 0 then s.onCore fun c => { c with waiting := c.waiting ++ [k] }
      else s) (s.pcNext k)
  | .drain => .next s (s.pcNext k)
  | .icinv => .next (if k = 0 then (s.icFlush 0).icFlush 1 else s.icFlush k) (s.pcNext k)
  | .brk => if s.debugReach k then .halted s else .fault s .brk 0

/-- A control transfer, a control register access, or one of OP 0x2A and 0x30. -/
def State.runControl (s : State) (k : Nat) (op : LOp) : Ended :=
  match op with
  | .pcrel rd imm => .next (s.setGprF k rd (s.pcOf k + 4 * imm.signExtend 32)) (s.pcNext k)
  | .bz r imm => if s.gprF k r = 0 then s.jumpBy k (imm.signExtend 32) else .next s (s.pcNext k)
  | .bnz r imm => if s.gprF k r ≠ 0 then s.jumpBy k (imm.signExtend 32) else .next s (s.pcNext k)
  | .call imm => (s.setGpr k 31 (s.pcNext k)).jumpBy k (imm.signExtend 32)
  | .jmp imm => s.jumpBy k (imm.signExtend 32)
  | .callr rd a imm =>
    let t := s.gprF k a + imm.signExtend 32
    if t.toNat % 4 ≠ 0 then .fault s .misaligned t else (s.setGprF k rd (s.pcNext k)).jump k t
  | .crd rd _ _ cr => match s.crRead k cr.toNat with
    | (some v, s1) => .next (s1.setGprF k rd v) (s1.pcNext k)
    | (none, s1) => .fault s1 .ecc (BitVec.ofNat 32 (s.fld F.CORE_UCADDR_ADDR k))
  | .cwr _ a _ cr => .next (s.crWrite k cr.toNat (s.gprF k a)) (s.pcNext k)
  | .sys f _ a b => s.runSys k f (BitVec.ofNat 32 (a.toNat * 32 + b.toNat))
  | .cx rd a b n g => s.runCx k rd a b n g
  | _ => .fault s .illegal op.encode

/-- A long operation (R394, R396, R399): illegal fields first, then register operations, memory, control. A difference between the two
cores of the pair comes before any exception (R383, R408). -/
def State.execLong (op : LOp) (upset : Upset) (k : Nat) (s : State) : Ended :=
  if k = 0 ∧ upset.differs then .differs s
  else if !op.fieldsOk then .fault s .illegal op.encode
  else match op.writes (s.fxMode k) (s.gprF k) (s.acc k) with
    | some w => .next (s.applyWrites k w) (s.pcNext k)
    | none => match s.memOp k op (s.gprF k) upset with
      | some (a, .fault x, s1) => .fault s1 x a
      | some (_, .differs, s1) => .differs s1
      | some (_, .waits, s1) => .waits s1
      | some (_, .ok v, s1) => if s1.core.lost.contains k then .gone s1
        else .next (match op.dest with
          | some r => s1.setGprF k r v
          | none => s1) (s1.pcNext k)
      | none => s.runControl k op

/-- A long operation on a core. -/
def State.runLong (s : State) (c : Fin 24) (op : LOp) (upset : Upset := {}) : State := s.coreRun c (State.execLong op upset) upset.line

/-! ## Paired words (R384, R386, R387, R395) -/

/-- The second value of a short operation. -/
def State.slotValue (s : State) (k : Nat) (x : Slot) : Word :=
  if x.op.immediate then (match x.op with
    | .addi | .movi => x.rs.signExtend 32
    | _ => x.rs.setWidth 32)
  else s.gprF k x.rs

/-- The writes of a short operation that does not access memory. -/
def State.slotWrites (s : State) (k : Nat) (x : Slot) : Writes :=
  let v := s.slotValue k x
  match x.op with
  | .mov | .movi => { reg := some (x.rd, v) }
  | .mac15 i => accWrites .mac15 (s.fxMode k) (i.setWidth 5) 0 (s.acc k i.toNat) (s.gprF k x.rd) v 0
  | .mac31 i => accWrites .mac31 (s.fxMode k) (i.setWidth 5) 0 (s.acc k i.toNat) (s.gprF k x.rd) v 0
  | o => match o.alu with
    | some f => aluWrites f (s.fxMode k) x.rd (s.gprF k x.rd) v
    | none => {}

/-- The memory access of slot A: its address, and how it ends. -/
def State.slotMem (s : State) (k : Nat) (x : Slot) (upset : Upset) : Option (Word × MemEnd × State) :=
  let a := s.gprF k x.rs
  match x.op with
  | .ld32 => some (a, s.coreLoad k .ld32 a upset)
  | .st32 => some (a, s.coreStore k .st32 a (s.gprF k x.rd) upset)
  | _ => none

/-- A paired word (R387): both slots read before either writes; an exception of slot A leaves both without effect. -/
def State.execPair (a : Slot) (bit15 : Bool) (b : BitVec 15) (upset : Upset) (k : Nat) (s : State) : Ended :=
  let bad := Ended.fault s .illegal (encPair a bit15 b)
  if k = 0 ∧ upset.differs then .differs s
  else match decodeSlot b with
    | none => bad
    | some y =>
      if bit15 || !pairOk a y then bad
      else
        let wb := s.slotWrites k y
        match s.slotMem k a upset with
        | some (x, .fault c, s1) => .fault s1 c x
        | some (_, .differs, s1) => .differs s1
        | some (_, .waits, s1) => .waits s1
        | some (_, .ok v, s1) => if s1.core.lost.contains k then .gone s1
          else
            let s2 := s1.applyWrites k (if a.op = .ld32 then { reg := some (a.rd, v) } else {})
            .next (s2.applyWrites k wb) (s.pcNext k)
        | none => .next ((s.applyWrites k (s.slotWrites k a)).applyWrites k wb) (s.pcNext k)

/-- A paired word on a core. -/
def State.runPair (s : State) (c : Fin 24) (a : Slot) (bit15 : Bool) (b : BitVec 15) (upset : Upset := {}) : State :=
  s.coreRun c (State.execPair a bit15 b upset) upset.line

/-! ## Any word -/

/-- A word as a core has fetched it (R384, R385, R386): a long operation or a pair, or an encoding that R394 and R395 do not list. -/
def State.execWord (w : Word) (k : Nat) (s : State) : Ended :=
  if w.msb then match decodeSlot (w.extractLsb' 16 15) with
    | some a => State.execPair a (w.getLsbD 15) (w.setWidth 15) {} k s
    | none => .fault s .illegal w
  else match decodeLong w with
    | some op => State.execLong op {} k s
    | none => .fault s .illegal w

/-- A word on a core. -/
def State.runWord (s : State) (c : Fin 24) (w : Word) : State := s.coreRun c (State.execWord w)

/-! ## Interrupts and waiting -/

/-- INTERRUPT_ENTRY (R402). -/
def State.takeIrq (s : State) (c : Fin 24) : State :=
  let k := pairOf c.val
  if !s.runs k then s
  else match s.irqDue k with
    | some i => s.enter k (.irq i) (s.pcOf k) 0
    | none => s

/-- WAITI_RESUME (R403). -/
def State.waitResume (s : State) (c : Fin 24) : State :=
  let k := pairOf c.val
  if s.core.waiting.contains k && (s.reg .EVF_CORE_PEND k &&& s.reg .CORE_IEN k) != 0 then
    s.onCore fun x => { x with waiting := x.waiting.filter (fun l => l != k) }
  else s

end Sys2Proof.Machine
end

