-- ==== Sys2Proof/Machine/HcpOps.lean ====
section
/-! DEFINITION. The opcodes of the Huern Command Protocol, as the Supervisor and the ROM responder serve them (R149 to R156). -/

namespace Sys2Proof.Machine

/-! ## Parameter blocks -/

def pByte (p : Bytes) (o : Nat) : Nat := (p.getD o 0).toNat
def pNat (p : Bytes) (o n : Nat) : Nat := leNat ((p.drop o).take n)
def pWord (p : Bytes) (o : Nat) : Word := BitVec.ofNat 32 (pNat p o 4)

/-- A register as little-endian bytes. -/
def State.regBytes (s : State) (r : RegName) (n : Nat := 0) : Bytes := leBytes 4 (s.view r n).toNat

/-- The session of a command that came within one, when it holds a scope bit (R144). -/
def State.hasScope (s : State) (h : Hdr) (k : Nat) : Bool := h.auth && match (s.tp h.tp).session with
  | some x => bit x.scope k
  | none => false

/-- A command accepted, with the number of its job. -/
def State.take (s : State) (h : Hdr) (op arg : Nat) (par : Bytes := []) (data : Bytes := []) : Nat × State :=
  (s.hcp.nextJob, s.accept h op arg par data)

/-! ## System group -/

def State.opPing (s : State) (h : Hdr) : State := s.reply h 0x0100 .ok (s.regBytes .SYSCTL_CHIP_ID ++ s.uid)

/-- GET_INFO: the code of the security state and the firmware version are not stated (log entry 58). -/
def State.opGetInfo (s : State) (h : Hdr) : State :=
  let (v, s1) := s.fresh (2 ^ 32)
  s1.reply h 0x0101 .ok (s.regBytes .SYSCTL_CHIP_ID ++ s.uid ++ s.regBytes .SYSCTL_RSTCAUSE ++ s.regBytes .SYSCTL_BOOTSTAT
    ++ s.regBytes .SYSCTL_PSTATE ++ [Config.securityCode s.security] ++ leBytes 4 v)

/-- SET_POWER_STATE (R46, R51, R152): a state above the current one takes effect at once, Roadside's floor apart. -/
def State.opSetPower (s : State) (h : Hdr) (v : Nat) : State :=
  if v > 3 then s.reply h 0x0102 .badParam
  else if v > s.floorNow then s.reply h 0x0102 .stateFloor
  else
    let s1 := s.setRest v
    (if s.inRoadside then s1 else s1.raiseTo v).reply h 0x0102 .ok

/-- RESET: the reply first, the reset by HCP_RESET_TRIGGER (R152). -/
def State.opReset (s : State) (h : Hdr) (kind : Nat) : State :=
  if kind > 2 then s.reply h 0x0103 .badParam
  else (s.onHcp fun x => { x with reset := some kind }).reply h 0x0103 .ok

/-- Whether BLOW_FUSE may blow a fuse (R126, R442). -/
def State.fuseOk (s : State) (fuse : Nat) : Bool :=
  !s.otpFuseDenied 0 (7 * 2 ^ (3 * fuse)) && s.otp.run.isNone && match fuse with
  | 0 => match s.bootDir with
    | some d => s.slotPasses d d.active && s.imageSigned (d.slotBase d.active)
    | none => false
  | _ => true

/-- The bit of OTP_FUSE that shows a fuse blown by HCP; SECURE_BOOT shows at the next reset (R126). -/
def State.fuseShown (s : State) (fuse : Nat) : State :=
  match fuse with
  | 1 => s.setFld F.OTP_FUSE_REGION_LOCK 1
  | 2 => s.setFld F.OTP_FUSE_FACTORY_CLOSE 1
  | 3 => s.setFld F.OTP_FUSE_DEBUG_DISABLE 1
  | _ => s

def State.opBlowFuse (s : State) (h : Hdr) (fuse confirm : Nat) : State :=
  if fuse > 3 ∨ confirm ≠ 0x424C4F57 then s.reply h 0x0104 .badParam
  else if !s.fuseOk fuse then s.reply h 0x0104 .denied
  else (s.fusesAct ((s.otpBurn 7 0 (7 * 2 ^ (3 * fuse))).fuseShown fuse)).reply h 0x0104 .ok

/-- The security version of the running image, in the slot that booted (R118, R121). -/
def State.runVersion (s : State) : Nat :=
  match s.bootDir with
  | some d => (s.imageHead (d.slotBase (s.fld F.SYSCTL_BOOTSTAT_SLOT))).version
  | none => 0

/-- RAISE_SEC_VERSION (R121): the lowest fuses not yet blown are blown until the count is reached. -/
def State.opRaiseVersion (s : State) (h : Hdr) (n : Nat) : State :=
  let now := secVersion (s.rowBits 7)
  let free := (List.range 32).filter fun i => !bit (s.rowBits 7) (32 + i)
  let v := (free.take (n - now)).foldl (fun a i => a + 2 ^ (32 + i)) 0
  if n > 32 then s.reply h 0x0105 .badParam
  else if s.flag F.SYSCTL_BOOTSTAT_TRIAL ∨ n > s.runVersion ∨ !s.vinGood ∨ s.otp.run.isSome then s.reply h 0x0105 .denied
  else ((s.otpBurn 7 0 v).setFld F.OTP_FUSE_SECVER (max n now)).reply h 0x0105 .ok [BitVec.ofNat 8 (max n now)]

/-- Whether an entry's airtime runs. -/
def State.airing (s : State) (e : TxEntry) : Bool := match s.exc e.port with
  | some x => x.phase.airing && x.entry.any fun f => f.tag == e.tag && f.order == e.order
  | none => false

/-- A job's transmission is withdrawn; one on the air goes on to its end, and its job is ABORTED all the same (R152; DESIGN CHOICE, log
entry 166). -/
def State.cancelTx (s : State) (id : Nat) : State :=
  match s.txp.timed.find? fun e => e.use == .job id with
  | some e => if s.airing e then s.complete id .aborted else s.txWithdraw e.tag
  | none => s.complete id .aborted

/-- The milestone that a job waits for is aborted before its commit point. -/
def State.cancelMile (s : State) (id : Nat) : State :=
  match s.msu.ms.find? fun e => e.2.jobs.contains id with
  | some (k, _) => if s.abortable k then s.mileAbort k 2 .aborted else s
  | none => s

/-- A flash job ends unless a pulse of it has begun: its one command still waits in the queue. -/
def State.cancelFlash (s : State) (id : Nat) (j : Job) : State :=
  let mine := fun (c : FlcCmd) => c.req == .job id
  if j.step = 0 ∧ (!j.busy ∨ s.flc.queue.any mine) then
    (s.onFlc fun f => { f with queue := f.queue.filter fun c => !mine c }).complete id .aborted
  else s

/-- Cancel a job (R152). One that has begun a flash pulse keeps its own status: the milestone of a DIRECTORY_WRITE comes after its erase. -/
def State.cancelJob (s : State) (id : Nat) (j : Job) : State :=
  let end_ := fun (t : State) => t.complete id .aborted
  match j.opcode with
  | 0x0206 | 0x0207 => s.cancelTx id
  | 0x0304 => match s.frm.downlinks.find? fun d => d.job == id with
    | some d => s.downlinkEnd d.src .aborted
    | none => s
  | 0x0302 | 0x0503 => s.cancelMile id
  | 0x0108 | 0x0602 | 0x0603 | 0x0107 => s.cancelFlash id j
  | 0x0404 => end_ (foldOver (fun (p : Nat) (t : State) => t.onLine p fun x => { x with jobs := x.jobs.filter fun k => k != id }) [0, 1] s)
  | 0x0109 => end_ (s.onHcp fun x => { x with calls := x.calls.filter fun c => c.1 != id })
  | 0x0805 => (end_ (s.onCtl fun c => { c with
      waiting := c.waiting.filter fun p => p.job != id,
      reader := c.reader.filter fun r => !r.prov.any fun p => p.job == id }))
  | _ => s

def State.opCancel (s : State) (h : Hdr) (seq : Nat) : State :=
  match s.hcp.jobs.find? fun e => e.2.hdr.tp == h.tp && e.2.hdr.seq == seq && !e.2.isOwn with
  | none => s.reply h 0x0106 .notFound
  | some (id, j) => (s.reply h 0x0106 .ok).cancelJob id j

/-- An image slot is taken and written (R155). -/
def State.imageGo (s : State) (h : Hdr) (slot off : Nat) (p d : Bytes) : State :=
  let (id, s1) := (s.onHcp fun x => { x with slots := Tab.put x.slots slot h.tp.num }).take h 0x0107 off p d
  if d.isEmpty then s1.complete id .ok else s1

/-- IMAGE_WRITE (R155; log entries 56, 70). -/
def State.opImageWrite (s : State) (h : Hdr) (p d : Bytes) : State :=
  let slot := pByte p 0
  let off := pNat p 1 4
  let dir := s.dirNow
  let other := (Tab.find s.hcp.slots slot).any fun t => t != h.tp.num
  if slot > 1 ∨ off % 4096 ≠ 0 ∨ d.length % 4 ≠ 0 ∨ off + d.length > dir.size then s.reply h 0x0107 .badParam
  else if other then s.reply h 0x0107 .owner
  else s.imageGo h slot (dir.slotBase slot + off) p d

/-- DIRECTORY_WRITE (R119, R155, R276; log entry 57). It needs the image slots: one that another transport holds refuses it (DESIGN CHOICE,
log entry 164). -/
def State.opDirectoryWrite (s : State) (h : Hdr) (p : Bytes) : State :=
  let d := s.newDir p
  let held := s.hcp.jobs.find? fun e => e.2.opcode == 0x0108
  if pByte p 0 > 1 ∨ pByte p 1 > 1 ∨ pByte p 2 > 3 then s.reply h 0x0108 .badParam
  else match held with
    | some e => s.reply h 0x0108 (if e.2.hdr.tp = h.tp then .busy else .owner)
    | none =>
      if s.hcp.slots.any fun e => e.2 != h.tp.num then s.reply h 0x0108 .owner
      else if !s.flag F.SYSCTL_BOOTSTAT_ROM_RESP && !s.slotPasses d d.active then s.reply h 0x0108 .imageInvalid
      else
        let (id, s1) := s.take h 0x0108 d.sector p d.bytes
        s1.onHcp fun x => { x with jobs := x.jobs.map fun e => if e.1 = id then (e.1, { e.2 with onOk := leBytes 4 d.seq }) else e }

/-- USER_CALL (R156; log entry 69): RUN for as long as the call runs. -/
def State.opUserCall (s : State) (h : Hdr) (p d : Bytes) : State :=
  let cl := pByte p 0
  if cl ≠ 1 ∧ cl ≠ 2 then s.reply h 0x0109 .badParam
  else
    let (id, s1) := s.take h 0x0109 cl p d
    (s1.onHcp fun x => { x with calls := x.calls ++ [(id, cl, pByte p 1)] }).raiseTo 0

/-- The user cluster answers a call with reply parameters and data, within the limits of a packet (R129, R142, R149). -/
def State.callEnd (s : State) (id : Nat) (par data : Bytes) : State :=
  (s.onHcp fun x => { x with calls := x.calls.filter fun c => c.1 != id }).complete id .ok (par.take 498) (data.take 8192)

/-- The bytes of the delivery record at an address, which lies in a region of system SRAM of the cluster that asks (R42). -/
def State.recordFor (s : State) (cl a : Nat) : Option Bytes :=
  let n := 32 + leNat (s.bytes a 2)
  if s.core.regions.any fun g => g.cluster == cl && g.base < 0x20400000 && g.base ≤ a && a + n ≤ g.base + g.len then some (s.bytes a n) else none

/-- What the user cluster's program does with the call (R42, R149; log entry 69). The plaintext of a record goes out as the data of the
reply, behind a parameter that says whether there is one. -/
def State.userAct (s : State) (id cl : Nat) (a : UserAct) : State :=
  if !s.userOn then s
  else match a with
    | .later => s
    | .answer par data => s.callEnd id par data
    | .decrypt at' => match s.recordFor cl at'.toNat with
      | none => s.callEnd id [0] []
      | some r => match s.decryptRecord r with
        | (some pt, s1) => s1.callEnd id [1] pt
        | (none, s1) => s1.callEnd id [0] []

/-- The program acts on the calls that have come in since job n. -/
def State.userReact (s : State) (n : Nat) (a : UserAct) : State :=
  match s.hcp.calls.find? fun c => n ≤ c.1 with
  | some c => s.userAct c.1 c.2.1 a
  | none => s

/-- While a call waits and no command comes, the program may answer it at any cycle, with what it likes: free values (log entry 69). -/
def State.callCycle (c : Nat × Nat × Nat) (s : State) : State :=
  if !s.userOn then s
  else
    let (k, s1) := s.fresh 2
    if k = 0 then s1
    else
      let (n, s2) := s1.fresh 499
      let (m, s3) := s2.fresh 8193
      let (par, s4) := s3.freshBytes n
      let (data, s5) := s4.freshBytes m
      s5.callEnd c.1 par data

/-- TRANSPORT_CFG (R141, R147; log entry 15): the rate waits for the reply to be sent in full. Codes 0 to 3 select the rates in ascending
order (DESIGN CHOICE, log entry 167). -/
def State.opTransportCfg (s : State) (h : Hdr) (rate mask : Nat) : State :=
  if rate > 3 then s.reply h 0x010A .badParam
  else
    let s1 := s.reply h 0x010A .ok
    let s2 := s1.onHcp fun x => { x with rateNext := x.rateNext ++ [⟨h.tp.num, h.seq, rate, if h.tp.port.isSome then s1.queued h.tp else 0⟩] }
    if h.tp = .hport then s2.regStore .HPORT_CFG 0 false (wordPut (s2.reg .HPORT_CFG) 15 8 mask)
    else s2.setTp h.tp { s2.tp h.tp with mask }

/-! ## Radio group -/

/-- RADIO_ROLE (R46, R53, R152). -/
def State.opRadioRole (s : State) (h : Hdr) (role : Nat) : State :=
  if role > 2 then s.reply h 0x0201 .badParam
  else if role = 2 ∧ s.closed ∧ !s.hasScope h 0 then s.reply h 0x0201 .denied
  else ((s.onRf fun r => { r with role }).applyFloor).reply h 0x0201 .ok

/-- PORT_CFG (R158, R190). -/
def State.opPortCfg (s : State) (h : Hdr) (p : Bytes) : State :=
  let n := pByte p 0
  let lo := pNat p 1 4
  let en := pByte p 5
  if n > 1 ∨ en > 1 then s.reply h 0x0202 .badParam
  else
    let s1 := s.loWrite n (pWord p 1)
    let s2 := s1.rfCtrlWrite n (wordPut (s1.reg .RF_CTRL n) 0 0 en)
    let st := if s2.rfLo n = lo ∧ s2.portEnabled n = (en == 1) then Status.ok else if en = 1 ∧ !loOk lo then .badParam else .wlock
    s2.reply h 0x0202 st

/-- The six words of a profile entry that hold fields (R166). -/
def profileRegs : List RegName := [.LANE_PT_MOD, .LANE_PT_SYNC, .LANE_PT_WORD, .LANE_PT_LEN, .LANE_PT_RX, .LANE_PT_DEV]

/-- PROFILE_SET (R166, R190): its eight words in address order, the last two reserved. -/
def State.opProfileSet (s : State) (h : Hdr) (p : Bytes) : State :=
  let k := pByte p 0
  if k > 15 ∨ pNat p 25 8 ≠ 0 then s.reply h 0x0203 .badParam
  else
    let s1 := foldOver (fun (e : RegName × Nat) (t : State) => t.regStore e.1 k (t.locks e.1 k) (pWord p (1 + 4 * e.2))) profileRegs.zipIdx s
    let kept := profileRegs.zipIdx.all fun e => s1.reg e.1 k &&& (regRow e.1).rw == pWord p (1 + 4 * e.2) &&& (regRow e.1).rw
    s1.reply h 0x0203 (if kept then .ok else .wlock)

/-- LANE_SET (R163, R190). -/
def State.opLaneSet (s : State) (h : Hdr) (p : Bytes) : State :=
  let n := pByte p 0
  let en := pByte p 7
  if n > 127 ∨ pByte p 1 > 1 ∨ pByte p 6 > 15 ∨ en > 1 then s.reply h 0x0204 .badParam
  else
    let w := BitVec.ofNat 32 (pByte p 1 * 256 + pByte p 6)
    let s1 := s.regStore .LANE_PROFILE n (s.locks .LANE_PROFILE n) w
    let s2 := s1.laneOffsetWrite n (pWord p 2)
    let s3 := s2.laneCtrlWrite n (BitVec.ofNat 32 en)
    let st := if s1.view .LANE_PROFILE n ≠ w then Status.wlock
      else if s2.reg .LANE_OFFSET n ≠ pWord p 2 ∨ (en = 1 ∧ s3.laneState n = 0) then .badParam else .ok
    s3.reply h 0x0204 st [BitVec.ofNat 8 s3.unitsHeld]

/-- LANE_STATUS: four words a lane; what PLEN holds at most (R129). -/
def State.opLaneStatus (s : State) (h : Hdr) (first n : Nat) : State :=
  if n = 0 ∨ n > 31 ∨ first + n > 128 then s.reply h 0x0205 .badParam
  else s.reply h 0x0205 .ok ((List.range n).flatMap fun i =>
    s.regBytes .LANE_STAT (first + i) ++ s.regBytes .LANE_LAST (first + i) ++ s.regBytes .LANE_FOFS (first + i) ++ s.regBytes .LANE_CAL (first + i))

/-- A transmission of the host is submitted (R194, R218): a refusal completes its command. -/
def State.hostTx (s : State) (h : Hdr) (op : Nat) (p d : Bytes) (e : Nat → TxEntry) (fields : Bool) : State :=
  let (id, s1) := s.take h op 0 p d
  match s1.txSubmit (e id) fields with
  | (.inl c, s2) => (s2.txRefused c).complete id (s2.txStatus c (e id).port)
  | (.inr _, s2) => s2

/-- TRANSMIT (R218). -/
def State.opTransmit (s0 : State) (h : Hdr) (p d : Bytes) : State :=
  let s := s0.boundary .TXP_HOSTCFG
  let port := pByte p 0
  let tick := pNat p 9 4
  let fl := pByte p 13
  if port > 1 ∨ fl > 3 then s.reply h 0x0206 .badParam
  else
    let k := s.fld F.TXP_HOSTCFG_PROFILE
    let t := startOf s.nt (pNat p 5 4 % 32) tick
    s.hostTx h 0x0206 p d (fun id => { txOwn (.job id) (pNat p 1 4) t port k 4 (s.fld F.TXP_HOSTCFG_PRE) d.length (.frame d)
        (s.flag F.TXP_HOSTCFG_CODED) false (bit fl 0) with lateOk := bit fl 1 })
      (loOk (pNat p 1 4) && tick ≤ 99999999 && d.length ≤ 2047)

/-- WAKE_TX (R215, R218): an earliest start at its submission. -/
def State.opWakeTx (s0 : State) (h : Hdr) (p : Bytes) : State :=
  let s := s0.boundary .TXP_HOSTCFG
  let port := pByte p 0
  if port > 1 then s.reply h 0x0207 .badParam
  else s.hostTx h 0x0207 p [] (fun id => txOwn (.job id) (pNat p 1 4) s.nt port (s.fld F.TXP_HOSTCFG_PROFILE) 3 0 0
      (.wake (pNat p 5 2) (pByte p 7) (s.fld F.TXP_HOSTCFG_WAKE_REPEAT + 1)) false false false) (loOk (pNat p 1 4))

def State.opLedgerRead (s : State) (h : Hdr) : State :=
  s.reply h 0x0208 .ok ((List.range 8).flatMap fun k => leBytes 4 (s.ledger k / 10))

/-! ## Frame group -/

/-- KEY_LOAD (R151, R226, R478). -/
def State.opKeyLoad (s : State) (h : Hdr) (p : Bytes) : State :=
  let g := pByte p 0
  let e := pByte p 1
  let kek := match (s.tp h.tp).session with
    | some x => if h.auth then x.key else zeros 16
    | none => zeros 16
  if g > 63 ∧ !((g = 0x80 ∨ g = 0x81) ∧ e = 0) then s.reply h 0x0301 .badParam
  else match kwUnwrap kek ((p.drop 2).take 24) with
    | none => if h.auth then (s.reply h 0x0301 .authFail).authFailed h.tp else s.reply h 0x0301 .badParam
    | some key =>
      if g = 0x80 then (s.setKeyRegs .CTL_TKEY F.CTL_STAT_TKEY_OK key).reply h 0x0301 .ok
      else if g = 0x81 then (s.setKeyRegs .CTL_RKEY F.CTL_STAT_RKEY_OK key).reply h 0x0301 .ok
      else if s.vaultHeld g e then (s.setFld F.FRM_STAT_VAULT_ERR 1).reply h 0x0301 .noSpace
      else (s.vaultPut g e key).reply h 0x0301 .ok

/-- EPOCH_SWITCH (R226): a milestone of one action; the group stays ACTIVE (log entry 67). -/
def State.opEpochSwitch (s : State) (h : Hdr) (g e : Nat) : State :=
  if g > 63 ∨ !s.slotHolds g e then s.reply h 0x0302 .badParam
  else
    let (id, s1) := s.take h 0x0302 g
    s1.jobMile id (BitVec.ofNat 32 (0x70000000 + g)) (BitVec.ofNat 32 (256 + e)) []

/-- FILTER_CFG: FRM_DUP_CFG, then FRM_CFG. -/
def State.opFilterCfg (s : State) (h : Hdr) (p : Bytes) : State :=
  let w := pWord p 0
  let v := pWord p 4
  if w &&& 0x01FFFFFC#32 ≠ 0 ∨ v &&& 0xFF0000FE#32 ≠ 0 then s.reply h 0x0303 .badParam
  else
    let s1 := s.dupWrite w
    let kept := s1.reg .FRM_DUP_CFG &&& 0xFE000001#32 == w &&& 0xFE000001#32
    (s1.regStore .FRM_CFG 0 false v).reply h 0x0303 (if kept then .ok else .wlock)

/-- DOWNLINK (R240, R243): a second one for a SRC replaces the first; with PAGE_NOW and DETOUR_OK the Detour starts at once. -/
def State.opDownlink (s : State) (h : Hdr) (p d : Bytes) : State :=
  let src := pNat p 0 6
  let fl := pByte p 8
  if fl > 3 ∨ d.length < 23 ∨ d.length > 2047 ∨ macVer d ≠ 0 ∨ macType d ≠ 2 ∨ beNat (macSrc d) ≠ src then s.reply h 0x0304 .badParam
  else
    let s1 := s.downlinkEnd src .aborted
    if s1.frm.downlinks.length ≥ 1024 then s1.reply h 0x0304 .noSpace
    else
      let (id, s2) := s1.take h 0x0304 0 p d
      let x : Downlink := { src, frame := d, flags := fl, expiry := pNat p 6 2, job := id }
      let s3 := s2.onFrm fun f => { f with downlinks := f.downlinks ++ [x] }
      if fl = 3 then s3.detour x else s3

def State.opFrameStats (s : State) (h : Hdr) : State :=
  s.reply h 0x0305 .ok ((List.range 16).flatMap fun k => s.regBytes .FRM_CNT k)

/-- The bytes of up to n unretired records from a sequence number on, within the data limit of a packet (log entry 63). -/
def State.recordsFrom (s : State) : Nat → Nat → Bytes → Bytes
  | _, 0, acc => acc
  | seq, n + 1, acc => match s.msu.ring.find? fun r => r.seq == seq && !r.retired with
    | none => acc
    | some r => if acc.length + r.length > 8192 then acc else s.recordsFrom ((seq + 1) % 4294967296) n (acc ++ s.ringRead r.offset r.length)

def State.opJournalRead (s : State) (h : Hdr) (first n : Nat) : State :=
  let b := s.recordsFrom first n []
  s.reply h 0x0306 (if n ≠ 0 ∧ b.isEmpty then .notFound else .ok) [] b

/-! ## Line group -/

def State.opLineRole (s : State) (h : Hdr) (p role : Nat) : State :=
  if p > 1 ∨ role > 2 then s.reply h 0x0401 .badParam
  else ((s.lpCfgWrite p (wordPut (s.reg .LP_CFG p) 1 0 role)).applyFloor).reply h 0x0401 .ok

def State.opLineMode (s : State) (h : Hdr) (p mode fall : Nat) : State :=
  if p > 1 ∨ mode > 2 ∨ fall > 1 then s.reply h 0x0402 .badParam
  else (s.lpCfgWrite p (wordPut (wordPut (s.reg .LP_CFG p) 3 2 mode) 4 4 fall)).reply h 0x0402 .ok

def State.opLineStatus (s : State) (h : Hdr) (p : Nat) : State :=
  if p > 1 then s.reply h 0x0403 .badParam
  else s.reply h 0x0403 .ok (s.regBytes .LP_STAT p ++ s.regBytes .LP_QUAL p ++ s.regBytes .LP_PEER p ++ s.regBytes .LP_PEERINFO p
    ++ (List.range 4).flatMap fun k => s.regBytes .LP_CNT (p * 8 + k))

/-- LINE_RETRAIN (R292, R306). -/
def State.opLineRetrain (s : State) (h : Hdr) (p : Nat) : State :=
  if p > 1 then s.reply h 0x0404 .badParam
  else if !s.lpUp p then s.reply h 0x0404 .linkDown
  else
    let (id, s1) := s.take h 0x0404 p
    let s2 := s1.onLine p fun x => { x with jobs := x.jobs ++ [id] }
    if h.tp.port = some p then s2.lpRetrainOwn p else s2.lpRetrain p

/-! ## Milestone group -/

/-- Why a milestone is not one of the transport's own (R152, R249). -/
def State.mileDenied (s : State) (t : Tp) (k : Nat) : Option Status :=
  if k > 63 then some .badParam
  else match s.mile k with
    | none => some .notFound
    | some m => if s.mileState k = 0 ∨ s.mileOwner k ≠ 0 then some .notFound else if m.tp ≠ some t then some .owner else none

def State.opMsOpen (s : State) (h : Hdr) (policy : Nat) : State :=
  if policy > 1 then s.reply h 0x0501 .badParam
  else match s.msuOpenFor 0 policy (some h.tp) with
    | none => s.reply h 0x0501 .noSpace
    | some (k, s1) => s1.reply h 0x0501 .ok [BitVec.ofNat 8 k]

/-- The HCP status of an add (R253). -/
def State.addStatus (s : State) (r : AddResult) (w1 : Word) : Status :=
  match r.err with
  | 0 => .ok | 1 => .notFound | 2 => .noSpace | 3 => .badParam | 4 => .denied | 5 => .badParam | 6 => .conflict | 7 => .conflict
  | 8 => .notAvailable
  | _ => s.txStatus r.tx (bits (s.word (w1.toNat + 12)).toNat 16 16)

def State.opMsAdd (s : State) (h : Hdr) (p : Bytes) : State :=
  let k := pByte p 0
  match s.mileDenied h.tp k with
  | some st => s.reply h 0x0502 st
  | none =>
    if bits (pNat p 1 4) 21 16 ≠ k then s.reply h 0x0502 .badParam
    else
      let (r, s1) := s.msuAdd 0 (some h.tp) (pWord p 1) (pWord p 5) (pWord p 9) (pWord p 13)
      s1.reply h 0x0502 (s.addStatus r (pWord p 5)) [BitVec.ofNat 8 (s1.fld F.MSU_MS_STAT_ACTIONS k)]

/-- MS_COMMIT (R262, R277): also for a milestone whose commit has been requested already. -/
def State.opMsCommit (s : State) (h : Hdr) (k : Nat) : State :=
  match s.mileDenied h.tp k with
  | some st => s.reply h 0x0503 st
  | none =>
    let (id, s1) := s.take h 0x0503 k
    let s2 := s1.onHcp fun x => { x with jobs := x.jobs.map fun e => if e.1 = id then (e.1, { e.2 with onOk := [1] }) else e }
    match s2.mile k with
    | none => s2
    | some m =>
      let s3 := s2.setMile k { m with jobs := m.jobs ++ [id] }
      if s.mileState k = 1 ∧ m.request.isNone then s3.mileRequest k else s3

/-- MS_ABORT (R250, R277): one of a FREE or LANDING milestone, or after the commit has been accepted, is ignored and sets CMD_ERR. -/
def State.opMsAbort (s : State) (h : Hdr) (k : Nat) : State :=
  match s.mileDenied h.tp k with
  | some st => (if k ≤ 63 ∧ s.mileState k = 0 then s.msuCmdErr else s).reply h 0x0504 st
  | none => if s.abortable k then (s.mileAbort k 2 .aborted).reply h 0x0504 .ok else s.msuCmdErr.reply h 0x0504 .notFound

def State.opMsStatus (s : State) (h : Hdr) (k : Nat) : State :=
  let b := fun f => BitVec.ofNat 8 (s.fld f k)
  if k > 63 then s.reply h 0x0505 .badParam
  else s.reply h 0x0505 .ok [b F.MSU_MS_STAT_STATE, b F.MSU_MS_STAT_ACTIONS, b F.MSU_MS_STAT_LAST_RESULT,
    BitVec.ofNat 8 (s.fld F.MSU_MS_STAT_LAND_ERR k + 2 * s.fld F.MSU_MS_STAT_DROPPED k)]

/-! ## Flash group -/

/-- FLASH_READ (R427): the address is that of the flash window. -/
def State.opFlashRead (s : State) (h : Hdr) (a n : Nat) : State :=
  let off := a - flashBase
  if n > 8192 ∨ a < flashBase ∨ s.flRegion off = 2 ∨ (n ≠ 0 ∧ s.flRegion (off + n - 1) = 2) then s.reply h 0x0601 .badParam
  else s.hcpAccess (h, 0x0601, a, n, [])

/-- Whether a byte of a span lies in the first eight sectors, which HCP may neither program nor erase (R416). -/
def reservedSpan (off n : Nat) : Bool := off < 32768 && n != 0

/-- The status that refuses a span of flash for a program, or none (R416, R427). -/
def State.spanRefusal (s : State) (a n : Nat) : Option Status :=
  let off := a - flashBase
  let r := s.flRegion off
  if a < flashBase ∨ r = 2 ∨ (n ≠ 0 ∧ s.flRegion (off + n - 1) ≠ r) ∨ reservedSpan off n then
    some .badParam
  else if (r = 0 ∧ (off % 4 ≠ 0 ∨ n % 4 ≠ 0)) ∨ (r = 1 ∧ (off % 2048 ≠ 0 ∨ n % 2048 ≠ 0)) then some .badParam
  else none

def State.opFlashProgram (s : State) (h : Hdr) (p d : Bytes) : State :=
  let a := pNat p 0 4
  if pNat p 4 4 ≠ 0 then s.reply h 0x0602 .badParam
  else match s.spanRefusal a d.length with
    | some st => s.reply h 0x0602 st
    | none =>
      let (id, s1) := s.take h 0x0602 (s.flRegion (a - flashBase)) p d
      if d.isEmpty then s1.complete id .ok else s1

def State.opFlashErase (s : State) (h : Hdr) (p : Bytes) : State :=
  let a := pNat p 0 4
  let kind := pByte p 4
  let bad := a < flashBase ∨ s.flRegion (a - flashBase) ≠ kind
    ∨ (if kind = 0 then (a - flashBase) % 4096 else (a - flashBase - s.partB * 1048576) % 131072) ≠ 0
  if kind > 1 then s.reply h 0x0603 .badParam
  else if bad ∨ reservedSpan (a - flashBase) 1 then s.reply h 0x0603 .badParam
  else (s.take h 0x0603 kind p).2

/-- CONFIG_SAVE (R56, R436): the image as the registers stand, with its version. -/
def State.opConfigSave (s : State) (h : Hdr) : State :=
  let (id, s1) := s.take h 0x0604 0
  match s1.writeImage s.configNow with
  | none => s1.complete id .noSpace
  | some s2 =>
    let (n, s3) := s2.fresh (2 ^ 32)
    s3.complete id .ok (leBytes 4 n)

/-- The factory bad-block table as FLASH_TABLES returns it (R432). -/
def factoryBytes (l : List (Nat × Nat)) : Bytes :=
  let b := leBytes 4 0x46424144 ++ zeros 4 ++ leBytes 2 l.length ++ zeros 2
    ++ l.flatMap fun e => leBytes 2 e.1 ++ [7#8, 0#8, 0xFF#8] ++ leBytes 2 e.2 ++ [0#8]
  b ++ leBytes 4 (crc32 b)

def State.opFlashTables (s : State) (h : Hdr) (t : Nat) : State :=
  match t with
  | 0 => s.reply h 0x0605 .ok [] (factoryBytes s.flc.factory)
  | 1 => s.reply h 0x0605 .ok [] (tableBytes magicGrown s.flc.grown.seq s.flc.grown.entries)
  | 2 => s.reply h 0x0605 .ok [] (tableBytes magicPartial s.flc.partialTab.seq s.flc.partialTab.entries)
  | _ => s.reply h 0x0605 .badParam

/-- PART_SPLIT_SET (R427, R441): three copies of the value, then of PS_SET; the partitioning loads at the next reset. -/
def State.opPartSplit (s : State) (h : Hdr) (b : Nat) : State :=
  if b < 4 ∨ b > 16 then s.reply h 0x0606 .badParam
  else if psSetMaj (s.rowBits 7) ∨ s.closed ∨ !s.vinGood ∨ s.otp.run.isSome then s.reply h 0x0606 .denied
  else (s.otpBurn 7 0 (b * (2 ^ 64 + 2 ^ 69 + 2 ^ 74) + 7 * 2 ^ 79)).reply h 0x0606 .ok

/-! ## Time group -/

def State.opNtRead (s : State) (h : Hdr) : State :=
  s.reply h 0x0701 .ok (leBytes 4 s.ntSec.toNat ++ leBytes 4 s.ntTick ++ [BitVec.ofNat 8 (s.fld F.NTC_STAT_DISC)])

def State.opNtSet (s : State) (h : Hdr) (sec : Word) (tick : Nat) : State :=
  if tick > 99999999 then (s.ntLoad sec tick).reply h 0x0702 .badParam else (s.ntLoad sec tick).reply h 0x0702 .ok

/-- RTC_READ: through a capture (R354, R360). -/
def State.opRtcRead (s : State) (h : Hdr) : State := s.rtcOrder h 0x0703 [(.RTC_CTRL, 0, 0x100)]

/-- RTC_TIME and RTC_DATE of an 8-byte calendar (R360). -/
def calTimeWord (p : Bytes) : Word := BitVec.ofNat 32 (pByte p 3 * 65536 + pByte p 2 * 256 + pByte p 1)
def calDateWord (p : Bytes) : Word := BitVec.ofNat 32 (pByte p 6 * 65536 + pByte p 5 * 256 + pByte p 4)

/-- RTC_SET: halt, write, release (R353). -/
def State.opRtcSet (s : State) (h : Hdr) (p : Bytes) : State :=
  if pByte p 7 ≠ 0 then s.reply h 0x0704 .badParam
  else s.rtcOrder h 0x0704 [(.RTC_CTRL, 0, 1), (.RTC_TIME, 0, calTimeWord p), (.RTC_DATE, 0, calDateWord p), (.RTC_CTRL, 0, 0)]

/-- RTC_ALARM: fields, MASK, EN and REARM_BACK (R357, R360). -/
def State.opRtcAlarm (s : State) (h : Hdr) (p : Bytes) : State :=
  let k := pByte p 0
  let c := p.drop 1
  let fl := pByte p 9
  if k > 1 ∨ fl > 3 ∨ pByte c 0 > 63 ∨ pByte c 7 ≠ 0 then s.reply h 0x0705 .badParam
  else
    let w := BitVec.ofNat 32 (fl % 2 * 2147483648 + fl / 2 * 1073741824 + pByte c 0)
    s.rtcOrder h 0x0705 [(.RTC_ALM_TIME, k, calTimeWord c), (.RTC_ALM_DATE, k, calDateWord c), (.RTC_ALM_CTRL, k, w)]

/-- TRICKLE_CFG (R359). -/
def State.opTrickle (s : State) (h : Hdr) (current limit : Nat) : State :=
  if current > 3 ∨ limit > 1 then s.reply h 0x0706 .badParam
  else s.rtcOrder h 0x0706 [(.RTC_TRICKLE, 0, BitVec.ofNat 32 (limit * 16 + current))]

/-! ## Contactless group -/

def State.opCtlMode (s : State) (h : Hdr) (m : Nat) : State :=
  if m > 3 then s.reply h 0x0801 .badParam else (s.ctlCfgWrite (wordPut (s.reg .CTL_CFG) 1 0 m)).reply h 0x0801 .ok

/-- The status that refuses a span of tag memory, or none (R478). -/
def tagSpan (o n : Nat) : Option Status := if n = 0 ∨ o + n > 8192 then some .badParam else none

def State.opTagRead (s : State) (h : Hdr) (o n : Nat) : State :=
  match tagSpan o n with
  | some st => s.reply h 0x0802 st
  | none => match s.checkTags o n with
    | (true, s1) => s1.reply h 0x0802 .ok [] (s1.tagBytes o n)
    | (false, s1) => s1.reply h 0x0802 .eccUncorrectable

/-- TAG_WRITE: words written in part are read first (R410, R478). -/
def State.opTagWrite (s : State) (h : Hdr) (o : Nat) (d : Bytes) : State :=
  match tagSpan o d.length with
  | some st => s.reply h 0x0803 st
  | none => match s.writeTags o d with
    | (true, s1) => s1.reply h 0x0803 .ok
    | (false, s1) => s1.reply h 0x0803 .eccUncorrectable

def State.opTagLock (s : State) (h : Hdr) (mask : Word) : State := (s.regStore .CTL_LOCK 0 false mask).reply h 0x0804 .ok

/-- PROVISION (R155, R477): it waits for a touch. -/
def State.opProvision (s : State) (h : Hdr) (p d : Bytes) : State :=
  let wait := pByte p 0
  let o := pNat p 1 2
  if wait = 0 ∨ wait > 30 ∨ o + d.length > 8192 then s.reply h 0x0805 .badParam
  else match s.hcp.jobs.find? fun e => e.2.opcode == 0x0805 with
    | some e => s.reply h 0x0805 (if e.2.hdr.tp = h.tp then .busy else .owner)
    | none =>
      let (id, s1) := s.take h 0x0805 0 p d
      s1.onCtl fun c => { c with waiting := some ⟨id, o, d⟩ }

/-! ## Diagnostic group -/

def State.opErrRead (s : State) (h : Hdr) (first n : Nat) : State := s.reply h 0x0900 .ok [] (s.logRange first n)

/-- SESSION_CHALLENGE (R142): a nonce and an ephemeral key, chosen at random by the device. -/
def State.opChallenge (s : State) (h : Hdr) : State :=
  let (nonce, s1) := s.freshBytes 16
  let (k, s2) := s1.fresh (p256n - 1)
  let epk := pubKey (k + 1)
  (s2.setTp h.tp { s2.tp h.tp with challenge := some ⟨nonce, k + 1, epk⟩ }).reply h 0x0901 .ok (nonce ++ epk)

/-- The key of the session that SESSION_OPEN opens, when key and signature hold (R142). With an EPK_H that is no point of the curve there is no
shared secret, and the session does not open (DESIGN CHOICE, log entry 203). -/
def State.sessionKey (s : State) (h : Hdr) (c : Challenge) (p : Bytes) : Option Bytes :=
  let epkH := p.take 64
  let scope := (p.drop 64).take 4
  let key := (p.drop 68).take 64
  let msg := c.nonce ++ c.epk ++ epkH ++ s.uid ++ scope ++ [BitVec.ofNat 8 h.tp.num]
  if sha256 key == s.rowBytes 1 && ecdsaVerify key msg ((p.drop 132).take 64) then
    (ecdhX c.priv epkH).map fun x => (sha256 (x ++ c.nonce)).take 16
  else none

/-- SESSION_OPEN: the nonce is spent (R142, R143). -/
def State.opSessionOpen (s : State) (h : Hdr) (p : Bytes) : State :=
  let (id, s1) := s.take h 0x0902 0 p
  let x := s1.tp h.tp
  let s2 := s1.setTp h.tp { x with challenge := none }
  match x.challenge with
  | none => (s2.complete id .authFail).authFailed h.tp
  | some c => match s.sessionKey h c p with
    | none => (s2.complete id .authFail).authFailed h.tp
    | some k => (s2.complete id .ok).onHcp fun q => { q with tps := Tab.modify q.tps h.tp.num {} fun y =>
        { y with session := some { key := k, scope := pNat p 64 4, hostCtr := 0, devCtr := 0, fails := 0 } } }

def State.endSession (s : State) (t : Tp) : State := s.setTp t { s.tp t with session := none }

def State.opSessionClose (s : State) (h : Hdr) : State := (s.reply h 0x0903 .ok).endSession h.tp

/-- Whether an address is one that REG_READ and REG_WRITE never reach: the key vault, or the duplicate filter's table (R150). -/
def State.regBanned (s : State) (a : Nat) : Bool :=
  (s.dupBase ≤ a && a < s.dupBase + 0x2000000) || match regAt 0 a with
  | some (.FRM_VAULT_SEL, _) | some (.FRM_VAULT_KEY, _) => true
  | _ => false

/-- Whether an address is secure: no user cluster may reach it (R39). -/
def State.secureAddr (s : State) (a : Nat) : Bool :=
  if 0x40000000 ≤ a ∧ a < 0x40200000 then match regAt 0 a with
    | some (r, n) => !([1, 2].any fun cl => s.userReach cl r n false || s.userReach cl r n true)
    | none => true
  else !([1, 2].any fun cl => s.userMem cl a 4)

/-- The status that refuses a register access, or none (R150). No word, and an address off a word boundary, are parameters out of range
(DESIGN CHOICE, log entry 168). -/
def State.regRefusal (s : State) (h : Hdr) (a n : Nat) : Option Status :=
  let l := (List.range n).map fun i => a + 4 * i
  if a % 4 ≠ 0 ∨ n = 0 ∨ n > 128 ∨ l.any s.regBanned then some .badParam
  else if s.security ≠ 0 ∧ !s.hasScope h 0 ∧ l.any s.secureAddr then some .denied
  else none

def State.opRegRead (s : State) (h : Hdr) (a n : Nat) : State :=
  match s.regRefusal h a n with
  | some st => s.reply h 0x0904 st
  | none => s.hcpAccess (h, 0x0904, a, n, [])

def State.opRegWrite (s : State) (h : Hdr) (a n : Nat) (d : Bytes) : State :=
  match s.regRefusal h a n with
  | some st => s.reply h 0x0905 st
  | none => s.hcpAccess (h, 0x0905, a, n, d)

def State.opTelemetry (s : State) (h : Hdr) : State :=
  s.reply h 0x0906 .ok [] ((List.range 16).flatMap fun k => s.regBytes .ERR_TEL k)

/-- ENTER_ROADSIDE (R122): the reply is queued first. In Roadside the request is a second cause, which ERR logs as an S3 of the Supervisor
with the cause as its code (DESIGN CHOICE, log entry 169). -/
def State.opEnterRoadside (s : State) (h : Hdr) (confirm : Nat) : State :=
  if confirm ≠ 0x52534944 then s.reply h 0x0907 .badParam
  else if s.inRoadside then (s.reply h 0x0907 .ok).raise 3 0x26 0x30
  else (s.reply h 0x0907 .ok).wantRoadside 0x30

/-- DEBUG_OPEN (R127, R144): within a diagnostic session, or in DEVELOPMENT; not once DEBUG_DISABLE is blown. -/
def State.opDebugOpen (s : State) (h : Hdr) (scope : Nat) : State :=
  if s.security ≠ 0 ∧ !s.hasScope h 0 then s.reply h 0x0908 .denied
  else (s.onHcp fun x => { x with debugScope := some scope }).reply h 0x0908 .ok

end Sys2Proof.Machine
end

