-- ==== Sys2Proof/Machine/HcpFront.lean ====
section
/-! DEFINITION. How HCP packets are received, checked and answered (R129 to R148, R152, R157). -/

namespace Sys2Proof.Machine

/-! ## The opcode table (R149) -/

/-- What R149 says of an opcode: the parameter length without the session fields (the least, where more may follow), the most and
the least data, and the modes C, A, R and M. -/
structure OpRow where
  plen : Nat
  dmax : Nat
  dmin : Nat := 0
  c : Bool := false
  a : Bool := false
  r : Bool := false
  m : Bool := false
  more : Bool := false
  deriving DecidableEq, Repr

def opSystemRows : List (Nat × OpRow) := [
  (0x0100, { plen := 0, dmax := 0, r := true, m := true }),
  (0x0101, { plen := 0, dmax := 0, r := true, m := true }),
  (0x0102, { plen := 1, dmax := 0, r := true }),
  (0x0103, { plen := 1, dmax := 0, r := true, m := true }),
  (0x0104, { plen := 5, dmax := 0, a := true, r := true }),
  (0x0105, { plen := 1, dmax := 0, a := true, r := true }),
  (0x0106, { plen := 2, dmax := 0, r := true }),
  (0x0107, { plen := 5, dmax := 8192, c := true, r := true, m := true }),
  (0x0108, { plen := 3, dmax := 0, c := true, r := true, m := true }),
  (0x0109, { plen := 2, dmax := 8192, c := true, more := true }),
  (0x010A, { plen := 2, dmax := 0, r := true })]

def opRadioRows : List (Nat × OpRow) := [
  (0x0201, { plen := 1, dmax := 0 }),
  (0x0202, { plen := 6, dmax := 0 }),
  (0x0203, { plen := 33, dmax := 0 }),
  (0x0204, { plen := 8, dmax := 0 }),
  (0x0205, { plen := 2, dmax := 0 }),
  (0x0206, { plen := 14, dmax := 8192, c := true }),
  (0x0207, { plen := 8, dmax := 0, c := true }),
  (0x0208, { plen := 0, dmax := 0 })]

def opFrameRows : List (Nat × OpRow) := [
  (0x0301, { plen := 26, dmax := 0, a := true }),
  (0x0302, { plen := 2, dmax := 0, c := true }),
  (0x0303, { plen := 8, dmax := 0 }),
  (0x0304, { plen := 9, dmax := 8192, c := true }),
  (0x0305, { plen := 0, dmax := 0 }),
  (0x0306, { plen := 6, dmax := 0 })]

def opLineRows : List (Nat × OpRow) := [
  (0x0401, { plen := 2, dmax := 0 }),
  (0x0402, { plen := 3, dmax := 0 }),
  (0x0403, { plen := 1, dmax := 0 }),
  (0x0404, { plen := 1, dmax := 0, c := true })]

def opMileRows : List (Nat × OpRow) := [
  (0x0501, { plen := 1, dmax := 0 }),
  (0x0502, { plen := 17, dmax := 0 }),
  (0x0503, { plen := 1, dmax := 0, c := true }),
  (0x0504, { plen := 1, dmax := 0 }),
  (0x0505, { plen := 1, dmax := 0 })]

def opFlashRows : List (Nat × OpRow) := [
  (0x0601, { plen := 6, dmax := 0 }),
  (0x0602, { plen := 8, dmax := 8192, c := true }),
  (0x0603, { plen := 5, dmax := 0, c := true }),
  (0x0604, { plen := 0, dmax := 0, c := true }),
  (0x0605, { plen := 1, dmax := 0 }),
  (0x0606, { plen := 1, dmax := 0, a := true })]

def opTimeRows : List (Nat × OpRow) := [
  (0x0701, { plen := 0, dmax := 0, r := true }),
  (0x0702, { plen := 8, dmax := 0 }),
  (0x0703, { plen := 0, dmax := 0, r := true }),
  (0x0704, { plen := 8, dmax := 0 }),
  (0x0705, { plen := 10, dmax := 0 }),
  (0x0706, { plen := 2, dmax := 0 })]

def opCtlRows : List (Nat × OpRow) := [
  (0x0801, { plen := 1, dmax := 0 }),
  (0x0802, { plen := 4, dmax := 0 }),
  (0x0803, { plen := 2, dmax := 8192 }),
  (0x0804, { plen := 4, dmax := 0 }),
  (0x0805, { plen := 3, dmax := 512, dmin := 1, c := true })]

def opDiagRows : List (Nat × OpRow) := [
  (0x0900, { plen := 2, dmax := 0, r := true, m := true }),
  (0x0901, { plen := 0, dmax := 0, r := true }),
  (0x0902, { plen := 196, dmax := 0, c := true, r := true }),
  (0x0903, { plen := 0, dmax := 0, r := true }),
  (0x0904, { plen := 6, dmax := 0, r := true }),
  (0x0905, { plen := 6, dmax := 512, r := true }),
  (0x0906, { plen := 0, dmax := 0, r := true }),
  (0x0907, { plen := 4, dmax := 0, a := true, r := true }),
  (0x0908, { plen := 1, dmax := 0, a := true, r := true })]

/-- The row of an opcode. -/
def opRow (op : Nat) : Option OpRow :=
  let l := match op / 256 with
    | 1 => opSystemRows
    | 2 => opRadioRows
    | 3 => opFrameRows
    | 4 => opLineRows
    | 5 => opMileRows
    | 6 => opFlashRows
    | 7 => opTimeRows
    | 8 => opCtlRows
    | 9 => opDiagRows
    | _ => []
  (l.find? fun e => e.1 == op).map fun e => e.2

/-- Serve an opcode that has passed every check. -/
def State.hcpRun (s : State) (h : Hdr) (op : Nat) (p d : Bytes) : State :=
  match op with
  | 0x0100 => s.opPing h
  | 0x0101 => s.opGetInfo h
  | 0x0102 => s.opSetPower h (pByte p 0)
  | 0x0103 => s.opReset h (pByte p 0)
  | 0x0104 => s.opBlowFuse h (pByte p 0) (pNat p 1 4)
  | 0x0105 => s.opRaiseVersion h (pByte p 0)
  | 0x0106 => s.opCancel h (pNat p 0 2)
  | 0x0107 => s.opImageWrite h p d
  | 0x0108 => s.opDirectoryWrite h p
  | 0x0109 => s.opUserCall h p d
  | 0x010A => s.opTransportCfg h (pByte p 0) (pByte p 1)
  | 0x0201 => s.opRadioRole h (pByte p 0)
  | 0x0202 => s.opPortCfg h p
  | 0x0203 => s.opProfileSet h p
  | 0x0204 => s.opLaneSet h p
  | 0x0205 => s.opLaneStatus h (pByte p 0) (pByte p 1)
  | 0x0206 => s.opTransmit h p d
  | 0x0207 => s.opWakeTx h p
  | 0x0208 => s.opLedgerRead h
  | 0x0301 => s.opKeyLoad h p
  | 0x0302 => s.opEpochSwitch h (pByte p 0) (pByte p 1)
  | 0x0303 => s.opFilterCfg h p
  | 0x0304 => s.opDownlink h p d
  | 0x0305 => s.opFrameStats h
  | 0x0306 => s.opJournalRead h (pNat p 0 4) (pNat p 4 2)
  | 0x0401 => s.opLineRole h (pByte p 0) (pByte p 1)
  | 0x0402 => s.opLineMode h (pByte p 0) (pByte p 1) (pByte p 2)
  | 0x0403 => s.opLineStatus h (pByte p 0)
  | 0x0404 => s.opLineRetrain h (pByte p 0)
  | 0x0501 => s.opMsOpen h (pByte p 0)
  | 0x0502 => s.opMsAdd h p
  | 0x0503 => s.opMsCommit h (pByte p 0)
  | 0x0504 => s.opMsAbort h (pByte p 0)
  | 0x0505 => s.opMsStatus h (pByte p 0)
  | 0x0601 => s.opFlashRead h (pNat p 0 4) (pNat p 4 2)
  | 0x0602 => s.opFlashProgram h p d
  | 0x0603 => s.opFlashErase h p
  | 0x0604 => s.opConfigSave h
  | 0x0605 => s.opFlashTables h (pByte p 0)
  | 0x0606 => s.opPartSplit h (pByte p 0)
  | 0x0701 => s.opNtRead h
  | 0x0702 => s.opNtSet h (pWord p 0) (pNat p 4 4)
  | 0x0703 => s.opRtcRead h
  | 0x0704 => s.opRtcSet h p
  | 0x0705 => s.opRtcAlarm h p
  | 0x0706 => s.opTrickle h (pByte p 0) (pByte p 1)
  | 0x0801 => s.opCtlMode h (pByte p 0)
  | 0x0802 => s.opTagRead h (pNat p 0 2) (pNat p 2 2)
  | 0x0803 => s.opTagWrite h (pNat p 0 2) d
  | 0x0804 => s.opTagLock h (pWord p 0)
  | 0x0805 => s.opProvision h p d
  | 0x0900 => s.opErrRead h (pByte p 0) (pByte p 1)
  | 0x0901 => s.opChallenge h
  | 0x0902 => s.opSessionOpen h p
  | 0x0903 => s.opSessionClose h
  | 0x0904 => s.opRegRead h (pNat p 0 4) (pNat p 4 2)
  | 0x0905 => s.opRegWrite h (pNat p 0 4) (pNat p 4 2) d
  | 0x0906 => s.opTelemetry h
  | 0x0907 => s.opEnterRoadside h (pNat p 0 4)
  | 0x0908 => s.opDebugOpen h (pByte p 0)
  | _ => s.reply h op .unknownOpcode

/-! ## The checks of R134 -/

/-- Count an event of HPORT_STAT. -/
def State.hportCount (s : State) (t : Tp) (f : Fld) : State := if t = .hport then s.bump f else s

/-- The opcodes that a line port serves without a session in SECURED and CLOSED (R144). -/
def lineOpen (op : Nat) : Bool := op == 0x0100 || op == 0x0101 || op == 0x0901 || op == 0x0902

/-- Why the rights of R144 refuse a command, or none. -/
def State.rightsRefusal (s : State) (h : Hdr) (op : Nat) (row : OpRow) : Option Status :=
  if h.auth then match (s.tp h.tp).session with
    | none => some .authFail
    | some x =>
      if !h.tagOk ∨ h.counter ≤ x.hostCtr then some .authFail
      else if s.security ≠ 0 ∧ op = 0x0301 ∧ !bit x.scope 1 then some .denied
      else none
  else if s.security = 0 then none
  else if row.a ∨ (h.tp.port.isSome ∧ !lineOpen op) then some .denied
  else none

/-- Whether the lengths of a packet fit an opcode's layout, where a parameter block has at most 512 bytes (R129). -/
def OpRow.fits (row : OpRow) (plen dlen : Nat) : Bool :=
  (if row.more then row.plen ≤ plen && plen ≤ 512 else plen == row.plen) && row.dmin ≤ dlen && dlen ≤ row.dmax

/-- Commands of a transport between ACCEPTED and completion (R145). -/
def State.inProgress (s : State) (t : Tp) : Nat := (s.hcp.jobs.filter fun e => e.2.hdr.tp == t && !e.2.isOwn).length

/-- Whether a user cluster is in use: a core of it is released, or will be once RUN is entered (R48, R152, R381). -/
def State.clusterUsed (s : State) (cl : Nat) : Bool :=
  (List.range 24).any fun c => clusterOf c == cl && (if s.userOn then s.released c else bit s.core.userEn c)

/-- Whether the function of an opcode is off, unused or not possible in the present partitioning (R152): a user cluster not in use; the
page region while the boundary, blank or set to 16, leaves none (R44, R414, R427); tag memory without its supply; a reader that is off or
has no key; the debug functions once DEBUG_DISABLE is blown. -/
def State.opOff (s : State) (op : Nat) (p : Bytes) : Bool :=
  match op with
  | 0x0109 => (pByte p 0 == 1 || pByte p 0 == 2) && !s.clusterUsed (pByte p 0)
  | 0x0602 =>
    let off := pNat p 0 4 - flashBase
    s.partB == 16 && flashBase ≤ pNat p 0 4 && s.partB * 1048576 ≤ off && off < 0x2000000
  | 0x0603 => pByte p 4 == 1 && s.partB == 16
  | 0x0802 | 0x0803 => s.flag F.RTC_STAT_LOST && s.flag F.RTC_STAT_VBAK_LOW
  | 0x0805 => s.ctlMode < 2 || !s.flag F.CTL_STAT_RKEY_OK
  | 0x0908 => s.debugDisabled
  | _ => false

/-- Whether the lengths of a command fit: REG_WRITE carries as many words as it counts (R149). -/
def OpRow.lengths (row : OpRow) (op : Nat) (p d : Bytes) : Bool := row.fits p.length d.length && (op != 0x0905 || d.length == 4 * pNat p 4 2)

/-- Why a command is refused, or none: opcode, state, lengths, rights, the limit of 16 in progress (R134, R144, R145, R152, R157). -/
def State.hcpRefusal (s : State) (h : Hdr) (op : Nat) (p d : Bytes) : Option Status :=
  match opRow op with
  | none => some .unknownOpcode
  | some row =>
    let rom := s.flag F.SYSCTL_BOOTSTAT_ROM_RESP
    if s.inRoadside ∧ !row.r then some .roadside
    else if s.inRoadside ∧ rom ∧ (!row.m ∨ (op = 0x0103 ∧ pByte p 0 ≠ 0)) then some .notAvailable
    else if s.opOff op p then some .notAvailable
    else if !row.lengths op p d then some .badLength
    else match s.rightsRefusal h op row with
      | some st => some st
      | none => if row.c ∧ s.inProgress h.tp ≥ 16 then some .busy else none

/-- What a refusal leaves behind: BUSY_DROPS, and the count of AUTH_FAIL replies, whose third in a row ends the session (R143). -/
def State.refused (s : State) (h : Hdr) (st : Status) : State :=
  if st = .busy then s.hportCount h.tp F.HPORT_STAT_BUSY_DROPS
  else if st = .authFail then s.authFailed h.tp
  else s

/-- An AUTH command that has passed advances the host's counter (R142). -/
def State.authPass (s : State) (h : Hdr) : State :=
  if !h.auth then s
  else
    let x := s.tp h.tp
    s.setTp h.tp { x with session := x.session.map fun y => { y with hostCtr := h.counter } }

/-- The memory of a transport takes a command in (R146): 16 commands, one for each SEQ. -/
def State.memorise (s : State) (h : Hdr) : State :=
  let x := s.tp h.tp
  let l := (x.memory.filter fun m => m.seq != h.seq) ++ [⟨h.seq, h.crc, none⟩]
  s.setTp h.tp { x with memory := l.drop (l.length - 16) }

/-- HPORT_PKT: a command packet on HPORT has passed the checks of R134 (R364). -/
def State.pktEvent (s : State) (t : Tp) : State := if t = .hport then s.publish 221 else s

/-- Check and serve a command that is no repeat; BUSY is no check of R134. -/
def State.hcpServe (s0 : State) (h : Hdr) (op : Nat) (p d : Bytes) : State :=
  let s := s0.memorise h
  match s.hcpRefusal h op p d with
  | some st => ((if st = .busy then s.pktEvent h.tp else s).reply h op st).refused h st
  | none => ((s.pktEvent h.tp).authPass h).hcpRun h op p d

/-- The head of a packet that the device sends on its own account: OPCODE 0 and SEQ 0xFFFF (R134). -/
def bareHdr (t : Tp) : Hdr := ⟨t, 0xFFFF, 0, false, 0, false⟩

/-- A packet whose header and CRC have passed: FLAGS and SEQ, repeats, free slots, then the opcode (R134, R146, R148; log entries
61, 62). -/
def State.hcpTake (s : State) (h : Hdr) (flags op : Nat) (p d : Bytes) : State :=
  if bits flags 7 4 ≠ 0 ∨ bits flags 2 0 ≠ 0 ∨ h.seq = 0xFFFF then s.reply h op .badParam
  else match (s.tp h.tp).memory.find? fun m => m.seq == h.seq && m.crc == h.crc with
    | some m => match m.reply with
      | some q => s.putPkt h.tp q
      | none => s
    | none =>
      if s.takesCmd h.tp then (s.takeSlot h.tp).hcpServe h op p d else (s.reply h op .busy).refused h .busy

/-! ## Transports -/

/-- Whether a transport takes commands (R103, R123, R157). -/
def State.serves (s : State) (t : Tp) : Bool := s.pwr.up && !s.flushing && s.level ≤ 1 && s.tpUp t

/-- A command on HPORT opens or holds the host exchange (R49, R52). -/
def State.hostUse (s : State) (t : Tp) : State := if t = .hport then s.exchOpen .host else s

/-- The parameter block as sent, with the session fields. -/
def CmdHead.par (c : CmdHead) (p : Bytes) : Bytes :=
  match c.auth with
  | some (n, g) => p ++ leBytes 4 n.toNat ++ beBytes 8 g.toNat
  | none => p

/-- The packet of a command. -/
def CmdHead.pkt (c : CmdHead) (op : Nat) (p d : Bytes) : Pkt :=
  { flags := if c.auth.isSome then 8 else 0, opcode := op, seq := c.seq.toNat, par := c.par p, data := d }

/-- The header fields that the receiver works with: CRC and session tag computed (R131, R142). -/
def State.hdrOf (s : State) (t : Tp) (q : Pkt) : Hdr :=
  let auth := bit q.flags 3
  let n := q.par.length - 12
  let key := match (s.tp t).session with
    | some x => x.key
    | none => zeros 16
  let tag := (cmac key (pktHead q ++ q.par.take (n + 4) ++ q.data)).take 8
  { tp := t, seq := q.seq, crc := crc16 (pktHead q ++ q.par), auth, counter := if auth then leNat ((q.par.drop n).take 4) else 0,
    tagOk := auth && q.par.drop (n + 4) == tag }

/-- The parameters without the session fields; a block too short for them stands for one that no layout of any opcode takes (R134). -/
def bodyPar (q : Pkt) : Bytes := if bit q.flags 3 then (if q.par.length < 12 then zeros 600 else q.par.take (q.par.length - 12)) else q.par

/-- A command packet reaches execution on a transport. -/
def State.hcpPacket (s : State) (t : Tp) (q : Pkt) : State :=
  if !s.serves t then s else (s.hostUse t).hcpTake (s.hdrOf t q) q.flags q.opcode (bodyPar q) q.data

/-- A command of an opcode arrives whole. -/
def State.hcpCmd (s : State) (c : CmdHead) (op : Nat) (p : Bytes) (d : Bytes := []) : State := s.hcpPacket c.tp (c.pkt op p d)

/-- What the first bytes of a packet say (R129, R134): no SYNC, not whole, too long, a bad CRC, or a packet and its length. -/
inductive Parsed where
  | noSync
  | short
  | tooLong
  | badCrc
  | packet (q : Pkt) (len : Nat)
  deriving DecidableEq, Repr

def parsePkt (b : Bytes) : Parsed :=
  let plen := pNat b 6 2
  let dlen := pNat b 8 2
  if b.isEmpty then .short
  else if pByte b 0 ≠ 0xA5 then .noSync
  else if b.length < 12 then .short
  else if plen > 512 ∨ dlen > 8192 then .tooLong
  else if b.length < 12 + plen + dlen then .short
  else if crc16 (b.take 10 ++ (b.drop 12).take plen) ≠ pNat b 10 2 then .badCrc
  else .packet { flags := pByte b 1, opcode := pNat b 2 2, seq := pNat b 4 2, par := (b.drop 12).take plen,
                 data := (b.drop (12 + plen)).take dlen } (12 + plen + dlen)

/-- A packet discarded for its lengths or its CRC is answered (R134). -/
def State.hcpBad (s : State) (t : Tp) (st : Status) : State :=
  if !s.serves t then s else ((s.hostUse t).reply (bareHdr t) 0 st).hportCount t F.HPORT_STAT_CRC_ERRS

/-- The bytes of a WRITE_PACKET transaction (R134, R138): those beyond the packet's end are discarded. -/
def State.hportBytes (s : State) (b : Bytes) : State :=
  match parsePkt b with
  | .noSync => s
  | .short => if s.serves .hport && !b.isEmpty then s.bump F.HPORT_STAT_ABORTS else s
  | .tooLong => s.hcpBad .hport .badLength
  | .badCrc => s.hcpBad .hport .badCrc
  | .packet q _ => s.hcpPacket .hport q

/-- A MGMT_DOWN unit carries one packet whole; a unit of another length than its header says is answered BAD_LENGTH (R302). -/
def State.lineBytes (s : State) (t : Tp) (b : Bytes) : State :=
  match parsePkt b with
  | .noSync => s
  | .badCrc => s.hcpBad t .badCrc
  | .packet q len => if len = b.length then s.hcpPacket t q else s.hcpBad t .badLength
  | _ => s.hcpBad t .badLength

/-- The bytes on UART_RX (R134, R141): hunt for SYNC; after a failed check the hunt goes on with the byte that follows the SYNC (log
entry 60). What is left of a packet not yet whole stays. -/
def State.uartHunt : Nat → Bytes → State → State
  | 0, b, s => s.onHcp fun x => { x with uart := b }
  | n + 1, b, s =>
    match parsePkt b with
    | .short => s.onHcp fun x => { x with uart := b }
    | .noSync => State.uartHunt n (b.drop 1) s
    | .tooLong => State.uartHunt n (b.drop 1) (s.hcpBad .uart .badLength)
    | .badCrc => State.uartHunt n (b.drop 1) (s.hcpBad .uart .badCrc)
    | .packet q len => State.uartHunt n (b.drop len) (s.hcpPacket .uart q)

/-- Bytes arrive on UART_RX; where the UART has no power they are lost (R141). -/
def State.uartBytes (s : State) (b : Bytes) : State :=
  if !s.sysOn then s else State.uartHunt (s.hcp.uart.length + b.length + 1) (s.hcp.uart ++ b) s

/-! ## HPORT transactions (R136 to R140) -/

/-- The status word of READ_STATUS (R136). -/
def State.hportStatus (s : State) : Word :=
  let q := (s.tp .hport).queue
  fieldsWord [(b2n s.pwr.up, 31), (b2n !s.onPll, 30), (b2n s.inRoadside, 29), (min 31 q.length, 24),
    (s.slotsFree .hport, 16), (match q with
      | [] => 0
      | p :: _ => pktLen p, 0)]

/-- HPORT_CSN falls (R135, R139): the transaction is served in RUN and LISTEN; in DOZE the edge wakes the device and the transaction is
not served. HPORT_CSN presents its event (R364). A transaction takes many cycles, so that the command slots of the last one are free
(R148). -/
def State.csnFall (s0 : State) : State :=
  let s := s0.publish 220
  if s.pwr.off ∨ s.pwr.held ∨ s.level = 3 ∨ s.flushing then s
  else
    let served := decide (s.level ≤ 1) && s.pwr.up && (s.inFld F.HPORT_CFG_ENABLE == 1)
    let s1 := s.onHcp fun x => { x with csnLow := true, served, statusOn := false, driven := [], taken := Tab.del x.taken 0 }
    if s.level = 2 then s1.wake .host else s1.exchOpen .host

/-- HPORT_CSN rises: the transaction ends, and HPORT_CFG takes effect (HPORT_CFG). -/
def State.csnRise (s : State) : State := (s.boundary .HPORT_CFG).onHcp fun x => { x with csnLow := false, served := false, statusOn := false }

/-- Whether the transaction under way is served and its instruction byte has not come (R135). -/
def State.serving (s : State) : Bool := s.hcp.csnLow && s.hcp.served

/-- WRITE_PACKET: one packet to a transaction (R135, R138). -/
def State.writePacket (s : State) (b : Bytes) : State :=
  if s.serving then (s.onHcp fun x => { x with served := false }).hportBytes b else s

/-- READ_PACKET: n bytes are clocked out, the packet at the head and then 0x00; the packet leaves the queue when all its bytes have been
clocked out (R135, R138, R147). -/
def State.readPacket (s : State) (n : Nat) : State :=
  let x := s.tp .hport
  if !s.serving then s
  else
    let b := match x.queue with
      | [] => []
      | p :: _ => pktBytes p
    let s1 := s.onHcp fun y => { y with served := false, driven := (b ++ zeros (n - b.length)).take n }
    match x.queue with
    | [] => s1
    | p :: l => if n < pktLen p then s1 else ((s1.setTp .hport { x with queue := l }).rateApply .hport p).notifyLost .hport

/-- READ_STATUS, with n bytes clocked out: the status word, sent again for as long as the clock runs (R135, R136). It ends HOST_IRQ's
assertion for READY (R140). -/
def State.readStatus (s : State) (n : Nat) : State :=
  if s.serving || s.hcp.statusOn then
    let w := leBytes 4 s.hportStatus.toNat
    s.onHcp fun x => { x with served := false, statusOn := true, readyIrq := false, driven := (List.range n).map fun k => w.getD (k % 4) 0 }
  else s

/-- The host sends an instruction byte and what follows it (R135): one that is no instruction ends the transaction, with the IO lines at
high impedance until HPORT_CSN rises. -/
def State.hostSends (s : State) (x : HostSend) : State :=
  if x.instr = 0x02#8 then s.writePacket x.bytes
  else if x.instr = 0x0B#8 then s.readPacket x.bytes.length
  else if x.instr = 0x05#8 then s.readStatus x.bytes.length
  else if s.serving then s.onHcp fun y => { y with served := false, driven := [] } else s

/-! ## The UART's sender (R141) -/

/-- CLK_EVT cycles of a byte on the UART, ten bits: 115,200, 460,800, 921,600 or 3,000,000 baud. -/
def uartByte (rate : Nat) : Nat := 1000000000 / [115200, 460800, 921600, 3000000].getD rate 115200

/-- One cycle of the UART's sender: the packet at the head of the reply queue leaves it once it has been sent in full. -/
def State.uartCycle (s : State) : State :=
  let x := s.tp .uart
  match x.queue with
  | [] => s
  | p :: l =>
    if s.hcp.uartSent + 1 < pktLen p * uartByte s.hcp.uartRate then s.onHcp fun y => { y with uartSent := y.uartSent + 1 }
    else (((s.onHcp fun y => { y with uartSent := 0 }).setTp .uart { x with queue := l, sent := x.sent ++ [p] }).rateApply .uart p).notifyLost .uart

/-! ## Timed events of HCP -/

/-- A session ends after 300 s without a valid AUTH command (R143). -/
def State.sessionEnd (s : State) (t : Tp) : State := s.endSession t

/-- A nonce expires after 10 s (R143). -/
def State.nonceEnd (s : State) (t : Tp) : State := s.setTp t { s.tp t with challenge := none }

/-- The reset that RESET ordered (R152): a warm reset, or one of a cluster. -/
def State.hcpReset (s : State) (e : BootEnv) : State :=
  let s1 := s.onHcp fun x => { x with reset := none }
  match s.hcp.reset with
  | none => s
  | some 0 => if s.resettable then (s1.setEnv e).warmBoot [F.SYSCTL_RSTCAUSE_SOFT] else s1
  | some k => s1.clusterReset k

/-- An image slot is released 60 s after the last write to it (R155). -/
def State.slotRelease (s : State) (slot : Nat) : State := s.onHcp fun x => { x with slots := Tab.del x.slots slot }

end Sys2Proof.Machine
end

