-- ==== Sys2Proof/Machine/TaskOps.lean ====
section
/-! DEFINITION. The consumer tasks of the event fabric and the small events of the device: GPIO edges, the Roadside beacon, the
backup supply, the crystal, and the cycle that passes while no command waits (R124, R351, R359, R362 to R369, R522). -/

namespace Sys2Proof.Machine

/-! ## Consumer tasks (R365 to R367) -/

/-- Whether a consumer lies in a block that runs (R367): the interrupt inputs of a core that is released and powered, where core
1 takes none of its own (R382); a line port that is not off; the RTC while the backup domain is powered;
the scheduler while it runs. -/
def State.taskLive (s : State) (c : Nat) : Bool :=
  if 218 ≤ c ∧ c < 314 then (c - 218) / 4 != 1 && s.released ((c - 218) / 4) && s.corePowered ((c - 218) / 4)
  else if c = 317 ∨ c = 318 then s.lpState (c - 317) != lpOff
  else if c = 185 then s.pwr.vbak
  else if c = 314 ∨ c = 315 then s.schedRuns
  else true

/-- Whether an input counts as busy for events that reach it in a cycle: busy now, or free since that very cycle (R365, R377). -/
def State.busyAt (s : State) (at' c : Nat) : Bool :=
  s.consBusy c || ((c == 185 || 218 ≤ c && c < 314 || 316 ≤ c && c < 319) && Tab.find s.evf.freed c == some at')

/-- Set one bit of a core's EVF_CORE_n_PEND (R7, R365). -/
def State.pendSet (s : State) (core k : Nat) : State :=
  (s.setReg .EVF_CORE_PEND core (wordPut (s.reg .EVF_CORE_PEND core) k k 1)).noteRaised .EVF_CORE_PEND core (BitVec.ofNat 32 (2 ^ k))

/-- LPn_RETRAIN: an activation that makes the port train keeps the input busy (R365). -/
def State.retrainTask (s : State) (p : Nat) : State :=
  if s.lpState p ≠ lpUpState ∨ (s.line p).train.isSome then s
  else (s.lpRetrain p).onEvf fun e => { e with retrains := e.retrains ++ [p] }

/-- What a consumer's task does (R365). -/
def State.task (s : State) (c : Nat) : State :=
  if c < 32 then s.tmrStart c
  else if c < 64 then State.tmrHalt (c - 32) s
  else if c < 96 then State.tmrRestart (c - 64) s
  else if c = 96 then s.ntEvCapture
  else if c < 113 then s.cmpDisarm (c - 97)
  else if c < 137 then s.setFld F.EVF_GPIO_OUT 1 (c - 113)
  else if c < 161 then s.setFld F.EVF_GPIO_OUT 0 (c - 137)
  else if c < 185 then s.setFlag F.EVF_GPIO_OUT (!s.flag F.EVF_GPIO_OUT (c - 161)) (c - 161)
  else if c = 185 then s.rtcCaptureStart
  else if c < 202 then s.groupSet (c - 186) true
  else if c < 218 then s.groupSet (c - 202) false
  else if c < 314 then s.pendSet ((c - 218) / 4) ((c - 218) % 4)
  else if c < 316 then s.gateSwapPlan (c - 314)
  else if c = 316 then s.onErr fun e => { e with snapDue := true }
  else if c < 319 then s.retrainTask (c - 317)
  else s.raise 0 0x03 0

/-- Whether a task gives way to another one activated in the same cycle: START and RESTART to STOP (R349). -/
def taskYields (hits : List Nat) (c : Nat) : Bool :=
  (c < 32 && hits.contains (c + 32)) || (64 ≤ c && c < 96 && hits.contains (c - 32))

/-- The events of one cycle at one consumer input (R366, R367); `at'` is the cycle in which they reach it. -/
def State.taskInput (hits : List Nat) (at' c : Nat) (s : State) : State :=
  if !s.taskLive c then s
  else
    let busy := s.busyAt at' c
    let s1 := s.coalesce c (hits.countP fun x => x == c) busy
    if busy || taskYields hits c then s1 else s1.task c

/-- The oldest events in the fabric reach their consumers (R363, R366). A close of a group applies after an open (R375). -/
def State.consumersActivate (s : State) : State :=
  if !s.evfRuns then s
  else
    let (hits, s1) := s.evfArrive
    let at' := max s.cyc (s.evfOldest.elim 0 (· + 3))
    foldOver (State.taskInput hits at') ((List.range 320).filter hits.contains) s1

/-- An edge at a GPIO ball (R362, EVF_GPIO_n): IN shows the level, and a selected edge is published two cycles later. -/
def State.gpioEdge (s : State) (n : Nat) (rising : Bool) : State :=
  if !s.sysOn then s
  else
    let s1 := s.setFlag F.EVF_GPIO_IN rising n
    if !bit (s.fld F.EVF_GPIO_EDGE n) (if rising then 0 else 1) then s1
    else if !s.evfRuns then s1.publish (228 + n)
    else { s1 with evf := { s1.evf with flight := s1.evf.flight ++ [(s.cyc + 2, .produced (228 + n))] } }

/-! ## Roadside beacon (R124, R301) -/

/-- The 26 bytes of the beacon, multi-byte fields big-endian as in every line block; the counts of the classes are the bytes of ERR_CLSCNT
(R124, R282; ERR_CLSCNT). -/
def State.beaconBytes (s : State) : Bytes :=
  let b := beBytes 4 (s.reg .SYSCTL_CHIP_ID).toNat ++ s.uid ++ [BitVec.ofNat 8 (s.fld F.SYSCTL_BOOTSTAT_ROADSIDE_CAUSE)]
    ++ beBytes 4 (s.reg .SYSCTL_BOOTSTAT).toNat ++ leBytes 4 (s.reg .ERR_CLSCNT).toNat ++ beBytes 4 s.ntSec.toNat
  b ++ beBytes 2 (crc16 b)

/-- Every port in BEACON sends the beacon as a burst. -/
def State.beacon (s : State) : State :=
  if !s.sysOn then s
  else foldOver (fun (p : Nat) (t : State) => if t.lpState p = lpBeacon then
      t.onLine p fun x => (unitBlocks 5 0 1 0 t.beaconBytes).head?.elim x x.burstOut else t) [0, 1] s

/-! ## Backup domain and crystal -/

/-- Once per second VBAK is measured while VDDA is present; the charger stands still after a trip, in HIBERNATE and in OFF
(R359). -/
def State.vbakCheck (s : State) (mv : Nat) : State :=
  if s.pwr.off || s.pwr.held then s else s.vbakMeasure (s.cur ≤ 2 && !s.flushing) mv

/-- The backup domain powers up after VBAK has been below 1.5 V (R56, R351): LOST, and every RTC register at its reset value. -/
def State.backupUp (s : State) : State :=
  State.frontEnd s { s with regs := s.keepRegs fun r => !isBackup r, rtc := {}, ctl := {}, pwr := { s.pwr with vbak := true, digest := [] } }

/-- An RTC second boundary (R351, R354, R356, R358). A HALT of the same edge stops the calendar after it, and a capture of the same edge shows
the values after it. -/
def State.rtcSecond (s : State) : State :=
  let halting := s.rtc.haltAt == some s.cyc
  if (s.flag F.RTC_CTRL_HALT && !halting) || !s.pwr.vbak then s
  else
    let s1 := s.calSecond
    let s2 := if s.flag F.RTC_CTRL_HALT then s1.onRtc fun x => { x with old := some s1.calSec } else s1
    State.alarmWake s (if s.rtc.capAt == some s.cyc then s2.rtcCapture else s2)

/-- A pattern at the wake-up receiver (R49, R50, R53, R216): a match raises the device from DOZE or HIBERNATE; in RUN and LISTEN it is an
event, and the exchange opens with no further raise. -/
def State.wurWake (s : State) (addr : Half) (group : Byte) (check : Nat) : State :=
  if s.pwr.off || s.pwr.held || s.pwr.pinWait || s.flushing then s
  else match s.wurPattern addr group check with
    | (false, s1) => s1
    | (true, s1) =>
      let s2 := s1.onPwr fun p => { p with wurxFrame := false, wurxSync := false }
      if s.level = 3 then (if s.flag F.SYSCTL_SLEEPCFG_WURX_HIB then s2.wakeHib .wurx else s)
      else if s.level = 2 then s2.wakeDoze .wurx
      else (s2.publish 54).exchOpen .wurx

/-- XT32_GOOD rises (R522). -/
def State.xt32Good (s : State) : State := s.setFld F.SYSCTL_CLKSTAT_XT32_GOOD 1

/-! ## Time that passes while no command waits -/

/-- A cycle of the RTC: SUB counts 1/256 s up to 255, and the second itself is an event (R351, R353). -/
def State.rtcCycle (s : State) : State :=
  if s.flag F.RTC_CTRL_HALT || !s.pwr.vbak then s
  else if s.rtc.sub + 1 < 390625 then s.onRtc fun x => { x with sub := x.sub + 1 }
  else (s.setReg .RTC_SUB 0 (BitVec.ofNat 32 (min 255 ((s.reg .RTC_SUB).toNat + 1)))).onRtc fun x => { x with sub := 0 }

/-- What has fallen due in the cycle that ends and no command has taken: the servo's step, expiries of timers, the refill, the launches, and
expiries of watchdogs, whose boot meets what the last one met (R328, R341, R343, R493; DESIGN CHOICE, log entry 225). -/
def State.cycleDue (s : State) : State :=
  let s1 := foldOver State.tmrTake s.tmr.due s.servoCommit
  let s2 := (State.settle 128 s1.refillDue.launchDue.radioLaunch).offerAgain
  foldOver (fun (n : Nat) (t : State) => t.wdtExpire n) s2.err.wdtDue s2

/-- One CLK_EVT cycle: network time with what falls due in it, acknowledgements too late to be sent, the events in the fabric, the timers
and the watchdogs (log entry 1). -/
def State.tick (s : State) : State :=
  let s0 := if s.sysOn then s.cycleDue else s
  let s1 := ({ s0 with cyc := s0.cyc + 1 } : State).rtcCycle
  if !s1.sysOn then s1
  else
    let s2 := foldOver State.callCycle s1.hcp.calls s1.uartCycle.ntCycle.ntFollow
    let s3 := if s2.evfRuns then s2.evfAdvance else s2
    let s4 := foldOver State.ackExpire (Tab.keys s3.frm.ctxs) s3
    foldOver State.wdtCycle (List.range 4) s4.tmrCycles.dmcCycle

/-- One idle cycle: time passes, a Roadside entry that this has made due takes place, and the next cycle begins. -/
def State.idle (s : State) : State := s.tick.roadDue.newCycle

/-! ## Writes of registers as commands -/

/-- The first address of an instance of a register, which an error log entry names. -/
def dimOffset : List (Nat × Nat) → Nat → Nat
  | [], _ => 0
  | (_, st) :: l, n => n / dimCount l * st + dimOffset l (n % dimCount l)

def regAddr (r : RegName) (n : Nat) : Nat :=
  let row := regRow r
  match row.base with
  | none => 0
  | some b => match row.copies with
    | .one => b + dimOffset row.dims n
    | _ => b + dimOffset row.dims.tail (n % dimCount row.dims.tail)

/-- A write of a register commanded by an initiator, while the system domain is powered (R9, R37, R39, R41). -/
def State.regCmd (s : State) (who : Nat) (r : RegName) (n : Nat) (w : Word) : State :=
  if !s.sysOn then s
  else match s.regRight who r n true with
    | some cl => s.writeReg cl r n w
    | none => s.noRight who (regAddr r n)

/-- A read of a register commanded by an initiator; the word read goes to the initiator. -/
def State.readCmd (s : State) (who : Nat) (r : RegName) (n : Nat) : State :=
  if !s.sysOn then s
  else match s.regRight who r n false with
    | some cl => (s.readReg who cl r n).2
    | none => s.noRight who (regAddr r n)

end Sys2Proof.Machine
end

