-- ==== Sys2Proof/Machine/SysRows.lean ====
section
/-! DEFINITION. The meanings of the commands on power, resets, supplies, clocks, Last Mile and the transports of HCP (chapters 2, 4, 5 and 6). -/

namespace Sys2Proof.Machine

/-- An event of the system domain, which happens while that domain is powered and out of reset. -/
def State.powered (s : State) (f : State → State) : State := if s.sysOn then f s else s

/-- An event of the always-on domain, or of the wake controller and the monitors beside it, which happens in DOZE too (R37, R87). -/
def State.always (s : State) (f : State → State) : State :=
  if s.level ≤ 2 && !s.pwr.off && !s.pwr.held && !s.pwr.pinWait then f s else s

/-- REGISTER_WRITE (R9): a word is written at an address by an initiator of R482. -/
def execRegisterWrite (who : Who) (addr w : Word) (s : State) : Host.Outcome State Fault Refusal :=
  .next (if s.sysOn then (s.regWrite who.val addr.toNat w).2 else s).done

/-- POWER_ON_RESET (R79, R109, R114). -/
def execPowerOnReset (env : BootEnv) (s : State) : Host.Outcome State Fault Refusal :=
  .next (s.powerOn env).done

/-- BROWN_OUT (R79, R107): `lines` data lines of an unfinished flush were written. -/
def execBrownOut (lines : Half) (s : State) : Host.Outcome State Fault Refusal :=
  .next (s.brownOut lines.toNat).done

/-- NRESET_IN_ASSERT (R67, R109, R113). -/
def execNresetInAssert (env : BootEnv) (s : State) : Host.Outcome State Fault Refusal :=
  .next (s.pinFall env).done

/-- NRESET_IN_RELEASE (R79). -/
def execNresetInRelease (env : BootEnv) (s : State) : Host.Outcome State Fault Refusal :=
  .next (s.pinRise env).done

/-- SYS_RESET (R109): a write of SYSCTL_RSTCTL with the key and SYS_RESET. -/
def execSysReset (who : Who) (env : BootEnv) (s : State) : Host.Outcome State Fault Refusal :=
  .next ((s.setEnv env).regCmd who.val .SYSCTL_RSTCTL 0 0xC0DE0001#32).done

/-- CLUSTER_RESET (R109, R110): a write of SYSCTL_RSTCTL with the key and the bits of the clusters. -/
def execClusterReset (who : Who) (cl1 cl2 : Bool) (s : State) : Host.Outcome State Fault Refusal :=
  .next (s.regCmd who.val .SYSCTL_RSTCTL 0 (0xC0DE0000#32 + BitVec.ofNat 32 (2 * b2n cl1 + 4 * b2n cl2))).done

/-- DEBUG_RESET (R109, R127): taken while a debug session is attached that reaches the whole device. -/
def execDebugReset (env : BootEnv) (s : State) : Host.Outcome State Fault Refusal :=
  .next (if s.resettable && s.debugReach 0 then (s.setEnv env).warmBoot [F.SYSCTL_RSTCAUSE_DEBUG] else s).done

/-- ROADSIDE_BEACON (R124, R301). -/
def execRoadsideBeacon (s : State) : Host.Outcome State Fault Refusal :=
  .next (s.beacon).done

/-- ENTRY_CONDITIONS_CLEAR (R55, R95, R96). -/
def execEntryConditionsClear (s : State) : Host.Outcome State Fault Refusal :=
  .next (s.entryGo).done

/-- ENTRY_WAIT_TIMEOUT (R55, R147). -/
def execEntryWaitTimeout (s : State) : Host.Outcome State Fault Refusal :=
  .next (s.entryTimeout).done

/-- DOZE_COMMIT_POINT (R95). -/
def execDozeCommitPoint (s : State) : Host.Outcome State Fault Refusal :=
  .next (s.dozeCommit).done

/-- HIBERNATE_COMMIT_POINT (R96). -/
def execHibernateCommitPoint (s : State) : Host.Outcome State Fault Refusal :=
  .next (s.hibCommit).done

/-- RETURN_TIMER_EXPIRY (R48). -/
def execReturnTimerExpiry (s : State) : Host.Outcome State Fault Refusal :=
  .next (s.powered State.returnTimer).done

/-- RELAY_WINDOW_EXPIRY (R49). -/
def execRelayWindowExpiry (s : State) : Host.Outcome State Fault Refusal :=
  .next (s.relayWindow).done

/-- LINE_IDLE_TIMEOUT (R49). -/
def execLineIdleTimeout (port : Fin 2) (s : State) : Host.Outcome State Fault Refusal :=
  .next (s.exchClose (if port = 0 then .lp0 else .lp1)).done

/-- PAD_EXCHANGE_TIMEOUT (R49). -/
def execPadExchangeTimeout (s : State) : Host.Outcome State Fault Refusal :=
  .next (s.exchClose .pad).done

/-- PMB_VREQ_WRITE (R82, R84). -/
def execPmbVreqWrite (who : Who) (w : Word) (s : State) : Host.Outcome State Fault Refusal :=
  .next (s.regCmd who.val .PMB_VREQ 0 w).done

/-- VOUT_COMMAND_DONE (R83 to R85): whether the regulator did not acknowledge, and whether the packet error code failed. -/
def execVoutCommandDone (nack pec : Bool) (s : State) : Host.Outcome State Fault Refusal :=
  .next (s.pmbWriteDone nack pec).done

/-- PMB_PGOOD_ACK (R83). -/
def execPmbPgoodAck (s : State) : Host.Outcome State Fault Refusal :=
  .next (s.pmbPgood).done

/-- STATUS_WORD_POLL (R81, R83, R85): the replies to STATUS_WORD and READ_VOUT. -/
def execStatusWordPoll (status vout : PmbReply) (s : State) : Host.Outcome State Fault Refusal :=
  .next (s.pmbPoll status vout).done

/-- PMB_REQUEST_TIMEOUT (R85). -/
def execPmbRequestTimeout (s : State) : Host.Outcome State Fault Refusal :=
  .next (s.pmbTimeout).done

/-- PMB_PGOOD_FALL (R85): STATUS_WORD as read. -/
def execPmbPgoodFall (status : PmbTries) (s : State) : Host.Outcome State Fault Refusal :=
  .next (s.always fun t => t.pmbFall status).done

/-- REF_FAIL (R87, R88, R90). -/
def execRefFail (ref : Fin 2) (s : State) : Host.Outcome State Fault Refusal :=
  .next (s.always fun t => t.refFail ref.val).done

/-- REF_GOOD (R87, R89). -/
def execRefGood (ref : Fin 2) (s : State) : Host.Outcome State Fault Refusal :=
  .next (s.always fun t => t.refOk ref.val).done

/-- PLL_EN_WRITE (R91, R93): a write of SYSCTL_CLKCFG that gives PLL_EN; its other fields as they are. -/
def execPllEnWrite (who : Who) (en : Bool) (s : State) : Host.Outcome State Fault Refusal :=
  .next (s.regCmd who.val .SYSCTL_CLKCFG 0 (wordPut (s.reg .SYSCTL_CLKCFG) 3 3 (b2n en))).done

/-- SRC_SELECT (R92, R93): a write of SYSCTL_CLKCFG that gives SRC; its other fields as they are. -/
def execSrcSelect (who : Who) (pll : Bool) (s : State) : Host.Outcome State Fault Refusal :=
  .next (s.regCmd who.val .SYSCTL_CLKCFG 0 (wordPut (s.reg .SYSCTL_CLKCFG) 0 0 (b2n pll))).done

/-- PLL_LOCK (R91). -/
def execPllLock (s : State) : Host.Outcome State Fault Refusal :=
  .next (s.powered State.pllLocked).done

/-- PLL_LOCK_TIMEOUT (R91, R497). -/
def execPllLockTimeout (s : State) : Host.Outcome State Fault Refusal :=
  .next (s.powered State.pllTimeout).done

/-- PLL_LOCK_LOSS (R94, R497). -/
def execPllLockLoss (s : State) : Host.Outcome State Fault Refusal :=
  .next (s.powered State.pllLockLoss).done

/-- VIN_SENSE_TRIP (R99, R101): the bus has stayed below the trip level in force for 2 us. -/
def execVinSenseTrip (s : State) : Host.Outcome State Fault Refusal :=
  .next (s.vinTrip).done

/-- LMCFG_FLUSH (R96): a write of SYSCTL_LMCFG with FLUSH; its other fields as they are. -/
def execLmcfgFlush (who : Who) (s : State) : Host.Outcome State Fault Refusal :=
  .next (s.regCmd who.val .SYSCTL_LMCFG 0 (wordPut (s.reg .SYSCTL_LMCFG) 9 9 1)).done

/-- LMCFG_ARM (R100): a write of SYSCTL_LMCFG with ARM and an AREA. -/
def execLmcfgArm (who : Who) (area : BitVec 5) (s : State) : Host.Outcome State Fault Refusal :=
  .next (s.regCmd who.val .SYSCTL_LMCFG 0 (0x100#32 + area.zeroExtend 32)).done

/-- FLUSH_WRITE_SLOT (R96, R101). -/
def execFlushWriteSlot (s : State) : Host.Outcome State Fault Refusal :=
  .next (s.flushWrite).done

/-- FLUSH_PARK (R96, R101). -/
def execFlushPark (s : State) : Host.Outcome State Fault Refusal :=
  .next (s.flushPark).done

/-- FLUSH_SEAL_TIMEOUT (R103): `lines` data lines were written. -/
def execFlushSealTimeout (lines : Half) (s : State) : Host.Outcome State Fault Refusal :=
  .next (s.sealTimeout lines.toNat).done

/-- BUS_RECOVERY_RESTART (R99, R105, R106): the bus has stayed at or above a level for 10 ms. -/
def execBusRecoveryRestart (env : BusRise) (s : State) : Host.Outcome State Fault Refusal :=
  .next (s.busAbove env.env env.level.toNat).done

/-- HPORT_CSN_FALL (R135, R139): the transaction begins. -/
def execHportCsnFall (s : State) : Host.Outcome State Fault Refusal :=
  .next (s.csnFall).done

/-- HPORT_CSN_RISE (R138). -/
def execHportCsnRise (s : State) : Host.Outcome State Fault Refusal :=
  .next (s.csnRise).done

/-- WRITE_PACKET (R134, R135, R138): the instruction byte and the bytes that the host clocks in. -/
def execWritePacket (packet : HostSend) (s : State) : Host.Outcome State Fault Refusal :=
  .next (s.hostSends packet).done

/-- READ_PACKET (R138, R147): how many bytes of the packet the host clocks out. -/
def execReadPacket (count : Half) (s : State) : Host.Outcome State Fault Refusal :=
  .next (s.readPacket count.toNat).done

/-- READ_STATUS (R135, R136, R140): the status word is clocked out once; a further one in the same transaction clocks it out again. -/
def execReadStatus (s : State) : Host.Outcome State Fault Refusal :=
  .next (s.readStatus 4).done

/-- UART_GAP_TIMEOUT (R141). -/
def execUartGapTimeout (s : State) : Host.Outcome State Fault Refusal :=
  .next (s.onHcp fun x => { x with uart := [] }).done

/-- SESSION_TIMEOUT (R143). -/
def execSessionTimeout (tp : Tp) (s : State) : Host.Outcome State Fault Refusal :=
  .next (s.sessionEnd tp).done

/-- NONCE_EXPIRY (R143). -/
def execNonceExpiry (tp : Tp) (s : State) : Host.Outcome State Fault Refusal :=
  .next (s.nonceEnd tp).done

/-- HCP_RESET_TRIGGER (R152). -/
def execHcpResetTrigger (env : BootEnv) (s : State) : Host.Outcome State Fault Refusal :=
  .next (s.hcpReset env).done

/-- SLOT_RESOURCE_TIMEOUT (R155). -/
def execSlotResourceTimeout (slot : Fin 2) (s : State) : Host.Outcome State Fault Refusal :=
  .next (s.slotRelease slot.val).done

/-- UART_PACKET (R134, R141): bytes that arrive on UART_RX. -/
def execUartPacket (packet : Bytes) (s : State) : Host.Outcome State Fault Refusal :=
  .next (s.uartBytes packet).done

/-- SUPPLY_LOSS (R54, R106): whether VBAK falls too. -/
def execSupplyLoss (vbakLost : Bool) (s : State) : Host.Outcome State Fault Refusal :=
  .next (s.supplyLoss vbakLost).done

/-- DEBUG_SESSION_ATTACH (R46, R68, R127): possible only while DEBUG_DISABLE is intact; a session that ends takes the scope of
DEBUG_OPEN along (DESIGN CHOICE, log entry 183). -/
def execDebugSessionAttach (attach : Bool) (s : State) : Host.Outcome State Fault Refusal :=
  let scope := if attach then s.hcp.debugScope else none
  .next (if attach && s.debugDisabled then s else (s.onCore fun c => { c with debug := attach }).onHcp fun x => { x with debugScope := scope }).done

end Sys2Proof.Machine
end

