-- ==== Sys2Proof/Machine/HcpRows.lean ====
section
/-! DEFINITION. The meanings of the commands of HCP: each one arrives whole as a packet with its parameters on a transport (R129 to R157). -/

namespace Sys2Proof.Machine

/-- A byte, and the little-endian bytes of wider parameters (R129). -/
def parByte (b : Byte) : Bytes := [b]
def parHalf (h : Half) : Bytes := leBytes 2 h.toNat
def parWord (w : Word) : Bytes := leBytes 4 w.toNat

/-- PING (R149). -/
def execPing (c : CmdHead) (s : State) : Host.Outcome State Fault Refusal :=
  .next (s.hcpCmd c 0x0100 []).done

/-- GET_INFO (R149). -/
def execGetInfo (c : CmdHead) (s : State) : Host.Outcome State Fault Refusal :=
  .next (s.hcpCmd c 0x0101 []).done

/-- SET_POWER_STATE (R46, R51, R152). -/
def execSetPowerState (c : CmdHead) (state : Byte) (s : State) : Host.Outcome State Fault Refusal :=
  .next (s.hcpCmd c 0x0102 ([state])).done

/-- RESET (R152). -/
def execReset (c : CmdHead) (kind : Byte) (s : State) : Host.Outcome State Fault Refusal :=
  .next (s.hcpCmd c 0x0103 ([kind])).done

/-- BLOW_FUSE (R126). -/
def execBlowFuse (c : CmdHead) (fuse : Byte) (confirm : Word) (s : State) : Host.Outcome State Fault Refusal :=
  .next (s.hcpCmd c 0x0104 ([fuse] ++ parWord confirm)).done

/-- RAISE_SEC_VERSION (R121). -/
def execRaiseSecVersion (c : CmdHead) (count : Byte) (s : State) : Host.Outcome State Fault Refusal :=
  .next (s.hcpCmd c 0x0105 ([count])).done

/-- CANCEL (R152). -/
def execCancel (c : CmdHead) (seq : Half) (s : State) : Host.Outcome State Fault Refusal :=
  .next (s.hcpCmd c 0x0106 (parHalf seq)).done

/-- IMAGE_WRITE (R155). -/
def execImageWrite (c : CmdHead) (slot : Byte) (offset : Word) (data : Bytes) (s : State) : Host.Outcome State Fault Refusal :=
  .next (s.hcpCmd c 0x0107 ([slot] ++ parWord offset) data).done

/-- DIRECTORY_WRITE (R119, R276). -/
def execDirectoryWrite (c : CmdHead) (active trial tries : Byte) (s : State) : Host.Outcome State Fault Refusal :=
  .next (s.hcpCmd c 0x0108 ([active, trial, tries])).done

/-- USER_CALL (R42, R156), with what the user cluster's program does with the call at once. -/
def execUserCall (c : CmdHead) (cluster mailbox : Byte) (params : Bytes) (data : CallData) (s : State) : Host.Outcome State Fault Refusal :=
  .next ((s.hcpCmd c 0x0109 ([cluster, mailbox] ++ params) data.bytes).userReact s.hcp.nextJob data.act).done

/-- TRANSPORT_CFG (R141, R147). -/
def execTransportCfg (c : CmdHead) (rate mask : Byte) (s : State) : Host.Outcome State Fault Refusal :=
  .next (s.hcpCmd c 0x010A ([rate, mask])).done

/-- RADIO_ROLE (R46, R152). -/
def execRadioRole (c : CmdHead) (role : Byte) (s : State) : Host.Outcome State Fault Refusal :=
  .next (s.hcpCmd c 0x0201 ([role])).done

/-- PORT_CFG (R158). -/
def execPortCfg (c : CmdHead) (port : Byte) (lo : Word) (enable : Byte) (s : State) : Host.Outcome State Fault Refusal :=
  .next (s.hcpCmd c 0x0202 ([port] ++ parWord lo ++ [enable])).done

/-- PROFILE_SET (R166). -/
def execProfileSet (c : CmdHead) (index : Byte) (profile : Bytes) (s : State) : Host.Outcome State Fault Refusal :=
  .next (s.hcpCmd c 0x0203 ([index] ++ profile)).done

/-- LANE_SET (R163). -/
def execLaneSet (c : CmdHead) (lane port : Byte) (offset : Word) (profile enable : Byte) 
    (s : State) : Host.Outcome State Fault Refusal :=
  .next (s.hcpCmd c 0x0204 ([lane, port] ++ parWord offset ++ [profile, enable])).done

/-- LANE_STATUS (R149). -/
def execLaneStatus (c : CmdHead) (first count : Byte) (s : State) : Host.Outcome State Fault Refusal :=
  .next (s.hcpCmd c 0x0205 ([first, count])).done

/-- TRANSMIT (R191, R218). -/
def execTransmit (c : CmdHead) (port : Byte) (freq sec tick : Word) (flags : Byte) (frame : Bytes) 
    (s : State) : Host.Outcome State Fault Refusal :=
  .next (s.hcpCmd c 0x0206 ([port] ++ parWord freq ++ parWord sec ++ parWord tick ++ [flags]) frame).done

/-- WAKE_TX (R215). -/
def execWakeTx (c : CmdHead) (port : Byte) (freq : Word) (addr : Half) (group : Byte) 
    (s : State) : Host.Outcome State Fault Refusal :=
  .next (s.hcpCmd c 0x0207 ([port] ++ parWord freq ++ parHalf addr ++ [group])).done

/-- LEDGER_READ (R211). -/
def execLedgerRead (c : CmdHead) (s : State) : Host.Outcome State Fault Refusal :=
  .next (s.hcpCmd c 0x0208 []).done

/-- KEY_LOAD (R151). -/
def execKeyLoad (c : CmdHead) (group epoch : Byte) (wrapped : Bytes) (s : State) : Host.Outcome State Fault Refusal :=
  .next (s.hcpCmd c 0x0301 ([group, epoch] ++ wrapped)).done

/-- EPOCH_SWITCH (R226). -/
def execEpochSwitch (c : CmdHead) (group epoch : Byte) (s : State) : Host.Outcome State Fault Refusal :=
  .next (s.hcpCmd c 0x0302 ([group, epoch])).done

/-- FILTER_CFG (R149, R234). -/
def execFilterCfg (c : CmdHead) (dup cfg : Word) (s : State) : Host.Outcome State Fault Refusal :=
  .next (s.hcpCmd c 0x0303 (parWord dup ++ parWord cfg)).done

/-- DOWNLINK (R240). -/
def execDownlink (c : CmdHead) (src : BitVec 48) (expiry : Half) (flags : Byte) (frame : Bytes) 
    (s : State) : Host.Outcome State Fault Refusal :=
  .next (s.hcpCmd c 0x0304 (leBytes 6 src.toNat ++ parHalf expiry ++ [flags]) frame).done

/-- FRAME_STATS (R149). -/
def execFrameStats (c : CmdHead) (s : State) : Host.Outcome State Fault Refusal :=
  .next (s.hcpCmd c 0x0305 []).done

/-- JOURNAL_READ (R149). -/
def execJournalRead (c : CmdHead) (first : Word) (count : Half) (s : State) : Host.Outcome State Fault Refusal :=
  .next (s.hcpCmd c 0x0306 (parWord first ++ parHalf count)).done

/-- LINE_ROLE (R46, R294). -/
def execLineRole (c : CmdHead) (port role : Byte) (s : State) : Host.Outcome State Fault Refusal :=
  .next (s.hcpCmd c 0x0401 ([port, role])).done

/-- LINE_MODE (R278). -/
def execLineMode (c : CmdHead) (port mode fallback : Byte) (s : State) : Host.Outcome State Fault Refusal :=
  .next (s.hcpCmd c 0x0402 ([port, mode, fallback])).done

/-- LINE_STATUS (R149). -/
def execLineStatus (c : CmdHead) (port : Byte) (s : State) : Host.Outcome State Fault Refusal :=
  .next (s.hcpCmd c 0x0403 ([port])).done

/-- LINE_RETRAIN (R306). -/
def execLineRetrain (c : CmdHead) (port : Byte) (s : State) : Host.Outcome State Fault Refusal :=
  .next (s.hcpCmd c 0x0404 ([port])).done

/-- MS_OPEN (R248). -/
def execMsOpen (c : CmdHead) (policy : Byte) (s : State) : Host.Outcome State Fault Refusal :=
  .next (s.hcpCmd c 0x0501 ([policy])).done

/-- MS_ADD (R252, R253). -/
def execMsAdd (c : CmdHead) (milestone : Byte) (w0 w1 w2 w3 : Word) (s : State) : Host.Outcome State Fault Refusal :=
  .next (s.hcpCmd c 0x0502 ([milestone] ++ parWord w0 ++ parWord w1 ++ parWord w2 ++ parWord w3)).done

/-- MS_COMMIT (R257, R262). -/
def execMsCommit (c : CmdHead) (milestone : Byte) (s : State) : Host.Outcome State Fault Refusal :=
  .next (s.hcpCmd c 0x0503 ([milestone])).done

/-- MS_ABORT (R250). -/
def execMsAbort (c : CmdHead) (milestone : Byte) (s : State) : Host.Outcome State Fault Refusal :=
  .next (s.hcpCmd c 0x0504 ([milestone])).done

/-- MS_STATUS (R149). -/
def execMsStatus (c : CmdHead) (milestone : Byte) (s : State) : Host.Outcome State Fault Refusal :=
  .next (s.hcpCmd c 0x0505 ([milestone])).done

/-- FLASH_READ (R427). -/
def execFlashRead (c : CmdHead) (addr : Word) (length : Half) (s : State) : Host.Outcome State Fault Refusal :=
  .next (s.hcpCmd c 0x0601 (parWord addr ++ parHalf length)).done

/-- FLASH_PROGRAM (R427). -/
def execFlashProgram (c : CmdHead) (addr reserved : Word) (data : Bytes) (s : State) : Host.Outcome State Fault Refusal :=
  .next (s.hcpCmd c 0x0602 (parWord addr ++ parWord reserved) data).done

/-- FLASH_ERASE (R427). -/
def execFlashErase (c : CmdHead) (addr : Word) (kind : Byte) (s : State) : Host.Outcome State Fault Refusal :=
  .next (s.hcpCmd c 0x0603 (parWord addr ++ [kind])).done

/-- CONFIG_SAVE (R56, R149). -/
def execConfigSave (c : CmdHead) (s : State) : Host.Outcome State Fault Refusal :=
  .next (s.hcpCmd c 0x0604 []).done

/-- FLASH_TABLES (R432). -/
def execFlashTables (c : CmdHead) (table : Byte) (s : State) : Host.Outcome State Fault Refusal :=
  .next (s.hcpCmd c 0x0605 ([table])).done

/-- PART_SPLIT_SET (R427). -/
def execPartSplitSet (c : CmdHead) (boundary : Byte) (s : State) : Host.Outcome State Fault Refusal :=
  .next (s.hcpCmd c 0x0606 ([boundary])).done

/-- NT_READ (R149). -/
def execNtRead (c : CmdHead) (s : State) : Host.Outcome State Fault Refusal :=
  .next (s.hcpCmd c 0x0701 []).done

/-- NT_SET (R331). -/
def execNtSet (c : CmdHead) (sec tick : Word) (s : State) : Host.Outcome State Fault Refusal :=
  .next (s.hcpCmd c 0x0702 (parWord sec ++ parWord tick)).done

/-- RTC_READ (R354, R360). -/
def execRtcRead (c : CmdHead) (s : State) : Host.Outcome State Fault Refusal :=
  .next (s.hcpCmd c 0x0703 []).done

/-- RTC_SET (R353, R360). -/
def execRtcSet (c : CmdHead) (calendar : BitVec 64) (s : State) : Host.Outcome State Fault Refusal :=
  .next (s.hcpCmd c 0x0704 (leBytes 8 calendar.toNat)).done

/-- RTC_ALARM (R357, R360). -/
def execRtcAlarm (c : CmdHead) (alarm : Byte) (calendar : BitVec 64) (flags : Byte) 
    (s : State) : Host.Outcome State Fault Refusal :=
  .next (s.hcpCmd c 0x0705 ([alarm] ++ leBytes 8 calendar.toNat ++ [flags])).done

/-- TRICKLE_CFG (R359). -/
def execTrickleCfg (c : CmdHead) (current limit : Byte) (s : State) : Host.Outcome State Fault Refusal :=
  .next (s.hcpCmd c 0x0706 ([current, limit])).done

/-- CTL_MODE (R478). -/
def execCtlMode (c : CmdHead) (mode : Byte) (s : State) : Host.Outcome State Fault Refusal :=
  .next (s.hcpCmd c 0x0801 ([mode])).done

/-- TAG_READ (R478). -/
def execTagRead (c : CmdHead) (offset length : Half) (s : State) : Host.Outcome State Fault Refusal :=
  .next (s.hcpCmd c 0x0802 (parHalf offset ++ parHalf length)).done

/-- TAG_WRITE (R478). -/
def execTagWrite (c : CmdHead) (offset : Half) (data : Bytes) (s : State) : Host.Outcome State Fault Refusal :=
  .next (s.hcpCmd c 0x0803 (parHalf offset) data).done

/-- TAG_LOCK (R478). -/
def execTagLock (c : CmdHead) (mask : Word) (s : State) : Host.Outcome State Fault Refusal :=
  .next (s.hcpCmd c 0x0804 (parWord mask)).done

/-- PROVISION (R477). -/
def execProvision (c : CmdHead) (record data : Bytes) (s : State) : Host.Outcome State Fault Refusal :=
  .next (s.hcpCmd c 0x0805 (record) data).done

/-- ERR_READ (R488). -/
def execErrRead (c : CmdHead) (first count : Byte) (s : State) : Host.Outcome State Fault Refusal :=
  .next (s.hcpCmd c 0x0900 ([first, count])).done

/-- SESSION_CHALLENGE (R142). -/
def execSessionChallenge (c : CmdHead) (s : State) : Host.Outcome State Fault Refusal :=
  .next (s.hcpCmd c 0x0901 []).done

/-- SESSION_OPEN (R142). -/
def execSessionOpen (c : CmdHead) (epk : Bytes) (scope : Word) (key signature : Bytes) 
    (s : State) : Host.Outcome State Fault Refusal :=
  .next (s.hcpCmd c 0x0902 (epk ++ parWord scope ++ key ++ signature)).done

/-- SESSION_CLOSE (R143). -/
def execSessionClose (c : CmdHead) (s : State) : Host.Outcome State Fault Refusal :=
  .next (s.hcpCmd c 0x0903 []).done

/-- REG_READ (R150). -/
def execRegRead (c : CmdHead) (addr : Word) (count : Half) (s : State) : Host.Outcome State Fault Refusal :=
  .next (s.hcpCmd c 0x0904 (parWord addr ++ parHalf count)).done

/-- REG_WRITE (R150). -/
def execRegWrite (c : CmdHead) (addr : Word) (count : Half) (words : List Word) (s : State) : Host.Outcome State Fault Refusal :=
  .next (s.hcpCmd c 0x0905 (parWord addr ++ parHalf count) (words.flatMap parWord)).done

/-- TELEMETRY (R504). -/
def execTelemetry (c : CmdHead) (s : State) : Host.Outcome State Fault Refusal :=
  .next (s.hcpCmd c 0x0906 []).done

/-- ENTER_ROADSIDE (R122). -/
def execEnterRoadside (c : CmdHead) (confirm : Word) (s : State) : Host.Outcome State Fault Refusal :=
  .next (s.hcpCmd c 0x0907 (parWord confirm)).done

/-- DEBUG_OPEN (R127). -/
def execDebugOpen (c : CmdHead) (scope : Byte) (s : State) : Host.Outcome State Fault Refusal :=
  .next (s.hcpCmd c 0x0908 ([scope])).done

end Sys2Proof.Machine
end

