-- ==== Sys2Proof/Machine/RadioRows.lean ====
section
/-! DEFINITION. The meanings of the commands on the RF ports, the lanes, the frame engine and the transmit path (chapters 7, 8 and 9). -/

namespace Sys2Proof.Machine

/-- A launch point (R199, R323): of an entry of the timed list, or of the radio queue whose head is offered. The die temperature is as
measured. -/
def State.launch (s : State) (ref : TxRef) (temp : Int) : State :=
  let t := s.onRf fun r => { r with temp }
  match ref with
  | .tag k => t.launchTag k.val
  | .queue _ => t.radioLaunch

/-- A backoff ends (R204). -/
def State.backoffOver (s : State) (ref : TxRef) : State :=
  match ref with
  | .tag k => s.backoffEnd k.val
  | .queue q => s.onSched fun d => { d with backoff := d.backoff.filter fun x => x != 128 + q.val }

/-- A frame-end event of a lane (R177, R181, R188, R228, R339): the lane's report, the frame engine's context, and the time
sample of an acknowledgement. -/
def State.frameEnd (s : State) (n quality : Nat) (body : Bytes) : State :=
  match Tab.find s.rf.frames n with
  | none => s
  | some f0 =>
    if s.laneState n ≠ 5 then s
    else
      let f : LaneFrame := { f0 with desense := s.desensed n f0 }
      let dead : Bool := match Tab.find s.frm.ctxs f.ctx with
        | some x => x.st == .dead || x.header.isEmpty
        | none => true
      let s1 := (s.laneFrameEnd n f quality).frmFrameEnd f quality body
      if dead then s1.radioSample (s.lanePt n) f ((padTo f.length body).take f.length) else s1

/-- A frame-end event with the soft values of the payload (R171, R172, R184): the frame is decoded and its quality formed. A plain payload
of no bytes has none: a free value (log entry 175). -/
def State.frameSoft (s : State) (n : Nat) (soft : List Soft) : State :=
  match Tab.find s.rf.frames n with
  | none => s
  | some f =>
    if s.laneState n ≠ 5 then s
    else
      let (body, m, bits) := softPayload f.coded f.length soft
      let (q, s1) := if bits = 0 then s.fresh 256 else (qualityOf m bits, s)
      let t := (s1.macHeader n body).frameEnd n q body
      if t.laneState n = 3 then t.setHist n ((softNats (soft.drop (soft.length - 256))).map softBit) 0 else t

/-- RFX_LO_WRITE (R158). -/
def execRfxLoWrite (who : Who) (port : Fin 2) (w : Word) (s : State) : Host.Outcome State Fault Refusal :=
  .next (s.regCmd who.val .RF_LO port.val w).done

/-- PORT_ENABLE (R158, R159): a write of RFx_CTRL. -/
def execPortEnable (who : Who) (port : Fin 2) (w : Word) (s : State) : Host.Outcome State Fault Refusal :=
  .next (s.regCmd who.val .RF_CTRL port.val w).done

/-- SYN_LOCK (R159, R195, R198). -/
def execSynLock (port : Fin 2) (s : State) : Host.Outcome State Fault Refusal :=
  .next (s.powered fun t => t.synLock port.val).done

/-- RX_READY_RISE (R159, R177). -/
def execRxReadyRise (port : Fin 2) (s : State) : Host.Outcome State Fault Refusal :=
  .next (s.powered fun t => t.rxReadyRise port.val).done

/-- SYN_LOCK_LOSS (R496). -/
def execSynLockLoss (port : Fin 2) (s : State) : Host.Outcome State Fault Refusal :=
  .next (s.powered fun t => t.synLockLoss port.val).done

/-- ATTEN_STEP_UP (R160). -/
def execAttenStepUp (port : Fin 2) (clip : Overload) (s : State) : Host.Outcome State Fault Refusal :=
  .next (s.powered fun t => t.attenUp port.val clip.clip clip.high).done

/-- ATTEN_STEP_DOWN (R160). -/
def execAttenStepDown (port : Fin 2) (s : State) : Host.Outcome State Fault Refusal :=
  .next (s.powered fun t => t.attenDown port.val).done

/-- LANE_ENABLE (R163): a write of LANE_n_CTRL with EN 1. -/
def execLaneEnable (who : Who) (lane : Fin 128) (s : State) : Host.Outcome State Fault Refusal :=
  .next (s.regCmd who.val .LANE_CTRL lane.val 1#32).done

/-- LANE_DISABLE (R190): a write of LANE_n_CTRL with EN 0. -/
def execLaneDisable (who : Who) (lane : Fin 128) (s : State) : Host.Outcome State Fault Refusal :=
  .next (s.regCmd who.val .LANE_CTRL lane.val 0#32).done

/-- LANE_KILL (R190): a write of LANE_n_CTRL with KILL. -/
def execLaneKill (who : Who) (lane : Fin 128) (s : State) : Host.Outcome State Fault Refusal :=
  .next (s.regCmd who.val .LANE_CTRL lane.val 2#32).done

/-- LANE_OFFSET_WRITE (R190). -/
def execLaneOffsetWrite (who : Who) (lane : Fin 128) (w : Word) (s : State) : Host.Outcome State Fault Refusal :=
  .next (s.regCmd who.val .LANE_OFFSET lane.val w).done

/-- LANE_BANK_RUN (R179): a write of RUN 1. -/
def execLaneBankRun (who : Who) (s : State) : Host.Outcome State Fault Refusal :=
  .next (s.regCmd who.val .LANE_BANK_CTRL 0 1#32).done

/-- LANE_BANK_STOP (R179): a write of RUN 0. -/
def execLaneBankStop (who : Who) (s : State) : Host.Outcome State Fault Refusal :=
  .next (s.regCmd who.val .LANE_BANK_CTRL 0 0#32).done

/-- CALIBRATE_END (R177, R189): the image rejection as measured. -/
def execCalibrateEnd (lane : Fin 128) (imageRej : Byte) (s : State) : Host.Outcome State Fault Refusal :=
  .next (s.powered fun t => t.calibrateEnd lane.val imageRej.toNat).done

/-- CAL_WINDOW (R189). -/
def execCalWindow (lane : Fin 128) (s : State) : Host.Outcome State Fault Refusal :=
  .next (s.powered fun t => t.calWindow lane.val).done

/-- CAL_WINDOW_COMPLETE (R189). -/
def execCalWindowComplete (lane : Fin 128) (imageRej : CalWindow) (s : State) : Host.Outcome State Fault Refusal :=
  .next (s.powered fun t => t.calWindowDone lane.val imageRej.rej.toNat imageRej.level).done

/-- CAL_DUE (R189). -/
def execCalDue (lane : CalAge) (s : State) : Host.Outcome State Fault Refusal :=
  .next (s.powered fun t => t.calDue lane.lane.val lane.secs.toNat).done

/-- SYNC_FOUND (R174, R176, R185): the bits that the lane has decided since the last ones, the channel level in quarter dBm, the frequency
offset, and network time of the arrival. -/
def execSyncFound (lane : Fin 128) (bits : List Bool) (level : Half) (fofs arrSec : Word) (arrTick : BitVec 27) (s : State) :
    Host.Outcome State Fault Refusal :=
  .next (s.powered fun t => t.syncHeard lane.val bits level fofs arrSec arrTick.toNat).done

/-- HEADER_END (R170, R173, R182): the soft values of the header's bits on air. -/
def execHeaderEnd (lane : Fin 128) (soft : List Soft) (s : State) : Host.Outcome State Fault Refusal :=
  .next (s.powered fun t => t.headerSoft lane.val soft).done

/-- MAC_HEADER_COMPLETE (R172, R221, R225, R238): the soft values of the payload's bits on air so far. -/
def execMacHeaderComplete (lane : Fin 128) (soft : List Soft) (s : State) : Host.Outcome State Fault Refusal :=
  .next (s.powered fun t => t.macSoft lane.val soft).done

/-- FRAME_END (R171, R181, R184, R228, R339): the soft values of the payload's bits on air, those of the MAC header's part and those that
follow. -/
def execFrameEnd (lane : Fin 128) (soft tail : List Soft) (s : State) : Host.Outcome State Fault Refusal :=
  .next (s.powered fun t => t.frameSoft lane.val (soft ++ tail)).done

/-- TAG_COMPARE (R229, R230). -/
def execTagCompare (ctx : Fin 1024) (s : State) : Host.Outcome State Fault Refusal :=
  .next (s.powered fun t => t.tagCompare ctx.val).done

/-- FILTER_LOOKUP_DONE (R235). -/
def execFilterLookupDone (ctx : Fin 1024) (s : State) : Host.Outcome State Fault Refusal :=
  .next (s.powered fun t => t.filterLookup ctx.val).done

/-- RECEIVE_TEMPLATE_OPEN (R263, R264). -/
def execReceiveTemplateOpen (ctx : Fin 1024) (s : State) : Host.Outcome State Fault Refusal :=
  .next (s.powered fun t => t.templateOpen ctx.val).done

/-- VAULT_LOAD (R226): a write of FRM_VAULT_SEL with OP 1. -/
def execVaultLoad (who : Who) (group : BitVec 6) (epoch : Byte) (s : State) : Host.Outcome State Fault Refusal :=
  .next (s.regCmd who.val .FRM_VAULT_SEL 0 (BitVec.ofNat 32 (0x40000000 + group.toNat * 256 + epoch.toNat))).done

/-- VAULT_ERASE (R227): a write of FRM_VAULT_SEL with OP 2. -/
def execVaultErase (who : Who) (group : BitVec 6) (epoch : Byte) (s : State) : Host.Outcome State Fault Refusal :=
  .next (s.regCmd who.val .FRM_VAULT_SEL 0 (BitVec.ofNat 32 (0x80000000 + group.toNat * 256 + epoch.toNat))).done

/-- DUP_FLUSH (R234): a write of FRM_DUP_CFG with FLUSH. -/
def execDupFlush (who : Who) (w : Word) (s : State) : Host.Outcome State Fault Refusal :=
  .next (s.regCmd who.val .FRM_DUP_CFG 0 (w ||| 2#32)).done

/-- FILTER_COLD_SECOND (R234). -/
def execFilterColdSecond (s : State) : Host.Outcome State Fault Refusal :=
  .next (s.powered State.coldSecond).done

/-- DETOUR_RETRY (R243). -/
def execDetourRetry (src : BitVec 48) (s : State) : Host.Outcome State Fault Refusal :=
  .next (s.powered fun t => t.detourRetry src.toNat).done

/-- DOWNLINK_EXPIRY (R244). -/
def execDownlinkExpiry (src : BitVec 48) (s : State) : Host.Outcome State Fault Refusal :=
  .next (s.powered fun t => t.downlinkExpire src.toNat).done

/-- TX_SUBMIT (R191, R194): a write of TXP_SUBMIT3. -/
def execTxSubmit (who : Who) (w : Word) (s : State) : Host.Outcome State Fault Refusal :=
  .next (s.regCmd who.val .TXP_SUBMIT 3 w).done

/-- LAUNCH_POINT (R199, R323). -/
def execLaunchPoint (ref : TxRef) (temp : Half) (s : State) : Host.Outcome State Fault Refusal :=
  .next (s.powered fun t => t.launch ref temp.toInt).done

/-- LBT_LISTEN_END (R203, R204): the mean level in quarter dBm. -/
def execLbtListenEnd (port : Fin 2) (level : Half) (s : State) : Host.Outcome State Fault Refusal :=
  .next (s.powered fun t => t.listenEnd port.val level).done

/-- LBT_BACKOFF_END (R204). -/
def execLbtBackoffEnd (ref : TxRef) (s : State) : Host.Outcome State Fault Refusal :=
  .next (s.powered fun t => t.backoffOver ref).done

/-- AIRTIME_START (R17, R18, R199). -/
def execAirtimeStart (port : Fin 2) (s : State) : Host.Outcome State Fault Refusal :=
  .next (s.powered fun t => t.refillDue.airStart port.val).done

/-- FEMSEQ_STEP_END (R206). -/
def execFemseqStepEnd (port : Fin 2) (s : State) : Host.Outcome State Fault Refusal :=
  .next (s.powered fun t => t.femStepEnd port.val).done

/-- TX_DATA_END (R198, R206). -/
def execTxDataEnd (port : Fin 2) (s : State) : Host.Outcome State Fault Refusal :=
  .next (s.powered fun t => t.txDataEnd port.val).done

/-- LEDGER_REFILL (R211). -/
def execLedgerRefill (s : State) : Host.Outcome State Fault Refusal :=
  .next (s.powered fun t => t.ledgerRefill.radioOffer).done

/-- TXP_RESULT_READ (R218). -/
def execTxpResultRead (who : Who) (s : State) : Host.Outcome State Fault Refusal :=
  .next (s.readCmd who.val .TXP_RESULT 0).done

/-- SYNTAB_CLEAR (R196): a write of RFx_SYNCFG with CLEAR. -/
def execSyntabClear (who : Who) (port : Fin 2) (w : Word) (s : State) : Host.Outcome State Fault Refusal :=
  .next (s.regCmd who.val .RF_SYNCFG port.val (w ||| 2#32)).done

/-- SYN_RECALIBRATION (R197): the die temperature in degrees Celsius. -/
def execSynRecalibration (port : Fin 2) (temp : Half) (s : State) : Host.Outcome State Fault Refusal :=
  .next (s.powered fun t => t.synRecal port.val temp.toInt false).done

/-- SYN_RECAL_FORCE (R197): the die temperature in degrees Celsius. -/
def execSynRecalForce (port : Fin 2) (temp : Half) (s : State) : Host.Outcome State Fault Refusal :=
  .next (s.powered fun t => t.synRecal port.val temp.toInt true).done

/-- WAKE_PATTERN_RECEIVED (R49, R216, R217). -/
def execWakePatternReceived (addr : Half) (group : Byte) (check : BitVec 4) (s : State) : Host.Outcome State Fault Refusal :=
  .next (s.wurWake addr group check.toNat).done

end Sys2Proof.Machine
end

