-- ==== Sys2Proof/Machine/MileRows.lean ====
section
/-! DEFINITION. The meanings of the commands on milestones and the journal (chapter 10). -/

namespace Sys2Proof.Machine

/-- An add of an action by a cluster (R252, R253): writes of MSU_ACT0 to MSU_ACT2, then the one of MSU_ACT3 that makes the add. `opt`
is bits [27:22] of word 0, with OPTIONAL on top. -/
def State.actAdd (s : State) (who kind : Nat) (ms opt : BitVec 6) (target : Half) (p1 p2 p3 : Word) : State :=
  let w0 := BitVec.ofNat 32 (kind * 2 ^ 28 + opt.toNat * 2 ^ 22 + ms.toNat * 2 ^ 16 + target.toNat)
  let n := clusterOfWho (s.actsAs who) * 4
  (((s.regCmd who .MSU_ACT n w0).regCmd who .MSU_ACT (n + 1) p1).regCmd who .MSU_ACT (n + 2) p2).regCmd who .MSU_ACT (n + 3) p3

/-- MSU_OPEN (R248). -/
def execMsuOpen (who : Who) (s : State) : Host.Outcome State Fault Refusal :=
  .next (s.readCmd who.val .MSU_OPEN 0).done

/-- ACTION_WRITE (R252, R254). -/
def execActionWrite (who : Who) (ms opt : BitVec 6) (target : Half) (p1 p2 p3 : Word) 
    (s : State) : Host.Outcome State Fault Refusal :=
  .next (s.actAdd who.val 1 ms opt target p1 p2 p3).done

/-- ACTION_JAPPEND (R252). -/
def execActionJappend (who : Who) (ms opt : BitVec 6) (target : Half) (p1 p2 p3 : Word) 
    (s : State) : Host.Outcome State Fault Refusal :=
  .next (s.actAdd who.val 2 ms opt target p1 p2 p3).done

/-- ACTION_ENQ_RADIO (R252, R256). -/
def execActionEnqRadio (who : Who) (ms opt : BitVec 6) (target : Half) (p1 p2 p3 : Word) 
    (s : State) : Host.Outcome State Fault Refusal :=
  .next (s.actAdd who.val 3 ms opt target p1 p2 p3).done

/-- ACTION_ENQ_LINE (R252, R532). -/
def execActionEnqLine (who : Who) (ms opt : BitVec 6) (target : Half) (p1 p2 p3 : Word) 
    (s : State) : Host.Outcome State Fault Refusal :=
  .next (s.actAdd who.val 4 ms opt target p1 p2 p3).done

/-- ACTION_ARM_TIMER (R252, R254). -/
def execActionArmTimer (who : Who) (ms opt : BitVec 6) (target : Half) (p1 p2 p3 : Word) 
    (s : State) : Host.Outcome State Fault Refusal :=
  .next (s.actAdd who.val 5 ms opt target p1 p2 p3).done

/-- ACTION_FIRE_EVENT (R252). -/
def execActionFireEvent (who : Who) (ms opt : BitVec 6) (target : Half) (p1 p2 p3 : Word) 
    (s : State) : Host.Outcome State Fault Refusal :=
  .next (s.actAdd who.val 6 ms opt target p1 p2 p3).done

/-- ACTION_EPOCH_SWITCH (R252, R254). -/
def execActionEpochSwitch (who : Who) (ms opt : BitVec 6) (target : Half) (p1 p2 p3 : Word) 
    (s : State) : Host.Outcome State Fault Refusal :=
  .next (s.actAdd who.val 7 ms opt target p1 p2 p3).done

/-- ACTION_FLASH_REC (R252, R254). -/
def execActionFlashRec (who : Who) (ms opt : BitVec 6) (target : Half) (p1 p2 p3 : Word) 
    (s : State) : Host.Outcome State Fault Refusal :=
  .next (s.actAdd who.val 8 ms opt target p1 p2 p3).done

/-- MSU_CMD_COMMIT (R257). -/
def execMsuCmdCommit (who : Who) (ms : BitVec 6) (s : State) : Host.Outcome State Fault Refusal :=
  .next (s.regCmd who.val .MSU_CMD 0 (BitVec.ofNat 32 (0x40000000 + ms.toNat))).done

/-- MSU_CMD_ABORT (R250). -/
def execMsuCmdAbort (who : Who) (ms : BitVec 6) (s : State) : Host.Outcome State Fault Refusal :=
  .next (s.regCmd who.val .MSU_CMD 0 (BitVec.ofNat 32 (0x80000000 + ms.toNat))).done

/-- MSU_CMD_SET_POLICY (R248). -/
def execMsuCmdSetPolicy (who : Who) (ms : BitVec 6) (abortLater : Bool) (s : State) : Host.Outcome State Fault Refusal :=
  .next (s.regCmd who.val .MSU_CMD 0 (BitVec.ofNat 32 (0xC0000000 + b2n abortLater * 256 + ms.toNat))).done

/-- MILESTONE_COMMIT (R257): the holds of a requested commit have cleared. -/
def execMilestoneCommit (ms : Fin 64) (s : State) : Host.Outcome State Fault Refusal :=
  .next (s.powered fun t => t.mileCommit ms.val).done

/-- FLASH_REC_PASSED (R257). -/
def execFlashRecPassed (ms : Fin 64) (s : State) : Host.Outcome State Fault Refusal :=
  .next (s.powered fun t => t.flashRecPass ms.val).done

/-- MILESTONE_WAIT_TIMEOUT (R260). -/
def execMilestoneWaitTimeout (ms : Fin 64) (s : State) : Host.Outcome State Fault Refusal :=
  .next (s.powered fun t => t.mileTimeout ms.val).done

/-- JOURNAL_RETIRE (R268). -/
def execJournalRetire (who : Who) (seq : Word) (s : State) : Host.Outcome State Fault Refusal :=
  .next (s.regCmd who.val .MSU_JRETIRE 0 seq).done

/-- MSU_REPLAY (R270). -/
def execMsuReplay (who : Who) (source : BitVec 2) (s : State) : Host.Outcome State Fault Refusal :=
  .next (s.regCmd who.val .MSU_REPLAY 0 (source.zeroExtend 32)).done

/-- REPLAY_DONE (R270, R276, R306). -/
def execReplayDone (s : State) : Host.Outcome State Fault Refusal :=
  .next (s.powered State.replayDone).done

end Sys2Proof.Machine
end

