-- ==== Sys2Proof/Machine/LineRows.lean ====
section
/-! DEFINITION. The meanings of the commands on the line ports (chapter 11). -/

namespace Sys2Proof.Machine

/-- The transport of a line port, and its exchange. -/
def lineTp (p : Fin 2) : Tp := if p = 0 then .lp0 else .lp1
def lineExch (p : Fin 2) : Exch := if p = 0 then .lp0 else .lp1

/-- A unit taken from a port (R284, R298, R302): CONFIRM, MGMT_DOWN or USER_DOWN by its type. -/
def State.lineUnit (s : State) (p : Fin 2) (typ : Nat) (u : Bytes) : State :=
  match typ with
  | 2 => s.lpConfirm p.val u
  | 3 => (s.publish (204 + 5 * p.val)).lineBytes (lineTp p) u
  | 7 => s.lpUserDown u
  | _ => s

/-- A unit reaches a port in UP. -/
def State.unitTaken (s : State) (p : Fin 2) (typ : Nat) (u : Bytes) : State :=
  if s.sysOn && s.lpState p.val == lpUpState then s.lineUnit p typ u else s

/-- A line block arrives; the last one of a unit for this node completes the unit (R283, R286, R295). -/
def State.lineBlock (s : State) (p : Fin 2) (raw : Bytes) : State :=
  match s.lpReceive p.val raw with
  | (some (typ, u), s1) => s1.lineUnit p typ u
  | (none, s1) => s1

/-- The line detector matches in DOZE: the wake pattern or energy, as LPn_WAKECFG.MODE selects, on an end-role port (R49, R300). -/
def State.lineWake (s : State) (p : Fin 2) (pattern : Bool) : State :=
  if s.lpRole p.val == 0 && (pattern || s.inFld F.LP_WAKECFG_MODE p.val == 1) then
    (if s.level = 2 then s.wakeDoze (lineExch p) else if s.sysOn && s.lpState p.val != lpUpState then s.wake (lineExch p) else s)
  else s

/-- LPN_WAKE_PEER (R299): a write of WAKE_PEER. -/
def execLpnWakePeer (who : Who) (port : Fin 2) (s : State) : Host.Outcome State Fault Refusal :=
  .next (s.regCmd who.val .LP_CTRL port.val 4#32).done

/-- LPN_CLR_CNT (R306): a write of CLR_CNT. -/
def execLpnClrCnt (who : Who) (port : Fin 2) (s : State) : Host.Outcome State Fault Refusal :=
  .next (s.regCmd who.val .LP_CTRL port.val 2#32).done

/-- LPN_RETRAIN (R292): a write of RETRAIN. -/
def execLpnRetrain (who : Who) (port : Fin 2) (s : State) : Host.Outcome State Fault Refusal :=
  .next (s.regCmd who.val .LP_CTRL port.val 1#32).done

/-- ANNOUNCE_TIMER (R287, R291). -/
def execAnnounceTimer (port : Fin 2) (s : State) : Host.Outcome State Fault Refusal :=
  .next (s.powered fun t => t.lpAnnounce port.val).done

/-- ANNOUNCE (R288: the mode, flags and node of the LINK block heard). -/
def execAnnounce (port : Fin 2) (mode flags : Byte) (node : Word) (s : State) : Host.Outcome State Fault Refusal :=
  .next (s.powered fun t => t.lpHearAnnounce port.val mode.toNat flags.toNat node).done

/-- ANSWER (R288: the mode, flags and node of the LINK block heard). -/
def execAnswer (port : Fin 2) (mode flags : Byte) (node : Word) (s : State) : Host.Outcome State Fault Refusal :=
  .next (s.powered fun t => t.lpHearAnswer port.val mode.toNat flags.toNat node).done

/-- TRAINING_START (R288, R291, R292). -/
def execTrainingStart (port : Fin 2) (s : State) : Host.Outcome State Fault Refusal :=
  .next (s.powered fun t => t.lpTrain port.val).done

/-- TRAINING_PHASE_END (R287). -/
def execTrainingPhaseEnd (port : Fin 2) (s : State) : Host.Outcome State Fault Refusal :=
  .next (s.powered fun t => t.lpPhaseEnd port.val).done

/-- SYNC_WORD_FOUND (R289: symbols that differ). -/
def execSyncWordFound (port : Fin 2) (errs : Byte) (s : State) : Host.Outcome State Fault Refusal :=
  .next (s.powered fun t => t.lpSyncFound port.val errs.toNat).done

/-- SYNC_SEARCH_FAIL (R291). -/
def execSyncSearchFail (port : Fin 2) (s : State) : Host.Outcome State Fault Refusal :=
  .next (s.powered fun t => t.lpSyncFail port.val).done

/-- CHECK_END (R290: the SNR measured, in 0.1 dB). -/
def execCheckEnd (port : Fin 2) (snr : Half) (s : State) : Host.Outcome State Fault Refusal :=
  .next (s.powered fun t => t.lpCheckEnd port.val snr.toNat).done

/-- VERDICT (R290). -/
def execVerdict (port : Fin 2) (pass : Bool) (s : State) : Host.Outcome State Fault Refusal :=
  .next (s.powered fun t => t.lpVerdict port.val pass).done

/-- VERDICT_TIMEOUT (R290). -/
def execVerdictTimeout (port : Fin 2) (s : State) : Host.Outcome State Fault Refusal :=
  .next (s.powered fun t => t.lpVerdictTimeout port.val).done

/-- ENERGY_LOSS (R292). -/
def execEnergyLoss (port : Fin 2) (s : State) : Host.Outcome State Fault Refusal :=
  .next (s.powered fun t => t.lpEnergyLoss port.val).done

/-- SNR_LOW (R292: the SNR averaged over 100 ms, in 0.1 dB). -/
def execSnrLow (port : Fin 2) (snr : Half) (s : State) : Host.Outcome State Fault Refusal :=
  .next (s.powered fun t => t.lpSnr port.val snr.toNat).done

/-- RETRAIN (R292). -/
def execRetrain (port : Fin 2) (s : State) : Host.Outcome State Fault Refusal :=
  .next (s.powered fun t => t.lpHearRetrain port.val).done

/-- MODE_UP_TIMER (R293). -/
def execModeUpTimer (port : Fin 2) (s : State) : Host.Outcome State Fault Refusal :=
  .next (s.powered fun t => t.lpModeUpTimer port.val).done

/-- MODE_UP (R293). -/
def execModeUp (port : Fin 2) (s : State) : Host.Outcome State Fault Refusal :=
  .next (s.powered fun t => t.lpHearModeUp port.val).done

/-- DOZING (R299). -/
def execDozing (port : Fin 2) (s : State) : Host.Outcome State Fault Refusal :=
  .next (s.powered fun t => t.lpHearDozing port.val).done

/-- LINE_WAKE_PATTERN_SENT (R299). -/
def execLineWakePatternSent (port : Fin 2) (s : State) : Host.Outcome State Fault Refusal :=
  .next (s.powered fun t => t.lpWakeSent port.val).done

/-- WAKE_WAIT_EXPIRY (R299). -/
def execWakeWaitExpiry (port : Fin 2) (s : State) : Host.Outcome State Fault Refusal :=
  .next (s.powered fun t => t.lpWakeExpiry port.val).done

/-- LINE_WAKE_DETECT (R49, R300): whether the wake pattern was there, or other energy alone. -/
def execLineWakeDetect (port : Fin 2) (pattern : Bool) (s : State) : Host.Outcome State Fault Refusal :=
  .next (s.lineWake port pattern).done

/-- BEACON_BURST_RECEIVED (R301: the 128 bytes of the block). -/
def execBeaconBurstReceived (port : Fin 2) (raw : Bytes) (s : State) : Host.Outcome State Fault Refusal :=
  .next (s.powered fun t => t.lpBeaconHeard port.val raw).done

/-- LINE_BLOCK_RECEIVED (R283, R286, R295): the 128 bytes of the block. -/
def execLineBlockReceived (port : Fin 2) (raw : Bytes) (s : State) : Host.Outcome State Fault Refusal :=
  .next (s.powered fun t => t.lineBlock port raw).done

/-- CONFIRM (R298, R306). -/
def execConfirm (port : Fin 2) (unit : Bytes) (s : State) : Host.Outcome State Fault Refusal :=
  .next (s.unitTaken port 2 unit).done

/-- MGMT_DOWN (R302). -/
def execMgmtDown (port : Fin 2) (unit : Bytes) (s : State) : Host.Outcome State Fault Refusal :=
  .next (s.unitTaken port 3 unit).done

/-- USER_DOWN (R284). -/
def execUserDown (port : Fin 2) (unit : Bytes) (s : State) : Host.Outcome State Fault Refusal :=
  .next (s.unitTaken port 7 unit).done

/-- RECORD_CONFIRM_TIMEOUT (R298). -/
def execRecordConfirmTimeout (seq : Word) (s : State) : Host.Outcome State Fault Refusal :=
  .next (s.powered fun t => t.recordTimeout seq.toNat).done

/-- TIME_SYNC_SEND (R304). -/
def execTimeSyncSend (port : Fin 2) (s : State) : Host.Outcome State Fault Refusal :=
  .next (s.powered fun t => t.timeSyncSend port.val).done

/-- TIME_SYNC (R304: the SYNC received, with t1). -/
def execTimeSync (port : Fin 2) (seq : Half) (sec : Word) (tick : BitVec 27) (frac : BitVec 4) 
    (s : State) : Host.Outcome State Fault Refusal :=
  .next (s.powered fun t => t.timeSync port.val seq.toNat ⟨sec.toNat, tick.toNat, frac.toNat⟩).done

/-- DELAY_REQ (R304). -/
def execDelayReq (port : Fin 2) (seq : Half) (s : State) : Host.Outcome State Fault Refusal :=
  .next (s.powered fun t => t.delayReq port.val seq.toNat).done

/-- DELAY_RESP (R305, R336: the DELAY_RESP received, with t4). -/
def execDelayResp (port : Fin 2) (seq : Half) (sec : Word) (tick : BitVec 27) (frac : BitVec 4) 
    (s : State) : Host.Outcome State Fault Refusal :=
  .next (s.powered fun t => t.delayResp port.val seq.toNat ⟨sec.toNat, tick.toNat, frac.toNat⟩).done

end Sys2Proof.Machine
end

