-- ==== Sys2Proof/Machine/TimeRows.lean ====
section
/-! DEFINITION. The meanings of the commands on the scheduler, network time, timers, the real-time clock and the event fabric (chapters 12, 13 and 14). -/

namespace Sys2Proof.Machine

/-- A compare unit whose armed value network time has reached fires (R340). -/
def State.compareFire (s : State) (k : Nat) : State :=
  if s.flag F.NTC_CMP_CTRL_ARMED k && s.ntReached (s.cmpVal k) then s.cmpFire k else s

/-- The load of network time from the RTC that is due after a reset or a wake (R334). -/
def State.ntRtcLoad (s : State) : State :=
  if s.ntc.loadDue then s.ntFromRtc.onNtc fun n => { n with loadDue := false } else s

/-- SCHED_BLOCK_CHOICE (R297, R311 to R318). -/
def execSchedBlockChoice (port : Fin 2) (s : State) : Host.Outcome State Fault Refusal :=
  .next (s.powered fun t => t.lpBoundary port.val).done

/-- SCHED_PUSH (R308): a write of SCHED_PUSH1. -/
def execSchedPush (who : Who) (w : Word) (s : State) : Host.Outcome State Fault Refusal :=
  .next (s.regCmd who.val .SCHED_PUSH1 0 w).done

/-- QUEUE_FLUSH (R325): a write of SCHED_CTRL with OP 1; RUN as it is. -/
def execQueueFlush (who : Who) (queue : Byte) (s : State) : Host.Outcome State Fault Refusal :=
  .next (s.regCmd who.val .SCHED_CTRL 0 ((s.reg .SCHED_CTRL &&& 0x100#32) + 0x40000000#32 + queue.zeroExtend 32)).done

/-- SCHED_RUN (R317): a write of SCHED_CTRL with RUN. -/
def execSchedRun (who : Who) (run : Bool) (s : State) : Host.Outcome State Fault Refusal :=
  .next (s.regCmd who.val .SCHED_CTRL 0 (if run then 0x100#32 else 0#32)).done

/-- SCHED_RRESULT_READ (R324). -/
def execSchedRresultRead (who : Who) (s : State) : Host.Outcome State Fault Refusal :=
  .next (s.readCmd who.val .SCHED_RRESULT 0).done

/-- BUCKET_REFILL (R316, R328): the refill of a multiple of 1,000 ticks that network time has reached. -/
def execBucketRefill (s : State) : Host.Outcome State Fault Refusal :=
  .next (s.powered State.refillDue).done

/-- GATE_ENTRY_CHANGE (R319). -/
def execGateEntryChange (port : Fin 2) (s : State) : Host.Outcome State Fault Refusal :=
  .next (s.powered fun t => t.gateMove port.val).done

/-- GATE_SWAP_REQUEST (R321): a write of SWAP. -/
def execGateSwapRequest (who : Who) (port : Fin 2) (w : Word) (s : State) : Host.Outcome State Fault Refusal :=
  .next (s.regCmd who.val .SCHED_GATE_CTRL port.val (w ||| 2#32)).done

/-- GATE_SWAP (R321). -/
def execGateSwap (port : Fin 2) (s : State) : Host.Outcome State Fault Refusal :=
  .next (s.powered fun t => t.gateSwap port.val).done

/-- NT_LOAD (R331): a write of LOAD. -/
def execNtLoad (who : Who) (s : State) : Host.Outcome State Fault Refusal :=
  .next (s.regCmd who.val .NTC_CTRL 0 1#32).done

/-- NT_STEP (R331): a write of STEP. -/
def execNtStep (who : Who) (s : State) : Host.Outcome State Fault Refusal :=
  .next (s.regCmd who.val .NTC_CTRL 0 2#32).done

/-- NT_CAPTURE (R330): a write of CAPTURE. -/
def execNtCapture (who : Who) (s : State) : Host.Outcome State Fault Refusal :=
  .next (s.regCmd who.val .NTC_CAPCMD 0 1#32).done

/-- NTC_TICK_READ (R329). -/
def execNtcTickRead (who : Who) (s : State) : Host.Outcome State Fault Refusal :=
  .next (s.readCmd who.val .NTC_TICK 0).done

/-- DISC_HOLDOVER_EXPIRY (R337). -/
def execDiscHoldoverExpiry (s : State) : Host.Outcome State Fault Refusal :=
  .next (s.powered State.ntHoldover).done

/-- NT_FRC_CORRECTION (R333): the signed correction in ticks, as measured. -/
def execNtFrcCorrection (ticks : Word) (s : State) : Host.Outcome State Fault Refusal :=
  .next (s.powered fun t => t.ntFrcCorrection ticks.toInt).done

/-- NT_LOAD_FROM_RTC (R334). -/
def execNtLoadFromRtc (s : State) : Host.Outcome State Fault Refusal :=
  .next (s.powered State.ntRtcLoad).done

/-- RTC_OFFSET_SYNC (R335). -/
def execRtcOffsetSync (s : State) : Host.Outcome State Fault Refusal :=
  .next (s.powered State.ntOfsSync).done

/-- COMPARE_ARM (R340): a write of NTC_CMPk_TICK. -/
def execCompareArm (who : Who) (cmp : Fin 16) (w : Word) (s : State) : Host.Outcome State Fault Refusal :=
  .next (s.regCmd who.val .NTC_CMP_TICK cmp.val w).done

/-- COMPARE_DISARM (R340): a write of DISARM; OWNER and SKIP as they are. -/
def execCompareDisarm (who : Who) (cmp : Fin 16) (s : State) : Host.Outcome State Fault Refusal :=
  .next (s.regCmd who.val .NTC_CMP_CTRL cmp.val ((s.reg .NTC_CMP_CTRL cmp.val &&& 0xD0000000#32) ||| 4#32)).done

/-- COMPARE_FIRE (R340). -/
def execCompareFire (cmp : Fin 16) (s : State) : Host.Outcome State Fault Refusal :=
  .next (s.powered fun t => t.compareFire cmp.val).done

/-- TIMER_START (R343, R344): a write of TMR_n_CTRL with EN 1. -/
def execTimerStart (who : Who) (timer : Fin 32) (w : Word) (s : State) : Host.Outcome State Fault Refusal :=
  .next (s.regCmd who.val .TMR_CTRL timer.val ((w &&& 0xFFFFFFFC#32) ||| 1#32)).done

/-- TIMER_STOP (R343, R344): a write of TMR_n_CTRL with EN 0. -/
def execTimerStop (who : Who) (timer : Fin 32) (w : Word) (s : State) : Host.Outcome State Fault Refusal :=
  .next (s.regCmd who.val .TMR_CTRL timer.val (w &&& 0xFFFFFFFC#32)).done

/-- TIMER_RESTART (R343): a write of TMR_n_CTRL with RESTART. -/
def execTimerRestart (who : Who) (timer : Fin 32) (w : Word) (s : State) : Host.Outcome State Fault Refusal :=
  .next (s.regCmd who.val .TMR_CTRL timer.val (w ||| 2#32)).done

/-- TIMER_COUNT_WRITE (R343, R344). -/
def execTimerCountWrite (who : Who) (timer : Fin 32) (w : Word) (s : State) : Host.Outcome State Fault Refusal :=
  .next (s.regCmd who.val .TMR_COUNT timer.val w).done

/-- TIMER_EXPIRY (R343 to R346): the expiry of a timer whose count has run out in this cycle (log entry 6). -/
def execTimerExpiry (timer : Fin 32) (s : State) : Host.Outcome State Fault Refusal :=
  .next (s.powered (State.tmrTake timer.val)).done

/-- RTC_HALT (R352, R353): a write of HALT 1. -/
def execRtcHalt (who : Who) (s : State) : Host.Outcome State Fault Refusal :=
  .next (s.regCmd who.val .RTC_CTRL 0 1#32).done

/-- RTC_RELEASE (R352, R353): a write of HALT 0. -/
def execRtcRelease (who : Who) (s : State) : Host.Outcome State Fault Refusal :=
  .next (s.regCmd who.val .RTC_CTRL 0 0#32).done

/-- RTC_CAPTURE (R352, R354): a write of CAPTURE; HALT as it is. -/
def execRtcCapture (who : Who) (s : State) : Host.Outcome State Fault Refusal :=
  .next (s.regCmd who.val .RTC_CTRL 0 (0x100#32 + BitVec.ofNat 32 (s.fld F.RTC_CTRL_HALT))).done

/-- RTC_ADJ (R352, R355). -/
def execRtcAdj (who : Who) (seconds : BitVec 24) (s : State) : Host.Outcome State Fault Refusal :=
  .next (s.regCmd who.val .RTC_ADJ 0 (seconds.zeroExtend 32)).done

/-- RTC_SECOND (R356). -/
def execRtcSecond (s : State) : Host.Outcome State Fault Refusal :=
  .next (s.rtcSecond).done

/-- VBAK_MEASURE (R359): VBAK in mV. -/
def execVbakMeasure (mv : Half) (s : State) : Host.Outcome State Fault Refusal :=
  .next (s.vbakCheck mv.toNat).done

/-- BACKUP_POWER_UP (R56, R351). -/
def execBackupPowerUp (s : State) : Host.Outcome State Fault Refusal :=
  .next (s.backupUp).done

/-- XT32_START (R522). -/
def execXt32Start (s : State) : Host.Outcome State Fault Refusal :=
  .next (s.xt32Good).done

/-- RTC_WRITE_DONE (R352). -/
def execRtcWriteDone (s : State) : Host.Outcome State Fault Refusal :=
  .next (s.rtcWriteDone).done

/-- RTC_CAPTURE_DONE (R354). -/
def execRtcCaptureDone (s : State) : Host.Outcome State Fault Refusal :=
  .next (s.rtcCaptureDone).done

/-- GPIO_EDGE (R362). -/
def execGpioEdge (pin : Fin 24) (rising : Bool) (s : State) : Host.Outcome State Fault Refusal :=
  .next (s.gpioEdge pin.val rising).done

/-- EVF_FIRE (R369). -/
def execEvfFire (who : Who) (channel : Byte) (s : State) : Host.Outcome State Fault Refusal :=
  .next (s.regCmd who.val .EVF_FIRE 0 (channel.zeroExtend 32)).done

/-- CONSUMER_ACTIVATION (R363 to R367): the events of the oldest cycle in the fabric. -/
def execConsumerActivation (s : State) : Host.Outcome State Fault Refusal :=
  .next (s.consumersActivate).done

/-- EVF_GRP_SET (R374). -/
def execEvfGrpSet (who : Who) (groups : Half) (s : State) : Host.Outcome State Fault Refusal :=
  .next (s.regCmd who.val .EVF_GRP_SET 0 (groups.zeroExtend 32)).done

/-- EVF_GRP_CLR (R374). -/
def execEvfGrpClr (who : Who) (groups : Half) (s : State) : Host.Outcome State Fault Refusal :=
  .next (s.regCmd who.val .EVF_GRP_CLR 0 (groups.zeroExtend 32)).done

/-- CLR_COAL (R366): a write of CLR_COAL. -/
def execClrCoal (who : Who) (consumer : Fin 320) (s : State) : Host.Outcome State Fault Refusal :=
  .next (s.regCmd who.val .EVF_CSTAT consumer.val 0x20000000#32).done

/-- CORE_RELEASE (R381). -/
def execCoreRelease (who : Who) (w : Word) (s : State) : Host.Outcome State Fault Refusal :=
  .next (s.regCmd who.val .SYSCTL_CORE_EN 0 w).done

end Sys2Proof.Machine
end

