-- ==== Sys2Proof/Machine/StoreRows.lean ====
section
/-! DEFINITION. The meanings of the commands on SRAM, flash, OTP, DRAM, the contactless block, errors and availability (chapters 16 to 19). -/

namespace Sys2Proof.Machine

/-- Whether the Supervisor's wear management covers an offset (R436): the page region, the directory, the image slots, the Last Mile area and
the rest of the first MiB, where the configuration image lies (log entry 42). -/
def State.patrolled (s : State) (off : Nat) : Bool :=
  s.flRegion off == 1 || (s.flRegion off == 0 && (off < 8192 || (32768 ≤ off && off < 1048576) || s.inSlots off ||
    (s.areaOk && off / 1048576 == s.lmArea)))

/-- The programs that copy a native sector: a line at once, or the words of it that are programmed (R421). -/
def State.sectorPieces (s : State) (a t : Nat) : List Piece :=
  (List.range 128).flatMap fun l =>
    let w := (List.range 8).filter fun k => s.marked (a / 4 + 8 * l + k)
    if w.length = 8 then [⟨1, t + 32 * l, s.bytes (flashBase + a + 32 * l) 32⟩]
    else w.map fun k => ⟨1, t + 32 * l + 4 * k, s.bytes (flashBase + a + 32 * l + 4 * k) 4⟩

/-- The page programs that copy a compatibility block (R422). -/
def State.blockPieces (s : State) (a t : Nat) : List Piece :=
  ((List.range 64).filter fun p => s.pageMarked (s.flBlock a) p).map fun p => ⟨2, t + 2048 * p, s.bytes (flashBase + a + 2048 * p) 2048⟩

/-- The erased compatibility blocks that the Supervisor may take. -/
def State.spareBlocks (s : State) : List Nat :=
  (List.range (256 - 16 * s.partB)).filter fun c => s.blockFree c && !s.moveTarget (s.partB * 1048576 + c * 131072) 131072

/-- The Supervisor begins a move: its flash commands, then the reference by a FLASH_REC, then the erase of the old unit (R436). -/
def State.moveBegin (s : State) (own : List Piece) (old kind ref : Nat) (record : Bytes) : State :=
  let j : Job := { hdr := { tp := .hport, seq := 0, crc := 0, auth := false, counter := 0, tagOk := false }, opcode := 0x10000, arg := ref,
                   par := leBytes 4 old ++ [BitVec.ofNat 8 kind], data := record, own }
  s.onHcp fun x => { x with jobs := Tab.put x.jobs x.nextJob j, nextJob := x.nextJob + 1 }

/-- Move the content of a sector or block to an erased one with the lowest erase count, its reference by a FLASH_REC of a milestone, and
erase the old one (R436; log entry 71). A directory goes into the sector of the other copy, under the next sequence number. -/
def State.flashRefresh (s : State) (off target ref : Nat) (record : Bytes) : State :=
  let size := if s.flRegion off = 0 then 4096 else 131072
  let base := if s.flRegion off = 0 then 0 else s.partB * 1048576
  let old := base + (off - base) / size * size
  let moving := s.hcp.jobs.any fun e => e.2.isOwn && leNat (e.2.par.take 4) == old
  if moving then s
  else if old < 8192 then match s.bootDir with
    | some d => s.moveBegin [⟨3, (1 - d.sector) * 4096, []⟩] (d.sector * 4096) 0 ((1 - d.sector) * 4096)
        { d with sector := 1 - d.sector, seq := d.seq + 1 }.bytes
    | none => s
  else if !s.readable old size ∨ s.flRegion ref ≠ 0 ∨ ref % 32 ≠ 0 ∨ record.length ≠ 32 then s
  else if s.flRegion off = 0 then match s.wearTarget (fun u => u) s.spareSectors (target / 4096) with
    | some t => s.moveBegin (s.sectorPieces old (t * 4096)) old 0 ref record
    | none => s
  else match s.wearTarget (fun c => 4096 + c) s.spareBlocks ((target - base) / 131072) with
    | some c => s.moveBegin (s.blockPieces old (base + c * 131072)) old 1 ref record
    | none => s

/-- The Supervisor's patrol reads a line from the array, in which `bits` bits are found in error, and refreshes its sector or block when the
read raises WARN (R436). -/
def State.flashPatrol (s : State) (off bits target ref : Nat) (record : Bytes) : State :=
  if !s.sysOn || !s.pwr.up || s.inRoadside || !s.patrolled off || s.bankBusy off then s
  else if s.readBarred off then s.setFld F.FLC_RDSTAT_PARTIAL_RD 1
  else
    let s1 := s.onFlc fun f => { f with errs := Tab.putD f.errs (off / 32) 0 bits }
    match s1.arrayRead true (off / 32) with
    | (.data n, s2) => if n ≥ s1.warnAt then s2.flashRefresh off target ref record else s2
    | (_, s2) => s2

/-- A scrubber's read of a word, with the bits found in error (R410): a single one is corrected and written back. A line of an
instruction cache is refilled later, so it is invalidated. -/
def State.scrubWord (s : State) (w : RamWord) (bits : Nat) : State :=
  match w with
  | .icache c pos => if bits = 0 then s else s.icDrop c pos
  | _ => ((if bits = 0 then s else s.upsetRam w bits).checkRam w).2

/-- The scrubber of a bank reads its next word and moves on, round the bank; it stands still while the bank's domain is unpowered (R411). -/
def State.sramScrub (s : State) (b bits : Nat) : State :=
  if bankCluster b ≠ 0 ∧ !s.userOn then s
  else
    let pos := Tab.getD s.sram.scrub b 0
    (s.scrubWord (bankWord b pos) bits).onSram fun r => { r with scrub := Tab.putD r.scrub b 0 ((pos + 1) % bankSize b) }

/-- SRAM_SCRUB_READ (R410, R411): the bank whose scrubber reads, and the bits in error of the word it finds. -/
def execSramScrubRead (bank : Fin 80) (bits : Fin 3) (s : State) : Host.Outcome State Fault Refusal :=
  .next (s.powered fun t => t.sramScrub bank.val bits.val).done

/-- PROGRAM (R421, R423: a write of FLC_CMD with OP 1). -/
def execProgram (who : Who) (nwords : BitVec 3) (offset : BitVec 25) (s : State) : Host.Outcome State Fault Refusal :=
  .next (s.regCmd who.val .FLC_CMD 0 (BitVec.ofNat 32 (0x10000000 + nwords.toNat * 0x2000000 + offset.toNat))).done

/-- PAGE (R422, R423: a write of FLC_CMD with OP 2). -/
def execPage (who : Who) (offset : BitVec 25) (s : State) : Host.Outcome State Fault Refusal :=
  .next (s.regCmd who.val .FLC_CMD 0 (BitVec.ofNat 32 (0x20000000 + offset.toNat))).done

/-- SERASE (R423, R424: a write of FLC_CMD with OP 3). -/
def execSerase (who : Who) (offset : BitVec 25) (s : State) : Host.Outcome State Fault Refusal :=
  .next (s.regCmd who.val .FLC_CMD 0 (BitVec.ofNat 32 (0x30000000 + offset.toNat))).done

/-- BERASE (R423, R424: a write of FLC_CMD with OP 4). -/
def execBerase (who : Who) (offset : BitVec 25) (s : State) : Host.Outcome State Fault Refusal :=
  .next (s.regCmd who.val .FLC_CMD 0 (BitVec.ofNat 32 (0x40000000 + offset.toNat))).done

/-- SUSPEND (R424: a write of FLC_CMD with OP 5). -/
def execSuspend (who : Who) (offset : BitVec 25) (s : State) : Host.Outcome State Fault Refusal :=
  .next (s.regCmd who.val .FLC_CMD 0 (BitVec.ofNat 32 (0x50000000 + offset.toNat))).done

/-- RESUME (R424: a write of FLC_CMD with OP 6). -/
def execResume (who : Who) (offset : BitVec 25) (s : State) : Host.Outcome State Fault Refusal :=
  .next (s.regCmd who.val .FLC_CMD 0 (BitVec.ofNat 32 (0x60000000 + offset.toNat))).done

/-- BLANK (R425: a write of FLC_CMD with OP 7). -/
def execBlank (who : Who) (offset : BitVec 25) (s : State) : Host.Outcome State Fault Refusal :=
  .next (s.regCmd who.val .FLC_CMD 0 (BitVec.ofNat 32 (0x70000000 + offset.toNat))).done

/-- MARK_BAD (R433: a write of FLC_CMD with OP 8). -/
def execMarkBad (who : Who) (offset : BitVec 25) (s : State) : Host.Outcome State Fault Refusal :=
  .next (s.regCmd who.val .FLC_CMD 0 (BitVec.ofNat 32 (0x80000000 + offset.toNat))).done

/-- FLASH_COMMAND_START (R423, R429). -/
def execFlashCommandStart (s : State) : Host.Outcome State Fault Refusal :=
  .next (s.powered State.flcStart).done

/-- PROGRAM_PULSE_END (R421, R433: whether the words verify). -/
def execProgramPulseEnd (bank : Fin 4) (verified : Bool) (s : State) : Host.Outcome State Fault Refusal :=
  .next (s.powered fun t => t.flcProgramEnd bank.val verified).done

/-- PAGE_PULSE_END (R422, R429: whether it is the last pulse, and whether the page verifies). -/
def execPagePulseEnd (last verified : Bool) (s : State) : Host.Outcome State Fault Refusal :=
  .next (s.powered fun t => t.flcPageEnd last verified).done

/-- ERASE_SUBPULSE_END (R424, R433: whether the target verifies). -/
def execEraseSubpulseEnd (verified : Bool) (s : State) : Host.Outcome State Fault Refusal :=
  .next (s.powered fun t => t.flcErasePulse verified).done

/-- BLANK_DONE (R425, R426). -/
def execBlankDone (s : State) : Host.Outcome State Fault Refusal :=
  .next (s.powered State.flcBlankDone).done

/-- FLC_RESULT_READ (R426). -/
def execFlcResultRead (who : Who) (s : State) : Host.Outcome State Fault Refusal :=
  .next (s.readCmd who.val .FLC_RESULT 0).done

/-- OTP_PROGRAM_HALF (R438): a write of OTP_CTRL with the key and OP 1. -/
def execOtpProgramHalf (who : Who) (row : BitVec 7) (high : Bool) (s : State) : Host.Outcome State Fault Refusal :=
  .next (s.regCmd who.val .OTP_CTRL 0 (BitVec.ofNat 32 (0x4F544000 + b2n high * 8192 + row.toNat))).done

/-- OTP_PROGRAM_FUSE (R441): a write of OTP_CTRL with the key and OP 2. -/
def execOtpProgramFuse (who : Who) (row : BitVec 7) (high : Bool) (s : State) : Host.Outcome State Fault Refusal :=
  .next (s.regCmd who.val .OTP_CTRL 0 (BitVec.ofNat 32 (0x4F548000 + b2n high * 8192 + row.toNat))).done

/-- OTP_RELOAD (R439): a write of OTP_CTRL with the key and OP 3. -/
def execOtpReload (who : Who) (s : State) : Host.Outcome State Fault Refusal :=
  .next (s.regCmd who.val .OTP_CTRL 0 0x4F54C000#32).done

/-- OTP_PROGRAM_DONE (R438, R442: whether a trip cut it, and whether the CRC verifies). -/
def execOtpProgramDone (cut crcOk : Bool) (s : State) : Host.Outcome State Fault Refusal :=
  .next (s.powered fun t => t.fusesAct (t.otpDone cut crcOk)).done

/-- DMC_INIT (R453): a write of INIT. -/
def execDmcInit (who : Who) (s : State) : Host.Outcome State Fault Refusal :=
  .next (s.regCmd who.val .DMC_CTRL 0 1#32).done

/-- DMC_STOP (R453): a write of STOP. -/
def execDmcStop (who : Who) (s : State) : Host.Outcome State Fault Refusal :=
  .next (s.regCmd who.val .DMC_CTRL 0 2#32).done

/-- DMC_FILL_DONE (R453, R454: the address that the fill has passed). -/
def execDmcFillDone (pos : Word) (s : State) : Host.Outcome State Fault Refusal :=
  .next (s.powered fun t => t.dmcFill pos).done

/-- DRAM_REFRESH (R448, R457). -/
def execDramRefresh (postpone : Bool) (s : State) : Host.Outcome State Fault Refusal :=
  .next (s.powered fun t => t.dmcRefresh postpone).done

/-- MR4_CHECK (R448: the refresh rate read, and whether it lies above the limit). -/
def execMr4Check (rate : Byte) (hot : Bool) (s : State) : Host.Outcome State Fault Refusal :=
  .next (s.powered fun t => t.dmcMr4 rate.toNat hot).done

/-- TRACKING_PAUSE (R449, R450: the drift measured, and the eyes an urgent re-centre would find). -/
def execTrackingPause (drift : Byte) (rd wr : Byte) (s : State) : Host.Outcome State Fault Refusal :=
  .next (s.powered fun t => t.dmcTrack drift rd.toNat wr.toNat).done

/-- RECENTRE_STEP (R449, R450: the eyes found by its end). -/
def execRecentreStep (rd wr : Byte) (s : State) : Host.Outcome State Fault Refusal :=
  .next (s.powered fun t => t.dmcStep rd.toNat wr.toNat).done

/-- DRAM_SCRUB_READ (R451, R452: the bits in error of the unit read). -/
def execDramScrubRead (bits : Fin 3) (s : State) : Host.Outcome State Fault Refusal :=
  .next (s.powered fun t => t.dmcScrub bits.val).done

/-- DMC_READY (R34, R443, R453, R455: what training found, and how it ended). -/
def execDmcReady (mr8 gb : Byte) (ranks : BitVec 4) (typeOk : Bool) (fail : TrainEnd) (s : State) : Host.Outcome State Fault Refusal :=
  .next (s.powered fun t => (t.dmcTrained mr8 gb.toNat ranks.toNat typeOk fail.fail.toNat fail.kept).dupPlace).done

/-- FIELD_ON (R462). -/
def execFieldOn (s : State) : Host.Outcome State Fault Refusal :=
  .next (s.fieldAppears).done

/-- FIELD_LOSS (R462). -/
def execFieldLoss (s : State) : Host.Outcome State Fault Refusal :=
  .next (s.fieldLost).done

/-- FIELD_OFF (R462). -/
def execFieldOff (s : State) : Host.Outcome State Fault Refusal :=
  .next (s.fieldGone).done

/-- REQA (R459, R460). -/
def execReqa (s : State) : Host.Outcome State Fault Refusal :=
  .next (s.tagWake).done

/-- WUPA (R459, R460). -/
def execWupa (s : State) : Host.Outcome State Fault Refusal :=
  .next (s.tagWake).done

/-- ANTICOLLISION (R459): the level and the UID bits known, lowest first. -/
def execAnticollision (sel : Byte) (known : List Bool) (s : State) : Host.Outcome State Fault Refusal :=
  .next (s.tagAnticol sel known).done

/-- SELECT (R460): the level and its four bytes. -/
def execSelect (sel : Byte) (uid : Bytes) (s : State) : Host.Outcome State Fault Refusal :=
  .next (s.tagSelect sel uid).done

/-- HLTA (R461). -/
def execHlta (s : State) : Host.Outcome State Fault Refusal :=
  .next (s.tagHalt).done

/-- GET_ID (R464). -/
def execGetId (params : Bytes) (s : State) : Host.Outcome State Fault Refusal :=
  .next (s.tagGetId params).done

/-- GET_STATUS, and a command with an undefined code (R465, R471). -/
def execGetStatus (frame : StatusFrame) (s : State) : Host.Outcome State Fault Refusal :=
  match frame with
  | .own params => .next (s.tagGetStatus params).done
  | .undefined _ _ => .next s.tagUndefined.done

/-- READ (R469). -/
def execRead (frame : MemFrame) (s : State) : Host.Outcome State Fault Refusal :=
  .next ((s.tagUpset frame).tagRead frame.params).done

/-- WRITE (R469). -/
def execWrite (frame : MemFrame) (s : State) : Host.Outcome State Fault Refusal :=
  .next ((s.tagUpset frame).tagWrite frame.params).done

/-- AUTH1 (R466). -/
def execAuth1 (params : Bytes) (s : State) : Host.Outcome State Fault Refusal :=
  .next (s.tagAuth1 params).done

/-- AUTH2 (R466). -/
def execAuth2 (params : Bytes) (s : State) : Host.Outcome State Fault Refusal :=
  .next (s.tagAuth2 params).done

/-- END (R464). -/
def execEndSession (params : Bytes) (s : State) : Host.Outcome State Fault Refusal :=
  .next (s.tagEnd params).done

/-- QUIET_EXPIRY (R461). -/
def execQuietExpiry (s : State) : Host.Outcome State Fault Refusal :=
  .next (s.quietEnd).done

/-- LOCKOUT_EXPIRY (R468). -/
def execLockoutExpiry (s : State) : Host.Outcome State Fault Refusal :=
  .next (s.lockoutEnd).done

/-- HOLD_REQUEST (R470): a write of REQ. -/
def execHoldRequest (who : Who) (s : State) : Host.Outcome State Fault Refusal :=
  .next (s.regCmd who.val .CTL_HOLD 0 1#32).done

/-- HOLD_TIMEOUT (R470). -/
def execHoldTimeout (s : State) : Host.Outcome State Fault Refusal :=
  .next (s.powered State.holdTimeout).done

/-- PAD_POLL (R475): the count measured. -/
def execPadPoll (count : BitVec 12) (s : State) : Host.Outcome State Fault Refusal :=
  .next (s.padPoll count.toNat).done

/-- READER_ANSWER (R474: the bytes of the answer, and the first bit in collision). -/
def execReaderAnswer (answer : Bytes) (collision : Option (Fin 40)) (s : State) : Host.Outcome State Fault Refusal :=
  .next (if s.ctlRuns then s.rdAnswer answer (collision.map Fin.val) else s).done

/-- READER_ANSWER_TIMEOUT (R474). -/
def execReaderAnswerTimeout (s : State) : Host.Outcome State Fault Refusal :=
  .next (if s.ctlRuns then s.rdTimeout else s).done

/-- CARRIER_RETRY (R473). -/
def execCarrierRetry (s : State) : Host.Outcome State Fault Refusal :=
  .next (if s.ctlRuns then s.rdCarrierRetry else s).done

/-- PROVISION_WAIT_TIMEOUT (R477). -/
def execProvisionWaitTimeout (s : State) : Host.Outcome State Fault Refusal :=
  .next (s.powered State.provisionTimeout).done

/-- READER_RETRY (R476). -/
def execReaderRetry (s : State) : Host.Outcome State Fault Refusal :=
  .next (if s.ctlRuns then s.rdRetry else s).done

/-- S3_ERROR (R486): source and information word. -/
def execS3Error (source : BitVec 12) (info : Word) (s : State) : Host.Outcome State Fault Refusal :=
  .next (s.powered fun t => t.s3 source.toNat info).done

/-- ERR_ACK (R483). -/
def execErrAck (who : Who) (w : Word) (s : State) : Host.Outcome State Fault Refusal :=
  .next (s.regCmd who.val .ERR_ACK 0 w).done

/-- ERR_REPORT (R487). -/
def execErrReport (who : Who) (w : Word) (s : State) : Host.Outcome State Fault Refusal :=
  .next (s.regCmd who.val .ERR_REPORT (clusterOfWho (s.actsAs who.val)) w).done

/-- WDT_KICK (R492). -/
def execWdtKick (who : Who) (wdt : Fin 4) (w : Word) (s : State) : Host.Outcome State Fault Refusal :=
  .next (s.regCmd who.val .ERR_WDT_KICK wdt.val w).done

/-- WATCHDOG_EXPIRY (R493). -/
def execWatchdogExpiry (wdt : Fin 4) (env : BootEnv) (s : State) : Host.Outcome State Fault Refusal :=
  .next ((s.setEnv env).wdtExpire wdt.val).done

/-- HELD_RESET_TAKEN (R493, R495). -/
def execHeldResetTaken (env : BootEnv) (s : State) : Host.Outcome State Fault Refusal :=
  .next ((s.setEnv env).heldReset).done

/-- CONSEC_CLEAR (R494). -/
def execConsecClear (s : State) : Host.Outcome State Fault Refusal :=
  .next (s.consecClear).done

/-- TELEMETRY_SNAPSHOT (R504): die temperature and margin as measured. -/
def execTelemetrySnapshot (temp margin : Half) (s : State) : Host.Outcome State Fault Refusal :=
  .next (s.telSnap temp margin).done

/-- AGEING_CHECK (R502). -/
def execAgeingCheck (s : State) : Host.Outcome State Fault Refusal :=
  .next (s.ageing).done

/-- FLASH_PATROL (R436): the line read with its bits in error, and the target, reference line and reference record of a refresh. -/
def execFlashPatrol (offset : BitVec 25) (bits : Byte) (target ref : BitVec 25) (record : Bytes) 
    (s : State) : Host.Outcome State Fault Refusal :=
  .next (s.flashPatrol offset.toNat bits.toNat target.toNat ref.toNat record).done

end Sys2Proof.Machine
end

