-- ==== Sys2Proof/Machine/CoreRows.lean ====
section
/-! DEFINITION. The meanings of the instructions of the Merzetil cores (chapter 15): each runs on the core that the command names, at its pc. -/

namespace Sys2Proof.Machine

/-- ADD (R394). -/
def execAdd (core : CoreNo) (rd rs1 rs2 : RegF) (s : State) : Host.Outcome State Fault Refusal :=
  .next (s.runLong core (.rr .add rd rs1 rs2))

/-- SUB (R394). -/
def execSub (core : CoreNo) (rd rs1 rs2 : RegF) (s : State) : Host.Outcome State Fault Refusal :=
  .next (s.runLong core (.rr .sub rd rs1 rs2))

/-- AND (R394). -/
def execAnd (core : CoreNo) (rd rs1 rs2 : RegF) (s : State) : Host.Outcome State Fault Refusal :=
  .next (s.runLong core (.rr .and rd rs1 rs2))

/-- OR (R394). -/
def execOr (core : CoreNo) (rd rs1 rs2 : RegF) (s : State) : Host.Outcome State Fault Refusal :=
  .next (s.runLong core (.rr .or rd rs1 rs2))

/-- XOR (R394). -/
def execXor (core : CoreNo) (rd rs1 rs2 : RegF) (s : State) : Host.Outcome State Fault Refusal :=
  .next (s.runLong core (.rr .xor rd rs1 rs2))

/-- SHL (R394). -/
def execShl (core : CoreNo) (rd rs1 rs2 : RegF) (s : State) : Host.Outcome State Fault Refusal :=
  .next (s.runLong core (.rr .shl rd rs1 rs2))

/-- SHRU (R394). -/
def execShru (core : CoreNo) (rd rs1 rs2 : RegF) (s : State) : Host.Outcome State Fault Refusal :=
  .next (s.runLong core (.rr .shru rd rs1 rs2))

/-- SHRS (R394). -/
def execShrs (core : CoreNo) (rd rs1 rs2 : RegF) (s : State) : Host.Outcome State Fault Refusal :=
  .next (s.runLong core (.rr .shrs rd rs1 rs2))

/-- MUL (R394). -/
def execMul (core : CoreNo) (rd rs1 rs2 : RegF) (s : State) : Host.Outcome State Fault Refusal :=
  .next (s.runLong core (.rr .mul rd rs1 rs2))

/-- MULHI (R394). -/
def execMulhi (core : CoreNo) (rd rs1 rs2 : RegF) (s : State) : Host.Outcome State Fault Refusal :=
  .next (s.runLong core (.rr .mulhi rd rs1 rs2))

/-- MULHIU (R394). -/
def execMulhiu (core : CoreNo) (rd rs1 rs2 : RegF) (s : State) : Host.Outcome State Fault Refusal :=
  .next (s.runLong core (.rr .mulhiu rd rs1 rs2))

/-- MIN (R394). -/
def execMin (core : CoreNo) (rd rs1 rs2 : RegF) (s : State) : Host.Outcome State Fault Refusal :=
  .next (s.runLong core (.rr .min rd rs1 rs2))

/-- MAX (R394). -/
def execMax (core : CoreNo) (rd rs1 rs2 : RegF) (s : State) : Host.Outcome State Fault Refusal :=
  .next (s.runLong core (.rr .max rd rs1 rs2))

/-- CEQ (R394). -/
def execCeq (core : CoreNo) (rd rs1 rs2 : RegF) (s : State) : Host.Outcome State Fault Refusal :=
  .next (s.runLong core (.rr .ceq rd rs1 rs2))

/-- CNE (R394). -/
def execCne (core : CoreNo) (rd rs1 rs2 : RegF) (s : State) : Host.Outcome State Fault Refusal :=
  .next (s.runLong core (.rr .cne rd rs1 rs2))

/-- CLT (R394). -/
def execClt (core : CoreNo) (rd rs1 rs2 : RegF) (s : State) : Host.Outcome State Fault Refusal :=
  .next (s.runLong core (.rr .clt rd rs1 rs2))

/-- CLTU (R394). -/
def execCltu (core : CoreNo) (rd rs1 rs2 : RegF) (s : State) : Host.Outcome State Fault Refusal :=
  .next (s.runLong core (.rr .cltu rd rs1 rs2))

/-- CGE (R394). -/
def execCge (core : CoreNo) (rd rs1 rs2 : RegF) (s : State) : Host.Outcome State Fault Refusal :=
  .next (s.runLong core (.rr .cge rd rs1 rs2))

/-- CGEU (R394). -/
def execCgeu (core : CoreNo) (rd rs1 rs2 : RegF) (s : State) : Host.Outcome State Fault Refusal :=
  .next (s.runLong core (.rr .cgeu rd rs1 rs2))

/-- ADDQ15 (R389 to R391, R393). -/
def execAddq15 (core : CoreNo) (rd rs1 rs2 : RegF) (s : State) : Host.Outcome State Fault Refusal :=
  .next (s.runLong core (.rr .addq15 rd rs1 rs2))

/-- SUBQ15 (R389 to R391, R393). -/
def execSubq15 (core : CoreNo) (rd rs1 rs2 : RegF) (s : State) : Host.Outcome State Fault Refusal :=
  .next (s.runLong core (.rr .subq15 rd rs1 rs2))

/-- MULQ15 (R389 to R391, R393). -/
def execMulq15 (core : CoreNo) (rd rs1 rs2 : RegF) (s : State) : Host.Outcome State Fault Refusal :=
  .next (s.runLong core (.rr .mulq15 rd rs1 rs2))

/-- ABSQ15 (R389 to R391, R393). -/
def execAbsq15 (core : CoreNo) (rd rs1 rs2 : RegF) (s : State) : Host.Outcome State Fault Refusal :=
  .next (s.runLong core (.rr .absq15 rd rs1 rs2))

/-- NEGQ15 (R389 to R391, R393). -/
def execNegq15 (core : CoreNo) (rd rs1 rs2 : RegF) (s : State) : Host.Outcome State Fault Refusal :=
  .next (s.runLong core (.rr .negq15 rd rs1 rs2))

/-- SHLQ15 (R389 to R391, R393). -/
def execShlq15 (core : CoreNo) (rd rs1 rs2 : RegF) (s : State) : Host.Outcome State Fault Refusal :=
  .next (s.runLong core (.rr .shlq15 rd rs1 rs2))

/-- ADDQ31 (R389 to R391, R393). -/
def execAddq31 (core : CoreNo) (rd rs1 rs2 : RegF) (s : State) : Host.Outcome State Fault Refusal :=
  .next (s.runLong core (.rr .addq31 rd rs1 rs2))

/-- SUBQ31 (R389 to R391, R393). -/
def execSubq31 (core : CoreNo) (rd rs1 rs2 : RegF) (s : State) : Host.Outcome State Fault Refusal :=
  .next (s.runLong core (.rr .subq31 rd rs1 rs2))

/-- MULQ31 (R389 to R391, R393). -/
def execMulq31 (core : CoreNo) (rd rs1 rs2 : RegF) (s : State) : Host.Outcome State Fault Refusal :=
  .next (s.runLong core (.rr .mulq31 rd rs1 rs2))

/-- ABSQ31 (R389 to R391, R393). -/
def execAbsq31 (core : CoreNo) (rd rs1 rs2 : RegF) (s : State) : Host.Outcome State Fault Refusal :=
  .next (s.runLong core (.rr .absq31 rd rs1 rs2))

/-- NEGQ31 (R389 to R391, R393). -/
def execNegq31 (core : CoreNo) (rd rs1 rs2 : RegF) (s : State) : Host.Outcome State Fault Refusal :=
  .next (s.runLong core (.rr .negq31 rd rs1 rs2))

/-- SHLQ31 (R389 to R391, R393). -/
def execShlq31 (core : CoreNo) (rd rs1 rs2 : RegF) (s : State) : Host.Outcome State Fault Refusal :=
  .next (s.runLong core (.rr .shlq31 rd rs1 rs2))

/-- MAC15 (R388, R392 to R394). -/
def execMac15 (core : CoreNo) (rd rs1 rs2 : RegF) (s : State) : Host.Outcome State Fault Refusal :=
  .next (s.runLong core (.ac .mac15 rd rs1 rs2))

/-- MSU15 (R388, R392 to R394). -/
def execMsu15 (core : CoreNo) (rd rs1 rs2 : RegF) (s : State) : Host.Outcome State Fault Refusal :=
  .next (s.runLong core (.ac .msu15 rd rs1 rs2))

/-- MAC31 (R388, R392 to R394). -/
def execMac31 (core : CoreNo) (rd rs1 rs2 : RegF) (s : State) : Host.Outcome State Fault Refusal :=
  .next (s.runLong core (.ac .mac31 rd rs1 rs2))

/-- MSU31 (R388, R392 to R394). -/
def execMsu31 (core : CoreNo) (rd rs1 rs2 : RegF) (s : State) : Host.Outcome State Fault Refusal :=
  .next (s.runLong core (.ac .msu31 rd rs1 rs2))

/-- MPY15 (R388, R392 to R394). -/
def execMpy15 (core : CoreNo) (rd rs1 rs2 : RegF) (s : State) : Host.Outcome State Fault Refusal :=
  .next (s.runLong core (.ac .mpy15 rd rs1 rs2))

/-- MPY31 (R388, R392 to R394). -/
def execMpy31 (core : CoreNo) (rd rs1 rs2 : RegF) (s : State) : Host.Outcome State Fault Refusal :=
  .next (s.runLong core (.ac .mpy31 rd rs1 rs2))

/-- ACLR (R388, R392 to R394). -/
def execAclr (core : CoreNo) (rd rs1 rs2 : RegF) (s : State) : Host.Outcome State Fault Refusal :=
  .next (s.runLong core (.ac .aclr rd rs1 rs2))

/-- ASET31 (R388, R392 to R394). -/
def execAset31 (core : CoreNo) (rd rs1 rs2 : RegF) (s : State) : Host.Outcome State Fault Refusal :=
  .next (s.runLong core (.ac .aset31 rd rs1 rs2))

/-- AEXT15 (R388, R392 to R394). -/
def execAext15 (core : CoreNo) (rd rs1 rs2 : RegF) (s : State) : Host.Outcome State Fault Refusal :=
  .next (s.runLong core (.ac .aext15 rd rs1 rs2))

/-- AEXT31 (R388, R392 to R394). -/
def execAext31 (core : CoreNo) (rd rs1 rs2 : RegF) (s : State) : Host.Outcome State Fault Refusal :=
  .next (s.runLong core (.ac .aext31 rd rs1 rs2))

/-- AMVLO (R388, R392 to R394). -/
def execAmvlo (core : CoreNo) (rd rs1 rs2 : RegF) (s : State) : Host.Outcome State Fault Refusal :=
  .next (s.runLong core (.ac .amvlo rd rs1 rs2))

/-- AMVHI (R388, R392 to R394). -/
def execAmvhi (core : CoreNo) (rd rs1 rs2 : RegF) (s : State) : Host.Outcome State Fault Refusal :=
  .next (s.runLong core (.ac .amvhi rd rs1 rs2))

/-- AMVG (R388, R392 to R394). -/
def execAmvg (core : CoreNo) (rd rs1 rs2 : RegF) (s : State) : Host.Outcome State Fault Refusal :=
  .next (s.runLong core (.ac .amvg rd rs1 rs2))

/-- AMVTLO (R388, R392 to R394). -/
def execAmvtlo (core : CoreNo) (rd rs1 rs2 : RegF) (s : State) : Host.Outcome State Fault Refusal :=
  .next (s.runLong core (.ac .amvtlo rd rs1 rs2))

/-- AMVTHI (R388, R392 to R394). -/
def execAmvthi (core : CoreNo) (rd rs1 rs2 : RegF) (s : State) : Host.Outcome State Fault Refusal :=
  .next (s.runLong core (.ac .amvthi rd rs1 rs2))

/-- AMVTG (R388, R392 to R394). -/
def execAmvtg (core : CoreNo) (rd rs1 rs2 : RegF) (s : State) : Host.Outcome State Fault Refusal :=
  .next (s.runLong core (.ac .amvtg rd rs1 rs2))

/-- ASRA (R388, R392 to R394). -/
def execAsra (core : CoreNo) (rd rs1 rs2 : RegF) (s : State) : Host.Outcome State Fault Refusal :=
  .next (s.runLong core (.ac .asra rd rs1 rs2))

/-- ASLA (R388, R392 to R394). -/
def execAsla (core : CoreNo) (rd rs1 rs2 : RegF) (s : State) : Host.Outcome State Fault Refusal :=
  .next (s.runLong core (.ac .asla rd rs1 rs2))

/-- ADDI (R394). -/
def execAddi (core : CoreNo) (rd rs1 : RegF) (imm : BitVec 15) (s : State) : Host.Outcome State Fault Refusal :=
  .next (s.runLong core (.ri .add rd rs1 imm))

/-- ANDI (R394). -/
def execAndi (core : CoreNo) (rd rs1 : RegF) (imm : BitVec 15) (s : State) : Host.Outcome State Fault Refusal :=
  .next (s.runLong core (.ri .and rd rs1 imm))

/-- ORI (R394). -/
def execOri (core : CoreNo) (rd rs1 : RegF) (imm : BitVec 15) (s : State) : Host.Outcome State Fault Refusal :=
  .next (s.runLong core (.ri .or rd rs1 imm))

/-- XORI (R394). -/
def execXori (core : CoreNo) (rd rs1 : RegF) (imm : BitVec 15) (s : State) : Host.Outcome State Fault Refusal :=
  .next (s.runLong core (.ri .xor rd rs1 imm))

/-- SHLI (R394). -/
def execShli (core : CoreNo) (rd rs1 : RegF) (imm : BitVec 15) (s : State) : Host.Outcome State Fault Refusal :=
  .next (s.runLong core (.ri .shl rd rs1 imm))

/-- SHRUI (R394). -/
def execShrui (core : CoreNo) (rd rs1 : RegF) (imm : BitVec 15) (s : State) : Host.Outcome State Fault Refusal :=
  .next (s.runLong core (.ri .shru rd rs1 imm))

/-- SHRSI (R394). -/
def execShrsi (core : CoreNo) (rd rs1 : RegF) (imm : BitVec 15) (s : State) : Host.Outcome State Fault Refusal :=
  .next (s.runLong core (.ri .shrs rd rs1 imm))

/-- CEQI (R394). -/
def execCeqi (core : CoreNo) (rd rs1 : RegF) (imm : BitVec 15) (s : State) : Host.Outcome State Fault Refusal :=
  .next (s.runLong core (.ri .ceq rd rs1 imm))

/-- CNEI (R394). -/
def execCnei (core : CoreNo) (rd rs1 : RegF) (imm : BitVec 15) (s : State) : Host.Outcome State Fault Refusal :=
  .next (s.runLong core (.ri .cne rd rs1 imm))

/-- CLTI (R394). -/
def execClti (core : CoreNo) (rd rs1 : RegF) (imm : BitVec 15) (s : State) : Host.Outcome State Fault Refusal :=
  .next (s.runLong core (.ri .clt rd rs1 imm))

/-- CLTUI (R394). -/
def execCltui (core : CoreNo) (rd rs1 : RegF) (imm : BitVec 15) (s : State) : Host.Outcome State Fault Refusal :=
  .next (s.runLong core (.ri .cltu rd rs1 imm))

/-- CGEI (R394). -/
def execCgei (core : CoreNo) (rd rs1 : RegF) (imm : BitVec 15) (s : State) : Host.Outcome State Fault Refusal :=
  .next (s.runLong core (.ri .cge rd rs1 imm))

/-- CGEUI (R394). -/
def execCgeui (core : CoreNo) (rd rs1 : RegF) (imm : BitVec 15) (s : State) : Host.Outcome State Fault Refusal :=
  .next (s.runLong core (.ri .cgeu rd rs1 imm))

/-- LDHI (R394). -/
def execLdhi (core : CoreNo) (rd : RegF) (imm : BitVec 20) (s : State) : Host.Outcome State Fault Refusal :=
  .next (s.runLong core (.ldhi rd imm))

/-- PCREL (R394). -/
def execPcrel (core : CoreNo) (rd : RegF) (imm : BitVec 20) (s : State) : Host.Outcome State Fault Refusal :=
  .next (s.runLong core (.pcrel rd imm))

/-- LD8S (R396: the bits in error of the word met). -/
def execLd8s (core : CoreNo) (rd rs1 : RegF) (imm : BitVec 15) (upset : Upset) (s : State) : Host.Outcome State Fault Refusal :=
  .next (s.runLong core (.load .ld8s rd rs1 imm) upset).done

/-- LD8U (R396: the bits in error of the word met). -/
def execLd8u (core : CoreNo) (rd rs1 : RegF) (imm : BitVec 15) (upset : Upset) (s : State) : Host.Outcome State Fault Refusal :=
  .next (s.runLong core (.load .ld8u rd rs1 imm) upset).done

/-- LD16S (R396: the bits in error of the word met). -/
def execLd16s (core : CoreNo) (rd rs1 : RegF) (imm : BitVec 15) (upset : Upset) (s : State) : Host.Outcome State Fault Refusal :=
  .next (s.runLong core (.load .ld16s rd rs1 imm) upset).done

/-- LD16U (R396: the bits in error of the word met). -/
def execLd16u (core : CoreNo) (rd rs1 : RegF) (imm : BitVec 15) (upset : Upset) (s : State) : Host.Outcome State Fault Refusal :=
  .next (s.runLong core (.load .ld16u rd rs1 imm) upset).done

/-- LD32 (R396: the bits in error of the word met). -/
def execLd32 (core : CoreNo) (rd rs1 : RegF) (imm : BitVec 15) (upset : Upset) (s : State) : Host.Outcome State Fault Refusal :=
  .next (s.runLong core (.load .ld32 rd rs1 imm) upset).done

/-- ST8 (R396, R397: the bits in error of the word met). -/
def execSt8 (core : CoreNo) (rs2 rs1 : RegF) (imm : BitVec 15) (upset : Upset) (s : State) : Host.Outcome State Fault Refusal :=
  .next (s.runLong core (.store .st8 rs2 rs1 imm) upset).done

/-- ST16 (R396, R397: the bits in error of the word met). -/
def execSt16 (core : CoreNo) (rs2 rs1 : RegF) (imm : BitVec 15) (upset : Upset) (s : State) : Host.Outcome State Fault Refusal :=
  .next (s.runLong core (.store .st16 rs2 rs1 imm) upset).done

/-- ST32 (R396, R397: the bits in error of the word met). -/
def execSt32 (core : CoreNo) (rs2 rs1 : RegF) (imm : BitVec 15) (upset : Upset) (s : State) : Host.Outcome State Fault Refusal :=
  .next (s.runLong core (.store .st32 rs2 rs1 imm) upset).done

/-- SWPM (R396: the bits in error of the word met). -/
def execSwpm (core : CoreNo) (rd rs1 rs2 : RegF) (upset : Upset) (s : State) : Host.Outcome State Fault Refusal :=
  .next (s.runLong core (.swpm rd rs1 rs2) upset).done

/-- ADDM (R396: the bits in error of the word met). -/
def execAddm (core : CoreNo) (rd rs1 rs2 : RegF) (upset : Upset) (s : State) : Host.Outcome State Fault Refusal :=
  .next (s.runLong core (.addm rd rs1 rs2) upset).done

/-- BZ (R394). -/
def execBz (core : CoreNo) (rs : RegF) (imm : BitVec 20) (s : State) : Host.Outcome State Fault Refusal :=
  .next (s.runLong core (.bz rs imm))

/-- BNZ (R394). -/
def execBnz (core : CoreNo) (rs : RegF) (imm : BitVec 20) (s : State) : Host.Outcome State Fault Refusal :=
  .next (s.runLong core (.bnz rs imm))

/-- CALL (R394). -/
def execCall (core : CoreNo) (imm : BitVec 25) (s : State) : Host.Outcome State Fault Refusal :=
  .next (s.runLong core (.call imm))

/-- CALLR (R394). -/
def execCallr (core : CoreNo) (rd rs1 : RegF) (imm : BitVec 15) (s : State) : Host.Outcome State Fault Refusal :=
  .next (s.runLong core (.callr rd rs1 imm))

/-- JMP (R394). -/
def execJmp (core : CoreNo) (imm : BitVec 25) (s : State) : Host.Outcome State Fault Refusal :=
  .next (s.runLong core (.jmp imm))

/-- CRD (R394, R407). -/
def execCrd (core : CoreNo) (rd rs1 : RegF) (mid : BitVec 3) (cr : BitVec 12) (s : State) : Host.Outcome State Fault Refusal :=
  .next (s.runLong core (.crd rd rs1 mid cr))

/-- CWR (R394, R407). -/
def execCwr (core : CoreNo) (rd rs1 : RegF) (mid : BitVec 3) (cr : BitVec 12) (s : State) : Host.Outcome State Fault Refusal :=
  .next (s.runLong core (.cwr rd rs1 mid cr))

/-- TRAP (R399). -/
def execTrap (core : CoreNo) (rd rs1 rs2 : RegF) (s : State) : Host.Outcome State Fault Refusal :=
  .next (s.runLong core (.sys .trap rd rs1 rs2))

/-- HRET (R400). -/
def execHret (core : CoreNo) (rd rs1 rs2 : RegF) (s : State) : Host.Outcome State Fault Refusal :=
  .next (s.runLong core (.sys .hret rd rs1 rs2))

/-- WAITI (R403). -/
def execWaiti (core : CoreNo) (rd rs1 rs2 : RegF) (s : State) : Host.Outcome State Fault Refusal :=
  .next (s.runLong core (.sys .waiti rd rs1 rs2))

/-- DRAIN (R397). -/
def execDrain (core : CoreNo) (rd rs1 rs2 : RegF) (s : State) : Host.Outcome State Fault Refusal :=
  .next (s.runLong core (.sys .drain rd rs1 rs2))

/-- ICINV (R380). -/
def execIcinv (core : CoreNo) (rd rs1 rs2 : RegF) (s : State) : Host.Outcome State Fault Refusal :=
  .next (s.runLong core (.sys .icinv rd rs1 rs2))

/-- BRK (R399). -/
def execBrk (core : CoreNo) (rd rs1 rs2 : RegF) (s : State) : Host.Outcome State Fault Refusal :=
  .next (s.runLong core (.sys .brk rd rs1 rs2))

/-- CX (R399, R404 to R406). -/
def execCx (core : CoreNo) (rd rs1 rs2 cxn arg : RegF) (s : State) : Host.Outcome State Fault Refusal :=
  .next (s.runLong core (.cx rd rs1 rs2 cxn arg)).done

/-- NOP (R384, R386, R387, R394, R395): NOP in slot A, or any word that the core has fetched. -/
def execNop (core : CoreNo) (rd rs : RegF) (form : NopWord) (slotB : BitVec 15) (s : State) : Host.Outcome State Fault Refusal :=
  match form with
  | .pair bit15 => .next (s.runPair core ⟨.nop, rd, rs⟩ bit15 slotB)
  | .raw w => .next (s.runWord core w)

/-- MOV (R386, R387, R395). -/
def execMov (core : CoreNo) (rd rs : RegF) (bit15 : Bool) (slotB : BitVec 15) (s : State) : Host.Outcome State Fault Refusal :=
  .next (s.runPair core ⟨.mov, rd, rs⟩ bit15 slotB)

/-- MOVI (R386, R387, R395). -/
def execMovi (core : CoreNo) (rd rs : RegF) (bit15 : Bool) (slotB : BitVec 15) (s : State) : Host.Outcome State Fault Refusal :=
  .next (s.runPair core ⟨.movi, rd, rs⟩ bit15 slotB)

/-- SHORT_ADD (R386, R387, R395). -/
def execShortAdd (core : CoreNo) (rd rs : RegF) (bit15 : Bool) (slotB : BitVec 15) (s : State) : Host.Outcome State Fault Refusal :=
  .next (s.runPair core ⟨.add, rd, rs⟩ bit15 slotB)

/-- SHORT_SUB (R386, R387, R395). -/
def execShortSub (core : CoreNo) (rd rs : RegF) (bit15 : Bool) (slotB : BitVec 15) (s : State) : Host.Outcome State Fault Refusal :=
  .next (s.runPair core ⟨.sub, rd, rs⟩ bit15 slotB)

/-- SHORT_AND (R386, R387, R395). -/
def execShortAnd (core : CoreNo) (rd rs : RegF) (bit15 : Bool) (slotB : BitVec 15) (s : State) : Host.Outcome State Fault Refusal :=
  .next (s.runPair core ⟨.and, rd, rs⟩ bit15 slotB)

/-- SHORT_OR (R386, R387, R395). -/
def execShortOr (core : CoreNo) (rd rs : RegF) (bit15 : Bool) (slotB : BitVec 15) (s : State) : Host.Outcome State Fault Refusal :=
  .next (s.runPair core ⟨.or, rd, rs⟩ bit15 slotB)

/-- SHORT_XOR (R386, R387, R395). -/
def execShortXor (core : CoreNo) (rd rs : RegF) (bit15 : Bool) (slotB : BitVec 15) (s : State) : Host.Outcome State Fault Refusal :=
  .next (s.runPair core ⟨.xor, rd, rs⟩ bit15 slotB)

/-- SHORT_ADDI (R386, R387, R395). -/
def execShortAddi (core : CoreNo) (rd rs : RegF) (bit15 : Bool) (slotB : BitVec 15) 
    (s : State) : Host.Outcome State Fault Refusal :=
  .next (s.runPair core ⟨.addi, rd, rs⟩ bit15 slotB)

/-- SHORT_SHLI (R386, R387, R395). -/
def execShortShli (core : CoreNo) (rd rs : RegF) (bit15 : Bool) (slotB : BitVec 15) 
    (s : State) : Host.Outcome State Fault Refusal :=
  .next (s.runPair core ⟨.shli, rd, rs⟩ bit15 slotB)

/-- SHORT_SHRUI (R386, R387, R395). -/
def execShortShrui (core : CoreNo) (rd rs : RegF) (bit15 : Bool) (slotB : BitVec 15) 
    (s : State) : Host.Outcome State Fault Refusal :=
  .next (s.runPair core ⟨.shrui, rd, rs⟩ bit15 slotB)

/-- SHORT_SHRSI (R386, R387, R395). -/
def execShortShrsi (core : CoreNo) (rd rs : RegF) (bit15 : Bool) (slotB : BitVec 15) 
    (s : State) : Host.Outcome State Fault Refusal :=
  .next (s.runPair core ⟨.shrsi, rd, rs⟩ bit15 slotB)

/-- SHORT_CLT (R386, R387, R395). -/
def execShortClt (core : CoreNo) (rd rs : RegF) (bit15 : Bool) (slotB : BitVec 15) (s : State) : Host.Outcome State Fault Refusal :=
  .next (s.runPair core ⟨.clt, rd, rs⟩ bit15 slotB)

/-- SHORT_CEQ (R386, R387, R395). -/
def execShortCeq (core : CoreNo) (rd rs : RegF) (bit15 : Bool) (slotB : BitVec 15) (s : State) : Host.Outcome State Fault Refusal :=
  .next (s.runPair core ⟨.ceq, rd, rs⟩ bit15 slotB)

/-- SHORT_ADDQ15 (R386, R387, R395). -/
def execShortAddq15 (core : CoreNo) (rd rs : RegF) (bit15 : Bool) (slotB : BitVec 15) 
    (s : State) : Host.Outcome State Fault Refusal :=
  .next (s.runPair core ⟨.addq15, rd, rs⟩ bit15 slotB)

/-- SHORT_SUBQ15 (R386, R387, R395). -/
def execShortSubq15 (core : CoreNo) (rd rs : RegF) (bit15 : Bool) (slotB : BitVec 15) 
    (s : State) : Host.Outcome State Fault Refusal :=
  .next (s.runPair core ⟨.subq15, rd, rs⟩ bit15 slotB)

/-- SHORT_MULQ15 (R386, R387, R395). -/
def execShortMulq15 (core : CoreNo) (rd rs : RegF) (bit15 : Bool) (slotB : BitVec 15) 
    (s : State) : Host.Outcome State Fault Refusal :=
  .next (s.runPair core ⟨.mulq15, rd, rs⟩ bit15 slotB)

/-- SHORT_ADDQ31 (R386, R387, R395). -/
def execShortAddq31 (core : CoreNo) (rd rs : RegF) (bit15 : Bool) (slotB : BitVec 15) 
    (s : State) : Host.Outcome State Fault Refusal :=
  .next (s.runPair core ⟨.addq31, rd, rs⟩ bit15 slotB)

/-- SHORT_MAC15 (R386, R387, R395). -/
def execShortMac15 (core : CoreNo) (rd rs : RegF) (bit15 : Bool) (slotB : BitVec 15) (acc : BitVec 2) 
    (s : State) : Host.Outcome State Fault Refusal :=
  .next (s.runPair core ⟨.mac15 acc, rd, rs⟩ bit15 slotB)

/-- SHORT_MAC31 (R386, R387, R395). -/
def execShortMac31 (core : CoreNo) (rd rs : RegF) (bit15 : Bool) (slotB : BitVec 15) (acc : BitVec 2) 
    (s : State) : Host.Outcome State Fault Refusal :=
  .next (s.runPair core ⟨.mac31 acc, rd, rs⟩ bit15 slotB)

/-- SHORT_LD32 (R386, R387, R395: the bits in error of the word met). -/
def execShortLd32 (core : CoreNo) (rd rs : RegF) (bit15 : Bool) (slotB : BitVec 15) (upset : Upset) 
    (s : State) : Host.Outcome State Fault Refusal :=
  .next (s.runPair core ⟨.ld32, rd, rs⟩ bit15 slotB upset).done

/-- SHORT_ST32 (R386, R387, R395: the bits in error of the word met). -/
def execShortSt32 (core : CoreNo) (rd rs : RegF) (bit15 : Bool) (slotB : BitVec 15) (upset : Upset) 
    (s : State) : Host.Outcome State Fault Refusal :=
  .next (s.runPair core ⟨.st32, rd, rs⟩ bit15 slotB upset).done

/-- INTERRUPT_ENTRY (R402). -/
def execInterruptEntry (core : CoreNo) (s : State) : Host.Outcome State Fault Refusal :=
  .next (s.takeIrq core)

/-- WAITI_RESUME (R403). -/
def execWaitiResume (core : CoreNo) (s : State) : Host.Outcome State Fault Refusal :=
  .next (s.waitResume core)

end Sys2Proof.Machine
end

