-- ==== Sys2Proof/Machine/Meanings.lean ====
section
/-! DEFINITION. Gathers the files of meanings for Dispatch.lean. -/
end

