-- ==== Sys2Proof/Machine/Dispatch.lean ====
section
/-! DEFINITION. One arm for each command: a direct call of its meaning. -/

namespace Sys2Proof.Machine

def exec (i : Instr) (s : State) : Host.Outcome State Fault Refusal :=
  match i with
  | .registerWrite who addr w => Sys2Proof.Machine.execRegisterWrite who addr w s
  | .powerOnReset env => Sys2Proof.Machine.execPowerOnReset env s
  | .brownOut lines => Sys2Proof.Machine.execBrownOut lines s
  | .nresetInAssert env => Sys2Proof.Machine.execNresetInAssert env s
  | .nresetInRelease env => Sys2Proof.Machine.execNresetInRelease env s
  | .sysReset who env => Sys2Proof.Machine.execSysReset who env s
  | .clusterReset who cl1 cl2 => Sys2Proof.Machine.execClusterReset who cl1 cl2 s
  | .debugReset env => Sys2Proof.Machine.execDebugReset env s
  | .roadsideBeacon => Sys2Proof.Machine.execRoadsideBeacon s
  | .setPowerState c state => Sys2Proof.Machine.execSetPowerState c state s
  | .entryConditionsClear => Sys2Proof.Machine.execEntryConditionsClear s
  | .entryWaitTimeout => Sys2Proof.Machine.execEntryWaitTimeout s
  | .dozeCommitPoint => Sys2Proof.Machine.execDozeCommitPoint s
  | .hibernateCommitPoint => Sys2Proof.Machine.execHibernateCommitPoint s
  | .returnTimerExpiry => Sys2Proof.Machine.execReturnTimerExpiry s
  | .relayWindowExpiry => Sys2Proof.Machine.execRelayWindowExpiry s
  | .lineIdleTimeout port => Sys2Proof.Machine.execLineIdleTimeout port s
  | .padExchangeTimeout => Sys2Proof.Machine.execPadExchangeTimeout s
  | .pmbVreqWrite who w => Sys2Proof.Machine.execPmbVreqWrite who w s
  | .voutCommandDone nack pec => Sys2Proof.Machine.execVoutCommandDone nack pec s
  | .pmbPgoodAck => Sys2Proof.Machine.execPmbPgoodAck s
  | .statusWordPoll status vout => Sys2Proof.Machine.execStatusWordPoll status vout s
  | .pmbRequestTimeout => Sys2Proof.Machine.execPmbRequestTimeout s
  | .pmbPgoodFall status => Sys2Proof.Machine.execPmbPgoodFall status s
  | .refFail ref => Sys2Proof.Machine.execRefFail ref s
  | .refGood ref => Sys2Proof.Machine.execRefGood ref s
  | .pllEnWrite who en => Sys2Proof.Machine.execPllEnWrite who en s
  | .srcSelect who pll => Sys2Proof.Machine.execSrcSelect who pll s
  | .pllLock => Sys2Proof.Machine.execPllLock s
  | .pllLockTimeout => Sys2Proof.Machine.execPllLockTimeout s
  | .pllLockLoss => Sys2Proof.Machine.execPllLockLoss s
  | .vinSenseTrip => Sys2Proof.Machine.execVinSenseTrip s
  | .lmcfgFlush who => Sys2Proof.Machine.execLmcfgFlush who s
  | .lmcfgArm who area => Sys2Proof.Machine.execLmcfgArm who area s
  | .flushWriteSlot => Sys2Proof.Machine.execFlushWriteSlot s
  | .flushPark => Sys2Proof.Machine.execFlushPark s
  | .flushSealTimeout lines => Sys2Proof.Machine.execFlushSealTimeout lines s
  | .busRecoveryRestart env => Sys2Proof.Machine.execBusRecoveryRestart env s
  | .hportCsnFall => Sys2Proof.Machine.execHportCsnFall s
  | .hportCsnRise => Sys2Proof.Machine.execHportCsnRise s
  | .writePacket packet => Sys2Proof.Machine.execWritePacket packet s
  | .readPacket count => Sys2Proof.Machine.execReadPacket count s
  | .readStatus => Sys2Proof.Machine.execReadStatus s
  | .uartGapTimeout => Sys2Proof.Machine.execUartGapTimeout s
  | .sessionTimeout tp => Sys2Proof.Machine.execSessionTimeout tp s
  | .nonceExpiry tp => Sys2Proof.Machine.execNonceExpiry tp s
  | .hcpResetTrigger env => Sys2Proof.Machine.execHcpResetTrigger env s
  | .slotResourceTimeout slot => Sys2Proof.Machine.execSlotResourceTimeout slot s
  | .ping c => Sys2Proof.Machine.execPing c s
  | .getInfo c => Sys2Proof.Machine.execGetInfo c s
  | .reset c kind => Sys2Proof.Machine.execReset c kind s
  | .blowFuse c fuse confirm => Sys2Proof.Machine.execBlowFuse c fuse confirm s
  | .raiseSecVersion c count => Sys2Proof.Machine.execRaiseSecVersion c count s
  | .cancel c seq => Sys2Proof.Machine.execCancel c seq s
  | .imageWrite c slot offset data => Sys2Proof.Machine.execImageWrite c slot offset data s
  | .directoryWrite c active trial tries => Sys2Proof.Machine.execDirectoryWrite c active trial tries s
  | .userCall c cluster mailbox params data => Sys2Proof.Machine.execUserCall c cluster mailbox params data s
  | .transportCfg c rate mask => Sys2Proof.Machine.execTransportCfg c rate mask s
  | .radioRole c role => Sys2Proof.Machine.execRadioRole c role s
  | .portCfg c port lo enable => Sys2Proof.Machine.execPortCfg c port lo enable s
  | .profileSet c index profile => Sys2Proof.Machine.execProfileSet c index profile s
  | .laneSet c lane port offset profile enable => Sys2Proof.Machine.execLaneSet c lane port offset profile enable s
  | .laneStatus c first count => Sys2Proof.Machine.execLaneStatus c first count s
  | .transmit c port freq sec tick flags frame => Sys2Proof.Machine.execTransmit c port freq sec tick flags frame s
  | .wakeTx c port freq addr group => Sys2Proof.Machine.execWakeTx c port freq addr group s
  | .ledgerRead c => Sys2Proof.Machine.execLedgerRead c s
  | .keyLoad c group epoch wrapped => Sys2Proof.Machine.execKeyLoad c group epoch wrapped s
  | .epochSwitch c group epoch => Sys2Proof.Machine.execEpochSwitch c group epoch s
  | .filterCfg c dup cfg => Sys2Proof.Machine.execFilterCfg c dup cfg s
  | .downlink c src expiry flags frame => Sys2Proof.Machine.execDownlink c src expiry flags frame s
  | .frameStats c => Sys2Proof.Machine.execFrameStats c s
  | .journalRead c first count => Sys2Proof.Machine.execJournalRead c first count s
  | .lineRole c port role => Sys2Proof.Machine.execLineRole c port role s
  | .lineMode c port mode fallback => Sys2Proof.Machine.execLineMode c port mode fallback s
  | .lineStatus c port => Sys2Proof.Machine.execLineStatus c port s
  | .lineRetrain c port => Sys2Proof.Machine.execLineRetrain c port s
  | .msOpen c policy => Sys2Proof.Machine.execMsOpen c policy s
  | .msAdd c milestone w0 w1 w2 w3 => Sys2Proof.Machine.execMsAdd c milestone w0 w1 w2 w3 s
  | .msCommit c milestone => Sys2Proof.Machine.execMsCommit c milestone s
  | .msAbort c milestone => Sys2Proof.Machine.execMsAbort c milestone s
  | .msStatus c milestone => Sys2Proof.Machine.execMsStatus c milestone s
  | .flashRead c addr length => Sys2Proof.Machine.execFlashRead c addr length s
  | .flashProgram c addr reserved data => Sys2Proof.Machine.execFlashProgram c addr reserved data s
  | .flashErase c addr kind => Sys2Proof.Machine.execFlashErase c addr kind s
  | .configSave c => Sys2Proof.Machine.execConfigSave c s
  | .flashTables c table => Sys2Proof.Machine.execFlashTables c table s
  | .partSplitSet c boundary => Sys2Proof.Machine.execPartSplitSet c boundary s
  | .ntRead c => Sys2Proof.Machine.execNtRead c s
  | .ntSet c sec tick => Sys2Proof.Machine.execNtSet c sec tick s
  | .rtcRead c => Sys2Proof.Machine.execRtcRead c s
  | .rtcSet c calendar => Sys2Proof.Machine.execRtcSet c calendar s
  | .rtcAlarm c alarm calendar flags => Sys2Proof.Machine.execRtcAlarm c alarm calendar flags s
  | .trickleCfg c current limit => Sys2Proof.Machine.execTrickleCfg c current limit s
  | .ctlMode c mode => Sys2Proof.Machine.execCtlMode c mode s
  | .tagRead c offset length => Sys2Proof.Machine.execTagRead c offset length s
  | .tagWrite c offset data => Sys2Proof.Machine.execTagWrite c offset data s
  | .tagLock c mask => Sys2Proof.Machine.execTagLock c mask s
  | .provision c record data => Sys2Proof.Machine.execProvision c record data s
  | .errRead c first count => Sys2Proof.Machine.execErrRead c first count s
  | .sessionChallenge c => Sys2Proof.Machine.execSessionChallenge c s
  | .sessionOpen c epk scope key signature => Sys2Proof.Machine.execSessionOpen c epk scope key signature s
  | .sessionClose c => Sys2Proof.Machine.execSessionClose c s
  | .regRead c addr count => Sys2Proof.Machine.execRegRead c addr count s
  | .regWrite c addr count words => Sys2Proof.Machine.execRegWrite c addr count words s
  | .telemetry c => Sys2Proof.Machine.execTelemetry c s
  | .enterRoadside c confirm => Sys2Proof.Machine.execEnterRoadside c confirm s
  | .debugOpen c scope => Sys2Proof.Machine.execDebugOpen c scope s
  | .rfxLoWrite who port w => Sys2Proof.Machine.execRfxLoWrite who port w s
  | .portEnable who port w => Sys2Proof.Machine.execPortEnable who port w s
  | .synLock port => Sys2Proof.Machine.execSynLock port s
  | .rxReadyRise port => Sys2Proof.Machine.execRxReadyRise port s
  | .synLockLoss port => Sys2Proof.Machine.execSynLockLoss port s
  | .attenStepUp port clip => Sys2Proof.Machine.execAttenStepUp port clip s
  | .attenStepDown port => Sys2Proof.Machine.execAttenStepDown port s
  | .laneEnable who lane => Sys2Proof.Machine.execLaneEnable who lane s
  | .laneDisable who lane => Sys2Proof.Machine.execLaneDisable who lane s
  | .laneKill who lane => Sys2Proof.Machine.execLaneKill who lane s
  | .laneOffsetWrite who lane w => Sys2Proof.Machine.execLaneOffsetWrite who lane w s
  | .laneBankRun who => Sys2Proof.Machine.execLaneBankRun who s
  | .laneBankStop who => Sys2Proof.Machine.execLaneBankStop who s
  | .calibrateEnd lane imageRej => Sys2Proof.Machine.execCalibrateEnd lane imageRej s
  | .calWindow lane => Sys2Proof.Machine.execCalWindow lane s
  | .calWindowComplete lane imageRej => Sys2Proof.Machine.execCalWindowComplete lane imageRej s
  | .calDue lane => Sys2Proof.Machine.execCalDue lane s
  | .syncFound lane bits level fofs arrSec arrTick => Sys2Proof.Machine.execSyncFound lane bits level fofs arrSec arrTick s
  | .headerEnd lane soft => Sys2Proof.Machine.execHeaderEnd lane soft s
  | .macHeaderComplete lane soft => Sys2Proof.Machine.execMacHeaderComplete lane soft s
  | .frameEnd lane soft tail => Sys2Proof.Machine.execFrameEnd lane soft tail s
  | .tagCompare ctx => Sys2Proof.Machine.execTagCompare ctx s
  | .filterLookupDone ctx => Sys2Proof.Machine.execFilterLookupDone ctx s
  | .receiveTemplateOpen ctx => Sys2Proof.Machine.execReceiveTemplateOpen ctx s
  | .vaultLoad who group epoch => Sys2Proof.Machine.execVaultLoad who group epoch s
  | .vaultErase who group epoch => Sys2Proof.Machine.execVaultErase who group epoch s
  | .dupFlush who w => Sys2Proof.Machine.execDupFlush who w s
  | .filterColdSecond => Sys2Proof.Machine.execFilterColdSecond s
  | .detourRetry src => Sys2Proof.Machine.execDetourRetry src s
  | .downlinkExpiry src => Sys2Proof.Machine.execDownlinkExpiry src s
  | .txSubmit who w => Sys2Proof.Machine.execTxSubmit who w s
  | .launchPoint ref temp => Sys2Proof.Machine.execLaunchPoint ref temp s
  | .lbtListenEnd port level => Sys2Proof.Machine.execLbtListenEnd port level s
  | .lbtBackoffEnd ref => Sys2Proof.Machine.execLbtBackoffEnd ref s
  | .airtimeStart port => Sys2Proof.Machine.execAirtimeStart port s
  | .femseqStepEnd port => Sys2Proof.Machine.execFemseqStepEnd port s
  | .txDataEnd port => Sys2Proof.Machine.execTxDataEnd port s
  | .ledgerRefill => Sys2Proof.Machine.execLedgerRefill s
  | .txpResultRead who => Sys2Proof.Machine.execTxpResultRead who s
  | .syntabClear who port w => Sys2Proof.Machine.execSyntabClear who port w s
  | .synRecalibration port temp => Sys2Proof.Machine.execSynRecalibration port temp s
  | .synRecalForce port temp => Sys2Proof.Machine.execSynRecalForce port temp s
  | .wakePatternReceived addr group check => Sys2Proof.Machine.execWakePatternReceived addr group check s
  | .msuOpen who => Sys2Proof.Machine.execMsuOpen who s
  | .actionWrite who ms opt target p1 p2 p3 => Sys2Proof.Machine.execActionWrite who ms opt target p1 p2 p3 s
  | .actionJappend who ms opt target p1 p2 p3 => Sys2Proof.Machine.execActionJappend who ms opt target p1 p2 p3 s
  | .actionEnqRadio who ms opt target p1 p2 p3 => Sys2Proof.Machine.execActionEnqRadio who ms opt target p1 p2 p3 s
  | .actionEnqLine who ms opt target p1 p2 p3 => Sys2Proof.Machine.execActionEnqLine who ms opt target p1 p2 p3 s
  | .actionArmTimer who ms opt target p1 p2 p3 => Sys2Proof.Machine.execActionArmTimer who ms opt target p1 p2 p3 s
  | .actionFireEvent who ms opt target p1 p2 p3 => Sys2Proof.Machine.execActionFireEvent who ms opt target p1 p2 p3 s
  | .actionEpochSwitch who ms opt target p1 p2 p3 => Sys2Proof.Machine.execActionEpochSwitch who ms opt target p1 p2 p3 s
  | .actionFlashRec who ms opt target p1 p2 p3 => Sys2Proof.Machine.execActionFlashRec who ms opt target p1 p2 p3 s
  | .msuCmdCommit who ms => Sys2Proof.Machine.execMsuCmdCommit who ms s
  | .msuCmdAbort who ms => Sys2Proof.Machine.execMsuCmdAbort who ms s
  | .msuCmdSetPolicy who ms abortLater => Sys2Proof.Machine.execMsuCmdSetPolicy who ms abortLater s
  | .milestoneCommit ms => Sys2Proof.Machine.execMilestoneCommit ms s
  | .flashRecPassed ms => Sys2Proof.Machine.execFlashRecPassed ms s
  | .milestoneWaitTimeout ms => Sys2Proof.Machine.execMilestoneWaitTimeout ms s
  | .journalRetire who seq => Sys2Proof.Machine.execJournalRetire who seq s
  | .msuReplay who source => Sys2Proof.Machine.execMsuReplay who source s
  | .replayDone => Sys2Proof.Machine.execReplayDone s
  | .lpnWakePeer who port => Sys2Proof.Machine.execLpnWakePeer who port s
  | .lpnClrCnt who port => Sys2Proof.Machine.execLpnClrCnt who port s
  | .lpnRetrain who port => Sys2Proof.Machine.execLpnRetrain who port s
  | .announceTimer port => Sys2Proof.Machine.execAnnounceTimer port s
  | .announce port mode flags node => Sys2Proof.Machine.execAnnounce port mode flags node s
  | .answer port mode flags node => Sys2Proof.Machine.execAnswer port mode flags node s
  | .trainingStart port => Sys2Proof.Machine.execTrainingStart port s
  | .trainingPhaseEnd port => Sys2Proof.Machine.execTrainingPhaseEnd port s
  | .syncWordFound port errs => Sys2Proof.Machine.execSyncWordFound port errs s
  | .syncSearchFail port => Sys2Proof.Machine.execSyncSearchFail port s
  | .checkEnd port snr => Sys2Proof.Machine.execCheckEnd port snr s
  | .verdict port pass => Sys2Proof.Machine.execVerdict port pass s
  | .verdictTimeout port => Sys2Proof.Machine.execVerdictTimeout port s
  | .energyLoss port => Sys2Proof.Machine.execEnergyLoss port s
  | .snrLow port snr => Sys2Proof.Machine.execSnrLow port snr s
  | .retrain port => Sys2Proof.Machine.execRetrain port s
  | .modeUpTimer port => Sys2Proof.Machine.execModeUpTimer port s
  | .modeUp port => Sys2Proof.Machine.execModeUp port s
  | .dozing port => Sys2Proof.Machine.execDozing port s
  | .lineWakePatternSent port => Sys2Proof.Machine.execLineWakePatternSent port s
  | .wakeWaitExpiry port => Sys2Proof.Machine.execWakeWaitExpiry port s
  | .lineWakeDetect port pattern => Sys2Proof.Machine.execLineWakeDetect port pattern s
  | .beaconBurstReceived port raw => Sys2Proof.Machine.execBeaconBurstReceived port raw s
  | .lineBlockReceived port raw => Sys2Proof.Machine.execLineBlockReceived port raw s
  | .confirm port unit => Sys2Proof.Machine.execConfirm port unit s
  | .mgmtDown port unit => Sys2Proof.Machine.execMgmtDown port unit s
  | .userDown port unit => Sys2Proof.Machine.execUserDown port unit s
  | .recordConfirmTimeout seq => Sys2Proof.Machine.execRecordConfirmTimeout seq s
  | .timeSyncSend port => Sys2Proof.Machine.execTimeSyncSend port s
  | .timeSync port seq sec tick frac => Sys2Proof.Machine.execTimeSync port seq sec tick frac s
  | .delayReq port seq => Sys2Proof.Machine.execDelayReq port seq s
  | .delayResp port seq sec tick frac => Sys2Proof.Machine.execDelayResp port seq sec tick frac s
  | .schedBlockChoice port => Sys2Proof.Machine.execSchedBlockChoice port s
  | .schedPush who w => Sys2Proof.Machine.execSchedPush who w s
  | .queueFlush who queue => Sys2Proof.Machine.execQueueFlush who queue s
  | .schedRun who run => Sys2Proof.Machine.execSchedRun who run s
  | .schedRresultRead who => Sys2Proof.Machine.execSchedRresultRead who s
  | .bucketRefill => Sys2Proof.Machine.execBucketRefill s
  | .gateEntryChange port => Sys2Proof.Machine.execGateEntryChange port s
  | .gateSwapRequest who port w => Sys2Proof.Machine.execGateSwapRequest who port w s
  | .gateSwap port => Sys2Proof.Machine.execGateSwap port s
  | .ntLoad who => Sys2Proof.Machine.execNtLoad who s
  | .ntStep who => Sys2Proof.Machine.execNtStep who s
  | .ntCapture who => Sys2Proof.Machine.execNtCapture who s
  | .ntcTickRead who => Sys2Proof.Machine.execNtcTickRead who s
  | .discHoldoverExpiry => Sys2Proof.Machine.execDiscHoldoverExpiry s
  | .ntFrcCorrection ticks => Sys2Proof.Machine.execNtFrcCorrection ticks s
  | .ntLoadFromRtc => Sys2Proof.Machine.execNtLoadFromRtc s
  | .rtcOffsetSync => Sys2Proof.Machine.execRtcOffsetSync s
  | .compareArm who cmp w => Sys2Proof.Machine.execCompareArm who cmp w s
  | .compareDisarm who cmp => Sys2Proof.Machine.execCompareDisarm who cmp s
  | .compareFire cmp => Sys2Proof.Machine.execCompareFire cmp s
  | .timerStart who timer w => Sys2Proof.Machine.execTimerStart who timer w s
  | .timerStop who timer w => Sys2Proof.Machine.execTimerStop who timer w s
  | .timerRestart who timer w => Sys2Proof.Machine.execTimerRestart who timer w s
  | .timerCountWrite who timer w => Sys2Proof.Machine.execTimerCountWrite who timer w s
  | .timerExpiry timer => Sys2Proof.Machine.execTimerExpiry timer s
  | .rtcHalt who => Sys2Proof.Machine.execRtcHalt who s
  | .rtcRelease who => Sys2Proof.Machine.execRtcRelease who s
  | .rtcCapture who => Sys2Proof.Machine.execRtcCapture who s
  | .rtcAdj who seconds => Sys2Proof.Machine.execRtcAdj who seconds s
  | .rtcSecond => Sys2Proof.Machine.execRtcSecond s
  | .vbakMeasure mv => Sys2Proof.Machine.execVbakMeasure mv s
  | .backupPowerUp => Sys2Proof.Machine.execBackupPowerUp s
  | .xt32Start => Sys2Proof.Machine.execXt32Start s
  | .gpioEdge pin rising => Sys2Proof.Machine.execGpioEdge pin rising s
  | .evfFire who channel => Sys2Proof.Machine.execEvfFire who channel s
  | .consumerActivation => Sys2Proof.Machine.execConsumerActivation s
  | .evfGrpSet who groups => Sys2Proof.Machine.execEvfGrpSet who groups s
  | .evfGrpClr who groups => Sys2Proof.Machine.execEvfGrpClr who groups s
  | .clrCoal who consumer => Sys2Proof.Machine.execClrCoal who consumer s
  | .coreRelease who w => Sys2Proof.Machine.execCoreRelease who w s
  | .interruptEntry core => Sys2Proof.Machine.execInterruptEntry core s
  | .waitiResume core => Sys2Proof.Machine.execWaitiResume core s
  | .add core rd rs1 rs2 => Sys2Proof.Machine.execAdd core rd rs1 rs2 s
  | .sub core rd rs1 rs2 => Sys2Proof.Machine.execSub core rd rs1 rs2 s
  | .and core rd rs1 rs2 => Sys2Proof.Machine.execAnd core rd rs1 rs2 s
  | .or core rd rs1 rs2 => Sys2Proof.Machine.execOr core rd rs1 rs2 s
  | .xor core rd rs1 rs2 => Sys2Proof.Machine.execXor core rd rs1 rs2 s
  | .shl core rd rs1 rs2 => Sys2Proof.Machine.execShl core rd rs1 rs2 s
  | .shru core rd rs1 rs2 => Sys2Proof.Machine.execShru core rd rs1 rs2 s
  | .shrs core rd rs1 rs2 => Sys2Proof.Machine.execShrs core rd rs1 rs2 s
  | .mul core rd rs1 rs2 => Sys2Proof.Machine.execMul core rd rs1 rs2 s
  | .mulhi core rd rs1 rs2 => Sys2Proof.Machine.execMulhi core rd rs1 rs2 s
  | .mulhiu core rd rs1 rs2 => Sys2Proof.Machine.execMulhiu core rd rs1 rs2 s
  | .min core rd rs1 rs2 => Sys2Proof.Machine.execMin core rd rs1 rs2 s
  | .max core rd rs1 rs2 => Sys2Proof.Machine.execMax core rd rs1 rs2 s
  | .ceq core rd rs1 rs2 => Sys2Proof.Machine.execCeq core rd rs1 rs2 s
  | .cne core rd rs1 rs2 => Sys2Proof.Machine.execCne core rd rs1 rs2 s
  | .clt core rd rs1 rs2 => Sys2Proof.Machine.execClt core rd rs1 rs2 s
  | .cltu core rd rs1 rs2 => Sys2Proof.Machine.execCltu core rd rs1 rs2 s
  | .cge core rd rs1 rs2 => Sys2Proof.Machine.execCge core rd rs1 rs2 s
  | .cgeu core rd rs1 rs2 => Sys2Proof.Machine.execCgeu core rd rs1 rs2 s
  | .addq15 core rd rs1 rs2 => Sys2Proof.Machine.execAddq15 core rd rs1 rs2 s
  | .subq15 core rd rs1 rs2 => Sys2Proof.Machine.execSubq15 core rd rs1 rs2 s
  | .mulq15 core rd rs1 rs2 => Sys2Proof.Machine.execMulq15 core rd rs1 rs2 s
  | .absq15 core rd rs1 rs2 => Sys2Proof.Machine.execAbsq15 core rd rs1 rs2 s
  | .negq15 core rd rs1 rs2 => Sys2Proof.Machine.execNegq15 core rd rs1 rs2 s
  | .shlq15 core rd rs1 rs2 => Sys2Proof.Machine.execShlq15 core rd rs1 rs2 s
  | .addq31 core rd rs1 rs2 => Sys2Proof.Machine.execAddq31 core rd rs1 rs2 s
  | .subq31 core rd rs1 rs2 => Sys2Proof.Machine.execSubq31 core rd rs1 rs2 s
  | .mulq31 core rd rs1 rs2 => Sys2Proof.Machine.execMulq31 core rd rs1 rs2 s
  | .absq31 core rd rs1 rs2 => Sys2Proof.Machine.execAbsq31 core rd rs1 rs2 s
  | .negq31 core rd rs1 rs2 => Sys2Proof.Machine.execNegq31 core rd rs1 rs2 s
  | .shlq31 core rd rs1 rs2 => Sys2Proof.Machine.execShlq31 core rd rs1 rs2 s
  | .mac15 core rd rs1 rs2 => Sys2Proof.Machine.execMac15 core rd rs1 rs2 s
  | .msu15 core rd rs1 rs2 => Sys2Proof.Machine.execMsu15 core rd rs1 rs2 s
  | .mac31 core rd rs1 rs2 => Sys2Proof.Machine.execMac31 core rd rs1 rs2 s
  | .msu31 core rd rs1 rs2 => Sys2Proof.Machine.execMsu31 core rd rs1 rs2 s
  | .mpy15 core rd rs1 rs2 => Sys2Proof.Machine.execMpy15 core rd rs1 rs2 s
  | .mpy31 core rd rs1 rs2 => Sys2Proof.Machine.execMpy31 core rd rs1 rs2 s
  | .aclr core rd rs1 rs2 => Sys2Proof.Machine.execAclr core rd rs1 rs2 s
  | .aset31 core rd rs1 rs2 => Sys2Proof.Machine.execAset31 core rd rs1 rs2 s
  | .aext15 core rd rs1 rs2 => Sys2Proof.Machine.execAext15 core rd rs1 rs2 s
  | .aext31 core rd rs1 rs2 => Sys2Proof.Machine.execAext31 core rd rs1 rs2 s
  | .amvlo core rd rs1 rs2 => Sys2Proof.Machine.execAmvlo core rd rs1 rs2 s
  | .amvhi core rd rs1 rs2 => Sys2Proof.Machine.execAmvhi core rd rs1 rs2 s
  | .amvg core rd rs1 rs2 => Sys2Proof.Machine.execAmvg core rd rs1 rs2 s
  | .amvtlo core rd rs1 rs2 => Sys2Proof.Machine.execAmvtlo core rd rs1 rs2 s
  | .amvthi core rd rs1 rs2 => Sys2Proof.Machine.execAmvthi core rd rs1 rs2 s
  | .amvtg core rd rs1 rs2 => Sys2Proof.Machine.execAmvtg core rd rs1 rs2 s
  | .asra core rd rs1 rs2 => Sys2Proof.Machine.execAsra core rd rs1 rs2 s
  | .asla core rd rs1 rs2 => Sys2Proof.Machine.execAsla core rd rs1 rs2 s
  | .addi core rd rs1 imm => Sys2Proof.Machine.execAddi core rd rs1 imm s
  | .andi core rd rs1 imm => Sys2Proof.Machine.execAndi core rd rs1 imm s
  | .ori core rd rs1 imm => Sys2Proof.Machine.execOri core rd rs1 imm s
  | .xori core rd rs1 imm => Sys2Proof.Machine.execXori core rd rs1 imm s
  | .shli core rd rs1 imm => Sys2Proof.Machine.execShli core rd rs1 imm s
  | .shrui core rd rs1 imm => Sys2Proof.Machine.execShrui core rd rs1 imm s
  | .shrsi core rd rs1 imm => Sys2Proof.Machine.execShrsi core rd rs1 imm s
  | .ceqi core rd rs1 imm => Sys2Proof.Machine.execCeqi core rd rs1 imm s
  | .cnei core rd rs1 imm => Sys2Proof.Machine.execCnei core rd rs1 imm s
  | .clti core rd rs1 imm => Sys2Proof.Machine.execClti core rd rs1 imm s
  | .cltui core rd rs1 imm => Sys2Proof.Machine.execCltui core rd rs1 imm s
  | .cgei core rd rs1 imm => Sys2Proof.Machine.execCgei core rd rs1 imm s
  | .cgeui core rd rs1 imm => Sys2Proof.Machine.execCgeui core rd rs1 imm s
  | .ldhi core rd imm => Sys2Proof.Machine.execLdhi core rd imm s
  | .pcrel core rd imm => Sys2Proof.Machine.execPcrel core rd imm s
  | .ld8s core rd rs1 imm upset => Sys2Proof.Machine.execLd8s core rd rs1 imm upset s
  | .ld8u core rd rs1 imm upset => Sys2Proof.Machine.execLd8u core rd rs1 imm upset s
  | .ld16s core rd rs1 imm upset => Sys2Proof.Machine.execLd16s core rd rs1 imm upset s
  | .ld16u core rd rs1 imm upset => Sys2Proof.Machine.execLd16u core rd rs1 imm upset s
  | .ld32 core rd rs1 imm upset => Sys2Proof.Machine.execLd32 core rd rs1 imm upset s
  | .st8 core rs2 rs1 imm upset => Sys2Proof.Machine.execSt8 core rs2 rs1 imm upset s
  | .st16 core rs2 rs1 imm upset => Sys2Proof.Machine.execSt16 core rs2 rs1 imm upset s
  | .st32 core rs2 rs1 imm upset => Sys2Proof.Machine.execSt32 core rs2 rs1 imm upset s
  | .swpm core rd rs1 rs2 upset => Sys2Proof.Machine.execSwpm core rd rs1 rs2 upset s
  | .addm core rd rs1 rs2 upset => Sys2Proof.Machine.execAddm core rd rs1 rs2 upset s
  | .bz core rs imm => Sys2Proof.Machine.execBz core rs imm s
  | .bnz core rs imm => Sys2Proof.Machine.execBnz core rs imm s
  | .call core imm => Sys2Proof.Machine.execCall core imm s
  | .callr core rd rs1 imm => Sys2Proof.Machine.execCallr core rd rs1 imm s
  | .jmp core imm => Sys2Proof.Machine.execJmp core imm s
  | .crd core rd rs1 mid cr => Sys2Proof.Machine.execCrd core rd rs1 mid cr s
  | .cwr core rd rs1 mid cr => Sys2Proof.Machine.execCwr core rd rs1 mid cr s
  | .trap core rd rs1 rs2 => Sys2Proof.Machine.execTrap core rd rs1 rs2 s
  | .hret core rd rs1 rs2 => Sys2Proof.Machine.execHret core rd rs1 rs2 s
  | .waiti core rd rs1 rs2 => Sys2Proof.Machine.execWaiti core rd rs1 rs2 s
  | .drain core rd rs1 rs2 => Sys2Proof.Machine.execDrain core rd rs1 rs2 s
  | .icinv core rd rs1 rs2 => Sys2Proof.Machine.execIcinv core rd rs1 rs2 s
  | .brk core rd rs1 rs2 => Sys2Proof.Machine.execBrk core rd rs1 rs2 s
  | .cx core rd rs1 rs2 cxn arg => Sys2Proof.Machine.execCx core rd rs1 rs2 cxn arg s
  | .nop core rd rs bit15 slotB => Sys2Proof.Machine.execNop core rd rs bit15 slotB s
  | .mov core rd rs bit15 slotB => Sys2Proof.Machine.execMov core rd rs bit15 slotB s
  | .movi core rd rs bit15 slotB => Sys2Proof.Machine.execMovi core rd rs bit15 slotB s
  | .shortAdd core rd rs bit15 slotB => Sys2Proof.Machine.execShortAdd core rd rs bit15 slotB s
  | .shortSub core rd rs bit15 slotB => Sys2Proof.Machine.execShortSub core rd rs bit15 slotB s
  | .shortAnd core rd rs bit15 slotB => Sys2Proof.Machine.execShortAnd core rd rs bit15 slotB s
  | .shortOr core rd rs bit15 slotB => Sys2Proof.Machine.execShortOr core rd rs bit15 slotB s
  | .shortXor core rd rs bit15 slotB => Sys2Proof.Machine.execShortXor core rd rs bit15 slotB s
  | .shortAddi core rd rs bit15 slotB => Sys2Proof.Machine.execShortAddi core rd rs bit15 slotB s
  | .shortShli core rd rs bit15 slotB => Sys2Proof.Machine.execShortShli core rd rs bit15 slotB s
  | .shortShrui core rd rs bit15 slotB => Sys2Proof.Machine.execShortShrui core rd rs bit15 slotB s
  | .shortShrsi core rd rs bit15 slotB => Sys2Proof.Machine.execShortShrsi core rd rs bit15 slotB s
  | .shortClt core rd rs bit15 slotB => Sys2Proof.Machine.execShortClt core rd rs bit15 slotB s
  | .shortCeq core rd rs bit15 slotB => Sys2Proof.Machine.execShortCeq core rd rs bit15 slotB s
  | .shortAddq15 core rd rs bit15 slotB => Sys2Proof.Machine.execShortAddq15 core rd rs bit15 slotB s
  | .shortSubq15 core rd rs bit15 slotB => Sys2Proof.Machine.execShortSubq15 core rd rs bit15 slotB s
  | .shortMulq15 core rd rs bit15 slotB => Sys2Proof.Machine.execShortMulq15 core rd rs bit15 slotB s
  | .shortAddq31 core rd rs bit15 slotB => Sys2Proof.Machine.execShortAddq31 core rd rs bit15 slotB s
  | .shortMac15 core rd rs bit15 slotB acc => Sys2Proof.Machine.execShortMac15 core rd rs bit15 slotB acc s
  | .shortMac31 core rd rs bit15 slotB acc => Sys2Proof.Machine.execShortMac31 core rd rs bit15 slotB acc s
  | .shortLd32 core rd rs bit15 slotB upset => Sys2Proof.Machine.execShortLd32 core rd rs bit15 slotB upset s
  | .shortSt32 core rd rs bit15 slotB upset => Sys2Proof.Machine.execShortSt32 core rd rs bit15 slotB upset s
  | .sramScrubRead bank bits => Sys2Proof.Machine.execSramScrubRead bank bits s
  | .program who nwords offset => Sys2Proof.Machine.execProgram who nwords offset s
  | .page who offset => Sys2Proof.Machine.execPage who offset s
  | .serase who offset => Sys2Proof.Machine.execSerase who offset s
  | .berase who offset => Sys2Proof.Machine.execBerase who offset s
  | .suspend who offset => Sys2Proof.Machine.execSuspend who offset s
  | .resume who offset => Sys2Proof.Machine.execResume who offset s
  | .blank who offset => Sys2Proof.Machine.execBlank who offset s
  | .markBad who offset => Sys2Proof.Machine.execMarkBad who offset s
  | .flashCommandStart => Sys2Proof.Machine.execFlashCommandStart s
  | .programPulseEnd bank verified => Sys2Proof.Machine.execProgramPulseEnd bank verified s
  | .pagePulseEnd last verified => Sys2Proof.Machine.execPagePulseEnd last verified s
  | .eraseSubpulseEnd verified => Sys2Proof.Machine.execEraseSubpulseEnd verified s
  | .blankDone => Sys2Proof.Machine.execBlankDone s
  | .flcResultRead who => Sys2Proof.Machine.execFlcResultRead who s
  | .otpProgramHalf who row high => Sys2Proof.Machine.execOtpProgramHalf who row high s
  | .otpProgramFuse who row high => Sys2Proof.Machine.execOtpProgramFuse who row high s
  | .otpReload who => Sys2Proof.Machine.execOtpReload who s
  | .otpProgramDone cut crcOk => Sys2Proof.Machine.execOtpProgramDone cut crcOk s
  | .dmcInit who => Sys2Proof.Machine.execDmcInit who s
  | .dmcStop who => Sys2Proof.Machine.execDmcStop who s
  | .dmcFillDone pos => Sys2Proof.Machine.execDmcFillDone pos s
  | .dramRefresh postpone => Sys2Proof.Machine.execDramRefresh postpone s
  | .mr4Check rate hot => Sys2Proof.Machine.execMr4Check rate hot s
  | .trackingPause drift rd wr => Sys2Proof.Machine.execTrackingPause drift rd wr s
  | .recentreStep rd wr => Sys2Proof.Machine.execRecentreStep rd wr s
  | .dramScrubRead bits => Sys2Proof.Machine.execDramScrubRead bits s
  | .fieldOn => Sys2Proof.Machine.execFieldOn s
  | .fieldLoss => Sys2Proof.Machine.execFieldLoss s
  | .fieldOff => Sys2Proof.Machine.execFieldOff s
  | .reqa => Sys2Proof.Machine.execReqa s
  | .wupa => Sys2Proof.Machine.execWupa s
  | .anticollision sel known => Sys2Proof.Machine.execAnticollision sel known s
  | .select sel uid => Sys2Proof.Machine.execSelect sel uid s
  | .hlta => Sys2Proof.Machine.execHlta s
  | .getId params => Sys2Proof.Machine.execGetId params s
  | .getStatus frame => Sys2Proof.Machine.execGetStatus frame s
  | .read frame => Sys2Proof.Machine.execRead frame s
  | .write frame => Sys2Proof.Machine.execWrite frame s
  | .auth1 params => Sys2Proof.Machine.execAuth1 params s
  | .auth2 params => Sys2Proof.Machine.execAuth2 params s
  | .endSession params => Sys2Proof.Machine.execEndSession params s
  | .quietExpiry => Sys2Proof.Machine.execQuietExpiry s
  | .lockoutExpiry => Sys2Proof.Machine.execLockoutExpiry s
  | .holdRequest who => Sys2Proof.Machine.execHoldRequest who s
  | .holdTimeout => Sys2Proof.Machine.execHoldTimeout s
  | .padPoll count => Sys2Proof.Machine.execPadPoll count s
  | .readerAnswer answer collision => Sys2Proof.Machine.execReaderAnswer answer collision s
  | .readerAnswerTimeout => Sys2Proof.Machine.execReaderAnswerTimeout s
  | .carrierRetry => Sys2Proof.Machine.execCarrierRetry s
  | .provisionWaitTimeout => Sys2Proof.Machine.execProvisionWaitTimeout s
  | .s3Error source info => Sys2Proof.Machine.execS3Error source info s
  | .errAck who w => Sys2Proof.Machine.execErrAck who w s
  | .errReport who w => Sys2Proof.Machine.execErrReport who w s
  | .wdtKick who wdt w => Sys2Proof.Machine.execWdtKick who wdt w s
  | .watchdogExpiry wdt env => Sys2Proof.Machine.execWatchdogExpiry wdt env s
  | .heldResetTaken env => Sys2Proof.Machine.execHeldResetTaken env s
  | .consecClear => Sys2Proof.Machine.execConsecClear s
  | .telemetrySnapshot temp margin => Sys2Proof.Machine.execTelemetrySnapshot temp margin s
  | .ageingCheck => Sys2Proof.Machine.execAgeingCheck s
  | .flashPatrol offset bits target ref record => Sys2Proof.Machine.execFlashPatrol offset bits target ref record s
  | .uartPacket packet => Sys2Proof.Machine.execUartPacket packet s
  | .readerRetry => Sys2Proof.Machine.execReaderRetry s
  | .rtcWriteDone => Sys2Proof.Machine.execRtcWriteDone s
  | .rtcCaptureDone => Sys2Proof.Machine.execRtcCaptureDone s
  | .dmcReady mr8 gb ranks typeOk fail => Sys2Proof.Machine.execDmcReady mr8 gb ranks typeOk fail s
  | .debugSessionAttach attach => Sys2Proof.Machine.execDebugSessionAttach attach s
  | .supplyLoss vbakLost => Sys2Proof.Machine.execSupplyLoss vbakLost s

end Sys2Proof.Machine
end

