-- ==== Sys2Proof/Machine/LineCode.lean ====
section
/-! DEFINITION. What a line port sends on its pair, as levels: scrambling, the convolutional code, the level mapping, training,
sync word, bursts and the wake pattern (R279, R287 to R289, R299). The levels follow from the port's state. -/

namespace Sys2Proof.Machine

/-- One step of the generator x^23 + x^18 + 1: the newest of its last 23 bits is bit 0 (R279). -/
def genStep (r : Nat) : Nat := r * 2 % 8388608 + b2n (bit r 22 != bit r 17)

/-- The generator after n steps. -/
def genAfter : Nat → Nat → Nat
  | 0, r => r
  | n + 1, r => genAfter n (genStep r)

/-- The next n output bits of the generator. -/
def genBits : Nat → Nat → List Bool
  | 0, _ => []
  | n + 1, r => bit (genStep r) 0 :: genBits n (genStep r)

/-- The generator's state at the end of a sync word (R279). -/
def genOnes : Nat := 8388607

/-- Scramble bits that begin n bits after a sync word (R279). -/
def scramble (n : Nat) (l : List Bool) : List Bool := l.zipWith (fun a b => a != b) (genBits l.length (genAfter n genOnes))

/-- The information bits of a line block (R282, R296). -/
def Block.infoBits (b : Block) : List Bool := byteBits (b.control ++ padTo 120 (b.payload ++ b.rest))

/-- The bits of a mode that enter the encoder: in LX50 the first of each two (R279). -/
def encoderBits (mode : Nat) : List Bool → List Bool
  | a :: b :: l => if mode = 0 then a :: encoderBits mode l else a :: b :: encoderBits mode l
  | l => l

/-- The encoder after its input bits. -/
def convAfter : Nat → List Bool → Nat
  | r, [] => r
  | r, b :: l => convAfter (convStep r b).1 l

/-- The levels of a mode: n of them, the sent level being 2i - (n - 1) (R278, R279). -/
def outerLevel (mode : Nat) : Int := ([7, 3, 1] : List Int).getD mode 1

/-- A bit as PAM-2 at the outer levels of a mode. -/
def outerSymbol (mode : Nat) (b : Bool) : Int := if b then outerLevel mode else -outerLevel mode

/-- c1 and c0 as one number. -/
def codePair (c : List Bool) : Nat := 2 * b2n (c.getD 0 false) + b2n (c.getD 1 false)

/-- LX50: two bits a symbol, the second uncoded (R279). -/
def levels50 : Nat → List Bool → List Int
  | r, b :: u :: l => (2 * (4 * b2n u + codePair (convStep r b).2 : Nat) - 7 : Int) :: levels50 (convStep r b).1 l
  | _, _ => []

/-- LX25: one bit a symbol (R279). -/
def levels25 : Nat → List Bool → List Int
  | r, b :: l => (2 * (codePair (convStep r b).2 : Nat) - 3 : Int) :: levels25 (convStep r b).1 l
  | _, [] => []

/-- LX3: c1 and then c0, each as one symbol (R279). -/
def levels3 (r : Nat) (l : List Bool) : List Int := (convEncode r l).map (outerSymbol 2)

/-- Scrambled bits as levels of a mode. -/
def levelsOf (mode r : Nat) (l : List Bool) : List Int :=
  match mode with
  | 0 => levels50 r l
  | 1 => levels25 r l
  | _ => levels3 r l

/-- The sync word, as PAM-2 at the outer levels of a mode (R289). -/
def syncLevels (mode : Nat) : List Int := (msbBits 64 0x3C5A96E1F02D4B87).map (outerSymbol mode)

/-- Training symbols: n output bits of the generator (R279). -/
def trainLevels (mode n : Nat) : List Int := (genBits n (Config.lineTraining % 8388608)).map (outerSymbol mode)

/-- A burst in the LX3 form: 1,600 training symbols, the sync word, one block and the tail (R279, R288). -/
def burstLevels (b : Block) : List Int :=
  trainLevels 2 1600 ++ syncLevels 2 ++ levels3 0 (scramble 0 b.infoBits ++ List.replicate 6 false)

/-- The wake pattern: 12,500 symbols in periods of 16 high and 16 low (R299). -/
def wakeLevels : List Int := (List.range 12500).map fun k => outerSymbol 2 (k / 16 % 2 == 0)

/-- The levels of the port's last block of a link that is up: the block before it has left its bits in the encoder (R279). -/
def LinePort.blockLevels (x : LinePort) (mode : Nat) : List Int :=
  match x.sent with
  | none => []
  | some b =>
    let at_ := 1024 * (x.coded - 1)
    let r := match x.before with
      | some a => convAfter 0 (encoderBits mode (scramble (at_ - 1024) a.infoBits))
      | none => 0
    levelsOf mode r (scramble at_ b.infoBits)

/-- What the port sends, or has last sent, in its state (R287, R288, R299): the training of a phase, the sync word, the last block
or burst, also the ANSWER from QUIET, the wake pattern, or nothing. -/
def State.lineLevels (s : State) (p : Nat) : List Int :=
  let x := s.line p
  let st := s.lpState p
  let m := s.lpMode p
  let master := s.flag F.LP_STAT_MASTER p
  if st = lpDetect ∨ st = lpBeacon ∨ (st = lpQuiet ∧ x.train.isSome) then (if x.burst then x.sent.elim [] burstLevels else [])
  else if st = lpWake then wakeLevels
  else if st = lpHalfM then (if master then trainLevels m 50000 else [])
  else if st = lpHalfS then (if master then [] else trainLevels m 50000)
  else if st = lpFull then trainLevels m 100000
  else if st = lpSync then syncLevels m
  else if st = lpCheck ∨ st = lpUpState then (if x.coded = 0 then syncLevels m else x.blockLevels m)
  else []

end Sys2Proof.Machine
end

