-- ==== Sys2Proof/Machine/Pins.lean ====
section
/-! DEFINITION. The signal balls of the device and what each of them does in a state: in reset, in Roadside, in DOZE, in HIBERNATE
and in operation (R60, R63, R65, R68). A ball has no state beside what its block, the power state and the boot hold, so its
state is read off State. -/

namespace Sys2Proof.Machine

/-- The signals of the table of R63; a bus whose balls act alike is one signal. -/
inductive Signal where
  | rfIn (p : Fin 2) | rfOut (p : Fin 2) | wuIn | fem (p : Fin 2) (i : Fin 6) | pav (p : Fin 2)
  | lpTx (p : Fin 2) | lpRx (p : Fin 2) | nfc | cpad | refIn (r : Fin 2) | xt32 | vinSense
  | hportSck | hportCsn | hportIo | hostIrq | uartTx | uartRx | pmbBus | pmbPgood | i2c
  | gpio (n : Fin 24) | nresetIn | nresetOut | dbgTckTrstn | dbgTmsTdi | dbgTdo | ddrReset | ddrCke | ddrOther
  deriving DecidableEq, Repr

/-- What a ball does: an output that is off, at high impedance (with a pull), low, high, at an analogue code, released, or under
its block's control; an input that is read, watched by a detector, ignored or off. -/
inductive Ball where
  | off | highZ | highZPullUp | low | high | code (v : Nat) | released | releasedPullUp | controlled | beacon
  | lowPullDown | input | inputPullUp | inputPullDown | energyDetect | wakeDetector | ignored | passive | fieldAnswer | running
  | latchedInput | latched (high : Bool)
  deriving DecidableEq, Repr

/-- The directions of R63. -/
inductive BallDir where
  | input | output | inOut | openDrain | openDrainInOut | analogue | analogueIn | analogueOut
  deriving DecidableEq, Repr

/-- The domains of R63. -/
inductive BallDomain where
  | vdda | wakeReceiver | vio | vddq | alwaysOn | backup | vddaOrField
  deriving DecidableEq, Repr

/-- The direction of a signal (R63). -/
def Signal.dir : Signal → BallDir
  | .rfIn _ | .wuIn | .lpRx _ | .refIn _ | .hportSck | .hportCsn | .uartRx | .pmbPgood | .nresetIn | .dbgTckTrstn | .dbgTmsTdi => .input
  | .rfOut _ | .fem _ _ | .lpTx _ | .uartTx | .dbgTdo | .ddrReset | .ddrCke => .output
  | .pav _ => .analogueOut
  | .nfc | .cpad | .xt32 => .analogue
  | .vinSense => .analogueIn
  | .hportIo | .gpio _ | .ddrOther => .inOut
  | .hostIrq | .nresetOut => .openDrain
  | .pmbBus | .i2c => .openDrainInOut

/-- The domain of a signal (R63). -/
def Signal.domain : Signal → BallDomain
  | .rfIn _ | .rfOut _ | .pav _ | .lpTx _ | .lpRx _ | .refIn _ => .vdda
  | .wuIn => .wakeReceiver
  | .nfc => .vddaOrField
  | .cpad | .vinSense => .alwaysOn
  | .xt32 => .backup
  | .ddrReset | .ddrCke | .ddrOther => .vddq
  | _ => .vio

/-- The reset state of R63: from power-on or the assertion of NRESET_IN until the boot ROM configures the ball. -/
def Signal.resetBall : Signal → Ball
  | .rfIn _ | .wuIn | .lpRx _ | .cpad => .off
  | .rfOut _ | .lpTx _ | .hportIo | .dbgTdo | .ddrOther => .highZ
  | .fem _ _ => .lowPullDown
  | .nresetOut | .ddrReset | .ddrCke => .low
  | .pav _ => .code 0
  | .nfc => .passive
  | .refIn _ | .hportSck | .pmbPgood => .input
  | .xt32 | .vinSense => .running
  | .hportCsn | .uartRx | .nresetIn | .dbgTmsTdi => .inputPullUp
  | .hostIrq | .pmbBus => .released
  | .uartTx => .highZPullUp
  | .i2c => .releasedPullUp
  | .gpio _ | .dbgTckTrstn => .inputPullDown

/-- The state of a ball in operation: a level where the block holds one, else under its block's control. -/
def State.activeBall (s : State) : Signal → Ball
  | .rfIn p => if s.flag F.RF_STAT_ENABLED p.val then .running else .off
  | .rfOut p => if Tab.getD s.txp.driver p.val false then .controlled else .highZ
  | .fem p i => if bit (Tab.getD s.txp.pins p.val 0) i.val then .high else .low
  | .pav p => .code (Tab.getD s.txp.bias p.val 0)
  | .hostIrq => if s.hostIrq then .low else .released
  | .gpio n => if s.flag F.EVF_GPIO_OE n.val then (if s.flag F.EVF_GPIO_OUT n.val then .high else .low) else .inputPullDown
  | .nresetOut => if s.pwr.resetOut then .released else .low
  | .dbgTdo => if s.debugDisabled then .highZ else .controlled
  | .dbgTckTrstn | .dbgTmsTdi => if s.debugDisabled then .ignored else .input
  | .nresetIn => .inputPullUp
  | .ddrReset => if s.ddrResetn then .high else .low
  | .ddrCke => if s.ddrCke then .high else .low
  | .xt32 | .vinSense => .running
  | .refIn _ | .hportSck | .hportCsn | .pmbPgood | .uartRx => .input
  | _ => .controlled

/-- The Roadside state of R63; a port that failed its loopback stays as in the reset state (R123). -/
def State.roadsideBall (s : State) : Signal → Ball
  | .rfIn _ | .wuIn | .cpad => .off
  | .rfOut _ => .highZ
  | .fem _ _ => .low
  | .pav _ => .code 0
  | .lpTx p => if s.lpState p.val == lpBeacon then .beacon else .highZ
  | .lpRx p => if s.lpState p.val == lpBeacon then .energyDetect else .off
  | .nfc => .fieldAnswer
  | .i2c => .released
  | .nresetOut => .released
  | .ddrReset => if s.onPll then s.activeBall .ddrReset else .low
  | .ddrCke => if s.onPll then s.activeBall .ddrCke else .low
  | .ddrOther => if s.onPll then .controlled else .highZ
  | x => s.activeBall x

/-- A GPIO ball holds the level latched at the commit point; one that was an input stays one (R65). -/
def State.latchedBall (s : State) (n : Nat) : Ball :=
  match Tab.getD s.pwr.gpioLatch n 0 with
  | 0 => .latchedInput
  | v => .latched (v == 2)

/-- The states of R65 in DOZE. DDR_RESETN, of which R65 says nothing, is low with the clock enables, also while the DRAM is in self-refresh
(DESIGN CHOICE, log entry 160). -/
def State.dozeBall (s : State) : Signal → Ball
  | .fem _ _ => .low
  | .pav _ => .code 0
  | .rfOut _ | .lpTx _ => .highZ
  | .hportCsn => .wakeDetector
  | .hostIrq | .nresetOut => .released
  | .gpio n => s.latchedBall n.val
  | .lpRx p => if s.lpRole p.val == 0 then .wakeDetector else .off
  | .ddrReset | .ddrCke => .low
  | x => s.activeBall x

/-- The states of R65 in HIBERNATE; DDR_RESETN as in DOZE (log entry 160). -/
def State.hibernateBall (s : State) : Signal → Ball
  | .fem _ _ | .nresetOut | .ddrReset | .ddrCke => .low
  | .pav _ => .code 0
  | .rfOut _ | .lpTx _ => .highZ
  | .hportCsn => .ignored
  | .hostIrq => .released
  | .gpio n => s.latchedBall n.val
  | .lpRx _ => .off
  | x => s.activeBall x

/-- The state of a ball. -/
def State.ball (s : State) (x : Signal) : Ball :=
  if s.level = 3 then s.hibernateBall x
  else if s.level = 2 then s.dozeBall x
  else if s.pwr.off || s.pwr.held || s.pwr.pinWait || !s.pwr.up then x.resetBall
  else if s.inRoadside then s.roadsideBall x
  else s.activeBall x

end Sys2Proof.Machine
end

