-- ==== Sys2Proof/WellFormed.lean ====
section
/-! DEFINITION. Which terms of the syntax are commands that can occur: the lengths of byte strings, and the words that a memory
fault names. -/

namespace Sys2Proof

open Machine

/-- At most n bytes. -/
def bytesMax (l : Bytes) (n : Nat) : Bool := decide (l.length ≤ n)

/-- The first bytes of the frames that have a row of their own: REQA, WUPA, HLTA, the SEL of each level, and the codes of R464. -/
def fieldCodes : List Byte := [0x26, 0x52, 0x50, 0x93, 0x95, 0x97, 0xA0, 0xA1, 0xA2, 0xA3, 0xB0, 0xB1, 0xB2]

/-- A word of an SRAM: word-aligned in system, journal or cluster SRAM; in a scratchpad or a microcode store of an existing core or
cluster; a line of a cache (R31, R33, R378, R404, R409). -/
def Machine.RamWord.wf : RamWord → Bool
  | .mem a => a % 4 == 0 && decide (0x20000000 ≤ a ∧ a < 0x22000000)
  | .pad c o => decide (c < 24 ∧ o < 65536) && o % 4 == 0
  | .ucode c i => decide (c < 3 ∧ i < 2048)
  | .icache c _ => decide (c < 24)

/-- What the boot ROM can find: words in error that exist, and a fall of NRESET_IN in a step that can be cut (R113). -/
def Machine.BootEnv.wf (e : BootEnv) : Bool := e.sramSingles.all Machine.RamWord.wf && (match e.pinFalls with
  | some k => decide (2 ≤ k ∧ k ≤ 7)
  | none => true)

/-- Whether a term is a command that can occur: a packet holds a 12-byte header and at most 512 bytes of parameters and 8,192 of data (R129);
a MAC header has 15 bytes and a frame at most 2,047 (R24, R221); a line block has 128 bytes (R282); a profile has 32 (R166). -/
def Instr.wellFormed (i : Instr) : Bool :=
  match i with
  | .registerWrite .. => true
  | .powerOnReset env => env.wf
  | .brownOut .. => true
  | .nresetInAssert env => env.wf
  | .nresetInRelease env => env.wf
  | .sysReset _ env => env.wf
  | .clusterReset .. => true
  | .debugReset env => env.wf
  | .roadsideBeacon => true
  | .setPowerState .. => true
  | .entryConditionsClear => true
  | .entryWaitTimeout => true
  | .dozeCommitPoint => true
  | .hibernateCommitPoint => true
  | .returnTimerExpiry => true
  | .relayWindowExpiry => true
  | .lineIdleTimeout .. => true
  | .padExchangeTimeout => true
  | .pmbVreqWrite .. => true
  | .voutCommandDone .. => true
  | .pmbPgoodAck => true
  | .statusWordPoll .. => true
  | .pmbRequestTimeout => true
  | .pmbPgoodFall .. => true
  | .refFail .. => true
  | .refGood .. => true
  | .pllEnWrite .. => true
  | .srcSelect .. => true
  | .pllLock => true
  | .pllLockTimeout => true
  | .pllLockLoss => true
  | .vinSenseTrip => true
  | .lmcfgFlush .. => true
  | .lmcfgArm .. => true
  | .flushWriteSlot => true
  | .flushPark => true
  | .flushSealTimeout .. => true
  | .busRecoveryRestart env => env.env.wf
  | .hportCsnFall => true
  | .hportCsnRise => true
  | .writePacket packet => bytesMax packet.bytes 8716
  | .readPacket .. => true
  | .readStatus => true
  | .uartGapTimeout => true
  | .sessionTimeout .. => true
  | .nonceExpiry .. => true
  | .hcpResetTrigger env => env.wf
  | .slotResourceTimeout .. => true
  | .ping .. => true
  | .getInfo .. => true
  | .reset .. => true
  | .blowFuse .. => true
  | .raiseSecVersion .. => true
  | .cancel .. => true
  | .imageWrite _ _ _ data => bytesMax data 8192
  | .directoryWrite .. => true
  | .userCall _ _ _ params data => bytesMax params 508 && bytesMax data.bytes 8192 && (match data.act with
    | .answer p d => bytesMax p 498 && bytesMax d 8192
    | _ => true)
  | .transportCfg .. => true
  | .radioRole .. => true
  | .portCfg .. => true
  | .profileSet _ _ profile => decide (profile.length = 32)
  | .laneSet .. => true
  | .laneStatus .. => true
  | .transmit _ _ _ _ _ _ frame => bytesMax frame 8192
  | .wakeTx .. => true
  | .ledgerRead .. => true
  | .keyLoad _ _ _ wrapped => decide (wrapped.length = 24)
  | .epochSwitch .. => true
  | .filterCfg .. => true
  | .downlink _ _ _ _ frame => bytesMax frame 8192
  | .frameStats .. => true
  | .journalRead .. => true
  | .lineRole .. => true
  | .lineMode .. => true
  | .lineStatus .. => true
  | .lineRetrain .. => true
  | .msOpen .. => true
  | .msAdd .. => true
  | .msCommit .. => true
  | .msAbort .. => true
  | .msStatus .. => true
  | .flashRead .. => true
  | .flashProgram _ _ _ data => bytesMax data 8192
  | .flashErase .. => true
  | .configSave .. => true
  | .flashTables .. => true
  | .partSplitSet .. => true
  | .ntRead .. => true
  | .ntSet .. => true
  | .rtcRead .. => true
  | .rtcSet .. => true
  | .rtcAlarm .. => true
  | .trickleCfg .. => true
  | .ctlMode .. => true
  | .tagRead .. => true
  | .tagWrite _ _ data => bytesMax data 8192
  | .tagLock .. => true
  | .provision _ record data => bytesMax record 512 && bytesMax data 8192
  | .errRead .. => true
  | .sessionChallenge .. => true
  | .sessionOpen _ epk _ key signature => decide (epk.length = 64) && decide (key.length = 64) && decide (signature.length = 64)
  | .sessionClose .. => true
  | .regRead .. => true
  | .regWrite _ _ _ words => decide (words.length ≤ 2048)
  | .telemetry .. => true
  | .enterRoadside .. => true
  | .debugOpen .. => true
  | .rfxLoWrite .. => true
  | .portEnable .. => true
  | .synLock .. => true
  | .rxReadyRise .. => true
  | .synLockLoss .. => true
  | .attenStepUp .. => true
  | .attenStepDown .. => true
  | .laneEnable .. => true
  | .laneDisable .. => true
  | .laneKill .. => true
  | .laneOffsetWrite .. => true
  | .laneBankRun .. => true
  | .laneBankStop .. => true
  | .calibrateEnd .. => true
  | .calWindow .. => true
  | .calWindowComplete .. => true
  | .calDue .. => true
  | .syncFound _ bits _ _ _ _ => decide (bits.length ≤ 256)
  | .headerEnd _ soft => decide (soft.length ≤ 176)
  | .macHeaderComplete _ soft => decide (soft.length ≤ 32768)
  | .frameEnd _ soft tail => decide (soft.length + tail.length ≤ 32768)
  | .tagCompare .. => true
  | .filterLookupDone .. => true
  | .receiveTemplateOpen .. => true
  | .vaultLoad .. => true
  | .vaultErase .. => true
  | .dupFlush .. => true
  | .filterColdSecond => true
  | .detourRetry .. => true
  | .downlinkExpiry .. => true
  | .txSubmit .. => true
  | .launchPoint .. => true
  | .lbtListenEnd .. => true
  | .lbtBackoffEnd .. => true
  | .airtimeStart .. => true
  | .femseqStepEnd .. => true
  | .txDataEnd .. => true
  | .ledgerRefill => true
  | .txpResultRead .. => true
  | .syntabClear .. => true
  | .synRecalibration .. => true
  | .synRecalForce .. => true
  | .wakePatternReceived .. => true
  | .msuOpen .. => true
  | .actionWrite .. => true
  | .actionJappend .. => true
  | .actionEnqRadio .. => true
  | .actionEnqLine .. => true
  | .actionArmTimer .. => true
  | .actionFireEvent .. => true
  | .actionEpochSwitch .. => true
  | .actionFlashRec .. => true
  | .msuCmdCommit .. => true
  | .msuCmdAbort .. => true
  | .msuCmdSetPolicy .. => true
  | .milestoneCommit .. => true
  | .flashRecPassed .. => true
  | .milestoneWaitTimeout .. => true
  | .journalRetire .. => true
  | .msuReplay .. => true
  | .replayDone => true
  | .lpnWakePeer .. => true
  | .lpnClrCnt .. => true
  | .lpnRetrain .. => true
  | .announceTimer .. => true
  | .announce .. => true
  | .answer .. => true
  | .trainingStart .. => true
  | .trainingPhaseEnd .. => true
  | .syncWordFound .. => true
  | .syncSearchFail .. => true
  | .checkEnd .. => true
  | .verdict .. => true
  | .verdictTimeout .. => true
  | .energyLoss .. => true
  | .snrLow .. => true
  | .retrain .. => true
  | .modeUpTimer .. => true
  | .modeUp .. => true
  | .dozing .. => true
  | .lineWakePatternSent .. => true
  | .wakeWaitExpiry .. => true
  | .lineWakeDetect .. => true
  | .beaconBurstReceived _ raw => decide (raw.length = 128)
  | .lineBlockReceived _ raw => decide (raw.length = 128)
  | .confirm _ unit => bytesMax unit 8716
  | .mgmtDown _ unit => bytesMax unit 8716
  | .userDown _ unit => bytesMax unit 8192
  | .recordConfirmTimeout .. => true
  | .timeSyncSend .. => true
  | .timeSync .. => true
  | .delayReq .. => true
  | .delayResp .. => true
  | .schedBlockChoice .. => true
  | .schedPush .. => true
  | .queueFlush .. => true
  | .schedRun .. => true
  | .schedRresultRead .. => true
  | .bucketRefill => true
  | .gateEntryChange .. => true
  | .gateSwapRequest .. => true
  | .gateSwap .. => true
  | .ntLoad .. => true
  | .ntStep .. => true
  | .ntCapture .. => true
  | .ntcTickRead .. => true
  | .discHoldoverExpiry => true
  | .ntFrcCorrection .. => true
  | .ntLoadFromRtc => true
  | .rtcOffsetSync => true
  | .compareArm .. => true
  | .compareDisarm .. => true
  | .compareFire .. => true
  | .timerStart .. => true
  | .timerStop .. => true
  | .timerRestart .. => true
  | .timerCountWrite .. => true
  | .timerExpiry .. => true
  | .rtcHalt .. => true
  | .rtcRelease .. => true
  | .rtcCapture .. => true
  | .rtcAdj .. => true
  | .rtcSecond => true
  | .vbakMeasure .. => true
  | .backupPowerUp => true
  | .xt32Start => true
  | .gpioEdge .. => true
  | .evfFire .. => true
  | .consumerActivation => true
  | .evfGrpSet .. => true
  | .evfGrpClr .. => true
  | .clrCoal .. => true
  | .coreRelease .. => true
  | .interruptEntry .. => true
  | .waitiResume .. => true
  | .add .. => true
  | .sub .. => true
  | .and .. => true
  | .or .. => true
  | .xor .. => true
  | .shl .. => true
  | .shru .. => true
  | .shrs .. => true
  | .mul .. => true
  | .mulhi .. => true
  | .mulhiu .. => true
  | .min .. => true
  | .max .. => true
  | .ceq .. => true
  | .cne .. => true
  | .clt .. => true
  | .cltu .. => true
  | .cge .. => true
  | .cgeu .. => true
  | .addq15 .. => true
  | .subq15 .. => true
  | .mulq15 .. => true
  | .absq15 .. => true
  | .negq15 .. => true
  | .shlq15 .. => true
  | .addq31 .. => true
  | .subq31 .. => true
  | .mulq31 .. => true
  | .absq31 .. => true
  | .negq31 .. => true
  | .shlq31 .. => true
  | .mac15 .. => true
  | .msu15 .. => true
  | .mac31 .. => true
  | .msu31 .. => true
  | .mpy15 .. => true
  | .mpy31 .. => true
  | .aclr .. => true
  | .aset31 .. => true
  | .aext15 .. => true
  | .aext31 .. => true
  | .amvlo .. => true
  | .amvhi .. => true
  | .amvg .. => true
  | .amvtlo .. => true
  | .amvthi .. => true
  | .amvtg .. => true
  | .asra .. => true
  | .asla .. => true
  | .addi .. => true
  | .andi .. => true
  | .ori .. => true
  | .xori .. => true
  | .shli .. => true
  | .shrui .. => true
  | .shrsi .. => true
  | .ceqi .. => true
  | .cnei .. => true
  | .clti .. => true
  | .cltui .. => true
  | .cgei .. => true
  | .cgeui .. => true
  | .ldhi .. => true
  | .pcrel .. => true
  | .ld8s .. => true
  | .ld8u .. => true
  | .ld16s .. => true
  | .ld16u .. => true
  | .ld32 .. => true
  | .st8 .. => true
  | .st16 .. => true
  | .st32 .. => true
  | .swpm .. => true
  | .addm .. => true
  | .bz .. => true
  | .bnz .. => true
  | .call .. => true
  | .callr .. => true
  | .jmp .. => true
  | .crd .. => true
  | .cwr .. => true
  | .trap .. => true
  | .hret .. => true
  | .waiti .. => true
  | .drain .. => true
  | .icinv .. => true
  | .brk .. => true
  | .cx .. => true
  | .nop .. => true
  | .mov .. => true
  | .movi .. => true
  | .shortAdd .. => true
  | .shortSub .. => true
  | .shortAnd .. => true
  | .shortOr .. => true
  | .shortXor .. => true
  | .shortAddi .. => true
  | .shortShli .. => true
  | .shortShrui .. => true
  | .shortShrsi .. => true
  | .shortClt .. => true
  | .shortCeq .. => true
  | .shortAddq15 .. => true
  | .shortSubq15 .. => true
  | .shortMulq15 .. => true
  | .shortAddq31 .. => true
  | .shortMac15 .. => true
  | .shortMac31 .. => true
  | .shortLd32 .. => true
  | .shortSt32 .. => true
  | .sramScrubRead .. => true
  | .program .. => true
  | .page .. => true
  | .serase .. => true
  | .berase .. => true
  | .suspend .. => true
  | .resume .. => true
  | .blank .. => true
  | .markBad .. => true
  | .flashCommandStart => true
  | .programPulseEnd .. => true
  | .pagePulseEnd .. => true
  | .eraseSubpulseEnd .. => true
  | .blankDone => true
  | .flcResultRead .. => true
  | .otpProgramHalf .. => true
  | .otpProgramFuse .. => true
  | .otpReload .. => true
  | .otpProgramDone .. => true
  | .dmcInit .. => true
  | .dmcStop .. => true
  | .dmcFillDone .. => true
  | .dramRefresh .. => true
  | .mr4Check .. => true
  | .trackingPause .. => true
  | .recentreStep .. => true
  | .dramScrubRead .. => true
  | .fieldOn => true
  | .fieldLoss => true
  | .fieldOff => true
  | .reqa => true
  | .wupa => true
  | .anticollision _ known => decide (known.length ≤ 40)
  | .select _ uid => decide (uid.length = 4)
  | .hlta => true
  | .getId params => bytesMax params 255
  | .getStatus (.own params) => bytesMax params 255
  | .getStatus (.undefined code params) => !fieldCodes.contains code && bytesMax params 255
  | .read frame => bytesMax frame.params 255
  | .write frame => bytesMax frame.params 255
  | .auth1 params => bytesMax params 255
  | .auth2 params => bytesMax params 255
  | .endSession params => bytesMax params 255
  | .quietExpiry => true
  | .lockoutExpiry => true
  | .holdRequest .. => true
  | .holdTimeout => true
  | .padPoll .. => true
  | .readerAnswer bs _ => bytesMax bs 255
  | .readerAnswerTimeout => true
  | .carrierRetry => true
  | .provisionWaitTimeout => true
  | .s3Error .. => true
  | .errAck .. => true
  | .errReport .. => true
  | .wdtKick .. => true
  | .watchdogExpiry _ env => env.wf
  | .heldResetTaken env => env.wf
  | .consecClear => true
  | .telemetrySnapshot .. => true
  | .ageingCheck => true
  | .flashPatrol _ _ _ _ record => decide (record.length = 32)
  | .uartPacket packet => bytesMax packet 8716
  | .readerRetry => true
  | .rtcWriteDone => true
  | .rtcCaptureDone => true
  | .dmcReady .. => true
  | .debugSessionAttach .. => true
  | .supplyLoss .. => true

end Sys2Proof
end

