-- ==== Sys2Proof/Safety.lean ====
section
/-! DEFINITION. The terms that statements use: what a legal state is, when a core takes an instruction and where it then is, and
when the end of a step has nothing left to do. -/

namespace Sys2Proof.Machine

/-- The memory is in its canonical form: addresses strictly rising, no entry equal to what an unlisted address reads as. -/
abbrev State.memOk (s : State) : Prop := Memory.wf s.mem

/-- The state in which an instruction of a core acts: the fetch at its pc has been made. -/
def State.coreFetched (s : State) (c : CoreNo) : State := ((s.onCore fun x => { x with lost := [] }).fetch (pairOf c.val)).2

/-- A core takes the instruction at its pc: it runs, the fetch ends without a fault, and no Roadside entry is due
(R379, R381, R486). -/
abbrev State.coreReady (s : State) (c : CoreNo) : Prop :=
  s.runs (pairOf c.val) = true ∧ ((s.onCore fun x => { x with lost := [] }).fetch (pairOf c.val)).1 = .line ∧ (s.coreFetched c).roadPend = none

/-- A core's access at an address meets a word of its scratchpad or of an SRAM without bits in error, and so does the other core of the pair
in its own scratchpad copy (R33, R382, R409). -/
abbrev State.cleanAt (u : State) (k x : Nat) : Prop :=
  let clean : RamWord → Bool := fun w => Tab.getD u.sram.errs w.key 0 == 0
  (u.ramWordAt k x).any clean = true ∧ (peerWord k x).all clean = true

/-- A general register takes a value and the core goes on with the next word. -/
def State.regThenNext (u : State) (k : Nat) (rd : RegF) (v : Word) : State := (u.setGpr k rd.toNat v).setPc k (u.pcOf k + 4)

/-- An accumulator takes a value and the core goes on with the next word. -/
def State.accThenNext (u : State) (k i : Nat) (v : Accu) : State := (u.setAcc k i v).setPc k (u.pcOf k + 4)

/-- An n-bit fixed-point result (R389, R391): a value in range is written; one outside sets OV and becomes the nearest end of the
range with SAT at 1, or keeps its low n bits with SAT at 0. -/
def State.fxThenNext (u : State) (k n : Nat) (rd : RegF) (v : Int) : State :=
  if -(2 ^ (n - 1)) ≤ v ∧ v ≤ 2 ^ (n - 1) - 1 then u.regThenNext k rd (BitVec.ofInt 32 v)
  else
    let w : Word := if u.flag F.CORE_FXMODE_SAT k then BitVec.ofInt 32 (if v < 0 then -(2 ^ (n - 1)) else 2 ^ (n - 1) - 1)
      else (BitVec.ofInt n v).signExtend 32
    ((u.setGpr k rd.toNat w).setFld F.CORE_FXSTAT_OV 1 k).setPc k (u.pcOf k + 4)

/-- An exact accumulator result modulo 2^72, which sets AOV when it wraps (R388). -/
def State.wrapThenNext (u : State) (k i : Nat) (v : Int) : State :=
  if -(2 ^ 71) ≤ v ∧ v ≤ 2 ^ 71 - 1 then u.accThenNext k i (BitVec.ofInt 72 v)
  else ((u.setAcc k i (BitVec.ofInt 72 v)).setFld F.CORE_FXSTAT_AOV 1 k).setPc k (u.pcOf k + 4)

/-- The end of a step has nothing to do: no result waits, no job wants the flash, no Roadside entry is due, no exchange ends. -/
def State.settled (s : State) : Prop := s.done = s

/-- An initiator acts for CL0 (R39, R127): a core of CL0, a block, or the debug port where the debug functions reach everything. -/
abbrev State.forCl0 (s : State) (who : Who) : Prop := s.rights who.val = [0]

/-- Nothing falls due as the present cycle ends: no servo step, no expiry, no refill, no launch, no result (R316, R328, R341, R343, R493). -/
def State.nothingDue (s : State) : Prop := s.cycleDue = s

/-- The head of a command packet as its receiver sees it (R129, R142). -/
def State.cmdHdr (s : State) (c : CmdHead) (op : Nat) (p d : Bytes) : Hdr := s.hdrOf c.tp (c.pkt op p d)

/-- The state in which a command that has passed its checks is served: on HPORT the host exchange is open and the packet's event is
presented; a command slot is taken, the transport remembers the command, and a session's counter has advanced (R49, R142, R146, R148,
R364). -/
def State.cmdState (s : State) (c : CmdHead) (op : Nat) (p d : Bytes) : State :=
  let h := s.cmdHdr c op p d
  ((((s.hostUse c.tp).takeSlot c.tp).memorise h).pktEvent c.tp).authPass h

/-- A command arrives new on a transport that takes commands, with a SEQ of a command, a free command slot and room in the reply queue
(R123, R134, R146, R148, R157). -/
abbrev State.cmdNew (s : State) (c : CmdHead) (op : Nat) (p d : Bytes) : Prop :=
  let h := s.cmdHdr c op p d
  let x := s.hostUse c.tp
  s.serves c.tp = true ∧ c.seq ≠ 0xFFFF#16 ∧ ((x.tp c.tp).memory.find? fun m => m.seq == h.seq && m.crc == h.crc) = none
    ∧ x.takesCmd c.tp = true

/-- A new command that no check refuses (R134, R144, R145, R152). -/
abbrev State.cmdPasses (s : State) (c : CmdHead) (op : Nat) (p d : Bytes) : Prop :=
  s.cmdNew c op p d ∧ (((s.hostUse c.tp).takeSlot c.tp).memorise (s.cmdHdr c op p d)).hcpRefusal (s.cmdHdr c op p d) op p d = none

end Sys2Proof.Machine
end

