-- ==== Sys2Proof/Certificates/Slice0/Obligations.lean ====
section
/-! DEFINITION. The statements of this row, for the provers: what the commands of the block do, what they leave unchanged, and what
every step keeps. -/

open Sys2Proof Sys2Proof.Machine

/-- Integer operations on registers (R394). ADD, SUB, AND, OR, XOR, SHL, SHRU, SHRS, MUL, MULHI, MULHIU, MIN, MAX and the six compares, on a core that takes the instruction: rd takes the value of the operation table and the pc goes on by 4; nothing else changes. -/
def Obligations.IntegerRegisterOps : Prop :=
  ∀ (c : CoreNo) (rd a b : RegF) (s : State), s.coreReady c →
    let k := pairOf c.val
    let u := s.coreFetched c
    let x := u.gpr k a.toNat
    let y := u.gpr k b.toNat
    let gives := fun (i : Instr) (v : Word) => exec i s = .next (u.regThenNext k rd v)
    gives (.add c rd a b) (x + y) ∧ gives (.sub c rd a b) (x - y) ∧ gives (.and c rd a b) (x &&& y)
      ∧ gives (.or c rd a b) (x ||| y) ∧ gives (.xor c rd a b) (x ^^^ y)
      ∧ gives (.shl c rd a b) (x <<< (y &&& 31#32)) ∧ gives (.shru c rd a b) (x >>> (y &&& 31#32))
      ∧ gives (.shrs c rd a b) (x.sshiftRight' (y &&& 31#32)) ∧ gives (.mul c rd a b) (x * y)
      ∧ gives (.mulhi c rd a b) ((x.signExtend 64 * y.signExtend 64).extractLsb' 32 32)
      ∧ gives (.mulhiu c rd a b) ((x.setWidth 64 * y.setWidth 64).extractLsb' 32 32)
      ∧ gives (.min c rd a b) (if x.sle y then x else y) ∧ gives (.max c rd a b) (if x.sle y then y else x)
      ∧ gives (.ceq c rd a b) (if x = y then 1 else 0) ∧ gives (.cne c rd a b) (if x = y then 0 else 1)
      ∧ gives (.clt c rd a b) (if x.slt y then 1 else 0) ∧ gives (.cltu c rd a b) (if x.ult y then 1 else 0)
      ∧ gives (.cge c rd a b) (if x.slt y then 0 else 1) ∧ gives (.cgeu c rd a b) (if x.ult y then 0 else 1)

/-- Q15 and Q31 operations on registers (R389, R391, R393, R394). ADDQ, SUBQ, MULQ, ABSQ, NEGQ and SHLQ in Q15 and Q31: the exact value (for MULQ, rounded under FXMODE.RND) is written when it is in range; a value out of range sets OV and saturates with SAT at 1, or keeps its low bits with SAT at 0. ABSQ and NEGQ are stated with rs2 at 0. -/
def Obligations.FixedPointRegisterOps : Prop :=
  ∀ (c : CoreNo) (rd a b : RegF) (s : State), s.coreReady c →
    let k := pairOf c.val
    let u := s.coreFetched c
    let x15 : Int := ((u.gpr k a.toNat).setWidth 16).toInt
    let y15 : Int := ((u.gpr k b.toNat).setWidth 16).toInt
    let x31 : Int := (u.gpr k a.toNat).toInt
    let y31 : Int := (u.gpr k b.toNat).toInt
    let n := (u.gpr k b.toNat).toNat
    let rnd := u.fld F.CORE_FXMODE_RND k
    let gives := fun (i : Instr) (w : Nat) (v : Int) => exec i s = .next (u.fxThenNext k w rd v)
    gives (.addq15 c rd a b) 16 (x15 + y15) ∧ gives (.subq15 c rd a b) 16 (x15 - y15)
      ∧ gives (.mulq15 c rd a b) 16 (roundFx rnd 15 (x15 * y15))
      ∧ gives (.absq15 c rd a 0) 16 x15.natAbs ∧ gives (.negq15 c rd a 0) 16 (-x15) ∧ gives (.shlq15 c rd a b) 16 (x15 * 2 ^ (n % 16))
      ∧ gives (.addq31 c rd a b) 32 (x31 + y31) ∧ gives (.subq31 c rd a b) 32 (x31 - y31)
      ∧ gives (.mulq31 c rd a b) 32 (roundFx rnd 31 (x31 * y31))
      ∧ gives (.absq31 c rd a 0) 32 x31.natAbs ∧ gives (.negq31 c rd a 0) 32 (-x31) ∧ gives (.shlq31 c rd a b) 32 (x31 * 2 ^ (n % 32))

/-- Rounding when low bits are dropped (R390). For every exact value v and every k above 0: with RND 0 and 3 the result is the largest integer not above v / 2^k; with RND 1 and 2 it is a nearest integer, and a half goes away from zero with RND 1 and to the even neighbour with RND 2. -/
def Obligations.RoundingModes : Prop :=
  ∀ (k : Nat) (v : Int), 0 < k →
    (∀ rnd, rnd = 0 ∨ rnd = 3 → roundFx rnd k v * 2 ^ k ≤ v ∧ v < (roundFx rnd k v + 1) * 2 ^ k)
      ∧ (∀ rnd, rnd = 1 ∨ rnd = 2 → 2 * (roundFx rnd k v * 2 ^ k - v).natAbs ≤ 2 ^ k)
      ∧ (2 * (roundFx 1 k v * 2 ^ k - v).natAbs = 2 ^ k → v.natAbs < (roundFx 1 k v * 2 ^ k).natAbs)
      ∧ (2 * (roundFx 2 k v * 2 ^ k - v).natAbs = 2 ^ k → roundFx 2 k v % 2 = 0)

/-- Operations that write an accumulator (R388, R392, R394). MAC, MSU and MPY in Q15 and Q31, ACLR, ASET31, AMVTLO, AMVTHI, AMVTG, ASRA and ASLA: the accumulator that rd names takes the exact result modulo 2^72, AOV is set when an accumulating result or a left shift wraps, and nothing else but the pc changes. Unused fields are 0. -/
def Obligations.AccumulatorOps : Prop :=
  ∀ (c : CoreNo) (d : BitVec 2) (a b : RegF) (s : State), s.coreReady c →
    let k := pairOf c.val
    let u := s.coreFetched c
    let rd : RegF := d.setWidth 5
    let z := u.acc k d.toNat
    let x := u.gpr k a.toNat
    let x15 : Int := (x.setWidth 16).toInt
    let y15 : Int := ((u.gpr k b.toNat).setWidth 16).toInt
    let x31 : Int := x.toInt
    let y31 : Int := (u.gpr k b.toNat).toInt
    let wraps := fun (i : Instr) (v : Int) => exec i s = .next (u.wrapThenNext k d.toNat v)
    let gives := fun (i : Instr) (v : Accu) => exec i s = .next (u.accThenNext k d.toNat v)
    wraps (.mac15 c rd a b) (z.toInt + x15 * y15 * 2 ^ 33) ∧ wraps (.msu15 c rd a b) (z.toInt - x15 * y15 * 2 ^ 33)
      ∧ wraps (.mac31 c rd a b) (z.toInt + x31 * y31 * 2) ∧ wraps (.msu31 c rd a b) (z.toInt - x31 * y31 * 2)
      ∧ gives (.mpy15 c rd a b) (BitVec.ofInt 72 (x15 * y15 * 2 ^ 33)) ∧ gives (.mpy31 c rd a b) (BitVec.ofInt 72 (x31 * y31 * 2))
      ∧ gives (.aclr c rd 0 0) 0 ∧ gives (.aset31 c rd a 0) (BitVec.ofInt 72 (x31 * 2 ^ 32))
      ∧ gives (.amvtlo c rd a 0) (z.extractLsb' 32 40 ++ x)
      ∧ gives (.amvthi c rd a 0) (z.extractLsb' 64 8 ++ x ++ z.extractLsb' 0 32)
      ∧ gives (.amvtg c rd a 0) (x.extractLsb' 0 8 ++ z.extractLsb' 0 64)
      ∧ gives (.asra c rd 0 b) (z.sshiftRight b.toNat) ∧ wraps (.asla c rd 0 b) (z.toInt * 2 ^ b.toNat)

/-- Operations that read an accumulator into a register (R388, R393, R394). AEXT15 and AEXT31 write rd with the accumulator rounded over its low 48 or 32 bits and range-checked as a Q15 or Q31 result; AMVLO, AMVHI and AMVG write bits [31:0], [63:32] and the sign-extended bits [71:64]. The accumulator is unchanged. -/
def Obligations.AccumulatorReads : Prop :=
  ∀ (c : CoreNo) (rd : RegF) (d : BitVec 2) (s : State), s.coreReady c →
    let k := pairOf c.val
    let u := s.coreFetched c
    let a : RegF := d.setWidth 5
    let z := u.acc k d.toNat
    let rnd := u.fld F.CORE_FXMODE_RND k
    exec (.aext15 c rd a 0) s = .next (u.fxThenNext k 16 rd (roundFx rnd 48 z.toInt))
      ∧ exec (.aext31 c rd a 0) s = .next (u.fxThenNext k 32 rd (roundFx rnd 32 z.toInt))
      ∧ exec (.amvlo c rd a 0) s = .next (u.regThenNext k rd (z.extractLsb' 0 32))
      ∧ exec (.amvhi c rd a 0) s = .next (u.regThenNext k rd (z.extractLsb' 32 32))
      ∧ exec (.amvg c rd a 0) s = .next (u.regThenNext k rd ((z.extractLsb' 64 8).signExtend 32))

/-- Operations with an immediate, LDHI and PCREL (R385, R394). ADDI and the compares take the sign-extended immediate, ANDI, ORI and XORI the zero-extended one, the shifts a count below 32; LDHI replaces bits [31:12] and keeps bits [11:0]; PCREL gives the address imm20 words from the instruction. -/
def Obligations.ImmediateOps : Prop :=
  ∀ (c : CoreNo) (rd a : RegF) (imm : BitVec 15) (n : BitVec 5) (wide : BitVec 20) (s : State), s.coreReady c →
    let k := pairOf c.val
    let u := s.coreFetched c
    let x := u.gpr k a.toNat
    let y : Word := imm.signExtend 32
    let sh : BitVec 15 := n.setWidth 15
    let gives := fun (i : Instr) (v : Word) => exec i s = .next (u.regThenNext k rd v)
    gives (.addi c rd a imm) (x + y) ∧ gives (.andi c rd a imm) (x &&& imm.setWidth 32) ∧ gives (.ori c rd a imm) (x ||| imm.setWidth 32)
      ∧ gives (.xori c rd a imm) (x ^^^ imm.setWidth 32)
      ∧ gives (.shli c rd a sh) (x <<< n) ∧ gives (.shrui c rd a sh) (x >>> n) ∧ gives (.shrsi c rd a sh) (x.sshiftRight' n)
      ∧ gives (.ceqi c rd a imm) (if x = y then 1 else 0) ∧ gives (.cnei c rd a imm) (if x = y then 0 else 1)
      ∧ gives (.clti c rd a imm) (if x.slt y then 1 else 0) ∧ gives (.cltui c rd a imm) (if x.ult y then 1 else 0)
      ∧ gives (.cgei c rd a imm) (if x.slt y then 0 else 1) ∧ gives (.cgeui c rd a imm) (if x.ult y then 0 else 1)
      ∧ gives (.ldhi c rd wide) (wide ++ (u.gpr k rd.toNat).extractLsb' 0 12)
      ∧ gives (.pcrel c rd wide) (u.pcOf k + 4 * wide.signExtend 32)

/-- Loads from the scratchpad and from SRAM (R394, R396, R33). LD8S, LD8U, LD16S, LD16U and LD32 at an aligned address rs1 + simm15 in the core's scratchpad or an SRAM that the core may reach, in a word without bits in error: rd takes the little-endian value, sign- or zero-extended, and the pc goes on. -/
def Obligations.RamLoads : Prop :=
  ∀ (c : CoreNo) (rd a : RegF) (imm : BitVec 15) (s : State), s.coreReady c →
    let k := pairOf c.val
    let u := s.coreFetched c
    let x := (u.gpr k a.toNat + imm.signExtend 32).toNat
    let reach := fun (n : Nat) => clusterOfWho k = 0 ∨ inScratch x = true ∨ u.userMem (clusterOfWho k) x n = true
    let at_ := fun (i : Nat) => u.byteFor k (x + i)
    let gives := fun (i : Instr) (v : Word) => exec i s = .next (u.regThenNext k rd v).done
    (u.cleanAt k x →
      (reach 1 → gives (.ld8s c rd a imm {}) ((at_ 0).signExtend 32) ∧ gives (.ld8u c rd a imm {}) ((at_ 0).setWidth 32))
        ∧ (reach 2 → x % 2 = 0 → gives (.ld16s c rd a imm {}) ((at_ 1 ++ at_ 0).signExtend 32)
          ∧ gives (.ld16u c rd a imm {}) ((at_ 1 ++ at_ 0).setWidth 32))
        ∧ (reach 4 → x % 4 = 0 → gives (.ld32 c rd a imm {}) (at_ 3 ++ at_ 2 ++ at_ 1 ++ at_ 0)))

/-- Stores to the scratchpad and to SRAM, with their frame (R394, R396, R33). ST8, ST16 and ST32 at an aligned address rs1 + simm15 in the core's scratchpad or an SRAM that the core may reach, in a word without bits in error: the low 8, 16 or 32 bits of rs2 lie there little-endian, every other byte that the core sees, every general register, accumulator and control register is as before, and the pc goes on by 4. -/
def Obligations.RamStores : Prop :=
  ∀ (c : CoreNo) (d a : RegF) (imm : BitVec 15) (s : State), s.coreReady c →
    let k := pairOf c.val
    let u := s.coreFetched c
    let x := (u.gpr k a.toNat + imm.signExtend 32).toNat
    let v := u.gpr k d.toNat
    let stores := fun (i : Instr) (n : Nat) => (clusterOfWho k = 0 ∨ inScratch x = true ∨ u.userMem (clusterOfWho k) x n = true) →
      x % n = 0 → ∃ t, exec i s = .next (State.done t)
        ∧ (∀ j, j < n → t.byteFor k (x + j) = v.extractLsb' (8 * j) 8)
        ∧ (∀ y, y < x ∨ x + n ≤ y → t.byteFor k y = u.byteFor k y)
        ∧ (∀ r, t.gpr k r = u.gpr k r) ∧ (∀ i, t.acc k i = u.acc k i) ∧ t.regs = u.regs ∧ t.pcOf k = u.pcOf k + 4
    u.cleanAt k x → stores (.st8 c d a imm {}) 1 ∧ stores (.st16 c d a imm {}) 2 ∧ stores (.st32 c d a imm {}) 4

/-- SWPM and ADDM (R37, R394, R396). SWPM and ADDM on a word of the scratchpad or of an SRAM that the core may reach, without bits in error: rd takes the old word; the word becomes rs2, or the old word plus rs2; every other byte that the core sees is as before. Anywhere else, and in the SRAM of a cluster whose domain is not powered, they raise STORE_FAULT without accessing memory. -/
def Obligations.AtomicOps : Prop :=
  ∀ (c : CoreNo) (rd a b : RegF) (s : State), s.coreReady c →
    let k := pairOf c.val
    let u := s.coreFetched c
    let x := u.gpr k a.toNat
    let y := u.gpr k b.toNat
    let old := u.byteFor k (x.toNat + 3) ++ u.byteFor k (x.toNat + 2) ++ u.byteFor k (x.toNat + 1) ++ u.byteFor k x.toNat
    let swaps := fun (i : Instr) (new : Word) => ∃ t, exec i s = .next (State.done t)
      ∧ (∀ r, t.gpr k r = if r = rd.toNat ∧ r ≠ 0 then old else u.gpr k r)
      ∧ (∀ j, j < 4 → t.byteFor k (x.toNat + j) = new.extractLsb' (8 * j) 8)
      ∧ (∀ z, z < x.toNat ∨ x.toNat + 4 ≤ z → t.byteFor k z = u.byteFor k z) ∧ t.pcOf k = u.pcOf k + 4
    x.toNat % 4 = 0 →
      (u.cleanAt k x.toNat →
        (clusterOfWho k = 0 ∨ inScratch x.toNat = true ∨ u.userMem (clusterOfWho k) x.toNat 4 = true) →
          swaps (.swpm c rd a b {}) y ∧ swaps (.addm c rd a b {}) (old + y))
        ∧ (inScratch x.toNat = false → inSram x.toNat = false →
          exec (.swpm c rd a b {}) s = .next (u.except k .storeFault (u.pcOf k) x).roadDue.done
            ∧ exec (.addm c rd a b {}) s = .next (u.except k .storeFault (u.pcOf k) x).roadDue.done)
        ∧ (inSram x.toNat = true → u.ramWordAt k x.toNat = none → ∃ t : State, t.mem = u.mem ∧ t.core = u.core ∧ t.sram = u.sram
          ∧ exec (.swpm c rd a b {}) s = .next (t.except k .storeFault (t.pcOf k) x).roadDue.done
          ∧ exec (.addm c rd a b {}) s = .next (t.except k .storeFault (t.pcOf k) x).roadDue.done)

/-- Where a load or store raises an exception (R382, R383, R396, R399, R452). A misaligned load or store raises MISALIGNED with the address in FADDR; a load answered with an error response raises LOAD_FAULT and a store STORE_FAULT; an uncorrectable code on a data read raises ECC. The exception is taken with RETA at the instruction, and neither the destination nor the pc is otherwise written. An error that only one core of the pair meets in its own scratchpad copy, and a difference that the checker finds, halt the pair with an S3 of source 0x22 and no exception; a failed parity at the DMC is its command error. -/
def Obligations.AccessFaults : Prop :=
  ∀ (c : CoreNo) (rd a : RegF) (imm : BitVec 15) (s : State), s.coreReady c →
    let k := pairOf c.val
    let u := s.coreFetched c
    let x := u.gpr k a.toNat + imm.signExtend 32
    let v := u.gpr k rd.toNat
    let traps := fun (i : Instr) (t : State) (e : Cause) => exec i s = .next (t.except k e (t.pcOf k) x).roadDue.done
    (x.toNat % 2 ≠ 0 → traps (.ld16s c rd a imm {}) u .misaligned ∧ traps (.ld16u c rd a imm {}) u .misaligned
        ∧ traps (.st16 c rd a imm {}) u .misaligned)
      ∧ (x.toNat % 4 ≠ 0 → traps (.ld32 c rd a imm {}) u .misaligned ∧ traps (.st32 c rd a imm {}) u .misaligned)
      ∧ (∀ w t, u.busRead k x.toNat 4 = (.error, w, t) → x.toNat % 4 = 0 → peerWord k x.toNat = none → traps (.ld32 c rd a imm {}) t .loadFault)
      ∧ (∀ w t, u.busRead k x.toNat 4 = (.ecc, w, t) → x.toNat % 4 = 0 → peerWord k x.toNat = none → traps (.ld32 c rd a imm {}) t .ecc)
      ∧ (∀ t, u.busWrite k x.toNat (leBytes 4 v.toNat) = (.error, t) → x.toNat % 4 = 0 → peerWord k x.toNat = none → traps (.st32 c rd a imm {}) t .storeFault)
      ∧ (k = 0 → exec (.ld32 c rd a imm { differs := true }) s = .next (u.s3 0x880 0).roadDue.done
        ∧ exec (.st32 c rd a imm { differs := true }) s = .next (u.s3 0x880 0).roadDue.done)
      ∧ (k = 0 → inScratch x.toNat = true → x.toNat % 4 = 0 → u.cleanAt 0 x.toNat →
        ∃ t, exec (.ld32 c rd a imm { peer := 2 }) s = .next t ∧ 0 ∈ t.core.halted ∧ 1 ∈ t.core.halted)
      ∧ (u.dramReady = true → u.inDram x.toNat = true → u.memRight k x.toNat 4 = true → x.toNat % 4 = 0 →
        traps (.ld32 c rd a imm { parity := true }) (u.raise 2 0x0A 0 x) .loadFault
          ∧ traps (.st32 c rd a imm { parity := true }) (u.raise 2 0x0A 0 x) .storeFault)

/-- Branches, calls and jumps (R394, R399). BZ and BNZ go on at PC + 4 × simm20 when the tested register is 0, or is not 0, else at PC + 4; CALL writes g31 with PC + 4 and goes to PC + 4 × simm25; JMP only goes there; CALLR reads its target rs1 + simm15, writes rd with PC + 4 and goes to the target, or raises MISALIGNED when it is not a multiple of 4. No other register and no memory changes. -/
def Obligations.Branches : Prop :=
  ∀ (c : CoreNo) (rd a : RegF) (imm : BitVec 15) (far : BitVec 20) (long : BitVec 25) (s : State), s.coreReady c →
    let k := pairOf c.val
    let u := s.coreFetched c
    let pc := u.pcOf k
    let goes := fun (i : Instr) (dest : Word) (link : Nat) => ∃ t, exec i s = .next t ∧ t.pcOf k = dest
      ∧ (∀ r, t.gpr k r = if r = link ∧ r ≠ 0 then pc + 4 else u.gpr k r) ∧ t.mem = u.mem ∧ t.regs = u.regs ∧ t.core.acc = u.core.acc
    let target := u.gpr k a.toNat + imm.signExtend 32
    goes (.bz c a far) (if u.gpr k a.toNat = 0 then pc + 4 * far.signExtend 32 else pc + 4) 0
      ∧ goes (.bnz c a far) (if u.gpr k a.toNat = 0 then pc + 4 else pc + 4 * far.signExtend 32) 0
      ∧ goes (.call c long) (pc + 4 * long.signExtend 32) 31 ∧ goes (.jmp c long) (pc + 4 * long.signExtend 32) 0
      ∧ (target.toNat % 4 = 0 → goes (.callr c rd a imm) target rd.toNat)
      ∧ (target.toNat % 4 ≠ 0 → exec (.callr c rd a imm) s = .next (u.except k .misaligned pc target).roadDue)

/-- CRD and CWR (R7, R388, R407). CRD of STATUS, RETA, CAUSE, FADDR, HBASE, IEN, SSTAT, FXMODE, FXSTAT, UCADDR and UCSTAT reads the core's own register and changes nothing else; CORE_ID reads cluster × 32 + core, 0 on the pair. CWR to STATUS, IEN, FXMODE and HBASE writes their RW bits and keeps the rest at 0; CWR to FXSTAT clears the flags written as 1 but for those set in the same cycle. A CWR to UCDATA writes the micro-operation at UCADDR, a CRD reads it, and UCADDR moves on by 1 modulo 2,048; while another core of the cluster executes a CX the write is ignored and UCSTAT.WLOCK is set. -/
def Obligations.ControlRegisterMoves : Prop :=
  ∀ (c : CoreNo) (rd a : RegF) (s : State), s.coreReady c →
    let k := pairOf c.val
    let u := s.coreFetched c
    let w := u.gpr k a.toNat
    let ua := u.fld F.CORE_UCADDR_ADDR k
    let key := k / 8 * 2048 + ua
    (∀ e ∈ [(0x001#12, RegName.CORE_STATUS), (0x002#12, .CORE_RETA), (0x003#12, .CORE_CAUSE), (0x004#12, .CORE_FADDR),
        (0x005#12, .CORE_HBASE), (0x006#12, .CORE_IEN), (0x007#12, .CORE_SSTAT), (0x008#12, .CORE_FXMODE), (0x009#12, .CORE_FXSTAT),
        (0x011#12, .CORE_UCADDR), (0x013#12, .CORE_UCSTAT)],
        exec (.crd c rd 0 0 e.1) s = .next (u.regThenNext k rd (u.reg e.2 k)))
      ∧ exec (.crd c rd 0 0 0) s = .next (u.regThenNext k rd (BitVec.ofNat 32 (k / 8 * 32 + k)))
      ∧ (∀ e ∈ [(0x001#12, RegName.CORE_STATUS, 5#32), (0x006#12, .CORE_IEN, 0xF#32), (0x008#12, .CORE_FXMODE, 7#32),
        (0x005#12, .CORE_HBASE, 0xFFFFFC00#32)],
        ∃ t, exec (.cwr c 0 a 0 e.1) s = .next t ∧ t.reg e.2.1 k = (u.reg e.2.1 k &&& ~~~e.2.2) ||| (w &&& e.2.2)
          ∧ t.pcOf k = u.pcOf k + 4 ∧ (∀ r, t.gpr k r = u.gpr k r) ∧ t.mem = u.mem)
      ∧ (∃ t, exec (.cwr c 0 a 0 0x009) s = .next t ∧ t.reg .CORE_FXSTAT k = u.reg .CORE_FXSTAT k
          &&& ~~~(w &&& 3#32 &&& ~~~Tab.getD u.raised (RegName.CORE_FXSTAT.key k) 0))
      ∧ (u.cxBusy k = true → ∃ t, exec (.cwr c 0 a 0 0x012) s = .next t ∧ t.core.ucode = u.core.ucode ∧ t.flag F.CORE_UCSTAT_WLOCK k = true
        ∧ t.fld F.CORE_UCADDR_ADDR k = ua)
      ∧ (u.cxBusy k = false → ∃ t, exec (.cwr c 0 a 0 0x012) s = .next t ∧ Tab.getD t.core.ucode key 0 = w
        ∧ t.fld F.CORE_UCADDR_ADDR k = (ua + 1) % 2048 ∧ (∀ j, j ≠ key → Tab.getD t.core.ucode j 0 = Tab.getD u.core.ucode j 0))
      ∧ (Tab.getD u.sram.errs (RamWord.ucode (k / 8) ua).key 0 = 0 → ∃ t, exec (.crd c rd 0 0 0x012) s = .next t
        ∧ (rd ≠ 0 → t.gpr k rd.toNat = Tab.getD u.core.ucode key 0) ∧ t.fld F.CORE_UCADDR_ADDR k = (ua + 1) % 2048)

/-- HRET, WAITI, DRAIN and ICINV (R380, R382, R397, R400, R403). HRET copies the saved status back and goes to RETA; WAITI goes on with the next word, and the core waits unless an enabled input is pending; DRAIN only goes on, since the model's stores are performed at once; ICINV invalidates every line of the executing core's cache, of both caches for the pair, and no other core's. -/
def Obligations.SystemOps : Prop :=
  ∀ (c : CoreNo) (s : State), s.coreReady c →
    let k := pairOf c.val
    let u := s.coreFetched c
    (∃ t, exec (.hret c 0 0 0) s = .next t ∧ t.reg .CORE_STATUS k = u.reg .CORE_SSTAT k &&& 5#32 ∧ t.pcOf k = u.reg .CORE_RETA k
        ∧ t.core.gpr = u.core.gpr ∧ t.mem = u.mem)
      ∧ (∃ t, exec (.waiti c 0 0 0) s = .next t ∧ t.pcOf k = u.pcOf k + 4 ∧ t.regs = u.regs ∧ t.mem = u.mem
        ∧ (k ∈ t.core.waiting ↔ k ∈ u.core.waiting ∨ u.reg .EVF_CORE_PEND k &&& u.reg .CORE_IEN k = 0))
      ∧ exec (.drain c 0 0 0) s = .next (u.setPc k (u.pcOf k + 4))
      ∧ (∃ t, exec (.icinv c 0 0 0) s = .next t ∧ t.pcOf k = u.pcOf k + 4 ∧ t.regs = u.regs ∧ t.mem = u.mem
        ∧ (∀ line, t.icHit k line = false ∧ (k = 0 → t.icHit 1 line = false))
        ∧ ∀ j line, pairOf j ≠ k → t.icHit j line = u.icHit j line)

/-- What taking an exception saves and where it goes (R127, R385, R394, R395, R399, R400). An exception with HND at 0 writes RETA, CAUSE and FADDR, copies STATUS into SSTAT, clears IE and sets HND, and goes to HBASE + code × 0x20; it changes no general register, no accumulator and no memory. TRAP takes it with its 10-bit code and RETA at the next instruction; BRK takes it where no debug session reaches the core, and halts the core where one does: in SECURED and CLOSED a session reaches CL0 only after DEBUG_OPEN; an instruction with an unused field that is not 0, a word of a long operation whose OP or FN no row lists, and a pair whose slot A no row lists take ILLEGAL with the word in FADDR. -/
def Obligations.ExceptionEntry : Prop :=
  ∀ (c : CoreNo) (rd a b : RegF) (s : State), s.coreReady c →
    let k := pairOf c.val
    let u := s.coreFetched c
    (∀ (x : Cause) (reta faddr : Word), u.flag F.CORE_STATUS_HND k = false →
        let t := u.except k x reta faddr
        t.reg .CORE_RETA k = reta &&& 0xFFFFFFFC#32 ∧ t.reg .CORE_CAUSE k = BitVec.ofNat 32 x.code ∧ t.reg .CORE_FADDR k = faddr
          ∧ t.reg .CORE_SSTAT k = u.reg .CORE_STATUS k &&& 7#32 ∧ t.flag F.CORE_STATUS_IE k = false ∧ t.flag F.CORE_STATUS_HND k = true
          ∧ t.pcOf k = u.reg .CORE_HBASE k + BitVec.ofNat 32 (x.code * 0x20)
          ∧ t.core.gpr = u.core.gpr ∧ t.core.acc = u.core.acc ∧ t.mem = u.mem)
      ∧ exec (.trap c 0 a b) s = .next (u.except k .trap (u.pcOf k + 4) (a ++ b).toNat).roadDue
      ∧ (u.debugReach k = false → exec (.brk c 0 0 0) s = .next (u.except k .brk (u.pcOf k) 0).roadDue)
      ∧ (u.debugReach k = true → exec (.brk c 0 0 0) s = .next (u.halt k))
      ∧ (u.debugReach k = true ↔ u.core.debug = true ∧ (u.security = 0 ∨ k / 8 ≠ 0 ∨ u.hcp.debugScope.isSome = true))
      ∧ (b ≠ 0 → exec (.absq15 c rd a b) s
          = .next (u.except k .illegal (u.pcOf k) (0#1 ++ 1#6 ++ rd ++ a ++ b ++ 3#10)).roadDue)
      ∧ (∀ w : Word, (w.msb = false ∧ decodeLong w = none) ∨ (w.msb = true ∧ decodeSlot (w.extractLsb' 16 15) = none) →
        exec (.nop c rd a (.raw w) 0) s = .next (u.except k .illegal (u.pcOf k) w).roadDue)

/-- An exception in a handler (R401, R486). An exception of a core whose HND is 1 does not enter the handler: the core halts (both cores of the pair together), its exception registers and its pc stay as they were, and ERR logs class S2 for a core of CL1 or CL2; for a core of CL0 a Roadside entry is due. -/
def Obligations.DoubleFault : Prop :=
  ∀ (k : Nat) (x : Cause) (reta faddr : Word) (s : State), k < 24 → s.flag F.CORE_STATUS_HND k = true → s.sysOn = true →
    let t := s.except k x reta faddr
    k ∈ t.core.halted ∧ (k = 0 → 1 ∈ t.core.halted) ∧ t.pcOf k = s.pcOf k
      ∧ (∀ r ∈ [RegName.CORE_RETA, .CORE_CAUSE, .CORE_FADDR, .CORE_SSTAT, .CORE_STATUS], t.reg r k = s.reg r k)
      ∧ (k < 8 → s.inRoadside = false → t.roadPend ≠ none)
      ∧ (8 ≤ k → t = (s.halt k).raise 2 0x21 k)

/-- Interrupt entry and leaving WAITI (R399, R400, R402, R403). A running core with IE 1 and HND 0 takes the lowest interrupt pending and enabled: CAUSE takes 16 + k, RETA the next instruction, FADDR 0, IE falls and HND rises, the core goes to HBASE + (16 + k) × 0x20, and PEND stays. With no such interrupt nothing changes. A waiting core resumes when an enabled input is pending, whatever IE and HND. -/
def Obligations.Interrupts : Prop :=
  ∀ (c : CoreNo) (i : Nat) (s : State),
    let k := pairOf c.val
    let ready := fun (j : Nat) => (s.reg .EVF_CORE_PEND k).getLsbD j && (s.reg .CORE_IEN k).getLsbD j
    (s.runs k = true → s.flag F.CORE_STATUS_IE k = true → s.flag F.CORE_STATUS_HND k = false → i < 4 → ready i = true →
        (∀ j, j < i → ready j = false) →
        ∃ t, exec (.interruptEntry c) s = .next t ∧ t.reg .CORE_CAUSE k = BitVec.ofNat 32 (16 + i)
          ∧ t.reg .CORE_RETA k = s.pcOf k &&& 0xFFFFFFFC#32 ∧ t.reg .CORE_FADDR k = 0 ∧ t.flag F.CORE_STATUS_IE k = false
          ∧ t.flag F.CORE_STATUS_HND k = true ∧ t.pcOf k = s.reg .CORE_HBASE k + BitVec.ofNat 32 ((16 + i) * 0x20)
          ∧ t.reg .EVF_CORE_PEND k = s.reg .EVF_CORE_PEND k ∧ t.core.gpr = s.core.gpr ∧ t.mem = s.mem)
      ∧ (s.flag F.CORE_STATUS_HND k = true ∨ s.flag F.CORE_STATUS_IE k = false → exec (.interruptEntry c) s = .next s)
      ∧ (k ∈ s.core.waiting → s.reg .EVF_CORE_PEND k &&& s.reg .CORE_IEN k ≠ 0 →
        ∃ t, exec (.waitiResume c) s = .next t ∧ k ∉ t.core.waiting ∧ t.regs = s.regs ∧ t.mem = s.mem ∧ t.core.pc = s.core.pc)

/-- Short operations beside a NOP (R386, R395). Each short operation in slot A with a NOP in slot B, on a core that takes the instruction: NOP writes nothing; MOV, MOVI and the two-address operations write rd with the value of the short-operation table; the Q operations write it under the range rule; MAC15 and MAC31 add the product to the accumulator; the pc goes on by 4. -/
def Obligations.PairedOps : Prop :=
  ∀ (c : CoreNo) (rd r : RegF) (i : BitVec 2) (s : State), s.coreReady c →
    let k := pairOf c.val
    let u := s.coreFetched c
    let x := u.gpr k rd.toNat
    let y := u.gpr k r.toNat
    let q := fun (w : Word) => (w.setWidth 16).toInt
    let gives := fun (i : Instr) (v : Word) => exec i s = .next (u.regThenNext k rd v)
    let fx := fun (i : Instr) (n : Nat) (v : Int) => exec i s = .next (u.fxThenNext k n rd v)
    exec (.nop c 0 0 (.pair false) 0) s = .next (u.setPc k (u.pcOf k + 4))
      ∧ gives (.mov c rd r false 0) y ∧ gives (.movi c rd r false 0) (r.signExtend 32)
      ∧ gives (.shortAdd c rd r false 0) (x + y) ∧ gives (.shortSub c rd r false 0) (x - y) ∧ gives (.shortAnd c rd r false 0) (x &&& y)
      ∧ gives (.shortOr c rd r false 0) (x ||| y) ∧ gives (.shortXor c rd r false 0) (x ^^^ y)
      ∧ gives (.shortAddi c rd r false 0) (x + r.signExtend 32) ∧ gives (.shortShli c rd r false 0) (x <<< r)
      ∧ gives (.shortShrui c rd r false 0) (x >>> r) ∧ gives (.shortShrsi c rd r false 0) (x.sshiftRight' r)
      ∧ gives (.shortClt c rd r false 0) (if x.slt y then 1 else 0) ∧ gives (.shortCeq c rd r false 0) (if x = y then 1 else 0)
      ∧ fx (.shortAddq15 c rd r false 0) 16 (q x + q y) ∧ fx (.shortSubq15 c rd r false 0) 16 (q x - q y)
      ∧ fx (.shortMulq15 c rd r false 0) 16 (roundFx (u.fld F.CORE_FXMODE_RND k) 15 (q x * q y))
      ∧ fx (.shortAddq31 c rd r false 0) 32 (x.toInt + y.toInt)
      ∧ exec (.shortMac15 c rd r false 0 i) s = .next (u.wrapThenNext k i.toNat ((u.acc k i.toNat).toInt + q x * q y * 2 ^ 33))
      ∧ exec (.shortMac31 c rd r false 0 i) s
        = .next (u.wrapThenNext k i.toNat ((u.acc k i.toNat).toInt + x.toInt * y.toInt * 2))

/-- Two slots of one word, and short loads and stores (R384, R386, R387, R395). A pair of MOVs that names each other's source swaps the two registers, since both slots read before either writes; a pair with one destination, a memory operation in slot B, bit 15 at 1 or an SOP of 0x1C or more raises ILLEGAL with the word in FADDR; LD32 and ST32 in slot A load and store the word at rs in the scratchpad or an SRAM that the core may reach. -/
def Obligations.PairedSlots : Prop :=
  ∀ (c : CoreNo) (rd r : RegF) (b : BitVec 15) (s : State), s.coreReady c →
    let k := pairOf c.val
    let u := s.coreFetched c
    let illegal := fun (i : Instr) (w : Word) => exec i s = .next (u.except k .illegal (u.pcOf k) w).roadDue
    let x := (u.gpr k r.toNat).toNat
    let reach := clusterOfWho k = 0 ∨ inScratch x = true ∨ u.userMem (clusterOfWho k) x 4 = true
    (rd ≠ r → rd ≠ 0 → r ≠ 0 → ∃ t, exec (.mov c rd r false (1#5 ++ r ++ rd)) s = .next t
        ∧ t.gpr k rd.toNat = u.gpr k r.toNat ∧ t.gpr k r.toNat = u.gpr k rd.toNat ∧ t.pcOf k = u.pcOf k + 4)
      ∧ (rd ≠ 0 → illegal (.shortAdd c rd r false (1#5 ++ rd ++ r)) (1#1 ++ 2#5 ++ rd ++ r ++ 0#1 ++ 1#5 ++ rd ++ r))
      ∧ illegal (.mov c rd r false (0x1A#5 ++ r ++ rd)) (1#1 ++ 1#5 ++ rd ++ r ++ 0#1 ++ 0x1A#5 ++ r ++ rd)
      ∧ illegal (.mov c rd r true b) (1#1 ++ 1#5 ++ rd ++ r ++ 1#1 ++ b)
      ∧ (28 ≤ b.toNat / 1024 → illegal (.mov c rd r false b) (1#1 ++ 1#5 ++ rd ++ r ++ 0#1 ++ b))
      ∧ (u.cleanAt k x → reach → x % 4 = 0 →
        exec (.shortLd32 c rd r false 0 {}) s = .next (State.done (u.regThenNext k rd
            (u.byteFor k (x + 3) ++ u.byteFor k (x + 2) ++ u.byteFor k (x + 1) ++ u.byteFor k x)))
          ∧ ∃ t, exec (.shortSt32 c rd r false 0 {}) s = .next (State.done t)
            ∧ (∀ j, j < 4 → t.byteFor k (x + j) = (u.gpr k rd.toNat).extractLsb' (8 * j) 8)
            ∧ (∀ y, y < x ∨ x + 4 ≤ y → t.byteFor k y = u.byteFor k y) ∧ (∀ j, t.gpr k j = u.gpr k j) ∧ t.pcOf k = u.pcOf k + 4)

/-- A custom opcode runs its sequence (R399, R404, R405, R406). A CX whose decode entry is valid and whose first micro-operation is OPD ← OPS1 op OPS2 with END, for every operation of two registers, writes rd with that operation of rs1 and rs2 and goes on; one whose entry is not valid raises ILLEGAL with the instruction word in FADDR. -/
def Obligations.CustomOpcode : Prop :=
  ∀ (c : CoreNo) (rd a b n g : RegF) (f : AluOp) (s : State), s.coreReady c →
    let k := pairOf c.val
    let u := s.coreFetched c
    let e := k / 8 * 32 + n.toNat
    let ua := u.fld F.CL_CXDEC_START e
    let r := aluResult f (u.reg .CORE_FXMODE k) (u.gpr k a.toNat) (u.gpr k b.toNat)
    (u.flag F.CL_CXDEC_VALID e = true → Tab.getD u.sram.errs (RamWord.ucode (k / 8) ua).key 0 = 0 →
        (LOp.rr f 8 9 10).fieldsOk = true →
        Tab.getD u.core.ucode (k / 8 * 2048 + ua) 0 = 0x80000000#32 ||| (LOp.rr f 8 9 10).encode →
        ∃ t, exec (.cx c rd a b n g) s = .next (State.done t)
          ∧ (∀ j, t.gpr k j = if j = rd.toNat ∧ j ≠ 0 then r.1 else u.gpr k j) ∧ t.pcOf k = u.pcOf k + 4
          ∧ t.core.acc = u.core.acc ∧ t.mem = u.mem ∧ (r.2 = true → t.flag F.CORE_FXSTAT_OV k = true) ∧ (r.2 = false → t.regs = u.regs))
      ∧ (u.flag F.CL_CXDEC_VALID e = false → exec (.cx c rd a b n g) s
        = .next (State.done (u.except k .illegal (u.pcOf k) (0#1 ++ 0x30#6 ++ rd ++ a ++ b ++ n ++ g)).roadDue))

/-- The lockstep pair, and cores that do not run (R381, R382, R399). Core 1 acts as core 0; an instruction of a core that is not released, halted, waiting or unpowered changes nothing; an instruction whose fetch faults has no effect of its own, and takes FETCH_FAULT or ECC with the fetch address. -/
def Obligations.StoppedCores : Prop :=
  ∀ (c : CoreNo) (op : LOp) (rd a b : RegF) (s : State),
    exec (.add 1 rd a b) s = exec (.add 0 rd a b) s
      ∧ (s.runs (pairOf c.val) = false → exec (.add c rd a b) s = .next s ∧ s.runLong c op = s ∧ exec (.interruptEntry c) s = .next s)
      ∧ (∀ x t, s.runs (pairOf c.val) = true → (s.onCore fun y => { y with lost := [] }).fetch (pairOf c.val) = (.fault x, t) →
        s.runLong c op = (t.except (pairOf c.val) x (t.pcOf (pairOf c.val)) (t.pcOf (pairOf c.val))).roadDue)

/-- What a fetch leaves unchanged (R379, R388). A fetch changes no general register, no accumulator, no pc, no scratchpad byte, no micro-operation and no byte of memory of any core; and a core of a user cluster fetches from no address outside the flash windows, its own cluster's SRAM and the system SRAM granted to it. -/
def Obligations.FetchFrame : Prop :=
  ∀ (k : Nat) (s : State),
    let t := (s.fetch k).2
    t.core.gpr = s.core.gpr ∧ t.core.acc = s.core.acc ∧ t.core.pc = s.core.pc ∧ t.core.pad = s.core.pad
      ∧ t.core.ucode = s.core.ucode ∧ t.mem = s.mem
      ∧ ((s.fetch k).1 = .line → 8 ≤ k → let x := (s.pcOf k).toNat
        (0x08000000 ≤ x ∧ x < 0x0A000000) ∨ (0x21000000 + k / 8 * 0x80000 ≤ x ∧ x < 0x21080000 + k / 8 * 0x80000)
          ∨ (0x20000000 ≤ x ∧ x < 0x20400000 ∧ ∃ g ∈ s.core.regions, g.cluster = k / 8 ∧ g.base ≤ x ∧ x < g.base + g.len))

/-- g0 reads zero and discards writes (R388). In every state g0 of every core reads zero; a write to g0 changes nothing; an operation with rd g0 only moves the pc on. -/
def Obligations.HardwiredZero : Prop :=
  ∀ (c : CoreNo) (a b : RegF) (imm : BitVec 20) (v : Word) (s : State),
    (∀ k, s.gpr k 0 = 0) ∧ s.setGpr (pairOf c.val) 0 v = s
      ∧ (s.coreReady c → let k := pairOf c.val; let u := s.coreFetched c
        exec (.add c 0 a b) s = .next (u.setPc k (u.pcOf k + 4)) ∧ exec (.ldhi c 0 imm) s = .next (u.setPc k (u.pcOf k + 4)))

/-- Long operations: decode and encode agree (R384, R385, R394). Every long operation with every operand at every value its form admits decodes from its own word, which has bit 31 at 0; and every word that decodes, with bit 31 cleared, is the word of the operation it decodes to, so no bit is dropped and no two operations share a word. -/
def Obligations.LongEncoding : Prop :=
  (∀ op : LOp, (∀ f rd a imm, op = .ri f rd a imm → f.immCode ≠ none) →
      decodeLong op.encode = some op ∧ op.encode.msb = false)
    ∧ ∀ (w : Word) (op : LOp), decodeLong w = some op → op.encode = w &&& 0x7FFFFFFF#32

/-- Short operations: decode and encode agree (R386, R395). Every short operation with every value of its two fields decodes from its own 15 bits, and every 15 bits that decode are those of the short operation they decode to; SOP values from 0x1C upwards decode to none. -/
def Obligations.ShortEncoding : Prop :=
  (∀ x : Slot, decodeSlot x.encode = some x) ∧ (∀ (b : BitVec 15) (x : Slot), decodeSlot b = some x → x.encode = b)
    ∧ ∀ b : BitVec 15, (decodeSlot b = none ↔ 0x1C ≤ b.toNat / 1024)

/-- Words of the spec's examples (R387, R407). ADDI g5, g6, −3, the pair ADD g3, g4 with MAC15 a1, g5, g6, CX7 g10, g11, g12 and the five micro-operations of the example spell the words that the spec gives them, and the micro-operations decode to the operations named. -/
def Obligations.ExampleWords : Prop :=
  (LOp.ri .add 5 6 (-3)).encode = 0x08537FFD#32
    ∧ encPair ⟨.add, 3, 4⟩ false (Slot.encode ⟨.mac15 1, 5, 6⟩) = 0x88644CA6#32
    ∧ (LOp.cx 10 11 12 7 0).encode = 0x60A5B0E0#32
    ∧ decodeLong 0x0014A801#32 = some (.rr .sub 1 9 10) ∧ decodeLong 0x0024A812#32 = some (.rr .clt 2 9 10)
    ∧ decodeLong 0x40200002#32 = some (.bz 2 2) ∧ decodeLong 0x00100401#32 = some (.rr .sub 1 0 1)
    ∧ microCheck 0x80808000#32 = .inr (.rr .add 8 1 0)

/-- A step runs the command at the front of the queue (01_architecture). With a command at the front of the queue a step is exec of that command on the state with the rest of the queue. The queue is the form of the model (log entry 1), no rule of the spec. -/
def Obligations.StepTakesFront : Prop :=
  ∀ (c : Instr) (rest : List Instr) (s : State), step { s with pending := c :: rest } = exec c { s with pending := rest }

/-- A step with no command waiting is one cycle (R351, R353). With an empty queue a step answers a next state one cycle later, which finds the registers as they stand and no flag set in it; with nothing due, no call of a user cluster waiting and no frame in a context, memory and the cores are as they were. With the system domain off and the RTC halted or without its supply nothing but the cycle counts; with the RTC running below its next count of SUB, its prescaler counts as well. That time passes on an empty queue, and that a cycle is what comes between two such steps, is the model's choice (log entries 1 and 163). -/
def Obligations.IdleCycle : Prop :=
  ∀ (s : State), s.pending = [] →
    (∃ t, step s = .next t ∧ t.cyc = s.cyc + 1 ∧ t.was = t.regs ∧ t.raised = []
        ∧ (s.nothingDue → s.roadPend = none → s.hcp.calls = [] → s.frm.ctxs = [] → t.mem = s.mem ∧ t.core = s.core))
      ∧ (s.sysOn = false → s.roadPend = none → (s.flag F.RTC_CTRL_HALT = true ∨ s.pwr.vbak = false) → step s = .next ({ s with cyc := s.cyc + 1 } : State).newCycle)
      ∧ (s.sysOn = false → s.roadPend = none → s.flag F.RTC_CTRL_HALT = false → s.pwr.vbak = true → s.rtc.sub + 1 < 390625 →
          step s = .next ({ s with cyc := s.cyc + 1, rtc := { s.rtc with sub := s.rtc.sub + 1 } } : State).newCycle)

/-- What the end of a step leaves unchanged (R46, R49, R100, R486). When no result waits for delivery, no HCP job is in progress, no access of one waits, no choice of a radio entry is due, no commit is requested, every record of the ring has been queued or retired, no notification of a line port has been dropped, no Roadside entry is due, no exchange is open and the resting state is not above the floor, the end of a step changes no register but SYSCTL_LMSTAT and SYSCTL_PSTATE, and nothing of the state beside the registers; it keeps the current state and the resting state. -/
def Obligations.EndOfStep : Prop :=
  ∀ (u : State), u.waits = false → u.hcp.jobs = [] → u.hcp.reads = [] → u.sched.again = false → u.roadPend = none → u.noExch = true →
    (∀ e ∈ u.msu.ms, e.2.request = none) → (∀ r ∈ u.msu.ring, r.queued = true ∨ r.retired = true) →
    (u.tp .lp0).lost = 0 → (u.tp .lp1).lost = 0 →
    (u.floorNow = 7 ∨ u.restState ≤ u.floorNow) →
    u.done = { u with regs := u.done.regs }
      ∧ (∀ (r : RegName) (n : Nat), r ≠ .SYSCTL_LMSTAT → r ≠ .SYSCTL_PSTATE → u.done.reg r n = u.reg r n)
      ∧ u.done.cur = u.cur ∧ u.done.restState = u.restState

/-- Writes to registers by access type (R5, R7, R9). In a register with no action of its own, a write gives each RW bit the written value unless the bit is locked while its block runs, clears a W1C bit that is written as 1 unless hardware has set it in the same cycle, and leaves every other bit. A write while the block runs that would change a locked bit sets the WLOCK flag of its block. AT-BOUNDARY bits keep their value in force. No other register, no memory and no core changes. -/
def Obligations.PlainRegisterWrite : Prop :=
  (∀ r : RegName, (regRow r).rw &&& (regRow r).w1c = 0) ∧
  ∀ (r : RegName) (n : Nat) (running : Bool) (w : Word) (s : State),
    let t := s.regStore r n running w
    let row := regRow r
    let set := Tab.getD s.raised (r.key n) 0
    (wlockOf r n ≠ some (r, n) → ∀ i < 32,
        (t.reg r n).getLsbD i = (if row.rw.getLsbD i && !(running && row.locked.getLsbD i) then w.getLsbD i
          else if row.w1c.getLsbD i && w.getLsbD i && !set.getLsbD i then false else (s.reg r n).getLsbD i))
      ∧ (∀ (r' : RegName) (n' : Nat), (r', n') ≠ (r, n) → wlockOf r n ≠ some (r', n') → t.reg r' n' = s.reg r' n')
      ∧ (∀ (r' : RegName) (n' : Nat), running = true → (s.reg r n ^^^ w) &&& row.locked ≠ 0 → wlockOf r n = some (r', n') →
          (t.reg r' n').getLsbD 31 = true)
      ∧ (wlockOf r n ≠ some (r, n) → t.inReg r n &&& row.boundary = s.inReg r n &&& row.boundary)
      ∧ t = { s with regs := t.regs, held := t.held, raised := t.raised }

/-- The address of a register reaches that register (R32). For every register with one copy and an address, and every instance its dimensions give it, an access of any initiator at the address of the instance reaches that register and that instance. -/
def Obligations.AddressesReachTheirRegisters : Prop :=
  ∀ (r : RegName) (n who : Nat), (regRow r).copies = .one → (regRow r).base.isSome = true → n < dimCount (regRow r).dims →
    regAt who (regAddr r n) = some (r, n)

/-- A register write at an address (R9, R30, R39, R41, R68, R127). REGISTER_WRITE while the system domain is on: an address of a register reached for CL0, or for a user cluster whose rights permit it, takes the write of that register; an address that no register answers logs an S2 of source 0x24 with the initiator and the address; a write that no right permits logs an S2 of source 0x21 with the initiator and the address. The debug port reaches nothing without a session or once DEBUG_DISABLE is blown; in SECURED and CLOSED it has the rights of CL1 and CL2 alone unless DEBUG_OPEN has opened the rest. With the system domain off nothing is written. -/
def Obligations.RegisterAccess : Prop :=
  ∀ (who : Who) (a w : Word) (s : State),
    let ends := fun (t : State) => exec (.registerWrite who a w) s = .next t.done
    let l := s.rights who.val
    (s.sysOn = false → ends s) ∧ (l = [] → ends s)
      ∧ (s.sysOn = true → inDbg a.toNat = false → l ≠ [] → regAt (s.actsAs who.val) a.toNat = none → ends (s.raise 2 0x24 who.val a))
      ∧ (∀ (r : RegName) (n : Nat), s.sysOn = true → inDbg a.toNat = false → l ≠ [] → regAt (s.actsAs who.val) a.toNat = some (r, n) →
          (s.forCl0 who → ends (s.writeReg 0 r n w))
            ∧ (∀ cl, l = [cl] → s.userReach cl r n true = true → ends (s.writeReg cl r n w))
            ∧ ((∀ cl ∈ l, cl ≠ 0 ∧ s.userReach cl r n true = false) → ends (s.raise 2 0x21 who.val a)))
      ∧ (who.val = 27 → (l = [] ↔ s.debugDisabled = true ∨ s.core.debug = false)
          ∧ (s.forCl0 who → s.security = 0 ∨ s.hcp.debugScope.isSome = true) ∧ (l ≠ [] → ¬s.forCl0 who → l = [1, 2]))

/-- What reset leaves (R8, R37). After reset every register of every instance holds its reset value, memory lists nothing and is in its canonical form, no command waits, and the core registers of every core read zero. The core registers at zero are the model's choice (log entry 72), and so is what memory reads as where nothing lists it (log entry 2). -/
def Obligations.ResetState : Prop :=
  (∀ (r : RegName) (n : Nat), State.reset.reg r n = regReset r n)
    ∧ State.reset.memOk ∧ State.reset.mem = [] ∧ State.reset.pending = []
    ∧ (∀ c i, State.reset.gpr c i = 0) ∧ (∀ c k, State.reset.acc c k = 0) ∧ State.reset.noExch = true ∧ State.reset.inRoadside = false

/-- Every step keeps the canonical form of memory (R31). For every state whose memory lists addresses strictly rising and no byte equal to what an unlisted address reads as, and for every command at the front of the queue or none: if the step answers a next state, its memory has that form. -/
def Obligations.StepKeepsMemoryForm : Prop :=
  ∀ (s t : State), s.memOk → step s = .next t → t.memOk

/-- Entries to lower power states, and the end of exchanges (R48, R49, R54, R55, R56, R95, R96, R124, R156). RETURN_TIMER_EXPIRY begins an entry: to LISTEN at once with PLL0 locked, with CL1 and CL2 gated and their SRAM lost; to DOZE it waits while a milestone is open. While an exchange is open, an HCP command is in progress or a reply is still to be sent, it begins none. ENTRY_CONDITIONS_CLEAR makes the entry ready with PLL0 off; ENTRY_WAIT_TIMEOUT gives it up while a condition fails, also after that, with the current state as resting state. At its commit point, while the entry is to the resting state and its conditions hold, DOZE keeps journal SRAM and the backup registers and loses system SRAM; HIBERNATE keeps the backup registers alone. RELAY_WINDOW_EXPIRY ends the exchange of the WURX where no sync word has come, and changes nothing where one has; LINE_IDLE_TIMEOUT and PAD_EXCHANGE_TIMEOUT end their exchange and no other. ROADSIDE_BEACON sends the beacon of a port in BEACON. -/
def Obligations.PowerStates : Prop :=
  ∀ (s : State),
    let ends := fun (c : Instr) (t : State) => exec c s = .next t.done
    (s.noExch = false ∨ s.hcp.jobs ≠ [] ∨ s.replying = true → ends .returnTimerExpiry s)
      ∧ (s.sysOn = true → s.noExch = true → s.hcp.jobs = [] → s.replying = false → s.inRoadside = false → s.pwr.flush = none →
        s.pwr.entry = none → (s.level = 0 → s.pllLocks = true → s.restState = 1 → ∃ t, ends .returnTimerExpiry t ∧ t.cur = 1
            ∧ ∀ a, 0x21080000 ≤ a → a < 0x21180000 → t.byte a = 0)
          ∧ (s.restState = 2 → s.mileState 0 ≠ 0 →
              ends .returnTimerExpiry { s with pwr := { s.pwr with entry := some 2, ready := false, flushed := false } }))
      ∧ (s.pwr.entry = some 2 → s.pwr.ready = false → s.entryClear = true → s.pwr.flush = none →
          ∃ t, ends .entryConditionsClear t ∧ t.pwr.ready = true ∧ t.flag F.SYSCTL_CLKCFG_PLL_EN = false
            ∧ t.flag F.SYSCTL_CLKSTAT_PLL_LOCK = false)
      ∧ (s.pwr.entry.isSome = true → s.entryClear = false →
          ∃ t, ends .entryWaitTimeout t ∧ t.pwr.entry = none ∧ t.restState = s.cur)
      ∧ (s.pwr.ready = true → s.entryClear = true → s.pwr.flush = none →
          (s.pwr.entry = some 2 → s.restState = 2 → ∃ t, ends .dozeCommitPoint t ∧ t.cur = 2 ∧ (∀ n, t.reg .RTC_BKP n = s.reg .RTC_BKP n)
              ∧ (∀ a, 0x20000000 ≤ a → a < 0x20400000 → t.byte a = 0)
              ∧ (∀ a, 0x20400000 ≤ a → a < 0x20440000 → t.byte a = s.byte a))
            ∧ (s.pwr.entry = some 3 → s.restState = 3 → s.journalDirty = false →
                ∃ t, ends .hibernateCommitPoint t ∧ t.cur = 3 ∧ t.restState = 3 ∧ (∀ n, t.reg .RTC_BKP n = s.reg .RTC_BKP n)
                  ∧ (∀ a, 0x20000000 ≤ a → a < 0x20440000 → t.byte a = 0)))
      ∧ (s.restState ≠ 2 → ends .dozeCommitPoint s) ∧ (s.restState ≠ 3 → ends .hibernateCommitPoint s)
      ∧ (s.pwr.wurxSync = false →
          ∃ t, ends .relayWindowExpiry t ∧ (∀ e, t.isExch e = if e = .wurx then false else s.isExch e) ∧ t.mem = s.mem)
      ∧ (s.pwr.wurxSync = true → ends .relayWindowExpiry s)
      ∧ (∀ p : Fin 2, ∃ t, ends (.lineIdleTimeout p) t
          ∧ (∀ e, t.isExch e = if e = (if p = 0 then .lp0 else .lp1) then false else s.isExch e) ∧ t.mem = s.mem)
      ∧ (∃ t, ends .padExchangeTimeout t ∧ (∀ e, t.isExch e = if e = .pad then false else s.isExch e) ∧ t.mem = s.mem)
      ∧ (s.sysOn = true → s.lpState 0 = lpBeacon →
          ∃ t b, ends .roadsideBeacon t ∧ (t.line 0).sent = some b ∧ b.typ = 5 ∧ b.first = true ∧ b.last = true
            ∧ b.payload = s.beaconBytes)

/-- Which reset each source causes (R54, R79, R99, R105, R106, R109, R110, R127, R152, R491, R493, R494). POWER_ON_RESET, BROWN_OUT and the restart after a park cause a cold reset with their cause, the restart when the bus lies above the release level, and POWER_ON_RESET with the backup domain lost where VBAK is absent; NRESET_IN in every state that has VCORE, SYS_RESET, a debug reset, HCP RESET 0 and an expiry of WDT0 or WDT1 a warm reset with theirs; CLUSTER_RESET, HCP RESET and WDT2 or WDT3 a reset of their cluster. NRESET_IN held low keeps a cold reset waiting, and its release starts the boot; an expiry is taken once the count has run out; while a flash pulse or a commit runs it is held, a fall of NRESET_IN joins it, and HELD_RESET_TAKEN takes it when no pulse runs. SUPPLY_LOSS leaves the device in OFF, with the backup domain lost too when VBAK is. -/
def Obligations.Resets : Prop :=
  ∀ (env : BootEnv) (who : Who) (n : Half) (level : Byte) (s : State),
    let ends := fun (c : Instr) (t : State) => exec c s = .next t.done
    let pinned := fun (t : State) => { t with pwr := { t.pwr with pinWait := true } }
    let fresh := (({ s with vinLow := false } : State).onPwr fun p => { p with busLow := false, refSeen := [], refDown := [] }).setEnv env
    let on := ((if env.vbak then fresh else fresh.backupLost).coldReset F.SYSCTL_RSTCAUSE_POR).onPwr fun p => { p with vbak := env.vbak }
    let up := ({ s with vinLow := false } : State).onPwr fun p => { p with busLow := false }
    let again := fun (cause : Fld) => ((up.setEnv env).coldReset cause).onPwr fun p => { p with after := .recover }
    (s.pwr.held = false → s.pwr.pinLow = false →
        ends (.powerOnReset env) on.boot)
      ∧ (s.pwr.held = false → s.pwr.pinLow = true →
          ends (.powerOnReset env) (pinned on))
      ∧ (s.level < 3 → s.pwr.off = false → s.pwr.held = false → s.pwr.flush = none →
          ends (.brownOut n) ((s.coldReset F.SYSCTL_RSTCAUSE_BOR).onPwr fun p => { p with held := true, pinWait := false }))
      ∧ (level.toNat ≤ s.releaseLevel → ends (.busRecoveryRestart ⟨level, env⟩)
          (s.onPwr fun p => { p with busLow := decide (level.toNat < s.releaseLevel) }))
      ∧ (level.toNat > s.releaseLevel →
          (s.pwr.parked = false → s.portEnabled 0 = false → s.portEnabled 1 = false → ends (.busRecoveryRestart ⟨level, env⟩) up)
            ∧ (s.pwr.parked = false → ∀ p < 2, s.inRoadside = false → s.portEnabled p = true → s.exc p = none →
                ∃ t, ends (.busRecoveryRestart ⟨level, env⟩) t ∧ Tab.getD t.txp.pins p 0 = s.fld F.TXP_FEMCFG_RXPINS p)
            ∧ (s.pwr.parked = true → s.pwr.pinLow = false →
              (s.pwr.off = false → ends (.busRecoveryRestart ⟨level, env⟩) (again F.SYSCTL_RSTCAUSE_HIB_WAKE).boot)
                ∧ (s.pwr.off = true → ends (.busRecoveryRestart ⟨level, env⟩) (again F.SYSCTL_RSTCAUSE_POR).boot)))
      ∧ (s.pwr.pinWait = true → ∃ u : State, u.pwr.pinLow = false ∧ u.pwr.pinWait = false ∧ u.mem = s.mem ∧ u.regs = s.regs
          ∧ ends (.nresetInRelease env) u.boot)
      ∧ (s.pinResets = true → s.err.held = [] → s.pwr.flush = none → ends (.nresetInAssert env)
          ((((s.onPwr fun p => { p with pinLow := true, pinFlush := false }).setEnv env).warmReset [F.SYSCTL_RSTCAUSE_PIN]).boot))
      ∧ (s.pinResets = true → s.err.held ≠ [] → s.pwr.flush = none → ends (.nresetInAssert env)
          ((s.onPwr fun p => { p with pinLow := true, pinFlush := false }).setFld F.SYSCTL_RSTCAUSE_PIN 1))
      ∧ (s.level ≤ 2 → s.pwr.off = false → s.pwr.held = false → s.pwr.pinWait = false → s.flushing = false → s.pinResets = true)
      ∧ (s.sysOn = true → s.flushing = false →
          (s.forCl0 who → ends (.sysReset who env) (((s.setEnv env).warmReset [F.SYSCTL_RSTCAUSE_SOFT]).boot))
            ∧ (s.debugReach 0 = true → ends (.debugReset env) (((s.setEnv env).warmReset [F.SYSCTL_RSTCAUSE_DEBUG]).boot))
            ∧ (s.hcp.reset = some 0 → ends (.hcpResetTrigger env)
                ((((s.onHcp fun h => { h with reset := none }).setEnv env).warmReset [F.SYSCTL_RSTCAUSE_SOFT]).boot)))
      ∧ (∀ k, k = 1 ∨ k = 2 → s.hcp.reset = some k → ends (.hcpResetTrigger env) ((s.onHcp fun h => { h with reset := none }).clusterReset k))
      ∧ (s.sysOn = true → s.forCl0 who → ends (.clusterReset who true false) (s.clusterReset 1)
          ∧ ends (.clusterReset who false true) (s.clusterReset 2) ∧ ends (.clusterReset who true true) ((s.clusterReset 1).clusterReset 2))
      ∧ (∀ w : Fin 4, s.sysOn = true → w.val ∈ s.err.wdtDue →
          let u := ((s.setEnv env).raise 2 0x23 w.val).onErr fun e => { e with wdtDue := e.wdtDue.filter (· != w.val) }
          (w.val < 2 → u.resetHeld = false → ends (.watchdogExpiry w env) (u.consecUp.warmReset [F.SYSCTL_RSTCAUSE_WDT]).boot)
            ∧ (w.val < 2 → u.resetHeld = true → ∃ t, ends (.watchdogExpiry w env) t ∧ w.val ∈ t.err.held
                ∧ t.flag F.SYSCTL_RSTCAUSE_WDT = true ∧ t.mem = s.mem)
            ∧ (w.val = 2 → ends (.watchdogExpiry w env) ((u.setFld F.SYSCTL_RSTCAUSE_CL1_WDT 1).clusterReset 1))
            ∧ (w.val = 3 → ends (.watchdogExpiry w env) ((u.setFld F.SYSCTL_RSTCAUSE_CL2_WDT 1).clusterReset 2)))
      ∧ (∀ w : Fin 4, w.val ∉ s.err.wdtDue → ends (.watchdogExpiry w env) (s.setEnv env))
      ∧ (s.err.held ≠ [] → s.pulseRuns = false →
          ends (.heldResetTaken env) (((s.setEnv env).consecUp.warmReset [F.SYSCTL_RSTCAUSE_WDT]).boot))
      ∧ (∃ t, ends (.supplyLoss false) t ∧ t.pwr.off = true ∧ t.pwr.vbak = s.pwr.vbak ∧ ∀ n, t.reg .RTC_BKP n = s.reg .RTC_BKP n)
      ∧ (∃ t, ends (.supplyLoss true) t ∧ t.pwr.off = true ∧ t.pwr.vbak = false ∧ ∀ n, t.reg .RTC_BKP n = regReset .RTC_BKP n)

/-- What each reset keeps (R37, R56, R110, R111, R122). With no commit, no flash and no OTP work under way and nothing that the boot would flush, a warm reset keeps the flash, journal SRAM where ARMED is 0 or no slot is erased (elsewhere it reads zero after the full test), the log and the backup registers, sets its causes, and loses system SRAM, the registers of the cores and the frame contexts. A cold reset keeps the flash and the backup registers, sets its cause alone, and loses journal SRAM and the log. A cluster reset loses the SRAM, the general registers and the enables of the cores of its cluster. An entry to Roadside while in Roadside changes nothing. -/
def Obligations.WhatResetsKeep : Prop :=
  ∀ (s : State),
    (s.commitHead = none → s.flc.programs = [] → s.flc.page = none → s.otp.run = none →
        (s.workEnds.flushDue = false → ∀ f, f ∈ [F.SYSCTL_RSTCAUSE_SOFT, F.SYSCTL_RSTCAUSE_PIN, F.SYSCTL_RSTCAUSE_WDT, F.SYSCTL_RSTCAUSE_DEBUG] →
          let t := s.warmReset [f]
          (∀ a, 0x08000000 ≤ a → a < 0x0A000000 → t.byte a = s.byte a) ∧ (∀ a, 0x20400000 ≤ a → a < 0x20438000 → t.byte a = if s.workEnds.journalKept then s.byte a else 0)
            ∧ (∀ a, 0x20000000 ≤ a → a < 0x20400000 → t.byte a = 0) ∧ (∀ n, t.reg .RTC_BKP n = s.reg .RTC_BKP n)
            ∧ t.flag f = true ∧ t.core.gpr = [] ∧ t.core.pc = [] ∧ t.frm.ctxs = [] ∧ t.err.log = s.err.log)
          ∧ (∀ f, f ∈ [F.SYSCTL_RSTCAUSE_POR, F.SYSCTL_RSTCAUSE_BOR, F.SYSCTL_RSTCAUSE_HIB_WAKE] →
              let t := s.coldReset f
              (∀ a, 0x08000000 ≤ a → a < 0x0A000000 → t.byte a = s.byte a) ∧ (∀ a, 0x20000000 ≤ a → a < 0x22000000 → t.byte a = 0)
                ∧ (∀ n, t.reg .RTC_BKP n = s.reg .RTC_BKP n) ∧ t.reg .SYSCTL_RSTCAUSE = wordPut 0 f.hi f.lo 1 ∧ t.err.log = []
                ∧ t.core.gpr = [] ∧ t.fld F.FRM_DUP_STAT_COLD_LEFT = 64))
      ∧ (∀ cl, cl = 1 ∨ cl = 2 →
          let t := s.clusterReset cl
          (∀ a, 0x21000000 + cl * 0x80000 ≤ a → a < 0x21080000 + cl * 0x80000 → t.byte a = 0)
            ∧ (∀ c i, c < 24 → i < 32 → clusterOf c = cl → t.gpr c i = 0 ∧ t.released c = false)
            ∧ (∀ c i, c < 24 → i < 32 → clusterOf c ≠ cl → t.gpr c i = s.gpr c i))
      ∧ (∀ c, s.inRoadside = true → s.enterRoadside c = { s with roadPend := none })

/-- Voltage requests, references, PLL0 and the clock selection (R81, R82, R83, R84, R85, R87, R89, R90, R91, R93, R94, R497). A write of PMB_VREQ starts a request or waits behind the one being sent, its target clamped to VCORE_NOM; VOUT_COMMAND_DONE, PMB_PGOOD_ACK, STATUS_WORD_POLL, PMB_REQUEST_TIMEOUT and PMB_PGOOD_FALL carry it on, with VACK falling when a lower target is sent and rising when it is acknowledged, a poll acknowledging within 15 mV of the target; a write or a poll without an acknowledgement, or with a packet error code that fails, is tried again. A reference that fails hands PLL0 to the other one, or stops it; PLL0 is enabled, locks (a wake from DOZE then reaches LISTEN, and RUN where a call or the resting state asks for it) and is selected as SYSCTL_CLKCFG says, and its loss moves the clock to FRC. -/
def Obligations.VoltageAndClocks : Prop :=
  ∀ (who : Who) (w : Word) (status vout : Half) (r : Fin 2) (s : State),
    let ends := fun (c : Instr) (t : State) => exec c s = .next t.done
    let target := Nat.min 170 (Nat.max 150 (w.toNat % 256))
    (s.sysOn = true → s.forCl0 who →
        (s.pwr.pmb.sending = none → ∃ t, ends (.pmbVreqWrite who w) t ∧ t.fld F.PMB_VREQ_VTARGET = w.toNat % 256
            ∧ t.pwr.pmb.sending = some target ∧ t.flag F.PMB_STAT_BUSY = true)
          ∧ (∀ x, s.pwr.pmb.sending = some x → ∃ t, ends (.pmbVreqWrite who w) t ∧ t.pwr.pmb.sending = some x ∧ t.pwr.pmb.next = some target)
          ∧ (s.nowOrWas State.onPll = false → s.flag F.SYSCTL_CLKCFG_SRC = false →
              (∃ t, ends (.pllEnWrite who true) t ∧ t.flag F.SYSCTL_CLKCFG_PLL_EN = true ∧ t.onPll = false)
                ∧ ∃ t, ends (.pllEnWrite who false) t ∧ t.flag F.SYSCTL_CLKCFG_PLL_EN = false ∧ t.mem = s.mem)
          ∧ (s.flag F.SYSCTL_CLKSTAT_PLL_LOCK = true → ∃ t, ends (.srcSelect who true) t ∧ t.onPll = true)
          ∧ (∃ t, ends (.srcSelect who false) t ∧ t.onPll = false))
      ∧ (∀ x, s.pwr.pmb.sending = some x → s.pwr.pmb.next = none →
          (x < s.fld F.PMB_STAT_VACK → ∃ t, ends (.voutCommandDone false false) t ∧ t.fld F.PMB_STAT_VACK = x
              ∧ t.pwr.pmb.sending = none ∧ t.pwr.pmb.awaiting = some x)
            ∧ (s.fld F.PMB_STAT_VACK ≤ x → ∃ t, ends (.voutCommandDone false false) t ∧ t.fld F.PMB_STAT_VACK = s.fld F.PMB_STAT_VACK
                ∧ t.pwr.pmb.sending = none ∧ t.pwr.pmb.awaiting = some x)
            ∧ (s.pwr.pmb.retries < s.fld F.PMB_CFG_RETRIES → ∃ t, ends (.voutCommandDone true false) t ∧ t.flag F.PMB_STAT_NACK = true
                ∧ t.pwr.pmb.sending = some x ∧ t.pwr.pmb.retries = s.pwr.pmb.retries + 1))
      ∧ (∀ x, s.pwr.pmb.awaiting = some x → x < 256 →
          (s.flag F.PMB_CFG_PGOOD_USE = true → ∃ t, ends .pmbPgoodAck t ∧ t.fld F.PMB_STAT_VACK = x ∧ t.flag F.PMB_STAT_BUSY = false
              ∧ t.pwr.pmb.awaiting = none)
            ∧ (s.flag F.PMB_CFG_PGOOD_USE = false → status.getLsbD 15 = false → status.getLsbD 11 = false →
                (∀ m : Nat, s.pwr.pmb.exp = -(m : Int) →
                    ((vout.toNat * 1000 : Nat) - (x * 5 * 2 ^ m : Nat) : Int).natAbs ≤ 15 * 2 ^ m →
                    ∃ t, ends (.statusWordPoll ⟨status, s.pmbReadCode 0x79 status, false⟩ ⟨vout, s.pmbReadCode 0x8B vout, false⟩) t ∧ t.fld F.PMB_STAT_VACK = x ∧ t.pwr.pmb.awaiting = none)
                  ∧ (∀ m : Nat, s.pwr.pmb.exp = (m : Int) →
                    ((vout.toNat * 2 ^ m * 1000 : Nat) - (x * 5 : Nat) : Int).natAbs ≤ 15 →
                    ∃ t, ends (.statusWordPoll ⟨status, s.pmbReadCode 0x79 status, false⟩ ⟨vout, s.pmbReadCode 0x8B vout, false⟩) t ∧ t.fld F.PMB_STAT_VACK = x ∧ t.pwr.pmb.awaiting = none))
            ∧ (s.flag F.PMB_CFG_PGOOD_USE = false → s.pwr.pmb.pollRetries < s.fld F.PMB_CFG_RETRIES →
                ∃ t, ends (.statusWordPoll ⟨status, 0, true⟩ ⟨vout, 0, false⟩) t ∧ t.flag F.PMB_STAT_NACK = true ∧ t.pwr.pmb.awaiting = some x
                  ∧ t.pwr.pmb.pollRetries = s.pwr.pmb.pollRetries + 1)
            ∧ (∀ e : Byte, s.flag F.PMB_CFG_PGOOD_USE = false → s.pwr.pmb.pollRetries < s.fld F.PMB_CFG_RETRIES → e ≠ s.pmbReadCode 0x79 status →
                ∃ t, ends (.statusWordPoll ⟨status, e, false⟩ ⟨vout, s.pmbReadCode 0x8B vout, false⟩) t ∧ t.flag F.PMB_STAT_PEC_ERR = true
                  ∧ t.pwr.pmb.awaiting = some x ∧ t.pwr.pmb.pollRetries = s.pwr.pmb.pollRetries + 1))
      ∧ (s.pwr.pmb.awaiting = some 130 → ∃ t, ends .pmbRequestTimeout t ∧ t.flag F.PMB_STAT_TIMEOUT = true ∧ t.pwr.pmb.awaiting = none
          ∧ t.pwr.pmb.clears = s.pwr.pmb.clears + 1)
      ∧ (s.sysOn = true →
          (s.flag F.PMB_CFG_PGOOD_USE = true → s.flag F.PMB_STAT_BUSY = false → status.getLsbD 15 = true →
              ∃ t, ends (.pmbPgoodFall ⟨status, 0, 0⟩) t ∧ t.roadPend.isSome = true ∧ t.pwr.pmb.clears = s.pwr.pmb.clears + 1)
            ∧ (s.refGood r.val = true → s.flag F.SYSCTL_CLKCFG_PLL_EN = true → s.fld F.SYSCTL_CLKSTAT_REF_ACTIVE = r.val →
                (s.refGood (1 - r.val) = true → ∃ t, ends (.refFail r) t ∧ t.refGood r.val = false
                    ∧ t.fld F.SYSCTL_CLKSTAT_REF_ACTIVE = 1 - r.val
                    ∧ t.fld F.SYSCTL_CLKSTAT_REF_SWITCHES = Nat.min 255 (s.fld F.SYSCTL_CLKSTAT_REF_SWITCHES + 1))
                  ∧ (s.refGood (1 - r.val) = false → ∃ t, ends (.refFail r) t ∧ t.onPll = false
                      ∧ t.flag F.SYSCTL_CLKSTAT_PLL_LOCK = false ∧ t.roadPend.isSome = true))
            ∧ (s.flag F.SYSCTL_CLKCFG_REF_REVERT = false → ∃ t, ends (.refGood r) t ∧ t.refGood r.val = true
                ∧ t.fld F.SYSCTL_CLKSTAT_REF_ACTIVE = s.fld F.SYSCTL_CLKSTAT_REF_ACTIVE)
            ∧ (s.pllRuns = true → (s.pwr.waking = false → ends .pllLock (s.setFld F.SYSCTL_CLKSTAT_PLL_LOCK 1).raiseDue)
                ∧ (s.pwr.waking = true → ∃ t, ends .pllLock t ∧ t.flag F.SYSCTL_CLKSTAT_PLL_LOCK = true ∧ t.pwr.waking = false
                  ∧ (s.hcp.calls = [] → 1 ≤ s.restState → t.cur = 1)
                  ∧ (s.inRoadside = false → (s.hcp.calls ≠ [] ∨ s.restState = 0) → t.cur = 0)))
            ∧ (s.flag F.SYSCTL_CLKCFG_PLL_EN = true → s.flag F.SYSCTL_CLKSTAT_PLL_LOCK = false → ends .pllLockTimeout (s.fatal 0 0 0 0x10))
            ∧ (s.flag F.SYSCTL_CLKSTAT_PLL_LOCK = true → ∃ t, ends .pllLockLoss t ∧ t.onPll = false
                ∧ t.flag F.SYSCTL_CLKSTAT_PLL_LOCK = false))

/-- Last Mile: arming, the trip, the flush and the park (R96, R99, R100, R101, R102, R103, R106, R107). VIN_SENSE_TRIP, with Last Mile enabled and the comparator armed, starts a flush, also out of an orderly one, makes the front-end pins safe, discards the queue of flash commands and ends every exchange; LMCFG_ARM arms when a slot is erased; LMCFG_FLUSH starts an orderly flush when armed. FLUSH_WRITE_SLOT seals the flush and writes nothing outside the header, the data and the seal of its slot, and nothing at all with nothing dirty; FLUSH_PARK leaves HIBERNATE with VBAK present and OFF without it, and a NRESET_IN that fell during the flush and is still low then acts as a warm reset (DEDUCED, log entry 158); FLUSH_SEAL_TIMEOUT parks with the slot unsealed. -/
def Obligations.LastMile : Prop :=
  ∀ (who : Who) (area : BitVec 5) (n : Half) (s : State),
    let ends := fun (c : Instr) (t : State) => exec c s = .next t.done
    (s.vinLow = true → ends .vinSenseTrip s)
      ∧ (s.level < 3 → s.pwr.off = false → s.pwr.held = false → s.pwr.pinWait = false → s.vinLow = false →
        s.flag F.SYSCTL_VINCFG_LM_EN = true → (∀ f, s.pwr.flush = some f → f.orderly = true) →
        ∃ t f, ends .vinSenseTrip t ∧ t.pwr.flush = some f ∧ f.orderly = false ∧ f.sealed = false ∧ t.vinLow = true
          ∧ (∀ p, p < 2 → Tab.getD t.txp.pins p 0 = 0) ∧ t.flag F.SYSCTL_LMSTAT_FLUSH_ACTIVE = true ∧ t.noExch = true ∧ t.flc.queue = [])
      ∧ (s.sysOn = true → s.forCl0 who →
          (s.nowOrWas (fun u => u.flag F.SYSCTL_LMSTAT_ARMED) = false → (s.setFld F.SYSCTL_LMCFG_AREA area.toNat).areaOk = true →
              (s.setFld F.SYSCTL_LMCFG_AREA area.toNat).slotErased 0 = true →
              ∃ t, ends (.lmcfgArm who area) t ∧ t.flag F.SYSCTL_LMCFG_ARM = true ∧ t.flag F.SYSCTL_LMSTAT_ARMED = true
                ∧ t.fld F.SYSCTL_LMCFG_AREA = area.toNat ∧ t.mem = s.mem)
            ∧ (s.flag F.SYSCTL_LMSTAT_ARMED = true → s.pwr.flush = none →
                ∃ t f, ends (.lmcfgFlush who) t ∧ t.pwr.flush = some f ∧ f.orderly = true ∧ f.sealed = false ∧ t.mem = s.mem))
      ∧ (∀ f, s.pwr.flush = some f → f.orderly = false →
          (f.sealed = false → s.flashQuiet = true →
              (s.journalDirty = false → ends .flushWriteSlot { s with pwr := { s.pwr with flush := some { f with sealed := true } } })
                ∧ (∀ k, s.flushSlot = some k → s.journalDirty = true →
                    ∃ t, ends .flushWriteSlot t ∧ t.pwr.flush = some { f with sealed := true }
                      ∧ ∀ a, (a < flashBase + s.slotOff k ∨ flashBase + s.slotOff k + 36 + s.slotData.length ≤ a) → t.byte a = s.byte a))
            ∧ (f.sealed = true →
                (s.pwr.vbak = true → s.pwr.pinFlush = true →
                    ends .flushPark ((s.park f).warmBoot [F.SYSCTL_RSTCAUSE_PIN]) ∧ (s.park f).cur = 3 ∧ (s.park f).pwr.off = false)
                  ∧ (s.pwr.vbak = true → s.pwr.pinFlush = false → ∃ t, ends .flushPark t ∧ t.cur = 3 ∧ t.pwr.parked = true ∧ t.pwr.off = false)
                  ∧ (s.pwr.vbak = false → ∃ t, ends .flushPark t ∧ t.pwr.off = true ∧ t.pwr.parked = true))
            ∧ (f.sealed = false → s.pwr.pinFlush = false → ∃ t, ends (.flushSealTimeout n) t ∧ t.pwr.parked = true
                ∧ t.pwr.unsealed = (s.journalDirty && s.flushSlot.isSome)))

/-- HPORT transactions, the UART, sessions and resources of HCP (R46, R49, R127, R134, R135, R138, R139, R140, R141, R143, R155). HPORT_CSN_FALL opens a transaction and the host exchange, HPORT_CSN_RISE ends it and puts HPORT_CFG in force. A transaction serves the one operation that its instruction byte names, and one that names none ends it: WRITE_PACKET serves one whole packet, READ_PACKET drives the packet at the head and then 0x00 and removes it once it has been read whole, READ_STATUS drives the status word, over again for as long as the clock runs, and ends the assertion for READY; the rate that a TRANSPORT_CFG set comes with the end of its reply. UART_PACKET serves a whole packet and UART_GAP_TIMEOUT discards a part. SESSION_TIMEOUT and NONCE_EXPIRY end a session and a nonce, SLOT_RESOURCE_TIMEOUT releases an image slot, DEBUG_SESSION_ATTACH attaches only while DEBUG_DISABLE is intact; that the end of a session closes what DEBUG_OPEN had opened is the model's choice (log entry 183). -/
def Obligations.Transports : Prop :=
  ∀ (b : Bytes) (q : Pkt) (len : Nat) (n : Half) (instr : Byte) (t0 : Tp) (k : Fin 2) (s : State),
    let ends := fun (c : Instr) (t : State) => exec c s = .next t.done
    let drives := fun (x : Bytes) => s.onHcp fun h => { h with served := false, driven := (x ++ zeros (n.toNat - x.length)).take n.toNat }
    let scope := fun (b : Bool) => (s.onCore fun c => { c with debug := b }).onHcp fun h => { h with debugScope := if b then h.debugScope else none }
    (s.pwr.off = false → s.pwr.held = false → s.level ≤ 1 → s.pwr.flush = none →
        ∃ t, ends .hportCsnFall t ∧ t.hcp.csnLow = true ∧ t.isExch .host = true ∧ t.pwr.entry = none
          ∧ (t.hcp.served = true ↔ s.pwr.up = true ∧ s.inFld F.HPORT_CFG_ENABLE = 1))
      ∧ (∃ t, ends .hportCsnRise t ∧ t.hcp.csnLow = false ∧ t.hcp.served = false ∧ t.inReg .HPORT_CFG = s.reg .HPORT_CFG)
      ∧ (s.hcp.csnLow = true → s.hcp.served = true →
          (parsePkt b = .packet q len → ends (.writePacket ⟨0x02, b⟩) ((s.onHcp fun h => { h with served := false }).hcpPacket .hport q))
            ∧ (parsePkt b = .noSync → ends (.writePacket ⟨0x02, b⟩) (s.onHcp fun h => { h with served := false }))
            ∧ (instr ∉ [0x02#8, 0x05#8, 0x0B#8] → ends (.writePacket ⟨instr, b⟩) (s.onHcp fun h => { h with served := false, driven := [] }))
            ∧ (∀ p l, (s.tp .hport).queue = p :: l → pktLen p ≤ n.toNat → (s.tp .hport).lost = 0 → s.hcp.rateNext = [] →
                ends (.readPacket n) ((drives (pktBytes p)).setTp .hport { s.tp .hport with queue := l }))
            ∧ (∀ p l, (s.tp .hport).queue = p :: l → n.toNat < pktLen p → ends (.readPacket n) (drives (pktBytes p)))
            ∧ ((s.tp .hport).queue = [] → ends (.readPacket n) (drives []))
            ∧ (∀ p l r, (s.tp .hport).queue = p :: l → pktLen p ≤ n.toNat → s.hcp.rateNext = [r] → r.tp = 0 → r.seq = p.seq → p.opcode = 0x010A →
                ∃ t, ends (.readPacket n) t ∧ t.hcp.uartRate = r.rate ∧ t.hcp.rateNext = []))
      ∧ ((s.hcp.csnLow = true ∧ s.hcp.served = true) ∨ s.hcp.statusOn = true →
          let word := leBytes 4 s.hportStatus.toNat
          let sends := fun (m : Nat) => s.onHcp fun h =>
            { h with served := false, statusOn := true, readyIrq := false, driven := (List.range m).map fun i => word.getD (i % 4) 0 }
          ends .readStatus (sends 4) ∧ ends (.writePacket ⟨0x05, b⟩) (sends b.length))
      ∧ (s.hcp.served = false → ends (.readPacket n) s ∧ (instr ≠ 0x05#8 → ends (.writePacket ⟨instr, b⟩) s)
          ∧ (s.hcp.statusOn = false → ends (.writePacket ⟨instr, b⟩) s ∧ ends .readStatus s))
      ∧ (s.sysOn = true → parsePkt (s.hcp.uart ++ b) = .packet q (s.hcp.uart ++ b).length →
          ends (.uartPacket b) ((s.hcpPacket .uart q).onHcp fun h => { h with uart := [] }))
      ∧ ends .uartGapTimeout (s.onHcp fun h => { h with uart := [] })
      ∧ (∃ t, ends (.sessionTimeout t0) t ∧ (t.tp t0).session = none ∧ t.mem = s.mem ∧ t.regs = s.regs)
      ∧ ends (.nonceExpiry t0) (s.setTp t0 { s.tp t0 with challenge := none })
      ∧ (∃ t, ends (.slotResourceTimeout k) t ∧ (∀ j, Tab.find t.hcp.slots j = if j = k.val then none else Tab.find s.hcp.slots j)
          ∧ t.mem = s.mem ∧ t.regs = s.regs)
      ∧ (s.debugDisabled = false → ends (.debugSessionAttach true) (scope true))
      ∧ (s.debugDisabled = true → ends (.debugSessionAttach true) s)
      ∧ ends (.debugSessionAttach false) (scope false)

/-- Opening a milestone and adding its actions (R247, R248, R249, R250, R251, R252, R253, R254, R257, R277). MSU_OPEN by any cluster takes the lowest free number outside the reserve, OPEN and owned by that cluster. For CL0, an add of each action kind whose fields, rights and claims pass puts the action last in the milestone and reports the number held; a radio action carries the tag of its transmission, a line action puts its entry into its queue, held by the milestone. MSU_CMD sets the policy of an empty milestone, aborts one whose commit the MSU has not accepted with LAST_RESULT 2, and requests the commit of one, which waits exactly while it is held; an abort after the acceptance sets CMD_ERR alone. -/
def Obligations.MilestonesOpenAndAdd : Prop :=
  ∀ (who : Who) (ms opt : BitVec 6) (target : Half) (p1 p2 : Word) (b : Bool) (m : Milestone) (s : State), s.sysOn = true →
    let ends := fun (c : Instr) (t : State) => exec c s = .next t.done
    let k := ms.toNat
    let staged := fun (kind : Nat) => (((s.setReg .MSU_ACT 0 (BitVec.ofNat 32 (kind * 2 ^ 28 + opt.toNat * 2 ^ 22 + ms.toNat * 2 ^ 16 + target.toNat))).setReg
      .MSU_ACT 1 p1).setReg .MSU_ACT 2 p2).setReg .MSU_ACT 3 0
    let added := fun (kind : Nat) (c : Instr) (tag : Option Nat) (more : State → Prop) => ∃ t m' a, ends c t ∧ t.mile k = some m'
      ∧ m'.actions = m.actions ++ [a] ∧ a.kind = kind ∧ a.target = target.toNat ∧ a.w1 = p1 ∧ a.w2 = p2 ∧ a.tag = tag
      ∧ t.reg .MSU_ADD_RES 0 = BitVec.ofNat 32 (0x80000000 + (m.actions.length + 1)) ∧ more t
    (s.pwr.entry = none → s.msu.replay = none → ∀ j, s.mileFree 0 s.feLow = some j →
        ∃ t, ends (.msuOpen who) t ∧ t.mileState j = 1 ∧ t.mileOwner j = clusterOfWho who.val ∧ t.mile j = some {}
          ∧ (∀ i, i ≠ j → t.mile i = s.mile i ∧ t.mileState i = s.mileState i) ∧ t.mem = s.mem)
      ∧ (s.forCl0 who → s.mile k = some m → s.mileUsable 0 none k = true → m.actions.length < 16 →
          (∀ a, a ∈ m.actions → a.claimed = none) → (∀ x, s.holders k x = []) →
          (opt = 0 →
            (target.toNat < 128 → added 1 (.actionWrite who ms opt target p1 p2 0) none fun _ => True)
              ∧ (target = 0 → p1.toNat % 4 = 0 → 32 ≤ p2.toNat → p2.toNat ≤ 2080 → p2.toNat % 32 = 0 → s.flag F.SYSCTL_LMSTAT_ARMED = true →
                  added 2 (.actionJappend who ms opt target p1 p2 0) none fun _ => True)
              ∧ (target.toNat < 128 → p1.toNat % 4 = 0 → 1 ≤ p2.toNat → p2.toNat ≤ 8192 → s.pushRefusal 0 target.toNat p1.toNat p2.toNat = none →
                  added 4 (.actionEnqLine who ms opt target p1 p2 0) none fun t =>
                    t.queue target.toNat = s.queue target.toNat ++ [⟨p1.toNat, p2.toNat, some (k, s.msu.nextClaim)⟩])
              ∧ (target.toNat < 32 → p2 = 0 → s.tmrOwner target.toNat = 0 →
                  added 5 (.actionArmTimer who ms opt target p1 p2 0) none fun _ => True)
              ∧ (target.toNat < 256 → p1 = 0 → p2 = 0 → s.chOwner target.toNat = 0 →
                  added 6 (.actionFireEvent who ms opt target p1 p2 0) none fun _ => True)
              ∧ (target.toNat < 64 → p1.toNat < 512 → p2 = 0 → s.slotHolds target.toNat (p1.toNat % 256) = true →
                  added 7 (.actionEpochSwitch who ms opt target p1 p2 0) none fun _ => True)
              ∧ (target = 0 → p1.toNat % 32 = 0 → flashBase ≤ p1.toNat → p1.toNat < flashBase + s.partB * 1048576 →
                  added 8 (.actionFlashRec who ms opt target p1 p2 0) none fun _ => True))
          ∧ (opt = 0 ∨ opt = 32 → target = 0 → p2 = 0 → p1.toNat % 16 = 0 → 0x20000000 ≤ p1.toNat → p1.toNat + 16 ≤ 0x20440000 →
              let v := staged 3
              let w := fun i => v.word (p1.toNat + 4 * i)
              ∀ tag u, v.txSubmit (v.txEntry (.milestone k s.msu.nextClaim) (w 0) (w 1) (w 2) (w 3)) (v.txFieldsOk (w 0) (w 1) (w 2) (w 3))
                  = (.inr tag, u) →
                added 3 (.actionEnqRadio who ms opt target p1 p2 0) (some tag) fun _ => True)
          ∧ (m.actions = [] → ∃ t, ends (.msuCmdSetPolicy who ms b) t ∧ t.fld F.MSU_MS_STAT_POLICY k = b2n b ∧ t.mem = s.mem)
          ∧ (s.commitHead ≠ some k →
              ∃ t, ends (.msuCmdAbort who ms) t ∧ t.mileState k = 0 ∧ t.fld F.MSU_MS_STAT_LAST_RESULT k = 2 ∧ t.mile k = none)
          ∧ (s.commitHead = some k → ends (.msuCmdAbort who ms) (s.setFld F.MSU_STAT_CMD_ERR 1))
          ∧ (let held := s.mileHeld k { m with request := some s.msu.nextRequest }
            ∃ t, ends (.msuCmdCommit who ms) t ∧ t.mileState k = (if held then 2 else 1)
              ∧ t.mile k = some { m with request := some s.msu.nextRequest, ready := if held then none else some (m.ready.getD s.cyc) }))

/-- Commits, retirement and replay (R252, R257, R260, R262, R265, R268, R270). A requested milestone whose actions are WRITEs, that nothing holds back and whose turn it is commits: the CSN counts one, it ends with LAST_RESULT 1, and a single WRITE merges its value under its mask; a single JAPPEND gives the record the next journal sequence number. A FLASH_REC of a LANDING milestone goes to the flash controller. A milestone whose turn it is not does not. A wait that is too long ends a milestone of firmware whose commit has not been accepted with LAST_RESULT 5. JOURNAL_RETIRE retires a record, or sets RETIRE_ERR when there is none. MSU_REPLAY starts the replay of a source when no milestone is open, and REPLAY_DONE ends one that finds no commit record; from journal SRAM, the sequence numbers then go on above every record found in the ring. -/
def Obligations.MilestonesCommit : Prop :=
  ∀ (who : Who) (k : Fin 64) (seq : Word) (src : BitVec 2) (m : Milestone) (s : State), s.sysOn = true →
    let ends := fun (c : Instr) (t : State) => exec c s = .next t.done
    (s.mile k.val = some m →
        (m.request.isSome = true → s.mileState k.val = 1 ∨ s.mileState k.val = 2 → s.mileHeld k.val m = false → m.ctx = none →
            s.commitHead = some k.val →
            (m.actions ≠ [] → (∀ a, a ∈ m.actions → a.kind = 1) →
                ∃ t, ends (.milestoneCommit k) t ∧ t.reg .MSU_CSN = s.reg .MSU_CSN + 1 ∧ t.mileState k.val = 0
                  ∧ t.fld F.MSU_MS_STAT_LAST_RESULT k.val = 1 ∧ t.mile k.val = none
                  ∧ ∀ a, m.actions = [a] → t.reg .MSU_TVAR a.target = (s.reg .MSU_TVAR a.target &&& ~~~a.w2) ||| (a.w1 &&& a.w2))
              ∧ (∀ a, m.actions = [a] → a.kind = 2 →
                  ∃ t, ends (.milestoneCommit k) t ∧ t.reg .MSU_JSEQ = s.reg .MSU_JSEQ + 1 ∧ t.mileState k.val = 0
                    ∧ t.fld F.MSU_MS_STAT_LAST_RESULT k.val = 1))
          ∧ (s.mileState k.val = 3 → s.flc.queue.length < 8 → (∃ a, a ∈ m.actions ∧ a.kind = 8 ∧ a.passed = false) →
              ∃ t c a, ends (.flashRecPassed k) t ∧ t.flc.queue = s.flc.queue ++ [c] ∧ a ∈ m.actions ∧ a.kind = 8 ∧ a.passed = false
                ∧ c.op = 1 ∧ c.nwords = 8 ∧ c.offset = a.w1.toNat - flashBase ∧ t.mem = s.mem)
          ∧ (s.mileState k.val = 2 → s.mileOwner k.val ≠ 3 → s.commitHead ≠ some k.val → ∃ t, ends (.milestoneWaitTimeout k) t ∧ t.mileState k.val = 0
              ∧ t.fld F.MSU_MS_STAT_LAST_RESULT k.val = 5 ∧ t.mile k.val = none))
      ∧ (s.commitHead ≠ some k.val → ends (.milestoneCommit k) s)
      ∧ (s.mileState k.val = 2 → s.mileOwner k.val = 3 ∨ s.commitHead = some k.val → ends (.milestoneWaitTimeout k) s)
      ∧ (s.forCl0 who →
          ((∃ r, r ∈ s.msu.ring ∧ r.seq = seq.toNat ∧ r.retired = false) →
              ∃ t, ends (.journalRetire who seq) t ∧ (∀ r, r ∈ t.msu.ring → r.seq = seq.toNat → r.retired = true) ∧ t.mem = s.mem
                ∧ ∀ r, r ∈ s.msu.ring → r.seq ≠ seq.toNat → r.retired = false → r ∈ t.msu.ring)
            ∧ ((∀ r, r ∈ s.msu.ring → r.seq = seq.toNat → r.retired = true) →
                ends (.journalRetire who seq) (s.setFld F.MSU_STAT_RETIRE_ERR 1))
            ∧ (s.msu.replay = none → (∀ j, j < 64 → s.mileState j = 0) → src ≠ 0 →
                ∃ t, ends (.msuReplay who src) t ∧ t.msu.replay = some src.toNat ∧ t.flag F.MSU_RPSTAT_BUSY = true
                  ∧ t.flag F.MSU_RPSTAT_DONE = false ∧ t.mem = s.mem)
            ∧ (s.msu.replay.isSome = true → ends (.msuReplay who src) (s.setFld F.MSU_STAT_CMD_ERR 1)))
      ∧ (∀ x, s.msu.replay = some x → s.replayable x = false ∨ (x = 3 ∧ s.msu.kept = []) → s.dirtyRecords = [] → s.msu.dirDone = false →
          ∃ t, ends .replayDone t ∧ t.msu.replay = none ∧ t.flag F.MSU_RPSTAT_BUSY = false ∧ t.flag F.MSU_RPSTAT_DONE = true
            ∧ (x = 3 → (∀ r, r ∈ s.ringFound → r.seq + 1 < 2 ^ 32) → ∀ r, r ∈ s.ringFound → r.seq < (t.reg .MSU_JSEQ).toNat))

/-- Bringing a line port up, and training it again (R287, R288, R289, R290, R291, R292, R293, R306). On a port in DETECT, ANNOUNCE_TIMER sends an ANNOUNCE; hearing an ANNOUNCE that does not overlap its own, or an ANSWER to the own one, agrees on the slower of the two modes, as slave or as master; TRAINING_START enters HALF_M, the phases follow each other to SYNC, a sync word within SYNC_TOL gives CHECK with the count of its errors, and both verdicts passed give UP; a verdict after the attempt has failed counts for nothing. A failed attempt trains the next slower mode where fallback is allowed, and otherwise returns to DETECT with TRAIN_FAIL. In UP, a low SNR, RETRAIN and LPN_RETRAIN train again at the present mode, MODE_UP at the next faster one, and a loss of energy returns to DETECT. -/
def Obligations.LineBringUp : Prop :=
  ∀ (who : Who) (p : Fin 2) (mode flags errs : Byte) (node : Word) (snr : Half) (s : State), s.sysOn = true →
    let ends := fun (c : Instr) (t : State) => exec c s = .next t.done
    let x := s.line p.val
    let m := s.lpMode p.val
    (s.lpState p.val = lpDetect → x.train = none →
        (∃ t, ends (.announceTimer p) t ∧ (t.line p.val).announced = true ∧ (t.line p.val).silent = false ∧ t.lpState p.val = lpDetect)
          ∧ (s.announcing p.val = true → ends (.announce p mode flags node) s)
          ∧ (s.announcing p.val = false → ∃ t, ends (.announce p mode flags node) t ∧ t.flag F.LP_STAT_MASTER p.val = false ∧ t.reg .LP_PEER p.val = node
              ∧ (t.line p.val).train = some (Nat.max (Nat.min 2 (s.fld F.LP_CFG_MODE p.val)) (Nat.min 2 mode.toNat)))
          ∧ (x.announced = true → ∃ t, ends (.answer p mode flags node) t ∧ t.flag F.LP_STAT_MASTER p.val = true
              ∧ t.reg .LP_PEER p.val = node
              ∧ (t.line p.val).train = some (Nat.max (s.lpWant p.val) (Nat.min 2 mode.toNat))))
      ∧ (∀ n, x.train = some n → n ≤ 2 → ∃ t, ends (.trainingStart p) t ∧ t.lpState p.val = lpHalfM ∧ t.lpMode p.val = n
          ∧ (t.line p.val).train = none)
      ∧ ((s.lpState p.val = lpHalfM → ∃ t, ends (.trainingPhaseEnd p) t ∧ t.lpState p.val = lpHalfS)
          ∧ (s.lpState p.val = lpHalfS → ∃ t, ends (.trainingPhaseEnd p) t ∧ t.lpState p.val = lpFull)
          ∧ (s.lpState p.val = lpFull → ∃ t, ends (.trainingPhaseEnd p) t ∧ t.lpState p.val = lpSync))
      ∧ (s.lpState p.val = lpSync →
          (errs.toNat ≤ s.lpTol p.val → ∃ t, ends (.syncWordFound p errs) t ∧ t.lpState p.val = lpCheck
              ∧ (t.line p.val).syncErrs = errs.toNat)
            ∧ (s.lpTol p.val < errs.toNat → ends (.syncWordFound p errs) s)
            ∧ (x.upFrom = none → x.fallback = false → s.fld F.LP_CFG_ROLE p.val < 2 →
                ∃ t, ends (.syncSearchFail p) t ∧ t.lpState p.val = lpDetect ∧ t.flag F.LP_STAT_TRAIN_FAIL p.val = true
                  ∧ (t.line p.val).silent = true)
            ∧ (x.upFrom = none → x.fallback = true → x.noFall = false → m < 2 →
                ∃ t, ends (.syncSearchFail p) t ∧ (t.line p.val).train = some (m + 1)))
      ∧ (s.lpState p.val = lpCheck →
          (x.passed = none → x.peerPassed = none → ∃ t, ends (.checkEnd p snr) t ∧ t.lpState p.val = lpCheck
              ∧ (t.line p.val).passed = some (decide (x.checkFails ≤ 2 ∧ snrReq m + 10 * s.inFld F.LP_CFG_MARGIN_MIN p.val ≤ snr.toNat)))
            ∧ (x.train ≠ none → ends (.verdict p true) s ∧ ends (.verdict p false) s ∧ ends (.verdictTimeout p) s)
            ∧ (x.train = none → x.passed = some true → ∃ t, ends (.verdict p true) t ∧ t.lpState p.val = lpUpState ∧ t.lpUp p.val = true)
            ∧ (x.train = none → x.passed = none → ∃ t, ends (.verdict p false) t ∧ (t.line p.val).peerPassed = some false ∧ t.lpState p.val = lpCheck)
            ∧ (∀ a n, x.train = none → x.passed = some a → x.peerPassed = none → x.upFrom = some n →
                ∃ t, ends (.verdictTimeout p) t ∧ (t.line p.val).train = some n ∧ (t.line p.val).noFall = true))
      ∧ (s.lpState p.val = lpUpState →
          (s.fld F.LP_CFG_ROLE p.val < 2 → ∃ t, ends (.energyLoss p) t ∧ t.lpState p.val = lpDetect ∧ (t.line p.val).announced = true)
            ∧ (snrReq m + 10 ≤ snr.toNat → ∃ t, ends (.snrLow p snr) t ∧ t.line p.val = x ∧ t.lpState p.val = lpUpState)
            ∧ (x.train = none →
                (snr.toNat < snrReq m + 10 → ∃ t, ends (.snrLow p snr) t ∧ (t.line p.val).train = some m)
                  ∧ ends (.retrain p) (s.onLine p.val fun y => { y with train := some m })
                  ∧ (s.forCl0 who → ∃ t, ends (.lpnRetrain who p) t ∧ (t.line p.val).train = some m ∧ t.mem = s.mem)
                  ∧ (x.fallback = true → x.agreed < m → s.flag F.LP_STAT_MASTER p.val = true → s.fld F.LP_CFG_UP_TRY p.val ≠ 0 →
                      ∃ t, ends (.modeUpTimer p) t ∧ (t.line p.val).train = some (m - 1) ∧ (t.line p.val).upFrom = some m)
                  ∧ (0 < m → ends (.modeUp p) (s.onLine p.val fun y => { y with train := some (m - 1), upFrom := some m }))))

/-- Blocks, units, sleep and time transfer on a line port (R97, R283, R284, R286, R294, R297, R298, R299, R300, R301, R304, R305). A boundary sends the LINK or TIME block that is due, else a forwarded one, else one of the port, else IDLE, and counts it. A received block with a bad check counts in CF_ERR and goes nowhere; a whole USER_DOWN block for this node is taken. CONFIRM retires the records of its ranges, or keeps them while a replay runs; MGMT_DOWN serves its HCP packet; USER_DOWN is kept for the user clusters. DOZING makes the port QUIET, WAKE_PEER wakes the peer, and the wake ends in DETECT, in another try, or in QUIET with WAKE_FAIL. A burst with a BEACON block sets BEACON_SEEN, a through port forwards it and an end port drops it; another block in a burst is dropped, and one whose check fails counts in CF_ERR (that a burst other than a BEACON counts in DROP_OTHER is the model's reading, log entry 179). SYNC, DELAY_REQ and DELAY_RESP carry the time transfer. -/
def Obligations.LineTraffic : Prop :=
  (∀ (who : Who) (p : Fin 2) (raw u : Bytes) (seq : Half) (sec : Word) (tick : BitVec 27) (frac : BitVec 4) (s : State), s.sysOn = true →
    let ends := fun (c : Instr) (t : State) => exec c s = .next t.done
    let x := s.line p.val
    let t1 : Stamp := ⟨sec.toNat, tick.toNat, frac.toNat⟩
    (s.forCl0 who → (s.lpState p.val = lpQuiet → ∃ t, ends (.lpnWakePeer who p) t ∧ t.lpState p.val = lpWake)
        ∧ ∃ t, ends (.lpnClrCnt who p) t ∧ (∀ k, k < 8 → t.reg .LP_CNT (p.val * 8 + k) = 0)
            ∧ ∀ r n, (r, n / 8) ≠ (.LP_CNT, p.val) → t.reg r n = s.reg r n)
      ∧ (s.lpState p.val = lpDetect ∨ s.lpState p.val = lpUpState → ∃ t, ends (.dozing p) t ∧ t.lpState p.val = lpQuiet
          ∧ (t.line p.val).train = none)
      ∧ (s.lpState p.val = lpWake → s.fld F.LP_CFG_ROLE p.val < 2 → ∃ t, ends (.lineWakePatternSent p) t ∧ t.lpState p.val = lpDetect
          ∧ (t.line p.val).wakes = x.wakes + 1)
      ∧ (x.wakes = 0 ∨ s.lpState p.val = lpOff ∨ s.lpState p.val = lpQuiet ∨ s.lpState p.val = lpUpState ∨ s.lpState p.val = lpBeacon →
          ends (.wakeWaitExpiry p) s)
      ∧ (s.lpState p.val = lpDetect ∨ (lpHalfM ≤ s.lpState p.val ∧ s.lpState p.val ≤ lpCheck) → 0 < x.wakes →
          (x.wakes < Nat.max 1 (s.inFld F.LP_WAKECFG_WAKE_TRIES p.val) → ∃ t, ends (.wakeWaitExpiry p) t ∧ t.lpState p.val = lpWake)
            ∧ (Nat.max 1 (s.inFld F.LP_WAKECFG_WAKE_TRIES p.val) ≤ x.wakes → ∃ t, ends (.wakeWaitExpiry p) t ∧ t.lpState p.val = lpQuiet
                ∧ t.flag F.LP_STAT_WAKE_FAIL p.val = true))
      ∧ (s.lpState p.val = lpDetect ∨ s.lpState p.val = lpQuiet →
          (parseBlock raw = none → ends (.beaconBurstReceived p raw) (s.lpCount p.val 2))
            ∧ ∀ b, parseBlock raw = some b →
              (b.typ = 5 → s.lpRole p.val ≠ 1 → ends (.beaconBurstReceived p raw) ((s.setFld F.LP_STAT_BEACON_SEEN 1 p.val).lpCount p.val 5))
                ∧ (b.typ = 5 → s.lpRole p.val = 1 → s.takenOnly b = false → 1 ≤ b.hops → s.lpRole (1 - p.val) = 1 →
                  s.lpState (1 - p.val) = lpUpState → (s.line (1 - p.val)).fwd.length < 64 →
                  ∃ t, ends (.beaconBurstReceived p raw) t ∧ t.flag F.LP_STAT_BEACON_SEEN p.val = true
                    ∧ (t.line (1 - p.val)).fwd = (s.line (1 - p.val)).fwd ++ [{ b with hops := b.hops - 1 }])
                ∧ (b.typ ≠ 5 → b.linkLocal = false → ends (.beaconBurstReceived p raw) (s.lpCount p.val 5))
                ∧ (b.linkLocal = true → ends (.beaconBurstReceived p raw) s))
      ∧ (s.lpState p.val = lpUpState →
          (parseBlock raw = none → ∃ t, ends (.lineBlockReceived p raw) t
              ∧ t.reg .LP_CNT (p.val * 8 + 1) = s.reg .LP_CNT (p.val * 8 + 1) + 1
              ∧ t.reg .LP_CNT (p.val * 8 + 2) = s.reg .LP_CNT (p.val * 8 + 2) + 1 ∧ t.mem = s.mem ∧ t.lp.userDown = s.lp.userDown)
            ∧ (∀ b, parseBlock raw = some b → b.typ = 7 → b.first = true → b.last = true → s.takes b = true →
                ∃ t, ends (.lineBlockReceived p raw) t ∧ t.lp.userDown = s.lp.userDown ++ [b.payload])
            ∧ (s.msu.replay.isSome = true → ∃ t, ends (.confirm p u) t ∧ t.lp.heldConfirms = s.lp.heldConfirms ++ confirmRanges 15 u
                ∧ t.msu = s.msu)
            ∧ (s.msu.replay = none → ∃ t, ends (.confirm p u) t ∧ ∀ r, r ∈ t.msu.ring → r.retired = false →
                ∀ c, c ∈ confirmRanges 15 u → ¬ (r.seq + 4294967296 - c.1) % 4294967296 < c.2)
            ∧ (∀ q, parsePkt u = .packet q u.length →
                ends (.mgmtDown p u) ((s.publish (204 + 5 * p.val)).hcpPacket (if p = 0 then .lp0 else .lp1) q))
            ∧ ends (.userDown p u) (s.onLp fun l => { l with userDown := l.userDown ++ [u] })
            ∧ (∀ b l, x.link = b :: l → b.typ ≠ 8 → ∃ t, ends (.schedBlockChoice p) t ∧ (t.line p.val).sent = some b ∧ (t.line p.val).link = l
                ∧ t.reg .LP_CNT (p.val * 8) = s.reg .LP_CNT (p.val * 8) + 1)
            ∧ (∀ b l, x.link = [] → x.fwd = b :: l → ∃ t, ends (.schedBlockChoice p) t ∧ (t.line p.val).sent = some b
                ∧ (t.line p.val).fwd = l)
            ∧ (x.link = [] → x.fwd = [] → x.own = [] → s.schedRuns = false → ∃ t, ends (.schedBlockChoice p) t
                ∧ (t.line p.val).sent = some idleBlock ∧ t.reg .LP_CNT (p.val * 8) = s.reg .LP_CNT (p.val * 8) + 1))
      ∧ (∀ r q, (s.msu.ring.find? fun y => y.seq == sec.toNat && !y.retired && y.queued) = some r → s.recordQueue = some q →
          s.pushRefusal 0 q (ringBase + r.offset) r.length = none →
          ∃ t, ends (.recordConfirmTimeout sec) t ∧ t.queue q = s.queue q ++ [⟨ringBase + r.offset, r.length, none⟩])
      ∧ (s.timeOn p.val true = true →
          ends (.timeSyncSend p) (s.onLine p.val fun y => { y with link := y.link ++ [timeBlock 0 y.seq ⟨0, 0, 0⟩], seq := (y.seq + 1) % 65536 })
            ∧ ends (.delayReq p seq) (s.onLine p.val fun y => { y with link := y.link ++ [timeBlock 2 seq.toNat (s.rxStamp p.val)] }))
      ∧ (s.timeOn p.val false = true →
          (∃ t, ends (.timeSync p seq sec tick frac) t ∧ (t.line p.val).sync = some (seq.toNat, t1, s.rxStamp p.val)
              ∧ (t.line p.val).link = x.link ++ [timeBlock 1 seq.toNat ⟨0, 0, 0⟩])
            ∧ (∀ a b c, x.sync = some (seq.toNat, a, b) → x.t3 = some c → s.lineSource p.val = false →
                ∃ t, ends (.delayResp p seq sec tick frac) t ∧ t.reg .LP_TSSEQ p.val = BitVec.ofNat 32 seq.toNat
                  ∧ t.flag F.LP_STAT_TSNEW p.val = true ∧ (t.line p.val).sync = none ∧ t.fld F.LP_TS_SEC_SEC (p.val * 4 + 3) = sec.toNat)))
    ∧ ∀ (p : Fin 2) (s : State), s.level = 2 → s.pwr.flush = none → s.lpRole p.val = 0 → s.security = 0 →
        exec (.lineWakeDetect p true) s = .next (State.done ((((((((s.onPwr fun w => { w with waking := true }).setExch
          (if p = 0 then .lp0 else .lp1) true).pstate).pmbRequest s.vcoreNom).regionLoad.firstInstruction).configRestore
            true).regionsGrant).notifyReset))

/-- Pushes, flushes, refills and gates of the scheduler (R308, R316, R317, R319, R321, R324, R325). SCHED_PUSH in the name of a cluster appends its entry and reports the length, or reports the refusal and changes no queue; one that no right permits is logged. QUEUE_FLUSH removes the committed entries of a line queue with no unit in progress and fills its bucket. SCHED_RUN starts the scheduler on PLL0 outside Roadside and stops it; its first start fills every bucket; a read of SCHED_RRESULT takes the oldest result. A refill that a multiple of 1,000 ticks has made due adds the rate up to the capacity while the scheduler runs; with none due nothing changes. The gates show the entry in force; a swap is planned and then changes the active list. -/
def Obligations.SchedulerCommands : Prop :=
  ∀ (who : Who) (w : Word) (q : Byte) (p : Fin 2) (s : State), s.sysOn = true →
    let ends := fun (c : Instr) (t : State) => exec c s = .next t.done
    let pq := w.toNat / 65536 % 256
    (∀ cl, s.regRight who.val .SCHED_PUSH1 0 true = some cl →
        let e : SchedEntry := ⟨(s.reg .SCHED_PUSH0 cl).toNat, w.toNat % 16384, none⟩
        (s.pushRefusal cl pq e.addr e.length = none → ∃ t, ends (.schedPush who w) t ∧ t.queue pq = s.queue pq ++ [e]
            ∧ t.reg .SCHED_PUSH_RES cl = BitVec.ofNat 32 (0x80000000 + (s.queue pq).length + 1) ∧ t.mem = s.mem
            ∧ ∀ j, j ≠ pq → t.queue j = s.queue j)
          ∧ (∀ r, s.pushRefusal cl pq e.addr e.length = some r →
              ends (.schedPush who w) (s.setReg .SCHED_PUSH_RES cl (BitVec.ofNat 32 (r * 16777216 + (s.queue pq).length)))))
      ∧ (s.regRight who.val .SCHED_PUSH1 0 true = none → ends (.schedPush who w) (s.noRight who.val (regAddr .SCHED_PUSH1 0)))
      ∧ (s.forCl0 who →
          (q.toNat < 128 → (∀ y, y ∈ s.sched.units → y.2.1 ≠ q.toNat) → ∃ t, ends (.queueFlush who q) t
              ∧ (∀ y, y ∈ t.queue q.toNat → y.held.isSome = true) ∧ t.bucket q.toNat = t.bucketCap q.toNat
              ∧ ∀ j, j ≠ q.toNat → t.queue j = s.queue j)
            ∧ (s.onPll = true → s.inRoadside = false → ∃ t, ends (.schedRun who true) t ∧ t.schedRuns = true ∧ t.sched.queues = s.sched.queues
                ∧ (s.sched.started = true → t.sched = s.sched)
                ∧ (s.sched.started = false → t.sched.started = true ∧ ∀ j, t.bucket j = t.bucketCap j))
            ∧ (∃ t, ends (.schedRun who false) t ∧ t.schedRuns = false ∧ t.sched = s.sched)
            ∧ (∀ y l, s.sched.results = y :: l → ends (.schedRresultRead who) { s with sched := { s.sched with results := l } })
            ∧ (s.sched.results = [] → ends (.schedRresultRead who) s)
            ∧ ∃ t, ends (.gateSwapRequest who p w) t ∧ t.flag F.SCHED_GATE_CTRL_SWAP_PEND p.val = true
                ∧ (Tab.find t.sched.swapAt p.val).isSome = true)
      ∧ (s.nt / 1000 = s.sched.refilled → ends .bucketRefill s)
      ∧ (s.nt / 1000 ≠ s.sched.refilled → s.schedRuns = true → ∃ t, ends .bucketRefill t ∧ t.sched.refilled = s.nt / 1000 ∧ ∀ j, j < 144 → Tab.find s.held (RegName.SCHED_Q_CFG.key j) = none →
          Tab.find s.held (RegName.SCHED_Q_RATE.key j) = none → Tab.find s.held (RegName.SCHED_Q_BURST.key j) = none →
          t.bucket j = min (s.bucketCap j) (min (s.bucket j) (s.bucketCap j) + s.queueRate j))
      ∧ (s.nt / 1000 ≠ s.sched.refilled → s.schedRuns = false →
          ends .bucketRefill { s with sched := { s.sched with refilled := s.nt / 1000 } })
      ∧ (∃ t, ends (.gateEntryChange p) t ∧ t.fld F.SCHED_GATE_STAT_ENTRY p.val = s.entryAt p.val (s.activeList p.val) s.nt
          ∧ t.fld F.SCHED_GATE_STAT_STATE_CUR p.val = s.gclState p.val (s.activeList p.val) (s.entryAt p.val (s.activeList p.val) s.nt)
          ∧ t.sched = s.sched)
      ∧ (s.flag F.SCHED_GATE_CTRL_SWAP_PEND p.val = true → ∃ t, ends (.gateSwap p) t ∧ t.activeList p.val = 1 - s.activeList p.val
          ∧ t.flag F.SCHED_GATE_CTRL_SWAP_PEND p.val = false ∧ Tab.find t.sched.swapAt p.val = none)
      ∧ (s.flag F.SCHED_GATE_CTRL_SWAP_PEND p.val = false → ends (.gateSwap p) s)

/-- Network time, compare units and timers (R326, R329, R330, R331, R333, R334, R335, R340, R341, R343, R344, R349). A load puts network time at SETSEC and SETTICK, or sets SET_ERR for a tick count that is no second; a step and a correction on FRC move it by their count, modulo its range; a step while one that the servo has called for still waits discards that one with its sample. A capture copies it into the pair of the cluster, and a read of NTC_TICK by a core into the NTC_SECSH of that core. The load from the RTC follows the calendar and the offset, and an offset rewrite makes the RTC give the present network time. A compare unit is armed, disarmed and fires as its registers say. The seconds of holdover without a sample clear DISC and LOCKCNT. A running timer counts its ticks down, and one whose count runs out is due to expire. A timer starts, restarts, stops, takes a count, and expires when that is due: a periodic one starts again from BUF, a one-shot ends; a start, a stop or a count of the same cycle takes the expiry first. That a count of 0 written to a running periodic timer acts as 1 is the model's reading (log entry 213). -/
def Obligations.NetworkTimeAndTimers : Prop :=
  ∀ (who : Who) (w : Word) (k : Fin 16) (n : Fin 32) (s : State), s.sysOn = true →
    let ends := fun (c : Instr) (t : State) => exec c s = .next t.done
    let start := fun (b : Word) => if b = 0 then (1#32 : Word) else b
    let due := s.tmr.due.contains n.val
    let count := (s.reg .TMR_COUNT n.val).toNat
    (∀ cl, s.regRight who.val .NTC_CAPCMD 0 true = some cl →
        ends (.ntCapture who) ((s.setReg .NTC_CAP_SEC cl s.ntSec).setReg .NTC_CAP_TICK cl (BitVec.ofNat 32 s.ntTick)))
      ∧ (who.val < 24 → ends (.ntcTickRead who) (s.setReg .NTC_SECSH (pairOf who.val) s.ntSec))
      ∧ (24 ≤ who.val → ends (.ntcTickRead who) s)
      ∧ (s.forCl0 who →
          (s.fld F.NTC_SETTICK_TICK ≤ 99999999 → ∃ t, ends (.ntLoad who) t ∧ t.ntSec = s.reg .NTC_SETSEC
              ∧ t.ntTick = s.fld F.NTC_SETTICK_TICK ∧ t.flag F.NTC_STAT_STEPPED = true)
            ∧ (99999999 < s.fld F.NTC_SETTICK_TICK → ends (.ntLoad who) (s.setFld F.NTC_STAT_SET_ERR 1))
            ∧ (∃ t, ends (.ntStep who) t ∧ t.flag F.NTC_STAT_STEPPED = true
                ∧ t.nt = (((s.nt : Int) + (s.reg .NTC_STEPVAL).toInt) % ntRange).toNat
                ∧ ∀ d lead src last, s.ntc.servoStep = some (d, lead, src, last) →
                    t.ntc.servoStep = none ∧ t.reg .NTC_LEAD = lead ∧ t.ntc.lastSample = last)
            ∧ (∃ t, ends (.compareArm who k w) t ∧ t.flag F.NTC_CMP_CTRL_ARMED k.val = true ∧ t.flag F.NTC_CMP_CTRL_MISSED k.val = false
                ∧ t.cmpVal k.val = (s.reg .NTC_CMP_SEC k.val).toNat * 100000000 + Nat.min 99999999 (w.toNat % 2 ^ 27))
            ∧ (∃ t, ends (.compareDisarm who k) t ∧ t.flag F.NTC_CMP_CTRL_ARMED k.val = false ∧ t.ntc = s.ntc)
            ∧ (∃ t, ends (.timerStart who n w) t ∧ t.flag F.TMR_TSTAT_RUNNING n.val = true ∧ t.fld F.TMR_TSTAT_EXP_CNT n.val = 0
                ∧ t.reg .TMR_COUNT n.val = start (s.reg .TMR_BUF n.val) ∧ t.flag F.TMR_CTRL_EN n.val = true)
            ∧ (∃ t, ends (.timerStop who n w) t ∧ t.flag F.TMR_TSTAT_RUNNING n.val = false ∧ t.flag F.TMR_CTRL_EN n.val = false
                ∧ (due = true → t.flag F.TMR_TSTAT_EXP n.val = true)
                ∧ (due = false → t.reg .TMR_COUNT n.val = s.reg .TMR_COUNT n.val))
            ∧ (∃ t, ends (.timerRestart who n w) t ∧ t.flag F.TMR_TSTAT_RUNNING n.val = true
                ∧ (due = true → t.flag F.TMR_TSTAT_EXP n.val = true)
                ∧ (due = false → t.fld F.TMR_TSTAT_EXP_CNT n.val = s.fld F.TMR_TSTAT_EXP_CNT n.val)
                ∧ t.reg .TMR_COUNT n.val = start (s.reg .TMR_BUF n.val))
            ∧ (n.val < 16 → ∃ t, ends (.timerCountWrite who n w) t
                ∧ t.reg .TMR_COUNT n.val = (if w = 0 ∧ s.flag F.TMR_TSTAT_RUNNING n.val then 1 else w)
                ∧ (due = true → t.flag F.TMR_TSTAT_EXP n.val = true)
                ∧ (due = false → ∀ r j, (r, j) ≠ (.TMR_COUNT, n.val) → t.reg r j = s.reg r j))
            ∧ (16 ≤ n.val → ∃ t, ends (.timerCountWrite who n w) t ∧ (due = true → t.flag F.TMR_TSTAT_EXP n.val = true) ∧ t.flag F.TMR_TSTAT_RUNNING n.val = decide (w ≠ 0)
                ∧ t.flag F.TMR_TSTAT_OUT n.val = decide (w ≠ 0) ∧ t.reg .TMR_COUNT n.val = w))
      ∧ (s.ntSrc = 0 → ends .discHoldoverExpiry s)
      ∧ (s.ntSrc ≠ 0 → ∃ t, ends .discHoldoverExpiry t ∧ t.flag F.NTC_STAT_DISC = false
          ∧ t.fld F.NTC_STAT_LOCKCNT = 0)
      ∧ (s.onPll = true ∨ s.flag F.SYSCTL_CLKSTAT_XT32_GOOD = false → ends (.ntFrcCorrection w) s)
      ∧ (s.onPll = false → s.flag F.SYSCTL_CLKSTAT_XT32_GOOD = true → ∃ t, ends (.ntFrcCorrection w) t ∧ t.nt = (((s.nt : Int) + w.toInt) % ntRange).toNat)
      ∧ (s.ntc.loadDue = true → ∃ t, ends .ntLoadFromRtc t ∧ t.nt = s.rtcNt % ntRange ∧ t.ntc.loadDue = false
          ∧ t.flag F.NTC_STAT_DISC = false)
      ∧ (s.rtc.ofsDue = true → s.flag F.RTC_STAT_LOST = false → s.ntTick < 100000000 →
          ∃ t, ends .rtcOffsetSync t ∧ t.rtcNt = s.nt ∧ t.nt = s.nt ∧ t.rtc.ofsDue = false)
      ∧ (s.flag F.NTC_CMP_CTRL_ARMED k.val = true → s.ntReached (s.cmpVal k.val) = true →
          (s.reg .NTC_CMP_PER k.val = 0 → ∃ t, ends (.compareFire k) t ∧ t.flag F.NTC_CMP_CTRL_FIRED k.val = true
              ∧ t.flag F.NTC_CMP_CTRL_ARMED k.val = false)
            ∧ (s.reg .NTC_CMP_PER k.val ≠ 0 → s.flag F.NTC_CMP_CTRL_SKIP k.val = false → ∃ t, ends (.compareFire k) t
                ∧ t.flag F.NTC_CMP_CTRL_FIRED k.val = true ∧ t.flag F.NTC_CMP_CTRL_ARMED k.val = true
                ∧ t.cmpVal k.val = (s.cmpVal k.val + Nat.min 2147483647 (s.reg .NTC_CMP_PER k.val).toNat) % ntRange))
      ∧ (s.flag F.TMR_TSTAT_RUNNING n.val = true → s.tmrFrozen = false → s.tmrLink n.val = 0 → s.inFld F.TMR_CTRL_PRESC n.val = 0 →
          let t := State.tmrCycle n.val s
          (1 < count → t.reg .TMR_COUNT n.val = s.reg .TMR_COUNT n.val - 1 ∧ t.tmr.due = s.tmr.due)
            ∧ (count ≤ 1 → t.tmr.due = s.tmr.due ++ [n.val] ∧ t.regs = s.regs))
      ∧ (due = false → ends (.timerExpiry n) s)
      ∧ (due = true → ∃ t, ends (.timerExpiry n) t ∧ t.flag F.TMR_TSTAT_EXP n.val = true
          ∧ (s.flag F.TMR_TSTAT_EXP n.val = true → t.flag F.TMR_TSTAT_OVR n.val = true) ∧ t.tmr.due.contains n.val = false
          ∧ (n.val < 16 → t.flag F.TMR_TSTAT_RUNNING n.val = s.flag F.TMR_TSTAT_RUNNING n.val
              ∧ t.reg .TMR_COUNT n.val = start (s.reg .TMR_BUF n.val)
              ∧ t.flag F.TMR_TSTAT_OUT n.val = !s.flag F.TMR_TSTAT_OUT n.val)
          ∧ (16 ≤ n.val → t.flag F.TMR_TSTAT_RUNNING n.val = false ∧ t.flag F.TMR_TSTAT_OUT n.val = false ∧ t.reg .TMR_COUNT n.val = 0))

/-- The real-time clock, the event fabric and the release of cores (R56, R351, R352, R353, R354, R355, R359, R362, R365, R369, R375, R381). Writes to the RTC wait for the backup domain, and one that comes meanwhile is dropped with WDROP; when it arrives, HALT holds the calendar, a valid setting releases it and an invalid one sets BAD_SET, an adjustment moves it, and CAPTURE sets CAP_BUSY until the copy is complete. A second boundary advances the calendar. VBAK_MEASURE shows VBAK_LOW and stops charging at the limit; a power-up of the backup domain resets its registers and no other, but the tag front end keeps the field it sees. A GPIO edge, two cycles after it, and a software fire put their event into the fabric; an activation starts the timer or sets the pin of its consumer; groups open and close, a close in the same cycle before an open; CORE_RELEASE starts the cores of CL0 that it releases at CLSTART with their registers at zero. -/
def Obligations.ClockAndEvents : Prop :=
  ∀ (who : Who) (w : Word) (d : BitVec 24) (mv g : Half) (pin : Fin 24) (rising : Bool) (ch : Byte) (c : Fin 320) (s : State),
    let ends := fun (c : Instr) (t : State) => exec c s = .next t.done
    let clock := fun (t : State) (x : Nat) => t.fld F.RTC_TIME_HOUR = x % 86400 / 3600 ∧ t.fld F.RTC_TIME_MIN = x % 3600 / 60
      ∧ t.fld F.RTC_TIME_SEC = x % 60 ∧ t.fld F.RTC_DATE_WDAY = (x % calRange / 86400 + 5) % 7 + 1
    (s.sysOn = true → s.forCl0 who →
        (s.rtc.wr = none → ends (.rtcHalt who) { s with rtc := { s.rtc with wr := some (.RTC_CTRL, 0, 1) } }
            ∧ ends (.rtcRelease who) { s with rtc := { s.rtc with wr := some (.RTC_CTRL, 0, 0) } }
            ∧ ends (.rtcCapture who) { s with rtc := { s.rtc with wr := some (.RTC_CTRL, 0, 0x100#32 + BitVec.ofNat 32 (s.fld F.RTC_CTRL_HALT)) } }
            ∧ ends (.rtcAdj who d) { s with rtc := { s.rtc with wr := some (.RTC_ADJ, 0, d.zeroExtend 32) } })
          ∧ (s.rtc.wr.isSome = true → ∀ i, i ∈ [Instr.rtcHalt who, .rtcRelease who, .rtcCapture who, .rtcAdj who d] →
              ends i (s.setFld F.RTC_STAT_WDROP 1))
          ∧ (∃ t, ends (.evfGrpSet who g) t ∧ ∀ k, k < 16 → (t.reg .EVF_GRP_STATE).getLsbD k = ((g.getLsbD k && !s.evf.closed.contains k) || (s.reg .EVF_GRP_STATE).getLsbD k))
          ∧ (∃ t, ends (.evfGrpClr who g) t ∧ ∀ k, k < 16 → (t.reg .EVF_GRP_STATE).getLsbD k = (!g.getLsbD k && (s.reg .EVF_GRP_STATE).getLsbD k))
          ∧ (∃ t, ends (.clrCoal who c) t ∧ t.fld F.EVF_CSTAT_COAL c.val = 0 ∧ t.flag F.EVF_CSTAT_OVR c.val = s.flag F.EVF_CSTAT_OVR c.val)
          ∧ (∃ t, ends (.coreRelease who w) t ∧ ∀ k, 2 ≤ k → k < 8 → t.released k = w.getLsbD k
              ∧ (w.getLsbD k = true → s.released k = false → t.pcOf k = s.reg .SYSCTL_CLSTART 0 ∧ ∀ i, i < 32 → t.gpr k i = 0)))
      ∧ (s.hcp.rtc = [] → s.rtc.wr = some (.RTC_CTRL, 0, 1) → s.flag F.RTC_CTRL_HALT = false → ∃ t, ends .rtcWriteDone t ∧ t.rtc.wr = none
          ∧ t.flag F.RTC_CTRL_HALT = true ∧ t.reg .RTC_SUB = 0 ∧ t.rtc.sub = 0 ∧ t.reg .RTC_TIME = s.reg .RTC_TIME)
      ∧ (s.hcp.rtc = [] → s.rtc.wr = some (.RTC_CTRL, 0, 0) → s.flag F.RTC_CTRL_HALT = true →
          (s.calValid = true → s.rtc.old = none → ∃ t, ends .rtcWriteDone t ∧ t.flag F.RTC_CTRL_HALT = false ∧ clock t s.calSec)
            ∧ (s.calValid = false → ∃ t, ends .rtcWriteDone t ∧ t.flag F.RTC_CTRL_HALT = true ∧ t.flag F.RTC_STAT_BAD_SET = true))
      ∧ (s.hcp.rtc = [] → s.rtc.wr = some (.RTC_CTRL, 0, 0x100) → s.flag F.RTC_CTRL_HALT = false → ∃ t, ends .rtcWriteDone t
          ∧ t.rtc.wr = none ∧ t.flag F.RTC_STAT_CAP_BUSY = true)
      ∧ (∀ x : Nat, s.hcp.rtc = [] → s.rtc.wr = some (.RTC_ADJ, 0, d.zeroExtend 32) → (s.calSec : Int) + d.toInt = x → ∃ t, ends .rtcWriteDone t
          ∧ clock t x ∧ t.rtc.ofsDue = true)
      ∧ (s.flag F.RTC_STAT_CAP_BUSY = false → ends .rtcCaptureDone s)
      ∧ (s.hcp.rtc = [] → s.flag F.RTC_STAT_CAP_BUSY = true → ∃ t, ends .rtcCaptureDone t ∧ t.flag F.RTC_STAT_CAP_BUSY = false
          ∧ t.reg .RTC_CAPTIME = s.reg .RTC_TIME ∧ t.reg .RTC_CAPDATE = s.reg .RTC_DATE ∧ t.reg .RTC_CAPSUB = s.reg .RTC_SUB
          ∧ Tab.find t.evf.freed 185 = some s.cyc)
      ∧ (s.flag F.RTC_CTRL_HALT = false → s.pwr.vbak = true → s.cur ≤ 1 → ∃ t, ends .rtcSecond t ∧ t.reg .RTC_SUB = 0 ∧ t.rtc.sub = 0
          ∧ clock t (s.calSec + 1))
      ∧ (s.pwr.off = false → s.pwr.held = false → ∃ t, ends (.vbakMeasure mv) t ∧ t.flag F.RTC_STAT_VBAK_LOW = decide (mv.toNat < 2000)
          ∧ (s.chargeLimit ≤ mv.toNat → t.flag F.RTC_STAT_CHARGING = false))
      ∧ (∃ t, ends .backupPowerUp t ∧ (∀ r n, isBackup r = true → r ≠ .CTL_STAT → t.reg r n = regReset r n)
          ∧ t.flag F.CTL_STAT_FIELD = s.flag F.CTL_STAT_FIELD ∧ t.flag F.CTL_STAT_READER_ON = false
          ∧ t.fld F.CTL_STAT_TAG_STATE = (if s.fld F.CTL_STAT_TAG_STATE = 5 then 4 else s.fld F.CTL_STAT_TAG_STATE) 
          ∧ (∀ r n, isBackup r = false → t.reg r n = s.reg r n)
          ∧ t.pwr.vbak = true ∧ t.mem = s.mem)
      ∧ ends .xt32Start (s.setFld F.SYSCTL_CLKSTAT_XT32_GOOD 1)
      ∧ (s.sysOn = true → s.onPll = true →
          (∃ t, ends (.gpioEdge pin rising) t ∧ t.flag F.EVF_GPIO_IN pin.val = rising
              ∧ (bit (s.fld F.EVF_GPIO_EDGE pin.val) (if rising then 0 else 1) = true →
                  t.evf.flight = s.evf.flight ++ [(s.cyc + 2, .produced (228 + pin.val))])
              ∧ (bit (s.fld F.EVF_GPIO_EDGE pin.val) (if rising then 0 else 1) = false → t.evf = s.evf))
            ∧ (∀ cl, s.regRight who.val .EVF_FIRE 0 true = some cl →
                (cl = 0 ∨ s.chOwner ch.toNat = cl →
                    ends (.evfFire who ch) { s with evf := { s.evf with flight := s.evf.flight ++ [(s.cyc, .onChannel ch.toNat)] } })
                  ∧ (cl ≠ 0 → s.chOwner ch.toNat ≠ cl → ends (.evfFire who ch) (s.setFld F.EVF_STAT_ACC_ERR 1)))
            ∧ (∀ n, n < 32 → s.evf.flight = [(s.cyc, .matched [n])] → ∃ t, ends .consumerActivation t ∧ t.flag F.TMR_TSTAT_RUNNING n = true)
            ∧ (s.evf.flight = [(s.cyc, .matched [113 + pin.val])] → ∃ t, ends .consumerActivation t ∧ t.flag F.EVF_GPIO_OUT pin.val = true
                ∧ t.evf.flight = []))

/-- HCP commands of the system group (R46, R51, R119, R121, R126, R132, R141, R147, R152, R155, R156). A system command that passes its checks is served. PING and GET_INFO return the identity; SET_POWER_STATE sets the resting state when the floor allows it; RESET orders its reset behind the reply; BLOW_FUSE and RAISE_SEC_VERSION burn fuses when their conditions hold; CANCEL ends a job of the transport or answers NOT_FOUND; IMAGE_WRITE, DIRECTORY_WRITE and USER_CALL become jobs, and what the program of the user cluster does with the call at once follows; TRANSPORT_CFG sets the mask, and the rate waits for its reply to be sent. The code of the security state and the firmware version in GET_INFO are free values (log entry 58). -/
def Obligations.HcpSystem : Prop :=
  ∀ (c : CmdHead) (v v2 v3 : Byte) (n : Half) (w : Word) (d : Bytes) (act : UserAct) (s : State),
    let ends := fun (i : Instr) (t : State) => exec i s = .next t.done
    let cmd := fun (op : Nat) (p d : Bytes) (P : State → Hdr → Prop) =>
      s.cmdPasses c op p d → P (s.cmdState c op p d) (s.cmdHdr c op p d)

    let pc := parWord w
    cmd 0x0100 [] [] (fun u h => ends (.ping c) (u.reply h 0x0100 .ok (u.regBytes .SYSCTL_CHIP_ID ++ u.uid)))
      ∧ cmd 0x0101 [] [] (fun u h => ends (.getInfo c) ((u.fresh (2 ^ 32)).2.reply h 0x0101 .ok (u.regBytes .SYSCTL_CHIP_ID ++ u.uid
          ++ u.regBytes .SYSCTL_RSTCAUSE ++ u.regBytes .SYSCTL_BOOTSTAT ++ u.regBytes .SYSCTL_PSTATE ++ [Config.securityCode u.security]
          ++ leBytes 4 (u.fresh (2 ^ 32)).1)))
      ∧ cmd 0x0102 [v] [] (fun u h =>
          (3 < v.toNat → ends (.setPowerState c v) (u.reply h 0x0102 .badParam))
            ∧ (v.toNat ≤ 3 → u.floorNow < v.toNat → ends (.setPowerState c v) (u.reply h 0x0102 .stateFloor))
            ∧ (v.toNat ≤ 3 → v.toNat ≤ u.floorNow → u.inRoadside = false →
                ends (.setPowerState c v) (((u.setRest v.toNat).raiseTo v.toNat).reply h 0x0102 .ok))
            ∧ (v.toNat ≤ 3 → v.toNat ≤ u.floorNow → u.inRoadside = true →
                ends (.setPowerState c v) ((u.setRest v.toNat).reply h 0x0102 .ok)))
      ∧ cmd 0x0103 [v] [] (fun u h => (v.toNat ≤ 2 → ∃ t, ends (.reset c v) t ∧ t.hcp.reset = some v.toNat ∧ t.regs = u.regs ∧ t.mem = u.mem)
          ∧ (2 < v.toNat → ends (.reset c v) (u.reply h 0x0103 .badParam)))
      ∧ cmd 0x0104 ([v] ++ pc) [] (fun u h => v.toNat ≤ 3 → w = 0x424C4F57#32 →
          (u.fuseOk v.toNat = true → ends (.blowFuse c v w) ((u.fusesAct ((u.otpBurn 7 0 (7 * 2 ^ (3 * v.toNat))).fuseShown v.toNat)).reply h 0x0104 .ok))
            ∧ (u.fuseOk v.toNat = false → ends (.blowFuse c v w) (u.reply h 0x0104 .denied)))
      ∧ cmd 0x0105 [v] [] (fun u h => v.toNat ≤ 32 →
          (u.flag F.SYSCTL_BOOTSTAT_TRIAL = false → v.toNat ≤ u.runVersion → u.vinGood = true → u.otp.run = none →
            ∃ t, ends (.raiseSecVersion c v) t ∧ t.fld F.OTP_FUSE_SECVER = max v.toNat (secVersion (u.rowBits 7)))
            ∧ (u.flag F.SYSCTL_BOOTSTAT_TRIAL = true ∨ u.runVersion < v.toNat ∨ u.vinGood = false ∨ u.otp.run.isSome = true → ends (.raiseSecVersion c v) (u.reply h 0x0105 .denied)))
      ∧ cmd 0x0106 (parHalf n) [] (fun u h => ∀ j, (u.hcp.jobs.find? fun e => e.2.hdr.tp == c.tp && e.2.hdr.seq == n.toNat && !e.2.isOwn) = j →
          (j = none → ends (.cancel c n) (u.reply h 0x0106 .notFound))
            ∧ ∀ e, j = some e → ends (.cancel c n) ((u.reply h 0x0106 .ok).cancelJob e.1 e.2))
      ∧ cmd 0x0107 ([v] ++ pc) d (fun u h => v.toNat ≤ 1 → w.toNat % 4096 = 0 → d.length % 4 = 0 → d ≠ [] →
          w.toNat + d.length ≤ u.dirNow.size → (∀ t, Tab.find u.hcp.slots v.toNat = some t → t = c.tp.num) →
          ∃ t, ends (.imageWrite c v w d) t ∧ Tab.find t.hcp.slots v.toNat = some c.tp.num
            ∧ Tab.find t.hcp.jobs u.hcp.nextJob
              = some { hdr := h, opcode := 0x0107, arg := u.dirNow.slotBase v.toNat + w.toNat, par := [v] ++ pc, data := d })
      ∧ cmd 0x0108 [v, v2, v3] [] (fun u h => v.toNat ≤ 1 → v2.toNat ≤ 1 → v3.toNat ≤ 3 → (∀ e ∈ u.hcp.jobs, e.2.opcode ≠ 0x0108) →
          (∀ e ∈ u.hcp.slots, e.2 = c.tp.num) →
          let b := u.newDir [v, v2, v3]
          u.flag F.SYSCTL_BOOTSTAT_ROM_RESP = true ∨ u.slotPasses b b.active = true →
          ∃ t, ends (.directoryWrite c v v2 v3) t ∧ Tab.find t.hcp.jobs u.hcp.nextJob
            = some { hdr := h, opcode := 0x0108, arg := b.sector, par := [v, v2, v3], data := b.bytes, onOk := leBytes 4 b.seq })
      ∧ (∀ p, cmd 0x0109 ([v, v2] ++ p) d (fun u h =>
          let t := ((u.accept h 0x0109 v.toNat ([v, v2] ++ p) d).onHcp fun x =>
            { x with calls := x.calls ++ [(u.hcp.nextJob, v.toNat, v2.toNat)] }).raiseTo 0
          (v = 1#8 ∨ v = 2#8 → ends (.userCall c v v2 p ⟨d, act⟩) (t.userReact s.hcp.nextJob act) ∧ ends (.userCall c v v2 p ⟨d, .later⟩) t)
            ∧ (v = 1#8 ∨ v = 2#8 → u.hcp.calls = [] → t.userOn = true → ∀ par data,
                ends (.userCall c v v2 p ⟨d, .answer par data⟩) (t.callEnd u.hcp.nextJob par data))
            ∧ (v ≠ 1#8 → v ≠ 2#8 → act = .later ∨ u.hcp.calls = [] → ends (.userCall c v v2 p ⟨d, act⟩) (u.reply h 0x0109 .badParam))))
      ∧ cmd 0x010A [v, v2] [] (fun u h => (v.toNat ≤ 3 → ∃ t, ends (.transportCfg c v v2) t ∧ t.mem = u.mem
          ∧ t.hcp.uartRate = u.hcp.uartRate
          ∧ t.hcp.rateNext = u.hcp.rateNext ++ [⟨c.tp.num, c.seq.toNat, v.toNat, if c.tp.port.isSome then (u.reply h 0x010A .ok).queued c.tp else 0⟩]
          ∧ (c.tp = .hport → t.fld F.HPORT_CFG_NOTIFY_MASK = v2.toNat) ∧ (c.tp ≠ .hport → (t.tp c.tp).mask = v2.toNat))
          ∧ (3 < v.toNat → ends (.transportCfg c v v2) (u.reply h 0x010A .badParam)))

/-- HCP commands of the diagnostic and time groups, and what happens to a command that is not served (R122, R127, R134, R142, R143, R146, R150, R331, R352, R353, R354, R488). A packet on a transport that takes no commands changes nothing; a repeat is answered with the remembered reply; a refused command is answered with its status, and one for which no slot or reply room is left with BUSY. ERR_READ and TELEMETRY return their records; SESSION_CHALLENGE, SESSION_OPEN and SESSION_CLOSE make, open and end a session; REG_READ and REG_WRITE access words with the rights of CL0 unless refused, once no flash pulse and no DRAM fill is in the way; ENTER_ROADSIDE and DEBUG_OPEN do so on their conditions; that a second ENTER_ROADSIDE is logged as an S3 is the model's reading (log entry 169). NT_READ and NT_SET read and set network time; RTC_READ, RTC_SET, RTC_ALARM and TRICKLE_CFG set out as writes to the backup domain, one after another, and are answered once those have arrived, RTC_READ once its capture is complete. -/
def Obligations.HcpDiagnosticAndTime : Prop :=
  ∀ (c : CmdHead) (v v2 : Byte) (n : Half) (w w2 : Word) (e k g : Bytes) (cal : BitVec 64) (l : List Word) (s : State),
    let ends := fun (i : Instr) (t : State) => exec i s = .next t.done
    let cmd := fun (op : Nat) (p d : Bytes) (P : State → Hdr → Prop) =>
      s.cmdPasses c op p d → P (s.cmdState c op p d) (s.cmdHdr c op p d)

    let cb := leBytes 8 cal.toNat
    let orders := fun (u : State) (h : Hdr) (i : Instr) (op : Nat) (sent y : RegName × Nat × Word) (l : List (RegName × Nat × Word)) =>
      (u.rtc.wr = none → u.hcp.rtc = [] → ends i { u with rtc := { u.rtc with wr := some sent }, hcp := { u.hcp with rtc := [⟨h, op, l⟩] } })
        ∧ (u.rtc.wr.isSome = true → ends i { u with hcp := { u.hcp with rtc := u.hcp.rtc ++ [⟨h, op, y :: l⟩] } })
    (s.serves c.tp = false → ends (.ping c) s)
      ∧ (s.serves c.tp = true → c.seq ≠ 0xFFFF#16 → ∀ m, (((s.hostUse c.tp).tp c.tp).memory.find? fun m =>
            m.seq == (s.cmdHdr c 0x0100 [] []).seq && m.crc == (s.cmdHdr c 0x0100 [] []).crc) = some m →
          (m.reply = none → ends (.ping c) (s.hostUse c.tp)) ∧ ∀ q, m.reply = some q → ends (.ping c) ((s.hostUse c.tp).putPkt c.tp q))
      ∧ (s.cmdNew c 0x0907 (parWord w) [] → ∀ h u st, h = s.cmdHdr c 0x0907 (parWord w) [] → u = ((s.hostUse c.tp).takeSlot c.tp).memorise h →
          u.hcpRefusal h 0x0907 (parWord w) [] = some st → st ≠ .busy → ends (.enterRoadside c w) ((u.reply h 0x0907 st).refused h st))
      ∧ (s.serves c.tp = true → c.seq ≠ 0xFFFF#16 → (((s.hostUse c.tp).tp c.tp).memory.find? fun m =>
            m.seq == (s.cmdHdr c 0x0100 [] []).seq && m.crc == (s.cmdHdr c 0x0100 [] []).crc) = none →
          (s.hostUse c.tp).takesCmd c.tp = false → ends (.ping c) (((s.hostUse c.tp).reply (s.cmdHdr c 0x0100 [] []) 0x0100 .busy).refused
            (s.cmdHdr c 0x0100 [] []) .busy))
      ∧ cmd 0x0900 [v, v2] [] (fun u h => ends (.errRead c v v2) (u.reply h 0x0900 .ok [] (u.logRange v.toNat v2.toNat)))
      ∧ cmd 0x0901 [] [] (fun u h => ∃ nonce key, nonce = (u.freshBytes 16).1 ∧ ∃ t, ends (.sessionChallenge c) t ∧ nonce.length = 16
          ∧ (t.tp c.tp).challenge = some ⟨nonce, key, pubKey key⟩
          ∧ t = ((((u.freshBytes 16).2.fresh (p256n - 1)).2).setTp c.tp { u.tp c.tp with challenge := some ⟨nonce, key, pubKey key⟩ }).reply h
              0x0901 .ok (nonce ++ pubKey key))
      ∧ (e.length = 64 → k.length = 64 → g.length = 64 → cmd 0x0902 (e ++ parWord w ++ k ++ g) [] (fun u h => let p := e ++ parWord w ++ k ++ g
          ((u.tp c.tp).challenge = none → ∃ t, ends (.sessionOpen c e w k g) t ∧ (t.tp c.tp).challenge = none
              ∧ Tab.find t.hcp.jobs u.hcp.nextJob = none)
            ∧ ∀ x key, (u.tp c.tp).challenge = some x → u.sessionKey h x p = some key →
              ∃ t, ends (.sessionOpen c e w k g) t ∧ (t.tp c.tp).challenge = none
                ∧ (t.tp c.tp).session = some { key, scope := w.toNat, hostCtr := 0, devCtr := 0, fails := 0 }))
      ∧ cmd 0x0903 [] [] (fun u _ => ∃ t, ends (.sessionClose c) t ∧ (t.tp c.tp).session = none ∧ t.regs = u.regs ∧ t.mem = u.mem)
      ∧ cmd 0x0904 (parWord w ++ parHalf n) [] (fun u h =>
          (∀ st, u.regRefusal h w.toNat n.toNat = some st → ends (.regRead c w n) (u.reply h 0x0904 st))
            ∧ (u.regRefusal h w.toNat n.toNat = none →
              (u.hcpWaits (h, 0x0904, w.toNat, n.toNat, []) = true →
                  ends (.regRead c w n) { u with hcp := { u.hcp with reads := u.hcp.reads ++ [(h, 0x0904, w.toNat, n.toNat, [])] } })
                ∧ (u.hcpWaits (h, 0x0904, w.toNat, n.toNat, []) = false → ∀ r t, u.readWords w.toNat n.toNat = (r, t) →
                  (∀ b, r = .inr b → ends (.regRead c w n) (t.reply h 0x0904 .ok [] b))
                    ∧ ∀ st, r = .inl st → ends (.regRead c w n) (t.reply h 0x0904 st))))
      ∧ cmd 0x0905 (parWord w ++ parHalf n) (l.flatMap parWord) (fun u h => l.length = n.toNat →
          (∀ st, u.regRefusal h w.toNat n.toNat = some st → ends (.regWrite c w n l) (u.reply h 0x0905 st))
            ∧ (u.regRefusal h w.toNat n.toNat = none → let d := l.flatMap parWord
              (u.hcpWaits (h, 0x0905, w.toNat, n.toNat, d) = true →
                  ends (.regWrite c w n l) { u with hcp := { u.hcp with reads := u.hcp.reads ++ [(h, 0x0905, w.toNat, n.toNat, d)] } })
                ∧ (u.hcpWaits (h, 0x0905, w.toNat, n.toNat, d) = false → ∀ st t, u.writeWords w.toNat n.toNat d = (st, t) →
                  ends (.regWrite c w n l) (t.reply h 0x0905 (st.getD .ok)))))
      ∧ cmd 0x0906 [] [] (fun u h => ends (.telemetry c) (u.reply h 0x0906 .ok [] ((List.range 16).flatMap fun k => u.regBytes .ERR_TEL k)))
      ∧ cmd 0x0907 (parWord w) [] (fun u h => (w = 0x52534944#32 → u.inRoadside = false → ends (.enterRoadside c w) ((u.reply h 0x0907 .ok).wantRoadside 0x30))
          ∧ (w = 0x52534944#32 → u.inRoadside = true → ends (.enterRoadside c w) ((u.reply h 0x0907 .ok).raise 3 0x26 0x30))
          ∧ (w ≠ 0x52534944#32 → ends (.enterRoadside c w) (u.reply h 0x0907 .badParam)))
      ∧ (s.cmdNew c 0x0908 [v] [] → ∀ h u, h = s.cmdHdr c 0x0908 [v] [] → u = ((s.hostUse c.tp).takeSlot c.tp).memorise h →
          u.debugDisabled = true → ends (.debugOpen c v) (u.reply h 0x0908 .notAvailable))
      ∧ cmd 0x0908 [v] [] (fun u h => (u.security = 0 ∨ u.hasScope h 0 = true →
            ∃ t, ends (.debugOpen c v) t ∧ t.hcp.debugScope = some v.toNat ∧ t.regs = u.regs ∧ t.mem = u.mem)
          ∧ (u.security ≠ 0 → u.hasScope h 0 = false → ends (.debugOpen c v) (u.reply h 0x0908 .denied)))
      ∧ cmd 0x0701 [] [] (fun u h => ends (.ntRead c) (u.reply h 0x0701 .ok
          (leBytes 4 u.ntSec.toNat ++ leBytes 4 u.ntTick ++ [BitVec.ofNat 8 (u.fld F.NTC_STAT_DISC)])))
      ∧ cmd 0x0702 (parWord w ++ parWord w2) [] (fun u h => (w2.toNat ≤ 99999999 → ends (.ntSet c w w2) ((u.ntLoad w w2.toNat).reply h 0x0702 .ok))
          ∧ (99999999 < w2.toNat → ∃ t, ends (.ntSet c w w2) t ∧ t.flag F.NTC_STAT_SET_ERR = true ∧ t.ntSec = u.ntSec ∧ t.ntTick = u.ntTick))
      ∧ cmd 0x0703 [] [] (fun u h => orders u h (.rtcRead c) 0x0703 (.RTC_CTRL, 0, 0x100#32 ||| (u.reg .RTC_CTRL &&& 1#32)) (.RTC_CTRL, 0, 0x100#32) [])
      ∧ cmd 0x0704 cb [] (fun u h => (cal.toNat < 2 ^ 56 → orders u h (.rtcSet c cal) 0x0704 (.RTC_CTRL, 0, 1#32) (.RTC_CTRL, 0, 1#32)
            [(.RTC_TIME, 0, calTimeWord cb), (.RTC_DATE, 0, calDateWord cb), (.RTC_CTRL, 0, 0#32)])
          ∧ (2 ^ 56 ≤ cal.toNat → ends (.rtcSet c cal) (u.reply h 0x0704 .badParam)))
      ∧ cmd 0x0705 ([v] ++ cb ++ [v2]) [] (fun u h =>
          let time := calTimeWord (cb ++ [v2])
          (v.toNat ≤ 1 → v2.toNat ≤ 3 → cal.toNat < 2 ^ 56 → cal.toNat % 256 ≤ 63 →
            orders u h (.rtcAlarm c v cal v2) 0x0705 (.RTC_ALM_TIME, v.toNat, time) (.RTC_ALM_TIME, v.toNat, time)
              [(.RTC_ALM_DATE, v.toNat, calDateWord (cb ++ [v2])),
               (.RTC_ALM_CTRL, v.toNat, BitVec.ofNat 32 (v2.toNat % 2 * 2147483648 + v2.toNat / 2 * 1073741824 + cal.toNat % 256))])
            ∧ (1 < v.toNat ∨ 3 < v2.toNat → ends (.rtcAlarm c v cal v2) (u.reply h 0x0705 .badParam)))
      ∧ cmd 0x0706 [v, v2] [] (fun u h => (v.toNat ≤ 3 → v2.toNat ≤ 1 →
            let x : RegName × Nat × Word := (.RTC_TRICKLE, 0, BitVec.ofNat 32 (v2.toNat * 16 + v.toNat))
            orders u h (.trickleCfg c v v2) 0x0706 x x [])
          ∧ (3 < v.toNat ∨ 1 < v2.toNat → ends (.trickleCfg c v v2) (u.reply h 0x0706 .badParam)))
      ∧ (∀ o rest r m x, s.level ≤ 1 → s.flushing = false → s.rtc.wr = some (r, m, x) → s.hcp.rtc = o :: rest →
          let a := State.alarmWake s (({ s with rtc := { s.rtc with wr := none } } : State).rtcApply r m x)
          (∀ y l, o.writes = y :: l → y.2.2 ≠ 0x100#32 →
              ends .rtcWriteDone { a with rtc := { a.rtc with wr := some y }, hcp := { a.hcp with rtc := { o with writes := l } :: rest } })
            ∧ (o.writes = [] → o.op ≠ 0x0703 → rest = [] → ends .rtcWriteDone (({ a with hcp := { a.hcp with rtc := [] } } : State).reply o.hdr o.op
                (if o.op = 0x0704 ∧ a.flag F.RTC_CTRL_HALT then .badParam else .ok))))
      ∧ (∀ o rest, s.rtc.wr = none → s.hcp.rtc = o :: rest → o.writes = [] → o.op = 0x0703 → s.flag F.RTC_STAT_CAP_BUSY = true → rest = [] →
          ∃ t : State, ends .rtcCaptureDone (t.reply o.hdr 0x0703 .ok t.calBytes) ∧ t.flag F.RTC_STAT_CAP_BUSY = false
            ∧ t.reg .RTC_CAPTIME = s.reg .RTC_TIME ∧ t.reg .RTC_CAPDATE = s.reg .RTC_DATE ∧ t.reg .RTC_CAPSUB = s.reg .RTC_SUB)

/-- HCP commands of the radio, frame and line groups (R46, R151, R158, R163, R166, R190, R215, R218, R226, R240, R292, R306). A command of these groups that passes its checks is served. RADIO_ROLE sets the role; PORT_CFG, PROFILE_SET and LANE_SET write their registers and answer whether the values stood; LANE_STATUS, LEDGER_READ, FRAME_STATS, JOURNAL_READ and LINE_STATUS return what they name; TRANSMIT and WAKE_TX submit a transmission, or complete with the refusal; KEY_LOAD unwraps a key into its slot; EPOCH_SWITCH opens a milestone; FILTER_CFG writes both words; DOWNLINK replaces the pending one of its SRC; LINE_ROLE and LINE_MODE write LP_CFG; LINE_RETRAIN retrains a port in UP, behind its reply when it came over that port, or answers LINK_DOWN. -/
def Obligations.HcpRadioFrameLine : Prop :=
  ∀ (c : CmdHead) (v v2 v3 v4 : Byte) (n : Half) (w w2 w3 : Word) (src : BitVec 48) (d : Bytes) (s : State),
    let ends := fun (i : Instr) (t : State) => exec i s = .next t.done
    let cmd := fun (op : Nat) (p d : Bytes) (P : State → Hdr → Prop) =>
      s.cmdPasses c op p d → P (s.cmdState c op p d) (s.cmdHdr c op p d)

    let k := v.toNat
    cmd 0x0201 [v] [] (fun u h =>
        (k ≤ 2 → (k = 2 → u.closed = true → u.hasScope h 0 = true) →
          ends (.radioRole c v) (((u.onRf fun r => { r with role := k }).applyFloor).reply h 0x0201 .ok))
          ∧ (k = 2 → u.closed = true → u.hasScope h 0 = false → ends (.radioRole c v) (u.reply h 0x0201 .denied)))
      ∧ cmd 0x0202 ([v] ++ parWord w ++ [v2]) [] (fun u h => k ≤ 1 → v2.toNat ≤ 1 → ∀ a t, a = u.loWrite k w →
          t = a.rfCtrlWrite k (wordPut (a.reg .RF_CTRL k) 0 0 v2.toNat) → t.rfLo k = w.toNat → t.portEnabled k = (v2 == 1#8) →
          ends (.portCfg c v w v2) (t.reply h 0x0202 .ok))
      ∧ cmd 0x0203 ([v] ++ d) [] (fun u _ => k ≤ 15 → pNat d 24 8 = 0 → (∀ r ∈ profileRegs, u.locks r k = false) →
          ∃ t, ends (.profileSet c v d) t ∧ (∀ i, i < 6 → ∀ r, profileRegs[i]? = some r →
            t.reg r k &&& (regRow r).rw = pWord d (4 * i) &&& (regRow r).rw) ∧ ∀ j, j ≠ k → ∀ r, t.reg r j = u.reg r j)
      ∧ cmd 0x0204 ([v, v2] ++ parWord w ++ [v3, v4]) [] (fun u h => k ≤ 127 → v2.toNat ≤ 1 → v3.toNat ≤ 15 → v4.toNat ≤ 1 → ∀ a b t,
          a = u.regStore .LANE_PROFILE k (u.locks .LANE_PROFILE k) (BitVec.ofNat 32 (v2.toNat * 256 + v3.toNat)) →
          b = a.laneOffsetWrite k w → t = b.laneCtrlWrite k (BitVec.ofNat 32 v4.toNat) →
          a.view .LANE_PROFILE k = BitVec.ofNat 32 (v2.toNat * 256 + v3.toNat) →
          (b.reg .LANE_OFFSET k = w → v4 = 0#8 ∨ t.laneState k ≠ 0 →
              ends (.laneSet c v v2 w v3 v4) (t.reply h 0x0204 .ok [BitVec.ofNat 8 t.unitsHeld]))
            ∧ (v4 = 1#8 → t.laneState k = 0 → ends (.laneSet c v v2 w v3 v4) (t.reply h 0x0204 .badParam)))
      ∧ cmd 0x0205 [v, v2] [] (fun u h => v2 ≠ 0#8 → v2.toNat ≤ 31 → k + v2.toNat ≤ 128 →
          ends (.laneStatus c v v2) (u.reply h 0x0205 .ok ((List.range v2.toNat).flatMap fun i =>
            u.regBytes .LANE_STAT (k + i) ++ u.regBytes .LANE_LAST (k + i) ++ u.regBytes .LANE_FOFS (k + i) ++ u.regBytes .LANE_CAL (k + i))))
      ∧ cmd 0x0206 ([v] ++ parWord w ++ parWord w2 ++ parWord w3 ++ [v2]) d (fun u h => k ≤ 1 → v2.toNat ≤ 3 →
          let b := u.boundary .TXP_HOSTCFG
          let a := b.accept h 0x0206 0 ([v] ++ parWord w ++ parWord w2 ++ parWord w3 ++ [v2]) d
          let e : TxEntry := { txOwn (.job u.hcp.nextJob) w.toNat (startOf u.nt (w2.toNat % 32) w3.toNat) k (b.fld F.TXP_HOSTCFG_PROFILE) 4
            (b.fld F.TXP_HOSTCFG_PRE) d.length (.frame d) (b.flag F.TXP_HOSTCFG_CODED) false (v2.getLsbD 0) with lateOk := v2.getLsbD 1 }
          let ok := loOk w.toNat && decide (w3.toNat ≤ 99999999) && decide (d.length ≤ 2047)
          (∀ tag t, a.txSubmit e ok = (.inr tag, t) → ends (.transmit c v w w2 w3 v2 d) t)
            ∧ ∀ code t, a.txSubmit e ok = (.inl code, t) →
              ends (.transmit c v w w2 w3 v2 d) ((t.txRefused code).complete u.hcp.nextJob (t.txStatus code k)))
      ∧ cmd 0x0207 ([v] ++ parWord w ++ parHalf n ++ [v2]) [] (fun u h => k ≤ 1 →
          let b := u.boundary .TXP_HOSTCFG
          let a := b.accept h 0x0207 0 ([v] ++ parWord w ++ parHalf n ++ [v2])
          let e := txOwn (.job u.hcp.nextJob) w.toNat u.nt k (b.fld F.TXP_HOSTCFG_PROFILE) 3 0 0
            (.wake n.toNat v2.toNat (b.fld F.TXP_HOSTCFG_WAKE_REPEAT + 1)) false false false
          (∀ tag t, a.txSubmit e (loOk w.toNat) = (.inr tag, t) → ends (.wakeTx c v w n v2) t)
            ∧ ∀ code t, a.txSubmit e (loOk w.toNat) = (.inl code, t) →
              ends (.wakeTx c v w n v2) ((t.txRefused code).complete u.hcp.nextJob (t.txStatus code k)))
      ∧ cmd 0x0208 [] [] (fun u h => ends (.ledgerRead c) (u.reply h 0x0208 .ok ((List.range 8).flatMap fun i => leBytes 4 (u.ledger i / 10))))
      ∧ cmd 0x0301 ([v, v2] ++ d) [] (fun u h => ∀ kek key, (kek = match (u.tp c.tp).session with
            | some x => if h.auth then x.key else zeros 16
            | none => zeros 16) → kwUnwrap kek d = some key →
          (k ≤ 63 → u.vaultHeld k v2.toNat = false → ends (.keyLoad c v v2 d) ((u.vaultPut k v2.toNat key).reply h 0x0301 .ok))
            ∧ (k ≤ 63 → u.vaultHeld k v2.toNat = true → ∃ t, ends (.keyLoad c v v2 d) t ∧ t.flag F.FRM_STAT_VAULT_ERR = true
                ∧ t.frm.vault = u.frm.vault)
            ∧ (v = 0x80#8 → v2 = 0#8 → ends (.keyLoad c v v2 d) ((u.setKeyRegs .CTL_TKEY F.CTL_STAT_TKEY_OK key).reply h 0x0301 .ok))
            ∧ (v = 0x81#8 → v2 = 0#8 → ends (.keyLoad c v v2 d) ((u.setKeyRegs .CTL_RKEY F.CTL_STAT_RKEY_OK key).reply h 0x0301 .ok)))
      ∧ cmd 0x0302 [v, v2] [] (fun u h => k ≤ 63 →
          (u.slotHolds k v2.toNat = true → ends (.epochSwitch c v v2) ((u.accept h 0x0302 k).jobMile u.hcp.nextJob
              (BitVec.ofNat 32 (0x70000000 + k)) (BitVec.ofNat 32 (256 + v2.toNat)) []))
            ∧ (u.slotHolds k v2.toNat = false → ends (.epochSwitch c v v2) (u.reply h 0x0302 .badParam)))
      ∧ cmd 0x0303 (parWord w ++ parWord w2) [] (fun u h => w &&& 0x01FFFFFC#32 = 0 → w2 &&& 0xFF0000FE#32 = 0 →
          (u.dupWrite w).reg .FRM_DUP_CFG &&& 0xFE000001#32 = w &&& 0xFE000001#32 →
          ends (.filterCfg c w w2) (((u.dupWrite w).regStore .FRM_CFG 0 false w2).reply h 0x0303 .ok))
      ∧ cmd 0x0304 (leBytes 6 src.toNat ++ parHalf n ++ [v]) d (fun u h => k ≤ 3 → 23 ≤ d.length → d.length ≤ 2047 → macVer d = 0 → macType d = 2 →
          beNat (macSrc d) = src.toNat → ∀ t, t = u.downlinkEnd src.toNat .aborted → t.frm.downlinks.length < 1024 →
          let x : Downlink := { src := src.toNat, frame := d, flags := k, expiry := n.toNat, job := t.hcp.nextJob }
          let a := (t.accept h 0x0304 0 (leBytes 6 src.toNat ++ parHalf n ++ [v]) d).onFrm fun f => { f with downlinks := f.downlinks ++ [x] }
          (k ≠ 3 → ends (.downlink c src n v d) a) ∧ (k = 3 → ends (.downlink c src n v d) (a.detour x)))
      ∧ cmd 0x0305 [] [] (fun u h => ends (.frameStats c) (u.reply h 0x0305 .ok ((List.range 16).flatMap fun i => u.regBytes .FRM_CNT i)))
      ∧ cmd 0x0306 (parWord w ++ parHalf n) [] (fun u h =>
          (u.recordsFrom w.toNat n.toNat [] ≠ [] → ends (.journalRead c w n) (u.reply h 0x0306 .ok [] (u.recordsFrom w.toNat n.toNat [])))
            ∧ (n ≠ 0#16 → u.recordsFrom w.toNat n.toNat [] = [] → ends (.journalRead c w n) (u.reply h 0x0306 .notFound)))
      ∧ cmd 0x0401 [v, v2] [] (fun u h => k ≤ 1 → v2.toNat ≤ 2 →
          ends (.lineRole c v v2) (((u.lpCfgWrite k (wordPut (u.reg .LP_CFG k) 1 0 v2.toNat)).applyFloor).reply h 0x0401 .ok))
      ∧ cmd 0x0402 [v, v2, v3] [] (fun u h => k ≤ 1 → v2.toNat ≤ 2 → v3.toNat ≤ 1 →
          ends (.lineMode c v v2 v3) ((u.lpCfgWrite k (wordPut (wordPut (u.reg .LP_CFG k) 3 2 v2.toNat) 4 4 v3.toNat)).reply h 0x0402 .ok))
      ∧ cmd 0x0403 [v] [] (fun u h => k ≤ 1 → ends (.lineStatus c v) (u.reply h 0x0403 .ok (u.regBytes .LP_STAT k ++ u.regBytes .LP_QUAL k
          ++ u.regBytes .LP_PEER k ++ u.regBytes .LP_PEERINFO k ++ (List.range 4).flatMap fun i => u.regBytes .LP_CNT (k * 8 + i))))
      ∧ cmd 0x0404 [v] [] (fun u h => k ≤ 1 → (u.lpUp k = false → ends (.lineRetrain c v) (u.reply h 0x0404 .linkDown))
          ∧ (u.lpUp k = true → ends (.lineRetrain c v) (let t := (u.accept h 0x0404 k).onLine k fun x =>
              { x with jobs := x.jobs ++ [u.hcp.nextJob] }
            if c.tp.port = some k then t.lpRetrainOwn k else t.lpRetrain k)))

/-- HCP commands of the milestone, flash and contactless groups (R56, R152, R155, R248, R249, R250, R253, R262, R416, R427, R436, R478). MS_OPEN, MS_ADD, MS_COMMIT, MS_ABORT and MS_STATUS work on the milestones of their transport. FLASH_READ returns the bytes with the bits corrected, once no pulse is in the way; FLASH_PROGRAM and FLASH_ERASE of a span that is allowed become jobs, and the first eight sectors are refused; CONFIG_SAVE keeps the configuration in the sector that wear levelling gives, or finds none; FLASH_TABLES returns a table; PART_SPLIT_SET burns the partition while it is unset. CTL_MODE sets the mode; TAG_READ and TAG_WRITE reach tag memory; TAG_LOCK writes the locks; PROVISION waits for a touch. -/
def Obligations.HcpMilestoneFlashTag : Prop :=
  ∀ (c : CmdHead) (v : Byte) (n n2 : Half) (w w2 w3 w4 : Word) (p d : Bytes) (s : State),
    let ends := fun (i : Instr) (t : State) => exec i s = .next t.done
    let cmd := fun (op : Nat) (p d : Bytes) (P : State → Hdr → Prop) =>
      s.cmdPasses c op p d → P (s.cmdState c op p d) (s.cmdHdr c op p d)

    let k := v.toNat
    let words := parWord w ++ parWord w2 ++ parWord w3 ++ parWord w4
    cmd 0x0501 [v] [] (fun u h => k ≤ 1 → (∀ j t, u.msuOpenFor 0 k (some c.tp) = some (j, t) →
            ends (.msOpen c v) (t.reply h 0x0501 .ok [BitVec.ofNat 8 j]))
          ∧ (u.msuOpenFor 0 k (some c.tp) = none → ends (.msOpen c v) (u.reply h 0x0501 .noSpace)))
      ∧ cmd 0x0502 ([v] ++ words) [] (fun u h =>
          (∀ st, u.mileDenied c.tp k = some st → ends (.msAdd c v w w2 w3 w4) (u.reply h 0x0502 st))
            ∧ ∀ r t, u.mileDenied c.tp k = none → bits w.toNat 21 16 = k → u.msuAdd 0 (some c.tp) w w2 w3 w4 = (r, t) →
              (r.err = 0 → ends (.msAdd c v w w2 w3 w4) (t.reply h 0x0502 .ok [BitVec.ofNat 8 (t.fld F.MSU_MS_STAT_ACTIONS k)]))
                ∧ (r.err = 6 ∨ r.err = 7 → ends (.msAdd c v w w2 w3 w4) (t.reply h 0x0502 .conflict)))
      ∧ cmd 0x0503 [v] [] (fun u h => (∀ st, u.mileDenied c.tp k = some st → ends (.msCommit c v) (u.reply h 0x0503 st))
          ∧ ∀ m, u.mileDenied c.tp k = none → u.mile k = some m → u.mileState k = 1 → m.request = none →
            ∃ t m', ends (.msCommit c v) t ∧ t.mile k = some m' ∧ m'.jobs = m.jobs ++ [u.hcp.nextJob]
              ∧ m'.request = some u.msu.nextRequest ∧ m'.actions = m.actions
              ∧ Tab.find t.hcp.jobs u.hcp.nextJob = some { hdr := h, opcode := 0x0503, arg := k, par := [], data := [], onOk := [1#8] })
      ∧ cmd 0x0504 [v] [] (fun u h => (u.mileDenied c.tp k = none → u.abortable k = true →
            ends (.msAbort c v) ((u.mileAbort k 2 .aborted).reply h 0x0504 .ok))
          ∧ (u.mileDenied c.tp k = none → u.abortable k = false → ends (.msAbort c v) (u.msuCmdErr.reply h 0x0504 .notFound))
          ∧ ∀ st, u.mileDenied c.tp k = some st →
            ends (.msAbort c v) ((if k ≤ 63 ∧ u.mileState k = 0 then u.msuCmdErr else u).reply h 0x0504 st))
      ∧ cmd 0x0505 [v] [] (fun u h => k ≤ 63 → ends (.msStatus c v) (u.reply h 0x0505 .ok [BitVec.ofNat 8 (u.fld F.MSU_MS_STAT_STATE k),
          BitVec.ofNat 8 (u.fld F.MSU_MS_STAT_ACTIONS k), BitVec.ofNat 8 (u.fld F.MSU_MS_STAT_LAST_RESULT k),
          BitVec.ofNat 8 (u.fld F.MSU_MS_STAT_LAND_ERR k + 2 * u.fld F.MSU_MS_STAT_DROPPED k)]))
      ∧ cmd 0x0601 (parWord w ++ parHalf n) [] (fun u h => n.toNat ≤ 8192 → flashBase ≤ w.toNat → u.flRegion (w.toNat - flashBase) ≠ 2 →
          (n ≠ 0#16 → u.flRegion (w.toNat - flashBase + n.toNat - 1) ≠ 2) → let e : Hdr × Nat × Nat × Nat × Bytes := (h, 0x0601, w.toNat, n.toNat, [])
          (u.hcpWaits e = true → ends (.flashRead c w n) { u with hcp := { u.hcp with reads := u.hcp.reads ++ [e] } })
            ∧ (u.hcpWaits e = false → ∀ r t, u.readSpan (w.toNat - flashBase) n.toNat = (r, t) →
                (∀ x, r = .data x → ends (.flashRead c w n) (t.reply h 0x0601 .ok [BitVec.ofNat 8 x] (t.bytes w.toNat n.toNat)))
                  ∧ (r = .uncorrectable → ends (.flashRead c w n) (t.reply h 0x0601 .eccUncorrectable))
                  ∧ ((∀ x, r ≠ .data x) → r ≠ .uncorrectable → ends (.flashRead c w n) (t.reply h 0x0601 .flashError))))
      ∧ cmd 0x0602 (parWord w ++ parWord w2) d (fun u h => w2 = 0#32 →
          (u.spanRefusal w.toNat d.length = none → d ≠ [] → ∃ t, ends (.flashProgram c w w2 d) t ∧ Tab.find t.hcp.jobs u.hcp.nextJob
              = some { hdr := h, opcode := 0x0602, arg := u.flRegion (w.toNat - flashBase), par := parWord w ++ parWord w2, data := d })
            ∧ ∀ st, u.spanRefusal w.toNat d.length = some st → ends (.flashProgram c w w2 d) (u.reply h 0x0602 st))
      ∧ cmd 0x0603 (parWord w ++ [v]) [] (fun u h => k ≤ 1 → flashBase ≤ w.toNat → (w.toNat < flashBase + 32768 → ends (.flashErase c w v) (u.reply h 0x0603 .badParam))
          ∧ (flashBase + 32768 ≤ w.toNat → u.flRegion (w.toNat - flashBase) = k → (k = 0 → (w.toNat - flashBase) % 4096 = 0) →
          (k = 1 → (w.toNat - flashBase - u.partB * 1048576) % 131072 = 0) →
          ∃ t, ends (.flashErase c w v) t ∧ Tab.find t.hcp.jobs u.hcp.nextJob
            = some { hdr := h, opcode := 0x0603, arg := k, par := parWord w ++ [v], data := [] }))
      ∧ cmd 0x0604 [] [] (fun u _ =>
          ((u.wearTarget (fun x => x) u.spareSectors 4096).isSome = true →
              ∃ t, ends (.configSave c) t ∧ t.pwr.config = u.configNow ∧ Tab.find t.hcp.jobs u.hcp.nextJob = none
                ∧ t.pwr.configAt = u.wearTarget (fun x => x) u.spareSectors 4096)
            ∧ (u.wearTarget (fun x => x) u.spareSectors 4096 = none →
              ∃ t, ends (.configSave c) t ∧ t.pwr = { u.pwr with entry := none, ready := false, flushed := false } ∧ t.mem = u.mem
                ∧ Tab.find t.hcp.jobs u.hcp.nextJob = none))
      ∧ cmd 0x0605 [v] [] (fun u h => (k = 0 → ends (.flashTables c v) (u.reply h 0x0605 .ok [] (factoryBytes u.flc.factory)))
          ∧ (k = 1 → ends (.flashTables c v) (u.reply h 0x0605 .ok [] (tableBytes magicGrown u.flc.grown.seq u.flc.grown.entries)))
          ∧ (k = 2 → ends (.flashTables c v) (u.reply h 0x0605 .ok [] (tableBytes magicPartial u.flc.partialTab.seq u.flc.partialTab.entries)))
          ∧ (2 < k → ends (.flashTables c v) (u.reply h 0x0605 .badParam)))
      ∧ cmd 0x0606 [v] [] (fun u h => 4 ≤ k → k ≤ 16 →
          (psSetMaj (u.rowBits 7) = false → u.closed = false → u.vinGood = true → u.otp.run = none →
            ends (.partSplitSet c v) ((u.otpBurn 7 0 (k * (2 ^ 64 + 2 ^ 69 + 2 ^ 74) + 7 * 2 ^ 79)).reply h 0x0606 .ok))
            ∧ (psSetMaj (u.rowBits 7) = true ∨ u.closed = true ∨ u.vinGood = false ∨ u.otp.run.isSome = true → ends (.partSplitSet c v) (u.reply h 0x0606 .denied)))
      ∧ cmd 0x0801 [v] [] (fun u h => (k ≤ 3 → ends (.ctlMode c v) ((u.ctlCfgWrite (wordPut (u.reg .CTL_CFG) 1 0 k)).reply h 0x0801 .ok))
          ∧ (3 < k → ends (.ctlMode c v) (u.reply h 0x0801 .badParam)))
      ∧ cmd 0x0802 (parHalf n ++ parHalf n2) [] (fun u h => tagSpan n.toNat n2.toNat = none → ∀ b t, u.checkTags n.toNat n2.toNat = (b, t) →
          (b = true → ends (.tagRead c n n2) (t.reply h 0x0802 .ok [] (t.tagBytes n.toNat n2.toNat)))
            ∧ (b = false → ends (.tagRead c n n2) (t.reply h 0x0802 .eccUncorrectable)))
      ∧ cmd 0x0803 (parHalf n) d (fun u h => tagSpan n.toNat d.length = none → ∀ b t, u.checkWords (edgeWords n.toNat d.length) = (b, t) →
          (b = true → ends (.tagWrite c n d) (((t.setTagBytes n.toNat d).mendTags n.toNat d.length).reply h 0x0803 .ok))
            ∧ (b = false → ends (.tagWrite c n d) (t.reply h 0x0803 .eccUncorrectable)))
      ∧ cmd 0x0804 (parWord w) [] (fun u h => ends (.tagLock c w) ((u.regStore .CTL_LOCK 0 false w).reply h 0x0804 .ok))
      ∧ cmd 0x0805 p d (fun u h => 1 ≤ pByte p 0 → pByte p 0 ≤ 30 →
          pNat p 1 2 + d.length ≤ 8192 → (∀ e ∈ u.hcp.jobs, e.2.opcode ≠ 0x0805) →
          ∃ t, ends (.provision c p d) t ∧ t.ctl.waiting = some ⟨u.hcp.nextJob, pNat p 1 2, d⟩
            ∧ Tab.find t.hcp.jobs u.hcp.nextJob = some { hdr := h, opcode := 0x0805, arg := 0, par := p, data := d })

/-- RF ports, their synthesisers and attenuation (R158, R159, R160, R177, R187, R196, R197, R496). RFx_LO takes a value in range while no lane of the port is on; it refuses another by RANGE_ERR, and a change with lanes on by WLOCK. RFx_CTRL.EN enables a port with a good LO and disables it. A lock at RFx_LO ends the move; RX_READY rises then, and lanes in HOLD calibrate. A loss of lock takes readiness and ends the excursion. A sample at full scale sets CLIP; the attenuation steps up and down within 0 to 7 while AGC acts. RFx_SYNCFG.CLEAR empties the table of its port alone. A recalibration blanks the port and moves it to RFx_LO when it is free. -/
def Obligations.PortsAndSynthesisers : Prop :=
  ∀ (who : Who) (p : Fin 2) (w : Word) (clip high : Bool) (temp : Half) (s : State), s.sysOn = true →
    let ends := fun (c : Instr) (t : State) => exec c s = .next t.done
    let k := p.val
    let warm := s.onRf fun r => { r with temp := temp.toInt }
    let moved := 5 ≤ (temp.toInt - Tab.getD s.rf.loTemp k temp.toInt).natAbs
    (s.forCl0 who →
        (s.portHeld k = true → (w = s.reg .RF_LO k → ends (.rfxLoWrite who p w) s) ∧ (w ≠ s.reg .RF_LO k → ends (.rfxLoWrite who p w) (s.setWlock .RF_LO k)))
          ∧ (s.portHeld k = false →
            (s.portEnabled k = false → ends (.rfxLoWrite who p w) (s.setReg .RF_LO k w))
              ∧ (s.portEnabled k = true → loOk w.toNat = true → ∃ t, ends (.rfxLoWrite who p w) t ∧ t.rfLo k = w.toNat ∧ t.rxReady k = false)
              ∧ (s.portEnabled k = true → loOk w.toNat = false → ends (.rfxLoWrite who p w) (s.setFld F.RF_STAT_RANGE_ERR 1 k))
              ∧ (w.getLsbD 0 = true → s.portEnabled k = false → loOk (s.rfLo k) = true → ∃ t, ends (.portEnable who p w) t ∧ t.portEnabled k = true
                  ∧ t.rfLo k = s.rfLo k ∧ t.flag F.RF_CTRL_AGC k = w.getLsbD 4)
              ∧ (w.getLsbD 0 = true → s.portEnabled k = false → loOk (s.rfLo k) = false → ∃ t, ends (.portEnable who p w) t
                  ∧ t.portEnabled k = false ∧ t.flag F.RF_STAT_RANGE_ERR k = true)
              ∧ (w.getLsbD 0 = false → s.portEnabled k = true → ∃ t, ends (.portEnable who p w) t ∧ t.portEnabled k = false
                  ∧ t.rxReady k = false ∧ t.exc k = none))
          ∧ ∃ t, ends (.syntabClear who p w) t ∧ t.synCount k = 0 ∧ t.synCount (1 - k) = s.synCount (1 - k))
      ∧ (s.fld F.RF_SYNSTAT_SYN_STATE k = 1 → s.exc k = none → s.portEnabled k = true → ∃ t, ends (.synLock p) t
          ∧ t.fld F.RF_SYNSTAT_SYN_STATE k = 0 ∧ Tab.find t.rf.loTemp k = some s.rf.temp ∧ (∀ j, j ∈ t.rf.toLo → j ≠ k))
      ∧ (∀ x e, s.fld F.RF_SYNSTAT_SYN_STATE k = 1 → s.exc k = some x → x.phase = .moving → x.entry = some e → ∃ t x', ends (.synLock p) t
          ∧ t.exc k = some x' ∧ t.fld F.RF_SYNSTAT_SYN_STATE k = 2 ∧ (x'.phase = .clear ↔ x.lbtTicks = 0) ∧ (x'.phase = .locked ↔ x.lbtTicks ≠ 0))
      ∧ (s.portEnabled k = true → s.onPll = true → s.fld F.RF_SYNSTAT_SYN_STATE k = 0 → s.rf.toLo.contains k = false → s.rxReady k = false → s.exc k = none →
          ∃ t, ends (.rxReadyRise p) t ∧ t.rxReady k = true ∧ t.blanked k = false
            ∧ ∀ n, n < 128 → s.lanePort n = k → s.laneState n = 1 → s.bankRuns = true → t.laneState n = 2)
      ∧ (s.rxReady k = true → ends (.rxReadyRise p) s)
      ∧ (s.portEnabled k = true → s.onPll = true → ∃ t, ends (.synLockLoss p) t ∧ t.rxReady k = false ∧ t.blanked k = true ∧ t.exc k = none)
      ∧ (∃ t, ends (.attenStepUp p ⟨clip, high⟩) t ∧ (clip = true → t.flag F.RF_STAT_CLIP k = true)
          ∧ (high = false ∨ s.portEnabled k = false ∨ s.flag F.RF_CTRL_AGC k = false ∨ 7 ≤ s.fld F.RF_STAT_ATTEN_CUR k →
            t.fld F.RF_STAT_ATTEN_CUR k = s.fld F.RF_STAT_ATTEN_CUR k ∧ t.rf = s.rf)
          ∧ (high = true → s.portEnabled k = true → s.flag F.RF_CTRL_AGC k = true → s.fld F.RF_STAT_ATTEN_CUR k < 7 →
            t.fld F.RF_STAT_ATTEN_CUR k = s.fld F.RF_STAT_ATTEN_CUR k + 1))
      ∧ (s.portEnabled k = true → s.flag F.RF_CTRL_AGC k = true →
            (s.portBusy k = false → 0 < s.fld F.RF_STAT_ATTEN_CUR k → ∃ t, ends (.attenStepDown p) t
              ∧ t.fld F.RF_STAT_ATTEN_CUR k = s.fld F.RF_STAT_ATTEN_CUR k - 1))
      ∧ (s.portBusy k = true ∨ s.fld F.RF_STAT_ATTEN_CUR k = 0 → ends (.attenStepDown p) s)
      ∧ (moved → warm.portFree k = true → ends (.synRecalForce p temp) ((warm.blank k).synToLo k)
          ∧ (s.portBusy k = false → (∀ e f, e ∈ s.txp.timed → e.port = k → s.planned e = some f → s.nt + s.leadTicks f + 8000 < f.start) →
              (∀ q, s.sched.offer = some q → s.radioPortOf q ≠ k) →
              ends (.synRecalibration p temp) ((warm.blank k).synToLo k)))
      ∧ (¬ moved → s.rf.recal.contains k = false → ends (.synRecalibration p temp) warm ∧ ends (.synRecalForce p temp) warm)

/-- The lane bank (R162, R163, R165, R173, R174, R177, R179, R181, R185, R189, R190, R228). A lane that is placed well and finds its units is enabled, with its counters cleared; else PLACE_ERR or BUDGET_ERR says so. EN 0 turns a lane off at once, or at the end of its frame; KILL cuts the frame. An offset is taken at once outside frames. RUN starts and stops the bank: START_ERR without PLL0 or the armed last mile. Calibration ends in SEARCH, and a due one comes first after a frame; a window with too high a level is discarded. The decided bits of a lane in SEARCH are compared with the sync word: a match takes a context and enters HEADER, or misses one, lower lanes before higher ones of the same cycle; one found as blanking begins counts as cut; the soft values of the header decide it: it leads to PAYLOAD or is dropped; the frame end frees the lane, decodes the frame, and hands it with its quality to the frame engine. -/
def Obligations.Lanes : Prop :=
  ∀ (who : Who) (n : Fin 128) (w fofs sec : Word) (rej secs : Byte) (level : Half) (new : List Bool) (tick : BitVec 27) (soft : List Soft) (cut : Nat) (s : State),
    s.sysOn = true →
    let ends := fun (c : Instr) (t : State) => exec c s = .next t.done
    let k := n.val
    let st := s.laneState k
    let rssi := s.rssiOf (s.lanePort k) level
    let h := last256 (Tab.getD s.rf.hist k [] ++ new)
    let found := syncScan (s.syncWord (s.lanePt k)) h (s.syncTol (s.lanePt k)) (min h.length (Tab.getD s.rf.unsearched k 0 + new.length))
    let hdr := BitVec.ofNat 16 (softHeader (s.flag F.LANE_PT_MOD_HDR_CODED (s.lanePt k)) (s.hdrRep (s.lanePt k)) soft)
    (s.forCl0 who →
        (st = 0 → (s.laneRefusal k = 0 → ∃ t, ends (.laneEnable who n) t ∧ t.fld F.LANE_STAT_UNITS k = s.ptCost (s.lanePt k) ∧ t.reg .LANE_CNT_FRAMES k = 0
              ∧ t.laneState k = (if s.bankRuns && s.rxReady (s.lanePort k) then 2 else if s.bankRuns && s.blanked (s.lanePort k) then 6 else 1))
            ∧ (s.laneRefusal k = 1 → ends (.laneEnable who n) (s.setFld F.LANE_BANK_STAT_BUDGET_ERR 1))
            ∧ (s.laneRefusal k = 2 → ends (.laneEnable who n) (s.setFld F.LANE_STAT_PLACE_ERR 1 k))
            ∧ ends (.laneDisable who n) s ∧ ends (.laneKill who n) s)
          ∧ (st ≠ 0 → ∃ t, ends (.laneEnable who n) t ∧ t.laneState k = st ∧ t.flag F.LANE_STAT_DISABLING k = false)
          ∧ (st = 4 ∨ st = 5 → ∃ t, ends (.laneDisable who n) t ∧ t.laneState k = st ∧ t.flag F.LANE_STAT_DISABLING k = true)
          ∧ (st ≠ 0 → st ≠ 4 → st ≠ 5 → ∃ t, ends (.laneDisable who n) t ∧ t.laneState k = 0 ∧ t.fld F.LANE_STAT_UNITS k = 0)
          ∧ (st ≠ 0 → ∃ t, ends (.laneKill who n) t ∧ t.laneState k = 0 ∧ t.fld F.LANE_STAT_UNITS k = 0 ∧ Tab.find t.rf.frames k = none)
          ∧ (st = 0 ∨ ((st = 1 ∨ st = 3) ∧ s.placed k w.toInt = true) → ∃ t, ends (.laneOffsetWrite who n w) t ∧ t.laneOffset k = w.toInt
              ∧ t.reg .LANE_OFFSET k = w)
          ∧ (st = 4 ∨ st = 5 → s.placed k w.toInt = true → Tab.find s.held (RegName.LANE_OFFSET.key k) = none → ∃ t, ends (.laneOffsetWrite who n w) t
              ∧ t.laneOffset k = s.laneOffset k ∧ t.reg .LANE_OFFSET k = w)
          ∧ (st ≠ 0 → s.placed k w.toInt = false → ends (.laneOffsetWrite who n w) (s.setFld F.LANE_STAT_PLACE_ERR 1 k))
          ∧ (s.flag F.SYSCTL_LMSTAT_ARMED = true → s.onPll = true → s.bankRuns = false → ∃ t, ends (.laneBankRun who) t ∧ t.bankRuns = true
              ∧ ∀ m, m < 128 → s.laneState m = 1 → s.rxReady (s.lanePort m) = true → t.laneState m = 2)
          ∧ (s.flag F.SYSCTL_LMSTAT_ARMED = false ∨ s.onPll = false → ends (.laneBankRun who) (s.setFld F.LANE_BANK_STAT_START_ERR 1))
          ∧ (s.bankRuns = true → ∃ t, ends (.laneBankStop who) t ∧ t.bankRuns = false
              ∧ ∀ m, m < 128 → s.laneState m ≠ 0 → s.flag F.LANE_STAT_DISABLING m = false → t.laneState m = 1)
          ∧ (s.bankRuns = false → ends (.laneBankStop who) (s.onRf fun r => { r with runAgain := false })))
      ∧ (st = 2 → s.flag F.LANE_STAT_DISABLING k = false → ∃ t, ends (.calibrateEnd n rej) t ∧ t.laneState k = 3
          ∧ t.fld F.LANE_CAL_IMAGE_REJ k = rej.toNat ∧ t.inReg .LANE_OFFSET k = s.reg .LANE_OFFSET k)
      ∧ (st ≠ 2 → ends (.calibrateEnd n rej) s)
      ∧ (st = 3 → (∃ t, ends (.calWindow n) t ∧ t.rf.windows.contains k = true
            ∧ t.calMax k = max 1 (min 10 (s.fld F.LANE_BANK_CALCFG_CAL_MAX)) ∧ ∀ m, m ≠ k → t.calMax m = s.calMax m)
          ∧ (s.calMax k ≤ secs.toNat → ∃ t, ends (.calDue ⟨n, secs⟩) t ∧ t.laneState k = 2)
          ∧ (∀ e r c, found = some (e, r) → s.matches (s.lanePt k) e rssi = true → s.ctxPick = some c → ∃ t f x,
              ends (.syncFound n new level fofs sec tick) t ∧ t.laneState k = 4 ∧ Tab.find t.rf.frames k = some f ∧ f.ctx = c ∧ f.errs = e
              ∧ f.rssi = rssi.toNat ∧ f.arrSec = sec ∧ f.arrTick = tick.toNat
              ∧ Tab.find t.frm.ctxs c = some x ∧ x.st = .arriving ∧ x.lane = k)
          ∧ (∀ e r, found = some (e, r) → s.matches (s.lanePt k) e rssi = true → s.ctxPick = none →
              (s.ctxYielder k = none → ∃ t, ends (.syncFound n new level fofs sec tick) t
                  ∧ t.laneState k = 3 ∧ t.flag F.LANE_STAT_CTX_MISS k = true ∧ t.frm = s.frm)
                ∧ ∀ m, s.ctxYielder k = some m → ∃ t, ends (.syncFound n new level fofs sec tick) t ∧ t.laneState k = 4
                  ∧ t.laneState m = 3 ∧ t.flag F.LANE_STAT_CTX_MISS m = true)
          ∧ ((∀ e r, found = some (e, r) → s.matches (s.lanePt k) e rssi = false) →
              ends (.syncFound n new level fofs sec tick) (s.setHist k h 0)))
      ∧ (∀ e r, st = 6 → s.fldWas F.LANE_STAT_STATE k = 3 → found = some (e, r) → s.matches (s.lanePt k) e rssi = true →
          ∃ t, ends (.syncFound n new level fofs sec tick) t ∧ t.laneState k = 6 ∧ t.flag F.LANE_STAT_CUT k = true ∧ t.frm = s.frm)
      ∧ (s.rf.windows.contains k = true →
          (level.toInt ≤ -360 → ∃ t, ends (.calWindowComplete n ⟨rej, level⟩) t ∧ t.fld F.LANE_CAL_IMAGE_REJ k = rej.toNat
            ∧ t.rf.windows.contains k = false ∧ t.flag F.LANE_STAT_CAL_DUE k = false)
          ∧ (-360 < level.toInt → ends (.calWindowComplete n ⟨rej, level⟩) (s.dropWindow k)))
      ∧ (st ≠ 0 → st ≠ 3 → s.calMax k ≤ secs.toNat → ends (.calDue ⟨n, secs⟩) (s.setFld F.LANE_STAT_CAL_DUE 1 k))
      ∧ (secs.toNat < s.calMax k → ends (.calDue ⟨n, secs⟩) s)
      ∧ (∀ f, Tab.find s.rf.frames k = some f → st = 4 →
          (s.hdrOk (s.lanePt k) hdr.toNat = true → ∃ t f', ends (.headerEnd n soft) t ∧ t.laneState k = 5 ∧ Tab.find t.rf.frames k = some f'
              ∧ f'.length = hdr.toNat / 32 ∧ f'.coded = hdr.getLsbD 4 ∧ f'.ctx = f.ctx)
            ∧ (s.hdrOk (s.lanePt k) hdr.toNat = false → ∃ t, ends (.headerEnd n soft) t ∧ Tab.find t.rf.frames k = none
              ∧ Tab.find t.frm.ctxs f.ctx = none
              ∧ (s.flag F.LANE_STAT_DISABLING k = false → t.laneState k = 3)))
      ∧ ∀ f x, Tab.find s.rf.frames k = some f → st = 5 → Tab.find s.frm.ctxs f.ctx = some x → x.st = .arriving → x.header ≠ [] →
          ∃ t x', ends (.frameEnd n (soft.take cut) (soft.drop cut)) t ∧ Tab.find t.rf.frames k = none ∧ Tab.find t.frm.ctxs f.ctx = some x' ∧ x'.st = .verifying
            ∧ x'.frame = x.header ++ ((padTo f.length (softPayload f.coded f.length soft).1).take f.length).drop 15 ∧ t.reg .LANE_FOFS k = f.fofs
            ∧ ((softPayload f.coded f.length soft).2.2 ≠ 0 → x'.quality =
                qualityOf (softPayload f.coded f.length soft).2.1 (softPayload f.coded f.length soft).2.2)
            ∧ (s.flag F.LANE_STAT_CAL_DUE k = true → t.laneState k = 2)
            ∧ (s.flag F.LANE_STAT_CAL_DUE k = false → s.flag F.LANE_STAT_DISABLING k = false → t.laneState k = 3)

/-- Keys, frames, the duplicate filter and downlinks (R219, R221, R225, R226, R227, R229, R230, R232, R234, R243, R244, R264). A load puts the key into its slot and clears the key registers unless the slot is in use, which sets VAULT_ERR; and waits while a frame of that slot has no verdict yet; an erasure empties it. Frames go on in the order in which they ended. A MAC header of another version or type, or without a key, kills its frame; else the sender key is derived. A frame whose tag fails is dropped; one in its time window goes on to the filter; without the filter it is new and cold; with it a frame not found is new and entered, one found is a repeat. A verdict that is first opens a milestone and requests its commit. DUP_FLUSH makes the filter cold, a second counts the cold time down. A failed Detour is tried again; an expired downlink leaves the list. -/
def Obligations.FrameEngine : Prop :=
  ∀ (who : Who) (n : Fin 128) (c : Fin 1024) (g : BitVec 6) (e : Byte) (w : Word) (soft : List Soft) (src : BitVec 48) (s : State), s.sysOn = true →
    let ends := fun (i : Instr) (t : State) => exec i s = .next t.done
    let u := foldOver State.epochEffect (List.range 64) s
    (s.forCl0 who →
        (s.vaultHeld g.toNat e.toNat = false → ∃ t, ends (.vaultLoad who g e) t
            ∧ (let key := (List.range 4).flatMap fun i => beBytes 4 (s.reg .FRM_VAULT_KEY i).toNat
              if s.vaultBusy g.toNat e.toNat then t.frm.vault = s.frm.vault ∧ t.frm.loads = s.frm.loads ++ [(g.toNat, e.toNat, key)]
              else Tab.find t.frm.vault (g.toNat * 4 + e.toNat % 4) = some (e.toNat, key))
            ∧ ∀ i, i < 4 → t.reg .FRM_VAULT_KEY i = 0)
          ∧ (s.vaultHeld g.toNat e.toNat = true → ∃ t, ends (.vaultLoad who g e) t ∧ t.frm = s.frm ∧ t.flag F.FRM_STAT_VAULT_ERR = true
              ∧ ∀ i, t.reg .FRM_VAULT_KEY i = s.reg .FRM_VAULT_KEY i)
          ∧ (∃ t, ends (.vaultErase who g e) t ∧ Tab.find t.frm.vault (g.toNat * 4 + e.toNat % 4) = none
              ∧ ∀ j, j ≠ g.toNat * 4 + e.toNat % 4 → Tab.find t.frm.vault j = Tab.find s.frm.vault j)
          ∧ ∃ t, ends (.dupFlush who w) t ∧ t.fld F.FRM_DUP_STAT_COLD_LEFT = 64 ∧ t.frm.front = [])
      ∧ (s.fld F.FRM_DUP_STAT_COLD_LEFT ≠ 0 → ∃ t, ends .filterColdSecond t ∧ t.fld F.FRM_DUP_STAT_COLD_LEFT + 1 = s.fld F.FRM_DUP_STAT_COLD_LEFT)
      ∧ (s.fld F.FRM_DUP_STAT_COLD_LEFT = 0 → ends .filterColdSecond s)
      ∧ (∀ f x, Tab.find s.rf.frames n.val = some f → Tab.find s.frm.ctxs f.ctx = some x → s.laneState n.val = 5 → x.st = .arriving → x.header = [] →
          let l := if payBits f.coded f.length ≤ soft.length then byteBits (softPayload f.coded f.length soft).1 else softSoFar f.coded soft
          let h := (padTo 15 (bitsBytes 15 l)).take 15
          (l.length < min 120 (8 * f.length) → ends (.macHeaderComplete n soft) s)
          ∧ (min 120 (8 * f.length) ≤ l.length → macVer h ≠ 0 ∨ macType h ≠ 0 ∨ f.length < 23 ∨ u.masterKey (macGroup h) (macEpoch h) = none →
              ∃ t x', ends (.macHeaderComplete n soft) t ∧ Tab.find t.frm.ctxs f.ctx = some x' ∧ x'.st = .dead)
            ∧ ∀ mk, min 120 (8 * f.length) ≤ l.length → macVer h = 0 → macType h = 0 → 23 ≤ f.length →
              u.masterKey (macGroup h) (macEpoch h) = some mk →
              ∃ t x', ends (.macHeaderComplete n soft) t ∧ Tab.find t.frm.ctxs f.ctx = some x' ∧ x'.st = .arriving ∧ x'.header = h
                ∧ x'.key = (u.deriveKey mk (macGroup h) (macEpoch h) (macSrc h)).1)
      ∧ (∀ x, Tab.find s.frm.ctxs c.val = some x →
          (x.st = .verifying → s.ctxFirst x (· == .verifying) = false → ends (.tagCompare c) s)
          ∧ (x.st = .verifying → s.ctxFirst x (· == .verifying) = true →
            (macTagOk x.key x.frame = false → ∃ t, ends (.tagCompare c) t ∧ Tab.find t.frm.ctxs c.val = none ∧ t.reg .FRM_CNT 2 = s.reg .FRM_CNT 2 + 1)
              ∧ (macTagOk x.key x.frame = true →
                (s.timeOk (macCtime x.header) x.info.arrSec = true → ∃ t x', ends (.tagCompare c) t ∧ Tab.find t.frm.ctxs c.val = some x' ∧ x'.st = .timed
                    ∧ x'.undisc = !s.flag F.NTC_STAT_DISC)
                  ∧ (s.timeOk (macCtime x.header) x.info.arrSec = false →
                    (macAckReq x.header && s.flag F.FRM_CFG_TREJ_ACK) = false → ∃ t, ends (.tagCompare c) t ∧ Tab.find t.frm.ctxs c.val = none)))
            ∧ (x.st = .timed → s.ctxFirst x (· == .timed) = true → let tr := macTriple x.header
              (s.dupOn = false → ∃ t x', ends (.filterLookupDone c) t ∧ Tab.find t.frm.ctxs c.val = some x' ∧ x'.st = .verdict ∧ x'.fresh = true ∧ x'.cold = true)
                ∧ (s.dupOn = true → s.dramReady = true → let u := (s.frontTouch tr).2
                  let hit := (s.frontTouch tr).1
                  let v := if hit then u else (u.dupRead tr).2
                  (hit = true ∨ (u.dupRead tr).1 = true) →
                  (v.dupFind tr = none → ∃ t x', ends (.filterLookupDone c) t ∧ Tab.find t.frm.ctxs c.val = some x' ∧ x'.st = .verdict
                      ∧ x'.fresh = true ∧ t.bytes (s.dupAddr tr (v.dupVictim tr).1) 16 = (s.dupEntry x (s.wantsAck x)).bytes)
                    ∧ ∀ y, v.dupFind tr = some y → ends (.filterLookupDone c) (v.frameRepeat c.val x y (v.dupWay tr y)).vaultSettle))
            ∧ (x.st = .verdict → s.ctxFirst x (fun t => t == .verifying || t == .timed || t == .verdict) = true →
              (x.fresh = true → s.flag F.SYSCTL_LMSTAT_ARMED = true) → ∀ k, s.mileFree s.feLow 64 = some k →
              ∃ t x' m, ends (.receiveTemplateOpen c) t ∧ Tab.find t.frm.ctxs c.val = some x' ∧ x'.st = .committing ∧ t.mile k = some m
                ∧ m.ctx = some c.val ∧ m.request.isSome = true))
      ∧ (∀ d, (s.frm.downlinks.find? fun y => y.src == src.toNat) = some d → d.plan = none → 0 < d.tries → d.tries < 3 →
          ends (.detourRetry src) (s.detour d))
      ∧ ((s.frm.downlinks.any fun d => d.src == src.toNat) = true → ∃ t, ends (.downlinkExpiry src) t ∧ ∀ d, d ∈ t.frm.downlinks → d.src ≠ src.toNat)
      ∧ ((s.frm.downlinks.any fun d => d.src == src.toNat) = false → ends (.downlinkExpiry src) s)

/-- Submission, launch, listen, airtime and the ledgers (R194, R198, R199, R203, R204, R206, R211, R212, R216, R217, R218, R323). A submission that nothing refuses enters the timed list under the lowest free tag; a refused one posts its result. At its launch point an entry in time, without conflict and covered by its ledger starts its excursion and blanks its port. A listen below the threshold clears the way, a busy one returns the entry. At A an entry that is not waiting for a milestone, or for a commit of this very cycle, airs; the steps of the front-end table follow each other, the data airs between them, and the port returns. A millisecond refills the ledgers up to their capacity; a read of TXP_RESULT takes the oldest result. A wake pattern for this node sets MATCH. -/
def Obligations.TransmitPath : Prop :=
  ∀ (who : Who) (w : Word) (p : Fin 2) (tag : Fin 64) (q : Fin 16) (temp level addr : Half) (group : Byte) (check : BitVec 4) (s : State), s.sysOn = true →
    let ends := fun (c : Instr) (t : State) => exec c s = .next t.done
    let v := s.setReg .TXP_SUBMIT 3 w
    let sub := v.txEntry .cl0 (s.reg .TXP_SUBMIT 0) (s.reg .TXP_SUBMIT 1) (s.reg .TXP_SUBMIT 2) w
    let ok := v.txFieldsOk (s.reg .TXP_SUBMIT 0) (s.reg .TXP_SUBMIT 1) (s.reg .TXP_SUBMIT 2) w
    let warm := s.onRf fun r => { r with temp := temp.toInt }
    let z := warm.boundary .TXP_CFG
    let k := p.val
    (s.forCl0 who →
        (v.txRefusal sub ok = none → ∃ t, ends (.txSubmit who w) t ∧ t.fld F.TXP_STAT_LAST_TAG = s.txSlot
            ∧ t.txp.timed = s.txp.timed ++ [{ sub with tag := s.txSlot, order := s.txp.nextOrder, planned := v.storedMove sub }])
          ∧ (∀ code, v.txRefusal sub ok = some code → ends (.txSubmit who w) (v.txRefused code))
          ∧ (∀ a nt l, s.txp.results = (a, nt) :: l → ends (.txpResultRead who) ((s.onTxp fun x => { x with results := l }).setReg .TXP_RESULT_NT 0 nt))
          ∧ (s.txp.results = [] → ends (.txpResultRead who) s))
      ∧ ends (.launchPoint (.queue q) temp) warm.radioLaunch
      ∧ (∀ e, (s.txp.timed.find? fun x => x.tag == tag.val) = some e → s.launched e = false → e.waiting = false → warm.portFree e.port = true →
          (warm.launchReached e = false → ends (.launchPoint (.tag tag) temp) warm) ∧ (warm.launchReached e = true →
          (z.regionOk e = false → ends (.launchPoint (.tag tag) temp) (z.txPost e 3 0 0))
            ∧ ∀ r, z.regionOk e = true → z.nt + z.leadTicks e ≤ e.start → (∀ f, f ∈ z.rivals e → z.conflicts e f = false) → z.txReserve e = some r →
              ∃ t x, ends (.launchPoint (.tag tag) temp) t ∧ t.exc e.port = some x ∧ x.phase = .moving ∧ x.entry = some e ∧ x.reserved = r ∧ x.band = z.bandWords e
                ∧ t.blanked e.port = true ∧ t.fld F.RF_SYNSTAT_SYN_STATE e.port = 1))
      ∧ (∃ t, ends (.lbtBackoffEnd (.tag tag)) t ∧ ∀ e, e ∈ t.txp.timed → e.tag = tag.val → e.waiting = false)
      ∧ (∃ t, ends (.lbtBackoffEnd (.queue q)) t ∧ ∀ x, x ∈ t.sched.backoff → x ≠ 128 + q.val)
      ∧ (∀ x e, s.exc k = some x → x.entry = some e →
          (x.phase = .locked →
            ((s.rssiOf k level).toInt < x.lbtThr → ends (.lbtListenEnd p level) (s.setExc k { x with phase := .clear }))
              ∧ (x.lbtThr ≤ (s.rssiOf k level).toInt → ends (.lbtListenEnd p level) (s.lbtBusy k x e)))
            ∧ (x.phase = .clear →
              ((∀ m a, e.use = .milestone m a → e.committed = true ∧ s.txp.justCommitted.contains e.tag = false) → ∃ t x', ends (.airtimeStart p) t ∧ t.exc k = some x' ∧ x'.phase = .up 0
                  ∧ x'.reserved = none ∧ x'.airStart = max (e.start - s.upTicks k) s.nt ∧ t.flag F.TXP_STAT_AIRING = true)
                ∧ ∀ m a, e.use = .milestone m a → e.committed = false ∨ s.txp.justCommitted.contains e.tag = true →
                  ends (.airtimeStart p) (((s.refillDue.release x).excBack k).txPost { e with committed := false } 4 0 0))
            ∧ (∀ i, x.phase = .up i → (i + 1 < s.upLen k → ∃ t x', ends (.femseqStepEnd p) t ∧ t.exc k = some x' ∧ x'.phase = .up (i + 1))
                ∧ (s.upLen k ≤ i + 1 → ∃ t x', ends (.femseqStepEnd p) t ∧ t.exc k = some x' ∧ x'.phase = .data ∧ x'.air = s.onAir e ∧ x'.devs = s.airDevs e))
            ∧ (x.phase = .data → ∃ t x', ends (.txDataEnd p) t ∧ t.exc k = some x' ∧ x'.phase = .down 0 ∧ x'.air = [])
            ∧ ∀ i, x.phase = .down i → (i + 1 < s.dnLen k → ∃ t x', ends (.femseqStepEnd p) t ∧ t.exc k = some x' ∧ x'.phase = .down (i + 1))
                ∧ (s.dnLen k ≤ i + 1 → ∃ t x', ends (.femseqStepEnd p) t ∧ t.exc k = some x' ∧ x'.phase = .back ∧ x'.entry = none))
      ∧ (s.onPll = true → ∃ t, ends .ledgerRefill t ∧ ∀ b, b < 8 → t.ledger b = min (s.ledger b + s.rgnDuty b) (s.ledgerCap b))
      ∧ (s.onPll = false → ends .ledgerRefill s)
      ∧ (s.pwr.off = false → s.pwr.held = false → s.pwr.pinWait = false → s.flushing = false → s.flag F.WUR_CFG_EN = true →
          s.flag F.TXP_STAT_AIRING = false → s.inRoadside = false → s.rf.deafTo ≤ s.cyc →
          (crcBits 4 3 0 (msbBits 24 (addr.toNat * 256 + group.toNat)) ≠ check.toNat →
              ends (.wakePatternReceived addr group check) ((s.boundary .WUR_CFG).bumpWrap F.WUR_STAT_CHK_ERRS))
            ∧ (crcBits 4 3 0 (msbBits 24 (addr.toNat * 256 + group.toNat)) = check.toNat → addr ≠ 0xFFFF#16 → addr.toNat = s.fld F.WUR_CFG_ADDR →
              s.txp.lastWake = none → s.level ≤ 1 → ∃ t, ends (.wakePatternReceived addr group check) t ∧ t.flag F.WUR_STAT_MATCH = true
                ∧ t.reg .WUR_LAST = BitVec.ofNat 32 (group.toNat * 65536 + addr.toNat)))

/-- Flash commands, their pulses, and the SRAM scrubber (R410, R411, R421, R422, R423, R424, R425, R426, R430, R436). A command of CL0 joins the queue of eight with its data, or sets CMD_ERR; SUSPEND and RESUME act at once. The head of the queue, when it may start, or a native program of a free bank, whatever waits before it, is refused with its code or takes its place: a bank, the page, the erase, the blank check or a table update; none starts while a held reset waits or a flush runs. A verified program holds its words and frees its bank; a verified page holds its data; a verified sector erase leaves all ones; an erase that is not yet verified goes on, or suspends when asked. While a held reset waits, a pulse that ends leaves its operation as it is. A table update erases its copy and programs its lines, and the last one puts it in force. A blank check and a read of FLC_RESULT answer as the array and the results stand. The scrubber of a powered bank corrects one bit in error, leaves two, drops such a line of an instruction cache, and moves on to the next word. A patrol of an offset that wear management covers, whose read raises no warning, changes nothing more. -/
def Obligations.FlashAndScrub : Prop :=
  ∀ (who : Who) (nw : BitVec 3) (off : BitVec 25) (bank : Fin 4) (vf last : Bool) (sb : Fin 80) (bits : Byte) (target ref : BitVec 25) (record : Bytes)
    (s : State), s.sysOn = true →
    let ends := fun (c : Instr) (t : State) => exec c s = .next t.done
    let tag := (s.fld F.FLC_STAT_LAST_TAG + 1) % 16
    let tagged := s.setFld F.FLC_STAT_LAST_TAG tag
    let queued := fun (op n : Nat) (c : Instr) =>
      (s.flc.queue.length < 8 → ∃ t, ends c t ∧ t.mem = s.mem ∧ t.fld F.FLC_STAT_LAST_TAG = tag
          ∧ t.flc.queue = s.flc.queue ++ [{ tag, op, nwords := n, offset := off.toNat, data := (List.range 8).map fun k => s.reg .FLC_DATA k,
                                            src := (s.reg .FLC_SRC).toNat, req := .firmware }])
        ∧ (8 ≤ s.flc.queue.length → ends c (s.setFld F.FLC_STAT_CMD_ERR 1))
    let pos := Tab.getD s.sram.scrub sb.val 0
    let word := bankWord sb.val pos
    let moved := fun (t : State) => t.onSram fun r => { r with scrub := Tab.putD r.scrub sb.val 0 ((pos + 1) % bankSize sb.val) }
    (s.forCl0 who → queued 1 (nw.toNat + 1) (.program who nw off) ∧ queued 2 1 (.page who off) ∧ queued 3 1 (.serase who off)
        ∧ queued 4 1 (.berase who off) ∧ queued 7 1 (.blank who off) ∧ queued 8 1 (.markBad who off)
        ∧ (s.flc.erase = none → ends (.suspend who off) (tagged.flcPost .firmware tag 8) ∧ ends (.resume who off) (tagged.flcPost .firmware tag 8))
        ∧ (∀ r, s.flc.erase = some r →
          (r.suspended = false → ∃ t, ends (.suspend who off) t ∧ t.flc.erase = some { r with suspends := r.suspends ++ [tag] })
            ∧ (r.suspended = true → r.resume = none → s.flc.programs = [] → s.flc.updates = [] → s.pwr.flush = none → ∃ t, ends (.resume who off) t
                ∧ t.flc.erase = some { r with suspended := false }))
        ∧ (∀ w l, s.flc.results = w :: l → ends (.flcResultRead who) (s.onFlc fun f => { f with results := l }))
        ∧ (s.flc.results = [] → ends (.flcResultRead who) s))
      ∧ (∀ c q, s.flc.queue = c :: q → let pick := s.flcPick true [] s.flc.queue
          (s.flcMayStart c = true → pick = some (c, q))
            ∧ (s.flcMayStart c = false → (∀ d ∈ q, d.op ≠ 1) → pick = none)
            ∧ ∀ d l, q = d :: l → d.op = 1 → s.flcMayStart c = false → s.flcMayStart d = true → pick = some (d, c :: l))
      ∧ (∀ c q, s.err.held = [] → s.pwr.flush = none → s.flcPick true [] s.flc.queue = some (c, q) → let u := s.onFlc fun f => { f with queue := q }
          (∀ code, s.flcRefusal c = some code → ends .flashCommandStart (u.flcPost c.req c.tag code))
            ∧ (s.flcRefusal c = none →
              (c.op = 1 → ∃ t, ends .flashCommandStart t ∧ t.flc.queue = q ∧ Tab.find t.flc.programs (flBank c.offset) = some c)
                ∧ (c.op = 2 → ∃ t, ends .flashCommandStart t ∧ t.flc.queue = q ∧ t.flc.page = some c ∧ t.flc.recOpen = some (s.flc.recNext % 256))
                ∧ (c.op = 3 ∨ c.op = 4 → ∃ t, ends .flashCommandStart t ∧ t.flc.queue = q ∧ t.flc.erase = some ⟨c, 0, false, [], none⟩)
                ∧ (c.op = 7 → ∃ t, ends .flashCommandStart t ∧ t.flc.queue = q ∧ t.flc.blank = some c)
                ∧ (c.op = 8 → ends .flashCommandStart (u.growBad (s.flBlock c.offset) 3 c.req c.tag 0))))
      ∧ (s.err.held ≠ [] ∨ s.pwr.flush.isSome = true ∨ s.flcPick true [] s.flc.queue = none → ends .flashCommandStart s)
      ∧ (∀ c, Tab.find s.flc.programs bank.val = some c → let b := (c.data.take c.nwords).flatMap fun w => leBytes 4 w.toNat
          ∃ t, ends (.programPulseEnd bank true) t ∧ t.bytes (flashBase + c.offset) b.length = b ∧ Tab.find t.flc.programs bank.val = none
            ∧ ∀ x, x < flashBase + c.offset ∨ flashBase + c.offset + b.length ≤ x → t.byte x = s.byte x)
      ∧ (Tab.find s.flc.programs bank.val = none → s.updRuns = none → ends (.programPulseEnd bank vf) s)
      ∧ (s.err.held ≠ [] → let over' := s.onFlc fun f => { f with pulseEnded := true }
          (s.flc.page.isSome = true → ends (.pagePulseEnd last vf) over')
            ∧ ∀ r, s.flc.erase = some r → r.suspended = false → ends (.eraseSubpulseEnd vf) over')
      ∧ (∀ c, s.flc.page = some c → s.err.held = [] → ends (.pagePulseEnd false true) s
          ∧ (32768 ≤ c.offset → (∀ k, s.flc.recOpen = some k → k < 256) →
            ∃ t, ends (.pagePulseEnd true true) t ∧ t.flc.page = none ∧ t.bytes (flashBase + c.offset) 2048 = (s.pageData c).1
              ∧ t.pageMarked (s.flBlock c.offset) (s.flPage c.offset) = true ∧ t.flc.recOpen = none))
      ∧ (s.flc.page = none → ends (.pagePulseEnd last vf) s)
      ∧ (∀ r, s.flc.erase = some r → r.suspended = false → s.err.held = [] →
          (r.cmd.op = 3 → 8 ≤ flSector r.cmd.offset → (∀ k, s.flc.recOpen = some k → k < 256) →
              ∃ t, ends (.eraseSubpulseEnd true) t ∧ t.flc.erase = none
                ∧ ∀ i, i < 4096 → flashBase + flSector r.cmd.offset * 4096 + i < 0x0A000000 →
                  t.byte (flashBase + flSector r.cmd.offset * 4096 + i) = 0xFF#8)
            ∧ (r.pulses < 79 → r.suspends = [] → ∃ t, ends (.eraseSubpulseEnd false) t ∧ t.flc.erase = some { r with pulses := r.pulses + 1 }
                ∧ t.mem = s.mem)
            ∧ (r.pulses < 79 → r.suspends ≠ [] → ∃ t, ends (.eraseSubpulseEnd false) t ∧ t.mem = s.mem
                ∧ t.flc.erase = some { r with pulses := r.pulses + 1, suspended := true, suspends := [] })
            ∧ (79 ≤ r.pulses → ∃ t, ends (.eraseSubpulseEnd false) t ∧ t.flc.erase = none))
      ∧ (s.flc.erase = none → s.updRuns = none → ends (.eraseSubpulseEnd vf) s)
      ∧ (∀ x, s.updRuns = some x → s.err.held = [] → let tab := s.tabOf x
          (x.lines = none → ∃ t, ends (.eraseSubpulseEnd true) t ∧ t.flc.updates = { x with lines := some 0 } :: s.flc.updates.drop 1)
            ∧ ∀ k, x.lines = some k → x.lineOff tab = some (((if x.grown then 2 else 4) + (1 - tab.copy)) * 4096 + 32 * k)
              ∧ (Tab.find s.flc.programs bank.val = none → flBank (((if x.grown then 2 else 4) + (1 - tab.copy)) * 4096 + 32 * k) = bank.val →
                (k + 1 < s.updLines x → ∃ t, ends (.programPulseEnd bank true) t ∧ t.tabOf x = tab
                    ∧ t.flc.updates = { x with lines := some (k + 1) } :: s.flc.updates.drop 1)
                  ∧ (s.updLines x ≤ k + 1 → ∃ t, ends (.programPulseEnd bank true) t
                    ∧ t.tabOf x = ⟨x.entries tab.entries, tab.seq + 1, 1 - tab.copy⟩)))
      ∧ (∀ c, s.flc.blank = some c → ends .blankDone ((s.onFlc fun f => { f with blank := none }).flcPost c.req c.tag (if s.isBlank c.offset then 0 else 7)))
      ∧ (s.flc.blank = none → ends .blankDone s)
      ∧ (bankCluster sb.val ≠ 0 → s.userOn = false → ∀ k, ends (.sramScrubRead sb k) s)
      ∧ (bankCluster sb.val = 0 ∨ s.userOn = true →
          (53 ≤ sb.val → sb.val < 77 → ends (.sramScrubRead sb 0) (moved s)
              ∧ ∀ k, k ≠ 0 → ends (.sramScrubRead sb k) (moved (s.icDrop (sb.val - 53) pos)))
            ∧ (sb.val < 53 ∨ 77 ≤ sb.val → Tab.getD s.sram.errs word.key 0 = 0 → ends (.sramScrubRead sb 0) (moved s)
              ∧ (∃ t, ends (.sramScrubRead sb 1) t ∧ Tab.getD t.sram.errs word.key 0 = 0 ∧ t.err.tel.sramCorr = s.err.tel.sramCorr + 1
                  ∧ Tab.getD t.sram.scrub sb.val 0 = (pos + 1) % bankSize sb.val)
              ∧ ∃ t, ends (.sramScrubRead sb 2) t ∧ Tab.getD t.sram.errs word.key 0 = 2 ∧ t.err.tel.uncorr = s.err.tel.uncorr + 1
                  ∧ Tab.getD t.sram.scrub sb.val 0 = (pos + 1) % bankSize sb.val))
      ∧ (s.pwr.up = true → s.inRoadside = false → s.patrolled off.toNat = true → s.bankBusy off.toNat = false → s.readBarred off.toNat = false → ∀ n t,
          (s.onFlc fun f => { f with errs := Tab.putD f.errs (off.toNat / 32) 0 bits.toNat }).arrayRead true (off.toNat / 32) = (.data n, t) →
          n < s.warnAt → ends (.flashPatrol off bits target ref record) t)

/-- OTP programs and the DRAM controller (R438, R439, R441, R442, R443, R448, R449, R450, R451, R453, R454, R457). OTP_CTRL with its key starts a program of a half, or of fuses in row 7, that is not denied, with the data of OTP_PDATA; while one runs, WLOCK says so; a reload copies the array. A program that ends whole puts its bits into the array and marks its half. DMC_INIT starts from IDLE or from self-refresh, is ignored in a run, and sets WLOCK while READY is 1; STOP ends; training ends in the fill or in FAILED, an exit from self-refresh in READY with the content kept where the signature comes back, or else with it lost in a new initialisation; the fill passes down to the base. Refreshes are postponed up to eight; MR4 sets the rate; a tracking pause records the drift and starts a re-centre above RECENTRE, whose sixteen steps end it; the scrubber reads on from unit to unit. -/
def Obligations.OtpAndDram : Prop :=
  ∀ (who : Who) (row : BitVec 7) (high cut ok later kept : Bool) (pos : Word) (rate drift rd wr mr8 gb : Byte) (ranks fail : BitVec 4) (s : State),
    s.sysOn = true →
    let ends := fun (c : Instr) (t : State) => exec c s = .next t.done
    let half := b2n high
    let st := s.fld F.DMC_STAT_STATE
    let z := s.boundary .DMC_TRAIN
    (s.forCl0 who →
        (s.otp.run = none →
          (s.otpHalfDenied row.toNat half = false → ∃ t, ends (.otpProgramHalf who row high) t ∧ t.otp.run = some ⟨row.toNat, half, s.pdata, false⟩
              ∧ t.regs = s.regs)
            ∧ (s.otpHalfDenied row.toNat half = true → ends (.otpProgramHalf who row high) (s.setFld F.OTP_STAT_DENIED 1))
            ∧ (row = 7#7 → s.otpFuseDenied half s.pdata = false → ∃ t, ends (.otpProgramFuse who row high) t ∧ t.otp.run = some ⟨7, half, s.pdata, true⟩
              ∧ t.regs = s.regs)
            ∧ (row ≠ 7#7 → ends (.otpProgramFuse who row high) (s.setFld F.OTP_STAT_DENIED 1))
            ∧ ∃ t, ends (.otpReload who) t ∧ t.reg .OTP_FUSE = fuseWord (s.rowBits 7) ∧ t.otp = s.otp
              ∧ ∀ k w, k < 128 → w < 8 → t.reg .OTP_ROW (k * 8 + w) = BitVec.ofNat 32 (s.rowBits k / 2 ^ (32 * w)))
          ∧ (s.otp.run.isSome = true → ends (.otpProgramHalf who row high) (s.setWlock .OTP_CTRL 0))
          ∧ (s.onPll = true → (s.dramReady = true → ends (.dmcInit who) (s.setWlock .DMC_CTRL 0))
            ∧ (s.dramReady = false →
              (st = 0 ∨ st = 6 → ∃ t, ends (.dmcInit who) t ∧ t.fld F.DMC_STAT_STATE = 1 ∧ t.dramReady = false ∧ t.fld F.DMC_STAT_INIT_ERR = 0)
                ∧ (st = 5 → ∃ t, ends (.dmcInit who) t ∧ t.fld F.DMC_STAT_STATE = 2 ∧ t.mem = s.mem)
                ∧ (st = 1 ∨ st = 2 → ends (.dmcInit who) s)))
          ∧ ∃ t, ends (.dmcStop who) t ∧ t.fld F.DMC_STAT_STATE = 0 ∧ t.dramReady = false)
      ∧ (∀ r, s.otp.run = some r → (∃ t, ends (.otpProgramDone false ok) t ∧ t.halfBits r.row r.half = s.halfBits r.row r.half ||| r.data ∧ t.otp.run = none
            ∧ (r.fuse = false → t.halfState r.row r.half = (if ok then .programmed else .crcFailed)) ∧ (r.fuse = true → t.otp.states = s.otp.states))
          ∧ ∃ t, ends (.otpProgramDone true ok) t ∧ t.otp.run = none ∧ (r.fuse = false → t.halfState r.row r.half = .dirty))
      ∧ (s.otp.run = none → ends (.otpProgramDone cut ok) s)
      ∧ (st = 3 → dramBase ≤ pos.toNat → pos < s.reg .DMC_FILLPOS → ∃ t, ends (.dmcFillDone pos) t ∧ t.reg .DMC_FILLPOS = pos
          ∧ t.fld F.DMC_STAT_STATE = (if pos.toNat = dramBase then 4 else 3))
      ∧ (∃ t, ends (.dramRefresh later) t ∧ t.dmc.postponed = (if later && decide (s.dmc.postponed < 8) then s.dmc.postponed + 1 else 0) ∧ t.mem = s.mem)
      ∧ (∃ t, ends (.mr4Check rate true) t ∧ t.dmc.rate = 4) ∧ (rate = 2#8 ∨ rate = 4#8 → ∃ t, ends (.mr4Check rate false) t ∧ t.dmc.rate = rate.toNat)
      ∧ (st = 3 ∨ st = 4 →
          (drift.toInt.natAbs ≤ z.recentreAt → ∃ t, ends (.trackingPause drift rd wr) t ∧ t.fld F.DMC_DRIFT_DRIFT = drift.toNat
              ∧ t.dmc = { s.dmc with postponed := 0 })
            ∧ (z.recentreAt < drift.toInt.natAbs → drift.toInt.natAbs ≤ z.urgentAt → s.dmc.recentre = none →
              ∃ t, ends (.trackingPause drift rd wr) t ∧ t.dmc.recentre = some 0 ∧ t.fld F.DMC_DRIFT_DRIFT = drift.toNat)
            ∧ (z.urgentAt < drift.toInt.natAbs → 16 ≤ rd.toNat → 16 ≤ wr.toNat → ∃ t, ends (.trackingPause drift rd wr) t ∧ t.dmc.recentre = none
                ∧ t.fld F.DMC_DRIFT_RDEYE = rd.toNat ∧ t.fld F.DMC_DRIFT_WREYE = wr.toNat))
      ∧ (∀ k, st = 3 ∨ st = 4 → s.dmc.recentre = some k → (k < 15 → ∃ t, ends (.recentreStep rd wr) t ∧ t.dmc.recentre = some (k + 1))
          ∧ (15 ≤ k → 16 ≤ rd.toNat → 16 ≤ wr.toNat → ∃ t, ends (.recentreStep rd wr) t ∧ t.dmc.recentre = none ∧ t.dmc.fails = 0)
          ∧ (15 ≤ k → rd.toNat < 16 → ∃ t, ends (.recentreStep rd wr) t ∧ t.dmc.recentre = some 0 ∧ t.dmc.fails = s.dmc.fails + 1))
      ∧ (s.dmc.recentre = none ∨ (st ≠ 3 ∧ st ≠ 4) → ends (.recentreStep rd wr) s)
      ∧ (s.dramReady = true → s.inDram (s.reg .DMC_SCRUBPOS).toNat = true → s.filledFrom (s.reg .DMC_SCRUBPOS).toNat = true → Tab.getD s.dmc.errs (dramUnit (s.reg .DMC_SCRUBPOS).toNat) 0 = 0 →
          ∃ t, ends (.dramScrubRead 0) t ∧ t.mem = s.mem ∧ t.reg .DMC_SCRUBPOS = (if s.inDram ((s.reg .DMC_SCRUBPOS).toNat + 8)
            then s.reg .DMC_SCRUBPOS + 8 else 0x80000000#32))
      ∧ (s.dramReady = false → ends (.dramScrubRead 2) s)
      ∧ (st = 1 ∨ st = 2 → s.dmc.since.isSome = true →
          (dramSupported gb.toNat ranks.toNat = true →
              (∃ t, ends (.dmcReady mr8 gb ranks true ⟨0, kept⟩) t ∧ t.fld F.DMC_STAT_STATE = 3
                ∧ t.dramReady = true ∧ t.fld F.DMC_DEV_CAP = gb.toNat * ranks.toNat / 2 ∧ t.reg .DMC_FILLPOS = BitVec.ofNat 32 (dramBase + t.dramSize))
              ∧ (fail ≠ 0#4 → ∃ t, ends (.dmcReady mr8 gb ranks true ⟨fail, kept⟩) t ∧ t.fld F.DMC_STAT_STATE = 6
                ∧ t.fld F.DMC_STAT_INIT_ERR = fail.toNat ∧ t.roadPend.isSome = true))
            ∧ (dramSupported gb.toNat ranks.toNat = false → ∃ t, ends (.dmcReady mr8 gb ranks ok ⟨fail, kept⟩) t ∧ t.fld F.DMC_STAT_STATE = 6
              ∧ t.fld F.DMC_STAT_INIT_ERR = 1 ∧ t.roadPend.isSome = true))
      ∧ (st = 2 → s.dmc.since = none → let whole := kept && decide (s.dmc.region = some s.dmc.sent)
          (whole = true → ∃ t, ends (.dmcReady mr8 gb ranks ok ⟨0, kept⟩) t ∧ t.fld F.DMC_STAT_STATE = 4 ∧ t.dramReady = true ∧ t.mem = s.mem)
            ∧ (whole = false → ∃ t, ends (.dmcReady mr8 gb ranks ok ⟨0, kept⟩) t ∧ t.fld F.DMC_STAT_STATE = 1 ∧ t.fld F.DMC_STAT_LOST = 1
              ∧ t.fld F.FRM_DUP_STAT_COLD_LEFT = 64 ∧ ∀ a, dramBase ≤ a → a < 0x100000000 → t.byte a = 0#8))

/-- The contactless tag in its field (R459, R460, R461, R462, R464, R465, R466, R467, R468, R469, R471). A field that appears wakes the tag to IDLE, or to QUIET; its loss powers the tag down; four seconds later the exchange closes. REQA and WUPA, anti-collision and SELECT lead an addressed tag to OPEN, and HLTA silences it for four seconds. In OPEN, GET_ID and GET_STATUS answer, a code that no command has is UNKNOWN, READ delivers regions open to it and is DENIED others, or answers MEM_ERROR where a word of them is uncorrectable, WRITE is DENIED; while the core of the block is off, commands of the secured session are NOT_AVAILABLE; that it counts as off on FRC is the model's choice (log entry 197). AUTH1 and AUTH2 open a secured session, and a wrong answer counts in FAILS. In SECURED a WRITE with its MAC stores its data and END returns to OPEN. A lockout ends with FAILS at 0. The challenge of AUTH1 is a free value (log entry 3). -/
def Obligations.ContactlessTag : Prop :=
  ∀ (sel code : Byte) (known : List Bool) (p : Bytes) (mw : Fin 2048) (s : State),
    let ends := fun (c : Instr) (t : State) => exec c s = .next t.done
    let z := s.tagFrame
    let st := s.tagState
    let key := s.keyRegs .CTL_TKEY
    let answers := fun (c : Instr) (a : Bytes) => ∃ t, ends c t ∧ t.ctl.answer = some a ∧ t.tagState = st ∧ t.mem = s.mem
    (s.fieldOn = false → (∃ t, ends .fieldOn t ∧ t.fieldOn = true ∧ t.tagState = (if s.ctl.quiet then 6 else 1)) ∧ ends .fieldLoss s
        ∧ (s.ctl.recent = true → ∃ t, ends .fieldOff t ∧ t.ctl.recent = false ∧ t.isExch .field = false))
      ∧ (s.fieldOn = true → ends .fieldOn s ∧ ends .fieldOff s ∧ ∃ t, ends .fieldLoss t ∧ t.fieldOn = false ∧ t.tagState = 0 ∧ t.ctl.session = none)
      ∧ (s.ctl.quiet = true → ∃ t, ends .quietExpiry t ∧ t.ctl.quiet = false ∧ t.tagState = (if s.fieldOn then 1 else 0))
      ∧ (s.ctl.quiet = false → ends .quietExpiry s)
      ∧ (s.flag F.CTL_STAT_LOCKOUT = true → ∃ t, ends .lockoutExpiry t ∧ t.flag F.CTL_STAT_LOCKOUT = false ∧ t.fld F.CTL_STAT_FAILS = 0)
      ∧ (s.flag F.CTL_STAT_LOCKOUT = false → ends .lockoutExpiry s)
      ∧ (s.tagOn = false → ends .reqa z ∧ ends .wupa z ∧ ends (.getId p) z ∧ ends (.auth1 p) z)
      ∧ (s.tagOn = true →
        (st = 1 → (∃ t, ends .reqa t ∧ t.tagState = 2 ∧ t.ctl.answer = some [0x48#8, 0x00#8])
            ∧ ∃ t, ends .wupa t ∧ t.tagState = 2 ∧ t.ctl.answer = some [0x48#8, 0x00#8])
          ∧ (st = 2 ∨ st = 3 → (∃ t, ends .reqa t ∧ t.tagState = 1 ∧ t.ctl.answer = none) ∧ (∃ t, ends .hlta t ∧ t.tagState = 1)
            ∧ (selLevel sel + 1 ≠ st → ∃ t, ends (.anticollision sel known) t ∧ t.tagState = 1 ∧ t.ctl.answer = none)
            ∧ (selLevel sel + 1 = st → let all := airBits (s.tagLevel (selLevel sel))
              known.length ≤ 40 → all.take known.length = known → answers (.anticollision sel known) (airBytes 5 (all.drop known.length))))
          ∧ (st = 2 → ∃ t, ends (.select 0x93#8 ((s.tagLevel 1).take 4)) t ∧ t.tagState = 3 ∧ t.ctl.answer = some [0x04#8])
          ∧ (st = 3 → ∃ t, ends (.select 0x95#8 ((s.tagLevel 2).take 4)) t ∧ t.tagState = 4 ∧ t.ctl.answer = some [0x00#8])
          ∧ (st = 4 ∨ st = 5 → (∃ t, ends .hlta t ∧ t.tagState = 6 ∧ t.ctl.quiet = true ∧ t.ctl.session = none)
            ∧ (s.pwr.vbak = true → answers (.getId []) (0x00#8 :: (s.tagUid ++ [0x01#8]
                ++ (List.range 2).flatMap fun w => beBytes 4 (s.reg .CTL_TIDENT w).toNat)))
            ∧ answers (.getStatus (.own [])) (0x00#8 :: s.tagStatus)
            ∧ (st = 4 → answers (.getStatus (.undefined code p)) [0x07#8])
            ∧ (p ≠ [] → answers (.getId p) [0x06#8] ∧ answers (.getStatus (.own p)) [0x06#8]))
          ∧ (st = 4 →
            (s.tagCond ≤ 2 → answers (.write ⟨p, mw, 0⟩) [0x01#8] ∧ answers (.endSession p) [0x01#8])
            ∧ (s.ctl.session = none → (s.tagCond = 3 → answers (.write ⟨p, mw, 0⟩) [0x03#8] ∧ answers (.endSession p) [0x07#8])
              ∧ (p.length = 3 → s.tagCond ≠ 0 → let o := beNat (p.take 2)
                let n := (p.getD 2 0).toNat
                tagRangeOk o n = true → s.flag F.CTL_HOLD_HOLD_ACT = false →
                (regionsAll (s.reg .CTL_OPENRD).toNat o n = false → answers (.read ⟨p, mw, 0⟩) [0x03#8])
                  ∧ (regionsAll (s.reg .CTL_OPENRD).toNat o n = true → (∀ w, Tab.getD s.ctl.errs w 0 = 0) →
                    answers (.read ⟨p, mw, 0⟩) (0x00#8 :: s.tagBytes o n)
                      ∧ (o < 4 * mw.val + 4 → 4 * mw.val < o + n → ∃ t, ends (.read ⟨p, mw, 2⟩) t ∧ t.ctl.answer = some [0x0A#8] ∧ t.tagState = 4))))
            ∧ (p.length = 17 → p.getD 0 0 = 0#8 → s.tagCond = 3 → s.flag F.CTL_STAT_LOCKOUT = false → s.flag F.CTL_STAT_TKEY_OK = true →
              ∃ t nt, ends (.auth1 p) t ∧ nt.length = 16 ∧ t.ctl.auth = some (p.drop 1, nt) ∧ t.isExch .field = true
                ∧ t.ctl.answer = some (0x00#8 :: (nt ++ macT key s.tagUid (p.drop 1) nt)))
            ∧ (s.tagCond ≤ 2 → p.length = 8 → answers (.auth2 p) [0x01#8])
            ∧ (∀ nr nt, s.ctl.auth = some (nr, nt) → p.length = 8 → s.tagCond = 3 →
              (p = macR key s.tagUid nr nt → ∃ t, ends (.auth2 p) t ∧ t.tagState = 5 ∧ t.fld F.CTL_STAT_FAILS = 0
                  ∧ t.ctl.session = some (smKeys key nr nt) ∧ t.ctl.answer = some (0x00#8 :: macC (smKeys key nr nt) nr nt))
                ∧ (p ≠ macR key s.tagUid nr nt → ∃ t, ends (.auth2 p) t ∧ t.tagState = 4 ∧ t.ctl.answer = some [0x02#8]
                  ∧ t.fld F.CTL_STAT_FAILS = min 4 (s.fld F.CTL_STAT_FAILS + 1))))
          ∧ (st = 5 → s.tagCond ≤ 2 → ∀ x, s.ctl.session = some x → answers (.write ⟨p, mw, 0⟩) [0x01#8] ∧ answers (.endSession p) [0x01#8]
              ∧ answers (.read ⟨p, mw, 0⟩) [0x01#8])
          ∧ (st = 5 → s.tagCond = 3 → ∀ x, s.ctl.session = some x →
            (p.length = 8 → smOpen x 0xB2#8 p = some [] → ∃ t, ends (.endSession p) t ∧ t.tagState = 4 ∧ t.ctl.session = none
                ∧ t.ctl.answer = some (smSeal x []))
              ∧ (11 ≤ p.length → p.length = 11 + (p.getD 2 0).toNat → ∀ q, smOpen x 0xA3#8 p = some q → let o := beNat (q.take 2)
                let n := (p.getD 2 0).toNat
                tagRangeOk o n = true → s.flag F.CTL_HOLD_HOLD_ACT = false → regionsAny (s.reg .CTL_LOCK).toNat o n = false → (∀ w, Tab.getD s.ctl.errs w 0 = 0) →
                ∃ t, ends (.write ⟨p, mw, 0⟩) t ∧ t.tagBytes o n = smCrypt x 0 (q.drop 3) ∧ t.ctl.answer = some (smSeal x []) ∧ t.mem = s.mem)))

/-- Pad, reader and provisioning; errors, watchdogs, telemetry and ageing (R470, R473, R474, R475, R476, R477, R483, R486, R487, R492, R493, R504). HOLD_REQUEST holds the tag memory and its timeout frees it. A poll of the pad records its count; the second in a row above the threshold starts the reader. The reader goes from WUPA to anti-collision, SELECT and GET_ID, tries again after its pauses, and ends its exchange; a PROVISION that waited too long completes. An S3 leads to Roadside; ERR_ACK marks an entry of an earlier cycle handled, and what this cycle has counted in it writes a new entry, or sets ACK_ERR; ERR_REPORT logs. A good kick restarts a watchdog, a bad one and an expiry that is due reset its scope, or wait for the flash with the cores of the scope stopped; 60 s of running clear CONSEC; a snapshot that is due takes the telemetry; the ageing check raises VTARGET. -/
def Obligations.ReaderAndErrors : Prop :=
  ∀ (who : Who) (w info : Word) (count : BitVec 12) (b : Bytes) (source : BitVec 12) (wdt : Fin 4) (env : BootEnv) (temp margin : Half) (s : State),
    s.sysOn = true →
    let ends := fun (c : Instr) (t : State) => exec c s = .next t.done
    let entry := Tab.find s.err.log (bits w.toNat 7 0)
    let counted := s.err.counted.find? fun x => x.1 == bits w.toNat 7 0
    let k := wdt.val
    let z := s.boundary .CTL_PADCFG
    let v := s.setEnv env
    let fired := (v.raise 2 0x23 k).onErr fun e => { e with wdtDue := e.wdtDue.filter (· != k) }
    (s.forCl0 who → (∃ t, ends (.holdRequest who) t ∧ t.flag F.CTL_HOLD_HOLD_ACT = true ∧ t.flag F.CTL_HOLD_REQ = true)
        ∧ (∀ e, entry = some e →
          (e.handled = false → e.age < s.err.cycAge → counted = none → ∃ t, ends (.errAck who w) t
              ∧ Tab.find t.err.log (bits w.toNat 7 0) = some { e with handled := true } ∧ t.regs = s.regs)
            ∧ (∀ x j, e.handled = false → e.age < s.err.cycAge → counted = some x → s.err.nextAge = s.err.cycAge →
              logSlot (Tab.put s.err.log (bits w.toNat 7 0) { e with handled := true, count := x.2.1 }) = some j →
              ∃ t, ends (.errAck who w) t ∧ Tab.find t.err.log j = some { x.2.2 with age := s.err.nextAge }
                ∧ (j ≠ bits w.toNat 7 0 → Tab.find t.err.log (bits w.toNat 7 0) = some { e with handled := true, count := x.2.1 }))
            ∧ (e.handled = true ∨ s.err.cycAge ≤ e.age → ends (.errAck who w) (s.setFld F.ERR_STAT_ACK_ERR 1)))
        ∧ (entry = none → ends (.errAck who w) (s.setFld F.ERR_STAT_ACK_ERR 1))
        ∧ (bits w.toNat 29 28 ≠ 3 → ends (.errReport who w) (s.raise (bits w.toNat 29 28) 0x26 (bits w.toNat 15 0 % 64) (BitVec.ofNat 32 (bits w.toNat 15 0))))
        ∧ (bits w.toNat 29 28 = 3 → ∃ t, ends (.errReport who w) t ∧ t.roadPend.isSome = true)
        ∧ (s.flag F.ERR_WDT_CFG_EN k = false → ends (.wdtKick who wdt w) s)
        ∧ (s.flag F.ERR_WDT_CFG_EN k = true → s.fld F.ERR_WDT_CFG_WIN k = 0 → bits w.toNat 15 0 = 0xA5C3 →
          ∃ t, ends (.wdtKick who wdt w) t ∧ t.fld F.ERR_WDT_STAT_LEFT k = s.wdtTimeout k % 65536 ∧ Tab.find t.err.wdtSub k = none)
        ∧ (s.flag F.ERR_WDT_CFG_EN k = true → bits w.toNat 15 0 ≠ 0xA5C3 → ends (.wdtKick who wdt w) ((s.setFld F.ERR_WDT_STAT_BADKICK 1 k).wdtFire k)))
      ∧ (∀ cl, s.regRight who.val .ERR_REPORT (clusterOfWho (s.actsAs who.val)) true = some cl → cl ≠ 0 → ends (.errReport who w) (s.raise (min 2 (bits w.toNat 29 28)) 0x27 cl (BitVec.ofNat 32 (bits w.toNat 15 0))))
      ∧ (s.flag F.CTL_HOLD_HOLD_ACT = true → ∃ t, ends .holdTimeout t ∧ t.flag F.CTL_HOLD_HOLD_ACT = false)
      ∧ (s.flag F.CTL_HOLD_HOLD_ACT = false → ends .holdTimeout s)
      ∧ (s.ctlMode = 2 ∨ s.ctlMode = 3 → s.cur ≤ 2 → s.pwr.off = false → s.pwr.held = false → s.inRoadside = false → s.flushing = false →
          let high := decide (s.fld F.CTL_PADSTAT_BASELINE + max 1 (s.fld F.CTL_PADCFG_THR) ≤ count.toNat)
          (high = false → ∃ t, ends (.padPoll count) t ∧ t.fld F.CTL_PADSTAT_LAST = count.toNat ∧ t.ctl.padPolls = 0 ∧ t.ctl.reader = s.ctl.reader)
            ∧ (high = true → s.ctl.padPolls = 0 → ∃ t, ends (.padPoll count) t ∧ t.ctl.padPolls = 1 ∧ t.ctl.reader = s.ctl.reader)
            ∧ (high = true → s.ctl.padPolls = 1 → s.ctl.reader = none → s.level ≠ 2 → ends (.padPoll count) (((((z.setFld F.CTL_PADSTAT_LAST count.toNat).onCtl fun x =>
                { x with padPolls := 2 }).setFld F.CTL_PADSTAT_TOUCH 1).wake .pad).publish 217).rdStart))
      ∧ (s.ctl.reader = none ∨ s.ctlRuns = false → ends (.readerAnswer b none) s ∧ ends .readerAnswerTimeout s ∧ ends .carrierRetry s ∧ ends .readerRetry s)
      ∧ (∀ r, s.ctl.reader = some r → s.ctlRuns = true →
          (∀ n, r.phase = .wupa n → (∃ t x, ends (.readerAnswer b none) t ∧ t.ctl.reader = some x ∧ x.phase = .anticol ∧ x.level = 1
                ∧ x.sent = [0x93#8, 0x20#8] ∧ x.known = [])
              ∧ (n < s.scanTries → ∃ t x, ends .readerAnswerTimeout t ∧ t.ctl.reader = some x ∧ x.phase = .pause n)
              ∧ (s.scanTries ≤ n → ∃ t, ends .readerAnswerTimeout t ∧ t.ctl.reader = none ∧ t.flag F.CTL_STAT_READER_ON = false ∧ t.isExch .pad = false))
            ∧ (r.phase = .select → (b.getD 0 0).getLsbD 2 = false → ∃ t x, ends (.readerAnswer b none) t ∧ t.ctl.reader = some x ∧ x.phase = .getId
                ∧ x.uid = r.uid ++ r.sel ∧ x.count = r.count + 1 ∧ x.sent = [0xA0#8])
            ∧ (r.phase = .ending → ∃ t, ends (.readerAnswer b none) t ∧ t.ctl.reader = none ∧ bits (t.reg .CTL_RDRES).toNat 3 0 = 0)
            ∧ (∀ n, r.phase = .pause n → ∃ t x, ends .readerRetry t ∧ t.ctl.reader = some x ∧ x.phase = .wupa (n + 1) ∧ x.sent = [0x52#8])
            ∧ (r.phase = .carrier → s.fieldOn = false → s.ctlMode ≠ 3 → ∃ t x, ends .carrierRetry t ∧ t.ctl.reader = some x ∧ x.phase = .wupa 1
                ∧ t.flag F.CTL_STAT_READER_ON = true))
      ∧ (∀ p, s.ctl.waiting = some p → ∃ t, ends .provisionWaitTimeout t ∧ t.ctl.waiting = none ∧ Tab.find t.hcp.jobs p.job = none)
      ∧ (s.ctl.waiting = none → ends .provisionWaitTimeout s)
      ∧ (∃ t, ends (.s3Error source info) t ∧ t.roadPend.isSome = true)
      ∧ (s.err.wdtDue.contains k = false → ends (.watchdogExpiry wdt env) v)
      ∧ (s.err.wdtDue.contains k = true →
          (2 ≤ k → ends (.watchdogExpiry wdt env) ((fired.setFld (if k = 2 then F.SYSCTL_RSTCAUSE_CL1_WDT else F.SYSCTL_RSTCAUSE_CL2_WDT) 1).clusterReset
              (k - 1)))
            ∧ (k < 2 → s.resetHeld = false → ends (.watchdogExpiry wdt env) (fired.consecUp.warmBoot [F.SYSCTL_RSTCAUSE_WDT]))
            ∧ (k < 2 → s.resetHeld = true → ∃ t, ends (.watchdogExpiry wdt env) t ∧ t.flag F.ERR_WDT_STAT_HELD k = true ∧ t.err.held.contains k = true
                ∧ t.flag F.SYSCTL_RSTCAUSE_WDT = true ∧ t.pwr.env = env ∧ (∀ c, c < 24 → k = 0 ∨ c < 8 → t.core.halted.contains c = true)))
      ∧ (s.err.held ≠ [] → s.pulseRuns = false → ends (.heldResetTaken env) (v.consecUp.warmBoot [F.SYSCTL_RSTCAUSE_WDT]))
      ∧ (s.err.held = [] ∨ s.pulseRuns = true → ends (.heldResetTaken env) v)
      ∧ (s.pwr.up = true → s.flag F.SYSCTL_BOOTSTAT_ROM_RESP = false → ends .consecClear (s.setFld F.ERR_STAT_CONSEC 0))
      ∧ (s.snapWanted = false → ends (.telemetrySnapshot temp margin) s)
      ∧ (s.snapWanted = true → ∃ t, ends (.telemetrySnapshot temp margin) t ∧ t.reg .ERR_TEL 0 = s.reg .ERR_TEL 0 + 1 ∧ t.reg .ERR_TEL 1 = s.ntSec
          ∧ t.reg .ERR_TEL 15 = margin.zeroExtend 32 ∧ t.err.snapDue = false ∧ t.snapWanted = false ∧ t.mem = s.mem)
      ∧ (40 ≤ sgn 16 (bits (s.reg .ERR_TEL 15).toNat 15 0) → ends .ageingCheck s)
      ∧ (s.inRoadside = false → sgn 16 (bits (s.reg .ERR_TEL 15).toNat 15 0) < 40 → s.fld F.PMB_VREQ_VTARGET < 170 →
          ∃ t, ends .ageingCheck t ∧ t.regs = (s.vreqWrite (BitVec.ofNat 32 (s.fld F.PMB_VREQ_VTARGET + 1))).regs)
      ∧ (s.inRoadside = false → sgn 16 (bits (s.reg .ERR_TEL 15).toNat 15 0) < 40 → 170 ≤ s.fld F.PMB_VREQ_VTARGET →
          ends .ageingCheck (s.raise 2 0x26 0))

/-- The last write before a boundary takes effect (R12). For every register, and every bit of it that is AT-BOUNDARY, written by RW access and not locked: after two writes, made while the block runs or not, the value in force of the bit is what it was before them; once the boundary comes, it is the bit of the second write, whatever the first one held. -/
def Obligations.LastWriteBeforeBoundary : Prop :=
  ∀ (r : RegName) (n : Nat) (running : Bool) (w1 w2 : Word) (s : State), wlockOf r n ≠ some (r, n) →
    ∀ i < 32, (regRow r).boundary.getLsbD i = true → (regRow r).rw.getLsbD i = true → (regRow r).locked.getLsbD i = false →
      let u := (s.regStore r n running w1).regStore r n running w2
      (u.inReg r n).getLsbD i = (s.inReg r n).getLsbD i ∧ ((u.boundary r n).inReg r n).getLsbD i = w2.getLsbD i

/-- Consumers of a cluster at its reset (R373). CLUSTER_RESET of CL1 or of CL2 by CL0 completes, with the reset of that cluster. In it every core of the cluster loses its PEND bits, and every consumer that the cluster owns loses its OVR flag and has its COAL count at 0; every publication and every subscription, of that cluster and of the others, is as before. -/
def Obligations.ClusterResetConsumers : Prop :=
  ∀ (who : Who) (cl : Nat) (s : State), s.sysOn = true → s.forCl0 who → cl = 1 ∨ cl = 2 →
    let t := s.clusterReset cl
    exec (.clusterReset who (cl == 1) (cl == 2)) s = .next t.done
      ∧ (∀ c, c < 24 → clusterOf c = cl → t.fld F.EVF_CORE_PEND_PEND c = 0)
      ∧ (∀ c, c < 320 → s.consOwner c = cl → t.flag F.EVF_CSTAT_OVR c = false ∧ t.fld F.EVF_CSTAT_COAL c = 0)
      ∧ (∀ n, t.reg .EVF_PUB n = s.reg .EVF_PUB n ∧ t.reg .EVF_SUB n = s.reg .EVF_SUB n)
end

