-- ==== Sys2Proof/Laws/State.lean ====
section
/-! SUPPORT. What each update of the state leaves in each field: one lemma for each pair, true by unfolding. -/

namespace Sys2Proof.Machine

/-! ### setReg -/

@[simp] theorem State.setReg_cyc (s : State) (r : RegName) (n : Nat) (v : Word) : (s.setReg r n v).cyc = s.cyc := rfl
@[simp] theorem State.setReg_free (s : State) (r : RegName) (n : Nat) (v : Word) : (s.setReg r n v).free = s.free := rfl
@[simp] theorem State.setReg_regs (s : State) (r : RegName) (n : Nat) (v : Word) : (s.setReg r n v).regs = Tab.putD s.regs (r.key n) (regReset r n) v := rfl
@[simp] theorem State.setReg_held (s : State) (r : RegName) (n : Nat) (v : Word) : (s.setReg r n v).held = s.held := rfl
@[simp] theorem State.setReg_was (s : State) (r : RegName) (n : Nat) (v : Word) : (s.setReg r n v).was = s.was := rfl
@[simp] theorem State.setReg_busyWas (s : State) (r : RegName) (n : Nat) (v : Word) : (s.setReg r n v).busyWas = s.busyWas := rfl
@[simp] theorem State.setReg_raised (s : State) (r : RegName) (n : Nat) (v : Word) : (s.setReg r n v).raised = s.raised := rfl
@[simp] theorem State.setReg_mem (s : State) (r : RegName) (n : Nat) (v : Word) : (s.setReg r n v).mem = s.mem := rfl
@[simp] theorem State.setReg_err (s : State) (r : RegName) (n : Nat) (v : Word) : (s.setReg r n v).err = s.err := rfl
@[simp] theorem State.setReg_evf (s : State) (r : RegName) (n : Nat) (v : Word) : (s.setReg r n v).evf = s.evf := rfl
@[simp] theorem State.setReg_hcp (s : State) (r : RegName) (n : Nat) (v : Word) : (s.setReg r n v).hcp = s.hcp := rfl
@[simp] theorem State.setReg_core (s : State) (r : RegName) (n : Nat) (v : Word) : (s.setReg r n v).core = s.core := rfl
@[simp] theorem State.setReg_ntc (s : State) (r : RegName) (n : Nat) (v : Word) : (s.setReg r n v).ntc = s.ntc := rfl
@[simp] theorem State.setReg_tmr (s : State) (r : RegName) (n : Nat) (v : Word) : (s.setReg r n v).tmr = s.tmr := rfl
@[simp] theorem State.setReg_rtc (s : State) (r : RegName) (n : Nat) (v : Word) : (s.setReg r n v).rtc = s.rtc := rfl
@[simp] theorem State.setReg_flc (s : State) (r : RegName) (n : Nat) (v : Word) : (s.setReg r n v).flc = s.flc := rfl
@[simp] theorem State.setReg_otp (s : State) (r : RegName) (n : Nat) (v : Word) : (s.setReg r n v).otp = s.otp := rfl
@[simp] theorem State.setReg_sram (s : State) (r : RegName) (n : Nat) (v : Word) : (s.setReg r n v).sram = s.sram := rfl
@[simp] theorem State.setReg_dmc (s : State) (r : RegName) (n : Nat) (v : Word) : (s.setReg r n v).dmc = s.dmc := rfl
@[simp] theorem State.setReg_rf (s : State) (r : RegName) (n : Nat) (v : Word) : (s.setReg r n v).rf = s.rf := rfl
@[simp] theorem State.setReg_txp (s : State) (r : RegName) (n : Nat) (v : Word) : (s.setReg r n v).txp = s.txp := rfl
@[simp] theorem State.setReg_frm (s : State) (r : RegName) (n : Nat) (v : Word) : (s.setReg r n v).frm = s.frm := rfl
@[simp] theorem State.setReg_msu (s : State) (r : RegName) (n : Nat) (v : Word) : (s.setReg r n v).msu = s.msu := rfl
@[simp] theorem State.setReg_sched (s : State) (r : RegName) (n : Nat) (v : Word) : (s.setReg r n v).sched = s.sched := rfl
@[simp] theorem State.setReg_lp (s : State) (r : RegName) (n : Nat) (v : Word) : (s.setReg r n v).lp = s.lp := rfl
@[simp] theorem State.setReg_pwr (s : State) (r : RegName) (n : Nat) (v : Word) : (s.setReg r n v).pwr = s.pwr := rfl
@[simp] theorem State.setReg_ctl (s : State) (r : RegName) (n : Nat) (v : Word) : (s.setReg r n v).ctl = s.ctl := rfl
@[simp] theorem State.setReg_vinLow (s : State) (r : RegName) (n : Nat) (v : Word) : (s.setReg r n v).vinLow = s.vinLow := rfl
@[simp] theorem State.setReg_roadPend (s : State) (r : RegName) (n : Nat) (v : Word) : (s.setReg r n v).roadPend = s.roadPend := rfl
@[simp] theorem State.setReg_pending (s : State) (r : RegName) (n : Nat) (v : Word) : (s.setReg r n v).pending = s.pending := rfl

/-! ### boundary -/

@[simp] theorem State.boundary_cyc (s : State) (r : RegName) (n : Nat) : (s.boundary r n).cyc = s.cyc := rfl
@[simp] theorem State.boundary_free (s : State) (r : RegName) (n : Nat) : (s.boundary r n).free = s.free := rfl
@[simp] theorem State.boundary_regs (s : State) (r : RegName) (n : Nat) : (s.boundary r n).regs = s.regs := rfl
@[simp] theorem State.boundary_held (s : State) (r : RegName) (n : Nat) : (s.boundary r n).held = Tab.del s.held (r.key n) := rfl
@[simp] theorem State.boundary_was (s : State) (r : RegName) (n : Nat) : (s.boundary r n).was = s.was := rfl
@[simp] theorem State.boundary_busyWas (s : State) (r : RegName) (n : Nat) : (s.boundary r n).busyWas = s.busyWas := rfl
@[simp] theorem State.boundary_raised (s : State) (r : RegName) (n : Nat) : (s.boundary r n).raised = s.raised := rfl
@[simp] theorem State.boundary_mem (s : State) (r : RegName) (n : Nat) : (s.boundary r n).mem = s.mem := rfl
@[simp] theorem State.boundary_err (s : State) (r : RegName) (n : Nat) : (s.boundary r n).err = s.err := rfl
@[simp] theorem State.boundary_evf (s : State) (r : RegName) (n : Nat) : (s.boundary r n).evf = s.evf := rfl
@[simp] theorem State.boundary_hcp (s : State) (r : RegName) (n : Nat) : (s.boundary r n).hcp = s.hcp := rfl
@[simp] theorem State.boundary_core (s : State) (r : RegName) (n : Nat) : (s.boundary r n).core = s.core := rfl
@[simp] theorem State.boundary_ntc (s : State) (r : RegName) (n : Nat) : (s.boundary r n).ntc = s.ntc := rfl
@[simp] theorem State.boundary_tmr (s : State) (r : RegName) (n : Nat) : (s.boundary r n).tmr = s.tmr := rfl
@[simp] theorem State.boundary_rtc (s : State) (r : RegName) (n : Nat) : (s.boundary r n).rtc = s.rtc := rfl
@[simp] theorem State.boundary_flc (s : State) (r : RegName) (n : Nat) : (s.boundary r n).flc = s.flc := rfl
@[simp] theorem State.boundary_otp (s : State) (r : RegName) (n : Nat) : (s.boundary r n).otp = s.otp := rfl
@[simp] theorem State.boundary_sram (s : State) (r : RegName) (n : Nat) : (s.boundary r n).sram = s.sram := rfl
@[simp] theorem State.boundary_dmc (s : State) (r : RegName) (n : Nat) : (s.boundary r n).dmc = s.dmc := rfl
@[simp] theorem State.boundary_rf (s : State) (r : RegName) (n : Nat) : (s.boundary r n).rf = s.rf := rfl
@[simp] theorem State.boundary_txp (s : State) (r : RegName) (n : Nat) : (s.boundary r n).txp = s.txp := rfl
@[simp] theorem State.boundary_frm (s : State) (r : RegName) (n : Nat) : (s.boundary r n).frm = s.frm := rfl
@[simp] theorem State.boundary_msu (s : State) (r : RegName) (n : Nat) : (s.boundary r n).msu = s.msu := rfl
@[simp] theorem State.boundary_sched (s : State) (r : RegName) (n : Nat) : (s.boundary r n).sched = s.sched := rfl
@[simp] theorem State.boundary_lp (s : State) (r : RegName) (n : Nat) : (s.boundary r n).lp = s.lp := rfl
@[simp] theorem State.boundary_pwr (s : State) (r : RegName) (n : Nat) : (s.boundary r n).pwr = s.pwr := rfl
@[simp] theorem State.boundary_ctl (s : State) (r : RegName) (n : Nat) : (s.boundary r n).ctl = s.ctl := rfl
@[simp] theorem State.boundary_vinLow (s : State) (r : RegName) (n : Nat) : (s.boundary r n).vinLow = s.vinLow := rfl
@[simp] theorem State.boundary_roadPend (s : State) (r : RegName) (n : Nat) : (s.boundary r n).roadPend = s.roadPend := rfl
@[simp] theorem State.boundary_pending (s : State) (r : RegName) (n : Nat) : (s.boundary r n).pending = s.pending := rfl

/-! ### setByte -/

@[simp] theorem State.setByte_cyc (s : State) (a : Nat) (b : Byte) : (s.setByte a b).cyc = s.cyc := rfl
@[simp] theorem State.setByte_free (s : State) (a : Nat) (b : Byte) : (s.setByte a b).free = s.free := rfl
@[simp] theorem State.setByte_regs (s : State) (a : Nat) (b : Byte) : (s.setByte a b).regs = s.regs := rfl
@[simp] theorem State.setByte_held (s : State) (a : Nat) (b : Byte) : (s.setByte a b).held = s.held := rfl
@[simp] theorem State.setByte_was (s : State) (a : Nat) (b : Byte) : (s.setByte a b).was = s.was := rfl
@[simp] theorem State.setByte_busyWas (s : State) (a : Nat) (b : Byte) : (s.setByte a b).busyWas = s.busyWas := rfl
@[simp] theorem State.setByte_raised (s : State) (a : Nat) (b : Byte) : (s.setByte a b).raised = s.raised := rfl
@[simp] theorem State.setByte_mem (s : State) (a : Nat) (b : Byte) : (s.setByte a b).mem = Tab.putD s.mem a (memDefault a) b := rfl
@[simp] theorem State.setByte_err (s : State) (a : Nat) (b : Byte) : (s.setByte a b).err = s.err := rfl
@[simp] theorem State.setByte_evf (s : State) (a : Nat) (b : Byte) : (s.setByte a b).evf = s.evf := rfl
@[simp] theorem State.setByte_hcp (s : State) (a : Nat) (b : Byte) : (s.setByte a b).hcp = s.hcp := rfl
@[simp] theorem State.setByte_core (s : State) (a : Nat) (b : Byte) : (s.setByte a b).core = s.core := rfl
@[simp] theorem State.setByte_ntc (s : State) (a : Nat) (b : Byte) : (s.setByte a b).ntc = s.ntc := rfl
@[simp] theorem State.setByte_tmr (s : State) (a : Nat) (b : Byte) : (s.setByte a b).tmr = s.tmr := rfl
@[simp] theorem State.setByte_rtc (s : State) (a : Nat) (b : Byte) : (s.setByte a b).rtc = s.rtc := rfl
@[simp] theorem State.setByte_flc (s : State) (a : Nat) (b : Byte) : (s.setByte a b).flc = s.flc := rfl
@[simp] theorem State.setByte_otp (s : State) (a : Nat) (b : Byte) : (s.setByte a b).otp = s.otp := rfl
@[simp] theorem State.setByte_sram (s : State) (a : Nat) (b : Byte) : (s.setByte a b).sram = s.sram := rfl
@[simp] theorem State.setByte_dmc (s : State) (a : Nat) (b : Byte) : (s.setByte a b).dmc = s.dmc := rfl
@[simp] theorem State.setByte_rf (s : State) (a : Nat) (b : Byte) : (s.setByte a b).rf = s.rf := rfl
@[simp] theorem State.setByte_txp (s : State) (a : Nat) (b : Byte) : (s.setByte a b).txp = s.txp := rfl
@[simp] theorem State.setByte_frm (s : State) (a : Nat) (b : Byte) : (s.setByte a b).frm = s.frm := rfl
@[simp] theorem State.setByte_msu (s : State) (a : Nat) (b : Byte) : (s.setByte a b).msu = s.msu := rfl
@[simp] theorem State.setByte_sched (s : State) (a : Nat) (b : Byte) : (s.setByte a b).sched = s.sched := rfl
@[simp] theorem State.setByte_lp (s : State) (a : Nat) (b : Byte) : (s.setByte a b).lp = s.lp := rfl
@[simp] theorem State.setByte_pwr (s : State) (a : Nat) (b : Byte) : (s.setByte a b).pwr = s.pwr := rfl
@[simp] theorem State.setByte_ctl (s : State) (a : Nat) (b : Byte) : (s.setByte a b).ctl = s.ctl := rfl
@[simp] theorem State.setByte_vinLow (s : State) (a : Nat) (b : Byte) : (s.setByte a b).vinLow = s.vinLow := rfl
@[simp] theorem State.setByte_roadPend (s : State) (a : Nat) (b : Byte) : (s.setByte a b).roadPend = s.roadPend := rfl
@[simp] theorem State.setByte_pending (s : State) (a : Nat) (b : Byte) : (s.setByte a b).pending = s.pending := rfl

/-! ### clearMem -/

@[simp] theorem State.clearMem_cyc (s : State) (a n : Nat) : (s.clearMem a n).cyc = s.cyc := rfl
@[simp] theorem State.clearMem_free (s : State) (a n : Nat) : (s.clearMem a n).free = s.free := rfl
@[simp] theorem State.clearMem_regs (s : State) (a n : Nat) : (s.clearMem a n).regs = s.regs := rfl
@[simp] theorem State.clearMem_held (s : State) (a n : Nat) : (s.clearMem a n).held = s.held := rfl
@[simp] theorem State.clearMem_was (s : State) (a n : Nat) : (s.clearMem a n).was = s.was := rfl
@[simp] theorem State.clearMem_busyWas (s : State) (a n : Nat) : (s.clearMem a n).busyWas = s.busyWas := rfl
@[simp] theorem State.clearMem_raised (s : State) (a n : Nat) : (s.clearMem a n).raised = s.raised := rfl
@[simp] theorem State.clearMem_err (s : State) (a n : Nat) : (s.clearMem a n).err = s.err := rfl
@[simp] theorem State.clearMem_evf (s : State) (a n : Nat) : (s.clearMem a n).evf = s.evf := rfl
@[simp] theorem State.clearMem_hcp (s : State) (a n : Nat) : (s.clearMem a n).hcp = s.hcp := rfl
@[simp] theorem State.clearMem_core (s : State) (a n : Nat) : (s.clearMem a n).core = s.core := rfl
@[simp] theorem State.clearMem_ntc (s : State) (a n : Nat) : (s.clearMem a n).ntc = s.ntc := rfl
@[simp] theorem State.clearMem_tmr (s : State) (a n : Nat) : (s.clearMem a n).tmr = s.tmr := rfl
@[simp] theorem State.clearMem_rtc (s : State) (a n : Nat) : (s.clearMem a n).rtc = s.rtc := rfl
@[simp] theorem State.clearMem_flc (s : State) (a n : Nat) : (s.clearMem a n).flc = s.flc := rfl
@[simp] theorem State.clearMem_otp (s : State) (a n : Nat) : (s.clearMem a n).otp = s.otp := rfl
@[simp] theorem State.clearMem_sram (s : State) (a n : Nat) : (s.clearMem a n).sram = s.sram := rfl
@[simp] theorem State.clearMem_dmc (s : State) (a n : Nat) : (s.clearMem a n).dmc = s.dmc := rfl
@[simp] theorem State.clearMem_rf (s : State) (a n : Nat) : (s.clearMem a n).rf = s.rf := rfl
@[simp] theorem State.clearMem_txp (s : State) (a n : Nat) : (s.clearMem a n).txp = s.txp := rfl
@[simp] theorem State.clearMem_frm (s : State) (a n : Nat) : (s.clearMem a n).frm = s.frm := rfl
@[simp] theorem State.clearMem_msu (s : State) (a n : Nat) : (s.clearMem a n).msu = s.msu := rfl
@[simp] theorem State.clearMem_sched (s : State) (a n : Nat) : (s.clearMem a n).sched = s.sched := rfl
@[simp] theorem State.clearMem_lp (s : State) (a n : Nat) : (s.clearMem a n).lp = s.lp := rfl
@[simp] theorem State.clearMem_pwr (s : State) (a n : Nat) : (s.clearMem a n).pwr = s.pwr := rfl
@[simp] theorem State.clearMem_ctl (s : State) (a n : Nat) : (s.clearMem a n).ctl = s.ctl := rfl
@[simp] theorem State.clearMem_vinLow (s : State) (a n : Nat) : (s.clearMem a n).vinLow = s.vinLow := rfl
@[simp] theorem State.clearMem_roadPend (s : State) (a n : Nat) : (s.clearMem a n).roadPend = s.roadPend := rfl
@[simp] theorem State.clearMem_pending (s : State) (a n : Nat) : (s.clearMem a n).pending = s.pending := rfl

/-! ### setAcc -/

@[simp] theorem State.setAcc_cyc (s : State) (c k : Nat) (v : Accu) : (s.setAcc c k v).cyc = s.cyc := rfl
@[simp] theorem State.setAcc_free (s : State) (c k : Nat) (v : Accu) : (s.setAcc c k v).free = s.free := rfl
@[simp] theorem State.setAcc_regs (s : State) (c k : Nat) (v : Accu) : (s.setAcc c k v).regs = s.regs := rfl
@[simp] theorem State.setAcc_held (s : State) (c k : Nat) (v : Accu) : (s.setAcc c k v).held = s.held := rfl
@[simp] theorem State.setAcc_was (s : State) (c k : Nat) (v : Accu) : (s.setAcc c k v).was = s.was := rfl
@[simp] theorem State.setAcc_busyWas (s : State) (c k : Nat) (v : Accu) : (s.setAcc c k v).busyWas = s.busyWas := rfl
@[simp] theorem State.setAcc_raised (s : State) (c k : Nat) (v : Accu) : (s.setAcc c k v).raised = s.raised := rfl
@[simp] theorem State.setAcc_mem (s : State) (c k : Nat) (v : Accu) : (s.setAcc c k v).mem = s.mem := rfl
@[simp] theorem State.setAcc_err (s : State) (c k : Nat) (v : Accu) : (s.setAcc c k v).err = s.err := rfl
@[simp] theorem State.setAcc_evf (s : State) (c k : Nat) (v : Accu) : (s.setAcc c k v).evf = s.evf := rfl
@[simp] theorem State.setAcc_hcp (s : State) (c k : Nat) (v : Accu) : (s.setAcc c k v).hcp = s.hcp := rfl
@[simp] theorem State.setAcc_ntc (s : State) (c k : Nat) (v : Accu) : (s.setAcc c k v).ntc = s.ntc := rfl
@[simp] theorem State.setAcc_tmr (s : State) (c k : Nat) (v : Accu) : (s.setAcc c k v).tmr = s.tmr := rfl
@[simp] theorem State.setAcc_rtc (s : State) (c k : Nat) (v : Accu) : (s.setAcc c k v).rtc = s.rtc := rfl
@[simp] theorem State.setAcc_flc (s : State) (c k : Nat) (v : Accu) : (s.setAcc c k v).flc = s.flc := rfl
@[simp] theorem State.setAcc_otp (s : State) (c k : Nat) (v : Accu) : (s.setAcc c k v).otp = s.otp := rfl
@[simp] theorem State.setAcc_sram (s : State) (c k : Nat) (v : Accu) : (s.setAcc c k v).sram = s.sram := rfl
@[simp] theorem State.setAcc_dmc (s : State) (c k : Nat) (v : Accu) : (s.setAcc c k v).dmc = s.dmc := rfl
@[simp] theorem State.setAcc_rf (s : State) (c k : Nat) (v : Accu) : (s.setAcc c k v).rf = s.rf := rfl
@[simp] theorem State.setAcc_txp (s : State) (c k : Nat) (v : Accu) : (s.setAcc c k v).txp = s.txp := rfl
@[simp] theorem State.setAcc_frm (s : State) (c k : Nat) (v : Accu) : (s.setAcc c k v).frm = s.frm := rfl
@[simp] theorem State.setAcc_msu (s : State) (c k : Nat) (v : Accu) : (s.setAcc c k v).msu = s.msu := rfl
@[simp] theorem State.setAcc_sched (s : State) (c k : Nat) (v : Accu) : (s.setAcc c k v).sched = s.sched := rfl
@[simp] theorem State.setAcc_lp (s : State) (c k : Nat) (v : Accu) : (s.setAcc c k v).lp = s.lp := rfl
@[simp] theorem State.setAcc_pwr (s : State) (c k : Nat) (v : Accu) : (s.setAcc c k v).pwr = s.pwr := rfl
@[simp] theorem State.setAcc_ctl (s : State) (c k : Nat) (v : Accu) : (s.setAcc c k v).ctl = s.ctl := rfl
@[simp] theorem State.setAcc_vinLow (s : State) (c k : Nat) (v : Accu) : (s.setAcc c k v).vinLow = s.vinLow := rfl
@[simp] theorem State.setAcc_roadPend (s : State) (c k : Nat) (v : Accu) : (s.setAcc c k v).roadPend = s.roadPend := rfl
@[simp] theorem State.setAcc_pending (s : State) (c k : Nat) (v : Accu) : (s.setAcc c k v).pending = s.pending := rfl

/-! ### setPc -/

@[simp] theorem State.setPc_cyc (s : State) (c : Nat) (v : Word) : (s.setPc c v).cyc = s.cyc := rfl
@[simp] theorem State.setPc_free (s : State) (c : Nat) (v : Word) : (s.setPc c v).free = s.free := rfl
@[simp] theorem State.setPc_regs (s : State) (c : Nat) (v : Word) : (s.setPc c v).regs = s.regs := rfl
@[simp] theorem State.setPc_held (s : State) (c : Nat) (v : Word) : (s.setPc c v).held = s.held := rfl
@[simp] theorem State.setPc_was (s : State) (c : Nat) (v : Word) : (s.setPc c v).was = s.was := rfl
@[simp] theorem State.setPc_busyWas (s : State) (c : Nat) (v : Word) : (s.setPc c v).busyWas = s.busyWas := rfl
@[simp] theorem State.setPc_raised (s : State) (c : Nat) (v : Word) : (s.setPc c v).raised = s.raised := rfl
@[simp] theorem State.setPc_mem (s : State) (c : Nat) (v : Word) : (s.setPc c v).mem = s.mem := rfl
@[simp] theorem State.setPc_err (s : State) (c : Nat) (v : Word) : (s.setPc c v).err = s.err := rfl
@[simp] theorem State.setPc_evf (s : State) (c : Nat) (v : Word) : (s.setPc c v).evf = s.evf := rfl
@[simp] theorem State.setPc_hcp (s : State) (c : Nat) (v : Word) : (s.setPc c v).hcp = s.hcp := rfl
@[simp] theorem State.setPc_ntc (s : State) (c : Nat) (v : Word) : (s.setPc c v).ntc = s.ntc := rfl
@[simp] theorem State.setPc_tmr (s : State) (c : Nat) (v : Word) : (s.setPc c v).tmr = s.tmr := rfl
@[simp] theorem State.setPc_rtc (s : State) (c : Nat) (v : Word) : (s.setPc c v).rtc = s.rtc := rfl
@[simp] theorem State.setPc_flc (s : State) (c : Nat) (v : Word) : (s.setPc c v).flc = s.flc := rfl
@[simp] theorem State.setPc_otp (s : State) (c : Nat) (v : Word) : (s.setPc c v).otp = s.otp := rfl
@[simp] theorem State.setPc_sram (s : State) (c : Nat) (v : Word) : (s.setPc c v).sram = s.sram := rfl
@[simp] theorem State.setPc_dmc (s : State) (c : Nat) (v : Word) : (s.setPc c v).dmc = s.dmc := rfl
@[simp] theorem State.setPc_rf (s : State) (c : Nat) (v : Word) : (s.setPc c v).rf = s.rf := rfl
@[simp] theorem State.setPc_txp (s : State) (c : Nat) (v : Word) : (s.setPc c v).txp = s.txp := rfl
@[simp] theorem State.setPc_frm (s : State) (c : Nat) (v : Word) : (s.setPc c v).frm = s.frm := rfl
@[simp] theorem State.setPc_msu (s : State) (c : Nat) (v : Word) : (s.setPc c v).msu = s.msu := rfl
@[simp] theorem State.setPc_sched (s : State) (c : Nat) (v : Word) : (s.setPc c v).sched = s.sched := rfl
@[simp] theorem State.setPc_lp (s : State) (c : Nat) (v : Word) : (s.setPc c v).lp = s.lp := rfl
@[simp] theorem State.setPc_pwr (s : State) (c : Nat) (v : Word) : (s.setPc c v).pwr = s.pwr := rfl
@[simp] theorem State.setPc_ctl (s : State) (c : Nat) (v : Word) : (s.setPc c v).ctl = s.ctl := rfl
@[simp] theorem State.setPc_vinLow (s : State) (c : Nat) (v : Word) : (s.setPc c v).vinLow = s.vinLow := rfl
@[simp] theorem State.setPc_roadPend (s : State) (c : Nat) (v : Word) : (s.setPc c v).roadPend = s.roadPend := rfl
@[simp] theorem State.setPc_pending (s : State) (c : Nat) (v : Word) : (s.setPc c v).pending = s.pending := rfl

/-! ### halt -/

@[simp] theorem State.halt_cyc (s : State) (c : Nat) : (s.halt c).cyc = s.cyc := rfl
@[simp] theorem State.halt_free (s : State) (c : Nat) : (s.halt c).free = s.free := rfl
@[simp] theorem State.halt_regs (s : State) (c : Nat) : (s.halt c).regs = s.regs := rfl
@[simp] theorem State.halt_held (s : State) (c : Nat) : (s.halt c).held = s.held := rfl
@[simp] theorem State.halt_was (s : State) (c : Nat) : (s.halt c).was = s.was := rfl
@[simp] theorem State.halt_busyWas (s : State) (c : Nat) : (s.halt c).busyWas = s.busyWas := rfl
@[simp] theorem State.halt_raised (s : State) (c : Nat) : (s.halt c).raised = s.raised := rfl
@[simp] theorem State.halt_mem (s : State) (c : Nat) : (s.halt c).mem = s.mem := rfl
@[simp] theorem State.halt_err (s : State) (c : Nat) : (s.halt c).err = s.err := rfl
@[simp] theorem State.halt_evf (s : State) (c : Nat) : (s.halt c).evf = s.evf := rfl
@[simp] theorem State.halt_hcp (s : State) (c : Nat) : (s.halt c).hcp = s.hcp := rfl
@[simp] theorem State.halt_ntc (s : State) (c : Nat) : (s.halt c).ntc = s.ntc := rfl
@[simp] theorem State.halt_tmr (s : State) (c : Nat) : (s.halt c).tmr = s.tmr := rfl
@[simp] theorem State.halt_rtc (s : State) (c : Nat) : (s.halt c).rtc = s.rtc := rfl
@[simp] theorem State.halt_flc (s : State) (c : Nat) : (s.halt c).flc = s.flc := rfl
@[simp] theorem State.halt_otp (s : State) (c : Nat) : (s.halt c).otp = s.otp := rfl
@[simp] theorem State.halt_sram (s : State) (c : Nat) : (s.halt c).sram = s.sram := rfl
@[simp] theorem State.halt_dmc (s : State) (c : Nat) : (s.halt c).dmc = s.dmc := rfl
@[simp] theorem State.halt_rf (s : State) (c : Nat) : (s.halt c).rf = s.rf := rfl
@[simp] theorem State.halt_txp (s : State) (c : Nat) : (s.halt c).txp = s.txp := rfl
@[simp] theorem State.halt_frm (s : State) (c : Nat) : (s.halt c).frm = s.frm := rfl
@[simp] theorem State.halt_msu (s : State) (c : Nat) : (s.halt c).msu = s.msu := rfl
@[simp] theorem State.halt_sched (s : State) (c : Nat) : (s.halt c).sched = s.sched := rfl
@[simp] theorem State.halt_lp (s : State) (c : Nat) : (s.halt c).lp = s.lp := rfl
@[simp] theorem State.halt_pwr (s : State) (c : Nat) : (s.halt c).pwr = s.pwr := rfl
@[simp] theorem State.halt_ctl (s : State) (c : Nat) : (s.halt c).ctl = s.ctl := rfl
@[simp] theorem State.halt_vinLow (s : State) (c : Nat) : (s.halt c).vinLow = s.vinLow := rfl
@[simp] theorem State.halt_roadPend (s : State) (c : Nat) : (s.halt c).roadPend = s.roadPend := rfl
@[simp] theorem State.halt_pending (s : State) (c : Nat) : (s.halt c).pending = s.pending := rfl

/-! ### onErr -/

@[simp] theorem State.onErr_cyc (s : State) (f : ErrState → ErrState) : (s.onErr f).cyc = s.cyc := rfl
@[simp] theorem State.onErr_free (s : State) (f : ErrState → ErrState) : (s.onErr f).free = s.free := rfl
@[simp] theorem State.onErr_regs (s : State) (f : ErrState → ErrState) : (s.onErr f).regs = s.regs := rfl
@[simp] theorem State.onErr_held (s : State) (f : ErrState → ErrState) : (s.onErr f).held = s.held := rfl
@[simp] theorem State.onErr_was (s : State) (f : ErrState → ErrState) : (s.onErr f).was = s.was := rfl
@[simp] theorem State.onErr_busyWas (s : State) (f : ErrState → ErrState) : (s.onErr f).busyWas = s.busyWas := rfl
@[simp] theorem State.onErr_raised (s : State) (f : ErrState → ErrState) : (s.onErr f).raised = s.raised := rfl
@[simp] theorem State.onErr_mem (s : State) (f : ErrState → ErrState) : (s.onErr f).mem = s.mem := rfl
@[simp] theorem State.onErr_err (s : State) (f : ErrState → ErrState) : (s.onErr f).err = f s.err := rfl
@[simp] theorem State.onErr_evf (s : State) (f : ErrState → ErrState) : (s.onErr f).evf = s.evf := rfl
@[simp] theorem State.onErr_hcp (s : State) (f : ErrState → ErrState) : (s.onErr f).hcp = s.hcp := rfl
@[simp] theorem State.onErr_core (s : State) (f : ErrState → ErrState) : (s.onErr f).core = s.core := rfl
@[simp] theorem State.onErr_ntc (s : State) (f : ErrState → ErrState) : (s.onErr f).ntc = s.ntc := rfl
@[simp] theorem State.onErr_tmr (s : State) (f : ErrState → ErrState) : (s.onErr f).tmr = s.tmr := rfl
@[simp] theorem State.onErr_rtc (s : State) (f : ErrState → ErrState) : (s.onErr f).rtc = s.rtc := rfl
@[simp] theorem State.onErr_flc (s : State) (f : ErrState → ErrState) : (s.onErr f).flc = s.flc := rfl
@[simp] theorem State.onErr_otp (s : State) (f : ErrState → ErrState) : (s.onErr f).otp = s.otp := rfl
@[simp] theorem State.onErr_sram (s : State) (f : ErrState → ErrState) : (s.onErr f).sram = s.sram := rfl
@[simp] theorem State.onErr_dmc (s : State) (f : ErrState → ErrState) : (s.onErr f).dmc = s.dmc := rfl
@[simp] theorem State.onErr_rf (s : State) (f : ErrState → ErrState) : (s.onErr f).rf = s.rf := rfl
@[simp] theorem State.onErr_txp (s : State) (f : ErrState → ErrState) : (s.onErr f).txp = s.txp := rfl
@[simp] theorem State.onErr_frm (s : State) (f : ErrState → ErrState) : (s.onErr f).frm = s.frm := rfl
@[simp] theorem State.onErr_msu (s : State) (f : ErrState → ErrState) : (s.onErr f).msu = s.msu := rfl
@[simp] theorem State.onErr_sched (s : State) (f : ErrState → ErrState) : (s.onErr f).sched = s.sched := rfl
@[simp] theorem State.onErr_lp (s : State) (f : ErrState → ErrState) : (s.onErr f).lp = s.lp := rfl
@[simp] theorem State.onErr_pwr (s : State) (f : ErrState → ErrState) : (s.onErr f).pwr = s.pwr := rfl
@[simp] theorem State.onErr_ctl (s : State) (f : ErrState → ErrState) : (s.onErr f).ctl = s.ctl := rfl
@[simp] theorem State.onErr_vinLow (s : State) (f : ErrState → ErrState) : (s.onErr f).vinLow = s.vinLow := rfl
@[simp] theorem State.onErr_roadPend (s : State) (f : ErrState → ErrState) : (s.onErr f).roadPend = s.roadPend := rfl
@[simp] theorem State.onErr_pending (s : State) (f : ErrState → ErrState) : (s.onErr f).pending = s.pending := rfl

/-! ### onEvf -/

@[simp] theorem State.onEvf_cyc (s : State) (f : EvfState → EvfState) : (s.onEvf f).cyc = s.cyc := rfl
@[simp] theorem State.onEvf_free (s : State) (f : EvfState → EvfState) : (s.onEvf f).free = s.free := rfl
@[simp] theorem State.onEvf_regs (s : State) (f : EvfState → EvfState) : (s.onEvf f).regs = s.regs := rfl
@[simp] theorem State.onEvf_held (s : State) (f : EvfState → EvfState) : (s.onEvf f).held = s.held := rfl
@[simp] theorem State.onEvf_was (s : State) (f : EvfState → EvfState) : (s.onEvf f).was = s.was := rfl
@[simp] theorem State.onEvf_busyWas (s : State) (f : EvfState → EvfState) : (s.onEvf f).busyWas = s.busyWas := rfl
@[simp] theorem State.onEvf_raised (s : State) (f : EvfState → EvfState) : (s.onEvf f).raised = s.raised := rfl
@[simp] theorem State.onEvf_mem (s : State) (f : EvfState → EvfState) : (s.onEvf f).mem = s.mem := rfl
@[simp] theorem State.onEvf_err (s : State) (f : EvfState → EvfState) : (s.onEvf f).err = s.err := rfl
@[simp] theorem State.onEvf_evf (s : State) (f : EvfState → EvfState) : (s.onEvf f).evf = f s.evf := rfl
@[simp] theorem State.onEvf_hcp (s : State) (f : EvfState → EvfState) : (s.onEvf f).hcp = s.hcp := rfl
@[simp] theorem State.onEvf_core (s : State) (f : EvfState → EvfState) : (s.onEvf f).core = s.core := rfl
@[simp] theorem State.onEvf_ntc (s : State) (f : EvfState → EvfState) : (s.onEvf f).ntc = s.ntc := rfl
@[simp] theorem State.onEvf_tmr (s : State) (f : EvfState → EvfState) : (s.onEvf f).tmr = s.tmr := rfl
@[simp] theorem State.onEvf_rtc (s : State) (f : EvfState → EvfState) : (s.onEvf f).rtc = s.rtc := rfl
@[simp] theorem State.onEvf_flc (s : State) (f : EvfState → EvfState) : (s.onEvf f).flc = s.flc := rfl
@[simp] theorem State.onEvf_otp (s : State) (f : EvfState → EvfState) : (s.onEvf f).otp = s.otp := rfl
@[simp] theorem State.onEvf_sram (s : State) (f : EvfState → EvfState) : (s.onEvf f).sram = s.sram := rfl
@[simp] theorem State.onEvf_dmc (s : State) (f : EvfState → EvfState) : (s.onEvf f).dmc = s.dmc := rfl
@[simp] theorem State.onEvf_rf (s : State) (f : EvfState → EvfState) : (s.onEvf f).rf = s.rf := rfl
@[simp] theorem State.onEvf_txp (s : State) (f : EvfState → EvfState) : (s.onEvf f).txp = s.txp := rfl
@[simp] theorem State.onEvf_frm (s : State) (f : EvfState → EvfState) : (s.onEvf f).frm = s.frm := rfl
@[simp] theorem State.onEvf_msu (s : State) (f : EvfState → EvfState) : (s.onEvf f).msu = s.msu := rfl
@[simp] theorem State.onEvf_sched (s : State) (f : EvfState → EvfState) : (s.onEvf f).sched = s.sched := rfl
@[simp] theorem State.onEvf_lp (s : State) (f : EvfState → EvfState) : (s.onEvf f).lp = s.lp := rfl
@[simp] theorem State.onEvf_pwr (s : State) (f : EvfState → EvfState) : (s.onEvf f).pwr = s.pwr := rfl
@[simp] theorem State.onEvf_ctl (s : State) (f : EvfState → EvfState) : (s.onEvf f).ctl = s.ctl := rfl
@[simp] theorem State.onEvf_vinLow (s : State) (f : EvfState → EvfState) : (s.onEvf f).vinLow = s.vinLow := rfl
@[simp] theorem State.onEvf_roadPend (s : State) (f : EvfState → EvfState) : (s.onEvf f).roadPend = s.roadPend := rfl
@[simp] theorem State.onEvf_pending (s : State) (f : EvfState → EvfState) : (s.onEvf f).pending = s.pending := rfl

/-! ### onHcp -/

@[simp] theorem State.onHcp_cyc (s : State) (f : HcpState → HcpState) : (s.onHcp f).cyc = s.cyc := rfl
@[simp] theorem State.onHcp_free (s : State) (f : HcpState → HcpState) : (s.onHcp f).free = s.free := rfl
@[simp] theorem State.onHcp_regs (s : State) (f : HcpState → HcpState) : (s.onHcp f).regs = s.regs := rfl
@[simp] theorem State.onHcp_held (s : State) (f : HcpState → HcpState) : (s.onHcp f).held = s.held := rfl
@[simp] theorem State.onHcp_was (s : State) (f : HcpState → HcpState) : (s.onHcp f).was = s.was := rfl
@[simp] theorem State.onHcp_busyWas (s : State) (f : HcpState → HcpState) : (s.onHcp f).busyWas = s.busyWas := rfl
@[simp] theorem State.onHcp_raised (s : State) (f : HcpState → HcpState) : (s.onHcp f).raised = s.raised := rfl
@[simp] theorem State.onHcp_mem (s : State) (f : HcpState → HcpState) : (s.onHcp f).mem = s.mem := rfl
@[simp] theorem State.onHcp_err (s : State) (f : HcpState → HcpState) : (s.onHcp f).err = s.err := rfl
@[simp] theorem State.onHcp_evf (s : State) (f : HcpState → HcpState) : (s.onHcp f).evf = s.evf := rfl
@[simp] theorem State.onHcp_hcp (s : State) (f : HcpState → HcpState) : (s.onHcp f).hcp = f s.hcp := rfl
@[simp] theorem State.onHcp_core (s : State) (f : HcpState → HcpState) : (s.onHcp f).core = s.core := rfl
@[simp] theorem State.onHcp_ntc (s : State) (f : HcpState → HcpState) : (s.onHcp f).ntc = s.ntc := rfl
@[simp] theorem State.onHcp_tmr (s : State) (f : HcpState → HcpState) : (s.onHcp f).tmr = s.tmr := rfl
@[simp] theorem State.onHcp_rtc (s : State) (f : HcpState → HcpState) : (s.onHcp f).rtc = s.rtc := rfl
@[simp] theorem State.onHcp_flc (s : State) (f : HcpState → HcpState) : (s.onHcp f).flc = s.flc := rfl
@[simp] theorem State.onHcp_otp (s : State) (f : HcpState → HcpState) : (s.onHcp f).otp = s.otp := rfl
@[simp] theorem State.onHcp_sram (s : State) (f : HcpState → HcpState) : (s.onHcp f).sram = s.sram := rfl
@[simp] theorem State.onHcp_dmc (s : State) (f : HcpState → HcpState) : (s.onHcp f).dmc = s.dmc := rfl
@[simp] theorem State.onHcp_rf (s : State) (f : HcpState → HcpState) : (s.onHcp f).rf = s.rf := rfl
@[simp] theorem State.onHcp_txp (s : State) (f : HcpState → HcpState) : (s.onHcp f).txp = s.txp := rfl
@[simp] theorem State.onHcp_frm (s : State) (f : HcpState → HcpState) : (s.onHcp f).frm = s.frm := rfl
@[simp] theorem State.onHcp_msu (s : State) (f : HcpState → HcpState) : (s.onHcp f).msu = s.msu := rfl
@[simp] theorem State.onHcp_sched (s : State) (f : HcpState → HcpState) : (s.onHcp f).sched = s.sched := rfl
@[simp] theorem State.onHcp_lp (s : State) (f : HcpState → HcpState) : (s.onHcp f).lp = s.lp := rfl
@[simp] theorem State.onHcp_pwr (s : State) (f : HcpState → HcpState) : (s.onHcp f).pwr = s.pwr := rfl
@[simp] theorem State.onHcp_ctl (s : State) (f : HcpState → HcpState) : (s.onHcp f).ctl = s.ctl := rfl
@[simp] theorem State.onHcp_vinLow (s : State) (f : HcpState → HcpState) : (s.onHcp f).vinLow = s.vinLow := rfl
@[simp] theorem State.onHcp_roadPend (s : State) (f : HcpState → HcpState) : (s.onHcp f).roadPend = s.roadPend := rfl
@[simp] theorem State.onHcp_pending (s : State) (f : HcpState → HcpState) : (s.onHcp f).pending = s.pending := rfl

/-! ### onCore -/

@[simp] theorem State.onCore_cyc (s : State) (f : CoreState → CoreState) : (s.onCore f).cyc = s.cyc := rfl
@[simp] theorem State.onCore_free (s : State) (f : CoreState → CoreState) : (s.onCore f).free = s.free := rfl
@[simp] theorem State.onCore_regs (s : State) (f : CoreState → CoreState) : (s.onCore f).regs = s.regs := rfl
@[simp] theorem State.onCore_held (s : State) (f : CoreState → CoreState) : (s.onCore f).held = s.held := rfl
@[simp] theorem State.onCore_was (s : State) (f : CoreState → CoreState) : (s.onCore f).was = s.was := rfl
@[simp] theorem State.onCore_busyWas (s : State) (f : CoreState → CoreState) : (s.onCore f).busyWas = s.busyWas := rfl
@[simp] theorem State.onCore_raised (s : State) (f : CoreState → CoreState) : (s.onCore f).raised = s.raised := rfl
@[simp] theorem State.onCore_mem (s : State) (f : CoreState → CoreState) : (s.onCore f).mem = s.mem := rfl
@[simp] theorem State.onCore_err (s : State) (f : CoreState → CoreState) : (s.onCore f).err = s.err := rfl
@[simp] theorem State.onCore_evf (s : State) (f : CoreState → CoreState) : (s.onCore f).evf = s.evf := rfl
@[simp] theorem State.onCore_hcp (s : State) (f : CoreState → CoreState) : (s.onCore f).hcp = s.hcp := rfl
@[simp] theorem State.onCore_core (s : State) (f : CoreState → CoreState) : (s.onCore f).core = f s.core := rfl
@[simp] theorem State.onCore_ntc (s : State) (f : CoreState → CoreState) : (s.onCore f).ntc = s.ntc := rfl
@[simp] theorem State.onCore_tmr (s : State) (f : CoreState → CoreState) : (s.onCore f).tmr = s.tmr := rfl
@[simp] theorem State.onCore_rtc (s : State) (f : CoreState → CoreState) : (s.onCore f).rtc = s.rtc := rfl
@[simp] theorem State.onCore_flc (s : State) (f : CoreState → CoreState) : (s.onCore f).flc = s.flc := rfl
@[simp] theorem State.onCore_otp (s : State) (f : CoreState → CoreState) : (s.onCore f).otp = s.otp := rfl
@[simp] theorem State.onCore_sram (s : State) (f : CoreState → CoreState) : (s.onCore f).sram = s.sram := rfl
@[simp] theorem State.onCore_dmc (s : State) (f : CoreState → CoreState) : (s.onCore f).dmc = s.dmc := rfl
@[simp] theorem State.onCore_rf (s : State) (f : CoreState → CoreState) : (s.onCore f).rf = s.rf := rfl
@[simp] theorem State.onCore_txp (s : State) (f : CoreState → CoreState) : (s.onCore f).txp = s.txp := rfl
@[simp] theorem State.onCore_frm (s : State) (f : CoreState → CoreState) : (s.onCore f).frm = s.frm := rfl
@[simp] theorem State.onCore_msu (s : State) (f : CoreState → CoreState) : (s.onCore f).msu = s.msu := rfl
@[simp] theorem State.onCore_sched (s : State) (f : CoreState → CoreState) : (s.onCore f).sched = s.sched := rfl
@[simp] theorem State.onCore_lp (s : State) (f : CoreState → CoreState) : (s.onCore f).lp = s.lp := rfl
@[simp] theorem State.onCore_pwr (s : State) (f : CoreState → CoreState) : (s.onCore f).pwr = s.pwr := rfl
@[simp] theorem State.onCore_ctl (s : State) (f : CoreState → CoreState) : (s.onCore f).ctl = s.ctl := rfl
@[simp] theorem State.onCore_vinLow (s : State) (f : CoreState → CoreState) : (s.onCore f).vinLow = s.vinLow := rfl
@[simp] theorem State.onCore_roadPend (s : State) (f : CoreState → CoreState) : (s.onCore f).roadPend = s.roadPend := rfl
@[simp] theorem State.onCore_pending (s : State) (f : CoreState → CoreState) : (s.onCore f).pending = s.pending := rfl

/-! ### onNtc -/

@[simp] theorem State.onNtc_cyc (s : State) (f : NtcState → NtcState) : (s.onNtc f).cyc = s.cyc := rfl
@[simp] theorem State.onNtc_free (s : State) (f : NtcState → NtcState) : (s.onNtc f).free = s.free := rfl
@[simp] theorem State.onNtc_regs (s : State) (f : NtcState → NtcState) : (s.onNtc f).regs = s.regs := rfl
@[simp] theorem State.onNtc_held (s : State) (f : NtcState → NtcState) : (s.onNtc f).held = s.held := rfl
@[simp] theorem State.onNtc_was (s : State) (f : NtcState → NtcState) : (s.onNtc f).was = s.was := rfl
@[simp] theorem State.onNtc_busyWas (s : State) (f : NtcState → NtcState) : (s.onNtc f).busyWas = s.busyWas := rfl
@[simp] theorem State.onNtc_raised (s : State) (f : NtcState → NtcState) : (s.onNtc f).raised = s.raised := rfl
@[simp] theorem State.onNtc_mem (s : State) (f : NtcState → NtcState) : (s.onNtc f).mem = s.mem := rfl
@[simp] theorem State.onNtc_err (s : State) (f : NtcState → NtcState) : (s.onNtc f).err = s.err := rfl
@[simp] theorem State.onNtc_evf (s : State) (f : NtcState → NtcState) : (s.onNtc f).evf = s.evf := rfl
@[simp] theorem State.onNtc_hcp (s : State) (f : NtcState → NtcState) : (s.onNtc f).hcp = s.hcp := rfl
@[simp] theorem State.onNtc_core (s : State) (f : NtcState → NtcState) : (s.onNtc f).core = s.core := rfl
@[simp] theorem State.onNtc_ntc (s : State) (f : NtcState → NtcState) : (s.onNtc f).ntc = f s.ntc := rfl
@[simp] theorem State.onNtc_tmr (s : State) (f : NtcState → NtcState) : (s.onNtc f).tmr = s.tmr := rfl
@[simp] theorem State.onNtc_rtc (s : State) (f : NtcState → NtcState) : (s.onNtc f).rtc = s.rtc := rfl
@[simp] theorem State.onNtc_flc (s : State) (f : NtcState → NtcState) : (s.onNtc f).flc = s.flc := rfl
@[simp] theorem State.onNtc_otp (s : State) (f : NtcState → NtcState) : (s.onNtc f).otp = s.otp := rfl
@[simp] theorem State.onNtc_sram (s : State) (f : NtcState → NtcState) : (s.onNtc f).sram = s.sram := rfl
@[simp] theorem State.onNtc_dmc (s : State) (f : NtcState → NtcState) : (s.onNtc f).dmc = s.dmc := rfl
@[simp] theorem State.onNtc_rf (s : State) (f : NtcState → NtcState) : (s.onNtc f).rf = s.rf := rfl
@[simp] theorem State.onNtc_txp (s : State) (f : NtcState → NtcState) : (s.onNtc f).txp = s.txp := rfl
@[simp] theorem State.onNtc_frm (s : State) (f : NtcState → NtcState) : (s.onNtc f).frm = s.frm := rfl
@[simp] theorem State.onNtc_msu (s : State) (f : NtcState → NtcState) : (s.onNtc f).msu = s.msu := rfl
@[simp] theorem State.onNtc_sched (s : State) (f : NtcState → NtcState) : (s.onNtc f).sched = s.sched := rfl
@[simp] theorem State.onNtc_lp (s : State) (f : NtcState → NtcState) : (s.onNtc f).lp = s.lp := rfl
@[simp] theorem State.onNtc_pwr (s : State) (f : NtcState → NtcState) : (s.onNtc f).pwr = s.pwr := rfl
@[simp] theorem State.onNtc_ctl (s : State) (f : NtcState → NtcState) : (s.onNtc f).ctl = s.ctl := rfl
@[simp] theorem State.onNtc_vinLow (s : State) (f : NtcState → NtcState) : (s.onNtc f).vinLow = s.vinLow := rfl
@[simp] theorem State.onNtc_roadPend (s : State) (f : NtcState → NtcState) : (s.onNtc f).roadPend = s.roadPend := rfl
@[simp] theorem State.onNtc_pending (s : State) (f : NtcState → NtcState) : (s.onNtc f).pending = s.pending := rfl

/-! ### onFlc -/

@[simp] theorem State.onFlc_cyc (s : State) (f : FlcState → FlcState) : (s.onFlc f).cyc = s.cyc := rfl
@[simp] theorem State.onFlc_free (s : State) (f : FlcState → FlcState) : (s.onFlc f).free = s.free := rfl
@[simp] theorem State.onFlc_regs (s : State) (f : FlcState → FlcState) : (s.onFlc f).regs = s.regs := rfl
@[simp] theorem State.onFlc_held (s : State) (f : FlcState → FlcState) : (s.onFlc f).held = s.held := rfl
@[simp] theorem State.onFlc_was (s : State) (f : FlcState → FlcState) : (s.onFlc f).was = s.was := rfl
@[simp] theorem State.onFlc_busyWas (s : State) (f : FlcState → FlcState) : (s.onFlc f).busyWas = s.busyWas := rfl
@[simp] theorem State.onFlc_raised (s : State) (f : FlcState → FlcState) : (s.onFlc f).raised = s.raised := rfl
@[simp] theorem State.onFlc_mem (s : State) (f : FlcState → FlcState) : (s.onFlc f).mem = s.mem := rfl
@[simp] theorem State.onFlc_err (s : State) (f : FlcState → FlcState) : (s.onFlc f).err = s.err := rfl
@[simp] theorem State.onFlc_evf (s : State) (f : FlcState → FlcState) : (s.onFlc f).evf = s.evf := rfl
@[simp] theorem State.onFlc_hcp (s : State) (f : FlcState → FlcState) : (s.onFlc f).hcp = s.hcp := rfl
@[simp] theorem State.onFlc_core (s : State) (f : FlcState → FlcState) : (s.onFlc f).core = s.core := rfl
@[simp] theorem State.onFlc_ntc (s : State) (f : FlcState → FlcState) : (s.onFlc f).ntc = s.ntc := rfl
@[simp] theorem State.onFlc_tmr (s : State) (f : FlcState → FlcState) : (s.onFlc f).tmr = s.tmr := rfl
@[simp] theorem State.onFlc_rtc (s : State) (f : FlcState → FlcState) : (s.onFlc f).rtc = s.rtc := rfl
@[simp] theorem State.onFlc_flc (s : State) (f : FlcState → FlcState) : (s.onFlc f).flc = f s.flc := rfl
@[simp] theorem State.onFlc_otp (s : State) (f : FlcState → FlcState) : (s.onFlc f).otp = s.otp := rfl
@[simp] theorem State.onFlc_sram (s : State) (f : FlcState → FlcState) : (s.onFlc f).sram = s.sram := rfl
@[simp] theorem State.onFlc_dmc (s : State) (f : FlcState → FlcState) : (s.onFlc f).dmc = s.dmc := rfl
@[simp] theorem State.onFlc_rf (s : State) (f : FlcState → FlcState) : (s.onFlc f).rf = s.rf := rfl
@[simp] theorem State.onFlc_txp (s : State) (f : FlcState → FlcState) : (s.onFlc f).txp = s.txp := rfl
@[simp] theorem State.onFlc_frm (s : State) (f : FlcState → FlcState) : (s.onFlc f).frm = s.frm := rfl
@[simp] theorem State.onFlc_msu (s : State) (f : FlcState → FlcState) : (s.onFlc f).msu = s.msu := rfl
@[simp] theorem State.onFlc_sched (s : State) (f : FlcState → FlcState) : (s.onFlc f).sched = s.sched := rfl
@[simp] theorem State.onFlc_lp (s : State) (f : FlcState → FlcState) : (s.onFlc f).lp = s.lp := rfl
@[simp] theorem State.onFlc_pwr (s : State) (f : FlcState → FlcState) : (s.onFlc f).pwr = s.pwr := rfl
@[simp] theorem State.onFlc_ctl (s : State) (f : FlcState → FlcState) : (s.onFlc f).ctl = s.ctl := rfl
@[simp] theorem State.onFlc_vinLow (s : State) (f : FlcState → FlcState) : (s.onFlc f).vinLow = s.vinLow := rfl
@[simp] theorem State.onFlc_roadPend (s : State) (f : FlcState → FlcState) : (s.onFlc f).roadPend = s.roadPend := rfl
@[simp] theorem State.onFlc_pending (s : State) (f : FlcState → FlcState) : (s.onFlc f).pending = s.pending := rfl

/-! ### onOtp -/

@[simp] theorem State.onOtp_cyc (s : State) (f : OtpState → OtpState) : (s.onOtp f).cyc = s.cyc := rfl
@[simp] theorem State.onOtp_free (s : State) (f : OtpState → OtpState) : (s.onOtp f).free = s.free := rfl
@[simp] theorem State.onOtp_regs (s : State) (f : OtpState → OtpState) : (s.onOtp f).regs = s.regs := rfl
@[simp] theorem State.onOtp_held (s : State) (f : OtpState → OtpState) : (s.onOtp f).held = s.held := rfl
@[simp] theorem State.onOtp_was (s : State) (f : OtpState → OtpState) : (s.onOtp f).was = s.was := rfl
@[simp] theorem State.onOtp_busyWas (s : State) (f : OtpState → OtpState) : (s.onOtp f).busyWas = s.busyWas := rfl
@[simp] theorem State.onOtp_raised (s : State) (f : OtpState → OtpState) : (s.onOtp f).raised = s.raised := rfl
@[simp] theorem State.onOtp_mem (s : State) (f : OtpState → OtpState) : (s.onOtp f).mem = s.mem := rfl
@[simp] theorem State.onOtp_err (s : State) (f : OtpState → OtpState) : (s.onOtp f).err = s.err := rfl
@[simp] theorem State.onOtp_evf (s : State) (f : OtpState → OtpState) : (s.onOtp f).evf = s.evf := rfl
@[simp] theorem State.onOtp_hcp (s : State) (f : OtpState → OtpState) : (s.onOtp f).hcp = s.hcp := rfl
@[simp] theorem State.onOtp_core (s : State) (f : OtpState → OtpState) : (s.onOtp f).core = s.core := rfl
@[simp] theorem State.onOtp_ntc (s : State) (f : OtpState → OtpState) : (s.onOtp f).ntc = s.ntc := rfl
@[simp] theorem State.onOtp_tmr (s : State) (f : OtpState → OtpState) : (s.onOtp f).tmr = s.tmr := rfl
@[simp] theorem State.onOtp_rtc (s : State) (f : OtpState → OtpState) : (s.onOtp f).rtc = s.rtc := rfl
@[simp] theorem State.onOtp_flc (s : State) (f : OtpState → OtpState) : (s.onOtp f).flc = s.flc := rfl
@[simp] theorem State.onOtp_otp (s : State) (f : OtpState → OtpState) : (s.onOtp f).otp = f s.otp := rfl
@[simp] theorem State.onOtp_sram (s : State) (f : OtpState → OtpState) : (s.onOtp f).sram = s.sram := rfl
@[simp] theorem State.onOtp_dmc (s : State) (f : OtpState → OtpState) : (s.onOtp f).dmc = s.dmc := rfl
@[simp] theorem State.onOtp_rf (s : State) (f : OtpState → OtpState) : (s.onOtp f).rf = s.rf := rfl
@[simp] theorem State.onOtp_txp (s : State) (f : OtpState → OtpState) : (s.onOtp f).txp = s.txp := rfl
@[simp] theorem State.onOtp_frm (s : State) (f : OtpState → OtpState) : (s.onOtp f).frm = s.frm := rfl
@[simp] theorem State.onOtp_msu (s : State) (f : OtpState → OtpState) : (s.onOtp f).msu = s.msu := rfl
@[simp] theorem State.onOtp_sched (s : State) (f : OtpState → OtpState) : (s.onOtp f).sched = s.sched := rfl
@[simp] theorem State.onOtp_lp (s : State) (f : OtpState → OtpState) : (s.onOtp f).lp = s.lp := rfl
@[simp] theorem State.onOtp_pwr (s : State) (f : OtpState → OtpState) : (s.onOtp f).pwr = s.pwr := rfl
@[simp] theorem State.onOtp_ctl (s : State) (f : OtpState → OtpState) : (s.onOtp f).ctl = s.ctl := rfl
@[simp] theorem State.onOtp_vinLow (s : State) (f : OtpState → OtpState) : (s.onOtp f).vinLow = s.vinLow := rfl
@[simp] theorem State.onOtp_roadPend (s : State) (f : OtpState → OtpState) : (s.onOtp f).roadPend = s.roadPend := rfl
@[simp] theorem State.onOtp_pending (s : State) (f : OtpState → OtpState) : (s.onOtp f).pending = s.pending := rfl

/-! ### onSram -/

@[simp] theorem State.onSram_cyc (s : State) (f : SramState → SramState) : (s.onSram f).cyc = s.cyc := rfl
@[simp] theorem State.onSram_free (s : State) (f : SramState → SramState) : (s.onSram f).free = s.free := rfl
@[simp] theorem State.onSram_regs (s : State) (f : SramState → SramState) : (s.onSram f).regs = s.regs := rfl
@[simp] theorem State.onSram_held (s : State) (f : SramState → SramState) : (s.onSram f).held = s.held := rfl
@[simp] theorem State.onSram_was (s : State) (f : SramState → SramState) : (s.onSram f).was = s.was := rfl
@[simp] theorem State.onSram_busyWas (s : State) (f : SramState → SramState) : (s.onSram f).busyWas = s.busyWas := rfl
@[simp] theorem State.onSram_raised (s : State) (f : SramState → SramState) : (s.onSram f).raised = s.raised := rfl
@[simp] theorem State.onSram_mem (s : State) (f : SramState → SramState) : (s.onSram f).mem = s.mem := rfl
@[simp] theorem State.onSram_err (s : State) (f : SramState → SramState) : (s.onSram f).err = s.err := rfl
@[simp] theorem State.onSram_evf (s : State) (f : SramState → SramState) : (s.onSram f).evf = s.evf := rfl
@[simp] theorem State.onSram_hcp (s : State) (f : SramState → SramState) : (s.onSram f).hcp = s.hcp := rfl
@[simp] theorem State.onSram_core (s : State) (f : SramState → SramState) : (s.onSram f).core = s.core := rfl
@[simp] theorem State.onSram_ntc (s : State) (f : SramState → SramState) : (s.onSram f).ntc = s.ntc := rfl
@[simp] theorem State.onSram_tmr (s : State) (f : SramState → SramState) : (s.onSram f).tmr = s.tmr := rfl
@[simp] theorem State.onSram_rtc (s : State) (f : SramState → SramState) : (s.onSram f).rtc = s.rtc := rfl
@[simp] theorem State.onSram_flc (s : State) (f : SramState → SramState) : (s.onSram f).flc = s.flc := rfl
@[simp] theorem State.onSram_otp (s : State) (f : SramState → SramState) : (s.onSram f).otp = s.otp := rfl
@[simp] theorem State.onSram_sram (s : State) (f : SramState → SramState) : (s.onSram f).sram = f s.sram := rfl
@[simp] theorem State.onSram_dmc (s : State) (f : SramState → SramState) : (s.onSram f).dmc = s.dmc := rfl
@[simp] theorem State.onSram_rf (s : State) (f : SramState → SramState) : (s.onSram f).rf = s.rf := rfl
@[simp] theorem State.onSram_txp (s : State) (f : SramState → SramState) : (s.onSram f).txp = s.txp := rfl
@[simp] theorem State.onSram_frm (s : State) (f : SramState → SramState) : (s.onSram f).frm = s.frm := rfl
@[simp] theorem State.onSram_msu (s : State) (f : SramState → SramState) : (s.onSram f).msu = s.msu := rfl
@[simp] theorem State.onSram_sched (s : State) (f : SramState → SramState) : (s.onSram f).sched = s.sched := rfl
@[simp] theorem State.onSram_lp (s : State) (f : SramState → SramState) : (s.onSram f).lp = s.lp := rfl
@[simp] theorem State.onSram_pwr (s : State) (f : SramState → SramState) : (s.onSram f).pwr = s.pwr := rfl
@[simp] theorem State.onSram_ctl (s : State) (f : SramState → SramState) : (s.onSram f).ctl = s.ctl := rfl
@[simp] theorem State.onSram_vinLow (s : State) (f : SramState → SramState) : (s.onSram f).vinLow = s.vinLow := rfl
@[simp] theorem State.onSram_roadPend (s : State) (f : SramState → SramState) : (s.onSram f).roadPend = s.roadPend := rfl
@[simp] theorem State.onSram_pending (s : State) (f : SramState → SramState) : (s.onSram f).pending = s.pending := rfl

/-! ### onDmc -/

@[simp] theorem State.onDmc_cyc (s : State) (f : DmcState → DmcState) : (s.onDmc f).cyc = s.cyc := rfl
@[simp] theorem State.onDmc_free (s : State) (f : DmcState → DmcState) : (s.onDmc f).free = s.free := rfl
@[simp] theorem State.onDmc_regs (s : State) (f : DmcState → DmcState) : (s.onDmc f).regs = s.regs := rfl
@[simp] theorem State.onDmc_held (s : State) (f : DmcState → DmcState) : (s.onDmc f).held = s.held := rfl
@[simp] theorem State.onDmc_was (s : State) (f : DmcState → DmcState) : (s.onDmc f).was = s.was := rfl
@[simp] theorem State.onDmc_busyWas (s : State) (f : DmcState → DmcState) : (s.onDmc f).busyWas = s.busyWas := rfl
@[simp] theorem State.onDmc_raised (s : State) (f : DmcState → DmcState) : (s.onDmc f).raised = s.raised := rfl
@[simp] theorem State.onDmc_mem (s : State) (f : DmcState → DmcState) : (s.onDmc f).mem = s.mem := rfl
@[simp] theorem State.onDmc_err (s : State) (f : DmcState → DmcState) : (s.onDmc f).err = s.err := rfl
@[simp] theorem State.onDmc_evf (s : State) (f : DmcState → DmcState) : (s.onDmc f).evf = s.evf := rfl
@[simp] theorem State.onDmc_hcp (s : State) (f : DmcState → DmcState) : (s.onDmc f).hcp = s.hcp := rfl
@[simp] theorem State.onDmc_core (s : State) (f : DmcState → DmcState) : (s.onDmc f).core = s.core := rfl
@[simp] theorem State.onDmc_ntc (s : State) (f : DmcState → DmcState) : (s.onDmc f).ntc = s.ntc := rfl
@[simp] theorem State.onDmc_tmr (s : State) (f : DmcState → DmcState) : (s.onDmc f).tmr = s.tmr := rfl
@[simp] theorem State.onDmc_rtc (s : State) (f : DmcState → DmcState) : (s.onDmc f).rtc = s.rtc := rfl
@[simp] theorem State.onDmc_flc (s : State) (f : DmcState → DmcState) : (s.onDmc f).flc = s.flc := rfl
@[simp] theorem State.onDmc_otp (s : State) (f : DmcState → DmcState) : (s.onDmc f).otp = s.otp := rfl
@[simp] theorem State.onDmc_sram (s : State) (f : DmcState → DmcState) : (s.onDmc f).sram = s.sram := rfl
@[simp] theorem State.onDmc_dmc (s : State) (f : DmcState → DmcState) : (s.onDmc f).dmc = f s.dmc := rfl
@[simp] theorem State.onDmc_rf (s : State) (f : DmcState → DmcState) : (s.onDmc f).rf = s.rf := rfl
@[simp] theorem State.onDmc_txp (s : State) (f : DmcState → DmcState) : (s.onDmc f).txp = s.txp := rfl
@[simp] theorem State.onDmc_frm (s : State) (f : DmcState → DmcState) : (s.onDmc f).frm = s.frm := rfl
@[simp] theorem State.onDmc_msu (s : State) (f : DmcState → DmcState) : (s.onDmc f).msu = s.msu := rfl
@[simp] theorem State.onDmc_sched (s : State) (f : DmcState → DmcState) : (s.onDmc f).sched = s.sched := rfl
@[simp] theorem State.onDmc_lp (s : State) (f : DmcState → DmcState) : (s.onDmc f).lp = s.lp := rfl
@[simp] theorem State.onDmc_pwr (s : State) (f : DmcState → DmcState) : (s.onDmc f).pwr = s.pwr := rfl
@[simp] theorem State.onDmc_ctl (s : State) (f : DmcState → DmcState) : (s.onDmc f).ctl = s.ctl := rfl
@[simp] theorem State.onDmc_vinLow (s : State) (f : DmcState → DmcState) : (s.onDmc f).vinLow = s.vinLow := rfl
@[simp] theorem State.onDmc_roadPend (s : State) (f : DmcState → DmcState) : (s.onDmc f).roadPend = s.roadPend := rfl
@[simp] theorem State.onDmc_pending (s : State) (f : DmcState → DmcState) : (s.onDmc f).pending = s.pending := rfl

/-! ### onRf -/

@[simp] theorem State.onRf_cyc (s : State) (f : RfState → RfState) : (s.onRf f).cyc = s.cyc := rfl
@[simp] theorem State.onRf_free (s : State) (f : RfState → RfState) : (s.onRf f).free = s.free := rfl
@[simp] theorem State.onRf_regs (s : State) (f : RfState → RfState) : (s.onRf f).regs = s.regs := rfl
@[simp] theorem State.onRf_held (s : State) (f : RfState → RfState) : (s.onRf f).held = s.held := rfl
@[simp] theorem State.onRf_was (s : State) (f : RfState → RfState) : (s.onRf f).was = s.was := rfl
@[simp] theorem State.onRf_busyWas (s : State) (f : RfState → RfState) : (s.onRf f).busyWas = s.busyWas := rfl
@[simp] theorem State.onRf_raised (s : State) (f : RfState → RfState) : (s.onRf f).raised = s.raised := rfl
@[simp] theorem State.onRf_mem (s : State) (f : RfState → RfState) : (s.onRf f).mem = s.mem := rfl
@[simp] theorem State.onRf_err (s : State) (f : RfState → RfState) : (s.onRf f).err = s.err := rfl
@[simp] theorem State.onRf_evf (s : State) (f : RfState → RfState) : (s.onRf f).evf = s.evf := rfl
@[simp] theorem State.onRf_hcp (s : State) (f : RfState → RfState) : (s.onRf f).hcp = s.hcp := rfl
@[simp] theorem State.onRf_core (s : State) (f : RfState → RfState) : (s.onRf f).core = s.core := rfl
@[simp] theorem State.onRf_ntc (s : State) (f : RfState → RfState) : (s.onRf f).ntc = s.ntc := rfl
@[simp] theorem State.onRf_tmr (s : State) (f : RfState → RfState) : (s.onRf f).tmr = s.tmr := rfl
@[simp] theorem State.onRf_rtc (s : State) (f : RfState → RfState) : (s.onRf f).rtc = s.rtc := rfl
@[simp] theorem State.onRf_flc (s : State) (f : RfState → RfState) : (s.onRf f).flc = s.flc := rfl
@[simp] theorem State.onRf_otp (s : State) (f : RfState → RfState) : (s.onRf f).otp = s.otp := rfl
@[simp] theorem State.onRf_sram (s : State) (f : RfState → RfState) : (s.onRf f).sram = s.sram := rfl
@[simp] theorem State.onRf_dmc (s : State) (f : RfState → RfState) : (s.onRf f).dmc = s.dmc := rfl
@[simp] theorem State.onRf_rf (s : State) (f : RfState → RfState) : (s.onRf f).rf = f s.rf := rfl
@[simp] theorem State.onRf_txp (s : State) (f : RfState → RfState) : (s.onRf f).txp = s.txp := rfl
@[simp] theorem State.onRf_frm (s : State) (f : RfState → RfState) : (s.onRf f).frm = s.frm := rfl
@[simp] theorem State.onRf_msu (s : State) (f : RfState → RfState) : (s.onRf f).msu = s.msu := rfl
@[simp] theorem State.onRf_sched (s : State) (f : RfState → RfState) : (s.onRf f).sched = s.sched := rfl
@[simp] theorem State.onRf_lp (s : State) (f : RfState → RfState) : (s.onRf f).lp = s.lp := rfl
@[simp] theorem State.onRf_pwr (s : State) (f : RfState → RfState) : (s.onRf f).pwr = s.pwr := rfl
@[simp] theorem State.onRf_ctl (s : State) (f : RfState → RfState) : (s.onRf f).ctl = s.ctl := rfl
@[simp] theorem State.onRf_vinLow (s : State) (f : RfState → RfState) : (s.onRf f).vinLow = s.vinLow := rfl
@[simp] theorem State.onRf_roadPend (s : State) (f : RfState → RfState) : (s.onRf f).roadPend = s.roadPend := rfl
@[simp] theorem State.onRf_pending (s : State) (f : RfState → RfState) : (s.onRf f).pending = s.pending := rfl

/-! ### onTxp -/

@[simp] theorem State.onTxp_cyc (s : State) (f : TxpState → TxpState) : (s.onTxp f).cyc = s.cyc := rfl
@[simp] theorem State.onTxp_free (s : State) (f : TxpState → TxpState) : (s.onTxp f).free = s.free := rfl
@[simp] theorem State.onTxp_regs (s : State) (f : TxpState → TxpState) : (s.onTxp f).regs = s.regs := rfl
@[simp] theorem State.onTxp_held (s : State) (f : TxpState → TxpState) : (s.onTxp f).held = s.held := rfl
@[simp] theorem State.onTxp_was (s : State) (f : TxpState → TxpState) : (s.onTxp f).was = s.was := rfl
@[simp] theorem State.onTxp_busyWas (s : State) (f : TxpState → TxpState) : (s.onTxp f).busyWas = s.busyWas := rfl
@[simp] theorem State.onTxp_raised (s : State) (f : TxpState → TxpState) : (s.onTxp f).raised = s.raised := rfl
@[simp] theorem State.onTxp_mem (s : State) (f : TxpState → TxpState) : (s.onTxp f).mem = s.mem := rfl
@[simp] theorem State.onTxp_err (s : State) (f : TxpState → TxpState) : (s.onTxp f).err = s.err := rfl
@[simp] theorem State.onTxp_evf (s : State) (f : TxpState → TxpState) : (s.onTxp f).evf = s.evf := rfl
@[simp] theorem State.onTxp_hcp (s : State) (f : TxpState → TxpState) : (s.onTxp f).hcp = s.hcp := rfl
@[simp] theorem State.onTxp_core (s : State) (f : TxpState → TxpState) : (s.onTxp f).core = s.core := rfl
@[simp] theorem State.onTxp_ntc (s : State) (f : TxpState → TxpState) : (s.onTxp f).ntc = s.ntc := rfl
@[simp] theorem State.onTxp_tmr (s : State) (f : TxpState → TxpState) : (s.onTxp f).tmr = s.tmr := rfl
@[simp] theorem State.onTxp_rtc (s : State) (f : TxpState → TxpState) : (s.onTxp f).rtc = s.rtc := rfl
@[simp] theorem State.onTxp_flc (s : State) (f : TxpState → TxpState) : (s.onTxp f).flc = s.flc := rfl
@[simp] theorem State.onTxp_otp (s : State) (f : TxpState → TxpState) : (s.onTxp f).otp = s.otp := rfl
@[simp] theorem State.onTxp_sram (s : State) (f : TxpState → TxpState) : (s.onTxp f).sram = s.sram := rfl
@[simp] theorem State.onTxp_dmc (s : State) (f : TxpState → TxpState) : (s.onTxp f).dmc = s.dmc := rfl
@[simp] theorem State.onTxp_rf (s : State) (f : TxpState → TxpState) : (s.onTxp f).rf = s.rf := rfl
@[simp] theorem State.onTxp_txp (s : State) (f : TxpState → TxpState) : (s.onTxp f).txp = f s.txp := rfl
@[simp] theorem State.onTxp_frm (s : State) (f : TxpState → TxpState) : (s.onTxp f).frm = s.frm := rfl
@[simp] theorem State.onTxp_msu (s : State) (f : TxpState → TxpState) : (s.onTxp f).msu = s.msu := rfl
@[simp] theorem State.onTxp_sched (s : State) (f : TxpState → TxpState) : (s.onTxp f).sched = s.sched := rfl
@[simp] theorem State.onTxp_lp (s : State) (f : TxpState → TxpState) : (s.onTxp f).lp = s.lp := rfl
@[simp] theorem State.onTxp_pwr (s : State) (f : TxpState → TxpState) : (s.onTxp f).pwr = s.pwr := rfl
@[simp] theorem State.onTxp_ctl (s : State) (f : TxpState → TxpState) : (s.onTxp f).ctl = s.ctl := rfl
@[simp] theorem State.onTxp_vinLow (s : State) (f : TxpState → TxpState) : (s.onTxp f).vinLow = s.vinLow := rfl
@[simp] theorem State.onTxp_roadPend (s : State) (f : TxpState → TxpState) : (s.onTxp f).roadPend = s.roadPend := rfl
@[simp] theorem State.onTxp_pending (s : State) (f : TxpState → TxpState) : (s.onTxp f).pending = s.pending := rfl

/-! ### onFrm -/

@[simp] theorem State.onFrm_cyc (s : State) (f : FrmState → FrmState) : (s.onFrm f).cyc = s.cyc := rfl
@[simp] theorem State.onFrm_free (s : State) (f : FrmState → FrmState) : (s.onFrm f).free = s.free := rfl
@[simp] theorem State.onFrm_regs (s : State) (f : FrmState → FrmState) : (s.onFrm f).regs = s.regs := rfl
@[simp] theorem State.onFrm_held (s : State) (f : FrmState → FrmState) : (s.onFrm f).held = s.held := rfl
@[simp] theorem State.onFrm_was (s : State) (f : FrmState → FrmState) : (s.onFrm f).was = s.was := rfl
@[simp] theorem State.onFrm_busyWas (s : State) (f : FrmState → FrmState) : (s.onFrm f).busyWas = s.busyWas := rfl
@[simp] theorem State.onFrm_raised (s : State) (f : FrmState → FrmState) : (s.onFrm f).raised = s.raised := rfl
@[simp] theorem State.onFrm_mem (s : State) (f : FrmState → FrmState) : (s.onFrm f).mem = s.mem := rfl
@[simp] theorem State.onFrm_err (s : State) (f : FrmState → FrmState) : (s.onFrm f).err = s.err := rfl
@[simp] theorem State.onFrm_evf (s : State) (f : FrmState → FrmState) : (s.onFrm f).evf = s.evf := rfl
@[simp] theorem State.onFrm_hcp (s : State) (f : FrmState → FrmState) : (s.onFrm f).hcp = s.hcp := rfl
@[simp] theorem State.onFrm_core (s : State) (f : FrmState → FrmState) : (s.onFrm f).core = s.core := rfl
@[simp] theorem State.onFrm_ntc (s : State) (f : FrmState → FrmState) : (s.onFrm f).ntc = s.ntc := rfl
@[simp] theorem State.onFrm_tmr (s : State) (f : FrmState → FrmState) : (s.onFrm f).tmr = s.tmr := rfl
@[simp] theorem State.onFrm_rtc (s : State) (f : FrmState → FrmState) : (s.onFrm f).rtc = s.rtc := rfl
@[simp] theorem State.onFrm_flc (s : State) (f : FrmState → FrmState) : (s.onFrm f).flc = s.flc := rfl
@[simp] theorem State.onFrm_otp (s : State) (f : FrmState → FrmState) : (s.onFrm f).otp = s.otp := rfl
@[simp] theorem State.onFrm_sram (s : State) (f : FrmState → FrmState) : (s.onFrm f).sram = s.sram := rfl
@[simp] theorem State.onFrm_dmc (s : State) (f : FrmState → FrmState) : (s.onFrm f).dmc = s.dmc := rfl
@[simp] theorem State.onFrm_rf (s : State) (f : FrmState → FrmState) : (s.onFrm f).rf = s.rf := rfl
@[simp] theorem State.onFrm_txp (s : State) (f : FrmState → FrmState) : (s.onFrm f).txp = s.txp := rfl
@[simp] theorem State.onFrm_frm (s : State) (f : FrmState → FrmState) : (s.onFrm f).frm = f s.frm := rfl
@[simp] theorem State.onFrm_msu (s : State) (f : FrmState → FrmState) : (s.onFrm f).msu = s.msu := rfl
@[simp] theorem State.onFrm_sched (s : State) (f : FrmState → FrmState) : (s.onFrm f).sched = s.sched := rfl
@[simp] theorem State.onFrm_lp (s : State) (f : FrmState → FrmState) : (s.onFrm f).lp = s.lp := rfl
@[simp] theorem State.onFrm_pwr (s : State) (f : FrmState → FrmState) : (s.onFrm f).pwr = s.pwr := rfl
@[simp] theorem State.onFrm_ctl (s : State) (f : FrmState → FrmState) : (s.onFrm f).ctl = s.ctl := rfl
@[simp] theorem State.onFrm_vinLow (s : State) (f : FrmState → FrmState) : (s.onFrm f).vinLow = s.vinLow := rfl
@[simp] theorem State.onFrm_roadPend (s : State) (f : FrmState → FrmState) : (s.onFrm f).roadPend = s.roadPend := rfl
@[simp] theorem State.onFrm_pending (s : State) (f : FrmState → FrmState) : (s.onFrm f).pending = s.pending := rfl

/-! ### onMsu -/

@[simp] theorem State.onMsu_cyc (s : State) (f : MsuState → MsuState) : (s.onMsu f).cyc = s.cyc := rfl
@[simp] theorem State.onMsu_free (s : State) (f : MsuState → MsuState) : (s.onMsu f).free = s.free := rfl
@[simp] theorem State.onMsu_regs (s : State) (f : MsuState → MsuState) : (s.onMsu f).regs = s.regs := rfl
@[simp] theorem State.onMsu_held (s : State) (f : MsuState → MsuState) : (s.onMsu f).held = s.held := rfl
@[simp] theorem State.onMsu_was (s : State) (f : MsuState → MsuState) : (s.onMsu f).was = s.was := rfl
@[simp] theorem State.onMsu_busyWas (s : State) (f : MsuState → MsuState) : (s.onMsu f).busyWas = s.busyWas := rfl
@[simp] theorem State.onMsu_raised (s : State) (f : MsuState → MsuState) : (s.onMsu f).raised = s.raised := rfl
@[simp] theorem State.onMsu_mem (s : State) (f : MsuState → MsuState) : (s.onMsu f).mem = s.mem := rfl
@[simp] theorem State.onMsu_err (s : State) (f : MsuState → MsuState) : (s.onMsu f).err = s.err := rfl
@[simp] theorem State.onMsu_evf (s : State) (f : MsuState → MsuState) : (s.onMsu f).evf = s.evf := rfl
@[simp] theorem State.onMsu_hcp (s : State) (f : MsuState → MsuState) : (s.onMsu f).hcp = s.hcp := rfl
@[simp] theorem State.onMsu_core (s : State) (f : MsuState → MsuState) : (s.onMsu f).core = s.core := rfl
@[simp] theorem State.onMsu_ntc (s : State) (f : MsuState → MsuState) : (s.onMsu f).ntc = s.ntc := rfl
@[simp] theorem State.onMsu_tmr (s : State) (f : MsuState → MsuState) : (s.onMsu f).tmr = s.tmr := rfl
@[simp] theorem State.onMsu_rtc (s : State) (f : MsuState → MsuState) : (s.onMsu f).rtc = s.rtc := rfl
@[simp] theorem State.onMsu_flc (s : State) (f : MsuState → MsuState) : (s.onMsu f).flc = s.flc := rfl
@[simp] theorem State.onMsu_otp (s : State) (f : MsuState → MsuState) : (s.onMsu f).otp = s.otp := rfl
@[simp] theorem State.onMsu_sram (s : State) (f : MsuState → MsuState) : (s.onMsu f).sram = s.sram := rfl
@[simp] theorem State.onMsu_dmc (s : State) (f : MsuState → MsuState) : (s.onMsu f).dmc = s.dmc := rfl
@[simp] theorem State.onMsu_rf (s : State) (f : MsuState → MsuState) : (s.onMsu f).rf = s.rf := rfl
@[simp] theorem State.onMsu_txp (s : State) (f : MsuState → MsuState) : (s.onMsu f).txp = s.txp := rfl
@[simp] theorem State.onMsu_frm (s : State) (f : MsuState → MsuState) : (s.onMsu f).frm = s.frm := rfl
@[simp] theorem State.onMsu_msu (s : State) (f : MsuState → MsuState) : (s.onMsu f).msu = f s.msu := rfl
@[simp] theorem State.onMsu_sched (s : State) (f : MsuState → MsuState) : (s.onMsu f).sched = s.sched := rfl
@[simp] theorem State.onMsu_lp (s : State) (f : MsuState → MsuState) : (s.onMsu f).lp = s.lp := rfl
@[simp] theorem State.onMsu_pwr (s : State) (f : MsuState → MsuState) : (s.onMsu f).pwr = s.pwr := rfl
@[simp] theorem State.onMsu_ctl (s : State) (f : MsuState → MsuState) : (s.onMsu f).ctl = s.ctl := rfl
@[simp] theorem State.onMsu_vinLow (s : State) (f : MsuState → MsuState) : (s.onMsu f).vinLow = s.vinLow := rfl
@[simp] theorem State.onMsu_roadPend (s : State) (f : MsuState → MsuState) : (s.onMsu f).roadPend = s.roadPend := rfl
@[simp] theorem State.onMsu_pending (s : State) (f : MsuState → MsuState) : (s.onMsu f).pending = s.pending := rfl

/-! ### onSched -/

@[simp] theorem State.onSched_cyc (s : State) (f : SchedState → SchedState) : (s.onSched f).cyc = s.cyc := rfl
@[simp] theorem State.onSched_free (s : State) (f : SchedState → SchedState) : (s.onSched f).free = s.free := rfl
@[simp] theorem State.onSched_regs (s : State) (f : SchedState → SchedState) : (s.onSched f).regs = s.regs := rfl
@[simp] theorem State.onSched_held (s : State) (f : SchedState → SchedState) : (s.onSched f).held = s.held := rfl
@[simp] theorem State.onSched_was (s : State) (f : SchedState → SchedState) : (s.onSched f).was = s.was := rfl
@[simp] theorem State.onSched_busyWas (s : State) (f : SchedState → SchedState) : (s.onSched f).busyWas = s.busyWas := rfl
@[simp] theorem State.onSched_raised (s : State) (f : SchedState → SchedState) : (s.onSched f).raised = s.raised := rfl
@[simp] theorem State.onSched_mem (s : State) (f : SchedState → SchedState) : (s.onSched f).mem = s.mem := rfl
@[simp] theorem State.onSched_err (s : State) (f : SchedState → SchedState) : (s.onSched f).err = s.err := rfl
@[simp] theorem State.onSched_evf (s : State) (f : SchedState → SchedState) : (s.onSched f).evf = s.evf := rfl
@[simp] theorem State.onSched_hcp (s : State) (f : SchedState → SchedState) : (s.onSched f).hcp = s.hcp := rfl
@[simp] theorem State.onSched_core (s : State) (f : SchedState → SchedState) : (s.onSched f).core = s.core := rfl
@[simp] theorem State.onSched_ntc (s : State) (f : SchedState → SchedState) : (s.onSched f).ntc = s.ntc := rfl
@[simp] theorem State.onSched_tmr (s : State) (f : SchedState → SchedState) : (s.onSched f).tmr = s.tmr := rfl
@[simp] theorem State.onSched_rtc (s : State) (f : SchedState → SchedState) : (s.onSched f).rtc = s.rtc := rfl
@[simp] theorem State.onSched_flc (s : State) (f : SchedState → SchedState) : (s.onSched f).flc = s.flc := rfl
@[simp] theorem State.onSched_otp (s : State) (f : SchedState → SchedState) : (s.onSched f).otp = s.otp := rfl
@[simp] theorem State.onSched_sram (s : State) (f : SchedState → SchedState) : (s.onSched f).sram = s.sram := rfl
@[simp] theorem State.onSched_dmc (s : State) (f : SchedState → SchedState) : (s.onSched f).dmc = s.dmc := rfl
@[simp] theorem State.onSched_rf (s : State) (f : SchedState → SchedState) : (s.onSched f).rf = s.rf := rfl
@[simp] theorem State.onSched_txp (s : State) (f : SchedState → SchedState) : (s.onSched f).txp = s.txp := rfl
@[simp] theorem State.onSched_frm (s : State) (f : SchedState → SchedState) : (s.onSched f).frm = s.frm := rfl
@[simp] theorem State.onSched_msu (s : State) (f : SchedState → SchedState) : (s.onSched f).msu = s.msu := rfl
@[simp] theorem State.onSched_sched (s : State) (f : SchedState → SchedState) : (s.onSched f).sched = f s.sched := rfl
@[simp] theorem State.onSched_lp (s : State) (f : SchedState → SchedState) : (s.onSched f).lp = s.lp := rfl
@[simp] theorem State.onSched_pwr (s : State) (f : SchedState → SchedState) : (s.onSched f).pwr = s.pwr := rfl
@[simp] theorem State.onSched_ctl (s : State) (f : SchedState → SchedState) : (s.onSched f).ctl = s.ctl := rfl
@[simp] theorem State.onSched_vinLow (s : State) (f : SchedState → SchedState) : (s.onSched f).vinLow = s.vinLow := rfl
@[simp] theorem State.onSched_roadPend (s : State) (f : SchedState → SchedState) : (s.onSched f).roadPend = s.roadPend := rfl
@[simp] theorem State.onSched_pending (s : State) (f : SchedState → SchedState) : (s.onSched f).pending = s.pending := rfl

/-! ### onLp -/

@[simp] theorem State.onLp_cyc (s : State) (f : LpState → LpState) : (s.onLp f).cyc = s.cyc := rfl
@[simp] theorem State.onLp_free (s : State) (f : LpState → LpState) : (s.onLp f).free = s.free := rfl
@[simp] theorem State.onLp_regs (s : State) (f : LpState → LpState) : (s.onLp f).regs = s.regs := rfl
@[simp] theorem State.onLp_held (s : State) (f : LpState → LpState) : (s.onLp f).held = s.held := rfl
@[simp] theorem State.onLp_was (s : State) (f : LpState → LpState) : (s.onLp f).was = s.was := rfl
@[simp] theorem State.onLp_busyWas (s : State) (f : LpState → LpState) : (s.onLp f).busyWas = s.busyWas := rfl
@[simp] theorem State.onLp_raised (s : State) (f : LpState → LpState) : (s.onLp f).raised = s.raised := rfl
@[simp] theorem State.onLp_mem (s : State) (f : LpState → LpState) : (s.onLp f).mem = s.mem := rfl
@[simp] theorem State.onLp_err (s : State) (f : LpState → LpState) : (s.onLp f).err = s.err := rfl
@[simp] theorem State.onLp_evf (s : State) (f : LpState → LpState) : (s.onLp f).evf = s.evf := rfl
@[simp] theorem State.onLp_hcp (s : State) (f : LpState → LpState) : (s.onLp f).hcp = s.hcp := rfl
@[simp] theorem State.onLp_core (s : State) (f : LpState → LpState) : (s.onLp f).core = s.core := rfl
@[simp] theorem State.onLp_ntc (s : State) (f : LpState → LpState) : (s.onLp f).ntc = s.ntc := rfl
@[simp] theorem State.onLp_tmr (s : State) (f : LpState → LpState) : (s.onLp f).tmr = s.tmr := rfl
@[simp] theorem State.onLp_rtc (s : State) (f : LpState → LpState) : (s.onLp f).rtc = s.rtc := rfl
@[simp] theorem State.onLp_flc (s : State) (f : LpState → LpState) : (s.onLp f).flc = s.flc := rfl
@[simp] theorem State.onLp_otp (s : State) (f : LpState → LpState) : (s.onLp f).otp = s.otp := rfl
@[simp] theorem State.onLp_sram (s : State) (f : LpState → LpState) : (s.onLp f).sram = s.sram := rfl
@[simp] theorem State.onLp_dmc (s : State) (f : LpState → LpState) : (s.onLp f).dmc = s.dmc := rfl
@[simp] theorem State.onLp_rf (s : State) (f : LpState → LpState) : (s.onLp f).rf = s.rf := rfl
@[simp] theorem State.onLp_txp (s : State) (f : LpState → LpState) : (s.onLp f).txp = s.txp := rfl
@[simp] theorem State.onLp_frm (s : State) (f : LpState → LpState) : (s.onLp f).frm = s.frm := rfl
@[simp] theorem State.onLp_msu (s : State) (f : LpState → LpState) : (s.onLp f).msu = s.msu := rfl
@[simp] theorem State.onLp_sched (s : State) (f : LpState → LpState) : (s.onLp f).sched = s.sched := rfl
@[simp] theorem State.onLp_lp (s : State) (f : LpState → LpState) : (s.onLp f).lp = f s.lp := rfl
@[simp] theorem State.onLp_pwr (s : State) (f : LpState → LpState) : (s.onLp f).pwr = s.pwr := rfl
@[simp] theorem State.onLp_ctl (s : State) (f : LpState → LpState) : (s.onLp f).ctl = s.ctl := rfl
@[simp] theorem State.onLp_vinLow (s : State) (f : LpState → LpState) : (s.onLp f).vinLow = s.vinLow := rfl
@[simp] theorem State.onLp_roadPend (s : State) (f : LpState → LpState) : (s.onLp f).roadPend = s.roadPend := rfl
@[simp] theorem State.onLp_pending (s : State) (f : LpState → LpState) : (s.onLp f).pending = s.pending := rfl

/-! ### onCtl -/

@[simp] theorem State.onCtl_cyc (s : State) (f : CtlState → CtlState) : (s.onCtl f).cyc = s.cyc := rfl
@[simp] theorem State.onCtl_free (s : State) (f : CtlState → CtlState) : (s.onCtl f).free = s.free := rfl
@[simp] theorem State.onCtl_regs (s : State) (f : CtlState → CtlState) : (s.onCtl f).regs = s.regs := rfl
@[simp] theorem State.onCtl_held (s : State) (f : CtlState → CtlState) : (s.onCtl f).held = s.held := rfl
@[simp] theorem State.onCtl_was (s : State) (f : CtlState → CtlState) : (s.onCtl f).was = s.was := rfl
@[simp] theorem State.onCtl_busyWas (s : State) (f : CtlState → CtlState) : (s.onCtl f).busyWas = s.busyWas := rfl
@[simp] theorem State.onCtl_raised (s : State) (f : CtlState → CtlState) : (s.onCtl f).raised = s.raised := rfl
@[simp] theorem State.onCtl_mem (s : State) (f : CtlState → CtlState) : (s.onCtl f).mem = s.mem := rfl
@[simp] theorem State.onCtl_err (s : State) (f : CtlState → CtlState) : (s.onCtl f).err = s.err := rfl
@[simp] theorem State.onCtl_evf (s : State) (f : CtlState → CtlState) : (s.onCtl f).evf = s.evf := rfl
@[simp] theorem State.onCtl_hcp (s : State) (f : CtlState → CtlState) : (s.onCtl f).hcp = s.hcp := rfl
@[simp] theorem State.onCtl_core (s : State) (f : CtlState → CtlState) : (s.onCtl f).core = s.core := rfl
@[simp] theorem State.onCtl_ntc (s : State) (f : CtlState → CtlState) : (s.onCtl f).ntc = s.ntc := rfl
@[simp] theorem State.onCtl_tmr (s : State) (f : CtlState → CtlState) : (s.onCtl f).tmr = s.tmr := rfl
@[simp] theorem State.onCtl_rtc (s : State) (f : CtlState → CtlState) : (s.onCtl f).rtc = s.rtc := rfl
@[simp] theorem State.onCtl_flc (s : State) (f : CtlState → CtlState) : (s.onCtl f).flc = s.flc := rfl
@[simp] theorem State.onCtl_otp (s : State) (f : CtlState → CtlState) : (s.onCtl f).otp = s.otp := rfl
@[simp] theorem State.onCtl_sram (s : State) (f : CtlState → CtlState) : (s.onCtl f).sram = s.sram := rfl
@[simp] theorem State.onCtl_dmc (s : State) (f : CtlState → CtlState) : (s.onCtl f).dmc = s.dmc := rfl
@[simp] theorem State.onCtl_rf (s : State) (f : CtlState → CtlState) : (s.onCtl f).rf = s.rf := rfl
@[simp] theorem State.onCtl_txp (s : State) (f : CtlState → CtlState) : (s.onCtl f).txp = s.txp := rfl
@[simp] theorem State.onCtl_frm (s : State) (f : CtlState → CtlState) : (s.onCtl f).frm = s.frm := rfl
@[simp] theorem State.onCtl_msu (s : State) (f : CtlState → CtlState) : (s.onCtl f).msu = s.msu := rfl
@[simp] theorem State.onCtl_sched (s : State) (f : CtlState → CtlState) : (s.onCtl f).sched = s.sched := rfl
@[simp] theorem State.onCtl_lp (s : State) (f : CtlState → CtlState) : (s.onCtl f).lp = s.lp := rfl
@[simp] theorem State.onCtl_pwr (s : State) (f : CtlState → CtlState) : (s.onCtl f).pwr = s.pwr := rfl
@[simp] theorem State.onCtl_ctl (s : State) (f : CtlState → CtlState) : (s.onCtl f).ctl = f s.ctl := rfl
@[simp] theorem State.onCtl_vinLow (s : State) (f : CtlState → CtlState) : (s.onCtl f).vinLow = s.vinLow := rfl
@[simp] theorem State.onCtl_roadPend (s : State) (f : CtlState → CtlState) : (s.onCtl f).roadPend = s.roadPend := rfl
@[simp] theorem State.onCtl_pending (s : State) (f : CtlState → CtlState) : (s.onCtl f).pending = s.pending := rfl

/-! ### onTmr -/

@[simp] theorem State.onTmr_cyc (s : State) (f : TmrState → TmrState) : (s.onTmr f).cyc = s.cyc := rfl
@[simp] theorem State.onTmr_free (s : State) (f : TmrState → TmrState) : (s.onTmr f).free = s.free := rfl
@[simp] theorem State.onTmr_regs (s : State) (f : TmrState → TmrState) : (s.onTmr f).regs = s.regs := rfl
@[simp] theorem State.onTmr_held (s : State) (f : TmrState → TmrState) : (s.onTmr f).held = s.held := rfl
@[simp] theorem State.onTmr_was (s : State) (f : TmrState → TmrState) : (s.onTmr f).was = s.was := rfl
@[simp] theorem State.onTmr_busyWas (s : State) (f : TmrState → TmrState) : (s.onTmr f).busyWas = s.busyWas := rfl
@[simp] theorem State.onTmr_raised (s : State) (f : TmrState → TmrState) : (s.onTmr f).raised = s.raised := rfl
@[simp] theorem State.onTmr_mem (s : State) (f : TmrState → TmrState) : (s.onTmr f).mem = s.mem := rfl
@[simp] theorem State.onTmr_err (s : State) (f : TmrState → TmrState) : (s.onTmr f).err = s.err := rfl
@[simp] theorem State.onTmr_evf (s : State) (f : TmrState → TmrState) : (s.onTmr f).evf = s.evf := rfl
@[simp] theorem State.onTmr_hcp (s : State) (f : TmrState → TmrState) : (s.onTmr f).hcp = s.hcp := rfl
@[simp] theorem State.onTmr_core (s : State) (f : TmrState → TmrState) : (s.onTmr f).core = s.core := rfl
@[simp] theorem State.onTmr_ntc (s : State) (f : TmrState → TmrState) : (s.onTmr f).ntc = s.ntc := rfl
@[simp] theorem State.onTmr_tmr (s : State) (f : TmrState → TmrState) : (s.onTmr f).tmr = f s.tmr := rfl
@[simp] theorem State.onTmr_rtc (s : State) (f : TmrState → TmrState) : (s.onTmr f).rtc = s.rtc := rfl
@[simp] theorem State.onTmr_flc (s : State) (f : TmrState → TmrState) : (s.onTmr f).flc = s.flc := rfl
@[simp] theorem State.onTmr_otp (s : State) (f : TmrState → TmrState) : (s.onTmr f).otp = s.otp := rfl
@[simp] theorem State.onTmr_sram (s : State) (f : TmrState → TmrState) : (s.onTmr f).sram = s.sram := rfl
@[simp] theorem State.onTmr_dmc (s : State) (f : TmrState → TmrState) : (s.onTmr f).dmc = s.dmc := rfl
@[simp] theorem State.onTmr_rf (s : State) (f : TmrState → TmrState) : (s.onTmr f).rf = s.rf := rfl
@[simp] theorem State.onTmr_txp (s : State) (f : TmrState → TmrState) : (s.onTmr f).txp = s.txp := rfl
@[simp] theorem State.onTmr_frm (s : State) (f : TmrState → TmrState) : (s.onTmr f).frm = s.frm := rfl
@[simp] theorem State.onTmr_msu (s : State) (f : TmrState → TmrState) : (s.onTmr f).msu = s.msu := rfl
@[simp] theorem State.onTmr_sched (s : State) (f : TmrState → TmrState) : (s.onTmr f).sched = s.sched := rfl
@[simp] theorem State.onTmr_lp (s : State) (f : TmrState → TmrState) : (s.onTmr f).lp = s.lp := rfl
@[simp] theorem State.onTmr_pwr (s : State) (f : TmrState → TmrState) : (s.onTmr f).pwr = s.pwr := rfl
@[simp] theorem State.onTmr_ctl (s : State) (f : TmrState → TmrState) : (s.onTmr f).ctl = s.ctl := rfl
@[simp] theorem State.onTmr_vinLow (s : State) (f : TmrState → TmrState) : (s.onTmr f).vinLow = s.vinLow := rfl
@[simp] theorem State.onTmr_roadPend (s : State) (f : TmrState → TmrState) : (s.onTmr f).roadPend = s.roadPend := rfl
@[simp] theorem State.onTmr_pending (s : State) (f : TmrState → TmrState) : (s.onTmr f).pending = s.pending := rfl

/-! ### onRtc -/

@[simp] theorem State.onRtc_cyc (s : State) (f : RtcState → RtcState) : (s.onRtc f).cyc = s.cyc := rfl
@[simp] theorem State.onRtc_free (s : State) (f : RtcState → RtcState) : (s.onRtc f).free = s.free := rfl
@[simp] theorem State.onRtc_regs (s : State) (f : RtcState → RtcState) : (s.onRtc f).regs = s.regs := rfl
@[simp] theorem State.onRtc_held (s : State) (f : RtcState → RtcState) : (s.onRtc f).held = s.held := rfl
@[simp] theorem State.onRtc_was (s : State) (f : RtcState → RtcState) : (s.onRtc f).was = s.was := rfl
@[simp] theorem State.onRtc_busyWas (s : State) (f : RtcState → RtcState) : (s.onRtc f).busyWas = s.busyWas := rfl
@[simp] theorem State.onRtc_raised (s : State) (f : RtcState → RtcState) : (s.onRtc f).raised = s.raised := rfl
@[simp] theorem State.onRtc_mem (s : State) (f : RtcState → RtcState) : (s.onRtc f).mem = s.mem := rfl
@[simp] theorem State.onRtc_err (s : State) (f : RtcState → RtcState) : (s.onRtc f).err = s.err := rfl
@[simp] theorem State.onRtc_evf (s : State) (f : RtcState → RtcState) : (s.onRtc f).evf = s.evf := rfl
@[simp] theorem State.onRtc_hcp (s : State) (f : RtcState → RtcState) : (s.onRtc f).hcp = s.hcp := rfl
@[simp] theorem State.onRtc_core (s : State) (f : RtcState → RtcState) : (s.onRtc f).core = s.core := rfl
@[simp] theorem State.onRtc_ntc (s : State) (f : RtcState → RtcState) : (s.onRtc f).ntc = s.ntc := rfl
@[simp] theorem State.onRtc_tmr (s : State) (f : RtcState → RtcState) : (s.onRtc f).tmr = s.tmr := rfl
@[simp] theorem State.onRtc_rtc (s : State) (f : RtcState → RtcState) : (s.onRtc f).rtc = f s.rtc := rfl
@[simp] theorem State.onRtc_flc (s : State) (f : RtcState → RtcState) : (s.onRtc f).flc = s.flc := rfl
@[simp] theorem State.onRtc_otp (s : State) (f : RtcState → RtcState) : (s.onRtc f).otp = s.otp := rfl
@[simp] theorem State.onRtc_sram (s : State) (f : RtcState → RtcState) : (s.onRtc f).sram = s.sram := rfl
@[simp] theorem State.onRtc_dmc (s : State) (f : RtcState → RtcState) : (s.onRtc f).dmc = s.dmc := rfl
@[simp] theorem State.onRtc_rf (s : State) (f : RtcState → RtcState) : (s.onRtc f).rf = s.rf := rfl
@[simp] theorem State.onRtc_txp (s : State) (f : RtcState → RtcState) : (s.onRtc f).txp = s.txp := rfl
@[simp] theorem State.onRtc_frm (s : State) (f : RtcState → RtcState) : (s.onRtc f).frm = s.frm := rfl
@[simp] theorem State.onRtc_msu (s : State) (f : RtcState → RtcState) : (s.onRtc f).msu = s.msu := rfl
@[simp] theorem State.onRtc_sched (s : State) (f : RtcState → RtcState) : (s.onRtc f).sched = s.sched := rfl
@[simp] theorem State.onRtc_lp (s : State) (f : RtcState → RtcState) : (s.onRtc f).lp = s.lp := rfl
@[simp] theorem State.onRtc_pwr (s : State) (f : RtcState → RtcState) : (s.onRtc f).pwr = s.pwr := rfl
@[simp] theorem State.onRtc_ctl (s : State) (f : RtcState → RtcState) : (s.onRtc f).ctl = s.ctl := rfl
@[simp] theorem State.onRtc_vinLow (s : State) (f : RtcState → RtcState) : (s.onRtc f).vinLow = s.vinLow := rfl
@[simp] theorem State.onRtc_roadPend (s : State) (f : RtcState → RtcState) : (s.onRtc f).roadPend = s.roadPend := rfl
@[simp] theorem State.onRtc_pending (s : State) (f : RtcState → RtcState) : (s.onRtc f).pending = s.pending := rfl

/-! ### onPwr -/

@[simp] theorem State.onPwr_cyc (s : State) (f : PwrState → PwrState) : (s.onPwr f).cyc = s.cyc := rfl
@[simp] theorem State.onPwr_free (s : State) (f : PwrState → PwrState) : (s.onPwr f).free = s.free := rfl
@[simp] theorem State.onPwr_regs (s : State) (f : PwrState → PwrState) : (s.onPwr f).regs = s.regs := rfl
@[simp] theorem State.onPwr_held (s : State) (f : PwrState → PwrState) : (s.onPwr f).held = s.held := rfl
@[simp] theorem State.onPwr_was (s : State) (f : PwrState → PwrState) : (s.onPwr f).was = s.was := rfl
@[simp] theorem State.onPwr_busyWas (s : State) (f : PwrState → PwrState) : (s.onPwr f).busyWas = s.busyWas := rfl
@[simp] theorem State.onPwr_raised (s : State) (f : PwrState → PwrState) : (s.onPwr f).raised = s.raised := rfl
@[simp] theorem State.onPwr_mem (s : State) (f : PwrState → PwrState) : (s.onPwr f).mem = s.mem := rfl
@[simp] theorem State.onPwr_err (s : State) (f : PwrState → PwrState) : (s.onPwr f).err = s.err := rfl
@[simp] theorem State.onPwr_evf (s : State) (f : PwrState → PwrState) : (s.onPwr f).evf = s.evf := rfl
@[simp] theorem State.onPwr_hcp (s : State) (f : PwrState → PwrState) : (s.onPwr f).hcp = s.hcp := rfl
@[simp] theorem State.onPwr_core (s : State) (f : PwrState → PwrState) : (s.onPwr f).core = s.core := rfl
@[simp] theorem State.onPwr_ntc (s : State) (f : PwrState → PwrState) : (s.onPwr f).ntc = s.ntc := rfl
@[simp] theorem State.onPwr_tmr (s : State) (f : PwrState → PwrState) : (s.onPwr f).tmr = s.tmr := rfl
@[simp] theorem State.onPwr_rtc (s : State) (f : PwrState → PwrState) : (s.onPwr f).rtc = s.rtc := rfl
@[simp] theorem State.onPwr_flc (s : State) (f : PwrState → PwrState) : (s.onPwr f).flc = s.flc := rfl
@[simp] theorem State.onPwr_otp (s : State) (f : PwrState → PwrState) : (s.onPwr f).otp = s.otp := rfl
@[simp] theorem State.onPwr_sram (s : State) (f : PwrState → PwrState) : (s.onPwr f).sram = s.sram := rfl
@[simp] theorem State.onPwr_dmc (s : State) (f : PwrState → PwrState) : (s.onPwr f).dmc = s.dmc := rfl
@[simp] theorem State.onPwr_rf (s : State) (f : PwrState → PwrState) : (s.onPwr f).rf = s.rf := rfl
@[simp] theorem State.onPwr_txp (s : State) (f : PwrState → PwrState) : (s.onPwr f).txp = s.txp := rfl
@[simp] theorem State.onPwr_frm (s : State) (f : PwrState → PwrState) : (s.onPwr f).frm = s.frm := rfl
@[simp] theorem State.onPwr_msu (s : State) (f : PwrState → PwrState) : (s.onPwr f).msu = s.msu := rfl
@[simp] theorem State.onPwr_sched (s : State) (f : PwrState → PwrState) : (s.onPwr f).sched = s.sched := rfl
@[simp] theorem State.onPwr_lp (s : State) (f : PwrState → PwrState) : (s.onPwr f).lp = s.lp := rfl
@[simp] theorem State.onPwr_pwr (s : State) (f : PwrState → PwrState) : (s.onPwr f).pwr = f s.pwr := rfl
@[simp] theorem State.onPwr_ctl (s : State) (f : PwrState → PwrState) : (s.onPwr f).ctl = s.ctl := rfl
@[simp] theorem State.onPwr_vinLow (s : State) (f : PwrState → PwrState) : (s.onPwr f).vinLow = s.vinLow := rfl
@[simp] theorem State.onPwr_roadPend (s : State) (f : PwrState → PwrState) : (s.onPwr f).roadPend = s.roadPend := rfl
@[simp] theorem State.onPwr_pending (s : State) (f : PwrState → PwrState) : (s.onPwr f).pending = s.pending := rfl

/-! ### noteRaised -/

@[simp] theorem State.noteRaised_cyc (s : State) (r : RegName) (n : Nat) (m : Word) : (s.noteRaised r n m).cyc = s.cyc := by unfold State.noteRaised; split <;> rfl
@[simp] theorem State.noteRaised_free (s : State) (r : RegName) (n : Nat) (m : Word) : (s.noteRaised r n m).free = s.free := by unfold State.noteRaised; split <;> rfl
@[simp] theorem State.noteRaised_regs (s : State) (r : RegName) (n : Nat) (m : Word) : (s.noteRaised r n m).regs = s.regs := by unfold State.noteRaised; split <;> rfl
@[simp] theorem State.noteRaised_held (s : State) (r : RegName) (n : Nat) (m : Word) : (s.noteRaised r n m).held = s.held := by unfold State.noteRaised; split <;> rfl
@[simp] theorem State.noteRaised_was (s : State) (r : RegName) (n : Nat) (m : Word) : (s.noteRaised r n m).was = s.was := by unfold State.noteRaised; split <;> rfl
@[simp] theorem State.noteRaised_busyWas (s : State) (r : RegName) (n : Nat) (m : Word) : (s.noteRaised r n m).busyWas = s.busyWas := by unfold State.noteRaised; split <;> rfl
@[simp] theorem State.noteRaised_mem (s : State) (r : RegName) (n : Nat) (m : Word) : (s.noteRaised r n m).mem = s.mem := by unfold State.noteRaised; split <;> rfl
@[simp] theorem State.noteRaised_err (s : State) (r : RegName) (n : Nat) (m : Word) : (s.noteRaised r n m).err = s.err := by unfold State.noteRaised; split <;> rfl
@[simp] theorem State.noteRaised_evf (s : State) (r : RegName) (n : Nat) (m : Word) : (s.noteRaised r n m).evf = s.evf := by unfold State.noteRaised; split <;> rfl
@[simp] theorem State.noteRaised_hcp (s : State) (r : RegName) (n : Nat) (m : Word) : (s.noteRaised r n m).hcp = s.hcp := by unfold State.noteRaised; split <;> rfl
@[simp] theorem State.noteRaised_core (s : State) (r : RegName) (n : Nat) (m : Word) : (s.noteRaised r n m).core = s.core := by unfold State.noteRaised; split <;> rfl
@[simp] theorem State.noteRaised_ntc (s : State) (r : RegName) (n : Nat) (m : Word) : (s.noteRaised r n m).ntc = s.ntc := by unfold State.noteRaised; split <;> rfl
@[simp] theorem State.noteRaised_tmr (s : State) (r : RegName) (n : Nat) (m : Word) : (s.noteRaised r n m).tmr = s.tmr := by unfold State.noteRaised; split <;> rfl
@[simp] theorem State.noteRaised_rtc (s : State) (r : RegName) (n : Nat) (m : Word) : (s.noteRaised r n m).rtc = s.rtc := by unfold State.noteRaised; split <;> rfl
@[simp] theorem State.noteRaised_flc (s : State) (r : RegName) (n : Nat) (m : Word) : (s.noteRaised r n m).flc = s.flc := by unfold State.noteRaised; split <;> rfl
@[simp] theorem State.noteRaised_otp (s : State) (r : RegName) (n : Nat) (m : Word) : (s.noteRaised r n m).otp = s.otp := by unfold State.noteRaised; split <;> rfl
@[simp] theorem State.noteRaised_sram (s : State) (r : RegName) (n : Nat) (m : Word) : (s.noteRaised r n m).sram = s.sram := by unfold State.noteRaised; split <;> rfl
@[simp] theorem State.noteRaised_dmc (s : State) (r : RegName) (n : Nat) (m : Word) : (s.noteRaised r n m).dmc = s.dmc := by unfold State.noteRaised; split <;> rfl
@[simp] theorem State.noteRaised_rf (s : State) (r : RegName) (n : Nat) (m : Word) : (s.noteRaised r n m).rf = s.rf := by unfold State.noteRaised; split <;> rfl
@[simp] theorem State.noteRaised_txp (s : State) (r : RegName) (n : Nat) (m : Word) : (s.noteRaised r n m).txp = s.txp := by unfold State.noteRaised; split <;> rfl
@[simp] theorem State.noteRaised_frm (s : State) (r : RegName) (n : Nat) (m : Word) : (s.noteRaised r n m).frm = s.frm := by unfold State.noteRaised; split <;> rfl
@[simp] theorem State.noteRaised_msu (s : State) (r : RegName) (n : Nat) (m : Word) : (s.noteRaised r n m).msu = s.msu := by unfold State.noteRaised; split <;> rfl
@[simp] theorem State.noteRaised_sched (s : State) (r : RegName) (n : Nat) (m : Word) : (s.noteRaised r n m).sched = s.sched := by unfold State.noteRaised; split <;> rfl
@[simp] theorem State.noteRaised_lp (s : State) (r : RegName) (n : Nat) (m : Word) : (s.noteRaised r n m).lp = s.lp := by unfold State.noteRaised; split <;> rfl
@[simp] theorem State.noteRaised_pwr (s : State) (r : RegName) (n : Nat) (m : Word) : (s.noteRaised r n m).pwr = s.pwr := by unfold State.noteRaised; split <;> rfl
@[simp] theorem State.noteRaised_ctl (s : State) (r : RegName) (n : Nat) (m : Word) : (s.noteRaised r n m).ctl = s.ctl := by unfold State.noteRaised; split <;> rfl
@[simp] theorem State.noteRaised_vinLow (s : State) (r : RegName) (n : Nat) (m : Word) : (s.noteRaised r n m).vinLow = s.vinLow := by unfold State.noteRaised; split <;> rfl
@[simp] theorem State.noteRaised_roadPend (s : State) (r : RegName) (n : Nat) (m : Word) : (s.noteRaised r n m).roadPend = s.roadPend := by unfold State.noteRaised; split <;> rfl
@[simp] theorem State.noteRaised_pending (s : State) (r : RegName) (n : Nat) (m : Word) : (s.noteRaised r n m).pending = s.pending := by unfold State.noteRaised; split <;> rfl

/-! ### setFld -/

@[simp] theorem State.setFld_cyc (s : State) (f : Fld) (v n : Nat) : (s.setFld f v n).cyc = s.cyc := by simp [State.setFld]
@[simp] theorem State.setFld_free (s : State) (f : Fld) (v n : Nat) : (s.setFld f v n).free = s.free := by simp [State.setFld]
@[simp] theorem State.setFld_held (s : State) (f : Fld) (v n : Nat) : (s.setFld f v n).held = s.held := by simp [State.setFld]
@[simp] theorem State.setFld_was (s : State) (f : Fld) (v n : Nat) : (s.setFld f v n).was = s.was := by simp [State.setFld]
@[simp] theorem State.setFld_busyWas (s : State) (f : Fld) (v n : Nat) : (s.setFld f v n).busyWas = s.busyWas := by simp [State.setFld]
@[simp] theorem State.setFld_mem (s : State) (f : Fld) (v n : Nat) : (s.setFld f v n).mem = s.mem := by simp [State.setFld]
@[simp] theorem State.setFld_err (s : State) (f : Fld) (v n : Nat) : (s.setFld f v n).err = s.err := by simp [State.setFld]
@[simp] theorem State.setFld_evf (s : State) (f : Fld) (v n : Nat) : (s.setFld f v n).evf = s.evf := by simp [State.setFld]
@[simp] theorem State.setFld_hcp (s : State) (f : Fld) (v n : Nat) : (s.setFld f v n).hcp = s.hcp := by simp [State.setFld]
@[simp] theorem State.setFld_core (s : State) (f : Fld) (v n : Nat) : (s.setFld f v n).core = s.core := by simp [State.setFld]
@[simp] theorem State.setFld_ntc (s : State) (f : Fld) (v n : Nat) : (s.setFld f v n).ntc = s.ntc := by simp [State.setFld]
@[simp] theorem State.setFld_tmr (s : State) (f : Fld) (v n : Nat) : (s.setFld f v n).tmr = s.tmr := by simp [State.setFld]
@[simp] theorem State.setFld_rtc (s : State) (f : Fld) (v n : Nat) : (s.setFld f v n).rtc = s.rtc := by simp [State.setFld]
@[simp] theorem State.setFld_flc (s : State) (f : Fld) (v n : Nat) : (s.setFld f v n).flc = s.flc := by simp [State.setFld]
@[simp] theorem State.setFld_otp (s : State) (f : Fld) (v n : Nat) : (s.setFld f v n).otp = s.otp := by simp [State.setFld]
@[simp] theorem State.setFld_sram (s : State) (f : Fld) (v n : Nat) : (s.setFld f v n).sram = s.sram := by simp [State.setFld]
@[simp] theorem State.setFld_dmc (s : State) (f : Fld) (v n : Nat) : (s.setFld f v n).dmc = s.dmc := by simp [State.setFld]
@[simp] theorem State.setFld_rf (s : State) (f : Fld) (v n : Nat) : (s.setFld f v n).rf = s.rf := by simp [State.setFld]
@[simp] theorem State.setFld_txp (s : State) (f : Fld) (v n : Nat) : (s.setFld f v n).txp = s.txp := by simp [State.setFld]
@[simp] theorem State.setFld_frm (s : State) (f : Fld) (v n : Nat) : (s.setFld f v n).frm = s.frm := by simp [State.setFld]
@[simp] theorem State.setFld_msu (s : State) (f : Fld) (v n : Nat) : (s.setFld f v n).msu = s.msu := by simp [State.setFld]
@[simp] theorem State.setFld_sched (s : State) (f : Fld) (v n : Nat) : (s.setFld f v n).sched = s.sched := by simp [State.setFld]
@[simp] theorem State.setFld_lp (s : State) (f : Fld) (v n : Nat) : (s.setFld f v n).lp = s.lp := by simp [State.setFld]
@[simp] theorem State.setFld_pwr (s : State) (f : Fld) (v n : Nat) : (s.setFld f v n).pwr = s.pwr := by simp [State.setFld]
@[simp] theorem State.setFld_ctl (s : State) (f : Fld) (v n : Nat) : (s.setFld f v n).ctl = s.ctl := by simp [State.setFld]
@[simp] theorem State.setFld_vinLow (s : State) (f : Fld) (v n : Nat) : (s.setFld f v n).vinLow = s.vinLow := by simp [State.setFld]
@[simp] theorem State.setFld_roadPend (s : State) (f : Fld) (v n : Nat) : (s.setFld f v n).roadPend = s.roadPend := by simp [State.setFld]
@[simp] theorem State.setFld_pending (s : State) (f : Fld) (v n : Nat) : (s.setFld f v n).pending = s.pending := by simp [State.setFld]

@[simp] theorem State.setFld_regs (s : State) (f : Fld) (v n : Nat) :
    (s.setFld f v n).regs = (s.setReg f.reg n (wordPut (s.reg f.reg n) f.hi f.lo v)).regs := by simp [State.setFld]

/-! ### setTp -/

@[simp] theorem State.setTp_cyc (s : State) (t : Tp) (x : TpState) : (s.setTp t x).cyc = s.cyc := rfl
@[simp] theorem State.setTp_free (s : State) (t : Tp) (x : TpState) : (s.setTp t x).free = s.free := rfl
@[simp] theorem State.setTp_regs (s : State) (t : Tp) (x : TpState) : (s.setTp t x).regs = s.regs := rfl
@[simp] theorem State.setTp_held (s : State) (t : Tp) (x : TpState) : (s.setTp t x).held = s.held := rfl
@[simp] theorem State.setTp_was (s : State) (t : Tp) (x : TpState) : (s.setTp t x).was = s.was := rfl
@[simp] theorem State.setTp_busyWas (s : State) (t : Tp) (x : TpState) : (s.setTp t x).busyWas = s.busyWas := rfl
@[simp] theorem State.setTp_raised (s : State) (t : Tp) (x : TpState) : (s.setTp t x).raised = s.raised := rfl
@[simp] theorem State.setTp_mem (s : State) (t : Tp) (x : TpState) : (s.setTp t x).mem = s.mem := rfl
@[simp] theorem State.setTp_err (s : State) (t : Tp) (x : TpState) : (s.setTp t x).err = s.err := rfl
@[simp] theorem State.setTp_evf (s : State) (t : Tp) (x : TpState) : (s.setTp t x).evf = s.evf := rfl
@[simp] theorem State.setTp_core (s : State) (t : Tp) (x : TpState) : (s.setTp t x).core = s.core := rfl
@[simp] theorem State.setTp_ntc (s : State) (t : Tp) (x : TpState) : (s.setTp t x).ntc = s.ntc := rfl
@[simp] theorem State.setTp_tmr (s : State) (t : Tp) (x : TpState) : (s.setTp t x).tmr = s.tmr := rfl
@[simp] theorem State.setTp_rtc (s : State) (t : Tp) (x : TpState) : (s.setTp t x).rtc = s.rtc := rfl
@[simp] theorem State.setTp_flc (s : State) (t : Tp) (x : TpState) : (s.setTp t x).flc = s.flc := rfl
@[simp] theorem State.setTp_otp (s : State) (t : Tp) (x : TpState) : (s.setTp t x).otp = s.otp := rfl
@[simp] theorem State.setTp_sram (s : State) (t : Tp) (x : TpState) : (s.setTp t x).sram = s.sram := rfl
@[simp] theorem State.setTp_dmc (s : State) (t : Tp) (x : TpState) : (s.setTp t x).dmc = s.dmc := rfl
@[simp] theorem State.setTp_rf (s : State) (t : Tp) (x : TpState) : (s.setTp t x).rf = s.rf := rfl
@[simp] theorem State.setTp_txp (s : State) (t : Tp) (x : TpState) : (s.setTp t x).txp = s.txp := rfl
@[simp] theorem State.setTp_frm (s : State) (t : Tp) (x : TpState) : (s.setTp t x).frm = s.frm := rfl
@[simp] theorem State.setTp_msu (s : State) (t : Tp) (x : TpState) : (s.setTp t x).msu = s.msu := rfl
@[simp] theorem State.setTp_sched (s : State) (t : Tp) (x : TpState) : (s.setTp t x).sched = s.sched := rfl
@[simp] theorem State.setTp_lp (s : State) (t : Tp) (x : TpState) : (s.setTp t x).lp = s.lp := rfl
@[simp] theorem State.setTp_pwr (s : State) (t : Tp) (x : TpState) : (s.setTp t x).pwr = s.pwr := rfl
@[simp] theorem State.setTp_ctl (s : State) (t : Tp) (x : TpState) : (s.setTp t x).ctl = s.ctl := rfl
@[simp] theorem State.setTp_vinLow (s : State) (t : Tp) (x : TpState) : (s.setTp t x).vinLow = s.vinLow := rfl
@[simp] theorem State.setTp_roadPend (s : State) (t : Tp) (x : TpState) : (s.setTp t x).roadPend = s.roadPend := rfl
@[simp] theorem State.setTp_pending (s : State) (t : Tp) (x : TpState) : (s.setTp t x).pending = s.pending := rfl

/-! ### onLine -/

@[simp] theorem State.onLine_cyc (s : State) (p : Nat) (f : LinePort → LinePort) : (s.onLine p f).cyc = s.cyc := rfl
@[simp] theorem State.onLine_free (s : State) (p : Nat) (f : LinePort → LinePort) : (s.onLine p f).free = s.free := rfl
@[simp] theorem State.onLine_regs (s : State) (p : Nat) (f : LinePort → LinePort) : (s.onLine p f).regs = s.regs := rfl
@[simp] theorem State.onLine_held (s : State) (p : Nat) (f : LinePort → LinePort) : (s.onLine p f).held = s.held := rfl
@[simp] theorem State.onLine_was (s : State) (p : Nat) (f : LinePort → LinePort) : (s.onLine p f).was = s.was := rfl
@[simp] theorem State.onLine_busyWas (s : State) (p : Nat) (f : LinePort → LinePort) : (s.onLine p f).busyWas = s.busyWas := rfl
@[simp] theorem State.onLine_raised (s : State) (p : Nat) (f : LinePort → LinePort) : (s.onLine p f).raised = s.raised := rfl
@[simp] theorem State.onLine_mem (s : State) (p : Nat) (f : LinePort → LinePort) : (s.onLine p f).mem = s.mem := rfl
@[simp] theorem State.onLine_err (s : State) (p : Nat) (f : LinePort → LinePort) : (s.onLine p f).err = s.err := rfl
@[simp] theorem State.onLine_evf (s : State) (p : Nat) (f : LinePort → LinePort) : (s.onLine p f).evf = s.evf := rfl
@[simp] theorem State.onLine_hcp (s : State) (p : Nat) (f : LinePort → LinePort) : (s.onLine p f).hcp = s.hcp := rfl
@[simp] theorem State.onLine_core (s : State) (p : Nat) (f : LinePort → LinePort) : (s.onLine p f).core = s.core := rfl
@[simp] theorem State.onLine_ntc (s : State) (p : Nat) (f : LinePort → LinePort) : (s.onLine p f).ntc = s.ntc := rfl
@[simp] theorem State.onLine_tmr (s : State) (p : Nat) (f : LinePort → LinePort) : (s.onLine p f).tmr = s.tmr := rfl
@[simp] theorem State.onLine_rtc (s : State) (p : Nat) (f : LinePort → LinePort) : (s.onLine p f).rtc = s.rtc := rfl
@[simp] theorem State.onLine_flc (s : State) (p : Nat) (f : LinePort → LinePort) : (s.onLine p f).flc = s.flc := rfl
@[simp] theorem State.onLine_otp (s : State) (p : Nat) (f : LinePort → LinePort) : (s.onLine p f).otp = s.otp := rfl
@[simp] theorem State.onLine_sram (s : State) (p : Nat) (f : LinePort → LinePort) : (s.onLine p f).sram = s.sram := rfl
@[simp] theorem State.onLine_dmc (s : State) (p : Nat) (f : LinePort → LinePort) : (s.onLine p f).dmc = s.dmc := rfl
@[simp] theorem State.onLine_rf (s : State) (p : Nat) (f : LinePort → LinePort) : (s.onLine p f).rf = s.rf := rfl
@[simp] theorem State.onLine_txp (s : State) (p : Nat) (f : LinePort → LinePort) : (s.onLine p f).txp = s.txp := rfl
@[simp] theorem State.onLine_frm (s : State) (p : Nat) (f : LinePort → LinePort) : (s.onLine p f).frm = s.frm := rfl
@[simp] theorem State.onLine_msu (s : State) (p : Nat) (f : LinePort → LinePort) : (s.onLine p f).msu = s.msu := rfl
@[simp] theorem State.onLine_sched (s : State) (p : Nat) (f : LinePort → LinePort) : (s.onLine p f).sched = s.sched := rfl
@[simp] theorem State.onLine_pwr (s : State) (p : Nat) (f : LinePort → LinePort) : (s.onLine p f).pwr = s.pwr := rfl
@[simp] theorem State.onLine_ctl (s : State) (p : Nat) (f : LinePort → LinePort) : (s.onLine p f).ctl = s.ctl := rfl
@[simp] theorem State.onLine_vinLow (s : State) (p : Nat) (f : LinePort → LinePort) : (s.onLine p f).vinLow = s.vinLow := rfl
@[simp] theorem State.onLine_roadPend (s : State) (p : Nat) (f : LinePort → LinePort) : (s.onLine p f).roadPend = s.roadPend := rfl
@[simp] theorem State.onLine_pending (s : State) (p : Nat) (f : LinePort → LinePort) : (s.onLine p f).pending = s.pending := rfl

/-! ### setMile -/

@[simp] theorem State.setMile_cyc (s : State) (k : Nat) (m : Milestone) : (s.setMile k m).cyc = s.cyc := rfl
@[simp] theorem State.setMile_free (s : State) (k : Nat) (m : Milestone) : (s.setMile k m).free = s.free := rfl
@[simp] theorem State.setMile_regs (s : State) (k : Nat) (m : Milestone) : (s.setMile k m).regs = s.regs := rfl
@[simp] theorem State.setMile_held (s : State) (k : Nat) (m : Milestone) : (s.setMile k m).held = s.held := rfl
@[simp] theorem State.setMile_was (s : State) (k : Nat) (m : Milestone) : (s.setMile k m).was = s.was := rfl
@[simp] theorem State.setMile_busyWas (s : State) (k : Nat) (m : Milestone) : (s.setMile k m).busyWas = s.busyWas := rfl
@[simp] theorem State.setMile_raised (s : State) (k : Nat) (m : Milestone) : (s.setMile k m).raised = s.raised := rfl
@[simp] theorem State.setMile_mem (s : State) (k : Nat) (m : Milestone) : (s.setMile k m).mem = s.mem := rfl
@[simp] theorem State.setMile_err (s : State) (k : Nat) (m : Milestone) : (s.setMile k m).err = s.err := rfl
@[simp] theorem State.setMile_evf (s : State) (k : Nat) (m : Milestone) : (s.setMile k m).evf = s.evf := rfl
@[simp] theorem State.setMile_hcp (s : State) (k : Nat) (m : Milestone) : (s.setMile k m).hcp = s.hcp := rfl
@[simp] theorem State.setMile_core (s : State) (k : Nat) (m : Milestone) : (s.setMile k m).core = s.core := rfl
@[simp] theorem State.setMile_ntc (s : State) (k : Nat) (m : Milestone) : (s.setMile k m).ntc = s.ntc := rfl
@[simp] theorem State.setMile_tmr (s : State) (k : Nat) (m : Milestone) : (s.setMile k m).tmr = s.tmr := rfl
@[simp] theorem State.setMile_rtc (s : State) (k : Nat) (m : Milestone) : (s.setMile k m).rtc = s.rtc := rfl
@[simp] theorem State.setMile_flc (s : State) (k : Nat) (m : Milestone) : (s.setMile k m).flc = s.flc := rfl
@[simp] theorem State.setMile_otp (s : State) (k : Nat) (m : Milestone) : (s.setMile k m).otp = s.otp := rfl
@[simp] theorem State.setMile_sram (s : State) (k : Nat) (m : Milestone) : (s.setMile k m).sram = s.sram := rfl
@[simp] theorem State.setMile_dmc (s : State) (k : Nat) (m : Milestone) : (s.setMile k m).dmc = s.dmc := rfl
@[simp] theorem State.setMile_rf (s : State) (k : Nat) (m : Milestone) : (s.setMile k m).rf = s.rf := rfl
@[simp] theorem State.setMile_txp (s : State) (k : Nat) (m : Milestone) : (s.setMile k m).txp = s.txp := rfl
@[simp] theorem State.setMile_frm (s : State) (k : Nat) (m : Milestone) : (s.setMile k m).frm = s.frm := rfl
@[simp] theorem State.setMile_sched (s : State) (k : Nat) (m : Milestone) : (s.setMile k m).sched = s.sched := rfl
@[simp] theorem State.setMile_lp (s : State) (k : Nat) (m : Milestone) : (s.setMile k m).lp = s.lp := rfl
@[simp] theorem State.setMile_pwr (s : State) (k : Nat) (m : Milestone) : (s.setMile k m).pwr = s.pwr := rfl
@[simp] theorem State.setMile_ctl (s : State) (k : Nat) (m : Milestone) : (s.setMile k m).ctl = s.ctl := rfl
@[simp] theorem State.setMile_vinLow (s : State) (k : Nat) (m : Milestone) : (s.setMile k m).vinLow = s.vinLow := rfl
@[simp] theorem State.setMile_roadPend (s : State) (k : Nat) (m : Milestone) : (s.setMile k m).roadPend = s.roadPend := rfl
@[simp] theorem State.setMile_pending (s : State) (k : Nat) (m : Milestone) : (s.setMile k m).pending = s.pending := rfl

/-! ### setCtx -/

@[simp] theorem State.setCtx_cyc (s : State) (c : Nat) (x : Ctx) : (s.setCtx c x).cyc = s.cyc := rfl
@[simp] theorem State.setCtx_free (s : State) (c : Nat) (x : Ctx) : (s.setCtx c x).free = s.free := rfl
@[simp] theorem State.setCtx_regs (s : State) (c : Nat) (x : Ctx) : (s.setCtx c x).regs = s.regs := rfl
@[simp] theorem State.setCtx_held (s : State) (c : Nat) (x : Ctx) : (s.setCtx c x).held = s.held := rfl
@[simp] theorem State.setCtx_was (s : State) (c : Nat) (x : Ctx) : (s.setCtx c x).was = s.was := rfl
@[simp] theorem State.setCtx_busyWas (s : State) (c : Nat) (x : Ctx) : (s.setCtx c x).busyWas = s.busyWas := rfl
@[simp] theorem State.setCtx_raised (s : State) (c : Nat) (x : Ctx) : (s.setCtx c x).raised = s.raised := rfl
@[simp] theorem State.setCtx_mem (s : State) (c : Nat) (x : Ctx) : (s.setCtx c x).mem = s.mem := rfl
@[simp] theorem State.setCtx_err (s : State) (c : Nat) (x : Ctx) : (s.setCtx c x).err = s.err := rfl
@[simp] theorem State.setCtx_evf (s : State) (c : Nat) (x : Ctx) : (s.setCtx c x).evf = s.evf := rfl
@[simp] theorem State.setCtx_hcp (s : State) (c : Nat) (x : Ctx) : (s.setCtx c x).hcp = s.hcp := rfl
@[simp] theorem State.setCtx_core (s : State) (c : Nat) (x : Ctx) : (s.setCtx c x).core = s.core := rfl
@[simp] theorem State.setCtx_ntc (s : State) (c : Nat) (x : Ctx) : (s.setCtx c x).ntc = s.ntc := rfl
@[simp] theorem State.setCtx_tmr (s : State) (c : Nat) (x : Ctx) : (s.setCtx c x).tmr = s.tmr := rfl
@[simp] theorem State.setCtx_rtc (s : State) (c : Nat) (x : Ctx) : (s.setCtx c x).rtc = s.rtc := rfl
@[simp] theorem State.setCtx_flc (s : State) (c : Nat) (x : Ctx) : (s.setCtx c x).flc = s.flc := rfl
@[simp] theorem State.setCtx_otp (s : State) (c : Nat) (x : Ctx) : (s.setCtx c x).otp = s.otp := rfl
@[simp] theorem State.setCtx_sram (s : State) (c : Nat) (x : Ctx) : (s.setCtx c x).sram = s.sram := rfl
@[simp] theorem State.setCtx_dmc (s : State) (c : Nat) (x : Ctx) : (s.setCtx c x).dmc = s.dmc := rfl
@[simp] theorem State.setCtx_rf (s : State) (c : Nat) (x : Ctx) : (s.setCtx c x).rf = s.rf := rfl
@[simp] theorem State.setCtx_txp (s : State) (c : Nat) (x : Ctx) : (s.setCtx c x).txp = s.txp := rfl
@[simp] theorem State.setCtx_msu (s : State) (c : Nat) (x : Ctx) : (s.setCtx c x).msu = s.msu := rfl
@[simp] theorem State.setCtx_sched (s : State) (c : Nat) (x : Ctx) : (s.setCtx c x).sched = s.sched := rfl
@[simp] theorem State.setCtx_lp (s : State) (c : Nat) (x : Ctx) : (s.setCtx c x).lp = s.lp := rfl
@[simp] theorem State.setCtx_pwr (s : State) (c : Nat) (x : Ctx) : (s.setCtx c x).pwr = s.pwr := rfl
@[simp] theorem State.setCtx_ctl (s : State) (c : Nat) (x : Ctx) : (s.setCtx c x).ctl = s.ctl := rfl
@[simp] theorem State.setCtx_vinLow (s : State) (c : Nat) (x : Ctx) : (s.setCtx c x).vinLow = s.vinLow := rfl
@[simp] theorem State.setCtx_roadPend (s : State) (c : Nat) (x : Ctx) : (s.setCtx c x).roadPend = s.roadPend := rfl
@[simp] theorem State.setCtx_pending (s : State) (c : Nat) (x : Ctx) : (s.setCtx c x).pending = s.pending := rfl

/-! ### sendUnit -/

@[simp] theorem State.sendUnit_cyc (s : State) (p typ addr : Nat) (b : Bytes) : (s.sendUnit p typ addr b).cyc = s.cyc := rfl
@[simp] theorem State.sendUnit_free (s : State) (p typ addr : Nat) (b : Bytes) : (s.sendUnit p typ addr b).free = s.free := rfl
@[simp] theorem State.sendUnit_regs (s : State) (p typ addr : Nat) (b : Bytes) : (s.sendUnit p typ addr b).regs = s.regs := rfl
@[simp] theorem State.sendUnit_held (s : State) (p typ addr : Nat) (b : Bytes) : (s.sendUnit p typ addr b).held = s.held := rfl
@[simp] theorem State.sendUnit_was (s : State) (p typ addr : Nat) (b : Bytes) : (s.sendUnit p typ addr b).was = s.was := rfl
@[simp] theorem State.sendUnit_busyWas (s : State) (p typ addr : Nat) (b : Bytes) : (s.sendUnit p typ addr b).busyWas = s.busyWas := rfl
@[simp] theorem State.sendUnit_raised (s : State) (p typ addr : Nat) (b : Bytes) : (s.sendUnit p typ addr b).raised = s.raised := rfl
@[simp] theorem State.sendUnit_mem (s : State) (p typ addr : Nat) (b : Bytes) : (s.sendUnit p typ addr b).mem = s.mem := rfl
@[simp] theorem State.sendUnit_err (s : State) (p typ addr : Nat) (b : Bytes) : (s.sendUnit p typ addr b).err = s.err := rfl
@[simp] theorem State.sendUnit_evf (s : State) (p typ addr : Nat) (b : Bytes) : (s.sendUnit p typ addr b).evf = s.evf := rfl
@[simp] theorem State.sendUnit_hcp (s : State) (p typ addr : Nat) (b : Bytes) : (s.sendUnit p typ addr b).hcp = s.hcp := rfl
@[simp] theorem State.sendUnit_core (s : State) (p typ addr : Nat) (b : Bytes) : (s.sendUnit p typ addr b).core = s.core := rfl
@[simp] theorem State.sendUnit_ntc (s : State) (p typ addr : Nat) (b : Bytes) : (s.sendUnit p typ addr b).ntc = s.ntc := rfl
@[simp] theorem State.sendUnit_tmr (s : State) (p typ addr : Nat) (b : Bytes) : (s.sendUnit p typ addr b).tmr = s.tmr := rfl
@[simp] theorem State.sendUnit_rtc (s : State) (p typ addr : Nat) (b : Bytes) : (s.sendUnit p typ addr b).rtc = s.rtc := rfl
@[simp] theorem State.sendUnit_flc (s : State) (p typ addr : Nat) (b : Bytes) : (s.sendUnit p typ addr b).flc = s.flc := rfl
@[simp] theorem State.sendUnit_otp (s : State) (p typ addr : Nat) (b : Bytes) : (s.sendUnit p typ addr b).otp = s.otp := rfl
@[simp] theorem State.sendUnit_sram (s : State) (p typ addr : Nat) (b : Bytes) : (s.sendUnit p typ addr b).sram = s.sram := rfl
@[simp] theorem State.sendUnit_dmc (s : State) (p typ addr : Nat) (b : Bytes) : (s.sendUnit p typ addr b).dmc = s.dmc := rfl
@[simp] theorem State.sendUnit_rf (s : State) (p typ addr : Nat) (b : Bytes) : (s.sendUnit p typ addr b).rf = s.rf := rfl
@[simp] theorem State.sendUnit_txp (s : State) (p typ addr : Nat) (b : Bytes) : (s.sendUnit p typ addr b).txp = s.txp := rfl
@[simp] theorem State.sendUnit_frm (s : State) (p typ addr : Nat) (b : Bytes) : (s.sendUnit p typ addr b).frm = s.frm := rfl
@[simp] theorem State.sendUnit_msu (s : State) (p typ addr : Nat) (b : Bytes) : (s.sendUnit p typ addr b).msu = s.msu := rfl
@[simp] theorem State.sendUnit_sched (s : State) (p typ addr : Nat) (b : Bytes) : (s.sendUnit p typ addr b).sched = s.sched := rfl
@[simp] theorem State.sendUnit_pwr (s : State) (p typ addr : Nat) (b : Bytes) : (s.sendUnit p typ addr b).pwr = s.pwr := rfl
@[simp] theorem State.sendUnit_ctl (s : State) (p typ addr : Nat) (b : Bytes) : (s.sendUnit p typ addr b).ctl = s.ctl := rfl
@[simp] theorem State.sendUnit_vinLow (s : State) (p typ addr : Nat) (b : Bytes) : (s.sendUnit p typ addr b).vinLow = s.vinLow := rfl
@[simp] theorem State.sendUnit_roadPend (s : State) (p typ addr : Nat) (b : Bytes) : (s.sendUnit p typ addr b).roadPend = s.roadPend := rfl
@[simp] theorem State.sendUnit_pending (s : State) (p typ addr : Nat) (b : Bytes) : (s.sendUnit p typ addr b).pending = s.pending := rfl

/-! ### putPkt -/

@[simp] theorem State.putPkt_cyc (s : State) (t : Tp) (p : Pkt) : (s.putPkt t p).cyc = s.cyc := by unfold State.putPkt; split <;> simp
@[simp] theorem State.putPkt_free (s : State) (t : Tp) (p : Pkt) : (s.putPkt t p).free = s.free := by unfold State.putPkt; split <;> simp
@[simp] theorem State.putPkt_regs (s : State) (t : Tp) (p : Pkt) : (s.putPkt t p).regs = s.regs := by unfold State.putPkt; split <;> simp
@[simp] theorem State.putPkt_held (s : State) (t : Tp) (p : Pkt) : (s.putPkt t p).held = s.held := by unfold State.putPkt; split <;> simp
@[simp] theorem State.putPkt_was (s : State) (t : Tp) (p : Pkt) : (s.putPkt t p).was = s.was := by unfold State.putPkt; split <;> simp
@[simp] theorem State.putPkt_busyWas (s : State) (t : Tp) (p : Pkt) : (s.putPkt t p).busyWas = s.busyWas := by unfold State.putPkt; split <;> simp
@[simp] theorem State.putPkt_raised (s : State) (t : Tp) (p : Pkt) : (s.putPkt t p).raised = s.raised := by unfold State.putPkt; split <;> simp
@[simp] theorem State.putPkt_mem (s : State) (t : Tp) (p : Pkt) : (s.putPkt t p).mem = s.mem := by unfold State.putPkt; split <;> simp
@[simp] theorem State.putPkt_err (s : State) (t : Tp) (p : Pkt) : (s.putPkt t p).err = s.err := by unfold State.putPkt; split <;> simp
@[simp] theorem State.putPkt_evf (s : State) (t : Tp) (p : Pkt) : (s.putPkt t p).evf = s.evf := by unfold State.putPkt; split <;> simp
@[simp] theorem State.putPkt_core (s : State) (t : Tp) (p : Pkt) : (s.putPkt t p).core = s.core := by unfold State.putPkt; split <;> simp
@[simp] theorem State.putPkt_ntc (s : State) (t : Tp) (p : Pkt) : (s.putPkt t p).ntc = s.ntc := by unfold State.putPkt; split <;> simp
@[simp] theorem State.putPkt_tmr (s : State) (t : Tp) (p : Pkt) : (s.putPkt t p).tmr = s.tmr := by unfold State.putPkt; split <;> simp
@[simp] theorem State.putPkt_rtc (s : State) (t : Tp) (p : Pkt) : (s.putPkt t p).rtc = s.rtc := by unfold State.putPkt; split <;> simp
@[simp] theorem State.putPkt_flc (s : State) (t : Tp) (p : Pkt) : (s.putPkt t p).flc = s.flc := by unfold State.putPkt; split <;> simp
@[simp] theorem State.putPkt_otp (s : State) (t : Tp) (p : Pkt) : (s.putPkt t p).otp = s.otp := by unfold State.putPkt; split <;> simp
@[simp] theorem State.putPkt_sram (s : State) (t : Tp) (p : Pkt) : (s.putPkt t p).sram = s.sram := by unfold State.putPkt; split <;> simp
@[simp] theorem State.putPkt_dmc (s : State) (t : Tp) (p : Pkt) : (s.putPkt t p).dmc = s.dmc := by unfold State.putPkt; split <;> simp
@[simp] theorem State.putPkt_rf (s : State) (t : Tp) (p : Pkt) : (s.putPkt t p).rf = s.rf := by unfold State.putPkt; split <;> simp
@[simp] theorem State.putPkt_txp (s : State) (t : Tp) (p : Pkt) : (s.putPkt t p).txp = s.txp := by unfold State.putPkt; split <;> simp
@[simp] theorem State.putPkt_frm (s : State) (t : Tp) (p : Pkt) : (s.putPkt t p).frm = s.frm := by unfold State.putPkt; split <;> simp
@[simp] theorem State.putPkt_msu (s : State) (t : Tp) (p : Pkt) : (s.putPkt t p).msu = s.msu := by unfold State.putPkt; split <;> simp
@[simp] theorem State.putPkt_sched (s : State) (t : Tp) (p : Pkt) : (s.putPkt t p).sched = s.sched := by unfold State.putPkt; split <;> simp
@[simp] theorem State.putPkt_pwr (s : State) (t : Tp) (p : Pkt) : (s.putPkt t p).pwr = s.pwr := by unfold State.putPkt; split <;> simp
@[simp] theorem State.putPkt_ctl (s : State) (t : Tp) (p : Pkt) : (s.putPkt t p).ctl = s.ctl := by unfold State.putPkt; split <;> simp
@[simp] theorem State.putPkt_vinLow (s : State) (t : Tp) (p : Pkt) : (s.putPkt t p).vinLow = s.vinLow := by unfold State.putPkt; split <;> simp
@[simp] theorem State.putPkt_roadPend (s : State) (t : Tp) (p : Pkt) : (s.putPkt t p).roadPend = s.roadPend := by unfold State.putPkt; split <;> simp
@[simp] theorem State.putPkt_pending (s : State) (t : Tp) (p : Pkt) : (s.putPkt t p).pending = s.pending := by unfold State.putPkt; split <;> simp

end Sys2Proof.Machine
end

