-- ==== Sys2Proof/Laws/Tab.lean ====
section
/-! SUPPORT. Laws of sparse maps: what a lookup gives after an update, and that every update keeps the canonical form. -/

namespace Sys2Proof.Machine

variable {α : Type}

theorem Tab.find_cons (i j : Nat) (w : α) (t : Tab α) : Tab.find ((i, w) :: t) j = if i = j then some w else Tab.find t j := rfl

/-- A lookup after put, whatever the map. -/
theorem Tab.find_put (t : Tab α) (k j : Nat) (v : α) :
    Tab.find (Tab.put t k v) j = if j = k then some v else Tab.find t j := by
  induction t with
  | nil =>
    by_cases hj : j = k
    · subst hj; simp [Tab.put, Tab.find_cons]
    · simp [Tab.put, Tab.find_cons, hj, Ne.symm hj]
  | cons e t ih =>
    obtain ⟨i, w⟩ := e
    by_cases hj : j = k
    · subst hj
      simp only [Tab.put, if_true]
      split
      · simp [Tab.find_cons]
      · split
        · simp [Tab.find_cons]
        · rw [Tab.find_cons, if_neg (by omega), ih, if_pos rfl]
    · rw [if_neg hj]
      simp only [Tab.put]
      split
      · rw [Tab.find_cons, if_neg (Ne.symm hj)]
      · split
        · rename_i h; subst h; rw [Tab.find_cons, if_neg (Ne.symm hj), Tab.find_cons, if_neg (Ne.symm hj)]
        · rw [Tab.find_cons, Tab.find_cons, ih, if_neg hj]

/-- A lookup after del, whatever the map. -/
theorem Tab.find_del (t : Tab α) (k j : Nat) : Tab.find (Tab.del t k) j = if j = k then none else Tab.find t j := by
  induction t with
  | nil => simp [Tab.del, Tab.find]
  | cons e t ih =>
    obtain ⟨i, w⟩ := e
    simp only [Tab.del]
    split
    · rename_i h; subst h
      rw [ih, Tab.find_cons]
      by_cases hj : j = i
      · rw [if_pos hj, if_pos hj]
      · rw [if_neg hj, if_neg hj, if_neg (Ne.symm hj)]
    · rw [Tab.find_cons, Tab.find_cons, ih]
      by_cases hj : j = k
      · subst hj; rw [if_neg (by omega)]; simp
      · simp [hj]

/-- The key written reads as the value written. -/
@[simp] theorem Tab.getD_putD_self [DecidableEq α] (t : Tab α) (k : Nat) (d v : α) : Tab.getD (Tab.putD t k d v) k d = v := by
  unfold Tab.putD Tab.getD
  by_cases hv : v = d
  · rw [if_pos hv, Tab.find_del, if_pos rfl, hv]
  · rw [if_neg hv, Tab.find_put, if_pos rfl]

/-- The other keys read as before. -/
theorem Tab.getD_putD_of_ne [DecidableEq α] (t : Tab α) (k j : Nat) (d e v : α) (hj : j ≠ k) :
    Tab.getD (Tab.putD t k d v) j e = Tab.getD t j e := by
  unfold Tab.putD Tab.getD
  by_cases hv : v = d
  · rw [if_pos hv, Tab.find_del, if_neg hj]
  · rw [if_neg hv, Tab.find_put, if_neg hj]

/-- A lookup after put with a default. -/
theorem Tab.getD_put (t : Tab α) (k j : Nat) (v d : α) : Tab.getD (Tab.put t k v) j d = if j = k then v else Tab.getD t j d := by
  unfold Tab.getD
  rw [Tab.find_put]
  by_cases hj : j = k <;> simp [hj]

theorem Tab.sortedFrom_mono (t : Tab α) (a b : Nat) (h : a ≤ b) (hs : Tab.sortedFrom b t = true) : Tab.sortedFrom a t = true := by
  cases t with
  | nil => rfl
  | cons e t =>
    obtain ⟨i, w⟩ := e
    simp only [Tab.sortedFrom, Bool.and_eq_true, decide_eq_true_eq] at hs ⊢
    exact ⟨by omega, hs.2⟩

theorem Tab.sortedFrom_put (t : Tab α) (lo k : Nat) (v : α) (h : Tab.sortedFrom lo t = true) (hk : lo ≤ k) :
    Tab.sortedFrom lo (Tab.put t k v) = true := by
  induction t generalizing lo with
  | nil => simp [Tab.put, Tab.sortedFrom, hk]
  | cons e t ih =>
    obtain ⟨i, w⟩ := e
    simp only [Tab.sortedFrom, Bool.and_eq_true, decide_eq_true_eq] at h
    simp only [Tab.put]
    split
    · simp only [Tab.sortedFrom, Bool.and_eq_true, decide_eq_true_eq]; exact ⟨hk, by omega, h.2⟩
    · split
      · subst_vars; simp only [Tab.sortedFrom, Bool.and_eq_true, decide_eq_true_eq]; exact ⟨hk, h.2⟩
      · simp only [Tab.sortedFrom, Bool.and_eq_true, decide_eq_true_eq]; exact ⟨h.1, ih _ h.2 (by omega)⟩

theorem Tab.sortedFrom_del (t : Tab α) (lo k : Nat) (h : Tab.sortedFrom lo t = true) : Tab.sortedFrom lo (Tab.del t k) = true := by
  induction t generalizing lo with
  | nil => rfl
  | cons e t ih =>
    obtain ⟨i, w⟩ := e
    simp only [Tab.sortedFrom, Bool.and_eq_true, decide_eq_true_eq] at h
    simp only [Tab.del]
    split
    · exact Tab.sortedFrom_mono _ _ _ (by omega) (ih _ h.2)
    · simp only [Tab.sortedFrom, Bool.and_eq_true, decide_eq_true_eq]; exact ⟨h.1, ih _ h.2⟩

theorem Tab.sortedFrom_keep (t : Tab α) (lo : Nat) (p : Nat → α → Bool) (h : Tab.sortedFrom lo t = true) :
    Tab.sortedFrom lo (Tab.keep t p) = true := by
  induction t generalizing lo with
  | nil => rfl
  | cons e t ih =>
    obtain ⟨i, w⟩ := e
    simp only [Tab.sortedFrom, Bool.and_eq_true, decide_eq_true_eq] at h
    have := ih _ h.2
    simp only [Tab.keep, List.filter_cons] at this ⊢
    split
    · simp only [Tab.sortedFrom, Bool.and_eq_true, decide_eq_true_eq]; exact ⟨h.1, this⟩
    · exact Tab.sortedFrom_mono _ _ _ (by omega) this

theorem Tab.put_all (t : Tab α) (k : Nat) (v : α) (q : Nat × α → Bool) (h : t.all q = true) (hv : q (k, v) = true) :
    (Tab.put t k v).all q = true := by
  induction t with
  | nil => simp [Tab.put, hv]
  | cons e t ih =>
    obtain ⟨i, w⟩ := e
    simp only [List.all_cons, Bool.and_eq_true] at h
    simp only [Tab.put]
    split
    · simp [h.1, h.2, hv]
    · split
      · simp [h.2, hv]
      · simp [h.1, ih h.2]

theorem Tab.del_all (t : Tab α) (k : Nat) (q : Nat × α → Bool) (h : t.all q = true) : (Tab.del t k).all q = true := by
  induction t with
  | nil => rfl
  | cons e t ih =>
    obtain ⟨i, w⟩ := e
    simp only [List.all_cons, Bool.and_eq_true] at h
    simp only [Tab.del]
    split
    · exact ih h.2
    · simp [h.1, ih h.2]

/-- A write with the default of its key keeps the canonical form. -/
theorem Tab.canon_putD [DecidableEq α] (d : Nat → α) (t : Tab α) (k : Nat) (v : α) (h : Tab.canon d t = true) :
    Tab.canon d (Tab.putD t k (d k) v) = true := by
  simp only [Tab.canon, Bool.and_eq_true] at h ⊢
  unfold Tab.putD
  split
  · exact ⟨Tab.sortedFrom_del _ _ _ h.1, Tab.del_all _ _ _ h.2⟩
  · exact ⟨Tab.sortedFrom_put _ _ _ _ h.1 (Nat.zero_le _), Tab.put_all _ _ _ _ h.2 (by simp_all)⟩

theorem Tab.canon_keep [DecidableEq α] (d : Nat → α) (t : Tab α) (p : Nat → α → Bool) (h : Tab.canon d t = true) :
    Tab.canon d (Tab.keep t p) = true := by
  simp only [Tab.canon, Bool.and_eq_true] at h ⊢
  refine ⟨Tab.sortedFrom_keep _ _ _ h.1, ?_⟩
  simp only [Tab.keep, List.all_filter, List.all_eq_true] at h ⊢
  intro e he
  simp [h.2 e he]

/-- An invariant that every step of a fold keeps holds at its end. -/
theorem foldOver_inv {σ : Type} (P : σ → Prop) (f : α → σ → σ) (hf : ∀ a s, P s → P (f a s)) :
    ∀ (l : List α) (s : σ), P s → P (foldOver f l s)
  | [], _, h => h
  | a :: l, s, h => foldOver_inv P f hf l (f a s) (hf a s h)

@[simp] theorem foldOver_nil {σ : Type} (f : α → σ → σ) (s : σ) : foldOver f [] s = s := rfl
@[simp] theorem foldOver_cons {σ : Type} (f : α → σ → σ) (a : α) (l : List α) (s : σ) :
    foldOver f (a :: l) s = foldOver f l (f a s) := rfl

end Sys2Proof.Machine
end

