-- ==== Sys2Proof/Laws/Ops.lean ====
section
/-! SUPPORT. Laws of the shared operations: registers and their fields, bytes of memory and its canonical form, general registers,
accumulators and program counters of the cores. -/

namespace Sys2Proof.Machine

/-! ## Registers -/

theorem RegName.ctorIdx_inj (a b : RegName) (h : a.ctorIdx = b.ctorIdx) : a = b := by
  have := congrArg RegName.ofNat h
  simpa [RegName.ofNat_ctorIdx] using this

theorem RegName.ctorIdx_lt (r : RegName) : r.ctorIdx < 512 := by cases r <;> decide

/-- Registers and instances have keys of their own. -/
theorem RegName.key_inj (a b : RegName) (m n : Nat) : a.key m = b.key n ↔ a = b ∧ m = n := by
  constructor
  · intro h
    have ha := a.ctorIdx_lt
    have hb := b.ctorIdx_lt
    unfold RegName.key at h
    exact ⟨RegName.ctorIdx_inj a b (by omega), by omega⟩
  · rintro ⟨rfl, rfl⟩; rfl

@[simp] theorem State.reg_setReg (s : State) (r : RegName) (n : Nat) (v : Word) : (s.setReg r n v).reg r n = v := by
  simp [State.reg]

/-- A write of one register leaves every other register, and every other instance, as it was. -/
theorem State.reg_setReg_of_ne (s : State) (r r' : RegName) (n n' : Nat) (v : Word) (h : r' ≠ r ∨ n' ≠ n) :
    (s.setReg r n v).reg r' n' = s.reg r' n' := by
  have hk : r'.key n' ≠ r.key n := by
    intro e
    have := (RegName.key_inj _ _ _ _).mp e
    tauto
  simp [State.reg, Tab.getD_putD_of_ne _ _ _ _ _ _ hk]

/-- A read after a write of a register, by cases. -/
theorem State.reg_setReg_ite (s : State) (r r' : RegName) (n n' : Nat) (v : Word) :
    (s.setReg r n v).reg r' n' = if r' = r ∧ n' = n then v else s.reg r' n' := by
  by_cases h : r' = r ∧ n' = n
  · rw [if_pos h, h.1, h.2, State.reg_setReg]
  · rw [if_neg h]
    refine State.reg_setReg_of_ne _ _ _ _ _ _ ?_
    tauto

/-- Registers are read from the register map alone. -/
theorem State.reg_congr {s t : State} (h : s.regs = t.regs) (r : RegName) (n : Nat) : s.reg r n = t.reg r n := by
  unfold State.reg; rw [h]

/-- Writing a field writes its register with the other bits kept. -/
theorem State.reg_setFld_ite (s : State) (f : Fld) (v n : Nat) (r : RegName) (m : Nat) :
    (s.setFld f v n).reg r m = if r = f.reg ∧ m = n then wordPut (s.reg f.reg n) f.hi f.lo v else s.reg r m := by
  rw [← State.reg_setReg_ite s f.reg r n m]
  exact State.reg_congr (State.setFld_regs s f v n) r m

/-! ## Memory -/

@[simp] theorem State.byte_setByte (s : State) (a : Nat) (b : Byte) : (s.setByte a b).byte a = b := by simp [State.byte]

/-- A store of one byte leaves every other byte as it was. -/
theorem State.byte_setByte_of_ne (s : State) (a a' : Nat) (b : Byte) (h : a' ≠ a) : (s.setByte a b).byte a' = s.byte a' := by
  simp [State.byte, Tab.getD_putD_of_ne _ _ _ _ _ _ h]

/-- A store of bytes leaves every byte outside them as it was. -/
theorem State.byte_setBytes_outside (l : Bytes) : ∀ (s : State) (a x : Nat), (x < a ∨ a + l.length ≤ x) →
    (s.setBytes a l).byte x = s.byte x := by
  induction l with
  | nil => intros; rfl
  | cons b l ih =>
    intro s a x h
    simp only [List.length_cons] at h
    rw [State.setBytes, ih _ _ _ (by omega), State.byte_setByte_of_ne _ _ _ _ (by omega)]

/-- The bytes stored read back. -/
theorem State.byte_setBytes_inside (l : Bytes) : ∀ (s : State) (a i : Nat) (h : i < l.length),
    (s.setBytes a l).byte (a + i) = l[i] := by
  induction l with
  | nil => intro s a i h; simp at h
  | cons b l ih =>
    intro s a i h
    rw [State.setBytes]
    cases i with
    | zero => rw [State.byte_setBytes_outside _ _ _ _ (by omega)]; simp
    | succ i =>
      have := ih (s.setByte a b) (a + 1) i (by simpa using h)
      rw [show a + (i + 1) = a + 1 + i by omega, this]
      simp

/-- Storing bytes changes the memory alone. -/
theorem State.setBytes_eq (l : Bytes) : ∀ (s : State) (a : Nat), s.setBytes a l = { s with mem := (s.setBytes a l).mem } := by
  induction l with
  | nil => intros; rfl
  | cons b l ih => intro s a; rw [State.setBytes, ih]; rfl

/-- Every operation on memory keeps its canonical form. -/
theorem State.memWf_setByte (s : State) (a : Nat) (b : Byte) (h : Memory.wf s.mem) : Memory.wf (s.setByte a b).mem :=
  Tab.canon_putD memDefault s.mem a b h

theorem State.memWf_setBytes (l : Bytes) : ∀ (s : State) (a : Nat), Memory.wf s.mem → Memory.wf (s.setBytes a l).mem := by
  induction l with
  | nil => intro s a h; exact h
  | cons b l ih => intro s a h; exact ih _ _ (State.memWf_setByte s a b h)

theorem State.memWf_clearMem (s : State) (a n : Nat) (h : Memory.wf s.mem) : Memory.wf (s.clearMem a n).mem :=
  Tab.canon_keep memDefault s.mem (fun k _ => decide (k < a ∨ a + n ≤ k)) h

/-! ## Cores -/

@[simp] theorem State.gpr_zero (s : State) (c : Nat) : s.gpr c 0 = 0 := rfl

/-- Writes to g0 are discarded (R388). -/
@[simp] theorem State.setGpr_zero (s : State) (c : Nat) (v : Word) : s.setGpr c 0 v = s := rfl

theorem State.gpr_setGpr (s : State) (c i : Nat) (v : Word) (h : i ≠ 0) : (s.setGpr c i v).gpr c i = v := by
  simp [State.gpr, State.setGpr, h]

/-- A write of a general register leaves the others, of its core and of every other core, as they were. -/
theorem State.gpr_setGpr_of_ne (s : State) (c c' i i' : Nat) (v : Word) (hi : i < 32) (hi' : i' < 32) (h : c' ≠ c ∨ i' ≠ i) :
    (s.setGpr c i v).gpr c' i' = s.gpr c' i' := by
  unfold State.gpr State.setGpr
  by_cases h0 : i' = 0
  · simp [h0]
  · by_cases h1 : i = 0
    · simp [h1]
    · simp only [h0, h1, if_false]
      exact Tab.getD_putD_of_ne _ _ _ _ _ _ (by omega)

@[simp] theorem State.pcOf_setPc (s : State) (c : Nat) (v : Word) : (s.setPc c v).pcOf c = v := by simp [State.pcOf, State.setPc]

theorem State.pcOf_setPc_of_ne (s : State) (c c' : Nat) (v : Word) (h : c' ≠ c) : (s.setPc c v).pcOf c' = s.pcOf c' := by
  simp [State.pcOf, State.setPc, Tab.getD_putD_of_ne _ _ _ _ _ _ h]

@[simp] theorem State.acc_setAcc (s : State) (c k : Nat) (v : Accu) : (s.setAcc c k v).acc c k = v := by simp [State.acc, State.setAcc]

@[simp] theorem State.gpr_setPc (s : State) (c c' i : Nat) (v : Word) : (s.setPc c v).gpr c' i = s.gpr c' i := rfl
@[simp] theorem State.acc_setPc (s : State) (c c' k : Nat) (v : Word) : (s.setPc c v).acc c' k = s.acc c' k := rfl
@[simp] theorem State.reg_setPc (s : State) (c : Nat) (v : Word) (r : RegName) (n : Nat) : (s.setPc c v).reg r n = s.reg r n := rfl
@[simp] theorem State.byte_setPc (s : State) (c : Nat) (v : Word) (a : Nat) : (s.setPc c v).byte a = s.byte a := rfl
@[simp] theorem State.acc_setGpr (s : State) (c i c' k : Nat) (v : Word) : (s.setGpr c i v).acc c' k = s.acc c' k := by
  unfold State.setGpr; split <;> rfl
@[simp] theorem State.reg_setGpr (s : State) (c i : Nat) (v : Word) (r : RegName) (n : Nat) : (s.setGpr c i v).reg r n = s.reg r n := by
  unfold State.setGpr; split <;> rfl
@[simp] theorem State.byte_setGpr (s : State) (c i a : Nat) (v : Word) : (s.setGpr c i v).byte a = s.byte a := by
  unfold State.setGpr; split <;> rfl
@[simp] theorem State.pcOf_setGpr (s : State) (c i c' : Nat) (v : Word) : (s.setGpr c i v).pcOf c' = s.pcOf c' := by
  unfold State.setGpr; split <;> rfl

/-! ## Ports, transports, milestones and contexts -/

/-- A line port reads as last set, and the other one as before. -/
theorem State.line_onLine (s : State) (p q : Nat) (f : LinePort → LinePort) : (s.onLine p f).line q = if q = p then f (s.line p) else s.line q := by
  unfold State.onLine State.line State.onLp
  by_cases h : q = p
  · rw [if_pos h, h]; simp [Tab.getD, Tab.find_put]
  · rw [if_neg h]; simp [Tab.getD, Tab.find_put, h]

/-- A milestone reads as last set. -/
theorem State.mile_setMile (s : State) (j k : Nat) (m : Milestone) : (s.setMile k m).mile j = if j = k then some m else s.mile j := by
  unfold State.setMile State.mile State.onMsu
  by_cases h : j = k
  · rw [if_pos h, h]; simp [Tab.find_put]
  · rw [if_neg h]; simp [Tab.find_put, h]

/-! ## Words -/

/-- The bits of wordPut: the field from v, the others from w. -/
theorem wordPut_full (w : Word) (v : Nat) : wordPut w 31 0 v = BitVec.ofNat 32 v := by
  unfold wordPut
  rw [show BitVec.ofNat 32 ((2 ^ (31 + 1 - 0) - 1) * 2 ^ 0) = BitVec.allOnes 32 by decide]
  simp only [BitVec.and_allOnes, BitVec.not_allOnes, BitVec.and_zero, BitVec.zero_or, Nat.pow_zero, Nat.mul_one]

end Sys2Proof.Machine
end

