-- ==== Sys2Proof/Tests/Slice0.lean ====
section
/-! SUPPORT. The smoke test of WellFormed, the worked examples of the spec, and for every obligation with hypotheses one theorem
that shows states and operands that meet them. A witness theorem names beside each part the clauses of the obligation whose
hypotheses that part meets. -/

namespace Sys2Proof.Tests
open Sys2Proof.Machine
set_option linter.all false
set_option Elab.async false

/-! ## WellFormed -/

/-- One ill-formed term for each check, and each is refused. -/
theorem test_wellFormed_refuses :
    (Instr.powerOnReset { sramSingles := [.mem 0x20000001] }).wellFormed = false
    ∧ (Instr.nresetInAssert { sramSingles := [.mem 0x1FFFFFFC] }).wellFormed = false
    ∧ (Instr.nresetInRelease { sramSingles := [.pad 24 0] }).wellFormed = false
    ∧ (Instr.sysReset 0 { sramSingles := [.pad 0 65536] }).wellFormed = false
    ∧ (Instr.debugReset { sramSingles := [.ucode 3 0] }).wellFormed = false
    ∧ (Instr.busRecoveryRestart ⟨0, { sramSingles := [.ucode 0 2048] }⟩).wellFormed = false
    ∧ (Instr.hcpResetTrigger { sramSingles := [.icache 24 0] }).wellFormed = false
    ∧ (Instr.watchdogExpiry 0 { sramSingles := [.pad 0 2] }).wellFormed = false
    ∧ (Instr.heldResetTaken { sramSingles := [.mem 0x22000000] }).wellFormed = false
    ∧ (Instr.powerOnReset { pinFalls := some 1 }).wellFormed = false ∧ (Instr.powerOnReset { pinFalls := some 8 }).wellFormed = false
    ∧ (Instr.syncFound 0 (List.replicate 257 true) 0 0 0 0).wellFormed = false
    ∧ (Instr.headerEnd 0 (List.replicate 177 0)).wellFormed = false
    ∧ (Instr.beaconBurstReceived 0 (zeros 127)).wellFormed = false
    ∧ (Instr.lineBlockReceived 0 (zeros 129)).wellFormed = false
    ∧ (Instr.anticollision 0x93 (List.replicate 41 true)).wellFormed = false
    ∧ (Instr.select 0x93 (zeros 5)).wellFormed = false
    ∧ (Instr.getId (zeros 256)).wellFormed = false ∧ (Instr.getStatus (.own (zeros 256))).wellFormed = false
    ∧ (Instr.getStatus (.undefined 0xA9 (zeros 256))).wellFormed = false ∧ (Instr.getStatus (.undefined 0xB0 [])).wellFormed = false
    ∧ (Instr.read { params := zeros 256 }).wellFormed = false ∧ (Instr.write { params := zeros 256 }).wellFormed = false
    ∧ (Instr.auth1 (zeros 256)).wellFormed = false ∧ (Instr.auth2 (zeros 256)).wellFormed = false
    ∧ (Instr.endSession (zeros 256)).wellFormed = false ∧ (Instr.readerAnswer (zeros 256) none).wellFormed = false
    ∧ (Instr.flashPatrol 0 0 0 0 (zeros 31)).wellFormed = false := by decide +kernel

/-- The same for commands of the host: lengths of the packet, of parameters and of data. -/
theorem test_wellFormed_refuses_hcp :
    let c : CmdHead := ⟨.hport, 5, none⟩
    (Instr.writePacket { bytes := zeros 8717 }).wellFormed = false ∧ (Instr.uartPacket (zeros 8717)).wellFormed = false
    ∧ (Instr.userCall c 0 0 (zeros 509) { bytes := [] }).wellFormed = false
    ∧ (Instr.userCall c 0 0 [] ⟨[], .answer (zeros 499) []⟩).wellFormed = false ∧ (Instr.profileSet c 0 (zeros 31)).wellFormed = false
    ∧ (Instr.keyLoad c 0 0 (zeros 25)).wellFormed = false ∧ (Instr.provision c (zeros 513) []).wellFormed = false
    ∧ (Instr.sessionOpen c (zeros 63) 0 (zeros 64) (zeros 64)).wellFormed = false
    ∧ (Instr.sessionOpen c (zeros 64) 0 (zeros 65) (zeros 64)).wellFormed = false
    ∧ (Instr.sessionOpen c (zeros 64) 0 (zeros 64) (zeros 63)).wellFormed = false := by decide +kernel

/-- The same for lengths of 2,047, 8,192 and 8,716 bytes. -/
theorem test_wellFormed_refuses_long :
    let c : CmdHead := ⟨.hport, 5, none⟩
    (Instr.frameEnd 0 [] (List.replicate 32769 0)).wellFormed = false
    ∧ (Instr.macHeaderComplete 0 (List.replicate 32769 0)).wellFormed = false ∧ (Instr.imageWrite c 0 0 (zeros 8193)).wellFormed = false
    ∧ (Instr.transmit c 0 0 0 0 0 (zeros 8193)).wellFormed = false ∧ (Instr.downlink c 0 0 0 (zeros 8193)).wellFormed = false
    ∧ (Instr.flashProgram c 0 0 (zeros 8193)).wellFormed = false ∧ (Instr.tagWrite c 0 (zeros 8193)).wellFormed = false
    ∧ (Instr.confirm 0 (zeros 8717)).wellFormed = false ∧ (Instr.mgmtDown 0 (zeros 8717)).wellFormed = false
    ∧ (Instr.userDown 0 (zeros 8193)).wellFormed = false ∧ (Instr.regWrite c 0 0 (List.replicate 2049 0)).wellFormed = false := by
  decide +kernel

/-! ## Worked examples of the spec -/

/-- The ASCII bytes "123456789". -/
def nineDigits : Bytes := [0x31, 0x32, 0x33, 0x34, 0x35, 0x36, 0x37, 0x38, 0x39]

/-- R131 and R283 give the check values of CRC-16 and CRC-8. -/
theorem test_crc_check_values : crc16 nineDigits = 0x29B1 ∧ crcBits 8 0x07 0 (byteBits nineDigits) = 0xF4 := by decide +kernel

/-- The header of the example under R169, and the check bits and first data chips of the example under R215. -/
theorem test_header_and_wake_check : phyHeader 64 false = 0x080E ∧ crcBits 4 3 0 (msbBits 24 0x123405) = 6
    ∧ ((wakeChips 0x1234 5).drop 16).take 2 = [false, true] ∧ (wakeChips 0x1234 5).length = 72 := by decide +kernel

/-- A coded header as R170 and R172 send it comes back from sure soft values; the quality of R184 at its ends. -/
theorem test_coded_header :
    let s := (State.reset.setFld F.LANE_PT_MOD_HDR_CODED 1 0)
    let soft : List Soft := (s.hdrOnAir 0 (phyHeader 40 true)).map fun b => if b then 7 else 0
    softHeader true (s.hdrRep 0) soft = phyHeader 40 true ∧ softHeader false 1 ((msbBits 16 0x080E).map fun b => if b then 7 else 0) = 0x080E
      := by decide +kernel
theorem test_quality : qualityOf 0 100 = 255 ∧ qualityOf 700 100 = 0 ∧ qualityOf 35 100 = 230 := by decide +kernel

/-- FIPS 197 appendix C.1. -/
theorem test_aes128 : aesEnc (beBytes 16 0x000102030405060708090a0b0c0d0e0f) (beBytes 16 0x00112233445566778899aabbccddeeff)
    = beBytes 16 0x69c4e0d86a7b0430d8cdb78070b4c55a := by decide +kernel

/-- FIPS 180-4, the message "abc". -/
theorem test_sha256 : sha256 [0x61, 0x62, 0x63]
    = beBytes 32 0xba7816bf8f01cfea414140de5dae2223b00361a396177a9cb410ff61f20015ad := by decide +kernel

/-! ## States of the tests -/

/-- system domain on, PLL0 selected, in RUN -/
def run0 : State := ((State.reset.setFld F.SYSCTL_PSTATE_CUR 0).setFld F.SYSCTL_CLKSTAT_PLL_LOCK 1).setFld F.SYSCTL_CLKSTAT_SRC_CUR 1
def g (s : State) (k i : Nat) (v : Word) : State := s.setGpr k i v
def core : State := (((g (g (g run0 0 2 0x20000010#32) 0 3 0xFFFF8000#32) 0 4 5#32).setAcc 0 1 0x123456789ABCDEF012#72).setByte 0x20000011 0x85#8).setByte 0x20000010 0xF1#8
def core2 : State := (((g (g (g run0 0 2 0x80000000#32) 0 3 0x80000000#32) 0 4 0x7FFF8001#32).setFld F.CORE_FXMODE_SAT 1).setFld F.CORE_FXMODE_RND 2).setAcc 0 1 0x7FFFFFFFFFFFFFFFFF#72
/-- a core of CL1, in its own SRAM -/
def core8 : State := (((g (g run0 8 2 0x21080010#32) 8 3 7#32).setFld F.SYSCTL_CORE_EN_EN (64)).setPc 8 0x21080100#32)
def ucore : State := (((core.setFld F.CL_CXDEC_VALID 1 7).setFld F.CL_CXDEC_START 5 7).onCore fun c =>
  { c with ucode := Tab.putD c.ucode 5 0 (0x80000000#32 ||| (LOp.rr AluOp.addq31 8 9 10).encode) })
def fs (s : State) (l : List (Fld × Nat × Nat)) : State := l.foldl (fun t e => t.setFld e.1 e.2.2 e.2.1) s
def ucore2 : State := (((core2.setFld F.CL_CXDEC_VALID 1 7).setFld F.CL_CXDEC_START 5 7).onCore fun c =>
  { c with ucode := Tab.putD c.ucode 5 0 (0x80000000#32 ||| (LOp.rr AluOp.addq31 8 9 10).encode) })
def lowRun : State := run0.setFld F.SYSCTL_PSTATE_CUR 1
def dozeEntry : State := { run0 with pwr := { run0.pwr with entry := some 2 } }
def dozeReady : State := { lowRun with pwr := { lowRun.pwr with entry := some 2, ready := true } }
def hibReady : State := { lowRun with pwr := { lowRun.pwr with entry := some 3, ready := true } }
def bytes1 (s : State) : State := ((((s.setByte 0x20000010 7).setByte 0x20400020 9).setByte 0x08010000 0x55).setByte 0x21080010 3).setReg .RTC_BKP 3 77
def pw (s : State) (f : PwrState → PwrState) : State := { s with pwr := f s.pwr }
def wdt (n : Nat) : State := run0.setFld F.ERR_WDT_CFG_EN 1 n
def pmb1 : State := pw run0 fun p => { p with pmb := { p.pmb with sending := some 150 } }
def pmb2 : State := (pw run0 fun p => { p with pmb := { p.pmb with sending := some 165 } }).setFld F.PMB_STAT_VACK 160
def pmb3 : State := (pw run0 fun p => { p with pmb := { p.pmb with awaiting := some 130 } })
def refs : State := fs run0 [(F.SYSCTL_CLKSTAT_REFA_GOOD,0,1),(F.SYSCTL_CLKCFG_PLL_EN,0,1)]
def refs2 : State := fs refs [(F.SYSCTL_CLKSTAT_REFB_GOOD,0,1)]
def lmOn : State := fs run0 [(F.SYSCTL_VINCFG_LM_EN,0,1),(F.SYSCTL_LMCFG_AREA,0,1),(F.FLC_PART_B,0,16)]
def armed : State := fs run0 [(F.SYSCTL_LMCFG_AREA,0,1),(F.FLC_PART_B,0,16),(F.SYSCTL_LMCFG_ARM,0,1),(F.SYSCTL_LMSTAT_ARMED,0,1)]
def rec1 : RingRec := ⟨7, 32, 64, false, true⟩
def ringed (s : State) : State := { s with msu := { s.msu with ring := [rec1] } }
def flushing (sl : Bool) : State := pw armed fun p => { p with flush := some ⟨false, 0, 0, sl⟩ }
def pingPkt : Bytes := pktBytes { flags := 0, opcode := 0x0100, seq := 5, par := [], data := [] }
def hostOn : State := ({ run0 with pwr := { run0.pwr with up := true } }.setReg .HPORT_CFG 0 1).onHcp fun h => { h with csnLow := true, served := true }
/-- radio: ports up, profile 0 valid, sub-band 0 from 863 to 870 MHz with every segment, duty 10000 -/
def rad : State := ((((fs armed [(F.RF_STAT_ENABLED,0,1),(F.RF_STAT_ENABLED,1,1),(F.RF_STAT_RX_READY,0,1),(F.LANE_PT_SYNC_SYNC_LEN,0,24),(F.LANE_PT_DEV_DEV,0,500),
  (F.LANE_PT_MOD_SRATE,0,2),(F.LANE_PT_RX_CHBW,0,3),(F.LANE_PT_LEN_MIN_LEN,0,15),(F.LANE_PT_LEN_MAX_LEN,0,255)]).setReg .RF_LO 0 868000000).setReg .RF_LO 1 868000000).setReg .TXP_RGN 0 (BitVec.ofNat 32 (0x80000000 + 7240*65536))).setReg .TXP_RGN 1 0xFFFF2710#32
def mil (s : State) (a : List Action) : State := ({ s with msu := { s.msu with ms := [(5, { actions := a })] } }).setFld F.MSU_MS_STAT_STATE 1 5
def act (kind target : Nat) (p1 p2 : Nat) : Action := ⟨BitVec.ofNat 32 (kind * 2^28 + 5*65536 + target), BitVec.ofNat 32 p1, BitVec.ofNat 32 p2, 0, 0, none, [], none, [], false, false⟩
def putW (s : State) (a : Nat) (w : Nat) : State := s.setBytes a (leBytes 4 w)
def desc (s : State) (a : Nat) (cls : Nat) : State := putW (putW (putW (putW s a 868000000) (a+4) (5*2^27)) (a+8) 0x20001000) (a+12) (cls * 2^20 + 20)
def ln (s : State) (f : LinePort → LinePort) : State := s.onLine 0 f
def lst (v : Nat) : State := (fs run0 [(F.LP_CFG_ROLE,0,0),(F.LP_STAT_STATE,0,v)])
def up0 : State := fs run0 [(F.LP_CFG_ROLE,0,0),(F.LP_STAT_STATE,0,9),(F.LP_STAT_MASTER,0,1),(F.LP_CFG_UP_TRY,0,3)]
def blk (typ : Nat) (p : Bytes) : Block := { idleBlock with typ, payload := p, first := true, last := true }

def blockBytes (b : Block) : Bytes := b.control ++ b.payload
def sch : State := fs run0 [(F.SCHED_STAT_RUNNING,0,1)]
def per : State := fs run0 [(F.TMR_TSTAT_RUNNING,3,1),(F.TMR_TSTAT_RUNNING,20,1)]
def ch : CmdHead := ⟨.hport, 5, none⟩
def cl0 : CmdHead := ⟨.lp0, 5, none⟩
def hst : State := pw (armed.setReg .HPORT_CFG 0 1) fun p => { p with up := true }
def b256 (n : Nat) : Bytes := List.replicate n 7
def dir0 : BootDir := ⟨0, 4, 0, false, 0, 0x100000, 0x200000, 0x40000⟩
def hdir : State := hst.setBytes flashBase dir0.bytes
def sig (d : Nat) (msg : Bytes) : Bytes :=
  let k := 7
  let r := beNat ((pubKey k).take 32) % p256n
  let e := beNat (sha256 msg)
  let s := invMod p256n k * ((e + r * d) % p256n) % p256n
  beBytes 32 r ++ beBytes 32 s
def chal : Challenge := ⟨b256 16, 11, pubKey 11⟩
def rootKey : Bytes := pubKey 5
def hostE : Bytes := pubKey 13
def ses0 : State := hst.setTp .hport { hst.tp .hport with challenge := some chal }
def ses : State :=
  let h := sha256 rootKey
  (List.range 8).foldl (fun t w => t.setReg .OTP_ROW (8 + w) (BitVec.ofNat 32 (leNat ((h.drop (4*w)).take 4)))) ses0
def sesSig : Bytes := sig 5 (chal.nonce ++ chal.epk ++ hostE ++ ses.uid ++ parWord 0x52534944 ++ [BitVec.ofNat 8 0])
def sesC : State := (hst.setTp .hport { hst.tp .hport with session := some ⟨b256 16, 3, 0, 0, 0⟩ }).onOtp fun o => {o with bits := [(14, 0x1C0)]}
def ca : CmdHead := ⟨.hport, 5, some (1, 0)⟩
def hrad : State := pw (rad.setReg .HPORT_CFG 0 1) fun p => { p with up := true }
def kw0 : Bytes := beBytes 24 0x5dc8780903426c027d4d4525b8b5d571f1340f2a2d40c5b0
def pingBody : Pkt := { flags := 0, opcode := 0x0100, seq := 5, par := [], data := [] }
def x6 : State := fs ((mil hst []).onMsu fun u => {u with ms := [(5,{tp := some .hport}),(6,{actions := [{act 1 1 0 0 with w0 := 0x10060001}]})]}) [(F.MSU_MS_STAT_STATE,6,1),(F.MSU_MS_STAT_POLICY,5,1)]

def z3 : State := {core with sram := {errs := [(0x20000010/4,2)]}}
def z6 : State := core.onCore fun c => {c with debug := true}
def z7 : State := core.setFld F.CORE_STATUS_HND 1
def z8 : State := core8.setFld F.CORE_STATUS_HND 1 8
def z9 : State := (((core.setFld F.CORE_STATUS_IE 0).setReg .CORE_IEN 0 0xC).setReg .EVF_CORE_PEND 0 0xF).onCore fun c => {c with waiting := [0]}
def z10 : State := ((core.setFld F.CORE_STATUS_IE 1).setReg .CORE_IEN 0 0xC).setReg .EVF_CORE_PEND 0 0xF
def z11 : State := (run0.setFld F.SYSCTL_PSTATE_CUR 3).setFld F.RTC_CTRL_HALT (1-(run0.fld F.RTC_CTRL_HALT))
def z12 : State := run0.setFld F.SYSCTL_PSTATE_CUR 3
def z13 : State := {(run0.setRest 1) with pwr := {run0.pwr with up := true}}
def z23 : State := fs lowRun [(F.LP_STAT_STATE, 0, lpBeacon)]
def z24 : State := run0.onErr fun f => {f with held := [1]}
def z25 : State := pw run0 fun p => {p with parked := true, off := true}
def z26 : State := run0.onHcp fun h => {h with reset := some 2}
def z27 : State := run0.onHcp fun h => {h with reset := some 0}
def z28 : State := pw run0 fun p => {p with parked := true}
def z29 : State := pw run0 fun p => {p with pinWait := true}
def z30 : State := pw run0 fun p => {p with pinLow := true}
def z31 : State := run0.onCore fun c => {c with debug := true}
def z37 : State := run0.setFld F.SYSCTL_PSTATE_ROADSIDE 1
def z38 : State := (pw pmb3 fun p => {p with pmb := {p.pmb with exp := 0, awaiting := some 200}}).setFld F.PMB_CFG_PGOOD_USE 0
def z39 : State := fs (pmb1) [(F.PMB_STAT_VACK,0,170),(F.SYSCTL_CLKCFG_PLL_EN,0,1),(F.SYSCTL_CLKSTAT_PLL_LOCK,0,0),(F.SYSCTL_CLKSTAT_REFA_GOOD,0,1)]
def z40 : State := fs refs2 [(F.SYSCTL_CLKSTAT_PLL_LOCK,0,0),(F.SYSCTL_CLKSTAT_SRC_CUR,0,0)]
def z41 : State := pmb3.setFld F.PMB_CFG_PGOOD_USE 1
def z44 : State := pw lmOn fun p => { p with flush := some ⟨true, 0, 0, false⟩ }
def z45 : State := { armed with vinLow := true }
def z46 : State := ringed (flushing false)
def z47 : State := pw (flushing true) fun p => {p with vbak := false}
def z48 : State := flushing true
def z49 : State := flushing false
def z50 : State := hostOn.onHcp fun h => { h with served := false }
def z51 : State := (hostOn.onOtp fun o => {o with bits := [(14, 0xE00)]}).onHcp fun h => {h with slots := [(0,1),(1,2)]}
def z52 : State := (hostOn.setTp .hport {queue := [⟨1,0x100,5,[0,0],[]⟩]}).onHcp fun h => { h with served := true }
def z54 : State := mil rad []
def z56 : State := mil (rad.onFrm fun f => {f with vault := [(2*4+3,(7,zeros 16))]}) []
def z57 : State := mil (desc rad 0x20000100 2) []
def z58 : State := rad.onMsu fun u => {u with replay := some 3}
def z59 : State := rad.onMsu fun u => {u with ring := [⟨6,0,64,false,true⟩,rec1]}
def z61 : State := fs (mil rad [act 1 0 1 1]) [(F.MSU_MS_STAT_STATE,5,2)]
def z62 : State := fs (mil rad [act 8 0 0x08000020 0x20000000]) [(F.MSU_MS_STAT_STATE,5,3)]
def z64 : State := ln ((up0.setFld F.LP_STAT_MODE_CUR 2)) fun x => {x with fallback := true, agreed := 0}
def z66 : State := ln (lst lpDetect) fun x => {x with announced := true}
def z67 : State := lst lpSync
def z68 : State := ln (lst lpCheck) fun x => {x with passed := some true, upFrom := some 1}
def z69 : State := ln (lst lpSync) fun x => {x with fallback := true}
def z70 : State := lst lpCheck
def z71 : State := lst lpFull
def z72 : State := lst lpHalfS
def z73 : State := lst lpHalfM
def z75 : State := fs ((run0.onMsu fun u => {u with ring := [{rec1 with queued := true}]})) [(F.LP_STAT_STATE,0,9),(F.LP_CFG_UPSTREAM,0,1),(F.LP_CFG_ROLE,0,0)]
def z76 : State := lst lpQuiet
def z79 : State := (ringed up0).setReg .FRM_NODE 0 0
def z80 : State := ln up0 fun x => {x with fwd := [blk 1 [3]]}
def z81 : State := ln up0 fun x => {x with link := [blk 1 [3]]}
def z82 : State := up0.onMsu fun u => {u with replay := some 1}
def z83 : State := ringed up0
def z84 : State := lst lpWake
def z89 : State := (fs sch [(F.SCHED_GATE_CTRL_SWAP_PEND,0,1)]).onSched fun d => {d with queues := [(3,[⟨0,5,none⟩,⟨0,6,some (1,2)⟩])]}
def z90 : State := sch.onSched fun d => {d with results := [5], tokens := [(3,0)]}
def z94 : State := { (run0.setFld F.RTC_STAT_LOST 0) with rtc := {run0.rtc with ofsDue := true}}
def z95 : State := (fs run0 [(F.NTC_CMP_CTRL_ARMED,3,1)]).setReg .NTC_CMP_PER 3 7
def z96 : State := fs run0 [(F.NTC_CMP_CTRL_ARMED,3,1)]
def z97 : State := (fs run0 [(F.NTC_SETTICK_TICK,0,99999999+1),(F.NTC_STAT_DISC,0,1),(F.SYSCTL_CLKSTAT_SRC_CUR,0,0)]).setFld F.NTC_DISC_SRC 1
def z102 : State := run0.onEvf fun e => {e with flight := [(0,.matched [116])]}
def z103 : State := {(run0.setFld F.RTC_CTRL_HALT 0) with rtc := {run0.rtc with wr := some (.RTC_ADJ,0,8)}}
def z104 : State := run0.onEvf fun e => {e with flight := [(0,.matched [3])]}
def z105 : State := {(run0.setFld F.RTC_CTRL_HALT 0) with rtc := {run0.rtc with wr := some (.RTC_CTRL,0,0x100)}}
def z106 : State := {(fs run0 [(F.RTC_CTRL_HALT,0,1),(F.RTC_TIME_HOUR,0,30)]) with rtc := {run0.rtc with wr := some (.RTC_CTRL,0,0)}}
def z107 : State := {(run0.setFld F.RTC_CTRL_HALT 1) with rtc := {run0.rtc with wr := some (.RTC_CTRL,0,0)}}
def z108 : State := {run0 with rtc := {run0.rtc with wr := some (.RTC_CTRL,0,1)}}
def z109 : State := fs run0 [(F.EVF_GPIO_EDGE,3,1)]
def z122 : State := (fs hst [(F.FRM_EPOCH_CUR,0,1),(F.FRM_EPOCH_ACTIVE,0,1)]).onFrm fun f => {f with vault := [(1,(1,zeros 16))]}
def z123 : State := (fs hst [(F.LP_STAT_STATE,1,9),(F.LP_STAT_UP,1,1)])
def z124 : State := ringed (hst.onFrm fun f => {f with vault := [(0*4+3,(7,zeros 16))]})
def z125 : State := (hst.setFld F.LANE_STAT_STATE 3 0).onFrm fun f => {f with vault := [(1,(1,zeros 16))]}
def z129 : State := ((List.range 64).foldl (fun s k => s.setFld F.MSU_MS_STAT_STATE 1 k) hst).onMsu fun u => {u with ms := (List.range 64).map fun k => (k,{})}
def z131 : State := fs hst [(F.SYSCTL_CLKSTAT_SRC_CUR,0,1)] |> fun s => s.onOtp fun o => {o with bits := [(14, 7 * 2^79)]}
def z132 : State := (fs hst [(F.CTL_STAT_RKEY_OK,0,1),(F.CTL_CFG_MODE,0,2)]).onCtl fun c => {c with errs := [(4,2)]}
def z133 : State := hst.onFlc fun f => {f with errs := [(0,9)]}
def z134 : State := (hst.setFld F.FLC_PART_B 16).setFld F.FLC_PART_BLANK 0

/-- The state after a command, or the state itself where it gives none. -/
def after (c : Instr) (s : State) : State := match exec c s with
  | .next t => t
  | _ => s

/-- g1 and g2 of core 0, and FXMODE. -/
def q15 (rnd sat : Nat) (x y : Word) : State := fs (g (g run0 0 1 x) 0 2 y) [(F.CORE_FXMODE_RND, 0, rnd), (F.CORE_FXMODE_SAT, 0, sat)]

/-- The table of MULQ15 under R393: 0.5 by 0x0005 and by 0xFFFB in each rounding mode. -/
theorem test_mulq15_rounding :
    (after (.mulq15 0 3 1 2) (q15 0 1 0x4000 5)).gpr 0 3 = 2 ∧ (after (.mulq15 0 3 1 2) (q15 0 1 0x4000 0xFFFB)).gpr 0 3 = 0xFFFFFFFD
    ∧ (after (.mulq15 0 3 1 2) (q15 1 1 0x4000 5)).gpr 0 3 = 3 ∧ (after (.mulq15 0 3 1 2) (q15 1 1 0x4000 0xFFFB)).gpr 0 3 = 0xFFFFFFFD
    ∧ (after (.mulq15 0 3 1 2) (q15 2 1 0x4000 5)).gpr 0 3 = 2
    ∧ (after (.mulq15 0 3 1 2) (q15 2 1 0x4000 0xFFFB)).gpr 0 3 = 0xFFFFFFFE := by decide +kernel

/-- MULQ15 and MPY15 of 0x8000 by 0x8000 (under R393). -/
theorem test_mulq15_minus_one : (after (.mulq15 0 3 1 2) (q15 0 1 0x8000 0x8000)).gpr 0 3 = 0x7FFF
    ∧ (after (.mulq15 0 3 1 2) (q15 0 0 0x8000 0x8000)).gpr 0 3 = 0xFFFF8000
    ∧ (after (.mpy15 0 0 1 2) (q15 0 1 0x8000 0x8000)).acc 0 0 = 0x008000000000000000#72 := by decide +kernel

/-- Two MAC15 of 0.75 by 0.75 and the extraction after them (the table under R393). -/
theorem test_mac15_table : let s := after (.mac15 0 0 1 2) (after (.mac15 0 0 1 2) (q15 0 1 0x6000 0x6000))
    s.acc 0 0 = 0x009000000000000000#72 ∧ (after (.aext15 0 3 0 0) s).gpr 0 3 = 0x7FFF
    ∧ (after (.aext15 0 3 0 0) s).flag F.CORE_FXSTAT_OV 0 = true ∧ (after (.msu15 0 0 1 2) s).acc 0 0 = 0x004800000000000000#72
    ∧ (after (.aext15 0 3 0 0) (after (.msu15 0 0 1 2) s)).gpr 0 3 = 0x4800 := by decide +kernel

/-- The same extraction with SAT at 0. -/
theorem test_aext15_wraps : (after (.aext15 0 3 0 0) (after (.mac15 0 0 1 2) (after (.mac15 0 0 1 2) (q15 0 0 0x6000 0x6000)))).gpr 0 3
    = 0xFFFF9000 := by decide +kernel

/-- CX7 with the five micro-operations of the example under R407. -/
def absDiff (x y : Word) : State := ((fs (g (g run0 0 11 x) 0 12 y) [(F.CL_CXDEC_VALID, 7, 1), (F.CL_CXDEC_START, 7, 0x40)])).onCore fun c =>
  { c with ucode := [(0x40, 0x0014A801#32), (0x41, 0x0024A812#32), (0x42, 0x40200002#32),
    (0x43, 0x00100401#32), (0x44, 0x80808000#32)] }

/-- g10 becomes 4 either way (the example under R407). -/
theorem test_cx_example : (after (.cx 0 10 11 12 7 0) (absDiff 5 9)).gpr 0 10 = 4 ∧ (after (.cx 0 10 11 12 7 0) (absDiff 9 5)).gpr 0 10 = 4 := by
  decide +kernel

/-- Words of the spec's examples decode to their instructions (R387, under R394). -/
theorem test_decode_words : decodeLong 0x08537FFD = some (.ri .add 5 6 0x7FFD) ∧ decodeLong 0x60A5B0E0 = some (.cx 10 11 12 7 0)
    ∧ decodeSlot 0x0864 = some ⟨.add, 3, 4⟩ ∧ decodeSlot 0x4CA6 = some ⟨.mac15 1, 5, 6⟩ := by decide +kernel

/-- The example under R230: CTIME 65,530 at NT_SEC 65,541 is 11 seconds early. -/
theorem test_time_window : (run0.setFld F.FRM_CFG_TWIN_UNDISC 11).timeOk 65530 65541 = true
    ∧ (run0.setFld F.FRM_CFG_TWIN_UNDISC 10).timeOk 65530 65541 = false := by decide +kernel

/-- The reset state lists no memory, has no command waiting, and idles. -/
theorem test_reset : State.reset.mem = [] ∧ State.reset.pending = [] ∧ State.reset.memOk := by decide +kernel

/-- 05:59:50 on 2031-03-14 with ALM0 at 06:00:00 and MASK 0x3F (the example under R357). -/
def almDay : State := fs run0 [(F.RTC_CTRL_HALT,0,0),(F.RTC_DATE_YEAR,0,31),(F.RTC_DATE_MONTH,0,3),(F.RTC_DATE_DAY,0,14),
  (F.RTC_TIME_HOUR,0,5),(F.RTC_TIME_MIN,0,59),(F.RTC_TIME_SEC,0,50),(F.RTC_ALM_DATE_YEAR,0,31),(F.RTC_ALM_DATE_MONTH,0,3),
  (F.RTC_ALM_DATE_DAY,0,14),(F.RTC_ALM_TIME_HOUR,0,6),(F.RTC_ALM_CTRL_MASK,0,63),(F.RTC_ALM_CTRL_EN,0,1)]

/-- Five seconds after the fired alarm, ALM0 cleared, the calendar is moved back by 30 s. -/
def almBack : State := (((almDay.calAdjust 20).setFld F.RTC_STAT_ALM0 0).setCal ((almDay.calAdjust 20).calSec + 5)).calAdjust (-30)

/-- The example under R357: the forward move fires ALM0 with PASSED; after the backward one it does not fire at 06:00:00. -/
theorem test_alarm_passed : (almDay.calAdjust 20).flag F.RTC_STAT_ALM0 = true ∧ (almDay.calAdjust 20).flag F.RTC_STAT_ALM0_CAUSE = true
    ∧ (almDay.calAdjust 20).rtc.fired = [(0, almDay.calSec + 10)] := by decide +kernel
theorem test_alarm_held_back : ((almBack.setCal (almDay.calSec + 9)).calSecond).flag F.RTC_STAT_ALM0 = false
    ∧ ((almBack.setCal (almDay.calSec + 9)).calSecond).rtc.back = [] := by decide +kernel

/-- Core 2 with IRQ0 pending in cycle 3, and an event of cycle 0 that reaches the same input (R366, R377). -/
def irqFree : State := { ((run0.setReg .SYSCTL_CORE_EN 0 7#32).setReg .EVF_CORE_PEND 2 1#32) with
  cyc := 3, evf := { flight := [(0, .matched [226])] } }

/-- The input freed in the cycle in which the event reaches it is still busy: OVR, and no activation (R377). -/
theorem test_input_freed_counts_busy :
    (irqFree.regCmd 0 .EVF_CORE_PEND 2 1#32).consumersActivate.flag F.EVF_CSTAT_OVR 226 = true
    ∧ (irqFree.regCmd 0 .EVF_CORE_PEND 2 1#32).consumersActivate.reg .EVF_CORE_PEND 2 = 0
    ∧ ({ irqFree.regCmd 0 .EVF_CORE_PEND 2 1#32 with cyc := 4 } : State).consumersActivate.reg .EVF_CORE_PEND 2 = 1 := by decide +kernel
/-! ## Witnesses of hypotheses -/

theorem witness_RoundingModes : 0 < 1 ∧ 2 * (roundFx 1 1 1 * 2 ^ 1 - 1).natAbs = 2 ^ 1 ∧ 2 * (roundFx 2 1 1 * 2 ^ 1 - 1).natAbs = 2 ^ 1 := by
  decide +kernel

theorem witness_LongEncoding : AluOp.add.immCode ≠ none ∧ decodeLong 0x08537FFD = some (.ri .add 5 6 0x7FFD) := by decide +kernel

theorem witness_ShortEncoding : decodeSlot 0x0864 = some ⟨.add, 3, 4⟩ := by decide +kernel

theorem witness_AddressesReachTheirRegisters : (regRow .SYSCTL_CLKCFG).copies = .one ∧ (regRow .SYSCTL_CLKCFG).base.isSome = true
    ∧ 0 < dimCount (regRow .SYSCTL_CLKCFG).dims ∧ (regRow .LANE_OFFSET).copies = .one ∧ (regRow .LANE_OFFSET).base.isSome = true
    ∧ 127 < dimCount (regRow .LANE_OFFSET).dims := by decide +kernel

theorem witness_StepKeepsMemoryForm : bytes1 run0 |>.memOk := by decide +kernel

/-- and a step from it answers a next state. -/
theorem witness_StepKeepsMemoryForm_next : ∃ t, step (bytes1 State.reset) = .next t := ⟨_, rfl⟩

/-- The example of R446: the place and the check byte of 0xB0001234 on a 2 GiB single-rank device. -/
theorem test_dramPlace_example :
    let s := State.reset.setReg .DMC_DEV 0 (0x00010008#32)
    (s.dramPlace 0x30001234).burst = 17 ∧ (s.dramPlace 0x30001234).bank = 2 ∧ (s.dramPlace 0x30001234).row = 49152
      ∧ s.dramCheckByte 0x30001230 = 0x76000246 := by decide +kernel

/-- The length of a burst that R288 states. -/
theorem test_burst_length : (burstLevels idleBlock).length = 3724 := by decide +kernel

/-- The symbols of a block that R278 states for each mode: its block time at its symbol rate. -/
theorem test_block_symbols :
    let x : LinePort := ({} : LinePort).blockOut idleBlock
    (x.blockLevels 0).length = 512 ∧ (x.blockLevels 1).length = 1024 ∧ (x.blockLevels 2).length = 2048 := by decide +kernel
theorem witness_IntegerRegisterOps :
    (core8.coreReady (8 : CoreNo)) := by
  decide +kernel

theorem witness_FixedPointRegisterOps :
    (core2.coreReady (0 : CoreNo)) := by
  decide +kernel

theorem witness_AccumulatorOps :
    (core2.coreReady (0 : CoreNo)) := by
  decide +kernel

theorem witness_AccumulatorReads :
    (core2.coreReady (0 : CoreNo)) := by
  decide +kernel

theorem witness_ImmediateOps :
    (core2.coreReady (0 : CoreNo)) := by
  decide +kernel

theorem witness_RamLoads :
    (core8.coreReady (8 : CoreNo) ∧
      (core8.coreFetched (8 : CoreNo)).cleanAt (pairOf (8 : CoreNo).val) (BitVec.toNat ((core8.coreFetched (8 : CoreNo)).gpr (pairOf (8 : CoreNo).val) (BitVec.toNat (2 : RegF)) + BitVec.signExtend 32 (0 : BitVec 15))) ∧
      (clusterOfWho (pairOf (8 : CoreNo).val) = 0 ∨ inScratch (BitVec.toNat ((core8.coreFetched (8 : CoreNo)).gpr (pairOf (8 : CoreNo).val) (BitVec.toNat (2 : RegF)) + BitVec.signExtend 32 (0 : BitVec 15))) = true ∨ (core8.coreFetched (8 : CoreNo)).userMem (clusterOfWho (pairOf (8 : CoreNo).val)) (BitVec.toNat ((core8.coreFetched (8 : CoreNo)).gpr (pairOf (8 : CoreNo).val) (BitVec.toNat (2 : RegF)) + BitVec.signExtend 32 (0 : BitVec 15))) 1 = true) ∧
      (clusterOfWho (pairOf (8 : CoreNo).val) = 0 ∨ inScratch (BitVec.toNat ((core8.coreFetched (8 : CoreNo)).gpr (pairOf (8 : CoreNo).val) (BitVec.toNat (2 : RegF)) + BitVec.signExtend 32 (0 : BitVec 15))) = true ∨ (core8.coreFetched (8 : CoreNo)).userMem (clusterOfWho (pairOf (8 : CoreNo).val)) (BitVec.toNat ((core8.coreFetched (8 : CoreNo)).gpr (pairOf (8 : CoreNo).val) (BitVec.toNat (2 : RegF)) + BitVec.signExtend 32 (0 : BitVec 15))) 2 = true) ∧
      BitVec.toNat ((core8.coreFetched (8 : CoreNo)).gpr (pairOf (8 : CoreNo).val) (BitVec.toNat (2 : RegF)) + BitVec.signExtend 32 (0 : BitVec 15)) % 2 = 0 ∧
      (clusterOfWho (pairOf (8 : CoreNo).val) = 0 ∨ inScratch (BitVec.toNat ((core8.coreFetched (8 : CoreNo)).gpr (pairOf (8 : CoreNo).val) (BitVec.toNat (2 : RegF)) + BitVec.signExtend 32 (0 : BitVec 15))) = true ∨ (core8.coreFetched (8 : CoreNo)).userMem (clusterOfWho (pairOf (8 : CoreNo).val)) (BitVec.toNat ((core8.coreFetched (8 : CoreNo)).gpr (pairOf (8 : CoreNo).val) (BitVec.toNat (2 : RegF)) + BitVec.signExtend 32 (0 : BitVec 15))) 4 = true) ∧
      BitVec.toNat ((core8.coreFetched (8 : CoreNo)).gpr (pairOf (8 : CoreNo).val) (BitVec.toNat (2 : RegF)) + BitVec.signExtend 32 (0 : BitVec 15)) % 4 = 0) := by
  decide +kernel

theorem witness_RamStores :
    (core8.coreReady (8 : CoreNo) ∧
      (core8.coreFetched (8 : CoreNo)).cleanAt (pairOf (8 : CoreNo).val) (BitVec.toNat ((core8.coreFetched (8 : CoreNo)).gpr (pairOf (8 : CoreNo).val) (BitVec.toNat (2 : RegF)) + BitVec.signExtend 32 (4 : BitVec 15))) ∧
      (clusterOfWho (pairOf (8 : CoreNo).val) = 0 ∨ inScratch (BitVec.toNat ((core8.coreFetched (8 : CoreNo)).gpr (pairOf (8 : CoreNo).val) (BitVec.toNat (2 : RegF)) + BitVec.signExtend 32 (4 : BitVec 15))) = true ∨ (core8.coreFetched (8 : CoreNo)).userMem (clusterOfWho (pairOf (8 : CoreNo).val)) (BitVec.toNat ((core8.coreFetched (8 : CoreNo)).gpr (pairOf (8 : CoreNo).val) (BitVec.toNat (2 : RegF)) + BitVec.signExtend 32 (4 : BitVec 15))) 1 = true) ∧
      BitVec.toNat ((core8.coreFetched (8 : CoreNo)).gpr (pairOf (8 : CoreNo).val) (BitVec.toNat (2 : RegF)) + BitVec.signExtend 32 (4 : BitVec 15)) % 1 = 0 ∧
      (clusterOfWho (pairOf (8 : CoreNo).val) = 0 ∨ inScratch (BitVec.toNat ((core8.coreFetched (8 : CoreNo)).gpr (pairOf (8 : CoreNo).val) (BitVec.toNat (2 : RegF)) + BitVec.signExtend 32 (4 : BitVec 15))) = true ∨ (core8.coreFetched (8 : CoreNo)).userMem (clusterOfWho (pairOf (8 : CoreNo).val)) (BitVec.toNat ((core8.coreFetched (8 : CoreNo)).gpr (pairOf (8 : CoreNo).val) (BitVec.toNat (2 : RegF)) + BitVec.signExtend 32 (4 : BitVec 15))) 2 = true) ∧
      BitVec.toNat ((core8.coreFetched (8 : CoreNo)).gpr (pairOf (8 : CoreNo).val) (BitVec.toNat (2 : RegF)) + BitVec.signExtend 32 (4 : BitVec 15)) % 2 = 0 ∧
      (clusterOfWho (pairOf (8 : CoreNo).val) = 0 ∨ inScratch (BitVec.toNat ((core8.coreFetched (8 : CoreNo)).gpr (pairOf (8 : CoreNo).val) (BitVec.toNat (2 : RegF)) + BitVec.signExtend 32 (4 : BitVec 15))) = true ∨ (core8.coreFetched (8 : CoreNo)).userMem (clusterOfWho (pairOf (8 : CoreNo).val)) (BitVec.toNat ((core8.coreFetched (8 : CoreNo)).gpr (pairOf (8 : CoreNo).val) (BitVec.toNat (2 : RegF)) + BitVec.signExtend 32 (4 : BitVec 15))) 4 = true) ∧
      BitVec.toNat ((core8.coreFetched (8 : CoreNo)).gpr (pairOf (8 : CoreNo).val) (BitVec.toNat (2 : RegF)) + BitVec.signExtend 32 (4 : BitVec 15)) % 4 = 0) := by
  decide +kernel

theorem witness_AtomicOps_plain :
    (core.coreReady (0 : CoreNo) ∧
      BitVec.toNat ((core.coreFetched (0 : CoreNo)).gpr (pairOf (0 : CoreNo).val) (BitVec.toNat (0 : RegF))) % 4 = 0 ∧
      inScratch (BitVec.toNat ((core.coreFetched (0 : CoreNo)).gpr (pairOf (0 : CoreNo).val) (BitVec.toNat (0 : RegF)))) = false ∧
      inSram (BitVec.toNat ((core.coreFetched (0 : CoreNo)).gpr (pairOf (0 : CoreNo).val) (BitVec.toNat (0 : RegF)))) = false) := by
  decide +kernel

theorem witness_AccessFaults :
    (core.coreReady (0 : CoreNo) ∧
      BitVec.toNat ((core.coreFetched (0 : CoreNo)).gpr (pairOf (0 : CoreNo).val) (BitVec.toNat (2 : RegF)) + BitVec.signExtend 32 (1 : BitVec 15)) % 2 ≠ 0 ∧
      BitVec.toNat ((core.coreFetched (0 : CoreNo)).gpr (pairOf (0 : CoreNo).val) (BitVec.toNat (2 : RegF)) + BitVec.signExtend 32 (1 : BitVec 15)) % 4 ≠ 0 ∧
      pairOf (0 : CoreNo).val = 0) ∧
    (core8.coreReady (8 : CoreNo) ∧
      ((core8.coreFetched (8 : CoreNo)).busRead (pairOf (8 : CoreNo).val) (BitVec.toNat ((core8.coreFetched (8 : CoreNo)).gpr (pairOf (8 : CoreNo).val) (BitVec.toNat (0 : RegF)) + BitVec.signExtend 32 (0 : BitVec 15))) 4).1 = Resp.error ∧
      BitVec.toNat ((core8.coreFetched (8 : CoreNo)).gpr (pairOf (8 : CoreNo).val) (BitVec.toNat (0 : RegF)) + BitVec.signExtend 32 (0 : BitVec 15)) % 4 = 0 ∧
      peerWord (pairOf (8 : CoreNo).val) (BitVec.toNat ((core8.coreFetched (8 : CoreNo)).gpr (pairOf (8 : CoreNo).val) (BitVec.toNat (0 : RegF)) + BitVec.signExtend 32 (0 : BitVec 15))) = none ∧
      ((core8.coreFetched (8 : CoreNo)).busWrite (pairOf (8 : CoreNo).val) (BitVec.toNat ((core8.coreFetched (8 : CoreNo)).gpr (pairOf (8 : CoreNo).val) (BitVec.toNat (0 : RegF)) + BitVec.signExtend 32 (0 : BitVec 15))) (leBytes 4 (BitVec.toNat ((core8.coreFetched (8 : CoreNo)).gpr (pairOf (8 : CoreNo).val) (BitVec.toNat (3 : RegF)))))).1 = Resp.error) ∧
    (z3.coreReady (0 : CoreNo) ∧
      ((z3.coreFetched (0 : CoreNo)).busRead (pairOf (0 : CoreNo).val) (BitVec.toNat ((z3.coreFetched (0 : CoreNo)).gpr (pairOf (0 : CoreNo).val) (BitVec.toNat (2 : RegF)) + BitVec.signExtend 32 (0 : BitVec 15))) 4).1 = Resp.ecc ∧
      BitVec.toNat ((z3.coreFetched (0 : CoreNo)).gpr (pairOf (0 : CoreNo).val) (BitVec.toNat (2 : RegF)) + BitVec.signExtend 32 (0 : BitVec 15)) % 4 = 0 ∧
      peerWord (pairOf (0 : CoreNo).val) (BitVec.toNat ((z3.coreFetched (0 : CoreNo)).gpr (pairOf (0 : CoreNo).val) (BitVec.toNat (2 : RegF)) + BitVec.signExtend 32 (0 : BitVec 15))) = none) := by
  refine ⟨?_, ?_, ?_⟩
  · decide +kernel  -- 1.1, 1.2, 1.3, 2.1, 2.2, 6.1, 6.2
  · decide +kernel  -- 3, 5
  · decide +kernel  -- 4

theorem witness_Branches :
    (core.coreReady (0 : CoreNo) ∧
      BitVec.toNat ((core.coreFetched (0 : CoreNo)).gpr (pairOf (0 : CoreNo).val) (BitVec.toNat (2 : RegF)) + BitVec.signExtend 32 (1 : BitVec 15)) % 4 ≠ 0) ∧
    (core.coreReady (0 : CoreNo) ∧
      BitVec.toNat ((core.coreFetched (0 : CoreNo)).gpr (pairOf (0 : CoreNo).val) (BitVec.toNat (2 : RegF)) + BitVec.signExtend 32 (0 : BitVec 15)) % 4 = 0) := by
  refine ⟨?_, ?_⟩
  · decide +kernel  -- 1, 2, 3, 4, 6
  · decide +kernel  -- 5

theorem witness_SystemOps :
    (core.coreReady (0 : CoreNo)) := by
  decide +kernel

theorem witness_ExceptionEntry :
    (z6.coreReady (0 : CoreNo) ∧
      (z6.coreFetched (0 : CoreNo)).debugReach (pairOf (0 : CoreNo).val) = true ∧
      (3 : RegF) ≠ 0) ∧
    (core.coreReady (0 : CoreNo) ∧
      (core.coreFetched (0 : CoreNo)).debugReach (pairOf (0 : CoreNo).val) = false) := by
  refine ⟨?_, ?_⟩
  · decide +kernel  -- 1, 2, 4, 5, 6, 7
  · decide +kernel  -- 3

theorem witness_DoubleFault :
    ((0 : Nat) < 24 ∧
      z7.flag F.CORE_STATUS_HND (0 : Nat) = true ∧
      z7.sysOn = true ∧
      (0 : Nat) = 0 ∧
      (0 : Nat) < 8 ∧
      z7.inRoadside = false) ∧
    ((8 : Nat) < 24 ∧
      z8.flag F.CORE_STATUS_HND (8 : Nat) = true ∧
      z8.sysOn = true ∧
      8 ≤ (8 : Nat)) := by
  refine ⟨?_, ?_⟩
  · decide +kernel  -- 1, 2, 3, 4, 5
  · decide +kernel  -- 6

theorem witness_Interrupts :
    ((z9.flag F.CORE_STATUS_HND (pairOf (0 : CoreNo).val) = true ∨ z9.flag F.CORE_STATUS_IE (pairOf (0 : CoreNo).val) = false) ∧
      pairOf (0 : CoreNo).val ∈ z9.core.waiting ∧
      z9.reg RegName.EVF_CORE_PEND (pairOf (0 : CoreNo).val) &&& z9.reg RegName.CORE_IEN (pairOf (0 : CoreNo).val) ≠ 0) ∧
    (z10.runs (pairOf (0 : CoreNo).val) = true ∧
      z10.flag F.CORE_STATUS_IE (pairOf (0 : CoreNo).val) = true ∧
      z10.flag F.CORE_STATUS_HND (pairOf (0 : CoreNo).val) = false ∧
      (2 : Nat) < 4 ∧
      (fun j => BitVec.getLsbD (z10.reg RegName.EVF_CORE_PEND (pairOf (0 : CoreNo).val)) j && BitVec.getLsbD (z10.reg RegName.CORE_IEN (pairOf (0 : CoreNo).val)) j) (2 : Nat) = true ∧
      (∀ j < (2 : Nat), (fun j => BitVec.getLsbD (z10.reg RegName.EVF_CORE_PEND (pairOf (0 : CoreNo).val)) j && BitVec.getLsbD (z10.reg RegName.CORE_IEN (pairOf (0 : CoreNo).val)) j) j = false)) := by
  refine ⟨?_, ?_⟩
  · decide +kernel  -- 2, 3
  · decide +kernel  -- 1

theorem witness_PairedOps :
    (core2.coreReady (0 : CoreNo)) := by
  decide +kernel

theorem witness_PairedSlots :
    (core.coreReady (0 : CoreNo) ∧
      (3 : RegF) ≠ (2 : RegF) ∧
      (3 : RegF) ≠ 0 ∧
      (2 : RegF) ≠ 0 ∧
      28 ≤ (0x7001 : BitVec 15).toNat / 1024 ∧
      (core.coreFetched (0 : CoreNo)).cleanAt (pairOf (0 : CoreNo).val) (BitVec.toNat ((core.coreFetched (0 : CoreNo)).gpr (pairOf (0 : CoreNo).val) (BitVec.toNat (2 : RegF)))) ∧
      (clusterOfWho (pairOf (0 : CoreNo).val) = 0 ∨ inScratch (BitVec.toNat ((core.coreFetched (0 : CoreNo)).gpr (pairOf (0 : CoreNo).val) (BitVec.toNat (2 : RegF)))) = true ∨ (core.coreFetched (0 : CoreNo)).userMem (clusterOfWho (pairOf (0 : CoreNo).val)) (BitVec.toNat ((core.coreFetched (0 : CoreNo)).gpr (pairOf (0 : CoreNo).val) (BitVec.toNat (2 : RegF)))) 4 = true) ∧
      BitVec.toNat ((core.coreFetched (0 : CoreNo)).gpr (pairOf (0 : CoreNo).val) (BitVec.toNat (2 : RegF))) % 4 = 0) := by
  decide +kernel

theorem witness_CustomOpcode :
    (ucore2.coreReady (0 : CoreNo) ∧
      (ucore2.coreFetched (0 : CoreNo)).flag F.CL_CXDEC_VALID (pairOf (0 : CoreNo).val / 8 * 32 + BitVec.toNat (7 : RegF)) = true ∧
      Tab.getD (ucore2.coreFetched (0 : CoreNo)).sram.errs (RamWord.ucode (pairOf (0 : CoreNo).val / 8) ((ucore2.coreFetched (0 : CoreNo)).fld F.CL_CXDEC_START (pairOf (0 : CoreNo).val / 8 * 32 + BitVec.toNat (7 : RegF)))).key 0 = 0 ∧
      (LOp.rr AluOp.addq31 8 9 10).fieldsOk = true ∧
      Tab.getD (ucore2.coreFetched (0 : CoreNo)).core.ucode (pairOf (0 : CoreNo).val / 8 * 2048 + (ucore2.coreFetched (0 : CoreNo)).fld F.CL_CXDEC_START (pairOf (0 : CoreNo).val / 8 * 32 + BitVec.toNat (7 : RegF))) 0 = 2147483648#32 ||| (LOp.rr AluOp.addq31 8 9 10).encode) ∧
    (core.coreReady (0 : CoreNo) ∧
      (core.coreFetched (0 : CoreNo)).flag F.CL_CXDEC_VALID (pairOf (0 : CoreNo).val / 8 * 32 + BitVec.toNat (7 : RegF)) = false) := by
  refine ⟨?_, ?_⟩
  · decide +kernel  -- 1
  · decide +kernel  -- 2

theorem witness_StoppedCores :
    (core.runs (pairOf (8 : CoreNo).val) = false) := by
  decide +kernel

theorem witness_FetchFrame :
    ((core8.fetch (8 : Nat)).fst = Fetched.line ∧
      8 ≤ (8 : Nat)) := by
  decide +kernel

theorem witness_HardwiredZero :
    (core.coreReady (0 : CoreNo)) := by
  decide +kernel

theorem witness_IdleCycle :
    (z11.pending = [] ∧
      z11.sysOn = false ∧
      z11.roadPend = none ∧
      (z11.flag F.RTC_CTRL_HALT = true ∨ z11.pwr.vbak = false)) ∧
    (z12.pending = [] ∧
      z12.sysOn = false ∧
      z12.roadPend = none ∧
      z12.flag F.RTC_CTRL_HALT = false ∧
      z12.pwr.vbak = true ∧
      z12.rtc.sub + 1 < 390625) := by
  refine ⟨?_, ?_⟩
  · decide +kernel  -- 1, 2
  · decide +kernel  -- 3

theorem witness_EndOfStep :
    (z13.waits = false ∧
      z13.hcp.jobs = [] ∧
      z13.hcp.reads = [] ∧
      z13.sched.again = false ∧
      z13.roadPend = none ∧
      z13.noExch = true ∧
      (∀ e ∈ z13.msu.ms, e.snd.request = none) ∧
      (∀ r ∈ z13.msu.ring, r.queued = true ∨ r.retired = true) ∧
      (z13.tp Tp.lp0).lost = 0 ∧
      (z13.tp Tp.lp1).lost = 0) ∧
    ((z13.floorNow = 7 ∨ z13.restState ≤ z13.floorNow)) := by
  refine ⟨?_, ?_⟩
  · decide +kernel  -- 1, 2, 3, 4
  · decide +kernel  -- same

theorem witness_PlainRegisterWrite :
    (wlockOf RegName.LANE_PT_MOD (3 : Nat) ≠ some (RegName.LANE_PT_MOD, (3 : Nat)) ∧
      (run0.reg RegName.LANE_PT_MOD (3 : Nat) ^^^ (0xFFFFFFFF : Word)) &&& (regRow RegName.LANE_PT_MOD).locked ≠ 0 ∧
      (wlockOf RegName.LANE_PT_MOD (3 : Nat)).isSome = true) := by
  decide +kernel

theorem witness_RegisterAccess_plain :
    (run0.sysOn = true ∧
      inDbg (BitVec.toNat (0x5FFF0000 : Word)) = false ∧
      run0.rights (0 : Who).val ≠ [] ∧
      regAt (run0.actsAs (0 : Who).val) (BitVec.toNat (0x5FFF0000 : Word)) = none) ∧
    (z12.sysOn = false) := by
  refine ⟨?_, ?_⟩
  · decide +kernel  -- 3
  · decide +kernel  -- 1

theorem witness_PowerStates_plain :
    (z23.sysOn = true ∧
      z23.lpState 0 = lpBeacon) := by
  decide +kernel

theorem witness_Resets :
    (z24.pwr.held = false ∧
      z24.pwr.pinLow = false ∧
      z24.sysOn = true ∧
      z24.flushing = false ∧
      z24.forCl0 (0 : Who) ∧
      z24.err.held ≠ [] ∧
      z24.pulseRuns = false ∧
      z24.level < 3 ∧
      z24.pwr.off = false ∧
      z24.pwr.flush = none) ∧
    (BitVec.toNat (255 : Byte) > z24.releaseLevel ∧
      z24.pwr.parked = false ∧
      z24.portEnabled 0 = false ∧
      z24.portEnabled 1 = false ∧
      z24.pinResets = true ∧
      z24.level ≤ 2 ∧
      z24.pwr.pinWait = false) ∧
    (BitVec.toNat (255 : Byte) > z25.releaseLevel ∧
      z25.pwr.parked = true ∧
      z25.pwr.pinLow = false ∧
      z25.pwr.off = true) ∧
    (BitVec.toNat (0 : Byte) ≤ run0.releaseLevel) ∧
    ((∃ k ∈ z26.hcp.reset, (k = 1 ∨ k = 2))) ∧
    (z27.sysOn = true ∧
      z27.flushing = false ∧
      z27.hcp.reset = some 0) ∧
    (BitVec.toNat (255 : Byte) > z28.releaseLevel ∧
      z28.pwr.parked = true ∧
      z28.pwr.pinLow = false ∧
      z28.pwr.off = false) ∧
    (z29.pwr.pinWait = true) ∧
    (z30.pwr.held = false ∧
      z30.pwr.pinLow = true) ∧
    (z31.sysOn = true ∧
      z31.flushing = false ∧
      z31.debugReach 0 = true) := by
  refine ⟨?_, ?_, ?_, ?_, ?_, ?_, ?_, ?_, ?_, ?_⟩
  · decide +kernel  -- 1, 10.1, 12.1, 12.2, 12.3, 14, 15, 16, 17, 3, 5.1, 8, 9
  · decide +kernel  -- same
  · decide +kernel  -- 5.3.2
  · decide +kernel  -- 4
  · decide +kernel  -- 11
  · decide +kernel  -- 10.3
  · decide +kernel  -- 5.3.1
  · decide +kernel  -- 6
  · decide +kernel  -- 2
  · decide +kernel  -- 10.2

theorem witness_WhatResetsKeep :
    (z37.commitHead = none ∧
      z37.flc.programs = [] ∧
      z37.flc.page = none ∧
      z37.otp.run = none ∧
      z37.workEnds.flushDue = false) := by
  decide +kernel

theorem witness_VoltageAndClocks :
    (z38.sysOn = true ∧
      z38.forCl0 (0 : Who) ∧
      z38.pwr.pmb.sending = none ∧
      z38.flag F.SYSCTL_CLKSTAT_PLL_LOCK = true ∧
      z38.flag F.PMB_CFG_PGOOD_USE = false ∧
      BitVec.getLsbD (0 : Half) 15 = false ∧
      BitVec.getLsbD (0 : Half) 11 = false ∧
      z38.pwr.pmb.exp = -0 ∧
      z38.pwr.pmb.exp = 0 ∧
      z38.pwr.pmb.pollRetries < z38.fld F.PMB_CFG_RETRIES) ∧
    (0#8 ≠ z38.pmbReadCode 121 (0 : Half) ∧
      1#8 ≠ z38.pmbReadCode 121 (0 : Half) ∧
      2#8 ≠ z38.pmbReadCode 121 (0 : Half) ∧
      3#8 ≠ z38.pmbReadCode 121 (0 : Half) ∧
      5#8 ≠ z38.pmbReadCode 121 (0 : Half) ∧
      z38.flag F.SYSCTL_CLKCFG_REF_REVERT = false ∧
      (∃ x ∈ z38.pwr.pmb.awaiting, x < 256 ∧ (Int.ofNat (BitVec.toNat (1 : Half) * 1000) - Int.ofNat (x * 5 * 2 ^ 0)).natAbs ≤ 15 * 2 ^ 0 ∧ (Int.ofNat (BitVec.toNat (1 : Half) * 2 ^ 0 * 1000) - Int.ofNat (x * 5)).natAbs ≤ 15)) ∧
    (z39.sysOn = true ∧
      z39.forCl0 (0 : Who) ∧
      z39.pwr.pmb.next = none ∧
      z39.pwr.pmb.retries < z39.fld F.PMB_CFG_RETRIES ∧
      z39.refGood (0 : Fin 2).val = true ∧
      z39.flag F.SYSCTL_CLKCFG_PLL_EN = true ∧
      z39.fld F.SYSCTL_CLKSTAT_REF_ACTIVE = (0 : Fin 2).val ∧
      z39.refGood (1 - (0 : Fin 2).val) = false ∧
      z39.pllRuns = true ∧
      z39.pwr.waking = false) ∧
    (z39.flag F.SYSCTL_CLKSTAT_PLL_LOCK = false ∧
      (∃ x ∈ z39.pwr.pmb.sending, x < z39.fld F.PMB_STAT_VACK)) ∧
    (z40.sysOn = true ∧
      z40.forCl0 (0 : Who) ∧
      z40.nowOrWas State.onPll = false ∧
      z40.flag F.SYSCTL_CLKCFG_SRC = false ∧
      z40.refGood (0 : Fin 2).val = true ∧
      z40.flag F.SYSCTL_CLKCFG_PLL_EN = true ∧
      z40.fld F.SYSCTL_CLKSTAT_REF_ACTIVE = (0 : Fin 2).val ∧
      z40.refGood (1 - (0 : Fin 2).val) = true) ∧
    (z41.flag F.PMB_CFG_PGOOD_USE = true ∧
      z41.pwr.pmb.awaiting = some 130 ∧
      z41.sysOn = true ∧
      z41.flag F.PMB_STAT_BUSY = false ∧
      BitVec.getLsbD (0x8000 : Half) 15 = true ∧
      (∃ x ∈ z41.pwr.pmb.awaiting, x < 256)) ∧
    (pmb2.pwr.pmb.next = none ∧
      (∃ x ∈ pmb2.pwr.pmb.sending, pmb2.fld F.PMB_STAT_VACK ≤ x)) := by
  refine ⟨?_, ?_, ?_, ?_, ?_, ?_, ?_⟩
  · decide +kernel  -- 1.1, 1.4, 1.5, 3.2.1[1], 3.2.2[1], 3.3, 3.4[1], 3.4[2], 3.4[3], 3.4[4], 3.4[5], 5.3, 5.6
  · decide +kernel  -- same
  · decide +kernel  -- 1.2, 2.1, 2.3, 5.2.2, 5.4.1, 5.5
  · decide +kernel  -- same
  · decide +kernel  -- 1.3.1, 1.3.2, 5.2.1
  · decide +kernel  -- 3.1, 4, 5.1
  · decide +kernel  -- 2.2

theorem witness_LastMile_plain :
    (z44.level < 3 ∧
      z44.pwr.off = false ∧
      z44.pwr.held = false ∧
      z44.pwr.pinWait = false ∧
      z44.vinLow = false ∧
      z44.flag F.SYSCTL_VINCFG_LM_EN = true ∧
      (∀ f ∈ z44.pwr.flush, f.orderly = true) ∧
      z44.sysOn = true ∧
      z44.forCl0 (0 : Who) ∧
      (z44.nowOrWas fun u => u.flag F.SYSCTL_LMSTAT_ARMED) = false) ∧
    ((z44.setFld F.SYSCTL_LMCFG_AREA (1 : BitVec 5).toNat).areaOk = true ∧
      (z44.setFld F.SYSCTL_LMCFG_AREA (1 : BitVec 5).toNat).slotErased 0 = true) ∧
    (z45.vinLow = true ∧
      z45.sysOn = true ∧
      z45.forCl0 (0 : Who) ∧
      z45.flag F.SYSCTL_LMSTAT_ARMED = true ∧
      z45.pwr.flush = none) ∧
    (z46.flashQuiet = true ∧
      z46.journalDirty = true ∧
      z46.pwr.pinFlush = false ∧
      (∃ f ∈ z46.pwr.flush, ∃ k ∈ z46.flushSlot, f.orderly = false ∧ f.sealed = false) ∧
      (∃ f ∈ z46.pwr.flush, f.orderly = false ∧ f.sealed = false)) ∧
    (z47.pwr.vbak = false ∧
      (∃ f ∈ z47.pwr.flush, f.orderly = false ∧ f.sealed = true)) ∧
    (z48.pwr.vbak = true ∧
      z48.pwr.pinFlush = false ∧
      (∃ f ∈ z48.pwr.flush, f.orderly = false ∧ f.sealed = true)) ∧
    (z49.flashQuiet = true ∧
      z49.journalDirty = false ∧
      (∃ f ∈ z49.pwr.flush, f.orderly = false ∧ f.sealed = false)) := by
  refine ⟨?_, ?_, ?_, ?_, ?_, ?_, ?_⟩
  · decide +kernel  -- 2, 3.1
  · decide +kernel  -- same
  · decide +kernel  -- 1, 3.2
  · decide +kernel  -- 4.1.2, 4.3
  · decide +kernel  -- 4.2.3
  · decide +kernel  -- 4.2.2
  · decide +kernel  -- 4.1.1

theorem witness_Transports :
    (hostOn.pwr.off = false ∧
      hostOn.pwr.held = false ∧
      hostOn.level ≤ 1 ∧
      hostOn.pwr.flush = none ∧
      hostOn.debugDisabled = false ∧
      hostOn.hcp.csnLow = true ∧
      hostOn.hcp.served = true ∧
      parsePkt ([1,2] : Bytes) = Parsed.noSync ∧
      ¬(9 : Byte) ∈ [2#8, 5#8, 11#8] ∧
      (hostOn.tp Tp.hport).queue = []) ∧
    ((hostOn.hcp.csnLow = true ∧ hostOn.hcp.served = true ∨ hostOn.hcp.statusOn = true)) ∧
    (z50.hcp.served = false ∧
      (11 : Byte) ≠ 5#8 ∧
      z50.hcp.statusOn = false) ∧
    (hostOn.hcp.csnLow = true ∧
      hostOn.hcp.served = true ∧
      parsePkt pingPkt = Parsed.packet (⟨0,0x0100,5,[],[]⟩ : Pkt) (12 : Nat) ∧
      hostOn.sysOn = true ∧
      parsePkt (hostOn.hcp.uart ++ pingPkt) = Parsed.packet (⟨0,0x0100,5,[],[]⟩ : Pkt) (List.length (hostOn.hcp.uart ++ pingPkt))) ∧
    (z51.debugDisabled = true) ∧
    (z52.hcp.csnLow = true ∧
      z52.hcp.served = true ∧
      (∃ p ∈ ((z52.tp Tp.hport).queue).head?, BitVec.toNat (3 : Half) < pktLen p)) ∧
    (z52.hcp.csnLow = true ∧
      z52.hcp.served = true ∧
      (z52.tp Tp.hport).lost = 0 ∧
      z52.hcp.rateNext = [] ∧
      (∃ p ∈ ((z52.tp Tp.hport).queue).head?, pktLen p ≤ BitVec.toNat (32 : Half))) := by
  refine ⟨?_, ?_, ?_, ?_, ?_, ?_, ?_⟩
  · decide +kernel  -- 1, 10, 11, 13, 2, 3.2, 3.3, 3.6, 4.1, 4.2, 7, 8, 9
  · decide +kernel  -- same
  · decide +kernel  -- 5.1, 5.2, 5.3.1, 5.3.2
  · decide +kernel  -- 3.1, 6
  · decide +kernel  -- 12
  · decide +kernel  -- 3.5
  · decide +kernel  -- 3.4

theorem witness_MilestonesOpenAndAdd :
    (z54.sysOn = true ∧
      z54.pwr.entry = none ∧
      z54.msu.replay = none ∧
      z54.forCl0 (0 : Who) ∧
      z54.mile (5 : BitVec 6).toNat = some (((mil rad []).mile 5).getD {} : Milestone) ∧
      z54.mileUsable 0 none (5 : BitVec 6).toNat = true ∧
      (((mil rad []).mile 5).getD {} : Milestone).actions.length < 16 ∧
      (∀ a ∈ (((mil rad []).mile 5).getD {} : Milestone).actions, a.claimed = none) ∧
      (0 : BitVec 6) = 0 ∧
      BitVec.toNat (0 : Half) < 128) ∧
    (BitVec.toNat (0 : Half) < 32 ∧
      (0 : Word) = 0 ∧
      z54.tmrOwner (BitVec.toNat (0 : Half)) = 0 ∧
      (0 : Half) = 0 ∧
      BitVec.toNat (0x08000020 : Word) % 32 = 0 ∧
      flashBase ≤ BitVec.toNat (0x08000020 : Word) ∧
      BitVec.toNat (0x08000020 : Word) < flashBase + z54.partB * 1048576 ∧
      (((mil rad []).mile 5).getD {} : Milestone).actions = [] ∧
      z54.commitHead ≠ some (5 : BitVec 6).toNat ∧
      (z54.mileFree 0 z54.feLow).isSome = true) ∧
    ((∀ (x : Nat × Nat), z54.holders (5 : BitVec 6).toNat x = [])) ∧
    (z54.sysOn = true ∧
      z54.forCl0 (0 : Who) ∧
      z54.mile (5 : BitVec 6).toNat = some (((mil rad []).mile 5).getD {} : Milestone) ∧
      z54.mileUsable 0 none (5 : BitVec 6).toNat = true ∧
      (((mil rad []).mile 5).getD {} : Milestone).actions.length < 16 ∧
      (∀ a ∈ (((mil rad []).mile 5).getD {} : Milestone).actions, a.claimed = none) ∧
      (0 : BitVec 6) = 0 ∧
      (0 : Half) = 0 ∧
      BitVec.toNat (0x20000000 : Word) % 4 = 0 ∧
      32 ≤ BitVec.toNat (64 : Word)) ∧
    (BitVec.toNat (64 : Word) ≤ 2080 ∧
      BitVec.toNat (64 : Word) % 32 = 0 ∧
      z54.flag F.SYSCTL_LMSTAT_ARMED = true ∧
      BitVec.toNat (0 : Half) < 128 ∧
      1 ≤ BitVec.toNat (64 : Word) ∧
      BitVec.toNat (64 : Word) ≤ 8192 ∧
      z54.pushRefusal 0 (BitVec.toNat (0 : Half)) (BitVec.toNat (0x20000000 : Word)) (BitVec.toNat (64 : Word)) = none) ∧
    ((∀ (x : Nat × Nat), z54.holders (5 : BitVec 6).toNat x = [])) ∧
    (z56.sysOn = true ∧
      z56.forCl0 (0 : Who) ∧
      z56.mile (5 : BitVec 6).toNat = some (((mil (rad.onFrm fun f => {f with vault := [(2*4+3,(7,zeros 16))]}) []).mile 5).getD {} : Milestone) ∧
      z56.mileUsable 0 none (5 : BitVec 6).toNat = true ∧
      (((mil (rad.onFrm fun f => {f with vault := [(2*4+3,(7,zeros 16))]}) []).mile 5).getD {} : Milestone).actions.length < 16 ∧
      (∀ a ∈ (((mil (rad.onFrm fun f => {f with vault := [(2*4+3,(7,zeros 16))]}) []).mile 5).getD {} : Milestone).actions, a.claimed = none) ∧
      (0 : BitVec 6) = 0 ∧
      BitVec.toNat (2 : Half) < 64 ∧
      BitVec.toNat (7 : Word) < 512 ∧
      (0 : Word) = 0) ∧
    (z56.slotHolds (BitVec.toNat (2 : Half)) (BitVec.toNat (7 : Word) % 256) = true) ∧
    ((∀ (x : Nat × Nat), z56.holders (5 : BitVec 6).toNat x = [])) ∧
    (z57.sysOn = true ∧
      z57.forCl0 (0 : Who) ∧
      z57.mile (5 : BitVec 6).toNat = some (((mil (desc rad 0x20000100 2) []).mile 5).getD {} : Milestone) ∧
      z57.mileUsable 0 none (5 : BitVec 6).toNat = true ∧
      (((mil (desc rad 0x20000100 2) []).mile 5).getD {} : Milestone).actions.length < 16 ∧
      (∀ a ∈ (((mil (desc rad 0x20000100 2) []).mile 5).getD {} : Milestone).actions, a.claimed = none) ∧
      ((32 : BitVec 6) = 0 ∨ (32 : BitVec 6) = 32) ∧
      (0 : Half) = 0 ∧
      (0 : Word) = 0 ∧
      BitVec.toNat (0x20000100 : Word) % 16 = 0) ∧
    (536870912 ≤ BitVec.toNat (0x20000100 : Word) ∧
      BitVec.toNat (0x20000100 : Word) + 16 ≤ 541327360 ∧
      ((((fun kind => (((z57.setReg RegName.MSU_ACT 0 (BitVec.ofNat 32 (kind * 2 ^ 28 + (32 : BitVec 6).toNat * 2 ^ 22 + (5 : BitVec 6).toNat * 2 ^ 16 + BitVec.toNat (0 : Half)))).setReg RegName.MSU_ACT 1 (0x20000100 : Word)).setReg RegName.MSU_ACT 2 (0 : Word)).setReg RegName.MSU_ACT 3 0) 3).txSubmit (((fun kind => (((z57.setReg RegName.MSU_ACT 0 (BitVec.ofNat 32 (kind * 2 ^ 28 + (32 : BitVec 6).toNat * 2 ^ 22 + (5 : BitVec 6).toNat * 2 ^ 16 + BitVec.toNat (0 : Half)))).setReg RegName.MSU_ACT 1 (0x20000100 : Word)).setReg RegName.MSU_ACT 2 (0 : Word)).setReg RegName.MSU_ACT 3 0) 3).txEntry (TxUse.milestone (5 : BitVec 6).toNat z57.msu.nextClaim) ((fun i => ((fun kind => (((z57.setReg RegName.MSU_ACT 0 (BitVec.ofNat 32 (kind * 2 ^ 28 + (32 : BitVec 6).toNat * 2 ^ 22 + (5 : BitVec 6).toNat * 2 ^ 16 + BitVec.toNat (0 : Half)))).setReg RegName.MSU_ACT 1 (0x20000100 : Word)).setReg RegName.MSU_ACT 2 (0 : Word)).setReg RegName.MSU_ACT 3 0) 3).word (BitVec.toNat (0x20000100 : Word) + 4 * i)) 0) ((fun i => ((fun kind => (((z57.setReg RegName.MSU_ACT 0 (BitVec.ofNat 32 (kind * 2 ^ 28 + (32 : BitVec 6).toNat * 2 ^ 22 + (5 : BitVec 6).toNat * 2 ^ 16 + BitVec.toNat (0 : Half)))).setReg RegName.MSU_ACT 1 (0x20000100 : Word)).setReg RegName.MSU_ACT 2 (0 : Word)).setReg RegName.MSU_ACT 3 0) 3).word (BitVec.toNat (0x20000100 : Word) + 4 * i)) 1) ((fun i => ((fun kind => (((z57.setReg RegName.MSU_ACT 0 (BitVec.ofNat 32 (kind * 2 ^ 28 + (32 : BitVec 6).toNat * 2 ^ 22 + (5 : BitVec 6).toNat * 2 ^ 16 + BitVec.toNat (0 : Half)))).setReg RegName.MSU_ACT 1 (0x20000100 : Word)).setReg RegName.MSU_ACT 2 (0 : Word)).setReg RegName.MSU_ACT 3 0) 3).word (BitVec.toNat (0x20000100 : Word) + 4 * i)) 2) ((fun i => ((fun kind => (((z57.setReg RegName.MSU_ACT 0 (BitVec.ofNat 32 (kind * 2 ^ 28 + (32 : BitVec 6).toNat * 2 ^ 22 + (5 : BitVec 6).toNat * 2 ^ 16 + BitVec.toNat (0 : Half)))).setReg RegName.MSU_ACT 1 (0x20000100 : Word)).setReg RegName.MSU_ACT 2 (0 : Word)).setReg RegName.MSU_ACT 3 0) 3).word (BitVec.toNat (0x20000100 : Word) + 4 * i)) 3)) (((fun kind => (((z57.setReg RegName.MSU_ACT 0 (BitVec.ofNat 32 (kind * 2 ^ 28 + (32 : BitVec 6).toNat * 2 ^ 22 + (5 : BitVec 6).toNat * 2 ^ 16 + BitVec.toNat (0 : Half)))).setReg RegName.MSU_ACT 1 (0x20000100 : Word)).setReg RegName.MSU_ACT 2 (0 : Word)).setReg RegName.MSU_ACT 3 0) 3).txFieldsOk ((fun i => ((fun kind => (((z57.setReg RegName.MSU_ACT 0 (BitVec.ofNat 32 (kind * 2 ^ 28 + (32 : BitVec 6).toNat * 2 ^ 22 + (5 : BitVec 6).toNat * 2 ^ 16 + BitVec.toNat (0 : Half)))).setReg RegName.MSU_ACT 1 (0x20000100 : Word)).setReg RegName.MSU_ACT 2 (0 : Word)).setReg RegName.MSU_ACT 3 0) 3).word (BitVec.toNat (0x20000100 : Word) + 4 * i)) 0) ((fun i => ((fun kind => (((z57.setReg RegName.MSU_ACT 0 (BitVec.ofNat 32 (kind * 2 ^ 28 + (32 : BitVec 6).toNat * 2 ^ 22 + (5 : BitVec 6).toNat * 2 ^ 16 + BitVec.toNat (0 : Half)))).setReg RegName.MSU_ACT 1 (0x20000100 : Word)).setReg RegName.MSU_ACT 2 (0 : Word)).setReg RegName.MSU_ACT 3 0) 3).word (BitVec.toNat (0x20000100 : Word) + 4 * i)) 1) ((fun i => ((fun kind => (((z57.setReg RegName.MSU_ACT 0 (BitVec.ofNat 32 (kind * 2 ^ 28 + (32 : BitVec 6).toNat * 2 ^ 22 + (5 : BitVec 6).toNat * 2 ^ 16 + BitVec.toNat (0 : Half)))).setReg RegName.MSU_ACT 1 (0x20000100 : Word)).setReg RegName.MSU_ACT 2 (0 : Word)).setReg RegName.MSU_ACT 3 0) 3).word (BitVec.toNat (0x20000100 : Word) + 4 * i)) 2) ((fun i => ((fun kind => (((z57.setReg RegName.MSU_ACT 0 (BitVec.ofNat 32 (kind * 2 ^ 28 + (32 : BitVec 6).toNat * 2 ^ 22 + (5 : BitVec 6).toNat * 2 ^ 16 + BitVec.toNat (0 : Half)))).setReg RegName.MSU_ACT 1 (0x20000100 : Word)).setReg RegName.MSU_ACT 2 (0 : Word)).setReg RegName.MSU_ACT 3 0) 3).word (BitVec.toNat (0x20000100 : Word) + 4 * i)) 3))).1.getRight?).isSome = true) ∧
    ((∀ (x : Nat × Nat), z57.holders (5 : BitVec 6).toNat x = [])) := by
  refine ⟨?_, ?_, ?_, ?_, ?_, ?_, ?_, ?_, ?_, ?_, ?_, ?_⟩
  · decide +kernel  -- 1, 2.1.1, 2.1.4, 2.1.7, 2.3, 2.4, 2.6
  · decide +kernel  -- same
  · intros; first | rfl | contradiction  -- 1, 2.1.1, 2.1.4, 2.1.7, 2.3, 2.4, 2.6
  · decide +kernel  -- 2.1.2, 2.1.3
  · decide +kernel  -- same
  · intros; first | rfl | contradiction  -- 2.1.2, 2.1.3
  · decide +kernel  -- 2.1.6
  · decide +kernel  -- same
  · intros; first | rfl | contradiction  -- 2.1.6
  · decide +kernel  -- 2.2
  · decide +kernel  -- same
  · intros; first | rfl | contradiction  -- 2.2

theorem witness_MilestonesCommit :
    (z58.sysOn = true ∧
      z58.commitHead ≠ some (5 : Fin 64).val ∧
      z58.forCl0 (0 : Who) ∧
      (∀ r ∈ z58.msu.ring, r.seq = BitVec.toNat (6 : Word) → r.retired = true) ∧
      z58.msu.replay.isSome = true ∧
      z58.dirtyRecords = [] ∧
      z58.msu.dirDone = false ∧
      (∃ x ∈ z58.msu.replay, (z58.replayable x = false ∨ x = 3 ∧ z58.msu.kept = []))) ∧
    (z59.sysOn = true ∧
      z59.forCl0 (0 : Who) ∧
      ∃ r, r ∈ z59.msu.ring ∧ r.seq = BitVec.toNat (6 : Word) ∧ r.retired = false ∧
      z59.msu.replay = none ∧
      (∀ j < 64, z59.mileState j = 0) ∧
      (1 : BitVec 2) ≠ 0) ∧
    (z61.sysOn = true ∧
      z61.mile (5 : Fin 64).val = some (((fs (mil rad [act 1 0 1 1]) [(F.MSU_MS_STAT_STATE,5,2)]).mile 5).getD {} : Milestone) ∧
      z61.mileState (5 : Fin 64).val = 2 ∧
      z61.mileOwner (5 : Fin 64).val ≠ 3 ∧
      z61.commitHead ≠ some (5 : Fin 64).val) ∧
    (z62.sysOn = true ∧
      z62.mile (5 : Fin 64).val = some (((fs (mil rad [act 8 0 0x08000020 0x20000000]) [(F.MSU_MS_STAT_STATE,5,3)]).mile 5).getD {} : Milestone) ∧
      z62.mileState (5 : Fin 64).val = 3 ∧
      z62.flc.queue.length < 8 ∧
      ∃ a, a ∈ (((fs (mil rad [act 8 0 0x08000020 0x20000000]) [(F.MSU_MS_STAT_STATE,5,3)]).mile 5).getD {} : Milestone).actions ∧ a.kind = 8 ∧ a.passed = false) := by
  refine ⟨?_, ?_, ?_, ?_⟩
  · decide +kernel  -- 2, 4.2, 4.4, 5
  · decide +kernel  -- 4.1, 4.3
  · decide +kernel  -- 1.3
  · decide +kernel  -- 1.2

theorem witness_LineBringUp :
    (z64.sysOn = true ∧
      z64.lpState (0 : Fin 2).val = lpUpState ∧
      z64.fld F.LP_CFG_ROLE (0 : Fin 2).val < 2 ∧
      snrReq (z64.lpMode (0 : Fin 2).val) + 10 ≤ BitVec.toNat (100 : Half) ∧
      (z64.line (0 : Fin 2).val).train = none ∧
      z64.forCl0 (0 : Who) ∧
      (z64.line (0 : Fin 2).val).fallback = true ∧
      (z64.line (0 : Fin 2).val).agreed < z64.lpMode (0 : Fin 2).val ∧
      z64.flag F.LP_STAT_MASTER (0 : Fin 2).val = true ∧
      z64.fld F.LP_CFG_UP_TRY (0 : Fin 2).val ≠ 0) ∧
    (0 < z64.lpMode (0 : Fin 2).val) ∧
    (z66.sysOn = true ∧
      z66.lpState (0 : Fin 2).val = lpDetect ∧
      (z66.line (0 : Fin 2).val).train = none ∧
      z66.announcing (0 : Fin 2).val = false ∧
      (z66.line (0 : Fin 2).val).announced = true) ∧
    (z67.sysOn = true ∧
      z67.lpState (0 : Fin 2).val = lpSync ∧
      BitVec.toNat (0 : Byte) ≤ z67.lpTol (0 : Fin 2).val ∧
      (z67.line (0 : Fin 2).val).upFrom = none ∧
      (z67.line (0 : Fin 2).val).fallback = false ∧
      z67.fld F.LP_CFG_ROLE (0 : Fin 2).val < 2) ∧
    (z68.sysOn = true ∧
      z68.lpState (0 : Fin 2).val = lpCheck ∧
      (z68.line (0 : Fin 2).val).train = none ∧
      (z68.line (0 : Fin 2).val).passed = some true ∧
      (z68.line (0 : Fin 2).val).peerPassed = none ∧
      (∃ a ∈ (z68.line (0 : Fin 2).val).passed, ∃ n ∈ (z68.line (0 : Fin 2).val).upFrom, True)) ∧
    (z69.sysOn = true ∧
      z69.lpState (0 : Fin 2).val = lpSync ∧
      z69.lpTol (0 : Fin 2).val < BitVec.toNat (77 : Byte) ∧
      (z69.line (0 : Fin 2).val).upFrom = none ∧
      (z69.line (0 : Fin 2).val).fallback = true ∧
      (z69.line (0 : Fin 2).val).noFall = false ∧
      z69.lpMode (0 : Fin 2).val < 2) ∧
    (z70.sysOn = true ∧
      z70.lpState (0 : Fin 2).val = lpCheck ∧
      (z70.line (0 : Fin 2).val).train = none ∧
      (z70.line (0 : Fin 2).val).passed = none) ∧
    (up0.sysOn = true ∧
      up0.lpState (0 : Fin 2).val = lpUpState ∧
      (up0.line (0 : Fin 2).val).train = none ∧
      BitVec.toNat (100 : Half) < snrReq (up0.lpMode (0 : Fin 2).val) + 10) ∧
    (z71.sysOn = true ∧
      z71.lpState (0 : Fin 2).val = lpFull) ∧
    (z72.sysOn = true ∧
      z72.lpState (0 : Fin 2).val = lpHalfS) ∧
    (z73.sysOn = true ∧
      z73.lpState (0 : Fin 2).val = lpHalfM) := by
  refine ⟨?_, ?_, ?_, ?_, ?_, ?_, ?_, ?_, ?_, ?_, ?_⟩
  · decide +kernel  -- 6.1, 6.2, 6.3.2, 6.3.3, 6.3.4, 6.3.5
  · decide +kernel  -- same
  · decide +kernel  -- 1.1, 1.3, 1.4
  · decide +kernel  -- 4.1, 4.3
  · decide +kernel  -- 5.3, 5.5
  · decide +kernel  -- 4.2, 4.4
  · decide +kernel  -- 5.4
  · decide +kernel  -- 6.3.1
  · decide +kernel  -- 3.3
  · decide +kernel  -- 3.2
  · decide +kernel  -- 3.1

theorem witness_LineTraffic :
    (z75.sysOn = true ∧
      z75.forCl0 (0 : Who) ∧
      z75.timeOn ((0 : Fin 2).val) false = true ∧
      (z75.lpState (0 : Fin 2).val = lpDetect ∨ z75.lpState (0 : Fin 2).val = lpUpState) ∧
      ((z75.line (0 : Fin 2).val).wakes = 0 ∨ z75.lpState (0 : Fin 2).val = lpOff ∨ z75.lpState (0 : Fin 2).val = lpQuiet ∨ z75.lpState (0 : Fin 2).val = lpUpState ∨ z75.lpState (0 : Fin 2).val = lpBeacon) ∧
      z75.lpState (0 : Fin 2).val = lpUpState ∧
      z75.msu.replay = none ∧
      (z75.line (0 : Fin 2).val).link = [] ∧
      (z75.line (0 : Fin 2).val).fwd = [] ∧
      (z75.line (0 : Fin 2).val).own = []) ∧
    (z75.schedRuns = false ∧
      (∃ r ∈ List.find? (fun y => y.seq == BitVec.toNat (7 : Word) && !y.retired && y.queued) z75.msu.ring, ∃ q ∈ z75.recordQueue, z75.pushRefusal 0 q (ringBase + r.offset) r.length = none)) ∧
    (z76.sysOn = true ∧
      z76.forCl0 (0 : Who) ∧
      z76.lpState (0 : Fin 2).val = lpQuiet ∧
      (z76.lpState (0 : Fin 2).val = lpDetect ∨ z76.lpState (0 : Fin 2).val = lpQuiet) ∧
      z76.lpRole (0 : Fin 2).val ≠ 1 ∧
      (∃ b ∈ parseBlock (blockBytes (blk 5 [1,2]) : Bytes), b.typ = 5)) ∧
    (z79.sysOn = true ∧
      z79.lpState (0 : Fin 2).val = lpUpState ∧
      (∃ b ∈ parseBlock (blockBytes ({blk 7 [1,2] with addr := 0xFFFFFFFF}) : Bytes), b.typ = 7 ∧ b.first = true ∧ b.last = true ∧ z79.takes b = true)) ∧
    (z80.sysOn = true ∧
      z80.lpState (0 : Fin 2).val = lpUpState ∧
      (z80.line (0 : Fin 2).val).link = [] ∧
      (((z80.line (0 : Fin 2).val).fwd).head?).isSome = true) ∧
    (z81.sysOn = true ∧
      z81.lpState (0 : Fin 2).val = lpUpState ∧
      (∃ b ∈ ((z81.line (0 : Fin 2).val).link).head?, b.typ ≠ 8)) ∧
    (z82.sysOn = true ∧
      z82.lpState (0 : Fin 2).val = lpUpState ∧
      z82.msu.replay.isSome = true) ∧
    (z83.sysOn = true ∧
      z83.lpState (0 : Fin 2).val = lpUpState ∧
      parsePkt pingPkt = Parsed.packet pingBody (List.length pingPkt)) ∧
    (up0.sysOn = true ∧
      up0.lpState (0 : Fin 2).val = lpUpState ∧
      parseBlock ([1,2,3] : Bytes) = none) ∧
    (z84.sysOn = true ∧
      z84.lpState (0 : Fin 2).val = lpWake ∧
      z84.fld F.LP_CFG_ROLE (0 : Fin 2).val < 2) := by
  refine ⟨?_, ?_, ?_, ?_, ?_, ?_, ?_, ?_, ?_, ?_⟩
  · decide +kernel  -- 1.2, 10.1, 2, 4, 7.4, 7.6, 7.9, 8
  · decide +kernel  -- same
  · decide +kernel  -- 1.1, 6.2.1
  · decide +kernel  -- 7.2
  · decide +kernel  -- 7.8
  · decide +kernel  -- 7.7
  · decide +kernel  -- 7.3
  · decide +kernel  -- 7.5
  · decide +kernel  -- 7.1
  · decide +kernel  -- 3

theorem witness_SchedulerCommands :
    (z89.sysOn = true ∧
      z89.forCl0 (0 : Who) ∧
      BitVec.toNat (3 : Byte) < 128 ∧
      (∀ y ∈ z89.sched.units, y.snd.fst ≠ BitVec.toNat (3 : Byte)) ∧
      z89.onPll = true ∧
      z89.inRoadside = false ∧
      z89.sched.results = [] ∧
      z89.nt / 1000 = z89.sched.refilled ∧
      z89.flag F.SCHED_GATE_CTRL_SWAP_PEND (0 : Fin 2).val = true ∧
      (∃ cl ∈ z89.regRight ((0 : Who).val) RegName.SCHED_PUSH1 0 true, z89.pushRefusal cl (BitVec.toNat (3*65536 + 100 : Word) / 65536 % 256) (BitVec.toNat (z89.reg RegName.SCHED_PUSH0 cl)) (BitVec.toNat (3*65536 + 100 : Word) % 16384) = none)) ∧
    (z90.sysOn = true ∧
      z90.forCl0 (0 : Who) ∧
      z90.flag F.SCHED_GATE_CTRL_SWAP_PEND (0 : Fin 2).val = false ∧
      (∃ cl ∈ z90.regRight ((0 : Who).val) RegName.SCHED_PUSH1 0 true, ∃ r ∈ z90.pushRefusal cl (BitVec.toNat (200*65536 + 100 : Word) / 65536 % 256) (BitVec.toNat (z90.reg RegName.SCHED_PUSH0 cl)) (BitVec.toNat (200*65536 + 100 : Word) % 16384), True) ∧
      ((z90.sched.results).head?).isSome = true) := by
  refine ⟨?_, ?_⟩
  · decide +kernel  -- 1.1, 3.1, 3.2, 3.3, 3.5, 3.6, 4, 7, 8
  · decide +kernel  -- 1.2, 3.4, 9

theorem witness_NetworkTimeAndTimers :
    (per.sysOn = true ∧
      per.flag F.TMR_TSTAT_RUNNING (20 : Fin 32).val = true ∧
      per.tmrFrozen = false ∧
      per.tmrLink (20 : Fin 32).val = 0 ∧
      per.inFld F.TMR_CTRL_PRESC (20 : Fin 32).val = 0 ∧
      BitVec.toNat (per.reg RegName.TMR_COUNT (20 : Fin 32).val) ≤ 1 ∧
      per.tmr.due.contains (20 : Fin 32).val = false ∧
      (0 : Who).val < 24 ∧
      per.forCl0 (0 : Who) ∧
      per.fld F.NTC_SETTICK_TICK ≤ 99999999) ∧
    (16 ≤ (20 : Fin 32).val ∧
      per.ntSrc ≠ 0 ∧
      (per.onPll = true ∨ per.flag F.SYSCTL_CLKSTAT_XT32_GOOD = false) ∧
      per.ntc.loadDue = true ∧
      (per.regRight ((0 : Who).val) RegName.NTC_CAPCMD 0 true).isSome = true) ∧
    (z94.sysOn = true ∧
      z94.rtc.ofsDue = true ∧
      z94.flag F.RTC_STAT_LOST = false ∧
      z94.ntTick < 100000000) ∧
    (z95.sysOn = true ∧
      z95.flag F.NTC_CMP_CTRL_ARMED (3 : Fin 16).val = true ∧
      z95.ntReached (z95.cmpVal (3 : Fin 16).val) = true ∧
      z95.reg RegName.NTC_CMP_PER (3 : Fin 16).val ≠ 0 ∧
      z95.flag F.NTC_CMP_CTRL_SKIP (3 : Fin 16).val = false) ∧
    (z96.sysOn = true ∧
      z96.flag F.NTC_CMP_CTRL_ARMED (3 : Fin 16).val = true ∧
      z96.ntReached (z96.cmpVal (3 : Fin 16).val) = true ∧
      z96.reg RegName.NTC_CMP_PER (3 : Fin 16).val = 0) ∧
    (z97.sysOn = true ∧
      z97.forCl0 (0 : Who) ∧
      99999999 < z97.fld F.NTC_SETTICK_TICK) := by
  refine ⟨?_, ?_, ?_, ?_, ?_, ?_⟩
  · decide +kernel  -- 1, 12.2.1, 12.2.2, 13, 2, 4.1, 4.10, 4.3, 4.4, 4.5, 4.6, 4.7, 4.8, 6, 7, 9
  · decide +kernel  -- same
  · decide +kernel  -- 10
  · decide +kernel  -- 11.2
  · decide +kernel  -- 11.1
  · decide +kernel  -- 4.2

theorem witness_ClockAndEvents :
    (z102.sysOn = true ∧
      z102.forCl0 (0 : Who) ∧
      z102.rtc.wr = none ∧
      z102.onPll = true ∧
      z102.evf.flight = [(z102.cyc, Flight.matched [113 + (3 : Fin 24).val])] ∧
      z102.flag F.RTC_STAT_CAP_BUSY = false ∧
      z102.flag F.RTC_CTRL_HALT = false ∧
      z102.pwr.vbak = true ∧
      z102.cur ≤ 1 ∧
      z102.pwr.off = false) ∧
    (z102.pwr.held = false ∧
      (∃ cl ∈ z102.regRight ((0 : Who).val) RegName.EVF_FIRE 0 true, (cl = 0 ∨ z102.chOwner (BitVec.toNat (4 : Byte)) = cl))) ∧
    (z103.sysOn = true ∧
      z103.forCl0 (0 : Who) ∧
      z103.rtc.wr.isSome = true ∧
      z103.hcp.rtc = [] ∧
      z103.rtc.wr = some (RegName.RTC_ADJ, 0, BitVec.zeroExtend 32 (8 : BitVec 24)) ∧
      Int.ofNat (z103.calSec) + (8 : BitVec 24).toInt = 8) ∧
    (z104.sysOn = true ∧
      z104.onPll = true ∧
      3 < 32 ∧
      z104.evf.flight = [(z104.cyc, Flight.matched [3])]) ∧
    (z105.hcp.rtc = [] ∧
      z105.rtc.wr = some (RegName.RTC_CTRL, 0, 256) ∧
      z105.flag F.RTC_CTRL_HALT = false) ∧
    (z106.hcp.rtc = [] ∧
      z106.rtc.wr = some (RegName.RTC_CTRL, 0, 0) ∧
      z106.flag F.RTC_CTRL_HALT = true ∧
      z106.calValid = false) ∧
    (z107.hcp.rtc = [] ∧
      z107.rtc.wr = some (RegName.RTC_CTRL, 0, 0) ∧
      z107.flag F.RTC_CTRL_HALT = true ∧
      z107.calValid = true ∧
      z107.rtc.old = none) ∧
    (z108.hcp.rtc = [] ∧
      z108.rtc.wr = some (RegName.RTC_CTRL, 0, 1) ∧
      z108.flag F.RTC_CTRL_HALT = false) ∧
    (z109.sysOn = true ∧
      z109.onPll = true ∧
      (∃ cl ∈ z109.regRight ((8 : Who).val) RegName.EVF_FIRE 0 true, cl ≠ 0 ∧ z109.chOwner (BitVec.toNat (4 : Byte)) ≠ cl)) := by
  refine ⟨?_, ?_, ?_, ?_, ?_, ?_, ?_, ?_, ?_⟩
  · decide +kernel  -- 1.1.1, 1.1.2, 1.1.3, 1.1.4, 1.3, 1.4, 1.5, 1.6, 10, 11, 12.1, 12.2.1, 12.4, 6, 8, 9
  · decide +kernel  -- same
  · decide +kernel  -- 1.2, 5[5]
  · decide +kernel  -- 12.3[4]
  · decide +kernel  -- 4
  · decide +kernel  -- 3.2
  · decide +kernel  -- 3.1
  · decide +kernel  -- 2
  · decide +kernel  -- 12.2.2

theorem witness_HcpDiagnosticAndTime_plain :
    (ses.cmdPasses ch 2311 (parWord (0x52534944 : Word)) [] ∧
      (0x52534944 : Word) = 1381189956#32 ∧
      (ses.cmdState ch 2311 (parWord (0x52534944 : Word)) []).inRoadside = false ∧
      ses.cmdPasses ch 1796 (leBytes 8 (0x07E8010101000000 : BitVec 64).toNat) [] ∧
      2 ^ 56 ≤ (0x07E8010101000000 : BitVec 64).toNat ∧
      ses.cmdPasses ch 1798 [(0 : Byte), (1 : Byte)] [] ∧
      BitVec.toNat (0 : Byte) ≤ 3 ∧
      BitVec.toNat (1 : Byte) ≤ 1 ∧
      (ses.cmdState ch 1798 [(0 : Byte), (1 : Byte)] []).rtc.wr = none ∧
      (ses.cmdState ch 1798 [(0 : Byte), (1 : Byte)] []).hcp.rtc = []) ∧
    (List.length hostE = 64 ∧
      List.length rootKey = 64 ∧
      List.length sesSig = 64 ∧
      ses.cmdPasses ch 2306 (hostE ++ parWord (0x52534944 : Word) ++ rootKey ++ sesSig) [] ∧
      ses.cmdPasses ch 2308 (parWord (0x52534944 : Word) ++ parHalf (1 : Half)) [] ∧
      (ses.cmdState ch 2308 (parWord (0x52534944 : Word) ++ parHalf (1 : Half)) []).regRefusal (ses.cmdHdr ch 2308 (parWord (0x52534944 : Word) ++ parHalf (1 : Half)) []) (BitVec.toNat (0x52534944 : Word)) (BitVec.toNat (1 : Half)) = none ∧
      (ses.cmdState ch 2308 (parWord (0x52534944 : Word) ++ parHalf (1 : Half)) []).hcpWaits (ses.cmdHdr ch 2308 (parWord (0x52534944 : Word) ++ parHalf (1 : Half)) [], 2308, BitVec.toNat (0x52534944 : Word), BitVec.toNat (1 : Half), []) = false) := by
  refine ⟨?_, ?_⟩
  · decide +kernel  -- 12.1, 18.2, 20.1.1, 7.2, 9.2.2.2
  · decide +kernel  -- same

theorem witness_HcpRadioFrameLine :
    (z122.cmdPasses ch 513 [(0 : Byte)] [] ∧
      BitVec.toNat (0 : Byte) ≤ 2 ∧
      (BitVec.toNat (0 : Byte) = 2 → (z122.cmdState ch 513 [(0 : Byte)] []).closed = true → (z122.cmdState ch 513 [(0 : Byte)] []).hasScope (z122.cmdHdr ch 513 [(0 : Byte)] []) 0 = true) ∧
      z122.cmdPasses ch 770 [(0 : Byte), (1 : Byte)] [] ∧
      BitVec.toNat (0 : Byte) ≤ 63 ∧
      (z122.cmdState ch 770 [(0 : Byte), (1 : Byte)] []).slotHolds (BitVec.toNat (0 : Byte)) (BitVec.toNat (1 : Byte)) = true ∧
      z122.cmdPasses ch 773 [] [] ∧
      z122.cmdPasses ch 1025 [(0 : Byte), (1 : Byte)] [] ∧
      BitVec.toNat (0 : Byte) ≤ 1 ∧
      BitVec.toNat (1 : Byte) ≤ 2) ∧
    (z122.cmdPasses ch 1026 [(0 : Byte), (1 : Byte), (0 : Byte)] [] ∧
      z122.cmdPasses ch 1027 [(0 : Byte)] [] ∧
      z122.cmdPasses ch 1028 [(0 : Byte)] [] ∧
      (z122.cmdState ch 1028 [(0 : Byte)] []).lpUp (BitVec.toNat (0 : Byte)) = false ∧
      z122.cmdPasses ch 514 ([(0 : Byte)] ++ parWord (868000000 : Word) ++ [(1 : Byte)]) [] ∧
      BitVec.toNat (1 : Byte) ≤ 1 ∧
      (((z122.cmdState ch 514 ([(0 : Byte)] ++ parWord (868000000 : Word) ++ [(1 : Byte)]) []).loWrite (BitVec.toNat (0 : Byte)) (868000000 : Word)).rfCtrlWrite (BitVec.toNat (0 : Byte)) (wordPut (((z122.cmdState ch 514 ([(0 : Byte)] ++ parWord (868000000 : Word) ++ [(1 : Byte)]) []).loWrite (BitVec.toNat (0 : Byte)) (868000000 : Word)).reg RegName.RF_CTRL (BitVec.toNat (0 : Byte))) 0 0 (BitVec.toNat (1 : Byte)))).rfLo (BitVec.toNat (0 : Byte)) = BitVec.toNat (868000000 : Word) ∧
      (((z122.cmdState ch 514 ([(0 : Byte)] ++ parWord (868000000 : Word) ++ [(1 : Byte)]) []).loWrite (BitVec.toNat (0 : Byte)) (868000000 : Word)).rfCtrlWrite (BitVec.toNat (0 : Byte)) (wordPut (((z122.cmdState ch 514 ([(0 : Byte)] ++ parWord (868000000 : Word) ++ [(1 : Byte)]) []).loWrite (BitVec.toNat (0 : Byte)) (868000000 : Word)).reg RegName.RF_CTRL (BitVec.toNat (0 : Byte))) 0 0 (BitVec.toNat (1 : Byte)))).portEnabled (BitVec.toNat (0 : Byte)) = ((1 : Byte) == 1#8) ∧
      z122.cmdPasses ch 516 ([(0 : Byte), (1 : Byte)] ++ parWord (868000000 : Word) ++ [(0 : Byte), (1 : Byte)]) [] ∧
      BitVec.toNat (0 : Byte) ≤ 127) ∧
    (BitVec.toNat (0 : Byte) ≤ 15 ∧
      ((z122.cmdState ch 516 ([(0 : Byte), (1 : Byte)] ++ parWord (868000000 : Word) ++ [(0 : Byte), (1 : Byte)]) []).regStore RegName.LANE_PROFILE (BitVec.toNat (0 : Byte)) ((z122.cmdState ch 516 ([(0 : Byte), (1 : Byte)] ++ parWord (868000000 : Word) ++ [(0 : Byte), (1 : Byte)]) []).locks RegName.LANE_PROFILE (BitVec.toNat (0 : Byte))) (BitVec.ofNat 32 (BitVec.toNat (1 : Byte) * 256 + BitVec.toNat (0 : Byte)))).view RegName.LANE_PROFILE (BitVec.toNat (0 : Byte)) = BitVec.ofNat 32 (BitVec.toNat (1 : Byte) * 256 + BitVec.toNat (0 : Byte)) ∧
      (1 : Byte) = 1#8 ∧
      ((((z122.cmdState ch 516 ([(0 : Byte), (1 : Byte)] ++ parWord (868000000 : Word) ++ [(0 : Byte), (1 : Byte)]) []).regStore RegName.LANE_PROFILE (BitVec.toNat (0 : Byte)) ((z122.cmdState ch 516 ([(0 : Byte), (1 : Byte)] ++ parWord (868000000 : Word) ++ [(0 : Byte), (1 : Byte)]) []).locks RegName.LANE_PROFILE (BitVec.toNat (0 : Byte))) (BitVec.ofNat 32 (BitVec.toNat (1 : Byte) * 256 + BitVec.toNat (0 : Byte)))).laneOffsetWrite (BitVec.toNat (0 : Byte)) (868000000 : Word)).laneCtrlWrite (BitVec.toNat (0 : Byte)) (BitVec.ofNat 32 (BitVec.toNat (1 : Byte)))).laneState (BitVec.toNat (0 : Byte)) = 0 ∧
      z122.cmdPasses ch 517 [(0 : Byte), (1 : Byte)] [] ∧
      (1 : Byte) ≠ 0#8 ∧
      BitVec.toNat (1 : Byte) ≤ 31 ∧
      BitVec.toNat (0 : Byte) + BitVec.toNat (1 : Byte) ≤ 128 ∧
      z122.cmdPasses ch 518 ([(0 : Byte)] ++ parWord (868000000 : Word) ++ parWord (868000000 : Word) ++ parWord (0 : Word) ++ [(1 : Byte)]) kw0 ∧
      BitVec.toNat (1 : Byte) ≤ 3) ∧
    (z122.cmdPasses ch 519 ([(0 : Byte)] ++ parWord (868000000 : Word) ++ parHalf (0 : Half) ++ [(1 : Byte)]) [] ∧
      z122.cmdPasses ch 520 [] [] ∧
      z122.cmdPasses ch 769 ([(0 : Byte), (1 : Byte)] ++ kw0) [] ∧
      (z122.cmdState ch 769 ([(0 : Byte), (1 : Byte)] ++ kw0) []).vaultHeld (BitVec.toNat (0 : Byte)) (BitVec.toNat (1 : Byte)) = true ∧
      (((((z122.cmdState ch 518 ([(0 : Byte)] ++ parWord (868000000 : Word) ++ parWord (868000000 : Word) ++ parWord (0 : Word) ++ [(1 : Byte)]) kw0).boundary RegName.TXP_HOSTCFG).accept (z122.cmdHdr ch 518 ([(0 : Byte)] ++ parWord (868000000 : Word) ++ parWord (868000000 : Word) ++ parWord (0 : Word) ++ [(1 : Byte)]) kw0) 518 0 ([(0 : Byte)] ++ parWord (868000000 : Word) ++ parWord (868000000 : Word) ++ parWord (0 : Word) ++ [(1 : Byte)]) kw0).txSubmit { txOwn (TxUse.job (z122.cmdState ch 518 ([(0 : Byte)] ++ parWord (868000000 : Word) ++ parWord (868000000 : Word) ++ parWord (0 : Word) ++ [(1 : Byte)]) kw0).hcp.nextJob) (BitVec.toNat (868000000 : Word)) (startOf (z122.cmdState ch 518 ([(0 : Byte)] ++ parWord (868000000 : Word) ++ parWord (868000000 : Word) ++ parWord (0 : Word) ++ [(1 : Byte)]) kw0).nt (BitVec.toNat (868000000 : Word) % 32) (BitVec.toNat (0 : Word))) (BitVec.toNat (0 : Byte)) (((z122.cmdState ch 518 ([(0 : Byte)] ++ parWord (868000000 : Word) ++ parWord (868000000 : Word) ++ parWord (0 : Word) ++ [(1 : Byte)]) kw0).boundary RegName.TXP_HOSTCFG).fld F.TXP_HOSTCFG_PROFILE) 4 (((z122.cmdState ch 518 ([(0 : Byte)] ++ parWord (868000000 : Word) ++ parWord (868000000 : Word) ++ parWord (0 : Word) ++ [(1 : Byte)]) kw0).boundary RegName.TXP_HOSTCFG).fld F.TXP_HOSTCFG_PRE) (List.length kw0) (TxBody.frame kw0) (((z122.cmdState ch 518 ([(0 : Byte)] ++ parWord (868000000 : Word) ++ parWord (868000000 : Word) ++ parWord (0 : Word) ++ [(1 : Byte)]) kw0).boundary RegName.TXP_HOSTCFG).flag F.TXP_HOSTCFG_CODED) false (BitVec.getLsbD (1 : Byte) 0) with lateOk := BitVec.getLsbD (1 : Byte) 1 } (loOk (BitVec.toNat (868000000 : Word)) && decide (BitVec.toNat (0 : Word) ≤ 99999999) && decide (List.length kw0 ≤ 2047))).1.getLeft?).isSome = true ∧
      (((((z122.cmdState ch 519 ([(0 : Byte)] ++ parWord (868000000 : Word) ++ parHalf (0 : Half) ++ [(1 : Byte)]) []).boundary RegName.TXP_HOSTCFG).accept (z122.cmdHdr ch 519 ([(0 : Byte)] ++ parWord (868000000 : Word) ++ parHalf (0 : Half) ++ [(1 : Byte)]) []) 519 0 ([(0 : Byte)] ++ parWord (868000000 : Word) ++ parHalf (0 : Half) ++ [(1 : Byte)])).txSubmit (txOwn (TxUse.job (z122.cmdState ch 519 ([(0 : Byte)] ++ parWord (868000000 : Word) ++ parHalf (0 : Half) ++ [(1 : Byte)]) []).hcp.nextJob) (BitVec.toNat (868000000 : Word)) (z122.cmdState ch 519 ([(0 : Byte)] ++ parWord (868000000 : Word) ++ parHalf (0 : Half) ++ [(1 : Byte)]) []).nt (BitVec.toNat (0 : Byte)) (((z122.cmdState ch 519 ([(0 : Byte)] ++ parWord (868000000 : Word) ++ parHalf (0 : Half) ++ [(1 : Byte)]) []).boundary RegName.TXP_HOSTCFG).fld F.TXP_HOSTCFG_PROFILE) 3 0 0 (TxBody.wake (BitVec.toNat (0 : Half)) (BitVec.toNat (1 : Byte)) (((z122.cmdState ch 519 ([(0 : Byte)] ++ parWord (868000000 : Word) ++ parHalf (0 : Half) ++ [(1 : Byte)]) []).boundary RegName.TXP_HOSTCFG).fld F.TXP_HOSTCFG_WAKE_REPEAT + 1)) false false false) (loOk (BitVec.toNat (868000000 : Word)))).1.getLeft?).isSome = true) ∧
    (hrad.cmdPasses ch 770 [(1 : Byte), (1 : Byte)] [] ∧
      BitVec.toNat (1 : Byte) ≤ 63 ∧
      (hrad.cmdState ch 770 [(1 : Byte), (1 : Byte)] []).slotHolds (BitVec.toNat (1 : Byte)) (BitVec.toNat (1 : Byte)) = false ∧
      hrad.cmdPasses ch 774 (parWord (868000000 : Word) ++ parHalf (1 : Half)) [] ∧
      (1 : Half) ≠ 0#16 ∧
      (hrad.cmdState ch 774 (parWord (868000000 : Word) ++ parHalf (1 : Half)) []).recordsFrom (BitVec.toNat (868000000 : Word)) (BitVec.toNat (1 : Half)) [] = [] ∧
      hrad.cmdPasses ch 516 ([(1 : Byte), (1 : Byte)] ++ parWord (868000000 : Word) ++ [(0 : Byte), (0 : Byte)]) [] ∧
      BitVec.toNat (1 : Byte) ≤ 127 ∧
      BitVec.toNat (1 : Byte) ≤ 1 ∧
      BitVec.toNat (0 : Byte) ≤ 15) ∧
    (BitVec.toNat (0 : Byte) ≤ 1 ∧
      ((hrad.cmdState ch 516 ([(1 : Byte), (1 : Byte)] ++ parWord (868000000 : Word) ++ [(0 : Byte), (0 : Byte)]) []).regStore RegName.LANE_PROFILE (BitVec.toNat (1 : Byte)) ((hrad.cmdState ch 516 ([(1 : Byte), (1 : Byte)] ++ parWord (868000000 : Word) ++ [(0 : Byte), (0 : Byte)]) []).locks RegName.LANE_PROFILE (BitVec.toNat (1 : Byte))) (BitVec.ofNat 32 (BitVec.toNat (1 : Byte) * 256 + BitVec.toNat (0 : Byte)))).view RegName.LANE_PROFILE (BitVec.toNat (1 : Byte)) = BitVec.ofNat 32 (BitVec.toNat (1 : Byte) * 256 + BitVec.toNat (0 : Byte)) ∧
      (((hrad.cmdState ch 516 ([(1 : Byte), (1 : Byte)] ++ parWord (868000000 : Word) ++ [(0 : Byte), (0 : Byte)]) []).regStore RegName.LANE_PROFILE (BitVec.toNat (1 : Byte)) ((hrad.cmdState ch 516 ([(1 : Byte), (1 : Byte)] ++ parWord (868000000 : Word) ++ [(0 : Byte), (0 : Byte)]) []).locks RegName.LANE_PROFILE (BitVec.toNat (1 : Byte))) (BitVec.ofNat 32 (BitVec.toNat (1 : Byte) * 256 + BitVec.toNat (0 : Byte)))).laneOffsetWrite (BitVec.toNat (1 : Byte)) (868000000 : Word)).reg RegName.LANE_OFFSET (BitVec.toNat (1 : Byte)) = (868000000 : Word) ∧
      ((0 : Byte) = 0#8 ∨ ((((hrad.cmdState ch 516 ([(1 : Byte), (1 : Byte)] ++ parWord (868000000 : Word) ++ [(0 : Byte), (0 : Byte)]) []).regStore RegName.LANE_PROFILE (BitVec.toNat (1 : Byte)) ((hrad.cmdState ch 516 ([(1 : Byte), (1 : Byte)] ++ parWord (868000000 : Word) ++ [(0 : Byte), (0 : Byte)]) []).locks RegName.LANE_PROFILE (BitVec.toNat (1 : Byte))) (BitVec.ofNat 32 (BitVec.toNat (1 : Byte) * 256 + BitVec.toNat (0 : Byte)))).laneOffsetWrite (BitVec.toNat (1 : Byte)) (868000000 : Word)).laneCtrlWrite (BitVec.toNat (1 : Byte)) (BitVec.ofNat 32 (BitVec.toNat (0 : Byte)))).laneState (BitVec.toNat (1 : Byte)) ≠ 0) ∧
      hrad.cmdPasses ch 518 ([(1 : Byte)] ++ parWord (868000000 : Word) ++ parWord (1 : Word) ++ parWord (5 : Word) ++ [(1 : Byte)]) (zeros 25 : Bytes) ∧
      BitVec.toNat (1 : Byte) ≤ 3 ∧
      hrad.cmdPasses ch 519 ([(1 : Byte)] ++ parWord (868000000 : Word) ++ parHalf (1 : Half) ++ [(1 : Byte)]) [] ∧
      (((((hrad.cmdState ch 518 ([(1 : Byte)] ++ parWord (868000000 : Word) ++ parWord (1 : Word) ++ parWord (5 : Word) ++ [(1 : Byte)]) (zeros 25 : Bytes)).boundary RegName.TXP_HOSTCFG).accept (hrad.cmdHdr ch 518 ([(1 : Byte)] ++ parWord (868000000 : Word) ++ parWord (1 : Word) ++ parWord (5 : Word) ++ [(1 : Byte)]) (zeros 25 : Bytes)) 518 0 ([(1 : Byte)] ++ parWord (868000000 : Word) ++ parWord (1 : Word) ++ parWord (5 : Word) ++ [(1 : Byte)]) (zeros 25 : Bytes)).txSubmit { txOwn (TxUse.job (hrad.cmdState ch 518 ([(1 : Byte)] ++ parWord (868000000 : Word) ++ parWord (1 : Word) ++ parWord (5 : Word) ++ [(1 : Byte)]) (zeros 25 : Bytes)).hcp.nextJob) (BitVec.toNat (868000000 : Word)) (startOf (hrad.cmdState ch 518 ([(1 : Byte)] ++ parWord (868000000 : Word) ++ parWord (1 : Word) ++ parWord (5 : Word) ++ [(1 : Byte)]) (zeros 25 : Bytes)).nt (BitVec.toNat (1 : Word) % 32) (BitVec.toNat (5 : Word))) (BitVec.toNat (1 : Byte)) (((hrad.cmdState ch 518 ([(1 : Byte)] ++ parWord (868000000 : Word) ++ parWord (1 : Word) ++ parWord (5 : Word) ++ [(1 : Byte)]) (zeros 25 : Bytes)).boundary RegName.TXP_HOSTCFG).fld F.TXP_HOSTCFG_PROFILE) 4 (((hrad.cmdState ch 518 ([(1 : Byte)] ++ parWord (868000000 : Word) ++ parWord (1 : Word) ++ parWord (5 : Word) ++ [(1 : Byte)]) (zeros 25 : Bytes)).boundary RegName.TXP_HOSTCFG).fld F.TXP_HOSTCFG_PRE) (List.length (zeros 25 : Bytes)) (TxBody.frame (zeros 25 : Bytes)) (((hrad.cmdState ch 518 ([(1 : Byte)] ++ parWord (868000000 : Word) ++ parWord (1 : Word) ++ parWord (5 : Word) ++ [(1 : Byte)]) (zeros 25 : Bytes)).boundary RegName.TXP_HOSTCFG).flag F.TXP_HOSTCFG_CODED) false (BitVec.getLsbD (1 : Byte) 0) with lateOk := BitVec.getLsbD (1 : Byte) 1 } (loOk (BitVec.toNat (868000000 : Word)) && decide (BitVec.toNat (5 : Word) ≤ 99999999) && decide (List.length (zeros 25 : Bytes) ≤ 2047))).1.getRight?).isSome = true ∧
      (((((hrad.cmdState ch 519 ([(1 : Byte)] ++ parWord (868000000 : Word) ++ parHalf (1 : Half) ++ [(1 : Byte)]) []).boundary RegName.TXP_HOSTCFG).accept (hrad.cmdHdr ch 519 ([(1 : Byte)] ++ parWord (868000000 : Word) ++ parHalf (1 : Half) ++ [(1 : Byte)]) []) 519 0 ([(1 : Byte)] ++ parWord (868000000 : Word) ++ parHalf (1 : Half) ++ [(1 : Byte)])).txSubmit (txOwn (TxUse.job (hrad.cmdState ch 519 ([(1 : Byte)] ++ parWord (868000000 : Word) ++ parHalf (1 : Half) ++ [(1 : Byte)]) []).hcp.nextJob) (BitVec.toNat (868000000 : Word)) (hrad.cmdState ch 519 ([(1 : Byte)] ++ parWord (868000000 : Word) ++ parHalf (1 : Half) ++ [(1 : Byte)]) []).nt (BitVec.toNat (1 : Byte)) (((hrad.cmdState ch 519 ([(1 : Byte)] ++ parWord (868000000 : Word) ++ parHalf (1 : Half) ++ [(1 : Byte)]) []).boundary RegName.TXP_HOSTCFG).fld F.TXP_HOSTCFG_PROFILE) 3 0 0 (TxBody.wake (BitVec.toNat (1 : Half)) (BitVec.toNat (1 : Byte)) (((hrad.cmdState ch 519 ([(1 : Byte)] ++ parWord (868000000 : Word) ++ parHalf (1 : Half) ++ [(1 : Byte)]) []).boundary RegName.TXP_HOSTCFG).fld F.TXP_HOSTCFG_WAKE_REPEAT + 1)) false false false) (loOk (BitVec.toNat (868000000 : Word)))).1.getRight?).isSome = true) ∧
    (z123.cmdPasses ch 771 (parWord (0 : Word) ++ parWord (0 : Word)) [] ∧
      (0 : Word) &&& 33554428#32 = 0 ∧
      (0 : Word) &&& 4278190334#32 = 0 ∧
      ((z123.cmdState ch 771 (parWord (0 : Word) ++ parWord (0 : Word)) []).dupWrite (0 : Word)).reg RegName.FRM_DUP_CFG &&& 4261412865#32 = (0 : Word) &&& 4261412865#32 ∧
      z123.cmdPasses ch 1028 [(1 : Byte)] [] ∧
      BitVec.toNat (1 : Byte) ≤ 1 ∧
      (z123.cmdState ch 1028 [(1 : Byte)] []).lpUp (BitVec.toNat (1 : Byte)) = true) ∧
    (hst.cmdPasses ch 515 ([(0 : Byte)] ++ (zeros 32 : Bytes)) [] ∧
      BitVec.toNat (0 : Byte) ≤ 15 ∧
      pNat (zeros 32 : Bytes) 24 8 = 0 ∧
      (∀ r ∈ profileRegs, (hst.cmdState ch 515 ([(0 : Byte)] ++ (zeros 32 : Bytes)) []).locks r (BitVec.toNat (0 : Byte)) = false)) ∧
    (z124.cmdPasses ch 774 (parWord (7 : Word) ++ parHalf (1 : Half)) [] ∧
      (z124.cmdState ch 774 (parWord (7 : Word) ++ parHalf (1 : Half)) []).recordsFrom (BitVec.toNat (7 : Word)) (BitVec.toNat (1 : Half)) [] ≠ []) ∧
    (hrad.cmdPasses ch 772 (leBytes 6 (0x010203040506 : BitVec 48).toNat ++ parHalf (1 : Half) ++ [(2 : Byte)]) ([0x20,0,1,2,3,4,5,6] ++ zeros 25 : Bytes) ∧
      BitVec.toNat (2 : Byte) ≤ 3 ∧
      23 ≤ List.length ([0x20,0,1,2,3,4,5,6] ++ zeros 25 : Bytes) ∧
      List.length ([0x20,0,1,2,3,4,5,6] ++ zeros 25 : Bytes) ≤ 2047 ∧
      macVer ([0x20,0,1,2,3,4,5,6] ++ zeros 25 : Bytes) = 0 ∧
      macType ([0x20,0,1,2,3,4,5,6] ++ zeros 25 : Bytes) = 2 ∧
      beNat (macSrc ([0x20,0,1,2,3,4,5,6] ++ zeros 25 : Bytes)) = (0x010203040506 : BitVec 48).toNat ∧
      ((hrad.cmdState ch 772 (leBytes 6 (0x010203040506 : BitVec 48).toNat ++ parHalf (1 : Half) ++ [(2 : Byte)]) ([0x20,0,1,2,3,4,5,6] ++ zeros 25 : Bytes)).downlinkEnd (0x010203040506 : BitVec 48).toNat Status.aborted).frm.downlinks.length < 1024 ∧
      BitVec.toNat (2 : Byte) ≠ 3) ∧
    (hst.cmdPasses ch 772 (leBytes 6 (0x010203040506 : BitVec 48).toNat ++ parHalf (1 : Half) ++ [(3 : Byte)]) ([0x20,0,1,2,3,4,5,6] ++ zeros 25 : Bytes) ∧
      BitVec.toNat (3 : Byte) ≤ 3 ∧
      23 ≤ List.length ([0x20,0,1,2,3,4,5,6] ++ zeros 25 : Bytes) ∧
      List.length ([0x20,0,1,2,3,4,5,6] ++ zeros 25 : Bytes) ≤ 2047 ∧
      macVer ([0x20,0,1,2,3,4,5,6] ++ zeros 25 : Bytes) = 0 ∧
      macType ([0x20,0,1,2,3,4,5,6] ++ zeros 25 : Bytes) = 2 ∧
      beNat (macSrc ([0x20,0,1,2,3,4,5,6] ++ zeros 25 : Bytes)) = (0x010203040506 : BitVec 48).toNat ∧
      ((hst.cmdState ch 772 (leBytes 6 (0x010203040506 : BitVec 48).toNat ++ parHalf (1 : Half) ++ [(3 : Byte)]) ([0x20,0,1,2,3,4,5,6] ++ zeros 25 : Bytes)).downlinkEnd (0x010203040506 : BitVec 48).toNat Status.aborted).frm.downlinks.length < 1024 ∧
      BitVec.toNat (3 : Byte) = 3) ∧
    (hst.cmdPasses ch 769 ([(0x80 : Byte), (0 : Byte)] ++ kw0) [] ∧
      (0x80 : Byte) = 128#8 ∧
      (0 : Byte) = 0#8 ∧
      (kwUnwrap (match ((hst.cmdState ch 769 ([(0x80 : Byte), (0 : Byte)] ++ kw0) []).tp ch.tp).session with | some x => if (hst.cmdHdr ch 769 ([(0x80 : Byte), (0 : Byte)] ++ kw0) []).auth = true then x.key else zeros 16 | none => zeros 16) kw0).isSome = true) ∧
    (sesC.cmdPasses ch 513 [(2 : Byte)] [] ∧
      BitVec.toNat (2 : Byte) = 2 ∧
      (sesC.cmdState ch 513 [(2 : Byte)] []).closed = true ∧
      (sesC.cmdState ch 513 [(2 : Byte)] []).hasScope (sesC.cmdHdr ch 513 [(2 : Byte)] []) 0 = false) ∧
    (z125.cmdPasses ch 769 ([(0 : Byte), (1 : Byte)] ++ kw0) [] ∧
      BitVec.toNat (0 : Byte) ≤ 63 ∧
      (z125.cmdState ch 769 ([(0 : Byte), (1 : Byte)] ++ kw0) []).vaultHeld (BitVec.toNat (0 : Byte)) (BitVec.toNat (1 : Byte)) = false) := by
  refine ⟨?_, ?_, ?_, ?_, ?_, ?_, ?_, ?_, ?_, ?_, ?_, ?_, ?_, ?_⟩
  · decide +kernel  -- 1.1, 10.1, 13, 15, 16, 17, 18.1, 2, 4.2, 5, 6.2, 7.2, 8, 9.2
  · decide +kernel  -- same
  · decide +kernel  -- same
  · decide +kernel  -- same
  · decide +kernel  -- 10.2, 14.2, 4.1, 6.1, 7.1
  · decide +kernel  -- same
  · decide +kernel  -- 11, 18.2
  · decide +kernel  -- 3
  · decide +kernel  -- 14.1
  · decide +kernel  -- 12.1
  · decide +kernel  -- 12.2
  · decide +kernel  -- 9.3
  · decide +kernel  -- 1.2
  · decide +kernel  -- 9.1

theorem witness_HcpMilestoneFlashTag_plain :
    (z129.cmdPasses ch 1281 [(0 : Byte)] [] ∧
      BitVec.toNat (0 : Byte) ≤ 1 ∧
      (z129.cmdState ch 1281 [(0 : Byte)] []).msuOpenFor 0 (BitVec.toNat (0 : Byte)) (some ch.tp) = none ∧
      z129.cmdPasses ch 1539 (parWord (0x08000000 : Word) ++ [(0 : Byte)]) [] ∧
      flashBase ≤ BitVec.toNat (0x08000000 : Word) ∧
      BitVec.toNat (0x08000000 : Word) < flashBase + 32768) ∧
    (x6.cmdPasses ch 1541 [(2 : Byte)] [] ∧
      BitVec.toNat (2 : Byte) = 2) ∧
    (x6.cmdPasses ch 1282 ([(5 : Byte)] ++ (parWord (0x10050001 : Word) ++ parWord (1 : Word) ++ parWord (0 : Word) ++ parWord (0 : Word))) [] ∧
      (x6.cmdState ch 1282 ([(5 : Byte)] ++ (parWord (0x10050001 : Word) ++ parWord (1 : Word) ++ parWord (0 : Word) ++ parWord (0 : Word))) []).mileDenied ch.tp (BitVec.toNat (5 : Byte)) = none ∧
      bits (BitVec.toNat (0x10050001 : Word)) 21 16 = BitVec.toNat (5 : Byte) ∧
      (((x6.cmdState ch 1282 ([(5 : Byte)] ++ (parWord (0x10050001 : Word) ++ parWord (1 : Word) ++ parWord (0 : Word) ++ parWord (0 : Word))) []).msuAdd 0 (some ch.tp) (0x10050001 : Word) (1 : Word) (0 : Word) (0 : Word)).1.err = 6 ∨ ((x6.cmdState ch 1282 ([(5 : Byte)] ++ (parWord (0x10050001 : Word) ++ parWord (1 : Word) ++ parWord (0 : Word) ++ parWord (0 : Word))) []).msuAdd 0 (some ch.tp) (0x10050001 : Word) (1 : Word) (0 : Word) (0 : Word)).1.err = 7)) ∧
    (z131.cmdPasses ch 1542 [(5 : Byte)] [] ∧
      4 ≤ BitVec.toNat (5 : Byte) ∧
      BitVec.toNat (5 : Byte) ≤ 16 ∧
      (psSetMaj ((z131.cmdState ch 1542 [(5 : Byte)] []).rowBits 7) = true ∨ (z131.cmdState ch 1542 [(5 : Byte)] []).closed = true ∨ (z131.cmdState ch 1542 [(5 : Byte)] []).vinGood = false ∨ (z131.cmdState ch 1542 [(5 : Byte)] []).otp.run.isSome = true)) ∧
    (z132.cmdPasses ch 2053 ([1,0,0] : Bytes) ([1,2,3,4] : Bytes) ∧
      1 ≤ pByte ([1,0,0] : Bytes) 0 ∧
      pByte ([1,0,0] : Bytes) 0 ≤ 30 ∧
      pNat ([1,0,0] : Bytes) 1 2 + List.length ([1,2,3,4] : Bytes) ≤ 8192 ∧
      (∀ e ∈ (z132.cmdState ch 2053 ([1,0,0] : Bytes) ([1,2,3,4] : Bytes)).hcp.jobs, e.snd.opcode ≠ 2053)) ∧
    (z133.cmdPasses ch 1537 (parWord (0x08000000 : Word) ++ parHalf (16 : Half)) [] ∧
      BitVec.toNat (16 : Half) ≤ 8192 ∧
      flashBase ≤ BitVec.toNat (0x08000000 : Word) ∧
      (z133.cmdState ch 1537 (parWord (0x08000000 : Word) ++ parHalf (16 : Half)) []).flRegion (BitVec.toNat (0x08000000 : Word) - flashBase) ≠ 2 ∧
      ((16 : Half) ≠ 0#16 → (z133.cmdState ch 1537 (parWord (0x08000000 : Word) ++ parHalf (16 : Half)) []).flRegion (BitVec.toNat (0x08000000 : Word) - flashBase + BitVec.toNat (16 : Half) - 1) ≠ 2) ∧
      (z133.cmdState ch 1537 (parWord (0x08000000 : Word) ++ parHalf (16 : Half)) []).hcpWaits (z133.cmdHdr ch 1537 (parWord (0x08000000 : Word) ++ parHalf (16 : Half)) [], 1537, BitVec.toNat (0x08000000 : Word), BitVec.toNat (16 : Half), []) = false ∧
      ((z133.cmdState ch 1537 (parWord (0x08000000 : Word) ++ parHalf (16 : Half)) []).readSpan (BitVec.toNat (0x08000000 : Word) - flashBase) (BitVec.toNat (16 : Half))).1 = LineRead.uncorrectable) ∧
    (z134.cmdPasses ch 1541 [(1 : Byte)] [] ∧
      BitVec.toNat (1 : Byte) = 1) := by
  refine ⟨?_, ?_, ?_, ?_, ?_, ?_, ?_⟩
  · decide +kernel  -- 1.2, 8.1
  · decide +kernel  -- 10.3
  · decide +kernel  -- 2.2.2
  · decide +kernel  -- 11.2
  · decide +kernel  -- 16
  · decide +kernel  -- 6.2.2
  · decide +kernel  -- 10.2

theorem witness_LastWriteBeforeBoundary :
    (wlockOf RegName.LP_CFG (1 : Nat) ≠ some (RegName.LP_CFG, (1 : Nat))) := by
  decide +kernel

theorem witness_ClusterResetConsumers :
    (run0.sysOn = true ∧
      run0.forCl0 (0 : Who) ∧
      ((2 : Nat) = 1 ∨ (2 : Nat) = 2)) := by
  decide +kernel

namespace Radio
def w1 : Who := Fin.ofNat _ 1
def pdis : State := fs rad [(F.RF_STAT_ENABLED,0,0),(F.RF_STAT_RX_READY,0,0)]
def pmov : State := fs rad [(F.RF_SYNSTAT_SYN_STATE,0,1),(F.RF_STAT_RX_READY,0,0)]
def prdy : State := fs (rad.setFld F.LANE_STAT_STATE 1 3) [(F.RF_STAT_RX_READY,0,0),(F.LANE_BANK_STAT_RUNNING,0,1)]
def ent0 : TxEntry := { (txOwn .cl0 868000000 (10^9) 0 0 1 0 20 (.buffer 0x20001000) false false false) with tag := 3, order := 7 }
def withX (s : State) (x : Excursion) : State := s.setExc 0 x
def exc0 (ph : TxPhase) : Excursion := { entry := some ent0, phase := ph }
def hot (s : State) : State := s.onRf fun r => {r with loTemp := [(0,20),(1,20)], temp := 20}
def z135 : State := fs rad [(F.RF_CTRL_AGC,0,1),(F.RF_STAT_ATTEN_CUR,0,7)]
def z136 : State := (hot rad).onRf fun r => {r with synTab := [(1,⟨868000000,20,5,1⟩),(257,⟨868000000,20,5,2⟩)]}
def z137 : State := fs rad [(F.RF_CTRL_AGC,0,1),(F.RF_STAT_ATTEN_CUR,0,1),(F.LANE_STAT_STATE,5,4)]
def z138 : State := withX pmov { exc0 .moving with band := [0,0,0,0x05000000] }
def z139 : State := pdis.setReg .RF_LO 0 7
def z140 : State := hot (fs rad [(F.LANE_STAT_STATE,3,5)])

theorem witness_PortsAndSynthesisers :
    (z135.sysOn = true ∧
      z135.forCl0 (0 : Who) ∧
      z135.portHeld (0 : Fin 2).val = false ∧
      z135.portEnabled (0 : Fin 2).val = true ∧
      loOk (BitVec.toNat (900000000 : Word)) = true ∧
      BitVec.getLsbD (900000000 : Word) 0 = false ∧
      ¬5 ≤ (BitVec.toInt (26 : Half) - Tab.getD z135.rf.loTemp ((0 : Fin 2).val) (BitVec.toInt (26 : Half))).natAbs ∧
      z135.rf.recal.contains (0 : Fin 2).val = false ∧
      z135.rxReady (0 : Fin 2).val = true ∧
      z135.onPll = true) ∧
    (z135.flag F.RF_CTRL_AGC (0 : Fin 2).val = true ∧
      z135.portBusy (0 : Fin 2).val = false ∧
      0 < z135.fld F.RF_STAT_ATTEN_CUR (0 : Fin 2).val) ∧
    (z136.sysOn = true ∧
      5 ≤ (BitVec.toInt (26 : Half) - Tab.getD z136.rf.loTemp ((1 : Fin 2).val) (BitVec.toInt (26 : Half))).natAbs ∧
      (z136.onRf fun r => { r with temp := BitVec.toInt (26 : Half) }).portFree (1 : Fin 2).val = true ∧
      z136.portEnabled (1 : Fin 2).val = true ∧
      z136.onPll = true ∧
      z136.fld F.RF_SYNSTAT_SYN_STATE (1 : Fin 2).val = 0 ∧
      z136.rf.toLo.contains (1 : Fin 2).val = false ∧
      z136.rxReady (1 : Fin 2).val = false ∧
      z136.exc (1 : Fin 2).val = none ∧
      (z136.portBusy (1 : Fin 2).val = true ∨ z136.fld F.RF_STAT_ATTEN_CUR (1 : Fin 2).val = 0)) ∧
    (pdis.sysOn = true ∧
      pdis.forCl0 (0 : Who) ∧
      pdis.portHeld (0 : Fin 2).val = false ∧
      pdis.portEnabled (0 : Fin 2).val = false ∧
      BitVec.getLsbD (0x11 : Word) 0 = true ∧
      loOk (pdis.rfLo (0 : Fin 2).val) = true) ∧
    (z137.sysOn = true ∧
      z137.forCl0 (0 : Who) ∧
      z137.portHeld (0 : Fin 2).val = true ∧
      (900000000 : Word) ≠ z137.reg RegName.RF_LO (0 : Fin 2).val) ∧
    (z138.sysOn = true ∧
      z138.fld F.RF_SYNSTAT_SYN_STATE (0 : Fin 2).val = 1 ∧
      (∃ x ∈ z138.exc (0 : Fin 2).val, ∃ e ∈ x.entry, x.phase = TxPhase.moving)) ∧
    (pmov.sysOn = true ∧
      pmov.fld F.RF_SYNSTAT_SYN_STATE (0 : Fin 2).val = 1 ∧
      pmov.exc (0 : Fin 2).val = none ∧
      pmov.portEnabled (0 : Fin 2).val = true) ∧
    (z139.sysOn = true ∧
      z139.forCl0 (0 : Who) ∧
      z139.portHeld (0 : Fin 2).val = false ∧
      BitVec.getLsbD (800000001 : Word) 0 = true ∧
      z139.portEnabled (0 : Fin 2).val = false ∧
      loOk (z139.rfLo (0 : Fin 2).val) = false) ∧
    (z140.sysOn = true ∧
      z140.forCl0 (0 : Who) ∧
      z140.portHeld (0 : Fin 2).val = true ∧
      (868000000 : Word) = z140.reg RegName.RF_LO (0 : Fin 2).val) := by
  refine ⟨?_, ?_, ?_, ?_, ?_, ?_, ?_, ?_, ?_⟩
  · decide +kernel  -- 1.2.2, 1.2.6, 1.3, 11.1, 11.2, 5, 6, 7, 8
  · decide +kernel  -- same
  · decide +kernel  -- 10.1, 4, 9
  · decide +kernel  -- 1.2.1, 1.2.4
  · decide +kernel  -- 1.1.2
  · decide +kernel  -- 3
  · decide +kernel  -- 2
  · decide +kernel  -- 1.2.5
  · decide +kernel  -- 1.1.1

end Radio

namespace Lane
def w1 : Who := Fin.ofNat _ 1
def off0 (s : State) : State := (s.setReg .LANE_OFFSET 1 100000).setReg .LANE_OFFSET 2 200000
def radR : State := (off0 rad).setFld F.LANE_BANK_STAT_RUNNING 1 0
def lf (c : Nat) : LaneFrame := { ctx := c, arrSec := 5, arrTick := 7, errs := 0, rssi := 0 , fofs := 3, length := 40}
def ctx0 (st : CtxState) : Ctx := { lane := 1, st, info := lf 4, header := zeros 15, key := zeros 16 }
def fr (s : State) (st : CtxState) : State := ((s.onRf fun r => {r with frames := [(1, lf 4)]}).onFrm fun f => {f with ctxs := [(4, ctx0 st)]})
def L (l : List (Fld × Nat × Nat)) : State := fs radR l
def fullCtx (s : State) : State := s.onFrm fun f => {f with ctxs := (List.range 1024).map fun k => (k, ctx0 .verifying)}
def syw : List Bool := rad.syncWord 0
def sbits (l : List Bool) : List Soft := l.map fun b => if b then 7 else 0
def shdr (n : Nat) : List Soft := sbits (msbBits 16 n)
def sbytes (b : Bytes) : List Soft := sbits (byteBits b)
def yielded (s : State) : State := (s.onRf fun r => {r with frames := [(9, lf 4)]}).onFrm fun f => {f with granted := [9], ctxs := (f.ctxs.map fun e => if e.1 = 4 then (4, {e.2 with lane := 9, st := .arriving}) else e)}
def z141 : State := (L [(F.LANE_STAT_STATE,1,3)]).onRf fun r => {r with windows := [1]}
def z142 : State := L [(F.LANE_BANK_STAT_RUNNING,0,0),(F.SYSCTL_LMSTAT_ARMED,0,0)]
def z143 : State := fr (L [(F.LANE_STAT_STATE,1,5),(F.LANE_STAT_DISABLING,1,1)]) .arriving
def z144 : State := L [(F.LANE_STAT_STATE,1,3),(F.LANE_STAT_STATE,7,5)]
def z145 : State := L [(F.LANE_STAT_STATE,1,2),(F.LANE_STAT_UNITS,1,1),(F.LANE_STAT_STATE,2,6),(F.LANE_STAT_UNITS,2,1)]
def z146 : State := (List.range 32).foldl (fun s k => fs s [(F.LANE_STAT_UNITS,k+40,4)]) radR
def z147 : State := fr (L [(F.LANE_STAT_STATE,1,4),(F.LANE_STAT_CAL_DUE,1,1)]) .arriving
def z148 : State := fr (L [(F.LANE_STAT_STATE,1,4)]) .arriving
def z149 : State := { L [(F.LANE_STAT_STATE,1,6)] with was := (L [(F.LANE_STAT_STATE,1,3)]).regs }
def z150 : State := L [(F.LANE_STAT_STATE,1,6),(F.LANE_STAT_STATE,7,5)]
def z151 : State := (pw (L [(F.LANE_STAT_STATE,1,3),(F.LANE_STAT_STATE,9,4)]) fun p => { p with entry := some 2 }) |> yielded
def z152 : State := pw (L [(F.LANE_STAT_STATE,1,3)]) fun p => { p with entry := some 2 }
def z153 : State := L [(F.LANE_BANK_STAT_RUNNING,0,0),(F.LANE_STAT_STATE,7,1)]
def z154 : State := radR.setFld F.RF_STAT_ENABLED 0 0

theorem witness_PortsAndSynthesisers_lane :
    (rad.sysOn = true ∧
      rad.forCl0 (0 : Who) ∧
      rad.portHeld (0 : Fin 2).val = false ∧
      rad.portEnabled (0 : Fin 2).val = true ∧
      loOk (BitVec.toNat (17 : Word)) = false) := by
  decide +kernel

theorem witness_Lanes :
    (z141.sysOn = true ∧
      z141.forCl0 (0 : Who) ∧
      z141.bankRuns = true ∧
      z141.laneState (1 : Fin 128).val ≠ 0 ∧
      z141.laneState (1 : Fin 128).val ≠ 4 ∧
      z141.laneState (1 : Fin 128).val ≠ 5 ∧
      (z141.laneState (1 : Fin 128).val = 0 ∨ (z141.laneState (1 : Fin 128).val = 1 ∨ z141.laneState (1 : Fin 128).val = 3) ∧ z141.placed ((1 : Fin 128).val) (BitVec.toInt (100 : Word)) = true) ∧
      z141.laneState (1 : Fin 128).val ≠ 2 ∧
      z141.laneState (1 : Fin 128).val = 3 ∧
      z141.rf.windows.contains (1 : Fin 128).val = true) ∧
    (BitVec.toInt (BitVec.ofInt 16 (-400) : Half) ≤ -360 ∧
      BitVec.toNat (3 : Byte) < z141.calMax (1 : Fin 128).val ∧
      (∃ e ∈ syncScan (z141.syncWord (z141.lanePt (1 : Fin 128).val)) (last256 (Tab.getD z141.rf.hist (1 : Fin 128).val [] ++ syw)) (z141.syncTol (z141.lanePt (1 : Fin 128).val)) (min (last256 (Tab.getD z141.rf.hist (1 : Fin 128).val [] ++ syw)).length (Tab.getD z141.rf.unsearched ((1 : Fin 128).val) 0 + syw.length)), ∃ c ∈ z141.ctxPick, z141.matches (z141.lanePt (1 : Fin 128).val) e.1 (z141.rssiOf (z141.lanePort (1 : Fin 128).val) (BitVec.ofInt 16 (-400) : Half)) = true)) ∧
    (z142.sysOn = true ∧
      z142.forCl0 (0 : Who) ∧
      z142.laneState (1 : Fin 128).val = 0 ∧
      z142.laneRefusal (1 : Fin 128).val = 0 ∧
      (z142.flag F.SYSCTL_LMSTAT_ARMED = false ∨ z142.onPll = false) ∧
      z142.bankRuns = false) ∧
    (z143.sysOn = true ∧
      z143.forCl0 (0 : Who) ∧
      (z143.laneState (1 : Fin 128).val = 4 ∨ z143.laneState (1 : Fin 128).val = 5) ∧
      z143.placed ((1 : Fin 128).val) (BitVec.toInt (100 : Word)) = true ∧
      Tab.find z143.held (RegName.LANE_OFFSET.key (1 : Fin 128).val) = none ∧
      z143.laneState (1 : Fin 128).val = 5 ∧
      (∃ f ∈ Tab.find z143.rf.frames (1 : Fin 128).val, ∃ x ∈ Tab.find z143.frm.ctxs f.ctx, x.st = CtxState.arriving ∧ x.header ≠ [])) ∧
    (z144.sysOn = true ∧
      z144.laneState (1 : Fin 128).val = 3 ∧
      z144.calMax (1 : Fin 128).val ≤ BitVec.toNat (10 : Byte)) ∧
    ((∀ (e r : Nat), syncScan (z144.syncWord (z144.lanePt (1 : Fin 128).val)) (last256 (Tab.getD z144.rf.hist (1 : Fin 128).val [] ++ ([] : List Bool))) (z144.syncTol (z144.lanePt (1 : Fin 128).val)) (min (last256 (Tab.getD z144.rf.hist (1 : Fin 128).val [] ++ ([] : List Bool))).length (Tab.getD z144.rf.unsearched ((1 : Fin 128).val) 0 + ([] : List Bool).length)) = some (e, r) → z144.matches (z144.lanePt (1 : Fin 128).val) e (z144.rssiOf (z144.lanePort (1 : Fin 128).val) (0 : Half)) = false)) ∧
    (z145.sysOn = true ∧
      z145.forCl0 (0 : Who) ∧
      z145.laneState (1 : Fin 128).val ≠ 0 ∧
      z145.placed ((1 : Fin 128).val) (BitVec.toInt (0x7FFFFFFF : Word)) = false ∧
      z145.laneState (1 : Fin 128).val = 2 ∧
      z145.flag F.LANE_STAT_DISABLING (1 : Fin 128).val = false) ∧
    (z146.sysOn = true ∧
      z146.forCl0 (0 : Who) ∧
      z146.laneState (1 : Fin 128).val = 0 ∧
      z146.laneRefusal (1 : Fin 128).val = 1) ∧
    (z147.sysOn = true ∧
      z147.laneState (1 : Fin 128).val = 4 ∧
      z147.hdrOk (z147.lanePt (1 : Fin 128).val) (BitVec.ofNat 16 (softHeader (z147.flag F.LANE_PT_MOD_HDR_CODED (z147.lanePt (1 : Fin 128).val)) (z147.hdrRep (z147.lanePt (1 : Fin 128).val)) (shdr (phyHeader 40 true ^^^ 1) : List Soft))).toNat = false ∧
      (Tab.find z147.rf.frames (1 : Fin 128).val).isSome = true) ∧
    (z148.sysOn = true ∧
      z148.laneState (1 : Fin 128).val = 4 ∧
      z148.hdrOk (z148.lanePt (1 : Fin 128).val) (BitVec.ofNat 16 (softHeader (z148.flag F.LANE_PT_MOD_HDR_CODED (z148.lanePt (1 : Fin 128).val)) (z148.hdrRep (z148.lanePt (1 : Fin 128).val)) (shdr (phyHeader 40 true) : List Soft))).toNat = true ∧
      (Tab.find z148.rf.frames (1 : Fin 128).val).isSome = true) ∧
    (z149.sysOn = true ∧
      z149.laneState (1 : Fin 128).val = 6 ∧
      z149.fldWas F.LANE_STAT_STATE (1 : Fin 128).val = 3 ∧
      (∃ e ∈ syncScan (z149.syncWord (z149.lanePt (1 : Fin 128).val)) (last256 (Tab.getD z149.rf.hist (1 : Fin 128).val [] ++ syw)) (z149.syncTol (z149.lanePt (1 : Fin 128).val)) (min (last256 (Tab.getD z149.rf.hist (1 : Fin 128).val [] ++ syw)).length (Tab.getD z149.rf.unsearched ((1 : Fin 128).val) 0 + syw.length)), z149.matches (z149.lanePt (1 : Fin 128).val) e.1 (z149.rssiOf (z149.lanePort (1 : Fin 128).val) (0 : Half)) = true)) ∧
    (z150.sysOn = true ∧
      z150.laneState (1 : Fin 128).val ≠ 0 ∧
      z150.laneState (1 : Fin 128).val ≠ 3 ∧
      z150.calMax (1 : Fin 128).val ≤ BitVec.toNat (10 : Byte)) ∧
    (z141.sysOn = true ∧
      z141.rf.windows.contains (1 : Fin 128).val = true ∧
      -360 < BitVec.toInt (0 : Half)) ∧
    (z151.sysOn = true ∧
      z151.laneState (1 : Fin 128).val = 3 ∧
      z151.ctxPick = none ∧
      (∃ e ∈ syncScan (z151.syncWord (z151.lanePt (1 : Fin 128).val)) (last256 (Tab.getD z151.rf.hist (1 : Fin 128).val [] ++ syw)) (z151.syncTol (z151.lanePt (1 : Fin 128).val)) (min (last256 (Tab.getD z151.rf.hist (1 : Fin 128).val [] ++ syw)).length (Tab.getD z151.rf.unsearched ((1 : Fin 128).val) 0 + syw.length)), ∃ m ∈ z151.ctxYielder (1 : Fin 128).val, z151.matches (z151.lanePt (1 : Fin 128).val) e.1 (z151.rssiOf (z151.lanePort (1 : Fin 128).val) (0 : Half)) = true)) ∧
    (z152.sysOn = true ∧
      z152.laneState (1 : Fin 128).val = 3 ∧
      z152.ctxPick = none ∧
      z152.ctxYielder (1 : Fin 128).val = none ∧
      (∃ e ∈ syncScan (z152.syncWord (z152.lanePt (1 : Fin 128).val)) (last256 (Tab.getD z152.rf.hist (1 : Fin 128).val [] ++ syw)) (z152.syncTol (z152.lanePt (1 : Fin 128).val)) (min (last256 (Tab.getD z152.rf.hist (1 : Fin 128).val [] ++ syw)).length (Tab.getD z152.rf.unsearched ((1 : Fin 128).val) 0 + syw.length)), z152.matches (z152.lanePt (1 : Fin 128).val) e.1 (z152.rssiOf (z152.lanePort (1 : Fin 128).val) (0 : Half)) = true)) ∧
    (z153.sysOn = true ∧
      z153.forCl0 (0 : Who) ∧
      z153.flag F.SYSCTL_LMSTAT_ARMED = true ∧
      z153.onPll = true ∧
      z153.bankRuns = false) ∧
    (z154.sysOn = true ∧
      z154.forCl0 (0 : Who) ∧
      z154.laneState (1 : Fin 128).val = 0 ∧
      z154.laneRefusal (1 : Fin 128).val = 2) := by
  refine ⟨?_, ?_, ?_, ?_, ?_, ?_, ?_, ?_, ?_, ?_, ?_, ?_, ?_, ?_, ?_, ?_, ?_⟩
  · decide +kernel  -- 1.11, 1.2, 1.4, 1.5, 1.6, 3, 4.1, 4.3, 6.1, 8
  · decide +kernel  -- same
  · decide +kernel  -- 1.1.1, 1.1.4, 1.1.5, 1.10, 1.12
  · decide +kernel  -- 1.3, 1.7, 10
  · decide +kernel  -- 4.2, 4.5
  · intros; first | rfl | contradiction  -- 4.2, 4.5
  · decide +kernel  -- 1.8, 2
  · decide +kernel  -- 1.1.2
  · decide +kernel  -- 9.2
  · decide +kernel  -- 9.1
  · decide +kernel  -- 5
  · decide +kernel  -- 7
  · decide +kernel  -- 6.2
  · decide +kernel  -- 4.4.2
  · decide +kernel  -- 4.4.1
  · decide +kernel  -- 1.9
  · decide +kernel  -- 1.1.3

end Lane

namespace Frm
def off0 (s : State) : State := (s.setReg .LANE_OFFSET 1 100000).setReg .LANE_OFFSET 2 200000
def radR : State := (off0 rad).setFld F.LANE_BANK_STAT_RUNNING 1 0
def L (l : List (Fld × Nat × Nat)) : State := fs radR l
def lf (c : Nat) : LaneFrame := { ctx := c, arrSec := 5, arrTick := 7, errs := 0, rssi := 0 , fofs := 3, length := 40}
def hdr (fc e ct : Nat) : Bytes := beBytes 2 fc ++ beBytes 6 0x010203040506 ++ beBytes 1 e ++ beBytes 4 9 ++ beBytes 2 ct
def mk : Bytes := b256 16
def key0 : Bytes := beBytes 16 0xd6555755ab2f617c6001654d42aed29e
def mkFrame (h : Bytes) : Bytes := h ++ beBytes 17 0x83c58ad7d1de23195d2a89109386878a39 ++ beBytes 8 (if h.getD 13 0 = 1#8 then 0x1a70b8e0d7af50ed else 0x0196a8cd8d9edf17)
def ctx0 (st : CtxState) (h : Bytes) : Ctx := { lane := 1, st, info := lf 4, header := h, key := key0, frame := mkFrame h }
def fr (s : State) (x : Ctx) : State := ((s.onRf fun r => {r with frames := [(1, lf 4)]}).onFrm fun f => {f with ctxs := [(4, x)], vault := [(0*4+1,(5,mk))]})
def ep (s : State) : State := fs s [(F.FRM_EPOCH_CUR,0,5),(F.FRM_EPOCH_ACTIVE,0,1),(F.LANE_STAT_STATE,1,5)]
def dup (s : State) : State := (fs s [(F.FRM_DUP_CFG_EN,0,1),(F.FRM_DUP_CFG_BASE,0,dramBase / 33554432)])
def A (s : State) : State := ep (fr s (ctx0 .arriving []))
def B (s : State) (st : CtxState) (h : Bytes) : State := ep (fr s (ctx0 st h))
def dl : Downlink := { src := 0x010203040506, frame := zeros 25, flags := 1, expiry := 9, job := 3, tries := 1}
def smac (h : Bytes) : List Soft := (byteBits h).map fun b => if b then 7 else 0
def dupS (s : State) : State := fs (dup s) [(F.DMC_DEV_CAP,0,1),(F.DMC_STAT_READY,0,1),(F.FRM_DUP_STAT_COLD_LEFT,0,0)]
def h0 := hdr 0 5 5
def full (s : State) (n : Nat) (f : DupEntry → DupEntry) : State := let s := (dupS s).setFld F.FRM_DUP_STAT_COLD_LEFT 0 0; let x := ctx0 .timed h0
  s.setBytes (s.dupAddr (macTriple h0) n) (f (s.dupEntry x false)).bytes
def z155 : State := (A rad).onFrm fun f => {f with downlinks := [dl]}
def z156 : State := (full (B rad .timed (hdr 0x20 5 5)) 1 fun e => {e with aired := true}).setFld F.MSU_TPL_CFG_ACK_EN 1
def z157 : State := let s := B rad .verifying h0; s.onFrm fun f => {f with ctxs := [(4, {ctx0 .verifying h0 with order := 7}), (3, {ctx0 .verifying h0 with order := 0})]}
def z158 : State := A rad
def z159 : State := dupS (B rad .timed h0)
def z160 : State := B rad .verdict (hdr 0 5 5)
def z161 : State := B rad .timed (hdr 0 5 5)
def z162 : State := let s := B rad .verifying (hdr 0 5 5); s.onFrm fun f => {f with ctxs := [(4, {ctx0 .verifying (hdr 0 5 5) with key := zeros 16})]}
def z163 : State := B rad .verifying (hdr 0 5 500)
def z164 : State := B rad .verifying (hdr 0 5 5)

theorem witness_FrameEngine :
    (z155.sysOn = true ∧
      z155.forCl0 (0 : Who) ∧
      z155.vaultHeld (0 : BitVec 6).toNat (BitVec.toNat (5 : Byte)) = true ∧
      z155.fld F.FRM_DUP_STAT_COLD_LEFT ≠ 0 ∧
      z155.laneState (1 : Fin 128).val = 5 ∧
      (z155.frm.downlinks.any fun d => d.src == (0x010203040506 : BitVec 48).toNat) = true ∧
      (∃ f ∈ Tab.find z155.rf.frames (1 : Fin 128).val, ∃ x ∈ Tab.find z155.frm.ctxs f.ctx, x.st = CtxState.arriving ∧ x.header = [] ∧ min 120 (8 * f.length) ≤ (if payBits f.coded f.length ≤ (smac (hdr 0x8000 5 5) : List Soft).length then byteBits (softPayload f.coded f.length (smac (hdr 0x8000 5 5) : List Soft)).fst else softSoFar f.coded (smac (hdr 0x8000 5 5) : List Soft)).length ∧ (macVer (List.take 15 (padTo 15 (bitsBytes 15 (if payBits f.coded f.length ≤ (smac (hdr 0x8000 5 5) : List Soft).length then byteBits (softPayload f.coded f.length (smac (hdr 0x8000 5 5) : List Soft)).fst else softSoFar f.coded (smac (hdr 0x8000 5 5) : List Soft))))) ≠ 0 ∨ macType (List.take 15 (padTo 15 (bitsBytes 15 (if payBits f.coded f.length ≤ (smac (hdr 0x8000 5 5) : List Soft).length then byteBits (softPayload f.coded f.length (smac (hdr 0x8000 5 5) : List Soft)).fst else softSoFar f.coded (smac (hdr 0x8000 5 5) : List Soft))))) ≠ 0 ∨ f.length < 23 ∨ (foldOver State.epochEffect (List.range 64) z155).masterKey (macGroup (List.take 15 (padTo 15 (bitsBytes 15 (if payBits f.coded f.length ≤ (smac (hdr 0x8000 5 5) : List Soft).length then byteBits (softPayload f.coded f.length (smac (hdr 0x8000 5 5) : List Soft)).fst else softSoFar f.coded (smac (hdr 0x8000 5 5) : List Soft)))))) (macEpoch (List.take 15 (padTo 15 (bitsBytes 15 (if payBits f.coded f.length ≤ (smac (hdr 0x8000 5 5) : List Soft).length then byteBits (softPayload f.coded f.length (smac (hdr 0x8000 5 5) : List Soft)).fst else softSoFar f.coded (smac (hdr 0x8000 5 5) : List Soft)))))) = none)) ∧
      (∃ d ∈ List.find? (fun y => y.src == (0x010203040506 : BitVec 48).toNat) z155.frm.downlinks, d.plan = none ∧ 0 < d.tries ∧ d.tries < 3)) ∧
    (z156.sysOn = true ∧
      z156.forCl0 (0 : Who) ∧
      z156.vaultHeld (0 : BitVec 6).toNat (BitVec.toNat (2 : Byte)) = false ∧
      z156.fld F.FRM_DUP_STAT_COLD_LEFT = 0 ∧
      z156.dupOn = true ∧
      z156.dramReady = true ∧
      (z156.frm.downlinks.any fun d => d.src == (0x010203040506 : BitVec 48).toNat) = false ∧
      (∃ x ∈ Tab.find z156.frm.ctxs (4 : Fin 1024).val, ∃ y ∈ (if (z156.frontTouch (macTriple x.header)).fst = true then (z156.frontTouch (macTriple x.header)).snd else ((z156.frontTouch (macTriple x.header)).snd.dupRead (macTriple x.header)).snd).dupFind (macTriple x.header), x.st = CtxState.timed ∧ (z156.ctxFirst x fun x => x == CtxState.timed) = true ∧ ((z156.frontTouch (macTriple x.header)).fst = true ∨ ((z156.frontTouch (macTriple x.header)).snd.dupRead (macTriple x.header)).fst = true))) ∧
    (z157.sysOn = true ∧
      (∃ x ∈ Tab.find z157.frm.ctxs (4 : Fin 1024).val, x.st = CtxState.verifying ∧ (z157.ctxFirst x fun x => x == CtxState.verifying) = false)) ∧
    (z158.sysOn = true ∧
      z158.laneState (1 : Fin 128).val = 5 ∧
      (∃ f ∈ Tab.find z158.rf.frames (1 : Fin 128).val, ∃ x ∈ Tab.find z158.frm.ctxs f.ctx, ∃ mk ∈ (foldOver State.epochEffect (List.range 64) z158).masterKey (macGroup (List.take 15 (padTo 15 (bitsBytes 15 (if payBits f.coded f.length ≤ (smac (hdr 0 5 5) : List Soft).length then byteBits (softPayload f.coded f.length (smac (hdr 0 5 5) : List Soft)).fst else softSoFar f.coded (smac (hdr 0 5 5) : List Soft)))))) (macEpoch (List.take 15 (padTo 15 (bitsBytes 15 (if payBits f.coded f.length ≤ (smac (hdr 0 5 5) : List Soft).length then byteBits (softPayload f.coded f.length (smac (hdr 0 5 5) : List Soft)).fst else softSoFar f.coded (smac (hdr 0 5 5) : List Soft)))))), x.st = CtxState.arriving ∧ x.header = [] ∧ min 120 (8 * f.length) ≤ (if payBits f.coded f.length ≤ (smac (hdr 0 5 5) : List Soft).length then byteBits (softPayload f.coded f.length (smac (hdr 0 5 5) : List Soft)).fst else softSoFar f.coded (smac (hdr 0 5 5) : List Soft)).length ∧ macVer (List.take 15 (padTo 15 (bitsBytes 15 (if payBits f.coded f.length ≤ (smac (hdr 0 5 5) : List Soft).length then byteBits (softPayload f.coded f.length (smac (hdr 0 5 5) : List Soft)).fst else softSoFar f.coded (smac (hdr 0 5 5) : List Soft))))) = 0 ∧ macType (List.take 15 (padTo 15 (bitsBytes 15 (if payBits f.coded f.length ≤ (smac (hdr 0 5 5) : List Soft).length then byteBits (softPayload f.coded f.length (smac (hdr 0 5 5) : List Soft)).fst else softSoFar f.coded (smac (hdr 0 5 5) : List Soft))))) = 0 ∧ 23 ≤ f.length)) ∧
    (z158.sysOn = true ∧
      z158.laneState (1 : Fin 128).val = 5 ∧
      (∃ f ∈ Tab.find z158.rf.frames (1 : Fin 128).val, ∃ x ∈ Tab.find z158.frm.ctxs f.ctx, x.st = CtxState.arriving ∧ x.header = [] ∧ (if payBits f.coded f.length ≤ ([] : List Soft).length then byteBits (softPayload f.coded f.length ([] : List Soft)).fst else softSoFar f.coded ([] : List Soft)).length < min 120 (8 * f.length))) ∧
    (z159.sysOn = true ∧
      z159.dupOn = true ∧
      z159.dramReady = true ∧
      (∃ x ∈ Tab.find z159.frm.ctxs (4 : Fin 1024).val, x.st = CtxState.timed ∧ (z159.ctxFirst x fun x => x == CtxState.timed) = true ∧ ((z159.frontTouch (macTriple x.header)).fst = true ∨ ((z159.frontTouch (macTriple x.header)).snd.dupRead (macTriple x.header)).fst = true) ∧ (if (z159.frontTouch (macTriple x.header)).fst = true then (z159.frontTouch (macTriple x.header)).snd else ((z159.frontTouch (macTriple x.header)).snd.dupRead (macTriple x.header)).snd).dupFind (macTriple x.header) = none)) ∧
    (z160.sysOn = true ∧
      (∃ x ∈ Tab.find z160.frm.ctxs (4 : Fin 1024).val, ∃ k ∈ z160.mileFree z160.feLow 64, x.st = CtxState.verdict ∧ (z160.ctxFirst x fun t => t == CtxState.verifying || t == CtxState.timed || t == CtxState.verdict) = true ∧ ((x.fresh = true → z160.flag F.SYSCTL_LMSTAT_ARMED = true)))) ∧
    (z161.sysOn = true ∧
      z161.dupOn = false ∧
      (∃ x ∈ Tab.find z161.frm.ctxs (4 : Fin 1024).val, x.st = CtxState.timed ∧ (z161.ctxFirst x fun x => x == CtxState.timed) = true)) ∧
    (z162.sysOn = true ∧
      (∃ x ∈ Tab.find z162.frm.ctxs (4 : Fin 1024).val, x.st = CtxState.verifying ∧ (z162.ctxFirst x fun x => x == CtxState.verifying) = true ∧ macTagOk x.key x.frame = false)) ∧
    (z163.sysOn = true ∧
      (∃ x ∈ Tab.find z163.frm.ctxs (4 : Fin 1024).val, x.st = CtxState.verifying ∧ (z163.ctxFirst x fun x => x == CtxState.verifying) = true ∧ macTagOk x.key x.frame = true ∧ z163.timeOk (macCtime x.header) x.info.arrSec = false ∧ (macAckReq x.header && z163.flag F.FRM_CFG_TREJ_ACK) = false)) ∧
    (z164.sysOn = true ∧
      (∃ x ∈ Tab.find z164.frm.ctxs (4 : Fin 1024).val, x.st = CtxState.verifying ∧ (z164.ctxFirst x fun x => x == CtxState.verifying) = true ∧ macTagOk x.key x.frame = true ∧ z164.timeOk (macCtime x.header) x.info.arrSec = true)) := by
  refine ⟨?_, ?_, ?_, ?_, ?_, ?_, ?_, ?_, ?_, ?_, ?_⟩
  · decide +kernel  -- 1.2, 1.3, 1.4, 2, 4.2, 6, 7
  · decide +kernel  -- 1.1, 3, 5.3.2.2, 8
  · decide +kernel  -- 5.1
  · decide +kernel  -- 4.3
  · decide +kernel  -- 4.1
  · decide +kernel  -- 5.3.2.1
  · decide +kernel  -- 5.4
  · decide +kernel  -- 5.3.1
  · decide +kernel  -- 5.2.1
  · decide +kernel  -- 5.2.2.2
  · decide +kernel  -- 5.2.2.1

end Frm

namespace Tx
def ent0 : TxEntry := { (txOwn .cl0 868000000 (10^9) 0 0 1 0 20 (.buffer 0x20001000) false false false) with tag := 3, order := 7 }
def entM : TxEntry := { ent0 with use := .milestone 5 0 }
def tl (s : State) (e : TxEntry) : State := s.onTxp fun t => {t with timed := [e], nextOrder := 9}
def ex (s : State) (ph : TxPhase) (e : TxEntry := ent0) : State := (tl s e).setExc 0 { entry := some e, phase := ph }
def exl (s : State) : State := (tl s ent0).setExc 0 { entry := some ent0, phase := .locked, band := s.bandWords ent0 }
def led (s : State) : State := s.onTxp fun t => {t with ledger := [(0, 100000000)]}
def sub (s : State) : State := ((s.setReg .TXP_SUBMIT 0 868000000).setReg .TXP_SUBMIT 1 (BitVec.ofNat 32 (5*2^27))).setReg .TXP_SUBMIT 2 0x20001000
def d3 : Word := BitVec.ofNat 32 (1 * 2^20 + 20)
def lbt (s : State) : State := s.setReg .TXP_RGN 3 0x05C00000#32
def pat (a g : Nat) : BitVec 4 := BitVec.ofNat 4 (crcBits 4 3 0 (msbBits 24 (a * 256 + g)))
def wur (s : State) : State := fs s [(F.WUR_CFG_EN,0,1),(F.WUR_CFG_ADDR,0,0x1234)]
def z165 : State := ex rad .clear {entM with committed := true}
def z166 : State := (sub (tl (rad.setReg .TXP_RGN 1 0#32) ent0)).onTxp fun t => {t with results := [(5,6),(7,8)]}
def z169 : State := (tl rad {ent0 with waiting := true}).setFld F.SYSCTL_CLKSTAT_SRC_CUR 0
def z170 : State := ex (rad.setFld F.TXP_FEMCFG_DN_LEN 3 0) (.down 0)
def z171 : State := ex rad (.down 0)
def z172 : State := ex rad .data
def z173 : State := ex (rad.setFld F.TXP_FEMCFG_UP_LEN 3 0) (.up 0)
def z174 : State := ex rad (.up 0)
def z175 : State := exl (lbt rad)
def z176 : State := wur (tl (led rad) ent0)
def z177 : State := wur (tl rad ent0)
def z178 : State := sub rad

theorem witness_TransmitPath :
    (z165.sysOn = true ∧
      z165.forCl0 (0 : Who) ∧
      z165.txp.results = [] ∧
      z165.onPll = true ∧
      ((z165.setReg RegName.TXP_SUBMIT 3 d3).txRefusal ((z165.setReg RegName.TXP_SUBMIT 3 d3).txEntry TxUse.cl0 (z165.reg RegName.TXP_SUBMIT) (z165.reg RegName.TXP_SUBMIT 1) (z165.reg RegName.TXP_SUBMIT 2) d3) ((z165.setReg RegName.TXP_SUBMIT 3 d3).txFieldsOk (z165.reg RegName.TXP_SUBMIT) (z165.reg RegName.TXP_SUBMIT 1) (z165.reg RegName.TXP_SUBMIT 2) d3)).isSome = true ∧
      (∃ x ∈ z165.exc (0 : Fin 2).val, ∃ e ∈ x.entry, x.phase = TxPhase.clear ∧ e.committed = true ∧ z165.txp.justCommitted.contains e.tag = false)) ∧
    (z166.sysOn = true ∧
      z166.forCl0 (0 : Who) ∧
      ((z166.txp.results).head?).isSome = true ∧
      (∃ e ∈ List.find? (fun x => x.tag == (3 : Fin 64).val) z166.txp.timed, z166.launched e = false ∧ e.waiting = false ∧ (z166.onRf fun r => { r with temp := BitVec.toInt (25 : Half) }).portFree e.port = true ∧ (z166.onRf fun r => { r with temp := BitVec.toInt (25 : Half) }).launchReached e = false)) ∧
    (z169.sysOn = true ∧
      z169.onPll = false) ∧
    (z170.sysOn = true ∧
      0 + 1 < z170.dnLen (0 : Fin 2).val ∧
      (∃ x ∈ z170.exc (0 : Fin 2).val, ∃ e ∈ x.entry, x.phase = TxPhase.down 0)) ∧
    (z171.sysOn = true ∧
      z171.dnLen (0 : Fin 2).val ≤ 0 + 1 ∧
      (∃ x ∈ z171.exc (0 : Fin 2).val, ∃ e ∈ x.entry, x.phase = TxPhase.down 0)) ∧
    (z172.sysOn = true ∧
      (∃ x ∈ z172.exc (0 : Fin 2).val, ∃ e ∈ x.entry, x.phase = TxPhase.data)) ∧
    (z173.sysOn = true ∧
      0 + 1 < z173.upLen (0 : Fin 2).val ∧
      (∃ x ∈ z173.exc (0 : Fin 2).val, ∃ e ∈ x.entry, x.phase = TxPhase.up 0)) ∧
    (z174.sysOn = true ∧
      z174.upLen (0 : Fin 2).val ≤ 0 + 1 ∧
      (∃ x ∈ z174.exc (0 : Fin 2).val, ∃ e ∈ x.entry, x.phase = TxPhase.up 0)) ∧
    (z175.sysOn = true ∧
      (∃ x ∈ z175.exc (0 : Fin 2).val, ∃ e ∈ x.entry, x.phase = TxPhase.locked ∧ x.lbtThr ≤ (z175.rssiOf ((0 : Fin 2).val) (0 : Half)).toInt)) ∧
    (z175.sysOn = true ∧
      (∃ x ∈ z175.exc (0 : Fin 2).val, ∃ e ∈ x.entry, x.phase = TxPhase.locked ∧ (z175.rssiOf ((0 : Fin 2).val) (0xFE00 : Half)).toInt < x.lbtThr)) ∧
    (z176.sysOn = true ∧
      z176.pwr.off = false ∧
      z176.pwr.held = false ∧
      z176.pwr.pinWait = false ∧
      z176.flushing = false ∧
      z176.flag F.WUR_CFG_EN = true ∧
      z176.flag F.TXP_STAT_AIRING = false ∧
      z176.inRoadside = false ∧
      z176.rf.deafTo ≤ z176.cyc ∧
      crcBits 4 3 0 (msbBits 24 (BitVec.toNat (0x1234 : Half) * 256 + BitVec.toNat (7 : Byte))) ≠ (pat 0x1234 8 : BitVec 4).toNat) ∧
    (z177.sysOn = true ∧
      z177.pwr.off = false ∧
      z177.pwr.held = false ∧
      z177.pwr.pinWait = false ∧
      z177.flushing = false ∧
      z177.flag F.WUR_CFG_EN = true ∧
      z177.flag F.TXP_STAT_AIRING = false ∧
      z177.inRoadside = false ∧
      z177.rf.deafTo ≤ z177.cyc ∧
      crcBits 4 3 0 (msbBits 24 (BitVec.toNat (0x1234 : Half) * 256 + BitVec.toNat (7 : Byte))) = (pat 0x1234 7 : BitVec 4).toNat) ∧
    ((0x1234 : Half) ≠ 65535#16 ∧
      BitVec.toNat (0x1234 : Half) = z177.fld F.WUR_CFG_ADDR ∧
      z177.txp.lastWake = none ∧
      z177.level ≤ 1) ∧
    (z178.sysOn = true ∧
      z178.forCl0 (0 : Who) ∧
      (z178.setReg RegName.TXP_SUBMIT 3 d3).txRefusal ((z178.setReg RegName.TXP_SUBMIT 3 d3).txEntry TxUse.cl0 (z178.reg RegName.TXP_SUBMIT) (z178.reg RegName.TXP_SUBMIT 1) (z178.reg RegName.TXP_SUBMIT 2) d3) ((z178.setReg RegName.TXP_SUBMIT 3 d3).txFieldsOk (z178.reg RegName.TXP_SUBMIT) (z178.reg RegName.TXP_SUBMIT 1) (z178.reg RegName.TXP_SUBMIT 2) d3) = none) := by
  refine ⟨?_, ?_, ?_, ?_, ?_, ?_, ?_, ?_, ?_, ?_, ?_, ?_, ?_, ?_⟩
  · decide +kernel  -- 1.2, 1.4, 2, 4, 5, 6.2.1, 6.2.2, 7
  · decide +kernel  -- 1.3, 3.1
  · decide +kernel  -- 8
  · decide +kernel  -- 6.5[1].1
  · decide +kernel  -- 6.5[1].2
  · decide +kernel  -- 6.4
  · decide +kernel  -- 6.3[1].1
  · decide +kernel  -- 6.3[1].2
  · decide +kernel  -- 6.1.2
  · decide +kernel  -- 6.1.1
  · decide +kernel  -- 9.1
  · decide +kernel  -- 9.2
  · decide +kernel  -- same
  · decide +kernel  -- 1.1

end Tx

namespace Fl
def w1 : Who := Fin.ofNat _ 1
def fc (op : Nat) (off : Nat := 0x8000) (n : Nat := 2) : FlcCmd := { tag := 3, op, nwords := n, offset := off, data := List.replicate 8 0x12345678#32, src := 0x20001000, req := .firmware }
def F0 (s : State) (f : FlcState → FlcState) : State := s.onFlc f
def fb (s : State) : State := s.setFld F.FLC_PART_B 16 0
def t0 (s : State) := s
def f8 (s : State) : State := let s := s.setFld F.FLC_PART_B 8 0; F0 s fun f => {f with queue := [fc 2 0x800000], modes := [(s.flBlock 0x800000, s.blockMode (s.flBlock 0x800000))]}
def z179 : State := F0 armed fun f => {f with queue := [fc 2], page := some (fc 2 0x10000), recOpen := some 3}
def z180 : State := F0 armed fun f => {f with queue := List.replicate 8 (fc 1), results := [3,4]}
def z184 : State := F0 (fb {armed with pwr := {armed.pwr with up := true}}) fun f => {f with blank := some (fc 7)}
def z185 : State := F0 (fb armed) fun f => {f with erase := some ⟨fc 3 0x18000, 79, false, [7], none⟩, recOpen := some 255}
def z193 : State := F0 (fb armed) fun f => {f with erase := some ⟨fc 3 0x18000, 5, false, [7], none⟩, recOpen := some 255}
def z194 : State := F0 (fb armed) fun f => {f with erase := some ⟨fc 3 0x18000, 0, false, [], none⟩, recOpen := some 255}
def z195 : State := F0 (fb armed) fun f => {f with queue := [fc 7 0x100000]}
def z196 : State := F0 (fb armed) fun f => {f with queue := [fc 3 0x18000]}

theorem witness_FlashAndScrub :
    (z179.sysOn = true ∧
      z179.forCl0 (0 : Who) ∧
      z179.flc.queue.length < 8 ∧
      z179.flc.results = [] ∧
      z179.flc.erase = none ∧
      z179.updRuns = none ∧
      z179.flc.blank = none ∧
      (bankCluster (0 : Fin 80).val = 0 ∨ z179.userOn = true) ∧
      ((0 : Fin 80).val < 53 ∨ 77 ≤ (0 : Fin 80).val) ∧
      Tab.getD z179.sram.errs (bankWord ((0 : Fin 80).val) (Tab.getD z179.sram.scrub ((0 : Fin 80).val) 0)).key 0 = 0) ∧
    ((∀ d ∈ (z179.flc.queue).tail, d.op ≠ 1) ∧
      (z179.err.held ≠ [] ∨ z179.pwr.flush.isSome = true ∨ z179.flcPick true [] z179.flc.queue = none) ∧
      Tab.find z179.flc.programs (0 : Fin 4).val = none ∧
      z179.err.held = [] ∧
      (∀ k ∈ z179.flc.recOpen, k < 256) ∧
      (∃ c ∈ (z179.flc.queue).head?, z179.flcMayStart c = false) ∧
      (∃ c ∈ z179.flc.page, 32768 ≤ c.offset)) ∧
    (z180.sysOn = true ∧
      z180.forCl0 (0 : Who) ∧
      8 ≤ z180.flc.queue.length ∧
      z180.err.held = [] ∧
      z180.pwr.flush = none ∧
      z180.flc.page = none ∧
      ((z180.flc.results).head?).isSome = true ∧
      (∃ c ∈ (z180.flc.queue).head?, z180.flcMayStart c = true) ∧
      (∃ c ∈ z180.flcPick true [] z180.flc.queue, z180.flcRefusal c.1 = none ∧ c.1.op = 1)) ∧
    (z184.sysOn = true ∧
      z184.pwr.up = true ∧
      z184.inRoadside = false ∧
      z184.patrolled (0x8000 : BitVec 25).toNat = true ∧
      z184.bankBusy (0x8000 : BitVec 25).toNat = false ∧
      z184.readBarred (0x8000 : BitVec 25).toNat = false ∧
      0 < z184.warnAt ∧
      ((z184.onFlc fun f => { f with errs := Tab.putD f.errs ((0x8000 : BitVec 25).toNat / 32) 0 (BitVec.toNat (0 : Byte)) }).arrayRead true ((0x8000 : BitVec 25).toNat / 32)).1 = LineRead.data 0 ∧
      (z184.flc.blank).isSome = true) ∧
    (z185.sysOn = true ∧
      z185.err.held = [] ∧
      (∀ k ∈ z185.flc.recOpen, k < 256) ∧
      (∃ r ∈ z185.flc.erase, r.suspended = false ∧ r.cmd.op = 3 ∧ 8 ≤ flSector r.cmd.offset ∧ 79 ≤ r.pulses)) ∧
    (z193.sysOn = true ∧
      z193.err.held = [] ∧
      (∃ r ∈ z193.flc.erase, r.suspended = false ∧ r.pulses < 79 ∧ r.suspends ≠ [])) ∧
    (z194.sysOn = true ∧
      z194.err.held = [] ∧
      (∃ r ∈ z194.flc.erase, r.suspended = false ∧ r.pulses < 79 ∧ r.suspends = [])) ∧
    (z195.sysOn = true ∧
      z195.err.held = [] ∧
      z195.pwr.flush = none ∧
      (∃ c ∈ z195.flcPick true [] z195.flc.queue, z195.flcRefusal c.1 = none ∧ c.1.op = 7)) ∧
    (z196.sysOn = true ∧
      z196.err.held = [] ∧
      z196.pwr.flush = none ∧
      (∃ c ∈ z196.flcPick true [] z196.flc.queue, z196.flcRefusal c.1 = none ∧ (c.1.op = 3 ∨ c.1.op = 4))) := by
  refine ⟨?_, ?_, ?_, ?_, ?_, ?_, ?_, ?_, ?_⟩
  · decide +kernel  -- 1.1.1, 1.10, 1.2.1, 1.3.1, 1.4.1, 1.5.1, 1.6.1, 1.7.1, 1.7.2, 11, 14, 16.2.1, 16.2.2, 16.2.3, 2.2, 4, 6, 8.1, 8.2
  · decide +kernel  -- same
  · decide +kernel  -- 1.1.2, 1.2.2, 1.3.2, 1.4.2, 1.5.2, 1.6.2, 1.9, 2.1, 3.2.1, 9
  · decide +kernel  -- 13, 17[1]
  · decide +kernel  -- 10.1, 10.4
  · decide +kernel  -- 10.3
  · decide +kernel  -- 10.2
  · decide +kernel  -- 3.2.4
  · decide +kernel  -- 3.2.3

end Fl

namespace Otp
def st (v : Nat) : State := fs run0 [(F.DMC_STAT_STATE,0,v),(F.DMC_DEV_CAP,0,1)]
def rdy (v : Nat) : State := fs (st v) [(F.DMC_STAT_READY,0,1)]
def O0 (s : State) (f : OtpState → OtpState) : State := s.onOtp f
def D0 (s : State) (f : DmcState → DmcState) : State := s.onDmc f
def z198 : State := O0 run0 fun o => {o with run := some ⟨7, 0, 77, true⟩}
def z199 : State := (rdy 4).setReg .DMC_SCRUBPOS 0 (BitVec.ofNat 32 (0x80000000 + 234881024 - 8))
def z200 : State := (st 3).setReg .DMC_FILLPOS 0 0x80002000#32
def z201 : State := st 1
def z203 : State := st 5
def z204 : State := D0 (rdy 4) fun d => {d with recentre := some 15, fails := 1}
def z205 : State := D0 (rdy 4) fun d => {d with recentre := some 15}
def z206 : State := D0 (rdy 4) fun d => {d with recentre := some 3}
def z207 : State := D0 (rdy 4) fun d => {d with postponed := 8}

theorem witness_OtpAndDram_otp :
    (z198.sysOn = true ∧
      z198.forCl0 (0 : Who) ∧
      z198.otp.run.isSome = true ∧
      z198.onPll = true ∧
      z198.dramReady = false ∧
      (z198.fld F.DMC_STAT_STATE = 0 ∨ z198.fld F.DMC_STAT_STATE = 6) ∧
      (z198.otp.run).isSome = true) ∧
    (z199.sysOn = true ∧
      z199.forCl0 (0 : Who) ∧
      z199.onPll = true ∧
      z199.dramReady = true ∧
      z199.inDram (BitVec.toNat (z199.reg RegName.DMC_SCRUBPOS)) = true ∧
      z199.filledFrom (BitVec.toNat (z199.reg RegName.DMC_SCRUBPOS)) = true ∧
      Tab.getD z199.dmc.errs (dramUnit (BitVec.toNat (z199.reg RegName.DMC_SCRUBPOS))) 0 = 0 ∧
      (z199.fld F.DMC_STAT_STATE = 3 ∨ z199.fld F.DMC_STAT_STATE = 4) ∧
      (z199.boundary RegName.DMC_TRAIN).recentreAt < (BitVec.toInt (0xF7 : Byte)).natAbs ∧
      (BitVec.toInt (0xF7 : Byte)).natAbs ≤ (z199.boundary RegName.DMC_TRAIN).urgentAt) ∧
    (z199.dmc.recentre = none) ∧
    (z200.sysOn = true ∧
      z200.fld F.DMC_STAT_STATE = 3 ∧
      dramBase ≤ BitVec.toNat (0x80000000 : Word) ∧
      (0x80000000 : Word) < z200.reg RegName.DMC_FILLPOS ∧
      (z200.fld F.DMC_STAT_STATE = 3 ∨ z200.fld F.DMC_STAT_STATE = 4) ∧
      (BitVec.toInt (0 : Byte)).natAbs ≤ (z200.boundary RegName.DMC_TRAIN).recentreAt) ∧
    (z201.sysOn = true ∧
      z201.forCl0 (0 : Who) ∧
      z201.otp.run = none ∧
      (7 : BitVec 7) = 7#7 ∧
      z201.otpFuseDenied (b2n true) z201.pdata = false ∧
      ((2 : Byte) = 2#8 ∨ (2 : Byte) = 4#8)) ∧
    (z203.sysOn = true ∧
      z203.forCl0 (0 : Who) ∧
      z203.onPll = true ∧
      z203.dramReady = false ∧
      z203.fld F.DMC_STAT_STATE = 5) ∧
    (z204.sysOn = true ∧
      (z204.fld F.DMC_STAT_STATE = 3 ∨ z204.fld F.DMC_STAT_STATE = 4) ∧
      BitVec.toNat (15 : Byte) < 16 ∧
      (∃ k ∈ z204.dmc.recentre, 15 ≤ k)) ∧
    (z205.sysOn = true ∧
      (z205.fld F.DMC_STAT_STATE = 3 ∨ z205.fld F.DMC_STAT_STATE = 4) ∧
      16 ≤ BitVec.toNat (20 : Byte) ∧
      (∃ k ∈ z205.dmc.recentre, 15 ≤ k)) ∧
    (z206.sysOn = true ∧
      (z206.fld F.DMC_STAT_STATE = 3 ∨ z206.fld F.DMC_STAT_STATE = 4) ∧
      (∃ k ∈ z206.dmc.recentre, k < 15)) ∧
    (z207.sysOn = true ∧
      (z207.fld F.DMC_STAT_STATE = 3 ∨ z207.fld F.DMC_STAT_STATE = 4) ∧
      (z207.boundary RegName.DMC_TRAIN).urgentAt < (BitVec.toInt (0x70 : Byte)).natAbs ∧
      16 ≤ BitVec.toNat (20 : Byte)) ∧
    (z201.sysOn = true ∧
      z201.forCl0 (0 : Who) ∧
      z201.otp.run = none ∧
      z201.otpHalfDenied (0 : BitVec 7).toNat (b2n true) = false) := by
  refine ⟨?_, ?_, ?_, ?_, ?_, ?_, ?_, ?_, ?_, ?_, ?_⟩
  · decide +kernel  -- 1.2, 1.3.2.1, 2.1, 2.2
  · decide +kernel  -- 1.3.1, 11, 8.2
  · decide +kernel  -- same
  · decide +kernel  -- 4, 8.1
  · decide +kernel  -- 1.1.3, 7
  · decide +kernel  -- 1.3.2.2
  · decide +kernel  -- 9.3
  · decide +kernel  -- 9.2
  · decide +kernel  -- 9.1
  · decide +kernel  -- 8.3
  · decide +kernel  -- 1.1.1

end Otp

namespace Tag
def tg (st : Nat) : State := fs (pw run0 fun p => {p with vbak := true}) [(F.CTL_CFG_MODE,0,1),(F.CTL_STAT_FIELD,0,1),(F.CTL_STAT_TAG_STATE,0,st)]
def tk : Bytes := b256 16
def keyed (s : State) : State := (List.range 4).foldl (fun t k => t.setReg .CTL_TKEY k 0x07070707#32) (s.setFld F.CTL_STAT_TKEY_OK 1)
def nr : Bytes := zeros 16
def nt : Bytes := b256 16
def wes : TagSession := smKeys tk nr nt
def authd (s : State) : State := s.onCtl fun c => {c with auth := some (nr,nt)}
def sec (s : State) : State := s.onCtl fun c => {c with session := some wes}
def endP : Bytes := smMac wes 0 [0xB2#8]
def wrP : Bytes := let d := [1#8,2#8,3#8,4#8]; let q := [0#8,0x10#8,4#8] ++ smCrypt wes 0 d; q ++ smMac wes 0 (0xA3#8 :: q)
def kn (n : Nat) : List Bool := (airBits ((tg 2).tagLevel 1)).take n
def z209 : State := fs (pw run0 fun p => {p with vbak := true}) [(F.CTL_CFG_MODE,0,2)]
def z210 : State := tg 3
def z213 : State := fs ((tg 0).onCtl fun c => {c with quiet := true, recent := true}) [(F.CTL_STAT_LOCKOUT,0,1),(F.CTL_STAT_FIELD,0,0)]
def z214 : State := tg 1
def z215 : State := sec (keyed (tg 5))
def z216 : State := fs (authd (keyed (tg 4))) [(F.CTL_STAT_FAILS,0,3)]
def z217 : State := authd (keyed (tg 4))
def z218 : State := keyed (tg 4)
def z219 : State := tg 4
def z220 : State := tg 2

theorem witness_ContactlessTag_tag :
    (z209.fieldOn = false ∧
      z209.tagOn = false) ∧
    (z210.tagOn = true ∧
      (z210.tagState = 2 ∨ z210.tagState = 3) ∧
      selLevel (0x95 : Byte) + 1 = z210.tagState ∧
      ([] : List Bool).length ≤ 40 ∧
      List.take ([] : List Bool).length (airBits (z210.tagLevel (selLevel (0x95 : Byte)))) = ([] : List Bool) ∧
      z210.tagState = 3) ∧
    (z213.fieldOn = false ∧
      z213.ctl.recent = true ∧
      z213.ctl.quiet = true ∧
      z213.flag F.CTL_STAT_LOCKOUT = true) ∧
    (z214.tagOn = true ∧
      z214.tagState = 1) ∧
    (z215.tagOn = true ∧
      z215.tagState = 5 ∧
      z215.tagCond = 3 ∧
      11 ≤ List.length wrP ∧
      List.length wrP = 11 + BitVec.toNat (List.getD wrP 2 0) ∧
      z215.flag F.CTL_HOLD_HOLD_ACT = false ∧
      (∃ x ∈ z215.ctl.session, ∃ q ∈ smOpen x (163#8) wrP, tagRangeOk (beNat (List.take 2 q)) (BitVec.toNat (List.getD wrP 2 0)) = true ∧ regionsAny (BitVec.toNat (z215.reg RegName.CTL_LOCK)) (beNat (List.take 2 q)) (BitVec.toNat (List.getD wrP 2 0)) = false)) ∧
    ((∀ (w : Nat), Tab.getD z215.ctl.errs w 0 = 0)) ∧
    (z215.tagOn = true ∧
      z215.tagState = 5 ∧
      z215.tagCond = 3 ∧
      List.length endP = 8 ∧
      (∃ x ∈ z215.ctl.session, smOpen x (178#8) endP = some [])) ∧
    (z216.tagOn = true ∧
      z216.tagState = 4 ∧
      List.length (zeros 8 : Bytes) = 8 ∧
      z216.tagCond = 3 ∧
      (∃ pr ∈ z216.ctl.auth, (zeros 8 : Bytes) ≠ macR (z216.keyRegs RegName.CTL_TKEY) z216.tagUid pr.1 pr.2)) ∧
    (z217.tagOn = true ∧
      z217.tagState = 4 ∧
      List.length (macR tk (tg 4).tagUid nr nt : Bytes) = 8 ∧
      z217.tagCond = 3 ∧
      (∃ pr ∈ z217.ctl.auth, (macR tk (tg 4).tagUid nr nt : Bytes) = macR (z217.keyRegs RegName.CTL_TKEY) z217.tagUid pr.1 pr.2)) ∧
    (z218.tagOn = true ∧
      z218.tagState = 4 ∧
      List.length (0#8 :: nr : Bytes) = 17 ∧
      List.getD (0#8 :: nr : Bytes) 0 0 = 0#8 ∧
      z218.tagCond = 3 ∧
      z218.flag F.CTL_STAT_LOCKOUT = false ∧
      z218.flag F.CTL_STAT_TKEY_OK = true) ∧
    (z219.tagOn = true ∧
      z219.tagState = 4 ∧
      z219.ctl.session = none ∧
      List.length ([0,0,4] : Bytes) = 3 ∧
      z219.tagCond ≠ 0 ∧
      tagRangeOk (beNat (List.take 2 ([0,0,4] : Bytes))) (BitVec.toNat (List.getD ([0,0,4] : Bytes) 2 0)) = true ∧
      z219.flag F.CTL_HOLD_HOLD_ACT = false ∧
      regionsAll (BitVec.toNat (z219.reg RegName.CTL_OPENRD)) (beNat (List.take 2 ([0,0,4] : Bytes))) (BitVec.toNat (List.getD ([0,0,4] : Bytes) 2 0)) = false) ∧
    (z210.tagOn = true ∧
      (z210.tagState = 2 ∨ z210.tagState = 3) ∧
      selLevel (0x97 : Byte) + 1 ≠ z210.tagState) ∧
    (z220.tagOn = true ∧
      z220.tagState = 2) := by
  refine ⟨?_, ?_, ?_, ?_, ?_, ?_, ?_, ?_, ?_, ?_, ?_, ?_, ?_⟩
  · decide +kernel  -- 1.1, 1.2, 7.1, 7.2, 7.3, 7.4
  · decide +kernel  -- 8.2.1, 8.2.2, 8.2.4, 8.4
  · decide +kernel  -- 1.3, 3, 5
  · decide +kernel  -- 8.1.1, 8.1.2
  · decide +kernel  -- 8.8.2
  · intros; first | rfl | contradiction  -- 8.8.2
  · decide +kernel  -- 8.8.1
  · decide +kernel  -- 8.6.5.2
  · decide +kernel  -- 8.6.5.1
  · decide +kernel  -- 8.6.3
  · decide +kernel  -- 8.6.2.2.1
  · decide +kernel  -- 8.2.3
  · decide +kernel  -- 8.3

end Tag

namespace Err
def env0 : BootEnv := {}
def w1 : Who := Fin.ofNat _ 8
def rd (p : RdPhase) : Reader := { phase := p, uid := [1,2,3], sel := [4,5,6,7] }
def C (s : State) (f : CtlState → CtlState) : State := s.onCtl f
def pad0 (s : State) : State := fs s [(F.CTL_CFG_MODE,0,2),(F.CTL_PADSTAT_BASELINE,0,100),(F.CTL_PADCFG_THR,0,50)]
def logd (h : Bool) : State := run0.onErr fun e => {e with log := [(3, ⟨h,1,5,1,0,false,0,0,0,0⟩)], nextAge := 1, cycAge := 1}
def wd (k : Nat) (win : Nat) : State := fs run0 [(F.ERR_WDT_CFG_EN,k,1),(F.ERR_WDT_CFG_WIN,k,win)]
def prv : Provision := ⟨9, 0x10, [1,2]⟩
def z221 : State := C (pad0 run0) fun c => {c with padPolls := 0}
def z224 : State := C (pad0 run0) fun c => {c with reader := some (rd (.wupa 1)), waiting := some prv}
def z225 : State := (fs (wd 1 0) [(F.CTL_HOLD_HOLD_ACT,0,1)]) |> fun s => pw s fun p => {p with up := true}
def z230 : State := C (pad0 run0) fun c => {c with reader := some (rd .carrier)}
def z231 : State := C (pad0 run0) fun c => {c with reader := some (rd (.pause 2))}
def z232 : State := C (pad0 run0) fun c => {c with reader := some (rd .ending)}
def z233 : State := C (pad0 run0) fun c => {c with reader := some (rd .select)}
def z234 : State := C (pad0 run0) fun c => {c with padPolls := 1}
def z235 : State := (wd 1 0).onErr fun e => {e with held := [1]}
def z236 : State := (wd 3 1).setReg .ERR_TEL 15 50
def z237 : State := logd false

theorem witness_ReaderAndErrors :
    (z221.sysOn = true ∧
      z221.forCl0 (0 : Who) ∧
      Tab.find z221.err.log (bits (BitVec.toNat (0xA5C3 : Word)) 7 0) = none ∧
      bits (BitVec.toNat (0xA5C3 : Word)) 29 28 ≠ 3 ∧
      z221.flag F.ERR_WDT_CFG_EN (1 : Fin 4).val = false ∧
      z221.err.wdtDue.contains (1 : Fin 4).val = false ∧
      (z221.err.held = [] ∨ z221.pulseRuns = true) ∧
      z221.snapWanted = false ∧
      z221.inRoadside = false ∧
      sgn 16 (bits (BitVec.toNat (z221.reg RegName.ERR_TEL 15)) 15 0) < 40) ∧
    (z221.fld F.PMB_VREQ_VTARGET < 170 ∧
      z221.flag F.CTL_HOLD_HOLD_ACT = false ∧
      (z221.ctlMode = 2 ∨ z221.ctlMode = 3) ∧
      z221.cur ≤ 2 ∧
      z221.pwr.off = false ∧
      z221.pwr.held = false ∧
      z221.flushing = false ∧
      decide (z221.fld F.CTL_PADSTAT_BASELINE + max 1 (z221.fld F.CTL_PADCFG_THR) ≤ (150 : BitVec 12).toNat) = true ∧
      z221.ctl.padPolls = 0 ∧
      (z221.ctl.reader = none ∨ z221.ctlRuns = false)) ∧
    (z221.ctl.waiting = none) ∧
    (z224.sysOn = true ∧
      z224.ctlRuns = true ∧
      1 < z224.scanTries ∧
      (∃ r ∈ z224.ctl.reader, r.phase = RdPhase.wupa 1) ∧
      (z224.ctl.waiting).isSome = true) ∧
    (z225.sysOn = true ∧
      z225.forCl0 (0 : Who) ∧
      z225.flag F.ERR_WDT_CFG_EN (1 : Fin 4).val = true ∧
      z225.fld F.ERR_WDT_CFG_WIN (1 : Fin 4).val = 0 ∧
      bits (BitVec.toNat (0xA5C3 : Word)) 15 0 = 42435 ∧
      z225.pwr.up = true ∧
      z225.flag F.SYSCTL_BOOTSTAT_ROM_RESP = false ∧
      z225.flag F.CTL_HOLD_HOLD_ACT = true) ∧
    (z230.sysOn = true ∧
      z230.ctlRuns = true ∧
      z230.fieldOn = false ∧
      z230.ctlMode ≠ 3 ∧
      (∃ r ∈ z230.ctl.reader, r.phase = RdPhase.carrier)) ∧
    (z231.sysOn = true ∧
      z231.ctlRuns = true ∧
      (∃ r ∈ z231.ctl.reader, r.phase = RdPhase.pause 2)) ∧
    (z232.sysOn = true ∧
      z232.ctlRuns = true ∧
      (∃ r ∈ z232.ctl.reader, r.phase = RdPhase.ending)) ∧
    (z233.sysOn = true ∧
      z233.ctlRuns = true ∧
      BitVec.getLsbD (List.getD ([0x20] : Bytes) 0 0) 2 = false ∧
      (∃ r ∈ z233.ctl.reader, r.phase = RdPhase.select)) ∧
    (z234.sysOn = true ∧
      (z234.ctlMode = 2 ∨ z234.ctlMode = 3) ∧
      z234.cur ≤ 2 ∧
      z234.pwr.off = false ∧
      z234.pwr.held = false ∧
      z234.inRoadside = false ∧
      z234.flushing = false ∧
      decide (z234.fld F.CTL_PADSTAT_BASELINE + max 1 (z234.fld F.CTL_PADCFG_THR) ≤ (150 : BitVec 12).toNat) = true ∧
      z234.ctl.padPolls = 1 ∧
      z234.ctl.reader = none) ∧
    (z234.level ≠ 2) ∧
    (z234.sysOn = true ∧
      (z234.ctlMode = 2 ∨ z234.ctlMode = 3) ∧
      z234.cur ≤ 2 ∧
      z234.pwr.off = false ∧
      z234.pwr.held = false ∧
      z234.inRoadside = false ∧
      z234.flushing = false ∧
      decide (z234.fld F.CTL_PADSTAT_BASELINE + max 1 (z234.fld F.CTL_PADCFG_THR) ≤ (149 : BitVec 12).toNat) = false) ∧
    (z235.sysOn = true ∧
      z235.err.held ≠ [] ∧
      z235.pulseRuns = false) ∧
    (z236.sysOn = true ∧
      40 ≤ sgn 16 (bits (BitVec.toNat (z236.reg RegName.ERR_TEL 15)) 15 0)) ∧
    (z237.sysOn = true ∧
      z237.forCl0 (0 : Who) ∧
      List.find? (fun x => x.fst == bits (BitVec.toNat (3 : Word)) 7 0) z237.err.counted = none ∧
      (∃ e ∈ Tab.find z237.err.log (bits (BitVec.toNat (3 : Word)) 7 0), e.handled = false ∧ e.age < z237.err.cycAge)) := by
  refine ⟨?_, ?_, ?_, ?_, ?_, ?_, ?_, ?_, ?_, ?_, ?_, ?_, ?_, ?_, ?_⟩
  · decide +kernel  -- 1.1, 1.3, 1.4, 1.6, 10, 11, 14, 16, 19, 4, 5.2, 6.1, 6.2, 6.3, 6.4, 9
  · decide +kernel  -- same
  · decide +kernel  -- same
  · decide +kernel  -- 7.1[2].1, 7.1[2].2, 8
  · decide +kernel  -- 1.7, 15, 3
  · decide +kernel  -- 7.5
  · decide +kernel  -- 7.4[3]
  · decide +kernel  -- 7.3
  · decide +kernel  -- 7.2
  · decide +kernel  -- 5.3
  · decide +kernel  -- same
  · decide +kernel  -- 5.1
  · decide +kernel  -- 13
  · decide +kernel  -- 18
  · decide +kernel  -- 1.2.1

end Err

namespace HcpT
def fclose : State := hst.onOtp fun o => {o with bits := [(14, 0x1C0)]}
def ddis : State := hst.onOtp fun o => {o with bits := [(14, 0xE00)]}
def z112 : State := hst.onRf fun r => {r with role := 2}
def z113 : State := fs hdir [(F.SYSCTL_BOOTSTAT_ROM_RESP,0,1)]
def z115 : State := hst.onHcp fun h => {h with jobs := [(3,{hdr := {tp := .hport, seq := 0, crc := 0, auth := false, counter := 0, tagOk := false}, opcode := 0x108, arg := 0, par := [], data := []})]}
def z116 : State := hst.setTp .hport {hst.tp .hport with memory := [⟨5,(hst.cmdHdr ch 0x100 [] []).crc,none⟩]}
def z119 : State := hst.setTp .hport {hst.tp .hport with memory := [⟨5,(hst.cmdHdr ch 0x100 [] []).crc,some ⟨1,0x100,5,[],[]⟩⟩]}

theorem witness_HcpSystem_hcpt :
    (z112.cmdPasses ch 265 ([(3 : Byte), (0 : Byte)] ++ []) ([1,2,3,4] : Bytes) ∧
      (3 : Byte) ≠ 1#8 ∧
      (3 : Byte) ≠ 2#8 ∧
      (UserAct.later = UserAct.later ∨ (z112.cmdState ch 265 ([(3 : Byte), (0 : Byte)] ++ []) ([1,2,3,4] : Bytes)).hcp.calls = []) ∧
      z112.cmdPasses ch 258 [(3 : Byte)] [] ∧
      BitVec.toNat (3 : Byte) ≤ 3 ∧
      (z112.cmdState ch 258 [(3 : Byte)] []).floorNow < BitVec.toNat (3 : Byte) ∧
      z112.cmdPasses ch 259 [(3 : Byte)] [] ∧
      2 < BitVec.toNat (3 : Byte) ∧
      z112.cmdPasses ch 260 ([(3 : Byte)] ++ parWord (0x424C4F57 : Word)) []) ∧
    ((0x424C4F57 : Word) = 1112297303#32 ∧
      (z112.cmdState ch 260 ([(3 : Byte)] ++ parWord (0x424C4F57 : Word)) []).fuseOk (BitVec.toNat (3 : Byte)) = true) ∧
    (z113.cmdPasses ch 261 [(1 : Byte)] [] ∧
      BitVec.toNat (1 : Byte) ≤ 32 ∧
      (z113.cmdState ch 261 [(1 : Byte)] []).flag F.SYSCTL_BOOTSTAT_TRIAL = false ∧
      BitVec.toNat (1 : Byte) ≤ (z113.cmdState ch 261 [(1 : Byte)] []).runVersion ∧
      (z113.cmdState ch 261 [(1 : Byte)] []).vinGood = true ∧
      (z113.cmdState ch 261 [(1 : Byte)] []).otp.run = none ∧
      z113.cmdPasses ch 263 ([(1 : Byte)] ++ parWord (0x1000 : Word)) ([1,2,3,4] : Bytes) ∧
      BitVec.toNat (1 : Byte) ≤ 1 ∧
      BitVec.toNat (0x1000 : Word) % 4096 = 0 ∧
      List.length ([1,2,3,4] : Bytes) % 4 = 0) ∧
    (([1,2,3,4] : Bytes) ≠ [] ∧
      BitVec.toNat (0x1000 : Word) + List.length ([1,2,3,4] : Bytes) ≤ (z113.cmdState ch 263 ([(1 : Byte)] ++ parWord (0x1000 : Word)) ([1,2,3,4] : Bytes)).dirNow.size ∧
      (∀ t ∈ Tab.find (z113.cmdState ch 263 ([(1 : Byte)] ++ parWord (0x1000 : Word)) ([1,2,3,4] : Bytes)).hcp.slots (BitVec.toNat (1 : Byte)), t = ch.tp.num) ∧
      z113.cmdPasses ch 264 [(1 : Byte), (0 : Byte), (0 : Byte)] [] ∧
      BitVec.toNat (0 : Byte) ≤ 1 ∧
      BitVec.toNat (0 : Byte) ≤ 3 ∧
      (∀ e ∈ (z113.cmdState ch 264 [(1 : Byte), (0 : Byte), (0 : Byte)] []).hcp.jobs, e.snd.opcode ≠ 264) ∧
      (∀ e ∈ (z113.cmdState ch 264 [(1 : Byte), (0 : Byte), (0 : Byte)] []).hcp.slots, e.snd = ch.tp.num) ∧
      ((z113.cmdState ch 264 [(1 : Byte), (0 : Byte), (0 : Byte)] []).flag F.SYSCTL_BOOTSTAT_ROM_RESP = true ∨ (z113.cmdState ch 264 [(1 : Byte), (0 : Byte), (0 : Byte)] []).slotPasses ((z113.cmdState ch 264 [(1 : Byte), (0 : Byte), (0 : Byte)] []).newDir [(1 : Byte), (0 : Byte), (0 : Byte)]) ((z113.cmdState ch 264 [(1 : Byte), (0 : Byte), (0 : Byte)] []).newDir [(1 : Byte), (0 : Byte), (0 : Byte)]).active = true)) ∧
    (hst.cmdPasses ch 266 [(4 : Byte), (4 : Byte)] [] ∧
      3 < BitVec.toNat (4 : Byte) ∧
      hst.cmdPasses ch 258 [(4 : Byte)] []) ∧
    (z115.cmdPasses ch 262 (parHalf (0 : Half)) [] ∧
      ((List.find? (fun e => e.snd.hdr.tp == ch.tp && e.snd.hdr.seq == BitVec.toNat (0 : Half) && !e.snd.isOwn) (z115.cmdState ch 262 (parHalf (0 : Half)) []).hcp.jobs)).isSome = true) := by
  refine ⟨?_, ?_, ?_, ?_, ?_, ?_⟩
  · decide +kernel  -- 10[1].3, 3.2, 4.2, 5.1
  · decide +kernel  -- same
  · decide +kernel  -- 6.1, 8, 9
  · decide +kernel  -- same
  · decide +kernel  -- 11.2, 3.1
  · decide +kernel  -- 7.2

theorem witness_HcpDiagnosticAndTime :
    (z116.cmdPasses ch 2309 (parWord (0x40020000 : Word) ++ parHalf (1 : Half)) (List.flatMap parWord ([0x101] : List Word)) ∧
      ([0x101] : List Word).length = BitVec.toNat (1 : Half) ∧
      (z116.cmdState ch 2309 (parWord (0x40020000 : Word) ++ parHalf (1 : Half)) (List.flatMap parWord ([0x101] : List Word))).regRefusal (z116.cmdHdr ch 2309 (parWord (0x40020000 : Word) ++ parHalf (1 : Half)) (List.flatMap parWord ([0x101] : List Word))) (BitVec.toNat (0x40020000 : Word)) (BitVec.toNat (1 : Half)) = none ∧
      (z116.cmdState ch 2309 (parWord (0x40020000 : Word) ++ parHalf (1 : Half)) (List.flatMap parWord ([0x101] : List Word))).hcpWaits (z116.cmdHdr ch 2309 (parWord (0x40020000 : Word) ++ parHalf (1 : Half)) (List.flatMap parWord ([0x101] : List Word)), 2309, BitVec.toNat (0x40020000 : Word), BitVec.toNat (1 : Half), List.flatMap parWord ([0x101] : List Word)) = false ∧
      z116.cmdPasses ch 2310 [] [] ∧
      z116.cmdPasses ch 2311 (parWord (0x40020000 : Word)) [] ∧
      (0x40020000 : Word) ≠ 1381189956#32 ∧
      z116.cmdPasses ch 2312 [(1 : Byte)] [] ∧
      ((z116.cmdState ch 2312 [(1 : Byte)] []).security = 0 ∨ (z116.cmdState ch 2312 [(1 : Byte)] []).hasScope (z116.cmdHdr ch 2312 [(1 : Byte)] []) 0 = true) ∧
      z116.cmdPasses ch 1793 [] []) ∧
    (z116.cmdPasses ch 1794 (parWord (0x40020000 : Word) ++ parWord (3 : Word)) [] ∧
      BitVec.toNat (3 : Word) ≤ 99999999 ∧
      z116.cmdPasses ch 1795 [] [] ∧
      z116.cmdPasses ch 1796 (leBytes 8 (5 : BitVec 64).toNat) [] ∧
      (5 : BitVec 64).toNat < 2 ^ 56 ∧
      (z116.cmdState ch 1796 (leBytes 8 (5 : BitVec 64).toNat) []).rtc.wr = none ∧
      (z116.cmdState ch 1796 (leBytes 8 (5 : BitVec 64).toNat) []).hcp.rtc = [] ∧
      z116.cmdPasses ch 1797 ([(1 : Byte)] ++ leBytes 8 (5 : BitVec 64).toNat ++ [(3 : Byte)]) [] ∧
      BitVec.toNat (1 : Byte) ≤ 1 ∧
      BitVec.toNat (3 : Byte) ≤ 3) ∧
    ((5 : BitVec 64).toNat % 256 ≤ 63 ∧
      (z116.cmdState ch 1797 ([(1 : Byte)] ++ leBytes 8 (5 : BitVec 64).toNat ++ [(3 : Byte)]) []).rtc.wr = none ∧
      (z116.cmdState ch 1797 ([(1 : Byte)] ++ leBytes 8 (5 : BitVec 64).toNat ++ [(3 : Byte)]) []).hcp.rtc = [] ∧
      z116.serves ch.tp = true ∧
      ch.seq ≠ 65535#16 ∧
      z116.cmdPasses ch 1798 [(1 : Byte), (3 : Byte)] [] ∧
      (3 < BitVec.toNat (1 : Byte) ∨ 1 < BitVec.toNat (3 : Byte)) ∧
      z116.cmdPasses ch 2304 [(1 : Byte), (3 : Byte)] [] ∧
      List.length (b256 64 : Bytes) = 64 ∧
      ((z116.cmdState ch 2306 ((b256 64 : Bytes) ++ parWord (0x40020000 : Word) ++ (b256 64 : Bytes) ++ (b256 64 : Bytes)) []).tp ch.tp).challenge = none) ∧
    (z116.cmdPasses ch 2307 [] [] ∧
      z116.cmdPasses ch 2308 (parWord (0x40020000 : Word) ++ parHalf (1 : Half)) [] ∧
      (z116.cmdState ch 2308 (parWord (0x40020000 : Word) ++ parHalf (1 : Half)) []).regRefusal (z116.cmdHdr ch 2308 (parWord (0x40020000 : Word) ++ parHalf (1 : Half)) []) (BitVec.toNat (0x40020000 : Word)) (BitVec.toNat (1 : Half)) = none ∧
      (z116.cmdState ch 2308 (parWord (0x40020000 : Word) ++ parHalf (1 : Half)) []).hcpWaits (z116.cmdHdr ch 2308 (parWord (0x40020000 : Word) ++ parHalf (1 : Half)) [], 2308, BitVec.toNat (0x40020000 : Word), BitVec.toNat (1 : Half), []) = false ∧
      (∃ m ∈ List.find? (fun m => m.seq == (z116.cmdHdr ch 256 [] []).seq && m.crc == (z116.cmdHdr ch 256 [] []).crc) ((z116.hostUse ch.tp).tp ch.tp).memory, m.reply = none)) ∧
    (fclose.cmdPasses ch 2309 (parWord (0x40020000 : Word) ++ parHalf (1 : Half)) (List.flatMap parWord ([0x101] : List Word)) ∧
      ([0x101] : List Word).length = BitVec.toNat (1 : Half) ∧
      fclose.cmdNew ch 2311 (parWord (0x40020000 : Word)) [] ∧
      fclose.cmdPasses ch 2308 (parWord (0x40020000 : Word) ++ parHalf (1 : Half)) [] ∧
      ((fclose.cmdState ch 2309 (parWord (0x40020000 : Word) ++ parHalf (1 : Half)) (List.flatMap parWord ([0x101] : List Word))).regRefusal (fclose.cmdHdr ch 2309 (parWord (0x40020000 : Word) ++ parHalf (1 : Half)) (List.flatMap parWord ([0x101] : List Word))) (BitVec.toNat (0x40020000 : Word)) (BitVec.toNat (1 : Half))).isSome = true ∧
      (∃ st ∈ (((fclose.hostUse ch.tp).takeSlot ch.tp).memorise (fclose.cmdHdr ch 2311 (parWord (0x40020000 : Word)) [])).hcpRefusal (fclose.cmdHdr ch 2311 (parWord (0x40020000 : Word)) []) 2311 (parWord (0x40020000 : Word)) [], st ≠ Status.busy) ∧
      ((fclose.cmdState ch 2308 (parWord (0x40020000 : Word) ++ parHalf (1 : Half)) []).regRefusal (fclose.cmdHdr ch 2308 (parWord (0x40020000 : Word) ++ parHalf (1 : Half)) []) (BitVec.toNat (0x40020000 : Word)) (BitVec.toNat (1 : Half))).isSome = true) ∧
    (hst.cmdPasses ch 1794 (parWord (0x40020000 : Word) ++ parWord (100000000 : Word)) [] ∧
      99999999 < BitVec.toNat (100000000 : Word) ∧
      hst.cmdPasses ch 1797 ([(4 : Byte)] ++ leBytes 8 (5 : BitVec 64).toNat ++ [(0 : Byte)]) [] ∧
      (1 < BitVec.toNat (4 : Byte) ∨ 3 < BitVec.toNat (0 : Byte))) ∧
    (z119.serves ch.tp = true ∧
      ch.seq ≠ 65535#16 ∧
      (∃ m ∈ List.find? (fun m => m.seq == (z119.cmdHdr ch 256 [] []).seq && m.crc == (z119.cmdHdr ch 256 [] []).crc) ((z119.hostUse ch.tp).tp ch.tp).memory, ∃ q ∈ m.reply, True)) ∧
    (run0.serves ch.tp = false) ∧
    (ddis.cmdNew ch 2312 [(1 : Byte)] [] ∧
      (((ddis.hostUse ch.tp).takeSlot ch.tp).memorise (ddis.cmdHdr ch 2312 [(1 : Byte)] [])).debugDisabled = true) := by
  refine ⟨?_, ?_, ?_, ?_, ?_, ?_, ?_, ?_, ?_⟩
  · decide +kernel  -- 10.2.2, 11, 12.3, 14.1, 15, 16.1, 17, 18.1.1, 19.1.1, 2.1, 20.2, 5, 7.1, 8, 9.2.2.1
  · decide +kernel  -- same
  · decide +kernel  -- same
  · decide +kernel  -- same
  · decide +kernel  -- 10.1, 3, 9.1
  · decide +kernel  -- 16.2, 19.2
  · decide +kernel  -- 2.2
  · decide +kernel  -- 1
  · decide +kernel  -- 13

end HcpT

namespace More
def tg (st : Nat) : State := fs (pw run0 fun p => {p with vbak := true}) [(F.CTL_CFG_MODE,0,1),(F.CTL_STAT_FIELD,0,1),(F.CTL_STAT_TAG_STATE,0,st)]
def tk : Bytes := b256 16
def nr : Bytes := zeros 16
def nt : Bytes := b256 16
def wes : TagSession := smKeys tk nr nt
def sec (s : State) : State := s.onCtl fun c => {c with session := some wes}
def dz (s : State) : State := s.setFld F.SYSCTL_PSTATE_CUR 2
def env0 : BootEnv := {}
def rdr (p : RdPhase) : Reader := { phase := p, uid := [1,2,3], sel := [4,5,6,7] }
def road (s : State) : State := s.setFld F.SYSCTL_PSTATE_ROADSIDE 1
def fc (op : Nat) (off : Nat := 0x8000) (n : Nat := 2) : FlcCmd := { tag := 3, op, nwords := n, offset := off, data := List.replicate 8 0x12345678#32, src := 0x20001000, req := .firmware }
def fb (s : State) : State := s.setFld F.FLC_PART_B 16 0
def F0 (s : State) (f : FlcState → FlcState) : State := s.onFlc f
def mreq (a : List Action) : State := (mil rad a).onMsu fun u => {u with ms := [(5,{actions := a, request := some 0, ready := some 0})]}
def nq (s : State) : State := s.setTp .uart {}
def authed (op : Nat) (p d : Bytes) : CmdHead :=
  let q := (⟨.hport, 5, some (1, 0)⟩ : CmdHead).pkt op p d
  ⟨.hport, 5, some (1, BitVec.ofNat 64 (beNat ((cmac (b256 16) (pktHead q ++ q.par.take (p.length + 4) ++ d)).take 8)))⟩
def ses2 : State := (hst.setTp .hport { hst.tp .hport with session := some ⟨b256 16, 2, 0, 0, 0⟩ }).onOtp fun o => {o with bits := [(14, 0x1C0)]}
def hup : State := pw up0 fun p => { p with up := true }
def used (s : State) : State := s.setFld F.SYSCTL_CORE_EN_EN 0x100
def moving2 (s : State) : State := (s.onRf fun r => {r with loTemp := [(0,20),(1,20)], temp := 20})
def peerUp (s : State) : State := s.setFld F.LP_PEERINFO_UPSTREAM 1 0
def wr (s : State) (k : Nat) : State := { s with tmr := { s.tmr with due := [k] } }
def openHeld : State := fs ((mil hst []).onMsu fun u => {u with ms := [(5,{tp := some .hport}),(6,{actions := [{act 1 1 0 0 with w0 := 0x10060001}]})]}) [(F.MSU_MS_STAT_STATE,6,1)]
def z1 : State := g core 0 2 0x21080000#32
def z16 : State := nq (bytes1 (fs refs [(F.PMB_STAT_VACK,0,160)] |>.setRest 1))
def z17 : State := (pw (run0.setExch .wurx true) fun p => {p with wurxSync := true})
def z18 : State := nq (bytes1 ((run0.setRest 2).setFld F.MSU_MS_STAT_STATE 1))
def z19 : State := bytes1 (hibReady.setRest 3)
def z20 : State := bytes1 (pw ((dozeReady.setFld F.MSU_MS_STAT_STATE 1 3).setRest 2) fun p => {p with ready := false})
def z21 : State := bytes1 (pw (dozeReady.setRest 2) fun p => {p with ready := false})
def z22 : State := bytes1 (dozeReady.setRest 2)
def z55 : State := (mil rad []).onMsu fun u => {u with ms := [(5,{ready := some 0})]}
def z60 : State := fs (mreq [act 2 0 0x20000000 64]) [(F.MSU_MS_STAT_STATE,5,2)]
def z63 : State := mreq [act 1 3 0xFFFF 0xFF]
def z65 : State := ln (lst lpCheck) fun x => {x with train := some 1}
def z74 : State := ln (lst lpDetect) fun x => {x with announceAt := some 0}
def z77 : State := fs (peerUp up0) [(F.LP_STAT_TIME_MASTER,0,1)]
def z78 : State := ln (fs (lst lpDetect) [(F.LP_WAKECFG_WAKE_TRIES,0,1)]) fun x => {x with wakes := 1}
def z85 : State := fs (lst lpDetect) [(F.LP_CFG_ROLE,0,1),(F.LP_CFG_ROLE,1,1),(F.LP_STAT_STATE,1,9)]
def z86 : State := ln (peerUp up0) fun x => {x with sync := some (5,⟨1,2,3⟩,⟨1,2,3⟩), t3 := some ⟨1,2,3⟩}
def z87 : State := lst lpDetect
def z88 : State := ln (fs (lst lpDetect) [(F.LP_WAKECFG_WAKE_TRIES,0,3)]) fun x => {x with wakes := 1}
def z110 : State := run0.setFld F.RTC_STAT_CAP_BUSY 1
def z111 : State := used hup
def z114 : State := road hst
def z121 : State := hst.onHcp fun h => {h with taken := [(0,99)]}
def z130 : State := fs ((mil hst []).onMsu fun u => {u with ms := [(5,{tp := some .hport})]}) [(F.MSU_MS_STAT_STATE,5,3)]
def z190 : State := F0 (fs armed [(F.FLC_PART_B,0,8),(F.FLC_PART_BLANK,0,0)]) fun f => {f with queue := [fc 2 0x800000], modes := [(128,1)]}
def z191 : State := fb (armed.setFld F.SYSCTL_PSTATE_CUR 1)
def z192 : State := F0 (fb armed) fun f => {f with queue := [fc 2 0x8800]}
def z211 : State := dz (sec (tg 5))
def z212 : State := dz (tg 4)
def z226 : State := run0.onCtl fun c => {c with reader := some (rdr (.wupa 218))}
def z227 : State := run0.onCtl fun c => {c with reader := some (rdr (.wupa 0))}

theorem witness_AtomicOps :
    (z1.coreReady (0 : CoreNo) ∧
      BitVec.toNat ((z1.coreFetched (0 : CoreNo)).gpr (pairOf (0 : CoreNo).val) (BitVec.toNat (2 : RegF))) % 4 = 0 ∧
      (z1.coreFetched (0 : CoreNo)).cleanAt (pairOf (0 : CoreNo).val) (BitVec.toNat ((z1.coreFetched (0 : CoreNo)).gpr (pairOf (0 : CoreNo).val) (BitVec.toNat (2 : RegF)))) ∧
      (clusterOfWho (pairOf (0 : CoreNo).val) = 0 ∨ inScratch (BitVec.toNat ((z1.coreFetched (0 : CoreNo)).gpr (pairOf (0 : CoreNo).val) (BitVec.toNat (2 : RegF)))) = true ∨ (z1.coreFetched (0 : CoreNo)).userMem (clusterOfWho (pairOf (0 : CoreNo).val)) (BitVec.toNat ((z1.coreFetched (0 : CoreNo)).gpr (pairOf (0 : CoreNo).val) (BitVec.toNat (2 : RegF)))) 4 = true)) := by
  decide +kernel

theorem witness_PowerStates :
    (z16.sysOn = true ∧
      z16.noExch = true ∧
      z16.hcp.jobs = [] ∧
      z16.replying = false ∧
      z16.inRoadside = false ∧
      z16.pwr.flush = none ∧
      z16.pwr.entry = none ∧
      z16.level = 0 ∧
      z16.pllLocks = true ∧
      z16.restState = 1) ∧
    (z16.restState ≠ 2 ∧
      z16.restState ≠ 3 ∧
      z16.pwr.wurxSync = false) ∧
    ((z17.noExch = false ∨ z17.hcp.jobs ≠ [] ∨ z17.replying = true) ∧
      z17.pwr.wurxSync = true) ∧
    (z18.sysOn = true ∧
      z18.noExch = true ∧
      z18.hcp.jobs = [] ∧
      z18.replying = false ∧
      z18.inRoadside = false ∧
      z18.pwr.flush = none ∧
      z18.pwr.entry = none ∧
      z18.restState = 2 ∧
      z18.mileState 0 ≠ 0) ∧
    (z19.pwr.ready = true ∧
      z19.entryClear = true ∧
      z19.pwr.flush = none ∧
      z19.pwr.entry = some 3 ∧
      z19.restState = 3 ∧
      z19.journalDirty = false) ∧
    (z20.pwr.entry.isSome = true ∧
      z20.entryClear = false) ∧
    (z21.pwr.entry = some 2 ∧
      z21.pwr.ready = false ∧
      z21.entryClear = true ∧
      z21.pwr.flush = none) ∧
    (z22.pwr.ready = true ∧
      z22.entryClear = true ∧
      z22.pwr.flush = none ∧
      z22.pwr.entry = some 2 ∧
      z22.restState = 2) := by
  refine ⟨?_, ?_, ?_, ?_, ?_, ?_, ?_, ?_⟩
  · decide +kernel  -- 10[1], 10[2], 11, 2.1, 6, 7, 8
  · decide +kernel  -- same
  · decide +kernel  -- 1, 9
  · decide +kernel  -- 2.2
  · decide +kernel  -- 5.2
  · decide +kernel  -- 4
  · decide +kernel  -- 3
  · decide +kernel  -- 5.1

theorem witness_MilestonesOpenAndAdd_more :
    (z55.sysOn = true ∧
      z55.forCl0 (0 : Who) ∧
      z55.mile (5 : BitVec 6).toNat = some ({ready := some 0} : Milestone) ∧
      z55.mileUsable 0 none (5 : BitVec 6).toNat = true ∧
      ({ready := some 0} : Milestone).actions.length < 16 ∧
      (∀ a ∈ ({ready := some 0} : Milestone).actions, a.claimed = none) ∧
      (0 : BitVec 6) = 0 ∧
      BitVec.toNat (3 : Half) < 256 ∧
      (0 : Word) = 0 ∧
      z55.chOwner (BitVec.toNat (3 : Half)) = 0) ∧
    (z55.commitHead = some (5 : BitVec 6).toNat) ∧
    ((∀ (x : Nat × Nat), z55.holders (5 : BitVec 6).toNat x = [])) := by
  refine ⟨?_, ?_, ?_⟩
  · decide +kernel  -- 2.1.5, 2.5
  · decide +kernel  -- same
  · intros; first | rfl | contradiction  -- 2.1.5, 2.5

theorem witness_MilestonesCommit_more :
    (z60.sysOn = true ∧
      z60.mile (5 : Fin 64).val = some (((fs (mreq [act 2 0 0x20000000 64]) [(F.MSU_MS_STAT_STATE,5,2)]).mile 5).getD {} : Milestone) ∧
      (((fs (mreq [act 2 0 0x20000000 64]) [(F.MSU_MS_STAT_STATE,5,2)]).mile 5).getD {} : Milestone).request.isSome = true ∧
      (z60.mileState (5 : Fin 64).val = 1 ∨ z60.mileState (5 : Fin 64).val = 2) ∧
      z60.mileHeld ((5 : Fin 64).val) (((fs (mreq [act 2 0 0x20000000 64]) [(F.MSU_MS_STAT_STATE,5,2)]).mile 5).getD {} : Milestone) = false ∧
      (((fs (mreq [act 2 0 0x20000000 64]) [(F.MSU_MS_STAT_STATE,5,2)]).mile 5).getD {} : Milestone).ctx = none ∧
      z60.commitHead = some (5 : Fin 64).val ∧
      ((((fs (mreq [act 2 0 0x20000000 64]) [(F.MSU_MS_STAT_STATE,5,2)]).mile 5).getD {} : Milestone).actions).length = 1 ∧
      z60.mileState (5 : Fin 64).val = 2 ∧
      (z60.mileOwner (5 : Fin 64).val = 3 ∨ z60.commitHead = some (5 : Fin 64).val)) ∧
    ((∃ a ∈ ((((fs (mreq [act 2 0 0x20000000 64]) [(F.MSU_MS_STAT_STATE,5,2)]).mile 5).getD {} : Milestone).actions).head?, a.kind = 2)) ∧
    (z63.sysOn = true ∧
      z63.mile (5 : Fin 64).val = some (((mreq [act 1 3 0xFFFF 0xFF]).mile 5).getD {} : Milestone) ∧
      (((mreq [act 1 3 0xFFFF 0xFF]).mile 5).getD {} : Milestone).request.isSome = true ∧
      (z63.mileState (5 : Fin 64).val = 1 ∨ z63.mileState (5 : Fin 64).val = 2) ∧
      z63.mileHeld ((5 : Fin 64).val) (((mreq [act 1 3 0xFFFF 0xFF]).mile 5).getD {} : Milestone) = false ∧
      (((mreq [act 1 3 0xFFFF 0xFF]).mile 5).getD {} : Milestone).ctx = none ∧
      z63.commitHead = some (5 : Fin 64).val ∧
      (((mreq [act 1 3 0xFFFF 0xFF]).mile 5).getD {} : Milestone).actions ≠ [] ∧
      (∀ a ∈ (((mreq [act 1 3 0xFFFF 0xFF]).mile 5).getD {} : Milestone).actions, a.kind = 1)) := by
  refine ⟨?_, ?_, ?_⟩
  · decide +kernel  -- 1.1.2, 3
  · decide +kernel  -- same
  · decide +kernel  -- 1.1.1

theorem witness_LineBringUp_more :
    (z65.sysOn = true ∧
      z65.lpState (0 : Fin 2).val = lpCheck ∧
      (z65.line (0 : Fin 2).val).passed = none ∧
      (z65.line (0 : Fin 2).val).peerPassed = none ∧
      (z65.line (0 : Fin 2).val).train ≠ none ∧
      (∃ n ∈ (z65.line (0 : Fin 2).val).train, n ≤ 2)) ∧
    (z74.sysOn = true ∧
      z74.lpState (0 : Fin 2).val = lpDetect ∧
      (z74.line (0 : Fin 2).val).train = none ∧
      z74.announcing (0 : Fin 2).val = true) := by
  refine ⟨?_, ?_⟩
  · decide +kernel  -- 2, 5.1, 5.2.1, 5.2.2, 5.2.3
  · decide +kernel  -- 1.2

theorem witness_LineTraffic_more :
    (z77.sysOn = true ∧
      z77.timeOn ((0 : Fin 2).val) true = true) ∧
    (z78.sysOn = true ∧
      (z78.lpState (0 : Fin 2).val = lpDetect ∨ lpHalfM ≤ z78.lpState (0 : Fin 2).val ∧ z78.lpState (0 : Fin 2).val ≤ lpCheck) ∧
      0 < (z78.line (0 : Fin 2).val).wakes ∧
      Nat.max 1 (z78.inFld F.LP_WAKECFG_WAKE_TRIES (0 : Fin 2).val) ≤ (z78.line (0 : Fin 2).val).wakes ∧
      (z78.lpState (0 : Fin 2).val = lpDetect ∨ z78.lpState (0 : Fin 2).val = lpQuiet) ∧
      (∃ b ∈ parseBlock ([] : Bytes), b.linkLocal = true)) ∧
    (z85.sysOn = true ∧
      (z85.lpState (0 : Fin 2).val = lpDetect ∨ z85.lpState (0 : Fin 2).val = lpQuiet) ∧
      z85.lpRole (0 : Fin 2).val = 1 ∧
      z85.lpRole (1 - (0 : Fin 2).val) = 1 ∧
      z85.lpState (1 - (0 : Fin 2).val) = lpUpState ∧
      (z85.line (1 - (0 : Fin 2).val)).fwd.length < 64 ∧
      (∃ b ∈ parseBlock (blockBytes ({blk 5 [1,2] with hops := 9, addr := 0xFFFFFFFF}) : Bytes), b.typ = 5 ∧ z85.takenOnly b = false ∧ 1 ≤ b.hops)) ∧
    (z86.sysOn = true ∧
      z86.timeOn ((0 : Fin 2).val) false = true ∧
      z86.lineSource (0 : Fin 2).val = false ∧
      (∃ a ∈ (z86.line (0 : Fin 2).val).sync, ∃ c ∈ (z86.line (0 : Fin 2).val).t3, True)) ∧
    (z87.sysOn = true ∧
      (z87.lpState (0 : Fin 2).val = lpDetect ∨ z87.lpState (0 : Fin 2).val = lpQuiet) ∧
      (∃ b ∈ parseBlock (blockBytes (blk 7 [1,2]) : Bytes), b.typ ≠ 5 ∧ b.linkLocal = false)) ∧
    (z87.sysOn = true ∧
      (z87.lpState (0 : Fin 2).val = lpDetect ∨ z87.lpState (0 : Fin 2).val = lpQuiet) ∧
      parseBlock ([1,2,3] : Bytes) = none) ∧
    (z88.sysOn = true ∧
      (z88.lpState (0 : Fin 2).val = lpDetect ∨ lpHalfM ≤ z88.lpState (0 : Fin 2).val ∧ z88.lpState (0 : Fin 2).val ≤ lpCheck) ∧
      0 < (z88.line (0 : Fin 2).val).wakes ∧
      (z88.line (0 : Fin 2).val).wakes < Nat.max 1 (z88.inFld F.LP_WAKECFG_WAKE_TRIES (0 : Fin 2).val)) := by
  refine ⟨?_, ?_, ?_, ?_, ?_, ?_, ?_⟩
  · decide +kernel  -- 9.1, 9.2
  · decide +kernel  -- 5.2, 6.2.4
  · decide +kernel  -- 6.2.2
  · decide +kernel  -- 10.2
  · decide +kernel  -- 6.2.3
  · decide +kernel  -- 6.1
  · decide +kernel  -- 5.1

theorem witness_ClockAndEvents_more :
    (z110.hcp.rtc = [] ∧
      z110.flag F.RTC_STAT_CAP_BUSY = true) := by
  decide +kernel

theorem witness_HcpSystem :
    (z111.cmdPasses cl0 256 [] [] ∧
      z111.cmdPasses cl0 265 ([(1 : Byte), (4 : Byte)] ++ []) ([1,2,3,4] : Bytes) ∧
      ((1 : Byte) = 1#8 ∨ (1 : Byte) = 2#8) ∧
      (z111.cmdState cl0 265 ([(1 : Byte), (4 : Byte)] ++ []) ([1,2,3,4] : Bytes)).hcp.calls = [] ∧
      ((((z111.cmdState cl0 265 ([(1 : Byte), (4 : Byte)] ++ []) ([1,2,3,4] : Bytes)).accept (z111.cmdHdr cl0 265 ([(1 : Byte), (4 : Byte)] ++ []) ([1,2,3,4] : Bytes)) 265 (BitVec.toNat (1 : Byte)) ([(1 : Byte), (4 : Byte)] ++ []) ([1,2,3,4] : Bytes)).onHcp fun x => { x with calls := x.calls ++ [((z111.cmdState cl0 265 ([(1 : Byte), (4 : Byte)] ++ []) ([1,2,3,4] : Bytes)).hcp.nextJob, BitVec.toNat (1 : Byte), BitVec.toNat (4 : Byte))] }).raiseTo 0).userOn = true ∧
      z111.cmdPasses cl0 266 [(1 : Byte), (4 : Byte)] [] ∧
      BitVec.toNat (1 : Byte) ≤ 3 ∧
      z111.cmdPasses cl0 257 [] [] ∧
      z111.cmdPasses cl0 258 [(1 : Byte)] [] ∧
      BitVec.toNat (1 : Byte) ≤ (z111.cmdState cl0 258 [(1 : Byte)] []).floorNow) ∧
    ((z111.cmdState cl0 258 [(1 : Byte)] []).inRoadside = false ∧
      z111.cmdPasses cl0 259 [(1 : Byte)] [] ∧
      BitVec.toNat (1 : Byte) ≤ 2 ∧
      z111.cmdPasses cl0 261 [(1 : Byte)] [] ∧
      BitVec.toNat (1 : Byte) ≤ 32 ∧
      ((z111.cmdState cl0 261 [(1 : Byte)] []).flag F.SYSCTL_BOOTSTAT_TRIAL = true ∨ (z111.cmdState cl0 261 [(1 : Byte)] []).runVersion < BitVec.toNat (1 : Byte) ∨ (z111.cmdState cl0 261 [(1 : Byte)] []).vinGood = false ∨ (z111.cmdState cl0 261 [(1 : Byte)] []).otp.run.isSome = true) ∧
      z111.cmdPasses cl0 262 (parHalf (5 : Half)) [] ∧
      (List.find? (fun e => e.snd.hdr.tp == cl0.tp && e.snd.hdr.seq == BitVec.toNat (5 : Half) && !e.snd.isOwn) (z111.cmdState cl0 262 (parHalf (5 : Half)) []).hcp.jobs) = none) ∧
    (z114.cmdPasses ch 258 [(1 : Byte)] [] ∧
      BitVec.toNat (1 : Byte) ≤ 3 ∧
      BitVec.toNat (1 : Byte) ≤ (z114.cmdState ch 258 [(1 : Byte)] []).floorNow ∧
      (z114.cmdState ch 258 [(1 : Byte)] []).inRoadside = true ∧
      z114.cmdPasses ch 260 ([(1 : Byte)] ++ parWord (0x424C4F57 : Word)) [] ∧
      (0x424C4F57 : Word) = 1112297303#32 ∧
      (z114.cmdState ch 260 ([(1 : Byte)] ++ parWord (0x424C4F57 : Word)) []).fuseOk (BitVec.toNat (1 : Byte)) = false) := by
  refine ⟨?_, ?_, ?_⟩
  · decide +kernel  -- 1, 10[1].1.1, 10[1].1.2, 10[1].2[1][1], 11.1, 2, 3.3, 4.1, 6.2, 7.1
  · decide +kernel  -- same
  · decide +kernel  -- 3.4, 5.2

theorem witness_HcpDiagnosticAndTime_more :
    (ses2.cmdPasses (authed 0x0908 [1] [] : CmdHead) 2312 [(1 : Byte)] [] ∧
      (ses2.cmdState (authed 0x0908 [1] [] : CmdHead) 2312 [(1 : Byte)] []).security ≠ 0 ∧
      (ses2.cmdState (authed 0x0908 [1] [] : CmdHead) 2312 [(1 : Byte)] []).hasScope (ses2.cmdHdr (authed 0x0908 [1] [] : CmdHead) 2312 [(1 : Byte)] []) 0 = false) ∧
    (z121.serves ch.tp = true ∧
      ch.seq ≠ 65535#16 ∧
      List.find? (fun m => m.seq == (z121.cmdHdr ch 256 [] []).seq && m.crc == (z121.cmdHdr ch 256 [] []).crc) ((z121.hostUse ch.tp).tp ch.tp).memory = none ∧
      (z121.hostUse ch.tp).takesCmd ch.tp = false) ∧
    (z114.cmdPasses ch 2311 (parWord (0x52534944 : Word)) [] ∧
      (0x52534944 : Word) = 1381189956#32 ∧
      (z114.cmdState ch 2311 (parWord (0x52534944 : Word)) []).inRoadside = true) := by
  refine ⟨?_, ?_, ?_⟩
  · decide +kernel  -- 14.2
  · decide +kernel  -- 4
  · decide +kernel  -- 12.2

theorem witness_HcpRadioFrameLine_more :
    (hst.cmdPasses ch 769 ([(0x81 : Byte), (0 : Byte)] ++ kw0) [] ∧
      (0x81 : Byte) = 129#8 ∧
      (0 : Byte) = 0#8) := by
  decide +kernel

theorem witness_HcpMilestoneFlashTag_more :
    (openHeld.cmdPasses ch 1541 [(5 : Byte)] [] ∧
      2 < BitVec.toNat (5 : Byte) ∧
      openHeld.cmdPasses ch 1542 [(5 : Byte)] [] ∧
      4 ≤ BitVec.toNat (5 : Byte) ∧
      BitVec.toNat (5 : Byte) ≤ 16 ∧
      psSetMaj ((openHeld.cmdState ch 1542 [(5 : Byte)] []).rowBits 7) = false ∧
      (openHeld.cmdState ch 1542 [(5 : Byte)] []).closed = false ∧
      (openHeld.cmdState ch 1542 [(5 : Byte)] []).vinGood = true ∧
      (openHeld.cmdState ch 1542 [(5 : Byte)] []).otp.run = none ∧
      openHeld.cmdPasses ch 2049 [(5 : Byte)] []) ∧
    (3 < BitVec.toNat (5 : Byte) ∧
      openHeld.cmdPasses ch 2050 (parHalf (16 : Half) ++ parHalf (16 : Half)) [] ∧
      tagSpan (BitVec.toNat (16 : Half)) (BitVec.toNat (16 : Half)) = none ∧
      ((openHeld.cmdState ch 2050 (parHalf (16 : Half) ++ parHalf (16 : Half)) []).checkTags (BitVec.toNat (16 : Half)) (BitVec.toNat (16 : Half))).1 = true ∧
      openHeld.cmdPasses ch 2051 (parHalf (16 : Half)) ([1,2,3,4] : Bytes) ∧
      tagSpan (BitVec.toNat (16 : Half)) (List.length ([1,2,3,4] : Bytes)) = none ∧
      ((openHeld.cmdState ch 2051 (parHalf (16 : Half)) ([1,2,3,4] : Bytes)).checkWords (edgeWords (BitVec.toNat (16 : Half)) (List.length ([1,2,3,4] : Bytes)))).1 = true ∧
      openHeld.cmdPasses ch 1282 ([(5 : Byte)] ++ (parWord (0x10050001 : Word) ++ parWord (1 : Word) ++ parWord (0 : Word) ++ parWord (0 : Word))) [] ∧
      (openHeld.cmdState ch 1282 ([(5 : Byte)] ++ (parWord (0x10050001 : Word) ++ parWord (1 : Word) ++ parWord (0 : Word) ++ parWord (0 : Word))) []).mileDenied ch.tp (BitVec.toNat (5 : Byte)) = none ∧
      bits (BitVec.toNat (0x10050001 : Word)) 21 16 = BitVec.toNat (5 : Byte)) ∧
    (((openHeld.cmdState ch 1282 ([(5 : Byte)] ++ (parWord (0x10050001 : Word) ++ parWord (1 : Word) ++ parWord (0 : Word) ++ parWord (0 : Word))) []).msuAdd 0 (some ch.tp) (0x10050001 : Word) (1 : Word) (0 : Word) (0 : Word)).1.err = 0 ∧
      openHeld.cmdPasses ch 1283 [(5 : Byte)] [] ∧
      (openHeld.cmdState ch 1283 [(5 : Byte)] []).mileDenied ch.tp (BitVec.toNat (5 : Byte)) = none ∧
      (openHeld.cmdState ch 1283 [(5 : Byte)] []).mileState (BitVec.toNat (5 : Byte)) = 1 ∧
      openHeld.cmdPasses ch 1284 [(5 : Byte)] [] ∧
      (openHeld.cmdState ch 1284 [(5 : Byte)] []).mileDenied ch.tp (BitVec.toNat (5 : Byte)) = none ∧
      (openHeld.cmdState ch 1284 [(5 : Byte)] []).abortable (BitVec.toNat (5 : Byte)) = true ∧
      (∃ m ∈ (openHeld.cmdState ch 1283 [(5 : Byte)] []).mile (BitVec.toNat (5 : Byte)), m.request = none)) ∧
    (z130.cmdPasses ch 1284 [(5 : Byte)] [] ∧
      (z130.cmdState ch 1284 [(5 : Byte)] []).mileDenied ch.tp (BitVec.toNat (5 : Byte)) = none ∧
      (z130.cmdState ch 1284 [(5 : Byte)] []).abortable (BitVec.toNat (5 : Byte)) = false) := by
  refine ⟨?_, ?_, ?_, ?_⟩
  · decide +kernel  -- 10.4, 11.1, 12.2, 13.1, 14.1, 2.2.1, 3.2, 4.1
  · decide +kernel  -- same
  · decide +kernel  -- same
  · decide +kernel  -- 4.2

theorem witness_FlashAndScrub_more :
    (z190.sysOn = true ∧
      z190.err.held = [] ∧
      z190.pwr.flush = none ∧
      (∃ c ∈ z190.flcPick true [] z190.flc.queue, z190.flcRefusal c.1 = none ∧ c.1.op = 2)) ∧
    (z191.sysOn = true ∧
      bankCluster (78 : Fin 80).val ≠ 0 ∧
      z191.userOn = false) ∧
    (z192.sysOn = true ∧
      z192.err.held = [] ∧
      z192.pwr.flush = none ∧
      (∃ c ∈ z192.flcPick true [] z192.flc.queue, ∃ code ∈ z192.flcRefusal c.1, True)) := by
  refine ⟨?_, ?_, ?_⟩
  · decide +kernel  -- 3.2.2
  · decide +kernel  -- 15
  · decide +kernel  -- 3.1

theorem witness_ContactlessTag_more :
    (z211.tagOn = true ∧
      z211.tagState = 5 ∧
      z211.tagCond ≤ 2 ∧
      (z211.ctl.session).isSome = true) ∧
    (z212.tagOn = true ∧
      z212.tagState = 4 ∧
      z212.tagCond ≤ 2 ∧
      List.length (zeros 8 : Bytes) = 8) := by
  refine ⟨?_, ?_⟩
  · decide +kernel  -- 8.7.1, 8.7.2, 8.7.3
  · decide +kernel  -- 8.6.1.1, 8.6.1.2, 8.6.4

theorem witness_ReaderAndErrors_more :
    (z226.sysOn = true ∧
      z226.ctlRuns = true ∧
      z226.scanTries ≤ 218 ∧
      (∃ r ∈ z226.ctl.reader, r.phase = RdPhase.wupa 218)) ∧
    (z227.sysOn = true ∧
      z227.ctlRuns = true ∧
      0 < z227.scanTries ∧
      (∃ r ∈ z227.ctl.reader, r.phase = RdPhase.wupa 0)) := by
  refine ⟨?_, ?_⟩
  · decide +kernel  -- 7.1[6].1, 7.1[6].3
  · decide +kernel  -- 7.1[1].1, 7.1[1].2

end More

namespace Later
def env0 : BootEnv := {}
def dbg : Who := Fin.ofNat _ 27
def dk (s : State) : State := s.onCore fun c => {c with debug := true}
def clo (s : State) : State := s.setFld F.OTP_FUSE_FACTORY_CLOSE 1
def tg (st : Nat) : State := fs (pw run0 fun p => {p with vbak := true}) [(F.CTL_CFG_MODE,0,1),(F.CTL_STAT_FIELD,0,1),(F.CTL_STAT_TAG_STATE,0,st)]
def fc (op : Nat) (off : Nat := 0x8000) (n : Nat := 2) : FlcCmd := { tag := 3, op, nwords := n, offset := off, data := List.replicate 8 0x12345678#32, src := 0x20001000, req := .firmware }
def fb (s : State) : State := s.setFld F.FLC_PART_B 16 0
def F0 (s : State) (f : FlcState → FlcState) : State := s.onFlc f
def D0 (s : State) (f : DmcState → DmcState) : State := s.onDmc f
def due (k : Nat) (s : State := run0) : State := s.onErr fun e => {e with wdtDue := [k]}
def E0 (s : State) (f : ErrState → ErrState) : State := s.onErr f
def lg (h : Bool) (a : Nat) : LogEntry := ⟨h,1,5,1,0,false,0,0,a,0⟩
def dt (s : State) (l : List Nat) : State := { s with tmr := { s.tmr with due := l } }
def upd1 (n : Option Nat) (g : Bool := true) : TabUpdate := { grown := g, add := some ⟨9,2,0,0xFF⟩, clear := none, req := .firmware, tag := 3, code := 0, lines := n }
def busyFl (s : State) : State := F0 (fb s) fun f => { f with programs := [(1, fc 1 0x8010)] }
def csn (s : State) (b : Bool) : State := s.onHcp fun h => {h with csnLow := true, served := !b, statusOn := b}
def entT : TxEntry := { (txOwn .cl0 868000000 (10^9) 0 0 1 0 20 (.buffer 0x20001000) false false false) with tag := 3, order := 7 }
def tight (s : State) : State := s.onTxp fun t => {t with timed := [{ entT with start := s.nt + s.leadTicks entT }], nextOrder := 9}
def dr : State := ((g core 0 2 0x80001000#32).setReg .DMC_DEV 0 0x00000000#32)
def drm : State := fs dr [(F.DMC_STAT_STATE,0,4),(F.DMC_STAT_READY,0,1),(F.DMC_DEV_CAP,0,4)]
def z2 : State := g core 0 2 0x10000010#32
def z4 : State := core.onCore fun c => { c with cxUntil := [(0, 1000), (8, 1000)] }
def z5 : State := core.onCore fun c => { c with cxUntil := [(2, 1000)] }
def z14 : State := ((dk run0).onOtp fun o => {o with bits := [(14, 0x1C0)]}).onHcp fun h => {h with debugScope := some 1}
def z15 : State := (dk run0).onOtp fun o => {o with bits := [(14, 0x1C0)]}
def z32 : State := busyFl (due 1)
def z33 : State := due 3
def z34 : State := due 2
def z35 : State := due 1
def z36 : State := due 0
def z42 : State := pw (fs refs [(F.SYSCTL_PSTATE_CUR,0,2),(F.SYSCTL_CLKCFG_PLL_EN,0,1),(F.PMB_STAT_VACK,0,160),(F.SYSCTL_PSTATE_REST,0,1),(F.SYSCTL_CLKSTAT_PLL_LOCK,0,0),(F.SYSCTL_CLKSTAT_SRC_CUR,0,0)]) fun p => {p with waking := true}
def z43 : State := pw (flushing true) fun p => {p with vbak := true, pinFlush := true}
def z53 : State := (csn hst false).setTp .hport {queue := [{ flags := 1, opcode := 0x010A, seq := 5, par := [], data := [] }]} |>.onHcp fun h => {h with rateNext := [⟨0,5,3,0⟩]}
def z91 : State := (fs sch [(F.SCHED_Q_RATE_RATE,3,100),(F.SCHED_Q_BURST_BURST,3,64)]).setNt 5000
def z92 : State := run0.setNt 5000
def z93 : State := dt (per.setReg .TMR_COUNT 3 7) []
def z98 : State := fs run0 [(F.NTC_DISC_SRC,0,0)]
def z99 : State := fs run0 [(F.SYSCTL_CLKSTAT_SRC_CUR,0,0),(F.SYSCTL_CLKSTAT_XT32_GOOD,0,1)]
def z100 : State := dt (fs per [(F.TMR_TSTAT_EXP,3,1)]) [3]
def z101 : State := dk run0
def z117 : State := {hst with rtc := {hst.rtc with wr := some (.RTC_CTRL, 0, 1)}}.onHcp fun h => {h with rtc := [⟨⟨.hport,5,0,false,0,false⟩, 0x0704, [(.RTC_TIME,0,5)]⟩]}
def z118 : State := (fs hst [(F.DMC_STAT_STATE,0,3),(F.DMC_STAT_READY,0,1),(F.DMC_DEV_CAP,0,2)]).setReg .DMC_FILLPOS 0 0x80002000#32
def z120 : State := {hst with rtc := {hst.rtc with wr := some (.RTC_CTRL, 0, 0)}}.onHcp fun h => {h with rtc := [⟨⟨.hport,5,0,false,0,false⟩, 0x0704, []⟩]}
def z126 : State := (fb hst).onCtl fun c => {c with errs := [(0,2)]}
def z127 : State := (fb hst).onFlc fun f => {f with modes := (List.range 64).map fun i => (i,1)}
def z128 : State := busyFl hst
def z167 : State := tight (rad.setReg .TXP_RGN 0 0)
def z168 : State := tight (rad.onTxp fun t => {t with ledger := [(0, 100000000)]})
def z181 : State := E0 (F0 (fb armed) fun f => {f with page := some (fc 2), erase := some ⟨fc 3, 0, false, [], none⟩}) fun e => {e with held := [1]}
def z182 : State := F0 (fb armed) fun f => {f with queue := [fc 3, fc 1 0x8020], programs := [(flBank 0x8000, fc 1)]}
def z183 : State := F0 (fb armed) fun f => {f with grown := ⟨(List.range 6).map fun i => ⟨100+i,2,0,0xFF⟩, 3, 0⟩, updates := [upd1 (some 0)]}
def z186 : State := F0 (fb armed) fun f => {f with erase := some ⟨fc 3, 0, true, [], none⟩}
def z187 : State := F0 (fb armed) fun f => {f with queue := [fc 8]}
def z188 : State := F0 (fb armed) fun f => {f with updates := [upd1 (some 0)]}
def z189 : State := F0 (fb armed) fun f => {f with updates := [upd1 none]}
def z197 : State := D0 (fs run0 [(F.DMC_STAT_STATE,0,2)]) fun d => {d with since := some 0}
def z202 : State := D0 (fs run0 [(F.DMC_STAT_STATE,0,2)]) fun d => {d with sent := [1,2], region := some [1,2]}
def z208 : State := (tg 4).setReg .CTL_OPENRD 0 0xFFFFFFFF#32
def z222 : State := (E0 run0 fun e => {e with snapDue := true}).setFld F.PMB_VREQ_VTARGET 175
def z223 : State := busyFl (due 0)
def z228 : State := E0 run0 fun e => {e with log := [(3, lg false 0)], nextAge := 1, cycAge := 0}
def z229 : State := E0 run0 fun e => {e with log := [(3, lg false 0)], nextAge := 1, cycAge := 1, counted := [(3, 1, lg false 0)]}

theorem witness_AccessFaults_later :
    (drm.coreReady (0 : CoreNo) ∧
      (drm.coreFetched (0 : CoreNo)).dramReady = true ∧
      (drm.coreFetched (0 : CoreNo)).inDram (BitVec.toNat ((drm.coreFetched (0 : CoreNo)).gpr (pairOf (0 : CoreNo).val) (BitVec.toNat (2 : RegF)) + BitVec.signExtend 32 (0 : BitVec 15))) = true ∧
      (drm.coreFetched (0 : CoreNo)).memRight (pairOf (0 : CoreNo).val) (BitVec.toNat ((drm.coreFetched (0 : CoreNo)).gpr (pairOf (0 : CoreNo).val) (BitVec.toNat (2 : RegF)) + BitVec.signExtend 32 (0 : BitVec 15))) 4 = true ∧
      BitVec.toNat ((drm.coreFetched (0 : CoreNo)).gpr (pairOf (0 : CoreNo).val) (BitVec.toNat (2 : RegF)) + BitVec.signExtend 32 (0 : BitVec 15)) % 4 = 0) ∧
    (z2.coreReady (0 : CoreNo) ∧
      pairOf (0 : CoreNo).val = 0 ∧
      inScratch (BitVec.toNat ((z2.coreFetched (0 : CoreNo)).gpr (pairOf (0 : CoreNo).val) (BitVec.toNat (2 : RegF)) + BitVec.signExtend 32 (0 : BitVec 15))) = true ∧
      BitVec.toNat ((z2.coreFetched (0 : CoreNo)).gpr (pairOf (0 : CoreNo).val) (BitVec.toNat (2 : RegF)) + BitVec.signExtend 32 (0 : BitVec 15)) % 4 = 0 ∧
      (z2.coreFetched (0 : CoreNo)).cleanAt 0 (BitVec.toNat ((z2.coreFetched (0 : CoreNo)).gpr (pairOf (0 : CoreNo).val) (BitVec.toNat (2 : RegF)) + BitVec.signExtend 32 (0 : BitVec 15)))) := by
  refine ⟨?_, ?_⟩
  · decide +kernel  -- 8.1, 8.2
  · decide +kernel  -- 7

theorem witness_ControlRegisterMoves :
    (z4.coreReady (0 : CoreNo) ∧
      (z4.coreFetched (0 : CoreNo)).cxBusy (pairOf (0 : CoreNo).val) = false ∧
      Tab.getD (z4.coreFetched (0 : CoreNo)).sram.errs (RamWord.ucode (pairOf (0 : CoreNo).val / 8) ((z4.coreFetched (0 : CoreNo)).fld F.CORE_UCADDR_ADDR (pairOf (0 : CoreNo).val))).key 0 = 0 ∧
      (∃ e ∈ [(1#12, RegName.CORE_STATUS, 5#32), (6#12, RegName.CORE_IEN, 15#32), (8#12, RegName.CORE_FXMODE, 7#32), (5#12, RegName.CORE_HBASE, 4294966272#32)], True)) ∧
    (z5.coreReady (0 : CoreNo) ∧
      (z5.coreFetched (0 : CoreNo)).cxBusy (pairOf (0 : CoreNo).val) = true) := by
  refine ⟨?_, ?_⟩
  · decide +kernel  -- 1, 2, 3, 4, 6, 7
  · decide +kernel  -- 5

theorem witness_RegisterAccess :
    (z14.sysOn = true ∧
      inDbg (BitVec.toNat (0x40020000 : Word)) = false ∧
      z14.rights ↑dbg ≠ [] ∧
      z14.forCl0 dbg ∧
      ↑dbg = 27 ∧
      (regAt (z14.actsAs ↑dbg) (BitVec.toNat (0x40020000 : Word))).isSome = true) ∧
    (z15.sysOn = true ∧
      inDbg (BitVec.toNat (0x40020000 : Word)) = false ∧
      z15.rights ↑dbg ≠ [] ∧
      ↑dbg = 27 ∧
      ¬z15.forCl0 dbg ∧
      (∃ r ∈ regAt (z15.actsAs ↑dbg) (BitVec.toNat (0x40020000 : Word)), (∀ cl ∈ z15.rights ↑dbg, cl ≠ 0 ∧ z15.userReach cl r.1 r.2 true = false))) ∧
    (run0.sysOn = true ∧
      inDbg (BitVec.toNat (BitVec.ofNat 32 (regAddr .SCHED_PUSH0 0) : Word)) = false ∧
      run0.rights (8 : Who).val ≠ [] ∧
      (run0.rights (8 : Who).val).length = 1 ∧
      (∃ r ∈ regAt (run0.actsAs (8 : Who).val) (BitVec.toNat (BitVec.ofNat 32 (regAddr .SCHED_PUSH0 0) : Word)), ∃ cl ∈ (run0.rights (8 : Who).val).head?, run0.userReach cl r.1 r.2 true = true)) ∧
    (run0.rights ↑dbg = []) := by
  refine ⟨?_, ?_, ?_, ?_⟩
  · decide +kernel  -- 4.1, 5.1, 5.2
  · decide +kernel  -- 4.3, 5.3
  · decide +kernel  -- 4.2
  · decide +kernel  -- 2

theorem witness_Resets_later :
    (BitVec.toNat (255 : Byte) > rad.releaseLevel ∧
      rad.pwr.parked = false ∧
      0 < 2 ∧
      rad.inRoadside = false ∧
      rad.portEnabled 0 = true ∧
      rad.exc 0 = none ∧
      1 < 2 ∧
      rad.portEnabled 1 = true ∧
      rad.exc 1 = none ∧
      rad.pinResets = true) ∧
    (rad.err.held = [] ∧
      rad.pwr.flush = none) ∧
    (z32.sysOn = true ∧
      (Fin.ofNat 4 1).val ∈ z32.err.wdtDue ∧
      (Fin.ofNat 4 1).val < 2 ∧
      (((z32.setEnv ({} : BootEnv)).raise 2 35 (Fin.ofNat 4 1).val).onErr fun e => { e with wdtDue := List.filter (fun x => x != (Fin.ofNat 4 1).val) e.wdtDue }).resetHeld = true) ∧
    (z33.sysOn = true ∧
      (Fin.ofNat 4 3).val ∈ z33.err.wdtDue ∧
      (Fin.ofNat 4 3).val = 3) ∧
    (z34.sysOn = true ∧
      (Fin.ofNat 4 2).val ∈ z34.err.wdtDue ∧
      (Fin.ofNat 4 2).val = 2) ∧
    (z35.sysOn = true ∧
      (Fin.ofNat 4 1).val ∈ z35.err.wdtDue ∧
      (Fin.ofNat 4 1).val < 2 ∧
      (((z35.setEnv ({} : BootEnv)).raise 2 35 (Fin.ofNat 4 1).val).onErr fun e => { e with wdtDue := List.filter (fun x => x != (Fin.ofNat 4 1).val) e.wdtDue }).resetHeld = false) ∧
    (z36.sysOn = true ∧
      (Fin.ofNat 4 0).val ∈ z36.err.wdtDue ∧
      (Fin.ofNat 4 0).val < 2 ∧
      (((z36.setEnv ({} : BootEnv)).raise 2 35 (Fin.ofNat 4 0).val).onErr fun e => { e with wdtDue := List.filter (fun x => x != (Fin.ofNat 4 0).val) e.wdtDue }).resetHeld = false) := by
  refine ⟨?_, ?_, ?_, ?_, ?_, ?_, ?_⟩
  · decide +kernel  -- 5.2[1], 5.2[2], 7
  · decide +kernel  -- same
  · decide +kernel  -- 13[2].2
  · decide +kernel  -- 13[4].4
  · decide +kernel  -- 13[3].3
  · decide +kernel  -- 13[2].1
  · decide +kernel  -- 13[1].1

theorem witness_VoltageAndClocks_later :
    (z42.sysOn = true ∧
      z42.pllRuns = true ∧
      z42.pwr.waking = true) := by
  decide +kernel

theorem witness_LastMile :
    (z43.pwr.vbak = true ∧
      z43.pwr.pinFlush = true ∧
      (∃ f ∈ z43.pwr.flush, f.orderly = false ∧ f.sealed = true)) := by
  decide +kernel

theorem witness_Transports_later :
    (z53.hcp.csnLow = true ∧
      z53.hcp.served = true ∧
      (z53.hcp.rateNext).length = 1 ∧
      (∃ p ∈ ((z53.tp Tp.hport).queue).head?, ∃ r ∈ (z53.hcp.rateNext).head?, pktLen p ≤ BitVec.toNat (40 : Half) ∧ r.tp = 0 ∧ r.seq = p.seq ∧ p.opcode = 266)) := by
  decide +kernel

theorem witness_SchedulerCommands_later :
    (z91.sysOn = true ∧
      z91.nt / 1000 ≠ z91.sched.refilled ∧
      z91.schedRuns = true) ∧
    (z92.sysOn = true ∧
      z92.nt / 1000 ≠ z92.sched.refilled ∧
      z92.schedRuns = false) ∧
    (run0.sysOn = true ∧
      run0.regRight (↑dbg) RegName.SCHED_PUSH1 0 true = none) := by
  refine ⟨?_, ?_, ?_⟩
  · decide +kernel  -- 5
  · decide +kernel  -- 6
  · decide +kernel  -- 2

theorem witness_NetworkTimeAndTimers_later :
    (z93.sysOn = true ∧
      z93.flag F.TMR_TSTAT_RUNNING (3 : Fin 32).val = true ∧
      z93.tmrFrozen = false ∧
      z93.tmrLink (3 : Fin 32).val = 0 ∧
      z93.inFld F.TMR_CTRL_PRESC (3 : Fin 32).val = 0 ∧
      1 < BitVec.toNat (z93.reg RegName.TMR_COUNT (3 : Fin 32).val) ∧
      z93.forCl0 (0 : Who) ∧
      (3 : Fin 32).val < 16) ∧
    (z98.sysOn = true ∧
      z98.ntSrc = 0) ∧
    (z99.sysOn = true ∧
      z99.onPll = false ∧
      z99.flag F.SYSCTL_CLKSTAT_XT32_GOOD = true) ∧
    (z100.sysOn = true ∧
      z100.tmr.due.contains (3 : Fin 32).val = true) ∧
    (z101.sysOn = true ∧
      24 ≤ ↑dbg) := by
  refine ⟨?_, ?_, ?_, ?_, ?_⟩
  · decide +kernel  -- 12.1.1, 12.1.2, 4.9
  · decide +kernel  -- 5
  · decide +kernel  -- 8
  · decide +kernel  -- 14
  · decide +kernel  -- 3

theorem witness_HcpDiagnosticAndTime_later :
    (z117.cmdPasses ch 1796 (leBytes 8 (5 : BitVec 64).toNat) [] ∧
      (5 : BitVec 64).toNat < 2 ^ 56 ∧
      (z117.cmdState ch 1796 (leBytes 8 (5 : BitVec 64).toNat) []).rtc.wr.isSome = true ∧
      z117.cmdPasses ch 1797 ([(1 : Byte)] ++ leBytes 8 (5 : BitVec 64).toNat ++ [(1 : Byte)]) [] ∧
      BitVec.toNat (1 : Byte) ≤ 1 ∧
      BitVec.toNat (1 : Byte) ≤ 3 ∧
      (5 : BitVec 64).toNat % 256 ≤ 63 ∧
      (z117.cmdState ch 1797 ([(1 : Byte)] ++ leBytes 8 (5 : BitVec 64).toNat ++ [(1 : Byte)]) []).rtc.wr.isSome = true ∧
      z117.cmdPasses ch 1798 [(1 : Byte), (1 : Byte)] [] ∧
      (z117.cmdState ch 1798 [(1 : Byte), (1 : Byte)] []).rtc.wr.isSome = true) ∧
    (z117.level ≤ 1 ∧
      z117.flushing = false ∧
      (∃ o ∈ (z117.hcp.rtc).head?, ∃ r ∈ z117.rtc.wr, ∃ y ∈ (o.writes).head?, y.snd.snd ≠ 256#32)) ∧
    (z118.cmdPasses ch 2309 (parWord (0x80000100 : Word) ++ parHalf (1 : Half)) (List.flatMap parWord ([0x101] : List Word)) ∧
      ([0x101] : List Word).length = BitVec.toNat (1 : Half) ∧
      (z118.cmdState ch 2309 (parWord (0x80000100 : Word) ++ parHalf (1 : Half)) (List.flatMap parWord ([0x101] : List Word))).regRefusal (z118.cmdHdr ch 2309 (parWord (0x80000100 : Word) ++ parHalf (1 : Half)) (List.flatMap parWord ([0x101] : List Word))) (BitVec.toNat (0x80000100 : Word)) (BitVec.toNat (1 : Half)) = none ∧
      (z118.cmdState ch 2309 (parWord (0x80000100 : Word) ++ parHalf (1 : Half)) (List.flatMap parWord ([0x101] : List Word))).hcpWaits (z118.cmdHdr ch 2309 (parWord (0x80000100 : Word) ++ parHalf (1 : Half)) (List.flatMap parWord ([0x101] : List Word)), 2309, BitVec.toNat (0x80000100 : Word), BitVec.toNat (1 : Half), List.flatMap parWord ([0x101] : List Word)) = true ∧
      z118.cmdPasses ch 2308 (parWord (0x80000100 : Word) ++ parHalf (1 : Half)) [] ∧
      (z118.cmdState ch 2308 (parWord (0x80000100 : Word) ++ parHalf (1 : Half)) []).regRefusal (z118.cmdHdr ch 2308 (parWord (0x80000100 : Word) ++ parHalf (1 : Half)) []) (BitVec.toNat (0x80000100 : Word)) (BitVec.toNat (1 : Half)) = none ∧
      (z118.cmdState ch 2308 (parWord (0x80000100 : Word) ++ parHalf (1 : Half)) []).hcpWaits (z118.cmdHdr ch 2308 (parWord (0x80000100 : Word) ++ parHalf (1 : Half)) [], 2308, BitVec.toNat (0x80000100 : Word), BitVec.toNat (1 : Half), []) = true) ∧
    (z120.level ≤ 1 ∧
      z120.flushing = false ∧
      (z120.hcp.rtc).tail = [] ∧
      (∃ o ∈ (z120.hcp.rtc).head?, ∃ r ∈ z120.rtc.wr, o.writes = [] ∧ o.op ≠ 1795)) := by
  refine ⟨?_, ?_, ?_, ?_⟩
  · decide +kernel  -- 18.1.2, 19.1.2, 20.1.2, 21.1
  · decide +kernel  -- same
  · decide +kernel  -- 10.2.1, 9.2.1
  · decide +kernel  -- 21.2

theorem witness_HcpMilestoneFlashTag :
    (z126.cmdPasses ch 1281 [(0 : Byte)] [] ∧
      BitVec.toNat (0 : Byte) ≤ 1 ∧
      z126.cmdPasses ch 1541 [(0 : Byte)] [] ∧
      BitVec.toNat (0 : Byte) = 0 ∧
      z126.cmdPasses ch 2049 [(0 : Byte)] [] ∧
      BitVec.toNat (0 : Byte) ≤ 3 ∧
      z126.cmdPasses ch 2050 (parHalf (2 : Half) ++ parHalf (8 : Half)) [] ∧
      tagSpan (BitVec.toNat (2 : Half)) (BitVec.toNat (8 : Half)) = none ∧
      ((z126.cmdState ch 2050 (parHalf (2 : Half) ++ parHalf (8 : Half)) []).checkTags (BitVec.toNat (2 : Half)) (BitVec.toNat (8 : Half))).1 = false ∧
      z126.cmdPasses ch 2051 (parHalf (2 : Half)) ([1,2,3] : Bytes)) ∧
    (tagSpan (BitVec.toNat (2 : Half)) (List.length ([1,2,3] : Bytes)) = none ∧
      ((z126.cmdState ch 2051 (parHalf (2 : Half)) ([1,2,3] : Bytes)).checkWords (edgeWords (BitVec.toNat (2 : Half)) (List.length ([1,2,3] : Bytes)))).1 = false ∧
      z126.cmdPasses ch 2052 (parWord (0x08008000 : Word)) [] ∧
      z126.cmdPasses ch 1282 ([(0 : Byte)] ++ (parWord (0x08008000 : Word) ++ parWord (0 : Word) ++ parWord (0 : Word) ++ parWord (0 : Word))) [] ∧
      z126.cmdPasses ch 1283 [(0 : Byte)] [] ∧
      z126.cmdPasses ch 1284 [(0 : Byte)] [] ∧
      z126.cmdPasses ch 1285 [(0 : Byte)] [] ∧
      BitVec.toNat (0 : Byte) ≤ 63 ∧
      z126.cmdPasses ch 1537 (parWord (0x08008000 : Word) ++ parHalf (2 : Half)) [] ∧
      BitVec.toNat (2 : Half) ≤ 8192) ∧
    (flashBase ≤ BitVec.toNat (0x08008000 : Word) ∧
      (z126.cmdState ch 1537 (parWord (0x08008000 : Word) ++ parHalf (2 : Half)) []).flRegion (BitVec.toNat (0x08008000 : Word) - flashBase) ≠ 2 ∧
      ((2 : Half) ≠ 0#16 → (z126.cmdState ch 1537 (parWord (0x08008000 : Word) ++ parHalf (2 : Half)) []).flRegion (BitVec.toNat (0x08008000 : Word) - flashBase + BitVec.toNat (2 : Half) - 1) ≠ 2) ∧
      (z126.cmdState ch 1537 (parWord (0x08008000 : Word) ++ parHalf (2 : Half)) []).hcpWaits (z126.cmdHdr ch 1537 (parWord (0x08008000 : Word) ++ parHalf (2 : Half)) [], 1537, BitVec.toNat (0x08008000 : Word), BitVec.toNat (2 : Half), []) = false ∧
      z126.cmdPasses ch 1538 (parWord (0x08008000 : Word) ++ parWord (0 : Word)) ([1,2,3] : Bytes) ∧
      (0 : Word) = 0#32 ∧
      z126.cmdPasses ch 1539 (parWord (0x08008000 : Word) ++ [(0 : Byte)]) [] ∧
      flashBase + 32768 ≤ BitVec.toNat (0x08008000 : Word) ∧
      (z126.cmdState ch 1539 (parWord (0x08008000 : Word) ++ [(0 : Byte)]) []).flRegion (BitVec.toNat (0x08008000 : Word) - flashBase) = BitVec.toNat (0 : Byte) ∧
      (BitVec.toNat (0 : Byte) = 0 → (BitVec.toNat (0x08008000 : Word) - flashBase) % 4096 = 0)) ∧
    ((BitVec.toNat (0 : Byte) = 1 → (BitVec.toNat (0x08008000 : Word) - flashBase - (z126.cmdState ch 1539 (parWord (0x08008000 : Word) ++ [(0 : Byte)]) []).partB * 1048576) % 131072 = 0) ∧
      z126.cmdPasses ch 1540 [] [] ∧
      ((z126.cmdState ch 1540 [] []).wearTarget (fun x => x) (z126.cmdState ch 1540 [] []).spareSectors 4096).isSome = true ∧
      ((z126.cmdState ch 1281 [(0 : Byte)] []).msuOpenFor 0 (BitVec.toNat (0 : Byte)) (some ch.tp)).isSome = true ∧
      ((z126.cmdState ch 1282 ([(0 : Byte)] ++ (parWord (0x08008000 : Word) ++ parWord (0 : Word) ++ parWord (0 : Word) ++ parWord (0 : Word))) []).mileDenied ch.tp (BitVec.toNat (0 : Byte))).isSome = true ∧
      ((z126.cmdState ch 1283 [(0 : Byte)] []).mileDenied ch.tp (BitVec.toNat (0 : Byte))).isSome = true ∧
      ((z126.cmdState ch 1284 [(0 : Byte)] []).mileDenied ch.tp (BitVec.toNat (0 : Byte))).isSome = true ∧
      ((z126.cmdState ch 1538 (parWord (0x08008000 : Word) ++ parWord (0 : Word)) ([1,2,3] : Bytes)).spanRefusal (BitVec.toNat (0x08008000 : Word)) (List.length ([1,2,3] : Bytes))).isSome = true) ∧
    (z127.cmdPasses ch 1537 (parWord (0x08008000 : Word) ++ parHalf (64 : Half)) [] ∧
      BitVec.toNat (64 : Half) ≤ 8192 ∧
      flashBase ≤ BitVec.toNat (0x08008000 : Word) ∧
      (z127.cmdState ch 1537 (parWord (0x08008000 : Word) ++ parHalf (64 : Half)) []).flRegion (BitVec.toNat (0x08008000 : Word) - flashBase) ≠ 2 ∧
      ((64 : Half) ≠ 0#16 → (z127.cmdState ch 1537 (parWord (0x08008000 : Word) ++ parHalf (64 : Half)) []).flRegion (BitVec.toNat (0x08008000 : Word) - flashBase + BitVec.toNat (64 : Half) - 1) ≠ 2) ∧
      (z127.cmdState ch 1537 (parWord (0x08008000 : Word) ++ parHalf (64 : Half)) []).hcpWaits (z127.cmdHdr ch 1537 (parWord (0x08008000 : Word) ++ parHalf (64 : Half)) [], 1537, BitVec.toNat (0x08008000 : Word), BitVec.toNat (64 : Half), []) = false ∧
      (match ((z127.cmdState ch 1537 (parWord (0x08008000 : Word) ++ parHalf (64 : Half)) []).readSpan (BitVec.toNat (0x08008000 : Word) - flashBase) (BitVec.toNat (64 : Half))).1 with | .data _ => false | _ => true) = true ∧
      ((z127.cmdState ch 1537 (parWord (0x08008000 : Word) ++ parHalf (64 : Half)) []).readSpan (BitVec.toNat (0x08008000 : Word) - flashBase) (BitVec.toNat (64 : Half))).1 ≠ LineRead.uncorrectable ∧
      z127.cmdPasses ch 1540 [] [] ∧
      (z127.cmdState ch 1540 [] []).wearTarget (fun x => x) (z127.cmdState ch 1540 [] []).spareSectors 4096 = none) ∧
    (z128.cmdPasses ch 1537 (parWord (0x08008000 : Word) ++ parHalf (64 : Half)) [] ∧
      BitVec.toNat (64 : Half) ≤ 8192 ∧
      flashBase ≤ BitVec.toNat (0x08008000 : Word) ∧
      (z128.cmdState ch 1537 (parWord (0x08008000 : Word) ++ parHalf (64 : Half)) []).flRegion (BitVec.toNat (0x08008000 : Word) - flashBase) ≠ 2 ∧
      ((64 : Half) ≠ 0#16 → (z128.cmdState ch 1537 (parWord (0x08008000 : Word) ++ parHalf (64 : Half)) []).flRegion (BitVec.toNat (0x08008000 : Word) - flashBase + BitVec.toNat (64 : Half) - 1) ≠ 2) ∧
      (z128.cmdState ch 1537 (parWord (0x08008000 : Word) ++ parHalf (64 : Half)) []).hcpWaits (z128.cmdHdr ch 1537 (parWord (0x08008000 : Word) ++ parHalf (64 : Half)) [], 1537, BitVec.toNat (0x08008000 : Word), BitVec.toNat (64 : Half), []) = true ∧
      z128.cmdPasses ch 1538 (parWord (0x08008000 : Word) ++ parWord (0 : Word)) ([1,2,3,4] : Bytes) ∧
      (0 : Word) = 0#32 ∧
      (z128.cmdState ch 1538 (parWord (0x08008000 : Word) ++ parWord (0 : Word)) ([1,2,3,4] : Bytes)).spanRefusal (BitVec.toNat (0x08008000 : Word)) (List.length ([1,2,3,4] : Bytes)) = none ∧
      ([1,2,3,4] : Bytes) ≠ []) := by
  refine ⟨?_, ?_, ?_, ?_, ?_, ?_⟩
  · decide +kernel  -- 1.1, 10.1, 12.1, 13.2, 14.2, 15, 2.1, 3.1, 4.3, 5, 6.2.1, 7.2, 8.2, 9.1
  · decide +kernel  -- same
  · decide +kernel  -- same
  · decide +kernel  -- same
  · decide +kernel  -- 6.2.3, 9.2
  · decide +kernel  -- 6.1, 7.1

theorem witness_TransmitPath_later :
    (z167.sysOn = true ∧
      (∃ e ∈ List.find? (fun x => x.tag == (3 : Fin 64).val) z167.txp.timed, z167.launched e = false ∧ e.waiting = false ∧ (z167.onRf fun r => { r with temp := BitVec.toInt (25 : Half) }).portFree e.port = true ∧ (z167.onRf fun r => { r with temp := BitVec.toInt (25 : Half) }).launchReached e = true ∧ ((z167.onRf fun r => { r with temp := BitVec.toInt (25 : Half) }).boundary RegName.TXP_CFG).regionOk e = false)) ∧
    (z168.sysOn = true ∧
      (∃ e ∈ List.find? (fun x => x.tag == (3 : Fin 64).val) z168.txp.timed, ∃ r ∈ ((z168.onRf fun r => { r with temp := BitVec.toInt (25 : Half) }).boundary RegName.TXP_CFG).txReserve e, z168.launched e = false ∧ e.waiting = false ∧ (z168.onRf fun r => { r with temp := BitVec.toInt (25 : Half) }).portFree e.port = true ∧ (z168.onRf fun r => { r with temp := BitVec.toInt (25 : Half) }).launchReached e = true ∧ ((z168.onRf fun r => { r with temp := BitVec.toInt (25 : Half) }).boundary RegName.TXP_CFG).regionOk e = true ∧ ((z168.onRf fun r => { r with temp := BitVec.toInt (25 : Half) }).boundary RegName.TXP_CFG).nt + ((z168.onRf fun r => { r with temp := BitVec.toInt (25 : Half) }).boundary RegName.TXP_CFG).leadTicks e ≤ e.start ∧ (∀ f ∈ ((z168.onRf fun r => { r with temp := BitVec.toInt (25 : Half) }).boundary RegName.TXP_CFG).rivals e, ((z168.onRf fun r => { r with temp := BitVec.toInt (25 : Half) }).boundary RegName.TXP_CFG).conflicts e f = false))) := by
  refine ⟨?_, ?_⟩
  · decide +kernel  -- 3.2.1
  · decide +kernel  -- 3.2.2

theorem witness_FlashAndScrub_later :
    (z181.sysOn = true ∧
      z181.forCl0 (0 : Who) ∧
      (bankCluster (60 : Fin 80).val = 0 ∨ z181.userOn = true) ∧
      53 ≤ (60 : Fin 80).val ∧
      (60 : Fin 80).val < 77 ∧
      z181.err.held ≠ [] ∧
      z181.flc.page.isSome = true ∧
      (∃ r ∈ z181.flc.erase, r.suspended = false)) ∧
    (z182.sysOn = true ∧
      (∃ c ∈ (z182.flc.queue).head?, ∃ d ∈ ((z182.flc.queue).tail).head?, d.op = 1 ∧ z182.flcMayStart c = false ∧ z182.flcMayStart d = true) ∧
      (Tab.find z182.flc.programs (0 : Fin 4).val).isSome = true) ∧
    (z183.sysOn = true ∧
      z183.err.held = [] ∧
      Tab.find z183.flc.programs (0 : Fin 4).val = none ∧
      (∃ x ∈ z183.updRuns, ∃ k ∈ x.lines, flBank (((if x.grown = true then 2 else 4) + (1 - (z183.tabOf x).copy)) * 4096 + 32 * k) = (0 : Fin 4).val ∧ k + 1 < z183.updLines x)) ∧
    (z186.sysOn = true ∧
      z186.forCl0 (0 : Who) ∧
      z186.flc.programs = [] ∧
      z186.flc.updates = [] ∧
      z186.pwr.flush = none ∧
      (∃ r ∈ z186.flc.erase, r.suspended = true ∧ r.resume = none)) ∧
    (z187.sysOn = true ∧
      z187.err.held = [] ∧
      z187.pwr.flush = none ∧
      (∃ c ∈ z187.flcPick true [] z187.flc.queue, z187.flcRefusal c.1 = none ∧ c.1.op = 8)) ∧
    (z188.sysOn = true ∧
      z188.err.held = [] ∧
      Tab.find z188.flc.programs (0 : Fin 4).val = none ∧
      (∃ x ∈ z188.updRuns, ∃ k ∈ x.lines, flBank (((if x.grown = true then 2 else 4) + (1 - (z188.tabOf x).copy)) * 4096 + 32 * k) = (0 : Fin 4).val ∧ z188.updLines x ≤ k + 1)) ∧
    (z189.sysOn = true ∧
      z189.err.held = [] ∧
      (∃ x ∈ z189.updRuns, x.lines = none)) := by
  refine ⟨?_, ?_, ?_, ?_, ?_, ?_, ?_⟩
  · decide +kernel  -- 1.8.1, 16.1.1, 16.1.2, 7.1, 7.2
  · decide +kernel  -- 2.3, 5
  · decide +kernel  -- 12.2.1, 12.2.2.1
  · decide +kernel  -- 1.8.2
  · decide +kernel  -- 3.2.5
  · decide +kernel  -- 12.2.2.2
  · decide +kernel  -- 12.1

theorem witness_OtpAndDram :
    (z197.sysOn = true ∧
      z197.forCl0 (0 : Who) ∧
      z197.otp.run = none ∧
      z197.otpHalfDenied (9 : BitVec 7).toNat (b2n true) = true ∧
      (9 : BitVec 7) ≠ 7#7 ∧
      z197.onPll = true ∧
      z197.dramReady = false ∧
      (z197.fld F.DMC_STAT_STATE = 1 ∨ z197.fld F.DMC_STAT_STATE = 2) ∧
      (z197.dmc.recentre = none ∨ z197.fld F.DMC_STAT_STATE ≠ 3 ∧ z197.fld F.DMC_STAT_STATE ≠ 4) ∧
      z197.dmc.since.isSome = true) ∧
    (dramSupported (BitVec.toNat (4 : Byte)) (1 : BitVec 4).toNat = true ∧
      (3 : BitVec 4) ≠ 0#4) ∧
    (z202.sysOn = true ∧
      z202.fld F.DMC_STAT_STATE = 2 ∧
      z202.dmc.since = none ∧
      (false && decide (z202.dmc.region = some z202.dmc.sent)) = false) ∧
    (z202.sysOn = true ∧
      z202.fld F.DMC_STAT_STATE = 2 ∧
      z202.dmc.since = none ∧
      (true && decide (z202.dmc.region = some z202.dmc.sent)) = true) ∧
    (z197.sysOn = true ∧
      (z197.fld F.DMC_STAT_STATE = 1 ∨ z197.fld F.DMC_STAT_STATE = 2) ∧
      z197.dmc.since.isSome = true ∧
      dramSupported (BitVec.toNat (1 : Byte)) (1 : BitVec 4).toNat = false) := by
  refine ⟨?_, ?_, ?_, ?_, ?_⟩
  · decide +kernel  -- 1.1.2, 1.1.4, 1.1.5, 1.3.2.3, 1.4, 10, 12, 13.1.1, 13.1.2, 3, 5, 6
  · decide +kernel  -- same
  · decide +kernel  -- 14.2
  · decide +kernel  -- 14.1
  · decide +kernel  -- 13.2

theorem witness_ContactlessTag :
    (z208.fieldOn = true ∧
      z208.ctl.quiet = false ∧
      z208.flag F.CTL_STAT_LOCKOUT = false ∧
      z208.tagOn = true ∧
      (z208.tagState = 4 ∨ z208.tagState = 5) ∧
      z208.pwr.vbak = true ∧
      z208.tagState = 4 ∧
      ([0,2,4] : Bytes) ≠ [] ∧
      z208.ctl.session = none ∧
      z208.tagCond = 3) ∧
    (List.length ([0,2,4] : Bytes) = 3 ∧
      z208.tagCond ≠ 0 ∧
      tagRangeOk (beNat (List.take 2 ([0,2,4] : Bytes))) (BitVec.toNat (List.getD ([0,2,4] : Bytes) 2 0)) = true ∧
      z208.flag F.CTL_HOLD_HOLD_ACT = false ∧
      regionsAll (BitVec.toNat (z208.reg RegName.CTL_OPENRD)) (beNat (List.take 2 ([0,2,4] : Bytes))) (BitVec.toNat (List.getD ([0,2,4] : Bytes) 2 0)) = true ∧
      beNat (List.take 2 ([0,2,4] : Bytes)) < 4 * (1 : Fin 2048).val + 4 ∧
      4 * (1 : Fin 2048).val < beNat (List.take 2 ([0,2,4] : Bytes)) + BitVec.toNat (List.getD ([0,2,4] : Bytes) 2 0)) ∧
    ((∀ (w : Nat), Tab.getD z208.ctl.errs w 0 = 0)) := by
  refine ⟨?_, ?_, ?_⟩
  · decide +kernel  -- 2.1, 2.2, 2.3, 4, 6, 8.5.1, 8.5.2, 8.5.3, 8.5.4, 8.5.5.1, 8.5.5.2, 8.6.2.1.1, 8.6.2.1.2, 8.6.2.2.2.1, 8.6.2.2.2.2
  · decide +kernel  -- same
  · intros; first | rfl | contradiction  -- 2.1, 2.2, 2.3, 4, 6, 8.5.1, 8.5.2, 8.5.3, 8.5.4, 8.5.5.1, 8.5.5.2, 8.6.2.1.1, 8.6.2.1.2, 8.6.2.2.2.1, 8.6.2.2.2.2

theorem witness_ReaderAndErrors_later :
    (z222.sysOn = true ∧
      z222.snapWanted = true ∧
      z222.inRoadside = false ∧
      sgn 16 (bits (BitVec.toNat (z222.reg RegName.ERR_TEL 15)) 15 0) < 40 ∧
      170 ≤ z222.fld F.PMB_VREQ_VTARGET ∧
      (∃ cl ∈ z222.regRight ((8 : Who).val) RegName.ERR_REPORT (clusterOfWho (z222.actsAs (8 : Who).val)) true, cl ≠ 0)) ∧
    (z223.sysOn = true ∧
      z223.forCl0 (0 : Who) ∧
      bits (BitVec.toNat (0x30000003 : Word)) 29 28 = 3 ∧
      z223.flag F.ERR_WDT_CFG_EN (0 : Fin 4).val = true ∧
      bits (BitVec.toNat (0x30000003 : Word)) 15 0 ≠ 42435 ∧
      z223.err.wdtDue.contains (0 : Fin 4).val = true ∧
      (0 : Fin 4).val < 2 ∧
      z223.resetHeld = true) ∧
    (z33.sysOn = true ∧
      z33.err.wdtDue.contains (3 : Fin 4).val = true ∧
      2 ≤ (3 : Fin 4).val) ∧
    (z35.sysOn = true ∧
      z35.err.wdtDue.contains (1 : Fin 4).val = true ∧
      (1 : Fin 4).val < 2 ∧
      z35.resetHeld = false) ∧
    (z228.sysOn = true ∧
      z228.forCl0 (0 : Who) ∧
      (∃ e ∈ Tab.find z228.err.log (bits (BitVec.toNat (3 : Word)) 7 0), (e.handled = true ∨ z228.err.cycAge ≤ e.age))) ∧
    (z229.sysOn = true ∧
      z229.forCl0 (0 : Who) ∧
      z229.err.nextAge = z229.err.cycAge ∧
      (∃ e ∈ Tab.find z229.err.log (bits (BitVec.toNat (3 : Word)) 7 0), ∃ x ∈ List.find? (fun x => x.fst == bits (BitVec.toNat (3 : Word)) 7 0) z229.err.counted, ∃ j ∈ logSlot (Tab.put z229.err.log (bits (BitVec.toNat (3 : Word)) 7 0) { handled := true, cls := e.cls, source := e.source, count := x.snd.fst, sec := e.sec, undisc := e.undisc, tick := e.tick, info := e.info, age := e.age, syndrome := e.syndrome }), e.handled = false ∧ e.age < z229.err.cycAge)) := by
  refine ⟨?_, ?_, ?_, ?_, ?_, ?_⟩
  · decide +kernel  -- 17, 2, 20
  · decide +kernel  -- 1.5, 1.8, 12.3
  · decide +kernel  -- 12.1
  · decide +kernel  -- 12.2
  · decide +kernel  -- 1.2.3
  · decide +kernel  -- 1.2.2

end Later

/-- A cluster SRAM word of a cluster without power is inside SRAM and names no word. -/
theorem witness_AtomicOps_unpowered :
    let s := (g core 0 2 0x21080000#32).setFld F.SYSCTL_PSTATE_CUR 1
    s.coreReady 0 ∧ inSram 0x21080000 = true ∧ (s.coreFetched 0).ramWordAt (pairOf 0) 0x21080000 = none := by decide +kernel

/-- A recalibration begins on an idle port with nothing planned near. -/
theorem witness_PortsAndSynthesisers_recalibration :
    let s := rad.onRf fun r => { r with loTemp := [(0, 20), (1, 20)], temp := 20 }
    let warm := s.onRf fun r => { r with temp := 30 }
    s.sysOn = true ∧ 5 ≤ ((30 : Int) - Tab.getD s.rf.loTemp 0 30).natAbs ∧ warm.portFree 0 = true ∧ s.portBusy 0 = false
      ∧ s.txp.timed = [] ∧ s.sched.offer = none := by decide +kernel

theorem witness_HcpDiagnosticAndTime_challenge : hst.cmdPasses ch 0x0901 [] [] := by decide +kernel

/-- RTC_READ waits for its capture alone. -/
theorem witness_HcpDiagnosticAndTime_capture :
    let s := (hst.setFld F.RTC_STAT_CAP_BUSY 1).onHcp fun h => { h with rtc := [⟨⟨.hport, 5, 0, false, 0, false⟩, 0x0703, []⟩] }
    s.rtc.wr = none ∧ s.hcp.rtc.map (fun o => (o.writes, o.op)) = [([], 0x0703)] ∧ s.flag F.RTC_STAT_CAP_BUSY = true := by decide +kernel

/-- A register read answers words, and one at a hole answers a status. -/
theorem witness_HcpDiagnosticAndTime_regRead :
    let u := fun (a : Word) => hst.cmdState ch 0x0904 (parWord a ++ parHalf 1) []
    hst.cmdPasses ch 0x0904 (parWord 0x40020000 ++ parHalf 1) [] ∧ ((u 0x40020000).readWords 0x40020000 1).1.isRight = true
      ∧ hst.cmdPasses ch 0x0904 (parWord 0x5FFF0000 ++ parHalf 1) []
      ∧ (u 0x5FFF0000).regRefusal (hst.cmdHdr ch 0x0904 (parWord 0x5FFF0000 ++ parHalf 1) []) 0x5FFF0000 1 = none
      ∧ (u 0x5FFF0000).hcpWaits (hst.cmdHdr ch 0x0904 (parWord 0x5FFF0000 ++ parHalf 1) [], 0x0904, 0x5FFF0000, 1, []) = false
      ∧ ((u 0x5FFF0000).readWords 0x5FFF0000 1).1.isLeft = true := by decide +kernel

end Sys2Proof.Tests
end

section
/-! Register writes by access type and take-effect class (R5, R7, R9 to R12): what a write of a register leaves in it, in every other
register, and in the value in force. -/

namespace Sys2Proof.Machine

/-! ### Words and fields -/

/-- wordPut bit by bit: the field from v, every other bit from w. -/
theorem getLsbD_wordPut (w : Word) (hi lo v j : Nat) (hhi : hi < 32) :
    (wordPut w hi lo v).getLsbD j = if lo ≤ j ∧ j ≤ hi then v.testBit (j - lo) else w.getLsbD j := by
  have mask : (BitVec.ofNat 32 ((2 ^ (hi + 1 - lo) - 1) * 2 ^ lo)).getLsbD j = decide (lo ≤ j ∧ j ≤ hi) := by
    rw [BitVec.getLsbD_ofNat, Nat.testBit_mul_two_pow, Nat.testBit_two_pow_sub_one]
    by_cases h : lo ≤ j <;> by_cases h' : j ≤ hi <;> simp [h, h'] <;> omega
  simp only [wordPut, BitVec.getLsbD_or, BitVec.getLsbD_and, BitVec.getLsbD_not, mask, BitVec.getLsbD_ofNat, Nat.testBit_mul_two_pow]
  by_cases h : lo ≤ j ∧ j ≤ hi
  · simp [h, show j < 32 by omega]
  · by_cases hj : j < 32
    · simp [h, hj]
    · simp [h, hj, BitVec.getLsbD_of_ge w j (by omega)]

/-- A field that has been put reads as its value modulo its width. -/
theorem bits_wordPut (w : Word) (hi lo v : Nat) (hhi : hi < 32) (hlo : lo ≤ hi) :
    bits (wordPut w hi lo v).toNat hi lo = v % 2 ^ (hi + 1 - lo) := by
  apply Nat.eq_of_testBit_eq
  intro i
  rw [bits, Nat.testBit_mod_two_pow, Nat.testBit_mod_two_pow, Nat.testBit_div_two_pow, ← BitVec.getLsbD, getLsbD_wordPut _ _ _ _ _ hhi]
  by_cases hi' : i < hi + 1 - lo
  · simp [hi', show lo ≤ i + lo ∧ i + lo ≤ hi by omega]
  · simp [hi']

/-- A field that hardware has given a value reads as that value modulo its width. -/
theorem State.fld_setFld (s : State) (f : Fld) (v n : Nat) (hhi : f.hi < 32) (hlo : f.lo ≤ f.hi) :
    (s.setFld f v n).fld f n = v % 2 ^ (f.hi + 1 - f.lo) := by
  rw [State.fld, State.reg_setFld_ite, if_pos ⟨rfl, rfl⟩, bits_wordPut _ _ _ _ hhi hlo]

/-- A field of another register stays. -/
theorem State.fld_setFld_of_ne (s : State) (f g : Fld) (v n m : Nat) (h : g.reg ≠ f.reg) : (s.setFld f v n).fld g m = s.fld g m := by
  rw [State.fld, State.reg_setFld_ite, if_neg (fun e => h e.1), State.fld]

/-- A field of w bits reads below 2 ^ w. -/
theorem State.fld_lt (s : State) (f : Fld) (n : Nat) : s.fld f n < 2 ^ (f.hi + 1 - f.lo) := Nat.mod_lt _ (Nat.two_pow_pos _)

/-! ### The WLOCK flag of a block -/

theorem State.setWlock_none {r : RegName} {n : Nat} (s : State) (h : wlockOf r n = none) : s.setWlock r n = s := by
  simp [State.setWlock, h]

theorem State.setWlock_some {r w : RegName} {n m : Nat} (s : State) (h : wlockOf r n = some (w, m)) :
    s.setWlock r n = (s.setReg w m (wordPut (s.reg w m) 31 31 1)).noteRaised w m (0x80000000#32) := by
  simp [State.setWlock, h]

/-- Setting a WLOCK flag touches the register that holds it alone. -/
theorem State.reg_setWlock_of_ne {r r' : RegName} {n n' : Nat} (s : State) (h : wlockOf r n ≠ some (r', n')) :
    (s.setWlock r n).reg r' n' = s.reg r' n' := by
  cases hw : wlockOf r n with
  | none => rw [s.setWlock_none hw]
  | some e =>
    obtain ⟨w, m⟩ := e
    have hne : ¬(r' = w ∧ n' = m) := by rintro ⟨rfl, rfl⟩; exact h hw
    rw [s.setWlock_some hw, State.reg_congr (State.noteRaised_regs _ _ _ _), State.reg_setReg_ite, if_neg hne]

/-- The WLOCK flag stands in bit 31 of its register. -/
theorem State.reg_setWlock {r w : RegName} {n m : Nat} (s : State) (h : wlockOf r n = some (w, m)) :
    (s.setWlock r n).reg w m = wordPut (s.reg w m) 31 31 1 := by
  rw [s.setWlock_some h, State.reg_congr (State.noteRaised_regs _ _ _ _), State.reg_setReg]

@[simp] theorem State.setWlock_held (s : State) (r : RegName) (n : Nat) : (s.setWlock r n).held = s.held := by
  unfold State.setWlock; split <;> simp

/-- Noting W1C flags as set in this cycle changes that note alone. -/
theorem State.noteRaised_eq (s : State) (r : RegName) (n : Nat) (m : Word) :
    s.noteRaised r n m = { s with raised := (s.noteRaised r n m).raised } := by
  unfold State.noteRaised; split <;> rfl

/-- Setting a WLOCK flag changes the registers and the note of flags set in this cycle alone. -/
theorem State.setWlock_eq (s : State) (r : RegName) (n : Nat) :
    s.setWlock r n = { s with regs := (s.setWlock r n).regs, raised := (s.setWlock r n).raised } := by
  unfold State.setWlock
  split
  · rfl
  · rw [State.noteRaised_eq]; rfl

/-! ### The word that a write leaves -/

/-- No bit is both RW and W1C. -/
theorem regRow_rw_and_w1c (r : RegName) : (regRow r).rw &&& (regRow r).w1c = 0 := by
  have rows : ∀ row ∈ regTable, row.rw &&& row.w1c = 0 := by decide +kernel
  unfold regRow
  rw [List.getD_eq_getElem?_getD]
  cases h : regTable[r.ctorIdx]? with
  | none => decide
  | some row => exact rows row (List.mem_of_getElem? h)

/-- The word that a write of w leaves in a register. -/
def State.storedWord (s : State) (r : RegName) (n : Nat) (running : Bool) (w : Word) : Word :=
  regMerge (regRow r) running (Tab.getD s.raised (r.key n) 0) (s.reg r n) w

/-- Each bit of a written register: RW and not locked, W1C, or neither (R5, R7, R9). -/
theorem State.getLsbD_storedWord (s : State) (r : RegName) (n : Nat) (running : Bool) (w : Word) (i : Nat) (hi : i < 32) :
    (s.storedWord r n running w).getLsbD i =
      (if (regRow r).rw.getLsbD i && !(running && (regRow r).locked.getLsbD i) then w.getLsbD i
        else if (regRow r).w1c.getLsbD i && w.getLsbD i && !(Tab.getD s.raised (r.key n) 0).getLsbD i then false
        else (s.reg r n).getLsbD i) := by
  have disjoint : ((regRow r).rw.getLsbD i && (regRow r).w1c.getLsbD i) = false := by
    rw [← BitVec.getLsbD_and, regRow_rw_and_w1c]; simp
  cases running <;>
    simp only [State.storedWord, regMerge, BitVec.getLsbD_and, BitVec.getLsbD_or, BitVec.getLsbD_not, hi, decide_true, Bool.true_and,
      if_true, Bool.false_eq_true, if_false] <;>
    grind

/-! ### A register write -/

/-- A register's value in force is kept when a write changes an AT-BOUNDARY bit and none waits already (R9, R12). -/
def State.keepInForce (s : State) (r : RegName) (n : Nat) (new : Word) : State :=
  if (new ^^^ s.reg r n) &&& (regRow r).boundary ≠ 0 ∧ Tab.find s.held (r.key n) = none
  then { s with held := Tab.put s.held (r.key n) (s.reg r n) } else s

theorem State.keepInForce_eq (s : State) (r : RegName) (n : Nat) (new : Word) :
    s.keepInForce r n new = { s with held := (s.keepInForce r n new).held } := by
  unfold State.keepInForce; split <;> rfl

/-- A write keeps the value in force, stores the word and, where it would change a locked bit, sets the WLOCK flag. -/
theorem State.regStore_eq (s : State) (r : RegName) (n : Nat) (running : Bool) (w : Word) :
    s.regStore r n running w =
      let t := (s.keepInForce r n (s.storedWord r n running w)).setReg r n (s.storedWord r n running w)
      if running ∧ (s.reg r n ^^^ w) &&& (regRow r).locked ≠ 0 then t.setWlock r n else t := rfl

/-- A write to a block that does not run only keeps the value in force and stores the word. -/
theorem State.regStore_idle (s : State) (r : RegName) (n : Nat) (w : Word) :
    s.regStore r n false w = (s.keepInForce r n (s.storedWord r n false w)).setReg r n (s.storedWord r n false w) := by
  simp [State.regStore_eq]

/-- A write that would change a locked bit of a running block sets the WLOCK flag (R9). -/
theorem State.regStore_locked {r : RegName} {n : Nat} {w : Word} (s : State) (h : (s.reg r n ^^^ w) &&& (regRow r).locked ≠ 0) :
    s.regStore r n true w = ((s.keepInForce r n (s.storedWord r n true w)).setReg r n (s.storedWord r n true w)).setWlock r n := by
  simp only [State.regStore_eq, true_and, if_pos h]

/-- A register after a write: the stored word in the register written, and every other one as before but for that of the WLOCK flag. -/
theorem State.reg_regStore_ite {r r' : RegName} {n n' : Nat} (s : State) (running : Bool) (w : Word) (h : wlockOf r n ≠ some (r', n')) :
    (s.regStore r n running w).reg r' n' = if r' = r ∧ n' = n then s.storedWord r n running w else s.reg r' n' := by
  have stored : ((s.keepInForce r n (s.storedWord r n running w)).setReg r n (s.storedWord r n running w)).reg r' n' =
      if r' = r ∧ n' = n then s.storedWord r n running w else s.reg r' n' := by
    rw [State.reg_setReg_ite, State.keepInForce_eq]; rfl
  rw [State.regStore_eq]
  dsimp only
  split
  · rw [State.reg_setWlock_of_ne _ h, stored]
  · exact stored

/-- The register written holds the stored word when its block does not run. -/
theorem State.reg_regStore_idle (s : State) (r : RegName) (n : Nat) (w : Word) :
    (s.regStore r n false w).reg r n = s.storedWord r n false w := by
  rw [State.regStore_idle, State.reg_setReg]

/-- The kept values after a write. -/
theorem State.held_regStore (s : State) (r : RegName) (n : Nat) (running : Bool) (w : Word) :
    (s.regStore r n running w).held = (s.keepInForce r n (s.storedWord r n running w)).held := by
  rw [State.regStore_eq]
  dsimp only
  split <;> simp

/-- A write changes registers, kept values and the note of flags set in this cycle, and nothing else of the state. -/
theorem State.regStore_frame (s : State) (r : RegName) (n : Nat) (running : Bool) (w : Word) :
    s.regStore r n running w = { s with
      regs := (s.regStore r n running w).regs, held := (s.regStore r n running w).held, raised := (s.regStore r n running w).raised } := by
  rw [State.regStore_eq]
  dsimp only
  split
  · rw [State.setWlock_eq, State.keepInForce_eq]; rfl
  · rw [State.keepInForce_eq]; rfl

/-! ### The value in force -/

/-- The AT-BOUNDARY bits in force are those of the kept word, or of the register where none is kept (R9). -/
theorem State.inReg_and_boundary (s : State) (r : RegName) (n : Nat) :
    s.inReg r n &&& (regRow r).boundary = Tab.getD s.held (r.key n) (s.reg r n) &&& (regRow r).boundary := by
  unfold State.inReg Tab.getD
  cases Tab.find s.held (r.key n) with
  | none => rfl
  | some h =>
    ext i
    simp only [BitVec.getElem_and, BitVec.getElem_or, BitVec.getElem_not]
    grind

/-- What is kept, else the new word, has the AT-BOUNDARY bits of what was kept, else the old word (R9, R12). -/
theorem State.getD_keepInForce_and_boundary (s : State) (r : RegName) (n : Nat) (new : Word) :
    Tab.getD (s.keepInForce r n new).held (r.key n) new &&& (regRow r).boundary =
      Tab.getD s.held (r.key n) (s.reg r n) &&& (regRow r).boundary := by
  unfold State.keepInForce Tab.getD
  by_cases changed : (new ^^^ s.reg r n) &&& (regRow r).boundary = 0
  · have same : new &&& (regRow r).boundary = s.reg r n &&& (regRow r).boundary := by
      apply BitVec.xor_eq_zero_iff.mp
      refine Eq.trans ?_ changed
      ext i
      simp only [BitVec.getElem_and, BitVec.getElem_xor]
      grind
    rw [if_neg (by tauto)]
    cases Tab.find s.held (r.key n) with
    | none => exact same
    | some v => rfl
  · by_cases kept : Tab.find s.held (r.key n) = none
    · rw [if_pos ⟨changed, kept⟩, Tab.find_put, if_pos rfl, kept]
    · obtain ⟨v, hv⟩ := Option.ne_none_iff_exists'.mp kept
      rw [if_neg (by tauto), hv]

/-- A write leaves the AT-BOUNDARY bits in force as they were (R9, R12). -/
theorem State.inReg_regStore_and_boundary {r : RegName} {n : Nat} (s : State) (running : Bool) (w : Word)
    (h : wlockOf r n ≠ some (r, n)) :
    (s.regStore r n running w).inReg r n &&& (regRow r).boundary = s.inReg r n &&& (regRow r).boundary := by
  rw [State.inReg_and_boundary, State.inReg_and_boundary, State.held_regStore, State.reg_regStore_ite s running w h, if_pos ⟨rfl, rfl⟩,
    State.getD_keepInForce_and_boundary]

/-- Once its boundary has come, a register's value in force is its stored one. -/
@[simp] theorem State.inReg_boundary (s : State) (r : RegName) (n : Nat) : (s.boundary r n).inReg r n = s.reg r n := by
  unfold State.inReg
  rw [State.boundary_held, Tab.find_del, if_pos rfl]
  rfl

/-- Settles O29: the stored word bit by bit, the frame of a write, its WLOCK flag, and the kept value in force. -/
theorem plainRegisterWrite : Obligations.PlainRegisterWrite := by
  unfold Obligations.PlainRegisterWrite
  refine ⟨regRow_rw_and_w1c, ?_⟩
  intro r n running w s t row set
  refine ⟨?written, ?others, ?wlock, ?inForce, ?frame⟩
  case written =>
    intro h i hi
    rw [show t.reg r n = s.storedWord r n running w by rw [State.reg_regStore_ite s running w h, if_pos ⟨rfl, rfl⟩]]
    exact s.getLsbD_storedWord r n running w i hi
  case others =>
    intro r' n' hne hw
    have : ¬(r' = r ∧ n' = n) := by rintro ⟨rfl, rfl⟩; exact hne rfl
    rw [State.reg_regStore_ite s running w hw, if_neg this]
  case wlock =>
    intro r' n' hrun hlock hw
    subst hrun
    rw [show t = _ from s.regStore_locked hlock, State.reg_setWlock _ hw, getLsbD_wordPut _ _ _ _ _ (by decide)]
    rfl
  case inForce => exact s.inReg_regStore_and_boundary running w
  case frame => exact s.regStore_frame r n running w

/-- Settles O59: each write leaves the value in force, and the second one alone decides what the boundary brings. -/
theorem lastWriteBeforeBoundary : Obligations.LastWriteBeforeBoundary := by
  unfold Obligations.LastWriteBeforeBoundary
  intro r n running w1 w2 s h i hi hb hrw hlock u
  constructor
  · have inForce : u.inReg r n &&& (regRow r).boundary = s.inReg r n &&& (regRow r).boundary := by
      rw [State.inReg_regStore_and_boundary _ running w2 h, State.inReg_regStore_and_boundary s running w1 h]
    simpa [hb] using congrArg (fun v => v.getLsbD i) inForce
  · rw [State.inReg_boundary, State.reg_regStore_ite _ running w2 h, if_pos ⟨rfl, rfl⟩, State.getLsbD_storedWord _ _ _ _ _ _ hi]
    simp [hrw, hlock]

end Sys2Proof.Machine
end

section
/-! How a core that takes an instruction ends it, and what CRD and CWR read and write (R7, R381, R388, R407). -/

namespace Sys2Proof.Machine

/-! ### Register writes leave the rest of the state -/

@[simp] theorem State.regStore_core (s : State) (r : RegName) (n : Nat) (running : Bool) (w : Word) :
    (s.regStore r n running w).core = s.core := by rw [State.regStore_frame]
@[simp] theorem State.regStore_mem (s : State) (r : RegName) (n : Nat) (running : Bool) (w : Word) :
    (s.regStore r n running w).mem = s.mem := by rw [State.regStore_frame]
@[simp] theorem State.gpr_regStore (s : State) (r : RegName) (n : Nat) (running : Bool) (w : Word) (c i : Nat) :
    (s.regStore r n running w).gpr c i = s.gpr c i := by simp [State.gpr]
@[simp] theorem State.regStore_roadPend (s : State) (r : RegName) (n : Nat) (running : Bool) (w : Word) :
    (s.regStore r n running w).roadPend = s.roadPend := by rw [State.regStore_frame]

/-- A register without W1C flags takes the RW bits of a write. -/
theorem State.storedWord_of_w1c_eq_zero (s : State) (r : RegName) (n : Nat) (w : Word) (h : (regRow r).w1c = 0) :
    s.storedWord r n false w = (s.reg r n &&& ~~~(regRow r).rw) ||| (w &&& (regRow r).rw) := by
  simp only [State.storedWord, regMerge, h, Bool.false_eq_true, if_false, BitVec.ofNat_eq_ofNat, BitVec.and_zero, BitVec.zero_and, BitVec.not_zero,
    BitVec.and_allOnes]

/-- A register without RW bits loses the W1C flags written as 1, but for those set in this cycle (R7). -/
theorem State.storedWord_of_rw_eq_zero (s : State) (r : RegName) (n : Nat) (w : Word) (h : (regRow r).rw = 0) :
    s.storedWord r n false w = s.reg r n &&& ~~~(w &&& (regRow r).w1c &&& ~~~Tab.getD s.raised (r.key n) 0) := by
  simp only [State.storedWord, regMerge, h, Bool.false_eq_true, if_false, BitVec.ofNat_eq_ofNat, BitVec.not_zero, BitVec.and_allOnes, BitVec.and_zero,
    BitVec.or_zero]

/-! ### An instruction on a core -/

@[simp] theorem State.icUpset_false (s : State) (k : Nat) : s.icUpset k false = s := by
  unfold State.icUpset; dsimp only; cases s.icWay k ((s.pcOf k).toNat / 32) <;> rfl

/-- With no Roadside entry due, none is made. -/
theorem State.roadDue_of_none {s : State} (h : s.roadPend = none) : s.roadDue = s := by
  simp [State.roadDue, h]

/-- A core that takes an instruction ends it as the instruction does on the state after the fetch (R379, R381). -/
theorem State.coreRun_of_ready {s : State} {c : CoreNo} (h : s.coreReady c) (f : Nat → State → Ended) :
    s.coreRun c f = ((f (pairOf c.val) (s.coreFetched c)).state (pairOf c.val)).roadDue := by
  obtain ⟨runs, line, -⟩ := h
  unfold State.coreRun State.coreFetched
  simp only [runs, State.icUpset_false, Bool.not_true, Bool.false_eq_true, if_false]
  generalize State.fetch _ _ = fetched at line ⊢
  obtain ⟨end_, t⟩ := fetched
  simp only at line
  subst line
  rfl

/-- A long operation that writes no register by itself and does not access memory is a control operation (R394). -/
theorem State.execLong_control (s : State) (k : Nat) (op : LOp) (fields : op.fieldsOk = true)
    (noWrites : op.writes (s.fxMode k) (s.gprF k) (s.acc k) = none) (noMem : s.memOp k op (s.gprF k) {} = none) :
    State.execLong op {} k s = s.runControl k op := by
  simp [State.execLong, fields, noWrites, noMem]

@[simp] theorem State.regThenNext_roadPend (s : State) (k : Nat) (rd : RegF) (v : Word) :
    (s.regThenNext k rd v).roadPend = s.roadPend := by
  unfold State.regThenNext State.setGpr; split <;> rfl

/-! ### CRD and CWR -/

/-- A CRD that delivers a value writes it to rd, and the pc goes on. -/
theorem exec_crd {s t : State} {c : CoreNo} {rd : RegF} {cr : BitVec 12} {v : Word} (h : s.coreReady c) (hd : crDefined cr.toNat = true)
    (hr : (s.coreFetched c).crRead (pairOf c.val) cr.toNat = (some v, t)) (road : t.roadPend = none) :
    exec (.crd c rd 0 0 cr) s = .next (t.regThenNext (pairOf c.val) rd v) := by
  have control := (s.coreFetched c).execLong_control (pairOf c.val) (.crd rd 0 0 cr) (by simp [LOp.fieldsOk, hd]) rfl rfl
  have run : (s.coreFetched c).runControl (pairOf c.val) (.crd rd 0 0 cr) = .next (t.setGprF (pairOf c.val) rd v) (t.pcNext (pairOf c.val)) := by
    simp only [State.runControl, hr]
  show Host.Outcome.next (s.coreRun c (State.execLong (.crd rd 0 0 cr) {})) = _
  rw [State.coreRun_of_ready h, control, run]
  exact congrArg _ (State.roadDue_of_none (s := t.regThenNext (pairOf c.val) rd v) (by simpa using road))

/-- A CWR writes the control register, which makes no Roadside entry due. -/
@[simp] theorem State.crWrite_roadPend (s : State) (k n : Nat) (w : Word) : (s.crWrite k n w).roadPend = s.roadPend := by
  unfold State.crWrite
  split
  · simp
  · split
    · simp
    · split
      · simp
      · split <;> simp [State.ucNext, State.mendRam]

/-- A CWR writes its register, and the pc goes on. -/
theorem exec_cwr {s : State} {c : CoreNo} (a : RegF) {cr : BitVec 12} (h : s.coreReady c) (hw : crWritable cr.toNat = true) :
    exec (.cwr c 0 a 0 cr) s = .next
      (((s.coreFetched c).crWrite (pairOf c.val) cr.toNat ((s.coreFetched c).gpr (pairOf c.val) a.toNat)).setPc (pairOf c.val)
        ((s.coreFetched c).pcOf (pairOf c.val) + 4)) := by
  have control := (s.coreFetched c).execLong_control (pairOf c.val) (.cwr 0 a 0 cr) (by simp [LOp.fieldsOk, hw]) rfl rfl
  obtain ⟨-, -, road⟩ := id h
  show Host.Outcome.next (s.coreRun c (State.execLong (.cwr 0 a 0 cr) {})) = _
  rw [State.coreRun_of_ready h, control]
  exact congrArg _ (State.roadDue_of_none (by simpa [Ended.state, State.runControl] using road))

/-- A CRD of a register of the core's own reads it. -/
theorem State.crRead_own (s : State) (k : Nat) {n : Nat} {r : RegName} (h : crName n = some r) : s.crRead k n = (some (s.reg r k), s) := by
  simp [State.crRead, h]

/-- A CWR to a register of the core's own is a write of it that no running block locks. -/
theorem State.crWrite_own (s : State) (k : Nat) {n : Nat} {r : RegName} (w : Word) (h : crName n = some r) :
    s.crWrite k n w = s.regStore r k false w := by
  simp [State.crWrite, h]

/-- A CWR to a register of the core's own, on a core that takes it. -/
theorem exec_cwr_own {s : State} {c : CoreNo} (a : RegF) {cr : BitVec 12} {r : RegName} (h : s.coreReady c) (hw : crWritable cr.toNat = true)
    (name : crName cr.toNat = some r) :
    exec (.cwr c 0 a 0 cr) s = .next
      (((s.coreFetched c).regStore r (pairOf c.val) false ((s.coreFetched c).gpr (pairOf c.val) a.toNat)).setPc (pairOf c.val)
        ((s.coreFetched c).pcOf (pairOf c.val) + 4)) := by
  rw [exec_cwr a h hw, State.crWrite_own _ _ _ name]

/-- While another core of the cluster executes a CX, a CWR to UCDATA sets UCSTAT.WLOCK alone (R407). -/
theorem State.crWrite_ucdata_busy (s : State) (k : Nat) (w : Word) (h : s.cxBusy k = true) :
    s.crWrite k 0x12 w = s.setFld F.CORE_UCSTAT_WLOCK 1 k := by
  simp [State.crWrite, crName, h]

/-- A CWR to UCDATA writes the micro-operation at UCADDR (R407). -/
theorem State.crWrite_ucdata (s : State) (k : Nat) (w : Word) (h : s.cxBusy k = false) :
    s.crWrite k 0x12 w = (((s.onCore fun c => { c with ucode := Tab.putD c.ucode (ucKey k (s.fld F.CORE_UCADDR_ADDR k)) 0 w }).mendRam
      (.ucode (clusterOf k) (s.fld F.CORE_UCADDR_ADDR k))).ucNext k) := by
  simp [State.crWrite, crName, h]

/-- A CRD of UCDATA reads the micro-operation at UCADDR, where no bit of it is in error (R407, R410). -/
theorem State.crRead_ucdata (s : State) (k : Nat)
    (clean : Tab.getD s.sram.errs (RamWord.ucode (clusterOf k) (s.fld F.CORE_UCADDR_ADDR k)).key 0 = 0) :
    s.crRead k 0x12 = (some (Tab.getD s.core.ucode (ucKey k (s.fld F.CORE_UCADDR_ADDR k)) 0), s.ucNext k) := by
  simp [State.crRead, crName, State.checkRam, clean]

/-- The micro-operation at UCADDR has its own place in the store of the core's cluster. -/
theorem State.ucKey_ucaddr (s : State) (k : Nat) : ucKey k (s.fld F.CORE_UCADDR_ADDR k) = k / 8 * 2048 + s.fld F.CORE_UCADDR_ADDR k := by
  have := s.fld_lt F.CORE_UCADDR_ADDR k
  rw [ucKey, clusterOf, Nat.mod_eq_of_lt (by simpa using this)]

/-- UCADDR moves on by 1 modulo 2,048 (R407). -/
theorem State.ucaddr_ucNext (s : State) (k : Nat) :
    (s.ucNext k).fld F.CORE_UCADDR_ADDR k = (s.fld F.CORE_UCADDR_ADDR k + 1) % 2048 := by
  rw [State.ucNext, State.fld_setFld _ _ _ _ (by decide) (by decide)]
  simp

@[simp] theorem State.fld_setPc (s : State) (c : Nat) (v : Word) (f : Fld) (n : Nat) : (s.setPc c v).fld f n = s.fld f n := rfl
@[simp] theorem State.fld_setGpr (s : State) (c i : Nat) (v : Word) (f : Fld) (n : Nat) : (s.setGpr c i v).fld f n = s.fld f n := by
  simp [State.fld]

/-- Settles O12: each CRD and CWR is its access to the control register after the fetch, and the pc goes on. -/
theorem controlRegisterMoves : Obligations.ControlRegisterMoves := by
  unfold Obligations.ControlRegisterMoves
  intro c rd a s ready k u w ua key
  have road : u.roadPend = none := ready.2.2
  have keyEq : ucKey k ua = key := u.ucKey_ucaddr k
  refine ⟨?readOwn, ?readId, ?writeOwn, ?writeFlags, ?writeBusy, ?writeUcode, ?readUcode⟩
  case readOwn =>
    intro e he
    have named : crName e.1.toNat = some e.2 ∧ crDefined e.1.toNat = true := by
      revert e; decide
    exact exec_crd ready named.2 (u.crRead_own k named.1) road
  case readId => exact exec_crd ready rfl rfl road
  case writeOwn =>
    intro e he
    have named : crName e.1.toNat = some e.2.1 ∧ crWritable e.1.toNat = true ∧ (regRow e.2.1).rw = e.2.2 ∧ (regRow e.2.1).w1c = 0 := by
      revert e; decide +kernel
    obtain ⟨name, writable, rw_, w1c⟩ := named
    refine ⟨_, exec_cwr_own a ready writable name, ?_, State.pcOf_setPc _ _ _, ?_, ?_⟩
    · rw [State.reg_setPc, State.reg_regStore_idle, State.storedWord_of_w1c_eq_zero _ _ _ _ w1c, rw_]
    · intro r
      rw [State.gpr_setPc, State.gpr_regStore]
    · rw [State.setPc_mem, State.regStore_mem]
  case writeFlags =>
    have masks : (regRow .CORE_FXSTAT).rw = 0 ∧ (regRow .CORE_FXSTAT).w1c = 3#32 := by decide +kernel
    refine ⟨_, exec_cwr_own a ready rfl (r := .CORE_FXSTAT) rfl, ?_⟩
    rw [State.reg_setPc, State.reg_regStore_idle, State.storedWord_of_rw_eq_zero _ _ _ _ masks.1, masks.2]
  case writeBusy =>
    intro busy
    have written : exec (.cwr c 0 a 0 0x012) s = .next ((u.setFld F.CORE_UCSTAT_WLOCK 1 k).setPc k (u.pcOf k + 4)) := by
      rw [← u.crWrite_ucdata_busy k w busy]; exact exec_cwr a ready rfl
    refine ⟨_, written, by simp [State.setPc], ?_, ?_⟩
    · rw [State.flag, State.fld_setPc, State.fld_setFld _ _ _ _ (by decide) (by decide)]
      decide
    · rw [State.fld_setPc, State.fld_setFld_of_ne _ _ _ _ _ _ (by decide)]
  case writeUcode =>
    intro free
    have written := u.crWrite_ucdata k w free
    have moved : (u.crWrite k 0x12 w).fld F.CORE_UCADDR_ADDR k = (ua + 1) % 2048 := by
      rw [written, State.ucaddr_ucNext]; rfl
    have ucode : (u.crWrite k 0x12 w).core.ucode = Tab.putD u.core.ucode key 0 w := by
      rw [written, ← keyEq]; simp [State.ucNext, State.mendRam, ua]
    refine ⟨_, exec_cwr a ready rfl, ?_, moved, ?_⟩
    · exact (congrArg (Tab.getD · key 0) ucode).trans (Tab.getD_putD_self _ _ _ _)
    · intro j hj
      exact (congrArg (Tab.getD · j 0) ucode).trans (Tab.getD_putD_of_ne _ _ _ _ _ _ hj)
  case readUcode =>
    intro clean
    refine ⟨_, exec_crd ready rfl (u.crRead_ucdata k clean) (by simpa [State.ucNext] using road), ?_, ?_⟩
    · intro hrd
      have : rd.toNat ≠ 0 := fun e => hrd (BitVec.eq_of_toNat_eq e)
      rw [State.regThenNext, State.gpr_setPc, State.gpr_setGpr _ _ _ _ this, u.ucKey_ucaddr]
    · rw [State.regThenNext, State.fld_setPc, State.fld_setGpr, State.ucaddr_ucNext]

end Sys2Proof.Machine
end

section
/-! Register writes at an address, with the rights of their initiators (R30, R39, R41, R68, R127), and what reset leaves (R8). -/

namespace Sys2Proof.Machine

/-! ### Which clusters an initiator acts for -/

/-- The debug port acts for no cluster without a session or once DEBUG_DISABLE is blown (R46, R68). -/
theorem State.rights_debug_eq_nil (s : State) : s.rights 27 = [] ↔ s.debugDisabled = true ∨ s.core.debug = false := by
  have acts : (if s.security == 0 || s.hcp.debugScope.isSome then [0] else [1, 2]) ≠ [] := by split <;> simp
  unfold State.rights
  rw [if_neg (by decide), ite_eq_left_iff, iff_false_intro acts]
  cases s.debugDisabled <;> simp

/-- A debug port that acts for some cluster acts for CL0 where the debug functions reach everything, else for CL1 and CL2 (R127). -/
theorem State.rights_debug_open (s : State) (h : s.rights 27 ≠ []) :
    s.rights 27 = if s.security = 0 ∨ s.hcp.debugScope.isSome = true then [0] else [1, 2] := by
  unfold State.rights at h ⊢
  rw [if_neg (by decide)] at h ⊢
  split
  · rename_i shut; simp [shut] at h
  · simp

/-! ### A register write at an address -/

/-- An initiator that acts for no cluster writes nothing (R68). -/
theorem State.regWrite_noRights (s : State) (who a : Nat) (w : Word) (h : s.rights who = []) : (s.regWrite who a w).2 = s := by
  unfold State.regWrite State.noRight
  simp [h]

/-- A write at an address that no register answers is logged (R30). -/
theorem State.regWrite_nowhere (s : State) (who a : Nat) (w : Word) (hd : inDbg a = false) (hr : s.rights who ≠ [])
    (ha : regAt (s.actsAs who) a = none) : s.regWrite who a w = (.error, s.noDecode who (BitVec.ofNat 32 a)) := by
  unfold State.regWrite
  simp [hd, hr, ha]

/-- A write at the address of a register takes place for the first cluster whose rights permit it (R39). -/
theorem State.regWrite_permitted {s : State} {who a n cl : Nat} (w : Word) {r : RegName} (hd : inDbg a = false) (hr : s.rights who ≠ [])
    (ha : regAt (s.actsAs who) a = some (r, n)) (hc : s.regRight who r n true = some cl) :
    s.regWrite who a w = (.ok, s.writeReg cl r n w) := by
  unfold State.regWrite
  simp [hd, hr, ha, hc]

/-- A write at the address of a register that no right permits is logged (R41). -/
theorem State.regWrite_denied {s : State} {who a n : Nat} (w : Word) {r : RegName} (hd : inDbg a = false) (hr : s.rights who ≠ [])
    (ha : regAt (s.actsAs who) a = some (r, n)) (hc : s.regRight who r n true = none) :
    s.regWrite who a w = (.error, s.deniedLog who a) := by
  unfold State.regWrite
  simp [hd, hr, ha, hc]

/-- CL0 writes every register (R39). -/
theorem State.regRight_cl0 (s : State) (who : Nat) (r : RegName) (n : Nat) (writing : Bool) (h : s.rights who = [0]) :
    s.regRight who r n writing = some 0 := by
  simp [State.regRight, h]

/-- A user cluster writes what its rights permit (R39). -/
theorem State.regRight_user (s : State) (who cl : Nat) (r : RegName) (n : Nat) (writing : Bool) (h : s.rights who = [cl])
    (hu : s.userReach cl r n writing = true) : s.regRight who r n writing = some cl := by
  simp [State.regRight, h, hu]

/-- No cluster's rights permit the access (R41). -/
theorem State.regRight_eq_none (s : State) (who : Nat) (r : RegName) (n : Nat) (writing : Bool)
    (h : ∀ cl ∈ s.rights who, cl ≠ 0 ∧ s.userReach cl r n writing = false) : s.regRight who r n writing = none := by
  rw [State.regRight, List.find?_eq_none]
  intro cl hcl
  obtain ⟨h0, hu⟩ := h cl hcl
  simp [h0, hu]

/-- REGISTER_WRITE with the system domain off writes nothing (R37). -/
theorem exec_registerWrite_off (who : Who) (a w : Word) (s : State) (h : s.sysOn = false) :
    exec (.registerWrite who a w) s = .next s.done := by
  show execRegisterWrite who a w s = _
  simp [execRegisterWrite, h]

/-- REGISTER_WRITE with the system domain on is the write at its address (R9). -/
theorem exec_registerWrite_on (who : Who) (a w : Word) (s : State) (h : s.sysOn = true) :
    exec (.registerWrite who a w) s = .next (s.regWrite who.val a.toNat w).2.done := by
  show execRegisterWrite who a w s = _
  simp [execRegisterWrite, h]

/-- Settles O31: by the clusters that the initiator acts for, and what the address reaches. -/
theorem registerAccess : Obligations.RegisterAccess := by
  unfold Obligations.RegisterAccess
  intro who a w s ends l
  refine ⟨?off, ?noRights, ?nowhere, ?register, ?debugPort⟩
  case off => exact exec_registerWrite_off who a w s
  case noRights =>
    intro hl
    cases on : s.sysOn with
    | false => exact exec_registerWrite_off who a w s on
    | true =>
      show exec _ s = _
      rw [exec_registerWrite_on who a w s on, State.regWrite_noRights s _ _ w hl]
  case nowhere =>
    intro on hd hl ha
    show exec _ s = _
    rw [exec_registerWrite_on who a w s on, State.regWrite_nowhere s _ _ w hd hl ha, State.noDecode, BitVec.ofNat_toNat, BitVec.setWidth_eq]
  case register =>
    intro r n on hd hl ha
    have written : exec (.registerWrite who a w) s = _ := exec_registerWrite_on who a w s on
    refine ⟨?cl0, ?user, ?denied⟩
    case cl0 =>
      intro h
      rwa [State.regWrite_permitted w hd hl ha (s.regRight_cl0 _ r n true h)] at written
    case user =>
      intro cl h hu
      rwa [State.regWrite_permitted w hd hl ha (s.regRight_user _ cl r n true h hu)] at written
    case denied =>
      intro h
      rwa [State.regWrite_denied w hd hl ha (s.regRight_eq_none _ r n true h), State.deniedLog, BitVec.ofNat_toNat, BitVec.setWidth_eq] at written
  case debugPort =>
    intro hw
    have hl : l = s.rights 27 := by rw [← hw]
    have forCl0 : s.forCl0 who ↔ l = [0] := Iff.rfl
    rw [forCl0, hl]
    refine ⟨s.rights_debug_eq_nil, ?_, ?_⟩
    · intro h
      have := s.rights_debug_open (by simp [h])
      rw [h] at this
      by_contra shut
      simp [shut] at this
    · intro h h0
      rw [s.rights_debug_open h] at h0 ⊢
      split at h0
      · exact absurd rfl h0
      · rw [if_neg ‹_›]

/-! ### Reset -/

/-- Where no register is listed, every register holds its reset value (R8). -/
theorem State.reg_of_regs_nil (s : State) (h : s.regs = []) (r : RegName) (n : Nat) : s.reg r n = regReset r n := by
  rw [State.reg, h]; rfl

/-- Where no general register is listed, every one reads zero. -/
theorem State.gpr_of_nil (s : State) (h : s.core.gpr = []) (c i : Nat) : s.gpr c i = 0 := by
  rw [State.gpr, h]; split <;> rfl

/-- Where no accumulator is listed, every one reads zero. -/
theorem State.acc_of_nil (s : State) (h : s.core.acc = []) (c k : Nat) : s.acc c k = 0 := by
  rw [State.acc, h]; rfl

/-- Settles O32: the reset state lists no register, no byte and no core register, and its power-state register says no Roadside. -/
theorem resetState : Obligations.ResetState := by
  unfold Obligations.ResetState
  refine ⟨State.reg_of_regs_nil _ rfl, rfl, rfl, rfl, State.gpr_of_nil _ rfl, State.acc_of_nil _ rfl, ?noExch, ?noRoadside⟩
  case noExch => decide
  case noRoadside =>
    rw [State.inRoadside, State.flag, State.fld, State.reg_of_regs_nil _ rfl]
    decide

end Sys2Proof.Machine
end

section
/-! The memory of a state through the functions of the model (R31). A function that does not write the memory has a lemma f_mem, which says
that it leaves it as it is; a function that may write it has a lemma f_canon, which says that it keeps the canonical form. They stand in the
order of the model, one rule per function, so that each proof unfolds its own function alone and cites the rules of those that it calls.

The calls of simp carry -implicitDefEqProofs: a step that simp justifies by rfl has the kernel compare two states field by field, and it
then evaluates whole register files to compare the memories that they stand beside. -/

namespace Sys2Proof.Machine

/-- Memory.wf as a predicate that simp does not unfold: the addresses listed rise strictly, and no byte listed equals what an unlisted
address reads as. -/
def Memory.Canon (m : List Host.Cell) : Prop := Memory.wf m

@[simp] theorem Memory.canon_ite (c : Prop) [Decidable c] (m n : List Host.Cell) :
    Memory.Canon (if c then m else n) ↔ if c then Memory.Canon m else Memory.Canon n := by
  split <;> rfl

@[simp] theorem Memory.canon_keep {m : List Host.Cell} (hm : Memory.Canon m) (p : Nat → Byte → Bool) : Memory.Canon (Tab.keep m p) :=
  Tab.canon_keep memDefault m p hm

@[simp] theorem Memory.canon_putD {m : List Host.Cell} (hm : Memory.Canon m) (a : Nat) (b : Byte) :
    Memory.Canon (Tab.putD m a (memDefault a) b) :=
  Tab.canon_putD memDefault m a b hm

@[simp] theorem State.mem_ite (c : Prop) [Decidable c] (a b : State) : (if c then a else b).mem = if c then a.mem else b.mem :=
  apply_ite State.mem c a b

@[simp] theorem State.snd_ite {α β : Type} (c : Prop) [Decidable c] (a b : α × β) : (if c then a else b).2 = if c then a.2 else b.2 :=
  apply_ite Prod.snd c a b

/-- What every step of a fold leaves as it is, the fold leaves as it is. -/
theorem foldOver_proj {α β : Type} (g : State → β) (f : α → State → State) (hf : ∀ a s, g (f a s) = g s) (l : List α) (s : State) :
    g (foldOver f l s) = g s := by
  induction l generalizing s with
  | nil => rfl
  | cons a l ih => rw [foldOver_cons, ih, hf]

@[simp] theorem foldOver_mem {α : Type} (f : α → State → State) (hf : ∀ a s, (f a s).mem = s.mem) (l : List α) (s : State) :
    (foldOver f l s).mem = s.mem :=
  foldOver_proj State.mem f hf l s

/-- A fold keeps the canonical form when every step does. -/
@[simp] theorem foldOver_canon {α : Type} (f : α → State → State) (hf : ∀ a s, Memory.Canon s.mem → Memory.Canon (f a s).mem) (l : List α)
    (s : State) (hs : Memory.Canon s.mem) : Memory.Canon (foldOver f l s).mem :=
  foldOver_inv (fun s => Memory.Canon s.mem) f hf l s hs

/-! ### State, counters and references -/

@[simp] theorem State.setFlag_mem (s : State) (f : Fld) (b : Bool) (n : Nat) : (s.setFlag f b n).mem = s.mem := by
  simp -implicitDefEqProofs [State.setFlag]

@[simp] theorem State.bump_mem (s : State) (f : Fld) (n d : Nat) : (s.bump f n d).mem = s.mem := by
  simp -implicitDefEqProofs [State.bump]

@[simp] theorem State.bumpWrap_mem (s : State) (f : Fld) (n d : Nat) : (s.bumpWrap f n d).mem = s.mem := by
  simp -implicitDefEqProofs [State.bumpWrap]

@[simp] theorem State.setWlock_mem (s : State) (r : RegName) (n : Nat) : (s.setWlock r n).mem = s.mem := by
  unfold State.setWlock; split <;> simp -implicitDefEqProofs

@[simp] theorem State.inputFree_mem (c : Nat) (s : State) : (State.inputFree c s).mem = s.mem := by
  simp -implicitDefEqProofs [State.inputFree]

@[simp] theorem State.setByte_canon (s : State) (a : Nat) (b : Byte) (hs : Memory.Canon s.mem) :
    Memory.Canon (s.setByte a b).mem := by
  simp -implicitDefEqProofs [State.setByte, hs]

@[simp] theorem State.setBytes_canon (s : State) (a : Nat) (bs : Bytes) (hs : Memory.Canon s.mem) :
    Memory.Canon (s.setBytes a bs).mem := by
  induction bs generalizing s a with
  | nil => exact hs
  | cons b l ih => exact ih _ _ (State.setByte_canon _ _ _ hs)

@[simp] theorem State.clearMem_canon (s : State) (a n : Nat) (hs : Memory.Canon s.mem) : Memory.Canon (s.clearMem a n).mem := by
  simp -implicitDefEqProofs [State.clearMem, hs]

@[simp] theorem State.fresh_mem (s : State) (bound : Nat) : (s.fresh bound).2.mem = s.mem := by
  simp -implicitDefEqProofs [State.fresh]

@[simp] theorem State.freshBytes_mem (s : State) (n : Nat) : (s.freshBytes n).2.mem = s.mem := by
  simp -implicitDefEqProofs [State.freshBytes]

@[simp] theorem State.publish_mem (s : State) (p : Nat) : (s.publish p).mem = s.mem := by simp -implicitDefEqProofs [State.publish]

@[simp] theorem State.unpublish_mem (s : State) (p : Nat) : (s.unpublish p).mem = s.mem := by
  simp -implicitDefEqProofs [State.unpublish]

/-! ### Host packets -/

@[simp] theorem State.takeSlot_mem (s : State) (t : Tp) : (s.takeSlot t).mem = s.mem := by
  simp -implicitDefEqProofs [State.takeSlot]

@[simp] theorem State.rateApply_mem (s : State) (t : Tp) (p : Pkt) : (s.rateApply t p).mem = s.mem := by
  dsimp only [State.rateApply]; split <;> simp -implicitDefEqProofs

@[simp] theorem State.rateSent_mem (s : State) (tp : Nat) : (s.rateSent tp).mem = s.mem := by
  simp -implicitDefEqProofs [State.rateSent]

@[simp] theorem State.answer_mem (s : State) (h : Hdr) (opcode flags : Nat) (st : Status) (par data : Bytes) :
    (s.answer h opcode flags st par data).mem = s.mem := by
  dsimp only [State.answer]; split <;> simp -implicitDefEqProofs

@[simp] theorem State.authFailed_mem (s : State) (t : Tp) : (s.authFailed t).mem = s.mem := by
  simp -implicitDefEqProofs [State.authFailed]

@[simp] theorem State.reply_mem (s : State) (h : Hdr) (opcode : Nat) (st : Status) (par data : Bytes) :
    (s.reply h opcode st par data).mem = s.mem := by
  simp -implicitDefEqProofs [State.reply]

@[simp] theorem State.accept_mem (s : State) (h : Hdr) (opcode arg : Nat) (par data : Bytes) :
    (s.accept h opcode arg par data).mem = s.mem := by
  simp -implicitDefEqProofs [State.accept]

@[simp] theorem State.trialEnd_mem (s : State) (j : Job) (st : Status) : (s.trialEnd j st).mem = s.mem := by
  simp -implicitDefEqProofs [State.trialEnd]

@[simp] theorem State.ownNext_mem (s : State) (j : Job) (st : Status) : (s.ownNext j st).mem = s.mem := by
  simp -implicitDefEqProofs [State.ownNext]

@[simp] theorem State.complete_mem (s : State) (id : Nat) (st : Status) (par data : Bytes) :
    (s.complete id st par data).mem = s.mem := by
  unfold State.complete; split <;> simp -implicitDefEqProofs

@[simp] theorem State.notifyOn_mem (k : Nat) (content : Bytes) (t : Tp) (s : State) :
    (State.notifyOn k content t s).mem = s.mem := by
  simp -implicitDefEqProofs [State.notifyOn]

@[simp] theorem State.notify_mem (s : State) (k : Nat) (content : Bytes) : (s.notify k content).mem = s.mem := by
  simp -implicitDefEqProofs [State.notify]

@[simp] theorem State.notifyLost_mem (s : State) (t : Tp) : (s.notifyLost t).mem = s.mem := by
  simp -implicitDefEqProofs [State.notifyLost]

/-! ### Errors -/

@[simp] theorem State.countClass_mem (s : State) (cls : Nat) : (s.countClass cls).mem = s.mem := by
  simp -implicitDefEqProofs [State.countClass]

@[simp] theorem State.publishClass_mem (s : State) (cls : Nat) : (s.publishClass cls).mem = s.mem := by
  simp -implicitDefEqProofs [State.publishClass]

@[simp] theorem State.wantRoadside_mem (s : State) (cause : Nat) : (s.wantRoadside cause).mem = s.mem := by
  unfold State.wantRoadside; split <;> simp -implicitDefEqProofs

@[simp] theorem State.setLog_mem (s : State) (k : Nat) (e : LogEntry) : (s.setLog k e).mem = s.mem := by
  simp -implicitDefEqProofs [State.setLog]

@[simp] theorem State.layEntries_mem (s : State) (slots : List Nat) (es : List LogEntry) : (s.layEntries slots es).mem = s.mem := by
  simp -implicitDefEqProofs [State.layEntries]

@[simp] theorem State.renameNotes_mem (s : State) (moved : List (Bytes × Bytes)) : (s.renameNotes moved).mem = s.mem := by
  unfold State.renameNotes
  split
  · rfl
  · refine foldOver_mem _ (fun t u => ?_) _ _
    dsimp only
    split <;> simp

@[simp] theorem State.writeEntry_mem (s : State) (slot : Option Nat) (e : LogEntry) : (s.writeEntry slot e).mem = s.mem := by
  dsimp only [State.writeEntry]; split <;> simp -implicitDefEqProofs

@[simp] theorem State.newEntry_mem (s : State) (k : Nat) (e : LogEntry) : (s.newEntry k e).mem = s.mem := by
  simp -implicitDefEqProofs [State.newEntry]

@[simp] theorem State.logFull_mem (s : State) (e : LogEntry) : (s.logFull e).mem = s.mem := by
  simp -implicitDefEqProofs [State.logFull]

@[simp] theorem State.countIn_mem (s : State) (k : Nat) (old new : LogEntry) : (s.countIn k old new).mem = s.mem := by
  simp -implicitDefEqProofs [State.countIn]

@[simp] theorem State.logError_mem (s : State) (cls src : Nat) (info : Word) (syndrome : Nat) :
    (s.logError cls src info syndrome).mem = s.mem := by
  dsimp only [State.logError]; (repeat' split) <;> simp -implicitDefEqProofs

@[simp] theorem State.raise_mem (s : State) (cls code unit : Nat) (info : Word) : (s.raise cls code unit info).mem = s.mem := by
  simp -implicitDefEqProofs [State.raise]

@[simp] theorem State.raiseDram_mem (s : State) (cls : Nat) (addr : Word) : (s.raiseDram cls addr).mem = s.mem := by
  simp -implicitDefEqProofs [State.raiseDram]

@[simp] theorem State.fatal_mem (s : State) (code unit : Nat) (info : Word) (cause : Nat) :
    (s.fatal code unit info cause).mem = s.mem := by
  simp -implicitDefEqProofs [State.fatal]

/-! ### The state of the cores -/

@[simp] theorem State.setGpr_mem (s : State) (c i : Nat) (v : Word) : (s.setGpr c i v).mem = s.mem := by
  simp -implicitDefEqProofs [State.setGpr]

@[simp] theorem State.coresLose_mem (s : State) (p : Nat → Bool) : (s.coresLose p).mem = s.mem := by
  simp -implicitDefEqProofs [State.coresLose]

@[simp] theorem State.clusterLose_canon (cl : Nat) (s : State) (hs : Memory.Canon s.mem) :
    Memory.Canon (State.clusterLose cl s).mem := by
  simp -implicitDefEqProofs [State.clusterLose, hs]

@[simp] theorem State.enter_mem (s : State) (c : Nat) (x : Cause) (reta faddr : Word) : (s.enter c x reta faddr).mem = s.mem := by
  simp -implicitDefEqProofs [State.enter]

@[simp] theorem State.doubleFault_mem (s : State) (c : Nat) : (s.doubleFault c).mem = s.mem := by
  simp -implicitDefEqProofs [State.doubleFault]

@[simp] theorem State.except_mem (s : State) (c : Nat) (x : Cause) (reta faddr : Word) : (s.except c x reta faddr).mem = s.mem := by
  simp -implicitDefEqProofs [State.except]

@[simp] theorem State.noDecode_mem (s : State) (who : Nat) (addr : Word) : (s.noDecode who addr).mem = s.mem := by
  simp -implicitDefEqProofs [State.noDecode]

/-! ### EVF -/

@[simp] theorem State.evfRefuse_mem (s : State) : s.evfRefuse.mem = s.mem := by simp -implicitDefEqProofs [State.evfRefuse]

@[simp] theorem State.evfPubWrite_mem (s : State) (cl p : Nat) (w : Word) : (s.evfPubWrite cl p w).mem = s.mem := by
  simp -implicitDefEqProofs [State.evfPubWrite]

@[simp] theorem State.evfSubWrite_mem (s : State) (cl c : Nat) (w : Word) : (s.evfSubWrite cl c w).mem = s.mem := by
  simp -implicitDefEqProofs [State.evfSubWrite]

@[simp] theorem State.dropPub_mem (p : Nat) (s : State) : (State.dropPub p s).mem = s.mem := by
  simp -implicitDefEqProofs [State.dropPub]

@[simp] theorem State.dropSub_mem (c : Nat) (s : State) : (State.dropSub c s).mem = s.mem := by
  simp -implicitDefEqProofs [State.dropSub]

@[simp] theorem State.tmrOwnerChanged_mem (s : State) (n : Nat) : (s.tmrOwnerChanged n).mem = s.mem := by
  simp -implicitDefEqProofs [State.tmrOwnerChanged]

@[simp] theorem State.cmpOwnerChanged_mem (s : State) (k : Nat) : (s.cmpOwnerChanged k).mem = s.mem := by
  simp -implicitDefEqProofs [State.cmpOwnerChanged]

@[simp] theorem State.gpioOwnerChanged_mem (s : State) (n : Nat) : (s.gpioOwnerChanged n).mem = s.mem := by
  simp -implicitDefEqProofs [State.gpioOwnerChanged]

@[simp] theorem State.chOwnerChanged_mem (s : State) (ch : Nat) : (s.chOwnerChanged ch).mem = s.mem := by
  simp -implicitDefEqProofs [State.chOwnerChanged]

@[simp] theorem State.evfChWrite_mem (s : State) (ch : Nat) (w : Word) : (s.evfChWrite ch w).mem = s.mem := by
  simp -implicitDefEqProofs [State.evfChWrite]

@[simp] theorem State.evfGrpOwnWrite_mem (s : State) (w : Word) : (s.evfGrpOwnWrite w).mem = s.mem := by
  simp -implicitDefEqProofs [State.evfGrpOwnWrite]

@[simp] theorem State.evfGpioWrite_mem (s : State) (cl n : Nat) (w : Word) : (s.evfGpioWrite cl n w).mem = s.mem := by
  simp -implicitDefEqProofs [State.evfGpioWrite]

@[simp] theorem State.groupSet_mem (s : State) (g : Nat) (opening : Bool) : (s.groupSet g opening).mem = s.mem := by
  simp -implicitDefEqProofs [State.groupSet]

@[simp] theorem State.evfGrpWrite_mem (s : State) (cl : Nat) (opening : Bool) (w : Word) :
    (s.evfGrpWrite cl opening w).mem = s.mem := by
  simp -implicitDefEqProofs [State.evfGrpWrite]

@[simp] theorem State.evfFire_mem (s : State) (cl ch : Nat) : (s.evfFire cl ch).mem = s.mem := by
  simp -implicitDefEqProofs [State.evfFire]

@[simp] theorem State.evfAdvance_mem (s : State) : s.evfAdvance.mem = s.mem := by simp -implicitDefEqProofs [State.evfAdvance]

@[simp] theorem State.evfArrive_mem (s : State) : (s.evfArrive).2.mem = s.mem := by
  unfold State.evfArrive; split <;> simp -implicitDefEqProofs

@[simp] theorem State.evfRelease_mem (s : State) : s.evfRelease.mem = s.mem := by simp -implicitDefEqProofs [State.evfRelease]

@[simp] theorem State.setOvr_mem (s : State) (c : Nat) : (s.setOvr c).mem = s.mem := by simp -implicitDefEqProofs [State.setOvr]

@[simp] theorem State.coalesce_mem (s : State) (c n : Nat) (busy : Bool) : (s.coalesce c n busy).mem = s.mem := by
  simp -implicitDefEqProofs [State.coalesce]

/-! ### Timers and the RTC -/

@[simp] theorem State.setNt_mem (s : State) (t : Nat) : (s.setNt t).mem = s.mem := by simp -implicitDefEqProofs [State.setNt]

@[simp] theorem State.addNt_mem (s : State) (d : Int) : (s.addNt d).mem = s.mem := by simp -implicitDefEqProofs [State.addNt]

@[simp] theorem State.ntCycle_mem (s : State) : s.ntCycle.mem = s.mem := by simp -implicitDefEqProofs [State.ntCycle]

@[simp] theorem State.discUp_mem (s : State) : s.discUp.mem = s.mem := by simp -implicitDefEqProofs [State.discUp]

@[simp] theorem State.discDown_mem (s : State) : s.discDown.mem = s.mem := by simp -implicitDefEqProofs [State.discDown]

@[simp] theorem State.ntMoved_mem (s : State) : s.ntMoved.mem = s.mem := by simp -implicitDefEqProofs [State.ntMoved]

@[simp] theorem State.setCmpVal_mem (s : State) (k v : Nat) : (s.setCmpVal k v).mem = s.mem := by
  simp -implicitDefEqProofs [State.setCmpVal]

@[simp] theorem State.cmpArm_mem (s : State) (k : Nat) (tick : Word) : (s.cmpArm k tick).mem = s.mem := by
  simp -implicitDefEqProofs [State.cmpArm]

@[simp] theorem State.cmpDisarm_mem (s : State) (k : Nat) : (s.cmpDisarm k).mem = s.mem := by
  simp -implicitDefEqProofs [State.cmpDisarm]

@[simp] theorem State.cmpFire_mem (k : Nat) (s : State) : (State.cmpFire k s).mem = s.mem := by
  simp -implicitDefEqProofs [State.cmpFire]

@[simp] theorem State.cmpSweep_mem (s : State) : s.cmpSweep.mem = s.mem := by simp -implicitDefEqProofs [State.cmpSweep]

@[simp] theorem State.tmrReload_mem (s : State) (n : Nat) : (s.tmrReload n).mem = s.mem := by
  simp -implicitDefEqProofs [State.tmrReload]

@[simp] theorem State.tmrStop_mem (n : Nat) (s : State) : (State.tmrStop n s).mem = s.mem := by
  simp -implicitDefEqProofs [State.tmrStop]

@[simp] theorem State.tmrExpireSelf_mem (s : State) (n : Nat) : (s.tmrExpireSelf n).mem = s.mem := by
  simp -implicitDefEqProofs [State.tmrExpireSelf]

@[simp] theorem State.tmrTake_mem (n : Nat) (s : State) : (State.tmrTake n s).mem = s.mem := by
  simp -implicitDefEqProofs [State.tmrTake]

@[simp] theorem State.tmrLoad_mem (s : State) (n : Nat) : (s.tmrLoad n).mem = s.mem := by simp -implicitDefEqProofs [State.tmrLoad]

@[simp] theorem State.tmrStart_mem (s : State) (n : Nat) : (s.tmrStart n).mem = s.mem := by
  simp -implicitDefEqProofs [State.tmrStart]

@[simp] theorem State.tmrRestart_mem (n : Nat) (s : State) : (State.tmrRestart n s).mem = s.mem := by
  simp -implicitDefEqProofs [State.tmrRestart]

@[simp] theorem State.tmrHalt_mem (n : Nat) (s : State) : (State.tmrHalt n s).mem = s.mem := by
  simp -implicitDefEqProofs [State.tmrHalt]

@[simp] theorem State.tmrCount_mem (s0 : State) (n : Nat) (w : Word) : (s0.tmrCount n w).mem = s0.mem := by
  simp -implicitDefEqProofs [State.tmrCount]

@[simp] theorem State.tmrBufWrite_mem (s : State) (n : Nat) (w : Word) : (s.tmrBufWrite n w).mem = s.mem := by
  simp -implicitDefEqProofs [State.tmrBufWrite]

@[simp] theorem State.tmrDown_mem (s : State) (n : Nat) : (s.tmrDown n).mem = s.mem := by simp -implicitDefEqProofs [State.tmrDown]

@[simp] theorem State.tmrCycle_mem (n : Nat) (s : State) : (State.tmrCycle n s).mem = s.mem := by
  simp -implicitDefEqProofs [State.tmrCycle]

@[simp] theorem State.tmrTick_mem (ms : List Nat) (n : Nat) (s : State) : (State.tmrTick ms n s).mem = s.mem := by
  simp -implicitDefEqProofs [State.tmrTick]

@[simp] theorem State.tmrCycles_mem (s : State) : s.tmrCycles.mem = s.mem := by simp -implicitDefEqProofs [State.tmrCycles]

@[simp] theorem State.tmrCtrlWrite_mem (s : State) (cl n : Nat) (w : Word) : (s.tmrCtrlWrite cl n w).mem = s.mem := by
  simp -implicitDefEqProofs [State.tmrCtrlWrite]

@[simp] theorem State.cmpCtrlWrite_mem (s : State) (cl k : Nat) (w : Word) : (s.cmpCtrlWrite cl k w).mem = s.mem := by
  simp -implicitDefEqProofs [State.cmpCtrlWrite]

@[simp] theorem State.setCal_mem (s : State) (t : Nat) : (s.setCal t).mem = s.mem := by simp -implicitDefEqProofs [State.setCal]

@[simp] theorem State.wdaySet_mem (s : State) : s.wdaySet.mem = s.mem := by simp -implicitDefEqProofs [State.wdaySet]

@[simp] theorem State.alarmFire_mem (s : State) (a t : Nat) (passed : Bool) : (s.alarmFire a t passed).mem = s.mem := by
  simp -implicitDefEqProofs [State.alarmFire]

@[simp] theorem State.alarmPast_mem (a t : Nat) (s : State) : (State.alarmPast a t s).mem = s.mem := by
  unfold State.alarmPast; split <;> simp -implicitDefEqProofs

@[simp] theorem State.alarms_mem (s : State) (t : Nat) : (s.alarms t).mem = s.mem := by simp -implicitDefEqProofs [State.alarms]

@[simp] theorem State.alarmsAdjust_mem (s : State) (old new : Nat) : (s.alarmsAdjust old new).mem = s.mem := by
  refine foldOver_mem _ (fun a u => ?_) _ _
  dsimp only
  (repeat' split) <;> simp

@[simp] theorem State.calSecond_mem (s : State) : s.calSecond.mem = s.mem := by simp -implicitDefEqProofs [State.calSecond]

@[simp] theorem State.edgeUndo_mem (s : State) : (s.edgeUndo).2.mem = s.mem := by
  unfold State.edgeUndo; split <;> simp -implicitDefEqProofs

@[simp] theorem State.calAdjust_mem (s0 : State) (d : Int) : (s0.calAdjust d).mem = s0.mem := by
  simp -implicitDefEqProofs [State.calAdjust]

@[simp] theorem State.rtcHalt_mem (s : State) : s.rtcHalt.mem = s.mem := by simp -implicitDefEqProofs [State.rtcHalt]

@[simp] theorem State.rtcRelease_mem (s : State) : s.rtcRelease.mem = s.mem := by
  dsimp only [State.rtcRelease]; (repeat' split) <;> simp -implicitDefEqProofs

@[simp] theorem State.ntFromRtc_mem (s : State) : s.ntFromRtc.mem = s.mem := by simp -implicitDefEqProofs [State.ntFromRtc]

@[simp] theorem State.rtcSyncOfs_mem (s : State) : s.rtcSyncOfs.mem = s.mem := by simp -implicitDefEqProofs [State.rtcSyncOfs]

@[simp] theorem State.rtcCapture_mem (s : State) : s.rtcCapture.mem = s.mem := by simp -implicitDefEqProofs [State.rtcCapture]

@[simp] theorem State.chargeStop_mem (s : State) : s.chargeStop.mem = s.mem := by simp -implicitDefEqProofs [State.chargeStop]

@[simp] theorem State.vbakMeasure_mem (s : State) (powered : Bool) (mv : Nat) : (s.vbakMeasure powered mv).mem = s.mem := by
  simp -implicitDefEqProofs [State.vbakMeasure]

/-! ### SRAM and DRAM -/

@[simp] theorem State.upsetRam_mem (s : State) (w : RamWord) (bits : Nat) : (s.upsetRam w bits).mem = s.mem := by
  simp -implicitDefEqProofs [State.upsetRam]

@[simp] theorem State.mendRam_mem (s : State) (w : RamWord) : (s.mendRam w).mem = s.mem := by
  simp -implicitDefEqProofs [State.mendRam]

@[simp] theorem State.checkRam_mem (s : State) (w : RamWord) : (s.checkRam w).2.mem = s.mem := by
  unfold State.checkRam; split <;> simp -implicitDefEqProofs

@[simp] theorem State.upsetDram_mem (s : State) (a bits : Nat) : (s.upsetDram a bits).mem = s.mem := by
  simp -implicitDefEqProofs [State.upsetDram]

@[simp] theorem State.mendDram_mem (s : State) (a : Nat) : (s.mendDram a).mem = s.mem := by
  simp -implicitDefEqProofs [State.mendDram]

@[simp] theorem State.dramTouch_mem (s : State) (a : Nat) (write : Bool) : (s.dramTouch a write).mem = s.mem := by
  simp -implicitDefEqProofs [State.dramTouch]

@[simp] theorem State.checkDram_mem (s0 : State) (a : Nat) (write : Bool) : (s0.checkDram a write).2.mem = s0.mem := by
  dsimp only [State.checkDram]; split <;> simp -implicitDefEqProofs

@[simp] theorem State.filterCold_mem (s : State) : s.filterCold.mem = s.mem := by simp -implicitDefEqProofs [State.filterCold]

@[simp] theorem State.dramLost_canon (s : State) (hs : Memory.Canon s.mem) : Memory.Canon s.dramLost.mem := by
  simp -implicitDefEqProofs [State.dramLost, hs]

@[simp] theorem State.dmcInit_canon (s : State) (hs : Memory.Canon s.mem) : Memory.Canon s.dmcInit.mem := by
  simp -implicitDefEqProofs [State.dmcInit, hs]

@[simp] theorem State.dmcCycle_mem (s : State) : s.dmcCycle.mem = s.mem := by simp -implicitDefEqProofs [State.dmcCycle]

@[simp] theorem State.dmcStop_canon (s : State) (hs : Memory.Canon s.mem) : Memory.Canon s.dmcStop.mem := by
  simp -implicitDefEqProofs [State.dmcStop, hs]

@[simp] theorem State.dmcPllLoss_canon (s : State) (hs : Memory.Canon s.mem) : Memory.Canon s.dmcPllLoss.mem := by
  simp -implicitDefEqProofs [State.dmcPllLoss, hs]

@[simp] theorem State.dmcSelfRefresh_mem (s : State) : s.dmcSelfRefresh.mem = s.mem := by
  simp -implicitDefEqProofs [State.dmcSelfRefresh]

@[simp] theorem State.dmcSelfRefreshExit_canon (s : State) (kept : Bool) (hs : Memory.Canon s.mem) :
    Memory.Canon (s.dmcSelfRefreshExit kept).mem := by
  simp -implicitDefEqProofs [State.dmcSelfRefreshExit, hs]

@[simp] theorem State.dmcFail_mem (s : State) (err : Nat) : (s.dmcFail err).mem = s.mem := by
  simp -implicitDefEqProofs [State.dmcFail]

@[simp] theorem State.dmcTrained_canon (s : State) (mr8 : Byte) (gb ranks : Nat) (typeOk : Bool) (fail : Nat) (kept : Bool)
    (hs : Memory.Canon s.mem) :
    Memory.Canon (s.dmcTrained mr8 gb ranks typeOk fail kept).mem := by
  simp -implicitDefEqProofs [State.dmcTrained, hs]

@[simp] theorem State.dmcFill_mem (s : State) (pos : Word) : (s.dmcFill pos).mem = s.mem := by
  simp -implicitDefEqProofs [State.dmcFill]

@[simp] theorem State.recentreEnd_mem (s : State) (rd wr : Nat) : (s.recentreEnd rd wr).mem = s.mem := by
  simp -implicitDefEqProofs [State.recentreEnd]

@[simp] theorem State.dmcRefresh_mem (s : State) (postpone : Bool) : (s.dmcRefresh postpone).mem = s.mem := by
  simp -implicitDefEqProofs [State.dmcRefresh]

@[simp] theorem State.dmcPause_mem (s : State) : s.dmcPause.mem = s.mem := by simp -implicitDefEqProofs [State.dmcPause]

@[simp] theorem State.dmcTrack_mem (s : State) (drift : BitVec 8) (rd wr : Nat) : (s.dmcTrack drift rd wr).mem = s.mem := by
  simp -implicitDefEqProofs [State.dmcTrack]

@[simp] theorem State.dmcStep_mem (s : State) (rd wr : Nat) : (s.dmcStep rd wr).mem = s.mem := by
  unfold State.dmcStep; split <;> simp -implicitDefEqProofs

@[simp] theorem State.dmcMr4_mem (s : State) (rate : Nat) (hot : Bool) : (s.dmcMr4 rate hot).mem = s.mem := by
  simp -implicitDefEqProofs [State.dmcMr4]

@[simp] theorem State.dmcScrub_mem (s : State) (bits : Nat) : (s.dmcScrub bits).mem = s.mem := by
  simp -implicitDefEqProofs [State.dmcScrub]

/-! ### Flash and OTP -/

@[simp] theorem State.setMark_mem (s : State) (w : Nat) (b : Bool) : (s.setMark w b).mem = s.mem := by
  simp -implicitDefEqProofs [State.setMark]

@[simp] theorem State.setMarks_mem (s : State) (w n : Nat) (b : Bool) : (s.setMarks w n b).mem = s.mem := by
  simp -implicitDefEqProofs [State.setMarks]

@[simp] theorem State.eraseSector_canon (s : State) (sec : Nat) (hs : Memory.Canon s.mem) :
    Memory.Canon (s.eraseSector sec).mem := by
  simp -implicitDefEqProofs [State.eraseSector, hs]

@[simp] theorem State.writeNative_canon (s : State) (off : Nat) (b : Bytes) (hs : Memory.Canon s.mem) :
    Memory.Canon (s.writeNative off b).mem := by
  simp -implicitDefEqProofs [State.writeNative, hs]

@[simp] theorem State.updateTable_canon (s : State) (magic base : Nat) (t : FlTable) (es : List FlEntry) (hs : Memory.Canon s.mem) :
    Memory.Canon (s.updateTable magic base t es).2.mem := by
  simp -implicitDefEqProofs [State.updateTable, hs]

@[simp] theorem State.setPartial_canon (s : State) (es : List FlEntry) (hs : Memory.Canon s.mem) :
    Memory.Canon (s.setPartial es).mem := by
  simp -implicitDefEqProofs [State.setPartial, hs]

@[simp] theorem State.addPartial_canon (s : State) (e : FlEntry) (hs : Memory.Canon s.mem) : Memory.Canon (s.addPartial e).mem := by
  simp -implicitDefEqProofs [State.addPartial, hs]

@[simp] theorem State.readReport_mem (s : State) (cl0 : Bool) (line n : Nat) : (s.readReport cl0 line n).mem = s.mem := by
  simp -implicitDefEqProofs [State.readReport]

@[simp] theorem State.arrayRead_mem (s : State) (cl0 : Bool) (line : Nat) : (s.arrayRead cl0 line).2.mem = s.mem := by
  simp -implicitDefEqProofs [State.arrayRead]

@[simp] theorem State.readLine_mem (s : State) (cl0 : Bool) (off : Nat) : (s.readLine cl0 off).2.mem = s.mem := by
  dsimp only [State.readLine]; (repeat' split) <;> simp -implicitDefEqProofs

@[simp] theorem State.readLines_mem (s : State) (cl0 : Bool) (line n best : Nat) : (s.readLines cl0 line n best).2.mem = s.mem := by
  induction n generalizing s line best with
  | zero => rfl
  | succ n ih =>
    unfold State.readLines
    split
    · next e => obtain rfl := congrArg Prod.snd e; simp -implicitDefEqProofs [ih]
    · simp

@[simp] theorem State.readSpan_mem (s : State) (off n : Nat) : (s.readSpan off n).2.mem = s.mem := by
  simp -implicitDefEqProofs [State.readSpan]

@[simp] theorem State.readTable_mem (s : State) (magic sector : Nat) : (s.readTable magic sector).2.mem = s.mem := by
  unfold State.readTable
  dsimp only
  split <;> next e => obtain rfl := congrArg Prod.snd e; simp -implicitDefEqProofs

@[simp] theorem State.flcPost_mem (s : State) (req : FlcReq) (tag code : Nat) : (s.flcPost req tag code).mem = s.mem := by
  unfold State.flcPost; split <;> simp -implicitDefEqProofs

@[simp] theorem State.flcDone_mem (s : State) (req : FlcReq) (tag code : Nat) : (s.flcDone req tag code).mem = s.mem := by
  simp -implicitDefEqProofs [State.flcDone]

@[simp] theorem State.flcTag_mem (s : State) : (s.flcTag).2.mem = s.mem := by simp -implicitDefEqProofs [State.flcTag]

@[simp] theorem State.flcSuspend_mem (s : State) (req : FlcReq) : (s.flcSuspend req).mem = s.mem := by
  dsimp only [State.flcSuspend]; split <;> simp -implicitDefEqProofs

@[simp] theorem State.flcResume_mem (s : State) (req : FlcReq) : (s.flcResume req).mem = s.mem := by
  dsimp only [State.flcResume]; split <;> simp -implicitDefEqProofs

theorem State.flcQueue_mem (s : State) (w : Word) (req : FlcReq) (t : State) (e : s.flcQueue w req = some t) : t.mem = s.mem := by
  unfold State.flcQueue at e
  split at e
  · cases e
  · obtain rfl := Option.some.inj e
    simp -implicitDefEqProofs

@[simp] theorem State.flcWrite_mem (s : State) (w : Word) : (s.flcWrite w).mem = s.mem := by
  unfold State.flcWrite
  split
  · simp
  · simp
  · split
    · next e => exact State.flcQueue_mem _ _ _ _ e
    · simp

@[simp] theorem State.openRecord_canon (s : State) (kind off : Nat) (hs : Memory.Canon s.mem) :
    Memory.Canon (s.openRecord kind off).mem := by
  simp -implicitDefEqProofs [State.openRecord, hs]

@[simp] theorem State.closeRecord_canon (s : State) (hs : Memory.Canon s.mem) : Memory.Canon s.closeRecord.mem := by
  unfold State.closeRecord; split <;> simp -implicitDefEqProofs [hs]

@[simp] theorem State.flcResumeDue_mem (s : State) : s.flcResumeDue.mem = s.mem := by
  dsimp only [State.flcResumeDue]; (repeat' split) <;> simp -implicitDefEqProofs

@[simp] theorem State.updFull_mem (s : State) (u : TabUpdate) : (s.updFull u).mem = s.mem := by
  unfold State.updFull; split <;> simp -implicitDefEqProofs

@[simp] theorem State.updEnd_mem (s : State) (u : TabUpdate) : (s.updEnd u).mem = s.mem := by
  simp -implicitDefEqProofs [State.updEnd]

@[simp] theorem State.updSettle_mem (fuel : Nat) (s : State) : (State.updSettle fuel s).mem = s.mem := by
  induction fuel generalizing s with
  | zero => rfl
  | succ n ih => unfold State.updSettle; (repeat' split) <;> simp [ih]

@[simp] theorem State.updNext_mem (s : State) : s.updNext.mem = s.mem := by simp -implicitDefEqProofs [State.updNext]

@[simp] theorem State.updAdd_mem (s : State) (u : TabUpdate) : (s.updAdd u).mem = s.mem := by
  simp -implicitDefEqProofs [State.updAdd]

@[simp] theorem State.growBad_mem (s : State) (b kind : Nat) (req : FlcReq) (tag code : Nat) :
    (s.growBad b kind req tag code).mem = s.mem := by
  simp -implicitDefEqProofs [State.growBad]

@[simp] theorem State.updFinish_mem (s : State) (u : TabUpdate) : (s.updFinish u).mem = s.mem := by
  dsimp only [State.updFinish]; split <;> simp -implicitDefEqProofs

@[simp] theorem State.cutTable_canon (s : State) (u : TabUpdate) (hs : Memory.Canon s.mem) : Memory.Canon (s.cutTable u).mem := by
  simp -implicitDefEqProofs [State.cutTable, hs]

@[simp] theorem State.updFail_canon (s : State) (u : TabUpdate) (hs : Memory.Canon s.mem) : Memory.Canon (s.updFail u).mem := by
  simp -implicitDefEqProofs [State.updFail, hs]

@[simp] theorem State.updWrite_canon (s : State) (u : TabUpdate) (n : Nat) (hs : Memory.Canon s.mem) :
    Memory.Canon (s.updWrite u n).mem := by
  simp -implicitDefEqProofs [State.updWrite, hs]

@[simp] theorem State.setUpdate_mem (s : State) (u : TabUpdate) : (s.setUpdate u).mem = s.mem := by
  simp -implicitDefEqProofs [State.setUpdate]

@[simp] theorem State.pulseOver_mem (s : State) : s.pulseOver.mem = s.mem := by simp -implicitDefEqProofs [State.pulseOver]

@[simp] theorem State.updLine_canon (s : State) (u : TabUpdate) (n : Nat) (verified : Bool) (hs : Memory.Canon s.mem) :
    Memory.Canon (s.updLine u n verified).mem := by
  simp -implicitDefEqProofs [State.updLine, hs]

@[simp] theorem State.updPulse_canon (s : State) (u : TabUpdate) (verified : Bool) (hs : Memory.Canon s.mem) :
    Memory.Canon (s.updPulse u verified).mem := by
  simp -implicitDefEqProofs [State.updPulse, hs]

@[simp] theorem State.updCut_canon (s : State) (hs : Memory.Canon s.mem) : Memory.Canon s.updCut.mem := by
  dsimp only [State.updCut]; (repeat' split) <;> simp -implicitDefEqProofs [hs]

@[simp] theorem State.flcStart_canon (s : State) (hs : Memory.Canon s.mem) : Memory.Canon s.flcStart.mem := by
  dsimp only [State.flcStart]; (repeat' split) <;> simp -implicitDefEqProofs [hs]

@[simp] theorem State.flcProgramEnd_canon (s : State) (bank : Nat) (verified : Bool) (hs : Memory.Canon s.mem) :
    Memory.Canon (s.flcProgramEnd bank verified).mem := by
  dsimp only [State.flcProgramEnd]; (repeat' split) <;> simp -implicitDefEqProofs [hs]

@[simp] theorem State.pageSource_mem (s : State) (a n : Nat) : (s.pageSource a n).2.mem = s.mem := by
  induction n generalizing s a with
  | zero => rfl
  | succ n ih => simp -implicitDefEqProofs [State.pageSource, ih]

@[simp] theorem State.pageData_mem (s : State) (c : FlcCmd) : (s.pageData c).2.mem = s.mem := by
  simp -implicitDefEqProofs [State.pageData]

@[simp] theorem State.flcPageEnd_canon (s : State) (last verified : Bool) (hs : Memory.Canon s.mem) :
    Memory.Canon (s.flcPageEnd last verified).mem := by
  unfold State.flcPageEnd; split <;> simp -implicitDefEqProofs [hs]

@[simp] theorem State.eraseBlock_canon (s : State) (off : Nat) (hs : Memory.Canon s.mem) : Memory.Canon (s.eraseBlock off).mem := by
  simp -implicitDefEqProofs [State.eraseBlock, hs]

@[simp] theorem State.flcEraseDone_canon (s : State) (r : EraseRun) (hs : Memory.Canon s.mem) :
    Memory.Canon (s.flcEraseDone r).mem := by
  simp -implicitDefEqProofs [State.flcEraseDone, hs]

@[simp] theorem State.flcErasePulse_canon (s : State) (verified : Bool) (hs : Memory.Canon s.mem) :
    Memory.Canon (s.flcErasePulse verified).mem := by
  dsimp only [State.flcErasePulse]; (repeat' split) <;> simp -implicitDefEqProofs [hs]

@[simp] theorem State.flcBlankDone_mem (s : State) : s.flcBlankDone.mem = s.mem := by
  unfold State.flcBlankDone; split <;> simp -implicitDefEqProofs

@[simp] theorem State.pageCut_mem (s : State) : s.pageCut.mem = s.mem := by
  unfold State.pageCut; split <;> simp -implicitDefEqProofs

@[simp] theorem State.flcAbort_canon (s : State) (hs : Memory.Canon s.mem) : Memory.Canon s.flcAbort.mem := by
  simp -implicitDefEqProofs +contextual [State.flcAbort, hs]

@[simp] theorem State.bootTable_canon (s : State) (magic base : Nat) (hs : Memory.Canon s.mem) :
    Memory.Canon (s.bootTable magic base).2.mem := by
  dsimp only [State.bootTable]; split <;> simp -implicitDefEqProofs [hs]

@[simp] theorem State.bootRecord_canon (k : Nat) (s : State) (hs : Memory.Canon s.mem) :
    Memory.Canon (State.bootRecord k s).mem := by
  unfold State.bootRecord
  split
  · next e =>
    obtain rfl := congrArg Prod.snd e
    split <;> simp -implicitDefEqProofs [hs]
  · next e => obtain rfl := congrArg Prod.snd e; simp -implicitDefEqProofs [hs]

@[simp] theorem State.bootRecords_canon (s : State) (hs : Memory.Canon s.mem) : Memory.Canon s.bootRecords.mem := by
  simp -implicitDefEqProofs +contextual [State.bootRecords, hs]

@[simp] theorem State.eraseRecorded_canon (s : State) (sec : Nat) (hs : Memory.Canon s.mem) :
    Memory.Canon (s.eraseRecorded sec).mem :=
  State.closeRecord_canon _ (State.eraseSector_canon _ _ (State.openRecord_canon _ _ _ hs))

@[simp] theorem State.otpReload_mem (s : State) : s.otpReload.mem = s.mem := by simp -implicitDefEqProofs [State.otpReload]

@[simp] theorem State.otpCtrl_mem (s : State) (w : Word) : (s.otpCtrl w).mem = s.mem := by
  dsimp only [State.otpCtrl]; (repeat' split) <;> simp -implicitDefEqProofs

@[simp] theorem State.otpBurn_mem (s : State) (row half v : Nat) : (s.otpBurn row half v).mem = s.mem := by
  simp -implicitDefEqProofs [State.otpBurn]

@[simp] theorem State.setHalf_mem (s : State) (row half : Nat) (h : HalfState) : (s.setHalf row half h).mem = s.mem := by
  simp -implicitDefEqProofs [State.setHalf]

@[simp] theorem State.otpDone_mem (s : State) (cut crcOk : Bool) : (s.otpDone cut crcOk).mem = s.mem := by
  unfold State.otpDone; split <;> simp -implicitDefEqProofs

/-! ### The radios -/

@[simp] theorem State.ctxFree_mem (s : State) (c : Nat) : (s.ctxFree c).mem = s.mem := by simp -implicitDefEqProofs [State.ctxFree]

@[simp] theorem State.ctxTake_mem (s : State) (c : Nat) (x : Ctx) : (s.ctxTake c x).mem = s.mem := by
  simp -implicitDefEqProofs [State.ctxTake]

@[simp] theorem State.setLane_mem (s : State) (n st : Nat) : (s.setLane n st).mem = s.mem := by
  simp -implicitDefEqProofs [State.setLane]

@[simp] theorem State.dropWindow_mem (s : State) (n : Nat) : (s.dropWindow n).mem = s.mem := by
  simp -implicitDefEqProofs [State.dropWindow]

@[simp] theorem State.laneOff_mem (s : State) (n : Nat) : (s.laneOff n).mem = s.mem := by simp -implicitDefEqProofs [State.laneOff]

@[simp] theorem State.cutCount_mem (s : State) (n : Nat) : (s.cutCount n).mem = s.mem := by
  simp -implicitDefEqProofs [State.cutCount]

@[simp] theorem State.laneCut_mem (n : Nat) (s : State) : (State.laneCut n s).mem = s.mem := by
  unfold State.laneCut; split <;> simp -implicitDefEqProofs

@[simp] theorem State.setHist_mem (s : State) (n : Nat) (l : List Bool) (open_ : Nat) : (s.setHist n l open_).mem = s.mem := by
  simp -implicitDefEqProofs [State.setHist]

@[simp] theorem State.laneSearch_mem (s : State) (n : Nat) : (s.laneSearch n).mem = s.mem := by
  simp -implicitDefEqProofs [State.laneSearch]

@[simp] theorem State.laneNext_mem (s : State) (n : Nat) : (s.laneNext n).mem = s.mem := by
  simp -implicitDefEqProofs [State.laneNext]

@[simp] theorem State.laneStart_mem (s : State) (n : Nat) : (s.laneStart n).mem = s.mem := by
  simp -implicitDefEqProofs [State.laneStart]

@[simp] theorem State.laneClear_mem (s : State) (n : Nat) : (s.laneClear n).mem = s.mem := by
  simp -implicitDefEqProofs [State.laneClear]

@[simp] theorem State.laneEnable_mem (s : State) (n : Nat) : (s.laneEnable n).mem = s.mem := by
  dsimp only [State.laneEnable]; (repeat' split) <;> simp -implicitDefEqProofs

@[simp] theorem State.laneDisable_mem (s : State) (n : Nat) : (s.laneDisable n).mem = s.mem := by
  simp -implicitDefEqProofs [State.laneDisable]

@[simp] theorem State.laneKill_mem (s : State) (n : Nat) : (s.laneKill n).mem = s.mem := by
  simp -implicitDefEqProofs [State.laneKill]

@[simp] theorem State.laneCtrlWrite_mem (s : State) (n : Nat) (w : Word) : (s.laneCtrlWrite n w).mem = s.mem := by
  simp -implicitDefEqProofs [State.laneCtrlWrite]

@[simp] theorem State.laneOffsetWrite_mem (s : State) (n : Nat) (w : Word) : (s.laneOffsetWrite n w).mem = s.mem := by
  simp -implicitDefEqProofs [State.laneOffsetWrite]

@[simp] theorem State.bankStop_mem (s : State) : s.bankStop.mem = s.mem := by simp -implicitDefEqProofs [State.bankStop]

@[simp] theorem State.bankGo_mem (s : State) : s.bankGo.mem = s.mem := by simp -implicitDefEqProofs [State.bankGo]

@[simp] theorem State.bankWrite_mem (s : State) (w : Word) : (s.bankWrite w).mem = s.mem := by
  simp -implicitDefEqProofs [State.bankWrite]

@[simp] theorem State.peakUndo_mem (s : State) : s.peakUndo.mem = s.mem := by simp -implicitDefEqProofs [State.peakUndo]

@[simp] theorem State.syncUndo_mem (n : Nat) (s : State) : (State.syncUndo n s).mem = s.mem := by
  dsimp only [State.syncUndo]; (repeat' split) <;> simp -implicitDefEqProofs

@[simp] theorem State.blank_mem (s : State) (p : Nat) : (s.blank p).mem = s.mem := by simp -implicitDefEqProofs [State.blank]

@[simp] theorem State.rxRise_mem (s : State) (p : Nat) : (s.rxRise p).mem = s.mem := by simp -implicitDefEqProofs [State.rxRise]

@[simp] theorem State.synToLo_mem (s : State) (p : Nat) : (s.synToLo p).mem = s.mem := by simp -implicitDefEqProofs [State.synToLo]

@[simp] theorem State.rxStop_mem (p : Nat) (s : State) : (State.rxStop p s).mem = s.mem := by
  simp -implicitDefEqProofs [State.rxStop]

@[simp] theorem State.gainStep_mem (s : State) (p : Nat) : (s.gainStep p).mem = s.mem := by
  simp -implicitDefEqProofs [State.gainStep]

@[simp] theorem State.setAtten_mem (s : State) (p v : Nat) : (s.setAtten p v).mem = s.mem := by
  simp -implicitDefEqProofs [State.setAtten]

@[simp] theorem State.attenUp_mem (s : State) (p : Nat) (clip high : Bool) : (s.attenUp p clip high).mem = s.mem := by
  simp -implicitDefEqProofs [State.attenUp]

@[simp] theorem State.attenDown_mem (s : State) (p : Nat) : (s.attenDown p).mem = s.mem := by
  simp -implicitDefEqProofs [State.attenDown]

@[simp] theorem State.ctxMiss_mem (s : State) (n : Nat) : (s.ctxMiss n).mem = s.mem := by simp -implicitDefEqProofs [State.ctxMiss]

@[simp] theorem State.laneTake_mem (s : State) (n c errs : Nat) (rssi : BitVec 16) (fofs arrSec : Word) (arrTick : Nat) :
    (s.laneTake n c errs rssi fofs arrSec arrTick).mem = s.mem := by
  simp -implicitDefEqProofs [State.laneTake]

@[simp] theorem State.laneYield_mem (s : State) (m : Nat) : (s.laneYield m).mem = s.mem := by
  unfold State.laneYield; split <;> simp -implicitDefEqProofs

@[simp] theorem State.syncFound_mem (s : State) (n errs : Nat) (rssi : BitVec 16) (fofs arrSec : Word) (arrTick : Nat) :
    (s.syncFound n errs rssi fofs arrSec arrTick).mem = s.mem := by
  dsimp only [State.syncFound]; (repeat' split) <;> simp -implicitDefEqProofs

@[simp] theorem State.syncHeard_mem (s : State) (n : Nat) (new : List Bool) (level : BitVec 16) (fofs arrSec : Word) (arrTick : Nat) :
    (s.syncHeard n new level fofs arrSec arrTick).mem = s.mem := by
  dsimp only [State.syncHeard]; (repeat' split) <;> simp -implicitDefEqProofs

@[simp] theorem State.headerEnd_mem (s : State) (n : Nat) (hdr : Half) : (s.headerEnd n hdr).mem = s.mem := by
  unfold State.headerEnd; split <;> simp -implicitDefEqProofs

@[simp] theorem State.headerSoft_mem (s : State) (n : Nat) (soft : List Soft) : (s.headerSoft n soft).mem = s.mem := by
  simp -implicitDefEqProofs [State.headerSoft]

@[simp] theorem State.laneLast_mem (s : State) (n : Nat) (f : LaneFrame) (quality : Nat) :
    (s.laneLast n f quality).mem = s.mem := by
  simp -implicitDefEqProofs [State.laneLast]

@[simp] theorem State.laneFrameEnd_mem (s : State) (n : Nat) (f : LaneFrame) (quality : Nat) :
    (s.laneFrameEnd n f quality).mem = s.mem := by
  simp -implicitDefEqProofs [State.laneFrameEnd]

@[simp] theorem State.calDone_mem (s : State) (n imageRej : Nat) : (s.calDone n imageRej).mem = s.mem := by
  simp -implicitDefEqProofs [State.calDone]

@[simp] theorem State.calWindow_mem (s : State) (n : Nat) : (s.calWindow n).mem = s.mem := by
  simp -implicitDefEqProofs [State.calWindow]

@[simp] theorem State.calWindowDone_mem (s : State) (n imageRej : Nat) (level : BitVec 16) :
    (s.calWindowDone n imageRej level).mem = s.mem := by
  simp -implicitDefEqProofs [State.calWindowDone]

@[simp] theorem State.calibrateEnd_mem (s : State) (n imageRej : Nat) : (s.calibrateEnd n imageRej).mem = s.mem := by
  simp -implicitDefEqProofs [State.calibrateEnd]

@[simp] theorem State.calDue_mem (s : State) (n secs : Nat) : (s.calDue n secs).mem = s.mem := by
  simp -implicitDefEqProofs [State.calDue]

/-! ### Transmission -/

@[simp] theorem State.setLedger_mem (s : State) (k v : Nat) : (s.setLedger k v).mem = s.mem := by
  simp -implicitDefEqProofs [State.setLedger]

@[simp] theorem State.ledgerClamp_mem (k : Nat) (s : State) : (State.ledgerClamp k s).mem = s.mem := by
  simp -implicitDefEqProofs [State.ledgerClamp]

@[simp] theorem State.ledgerRefill_mem (s : State) : s.ledgerRefill.mem = s.mem := by simp -implicitDefEqProofs [State.ledgerRefill]

@[simp] theorem State.rgnWrite_mem (s : State) (n : Nat) (w : Word) : (s.rgnWrite n w).mem = s.mem := by
  simp -implicitDefEqProofs [State.rgnWrite]

@[simp] theorem State.synStore_mem (s : State) (p freq : Nat) : (s.synStore p freq).mem = s.mem := by
  simp -implicitDefEqProofs [State.synStore]

@[simp] theorem State.synUse_mem (s : State) (p freq : Nat) : (s.synUse p freq).mem = s.mem := by
  unfold State.synUse; split <;> simp -implicitDefEqProofs

@[simp] theorem State.synClear_mem (s : State) (p : Nat) : (s.synClear p).mem = s.mem := by
  simp -implicitDefEqProofs [State.synClear]

@[simp] theorem State.pushResult_mem (s : State) (w nt : Word) : (s.pushResult w nt).mem = s.mem := by
  simp -implicitDefEqProofs [State.pushResult]

@[simp] theorem State.txPost_mem (s : State) (e : TxEntry) (code late airStart : Nat) :
    (s.txPost e code late airStart).mem = s.mem := by
  unfold State.txPost; split <;> simp -implicitDefEqProofs

@[simp] theorem State.txAccept_mem (s : State) (e : TxEntry) : (s.txAccept e).2.mem = s.mem := by
  simp -implicitDefEqProofs [State.txAccept]

@[simp] theorem State.txSubmit_mem (s : State) (e : TxEntry) (fields : Bool) : (s.txSubmit e fields).2.mem = s.mem := by
  unfold State.txSubmit; split <;> simp -implicitDefEqProofs

@[simp] theorem State.txRefused_mem (s : State) (code : Nat) : (s.txRefused code).mem = s.mem := by
  simp -implicitDefEqProofs [State.txRefused]

@[simp] theorem State.txWrite_mem (s : State) (w3 : Word) : (s.txWrite w3).mem = s.mem := by
  unfold State.txWrite
  dsimp only
  split <;> next e => obtain rfl := congrArg Prod.snd e; simp -implicitDefEqProofs

@[simp] theorem State.txResultRead_mem (s : State) : (s.txResultRead).2.mem = s.mem := by
  unfold State.txResultRead; split <;> simp -implicitDefEqProofs

@[simp] theorem State.setExc_mem (s : State) (p : Nat) (x : Excursion) : (s.setExc p x).mem = s.mem := by
  simp -implicitDefEqProofs [State.setExc]

@[simp] theorem State.dropExc_mem (s : State) (p : Nat) : (s.dropExc p).mem = s.mem := by simp -implicitDefEqProofs [State.dropExc]

@[simp] theorem State.release_mem (s : State) (x : Excursion) : (s.release x).mem = s.mem := by
  unfold State.release; split <;> simp -implicitDefEqProofs

@[simp] theorem State.excBack_mem (s : State) (p : Nat) : (s.excBack p).mem = s.mem := by simp -implicitDefEqProofs [State.excBack]

@[simp] theorem State.setPins_mem (s : State) (p pins0 bias0 : Nat) (drv0 : Bool) : (s.setPins p pins0 bias0 drv0).mem = s.mem := by
  simp -implicitDefEqProofs [State.setPins]

@[simp] theorem State.pinsSafe_mem (s : State) (p : Nat) : (s.pinsSafe p).mem = s.mem := by
  simp -implicitDefEqProofs [State.pinsSafe]

@[simp] theorem State.pinsRx_mem (s : State) (p : Nat) : (s.pinsRx p).mem = s.mem := by simp -implicitDefEqProofs [State.pinsRx]

@[simp] theorem State.pinsBack_mem (s : State) (p : Nat) : (s.pinsBack p).mem = s.mem := by
  simp -implicitDefEqProofs [State.pinsBack]

@[simp] theorem State.femcfgWrite_mem (s : State) (p : Nat) (running : Bool) (w : Word) :
    (s.femcfgWrite p running w).mem = s.mem := by
  simp -implicitDefEqProofs [State.femcfgWrite]

@[simp] theorem State.clamped_mem (s : State) : s.clamped.mem = s.mem := by simp -implicitDefEqProofs [State.clamped]

@[simp] theorem State.femStep_mem (s : State) (p k : Nat) (x : Excursion) : (s.femStep p k x).mem = s.mem := by
  simp -implicitDefEqProofs [State.femStep]

@[simp] theorem State.txLose_mem (s : State) (winner e : TxEntry) : (s.txLose winner e).mem = s.mem := by
  unfold State.txLose; split <;> simp -implicitDefEqProofs

@[simp] theorem State.txGo_mem (s : State) (e : TxEntry) (reserved : Option (Nat × Nat)) : (s.txGo e reserved).mem = s.mem := by
  unfold State.txGo; split <;> simp -implicitDefEqProofs

@[simp] theorem State.txStale_mem (s : State) (e : TxEntry) : (s.txStale e).mem = s.mem := by
  simp -implicitDefEqProofs [State.txStale]

@[simp] theorem State.txLaunch_mem (s0 : State) (e0 : TxEntry) : (s0.txLaunch e0).mem = s0.mem := by
  dsimp only [State.txLaunch]; (repeat' split) <;> simp -implicitDefEqProofs

@[simp] theorem State.launchTag_mem (s : State) (tag : Nat) : (s.launchTag tag).mem = s.mem := by
  unfold State.launchTag; split <;> simp -implicitDefEqProofs

@[simp] theorem State.launchDue_mem (s : State) : s.launchDue.mem = s.mem := by simp -implicitDefEqProofs [State.launchDue]

@[simp] theorem State.synAtLo_mem (s : State) (p : Nat) : (s.synAtLo p).mem = s.mem := by simp -implicitDefEqProofs [State.synAtLo]

@[simp] theorem State.synLock_mem (s : State) (p : Nat) : (s.synLock p).mem = s.mem := by
  dsimp only [State.synLock]; (repeat' split) <;> simp -implicitDefEqProofs

@[simp] theorem State.rxReadyRise_mem (s : State) (p : Nat) : (s.rxReadyRise p).mem = s.mem := by
  simp -implicitDefEqProofs [State.rxReadyRise]

@[simp] theorem State.lbtBusy_mem (s : State) (p : Nat) (x : Excursion) (e : TxEntry) : (s.lbtBusy p x e).mem = s.mem := by
  dsimp only [State.lbtBusy]; (repeat' split) <;> simp -implicitDefEqProofs

@[simp] theorem State.listenEnd_mem (s : State) (p : Nat) (level : BitVec 16) : (s.listenEnd p level).mem = s.mem := by
  dsimp only [State.listenEnd]; (repeat' split) <;> simp -implicitDefEqProofs

@[simp] theorem State.backoffEnd_mem (s : State) (tag : Nat) : (s.backoffEnd tag).mem = s.mem := by
  simp -implicitDefEqProofs [State.backoffEnd]

@[simp] theorem State.setVtag_mem (s : State) (q v : Nat) : (s.setVtag q v).mem = s.mem := by
  simp -implicitDefEqProofs [State.setVtag]

@[simp] theorem State.serve_mem (s : State) (q c : Nat) : (s.serve q c).mem = s.mem := by simp -implicitDefEqProofs [State.serve]

@[simp] theorem State.chargeQueue_mem (s : State) (q cost : Nat) : (s.chargeQueue q cost).mem = s.mem := by
  simp -implicitDefEqProofs [State.chargeQueue]

@[simp] theorem State.airStart_mem (s : State) (p : Nat) : (s.airStart p).mem = s.mem := by
  dsimp only [State.airStart]; (repeat' split) <;> simp -implicitDefEqProofs

@[simp] theorem State.airOver_mem (s : State) (p : Nat) (x : Excursion) (cut : Bool) : (s.airOver p x cut).mem = s.mem := by
  simp -implicitDefEqProofs [State.airOver]

@[simp] theorem State.femStepEnd_mem (s : State) (p : Nat) : (s.femStepEnd p).mem = s.mem := by
  dsimp only [State.femStepEnd]; (repeat' split) <;> simp -implicitDefEqProofs

@[simp] theorem State.txDataEnd_mem (s : State) (p : Nat) : (s.txDataEnd p).mem = s.mem := by
  dsimp only [State.txDataEnd]; (repeat' split) <;> simp -implicitDefEqProofs

@[simp] theorem State.txPull_mem (s : State) (e : TxEntry) : (s.txPull e).mem = s.mem := by
  dsimp only [State.txPull]; (repeat' split) <;> simp -implicitDefEqProofs

@[simp] theorem State.txWithdraw_mem (s : State) (tag : Nat) : (s.txWithdraw tag).mem = s.mem := by
  unfold State.txWithdraw; split <;> simp -implicitDefEqProofs

@[simp] theorem State.txCommit_mem (s : State) (tag : Nat) : (s.txCommit tag).mem = s.mem := by
  simp -implicitDefEqProofs [State.txCommit]

@[simp] theorem State.excStop_mem (s : State) (p : Nat) : (s.excStop p).mem = s.mem := by
  unfold State.excStop; split <;> simp -implicitDefEqProofs

@[simp] theorem State.excPllLoss_mem (p : Nat) (s : State) : (State.excPllLoss p s).mem = s.mem := by
  dsimp only [State.excPllLoss]; (repeat' split) <;> simp -implicitDefEqProofs

@[simp] theorem State.txSilence_mem (s : State) : s.txSilence.mem = s.mem := by simp -implicitDefEqProofs [State.txSilence]

@[simp] theorem State.synRecal_mem (s : State) (p : Nat) (temp : Int) (force : Bool) : (s.synRecal p temp force).mem = s.mem := by
  simp -implicitDefEqProofs [State.synRecal]

@[simp] theorem State.loWrite_mem (s : State) (p : Nat) (w : Word) : (s.loWrite p w).mem = s.mem := by
  dsimp only [State.loWrite]; (repeat' split) <;> simp -implicitDefEqProofs

@[simp] theorem State.portOn_mem (s : State) (p : Nat) : (s.portOn p).mem = s.mem := by simp -implicitDefEqProofs [State.portOn]

@[simp] theorem State.portOff_mem (s : State) (p : Nat) : (s.portOff p).mem = s.mem := by simp -implicitDefEqProofs [State.portOff]

@[simp] theorem State.portDrop_mem (s : State) (p : Nat) : (s.portDrop p).mem = s.mem := by
  simp -implicitDefEqProofs [State.portDrop]

@[simp] theorem State.rfCtrlWrite_mem (s : State) (p : Nat) (w : Word) : (s.rfCtrlWrite p w).mem = s.mem := by
  simp -implicitDefEqProofs [State.rfCtrlWrite]

@[simp] theorem State.wurCfgWrite_mem (s : State) (w : Word) : (s.wurCfgWrite w).mem = s.mem := by
  simp -implicitDefEqProofs [State.wurCfgWrite]

@[simp] theorem State.wurPattern_mem (s0 : State) (addr : Half) (group : Byte) (check : Nat) :
    (s0.wurPattern addr group check).2.mem = s0.mem := by
  simp -implicitDefEqProofs [State.wurPattern]

/-! ### Frames -/

@[simp] theorem State.frmCount_mem (s : State) (k : Nat) : (s.frmCount k).mem = s.mem := by
  simp -implicitDefEqProofs [State.frmCount]

@[simp] theorem State.deriveKey_mem (s : State) (mk : Bytes) (g e : Nat) (src : Bytes) :
    (s.deriveKey mk g e src).2.mem = s.mem := by
  dsimp only [State.deriveKey]; split <;> simp -implicitDefEqProofs

@[simp] theorem State.dropKeys_mem (s : State) (p : KeyLine → Bool) : (s.dropKeys p).mem = s.mem := by
  simp -implicitDefEqProofs [State.dropKeys]

@[simp] theorem State.vaultNow_mem (s : State) (g e : Nat) (key : Bytes) : (s.vaultNow g e key).mem = s.mem := by
  simp -implicitDefEqProofs [State.vaultNow]

@[simp] theorem State.vaultPut_mem (s : State) (g e : Nat) (key : Bytes) : (s.vaultPut g e key).mem = s.mem := by
  simp -implicitDefEqProofs [State.vaultPut]

@[simp] theorem State.vaultSettle_mem (s : State) : s.vaultSettle.mem = s.mem := by simp -implicitDefEqProofs [State.vaultSettle]

@[simp] theorem State.vaultLoad_mem (s : State) (g e : Nat) : (s.vaultLoad g e).mem = s.mem := by
  simp -implicitDefEqProofs [State.vaultLoad]

@[simp] theorem State.vaultErase_mem (s : State) (g e : Nat) : (s.vaultErase g e).mem = s.mem := by
  simp -implicitDefEqProofs [State.vaultErase]

@[simp] theorem State.vaultWrite_mem (s : State) (w : Word) : (s.vaultWrite w).mem = s.mem := by
  unfold State.vaultWrite; split <;> simp -implicitDefEqProofs

@[simp] theorem State.epochWrite_mem (s : State) (g : Nat) (w : Word) : (s.epochWrite g w).mem = s.mem := by
  simp -implicitDefEqProofs [State.epochWrite]

@[simp] theorem State.epochEffect_mem (g : Nat) (s : State) : (State.epochEffect g s).mem = s.mem := by
  simp -implicitDefEqProofs [State.epochEffect]

@[simp] theorem State.ctxDie_mem (s : State) (c : Nat) (x : Ctx) (count : Nat) : (s.ctxDie c x count).mem = s.mem := by
  simp -implicitDefEqProofs [State.ctxDie]

@[simp] theorem State.macHeader_mem (s0 : State) (n : Nat) (hdr : Bytes) : (s0.macHeader n hdr).mem = s0.mem := by
  dsimp only [State.macHeader]; (repeat' split) <;> simp -implicitDefEqProofs

@[simp] theorem State.macSoft_mem (s : State) (n : Nat) (soft : List Soft) : (s.macSoft n soft).mem = s.mem := by
  unfold State.macSoft; split <;> simp -implicitDefEqProofs

@[simp] theorem State.frmFrameEnd_mem (s : State) (f : LaneFrame) (quality : Nat) (body : Bytes) :
    (s.frmFrameEnd f quality body).mem = s.mem := by
  unfold State.frmFrameEnd; split <;> simp -implicitDefEqProofs

@[simp] theorem State.tagCompare_mem (s0 : State) (c : Nat) : (s0.tagCompare c).mem = s0.mem := by
  unfold State.tagCompare; split <;> simp -implicitDefEqProofs

@[simp] theorem State.decryptRecord_mem (s : State) (rec : Bytes) : (s.decryptRecord rec).2.mem = s.mem := by
  dsimp only [State.decryptRecord]; (repeat' split) <;> simp -implicitDefEqProofs

@[simp] theorem State.dupPlace_mem (s : State) : s.dupPlace.mem = s.mem := by simp -implicitDefEqProofs [State.dupPlace]

@[simp] theorem State.dupPut_canon (s : State) (t : Bytes) (w : Nat) (e : DupEntry) (hs : Memory.Canon s.mem) :
    Memory.Canon (s.dupPut t w e).mem := by
  simp -implicitDefEqProofs [State.dupPut, hs]

@[simp] theorem State.frontTouch_mem (s : State) (t : Bytes) : (s.frontTouch t).2.mem = s.mem := by
  simp -implicitDefEqProofs [State.frontTouch]

@[simp] theorem State.dupRead_mem (s : State) (t : Bytes) : (s.dupRead t).2.mem = s.mem := by
  have step (l : List Nat) : ∀ x : Bool × State, x.2.mem = s.mem →
      (l.foldl (fun r k => if r.1 then r.2.checkDram (s.dupAddr t 0 + 8 * k) else r) x).2.mem = s.mem := by
    induction l with
    | nil => exact fun _ h => h
    | cons w l ih => exact fun x h => ih _ (by dsimp only; split <;> simp [h])
  exact step _ _ rfl

@[simp] theorem State.frameNew_mem (s : State) (c : Nat) (x : Ctx) (cold : Bool) : (s.frameNew c x cold).mem = s.mem := by
  simp -implicitDefEqProofs [State.frameNew]

@[simp] theorem State.repeatAnswer_canon (s : State) (c : Nat) (x : Ctx) (w : Nat) (e : DupEntry) (hs : Memory.Canon s.mem) :
    Memory.Canon (s.repeatAnswer c x w e).mem := by
  simp -implicitDefEqProofs [State.repeatAnswer, hs]

@[simp] theorem State.frameRepeat_canon (s : State) (c : Nat) (x : Ctx) (w : Nat) (e : DupEntry) (hs : Memory.Canon s.mem) :
    Memory.Canon (s.frameRepeat c x w e).mem := by
  simp -implicitDefEqProofs [State.frameRepeat, hs]

@[simp] theorem State.filterVerdict_canon (s : State) (c : Nat) (hs : Memory.Canon s.mem) :
    Memory.Canon (s.filterVerdict c).mem := by
  unfold State.filterVerdict
  split
  · exact hs
  · split
    · simp -implicitDefEqProofs [hs]
    · split
      · exact hs
      · extract_lets t cold
        split
        next hit s1 e1 =>
        have h1 : Memory.Canon s1.mem := by obtain rfl := congrArg Prod.snd e1; simp -implicitDefEqProofs [hs]
        split
        next ok s2 e2 =>
        have h2 : Memory.Canon s2.mem := by obtain rfl := congrArg Prod.snd e2; simp -implicitDefEqProofs [h1]
        split
        · extract_lets s3
          have h3 : Memory.Canon s3.mem := foldOver_canon _ (fun w u hu => by simp -implicitDefEqProofs [hu]) _ _ h2
          simp -implicitDefEqProofs [h3]
        · split
          · simp -implicitDefEqProofs [h2]
          · split
            simp -implicitDefEqProofs [h2]

@[simp] theorem State.filterLookup_canon (s : State) (c : Nat) (hs : Memory.Canon s.mem) : Memory.Canon (s.filterLookup c).mem := by
  unfold State.filterLookup; split <;> simp -implicitDefEqProofs [hs]

@[simp] theorem State.ackResult_canon (s : State) (a : AckOf) (aired : Bool) (hs : Memory.Canon s.mem) :
    Memory.Canon (s.ackResult a aired).mem := by
  dsimp only [State.ackResult]; (repeat' split) <;> simp -implicitDefEqProofs [hs]

@[simp] theorem State.dupFlush_canon (s : State) (hs : Memory.Canon s.mem) : Memory.Canon s.dupFlush.mem := by
  simp -implicitDefEqProofs +contextual [State.dupFlush, hs]

@[simp] theorem State.dupWrite_canon (s : State) (w : Word) (hs : Memory.Canon s.mem) : Memory.Canon (s.dupWrite w).mem := by
  simp -implicitDefEqProofs [State.dupWrite, hs]

@[simp] theorem State.coldSecond_mem (s : State) : s.coldSecond.mem = s.mem := by simp -implicitDefEqProofs [State.coldSecond]

@[simp] theorem State.setDownlink_mem (s : State) (d : Downlink) : (s.setDownlink d).mem = s.mem := by
  simp -implicitDefEqProofs [State.setDownlink]

@[simp] theorem State.dropDownlink_mem (s : State) (src : Nat) : (s.dropDownlink src).mem = s.mem := by
  simp -implicitDefEqProofs [State.dropDownlink]

@[simp] theorem State.detour_mem (s0 : State) (d : Downlink) : (s0.detour d).mem = s0.mem := by
  unfold State.detour
  dsimp only
  split
  · simp
  · split
    · next e => obtain rfl := congrArg Prod.snd e; simp -implicitDefEqProofs
    · next e =>
      obtain rfl := congrArg Prod.snd e
      split <;> next e => obtain rfl := congrArg Prod.snd e; simp -implicitDefEqProofs

@[simp] theorem State.planDownlink_mem (s0 : State) (x : Ctx) : (s0.planDownlink x).mem = s0.mem := by
  unfold State.planDownlink
  dsimp only
  (repeat' split) <;> try simp -implicitDefEqProofs
  all_goals next e => obtain rfl := congrArg Prod.snd e; simp -implicitDefEqProofs

@[simp] theorem State.downlinkPull_mem (s : State) (job : Nat) : (s.downlinkPull job).mem = s.mem := by
  simp -implicitDefEqProofs [State.downlinkPull]

@[simp] theorem State.downlinkFail_mem (s : State) (d : Downlink) (mode : Nat) : (s.downlinkFail d mode).mem = s.mem := by
  simp -implicitDefEqProofs [State.downlinkFail]

@[simp] theorem State.downlinkResult_mem (s : State) (job mode code : Nat) : (s.downlinkResult job mode code).mem = s.mem := by
  unfold State.downlinkResult; split <;> simp -implicitDefEqProofs

@[simp] theorem State.pageResult_mem (s : State) (job code : Nat) : (s.pageResult job code).mem = s.mem := by
  unfold State.pageResult; split <;> simp -implicitDefEqProofs

@[simp] theorem State.detourRetry_mem (s : State) (src : Nat) : (s.detourRetry src).mem = s.mem := by
  unfold State.detourRetry; split <;> simp -implicitDefEqProofs

@[simp] theorem State.downlinkEnd_mem (s : State) (src : Nat) (st : Status) : (s.downlinkEnd src st).mem = s.mem := by
  unfold State.downlinkEnd; split <;> simp -implicitDefEqProofs

@[simp] theorem State.downlinkExpire_mem (s : State) (src : Nat) : (s.downlinkExpire src).mem = s.mem := by
  simp -implicitDefEqProofs [State.downlinkExpire]

/-! ### The scheduler -/

@[simp] theorem State.setQueue_mem (s : State) (q : Nat) (l : List SchedEntry) : (s.setQueue q l).mem = s.mem := by
  simp -implicitDefEqProofs [State.setQueue]

@[simp] theorem State.wakeQueue_mem (s : State) (q : Nat) (was : Bool) : (s.wakeQueue q was).mem = s.mem := by
  simp -implicitDefEqProofs [State.wakeQueue]

@[simp] theorem State.append_mem (s : State) (q : Nat) (e : SchedEntry) : (s.append q e).mem = s.mem := by
  simp -implicitDefEqProofs [State.append]

@[simp] theorem State.freshen_mem (s : State) (q : Nat) : (s.freshen q).mem = s.mem := by simp -implicitDefEqProofs [State.freshen]

@[simp] theorem State.push_mem (s : State) (cl q addr len : Nat) : (s.push cl q addr len).mem = s.mem := by
  unfold State.push; split <;> simp -implicitDefEqProofs

@[simp] theorem State.entriesCommit_mem (s : State) (k a : Nat) : (s.entriesCommit k a).mem = s.mem := by
  simp -implicitDefEqProofs [State.entriesCommit]

@[simp] theorem State.entriesDrop_mem (s : State) (k : Nat) : (s.entriesDrop k).mem = s.mem := by
  simp -implicitDefEqProofs [State.entriesDrop]

@[simp] theorem State.gateMove_mem (s : State) (n : Nat) : (s.gateMove n).mem = s.mem := by
  simp -implicitDefEqProofs [State.gateMove]

@[simp] theorem State.gateSwapPlan_mem (s : State) (n : Nat) : (s.gateSwapPlan n).mem = s.mem := by
  simp -implicitDefEqProofs [State.gateSwapPlan]

@[simp] theorem State.gateSwap_mem (s : State) (n : Nat) : (s.gateSwap n).mem = s.mem := by
  simp -implicitDefEqProofs [State.gateSwap]

@[simp] theorem State.refillQueue_mem (q : Nat) (s : State) : (State.refillQueue q s).mem = s.mem := by
  simp -implicitDefEqProofs [State.refillQueue]

@[simp] theorem State.refillAll_mem (s : State) : s.refillAll.mem = s.mem := by simp -implicitDefEqProofs [State.refillAll]

@[simp] theorem State.refillDue_mem (s : State) : s.refillDue.mem = s.mem := by simp -implicitDefEqProofs [State.refillDue]

@[simp] theorem State.unbar_mem (s : State) (q : Nat) (ok : Bool) : (s.unbar q ok).mem = s.mem := by
  simp -implicitDefEqProofs [State.unbar]

@[simp] theorem State.schedPick_mem (s : State) (n len : Nat) : (s.schedPick n len).2.mem = s.mem := by
  simp -implicitDefEqProofs [State.schedPick]

@[simp] theorem State.schedSend_mem (s : State) (q : Nat) : (s.schedSend q).2.mem = s.mem := by
  unfold State.schedSend; split <;> simp -implicitDefEqProofs

@[simp] theorem State.pushRResult_mem (s : State) (q code addr : Nat) : (s.pushRResult q code addr).mem = s.mem := by
  simp -implicitDefEqProofs [State.pushRResult]

@[simp] theorem State.rresultRead_mem (s : State) : (s.rresultRead).2.mem = s.mem := by
  unfold State.rresultRead; split <;> simp -implicitDefEqProofs

@[simp] theorem State.radioEnd_mem (s : State) (q code : Nat) : (s.radioEnd q code).mem = s.mem := by
  unfold State.radioEnd; split <;> simp -implicitDefEqProofs

@[simp] theorem State.flushQueue_mem (s : State) (q : Nat) : (s.flushQueue q).mem = s.mem := by
  dsimp only [State.flushQueue]; (repeat' split) <;> simp -implicitDefEqProofs

@[simp] theorem State.schedGo_mem (s : State) : s.schedGo.mem = s.mem := by simp -implicitDefEqProofs [State.schedGo]

@[simp] theorem State.schedHalt_mem (s : State) : s.schedHalt.mem = s.mem := by simp -implicitDefEqProofs [State.schedHalt]

@[simp] theorem State.schedCtrlWrite_mem (s : State) (w : Word) : (s.schedCtrlWrite w).mem = s.mem := by
  simp -implicitDefEqProofs [State.schedCtrlWrite]

@[simp] theorem State.schedLose_mem (s : State) : s.schedLose.mem = s.mem := by simp -implicitDefEqProofs [State.schedLose]

@[simp] theorem State.schedClusterReset_mem (s : State) (cl : Nat) : (s.schedClusterReset cl).mem = s.mem := by
  simp -implicitDefEqProofs [State.schedClusterReset]

@[simp] theorem State.unitsRestart_mem (s : State) (n : Nat) : (s.unitsRestart n).mem = s.mem := by
  simp -implicitDefEqProofs [State.unitsRestart]

@[simp] theorem State.radioOffer_mem (s0 : State) : s0.radioOffer.mem = s0.mem := by simp -implicitDefEqProofs [State.radioOffer]

@[simp] theorem State.offerDue_mem (s : State) : s.offerDue.mem = s.mem := by simp -implicitDefEqProofs [State.offerDue]

@[simp] theorem State.offerAgain_mem (s : State) : s.offerAgain.mem = s.mem := by simp -implicitDefEqProofs [State.offerAgain]

@[simp] theorem State.radioLaunch_mem (s : State) : s.radioLaunch.mem = s.mem := by
  dsimp only [State.radioLaunch]; (repeat' split) <;> simp -implicitDefEqProofs

@[simp] theorem State.radioResult_mem (s : State) (q code : Nat) : (s.radioResult q code).mem = s.mem := by
  simp -implicitDefEqProofs [State.radioResult]

/-! ### Milestones -/

@[simp] theorem State.openMile_mem (s : State) (k owner policy : Nat) (m : Milestone) :
    (s.openMile k owner policy m).mem = s.mem := by
  simp -implicitDefEqProofs [State.openMile]

theorem State.msuOpenFor_mem (s : State) (cl policy : Nat) (tp : Option Tp) (k : Nat) (t : State)
    (e : s.msuOpenFor cl policy tp = some (k, t)) :
    t.mem = s.mem := by
  unfold State.msuOpenFor at e
  split at e
  · cases e
  · obtain ⟨j, -, hj⟩ := Option.map_eq_some_iff.mp e
    obtain rfl := congrArg Prod.snd hj
    simp -implicitDefEqProofs

@[simp] theorem State.msuOpenRead_mem (s : State) (cl : Nat) : (s.msuOpenRead cl).2.mem = s.mem := by
  unfold State.msuOpenRead
  split
  · next e => exact State.msuOpenFor_mem _ _ _ _ _ _ e
  · simp

@[simp] theorem State.mileEnd_canon (s : State) (k result : Nat) (st : Status) (hs : Memory.Canon s.mem) :
    Memory.Canon (s.mileEnd k result st).mem := by
  dsimp only [State.mileEnd]; (repeat' split) <;> simp -implicitDefEqProofs [hs]

@[simp] theorem State.mileAbort_canon (s : State) (k result : Nat) (st : Status) (hs : Memory.Canon s.mem) :
    Memory.Canon (s.mileAbort k result st).mem := by
  unfold State.mileAbort
  split
  · exact hs
  · refine foldOver_canon _ (fun a t ht => ?_) _ _ (by simp -implicitDefEqProofs [hs])
    split <;> simp -implicitDefEqProofs [ht]

@[simp] theorem State.putAction_canon (s : State) (k : Nat) (a : Action) (hs : Memory.Canon s.mem) :
    Memory.Canon (s.putAction k a).mem := by
  unfold State.putAction; split <;> simp -implicitDefEqProofs [hs]

@[simp] theorem State.addLast_canon (s : State) (cl k : Nat) (a : Action) (hs : Memory.Canon s.mem) :
    Memory.Canon (s.addLast cl k a).2.mem := by
  unfold State.addLast
  split
  · dsimp only
    split <;> next e => obtain rfl := congrArg Prod.snd e; simp -implicitDefEqProofs [hs]
  · split <;> simp -implicitDefEqProofs [hs]
  · split
    · simp -implicitDefEqProofs [hs]
    · dsimp only
      (repeat' split) <;> simp -implicitDefEqProofs [hs]

@[simp] theorem State.msuAdd_canon (s : State) (cl : Nat) (tp : Option Tp) (w0 w1 w2 w3 : Word) (hs : Memory.Canon s.mem) :
    Memory.Canon (s.msuAdd cl tp w0 w1 w2 w3).2.mem := by
  dsimp only [State.msuAdd]; split <;> simp -implicitDefEqProofs [hs]

@[simp] theorem State.msuCmdErr_mem (s : State) : s.msuCmdErr.mem = s.mem := by simp -implicitDefEqProofs [State.msuCmdErr]

@[simp] theorem State.msuActWrite_canon (s : State) (cl : Nat) (w3 : Word) (hs : Memory.Canon s.mem) :
    Memory.Canon (s.msuActWrite cl w3).mem := by
  simp -implicitDefEqProofs [State.msuActWrite, hs]

@[simp] theorem State.ringWrite_canon (s : State) (o : Nat) (bs : Bytes) (hs : Memory.Canon s.mem) :
    Memory.Canon (s.ringWrite o bs).mem := by
  induction bs generalizing s o with
  | nil => exact hs
  | cons b l ih => exact ih _ _ (State.setByte_canon _ _ _ hs)

@[simp] theorem State.jappend_canon (s : State) (b : Bytes) (hs : Memory.Canon s.mem) : Memory.Canon (s.jappend b).mem := by
  simp -implicitDefEqProofs [State.jappend, hs]

@[simp] theorem State.jretire_mem (s : State) (seq : Nat) : (s.jretire seq).mem = s.mem := by
  simp -implicitDefEqProofs [State.jretire]

@[simp] theorem State.pushRecord_mem (r : RingRec) (s : State) : (State.pushRecord r s).mem = s.mem := by
  dsimp only [State.pushRecord]; (repeat' split) <;> simp -implicitDefEqProofs

@[simp] theorem State.forwardRecords_mem (s : State) : s.forwardRecords.mem = s.mem := by
  simp -implicitDefEqProofs [State.forwardRecords]

@[simp] theorem State.recordTimeout_mem (s : State) (seq : Nat) : (s.recordTimeout seq).mem = s.mem := by
  unfold State.recordTimeout; split <;> simp -implicitDefEqProofs

@[simp] theorem State.readyOne_mem (k : Nat) (s : State) : (State.readyOne k s).mem = s.mem := by
  unfold State.readyOne; split <;> simp -implicitDefEqProofs

@[simp] theorem State.msuReady_mem (s : State) : s.msuReady.mem = s.mem := by simp -implicitDefEqProofs [State.msuReady]

@[simp] theorem State.mileRequest_mem (s : State) (k : Nat) : (s.mileRequest k).mem = s.mem := by
  unfold State.mileRequest; split <;> simp -implicitDefEqProofs

@[simp] theorem State.land_mem (k cl : Nat) (a : Action) (s : State) : (State.land k cl a s).mem = s.mem := by
  dsimp only [State.land]; (repeat' split) <;> simp -implicitDefEqProofs

@[simp] theorem State.mileDone_canon (s : State) (k : Nat) (hs : Memory.Canon s.mem) : Memory.Canon (s.mileDone k).mem := by
  simp -implicitDefEqProofs [State.mileDone, hs]

@[simp] theorem State.deliver_canon (x : Nat × Bytes) (s : State) (hs : Memory.Canon s.mem) :
    Memory.Canon (State.deliver x s).mem := by
  unfold State.deliver; split <;> simp -implicitDefEqProofs [hs]

@[simp] theorem State.deliverWaiting_canon (s : State) (hs : Memory.Canon s.mem) : Memory.Canon s.deliverWaiting.mem := by
  simp -implicitDefEqProofs +contextual [State.deliverWaiting, hs]

@[simp] theorem State.deliverFrame_canon (s : State) (b : Bytes) (hs : Memory.Canon s.mem) :
    Memory.Canon (s.deliverFrame b).mem := by
  simp -implicitDefEqProofs [State.deliverFrame, hs]

@[simp] theorem State.mileCommit_canon (s : State) (k : Nat) (hs : Memory.Canon s.mem) : Memory.Canon (s.mileCommit k).mem := by
  unfold State.mileCommit
  split
  · exact hs
  · split
    · exact hs
    · split
      · simp -implicitDefEqProofs [hs]
      · extract_lets cl app seq0 csn s1 s2 s3 s4 s5 s6 s7
        have h1 : Memory.Canon s1.mem := foldOver_canon _ (fun a t ht => by simp -implicitDefEqProofs [ht]) _ _ hs
        have h2 : Memory.Canon s2.mem := by simp -implicitDefEqProofs [s2, h1]
        have h3 : Memory.Canon s3.mem :=
          foldOver_canon _ (fun a t ht => by simp -implicitDefEqProofs [ht]) _ _ (by simp -implicitDefEqProofs [h2])
        have h4 : Memory.Canon s4.mem := by simp -implicitDefEqProofs [s4, h3]
        have h5 : Memory.Canon s5.mem := by simp -implicitDefEqProofs [s5, h4]
        clear_value s1 s2 s3 s4 s5
        have h6 : Memory.Canon s6.mem := by
          unfold s6
          (repeat' split) <;> simp -implicitDefEqProofs [h5]
        have h7 : Memory.Canon s7.mem :=
          foldOver_canon _ (fun a t ht => by split <;> simp -implicitDefEqProofs [ht]) _ _ h6
        split <;> simp -implicitDefEqProofs [h7]

@[simp] theorem State.commitNow_canon (s : State) (hs : Memory.Canon s.mem) : Memory.Canon s.commitNow.mem := by
  unfold State.commitNow; split <;> simp -implicitDefEqProofs [hs]

@[simp] theorem State.flashRecPass_mem (s : State) (k : Nat) : (s.flashRecPass k).mem = s.mem := by
  dsimp only [State.flashRecPass]; (repeat' split) <;> simp -implicitDefEqProofs

@[simp] theorem State.flashRecDone_canon (s : State) (rec code : Nat) (hs : Memory.Canon s.mem) :
    Memory.Canon (s.flashRecDone rec code).mem := by
  dsimp only [State.flashRecDone]; split <;> simp -implicitDefEqProofs [hs]

@[simp] theorem State.mileTxResult_canon (s : State) (k : Nat) (e : TxEntry) (code : Nat) (hs : Memory.Canon s.mem) :
    Memory.Canon (s.mileTxResult k e code).mem := by
  unfold State.mileTxResult; split <;> simp -implicitDefEqProofs [hs]

@[simp] theorem State.msuCommit_mem (s : State) (cl k : Nat) : (s.msuCommit cl k).mem = s.mem := by
  unfold State.msuCommit; split <;> simp -implicitDefEqProofs

@[simp] theorem State.msuAbort_canon (s : State) (cl k : Nat) (hs : Memory.Canon s.mem) : Memory.Canon (s.msuAbort cl k).mem := by
  simp -implicitDefEqProofs [State.msuAbort, hs]

@[simp] theorem State.msuPolicy_mem (s : State) (cl k policy : Nat) : (s.msuPolicy cl k policy).mem = s.mem := by
  unfold State.msuPolicy; split <;> simp -implicitDefEqProofs

@[simp] theorem State.msuCmdWrite_canon (s : State) (cl : Nat) (w : Word) (hs : Memory.Canon s.mem) :
    Memory.Canon (s.msuCmdWrite cl w).mem := by
  unfold State.msuCmdWrite; split <;> simp -implicitDefEqProofs [hs]

@[simp] theorem State.mileTimeout_canon (s : State) (k : Nat) (hs : Memory.Canon s.mem) : Memory.Canon (s.mileTimeout k).mem := by
  simp -implicitDefEqProofs [State.mileTimeout, hs]

@[simp] theorem State.ackExpire_canon (c : Nat) (s : State) (hs : Memory.Canon s.mem) : Memory.Canon (State.ackExpire c s).mem := by
  unfold State.ackExpire; split <;> simp -implicitDefEqProofs [hs]

@[simp] theorem State.templateAck_canon (s : State) (k a : Nat) (x : Ctx) (hs : Memory.Canon s.mem) :
    Memory.Canon (s.templateAck k a x).mem := by
  rw [State.templateAck]
  split
  · simp -implicitDefEqProofs [hs]
  · split
    · simp -implicitDefEqProofs [hs]
    · next e => obtain rfl := congrArg Prod.snd e; simp -implicitDefEqProofs [hs]

@[simp] theorem State.templateOpen_canon (s : State) (c : Nat) (hs : Memory.Canon s.mem) : Memory.Canon (s.templateOpen c).mem := by
  dsimp only [State.templateOpen]; (repeat' split) <;> simp -implicitDefEqProofs [hs]

@[simp] theorem State.msuClusterReset_canon (s : State) (cl : Nat) (hs : Memory.Canon s.mem) :
    Memory.Canon (s.msuClusterReset cl).mem := by
  simp -implicitDefEqProofs +contextual [State.msuClusterReset, hs]

@[simp] theorem State.msuWarmReset_mem (s : State) : s.msuWarmReset.mem = s.mem := by simp -implicitDefEqProofs [State.msuWarmReset]

/-! ### Network time -/

@[simp] theorem State.ntFollow_mem (s : State) : s.ntFollow.mem = s.mem := by simp -implicitDefEqProofs [State.ntFollow]

@[simp] theorem State.ntMoveFollow_mem (s : State) : s.ntMoveFollow.mem = s.mem := by simp -implicitDefEqProofs [State.ntMoveFollow]

@[simp] theorem State.servoUndo_mem (s : State) : s.servoUndo.mem = s.mem := by
  unfold State.servoUndo; split <;> simp -implicitDefEqProofs

@[simp] theorem State.servoCommit_mem (s : State) : s.servoCommit.mem = s.mem := by
  unfold State.servoCommit; split <;> simp -implicitDefEqProofs

@[simp] theorem State.ntLoad_mem (s : State) (sec : Word) (tick : Nat) : (s.ntLoad sec tick).mem = s.mem := by
  simp -implicitDefEqProofs [State.ntLoad]

@[simp] theorem State.ntStep_mem (s : State) (d : Int) : (s.ntStep d).mem = s.mem := by simp -implicitDefEqProofs [State.ntStep]

@[simp] theorem State.ntcCtrlWrite_mem (s : State) (w : Word) : (s.ntcCtrlWrite w).mem = s.mem := by
  simp -implicitDefEqProofs [State.ntcCtrlWrite]

@[simp] theorem State.ntCapture_mem (s : State) (cl : Nat) : (s.ntCapture cl).mem = s.mem := by
  simp -implicitDefEqProofs [State.ntCapture]

@[simp] theorem State.ntEvCapture_mem (s : State) : s.ntEvCapture.mem = s.mem := by simp -implicitDefEqProofs [State.ntEvCapture]

@[simp] theorem State.ntSrcWrite_mem (s : State) (w : Word) : (s.ntSrcWrite w).mem = s.mem := by
  simp -implicitDefEqProofs [State.ntSrcWrite]

@[simp] theorem State.ntQualify_mem (s : State) (lead : Int) (thr : Nat) : (s.ntQualify lead thr).mem = s.mem := by
  simp -implicitDefEqProofs [State.ntQualify]

@[simp] theorem State.ntSample_mem (s0 : State) (lead : Int) : (s0.ntSample lead).mem = s0.mem := by
  simp -implicitDefEqProofs [State.ntSample]

@[simp] theorem State.ntHoldover_mem (s : State) : s.ntHoldover.mem = s.mem := by simp -implicitDefEqProofs [State.ntHoldover]

@[simp] theorem State.radioSample_mem (s0 : State) (k : Nat) (f : LaneFrame) (b : Bytes) : (s0.radioSample k f b).mem = s0.mem := by
  simp -implicitDefEqProofs [State.radioSample]

@[simp] theorem State.ntFrcCorrection_mem (s : State) (d : Int) : (s.ntFrcCorrection d).mem = s.mem := by
  simp -implicitDefEqProofs [State.ntFrcCorrection]

@[simp] theorem State.ntOfsSync_mem (s : State) : s.ntOfsSync.mem = s.mem := by simp -implicitDefEqProofs [State.ntOfsSync]

/-! ### The line ports -/

@[simp] theorem State.boundaryOf_mem (s : State) (f : Fld) (n : Nat) : (s.boundaryOf f n).mem = s.mem := by
  unfold State.boundaryOf; split <;> simp -implicitDefEqProofs

@[simp] theorem State.linkBoundary_mem (s : State) (p : Nat) : (s.linkBoundary p).mem = s.mem := by
  simp -implicitDefEqProofs [State.linkBoundary]

@[simp] theorem State.setQual_mem (s : State) (p snr : Nat) : (s.setQual p snr).mem = s.mem := by
  simp -implicitDefEqProofs [State.setQual]

@[simp] theorem State.lpCount_mem (s : State) (p k d : Nat) : (s.lpCount p k d).mem = s.mem := by
  simp -implicitDefEqProofs [State.lpCount]

@[simp] theorem State.lpLeaveUp_mem (s : State) (p : Nat) : (s.lpLeaveUp p).mem = s.mem := by
  simp -implicitDefEqProofs [State.lpLeaveUp]

@[simp] theorem State.lpGo_mem (s : State) (p st : Nat) : (s.lpGo p st).mem = s.mem := by simp -implicitDefEqProofs [State.lpGo]

@[simp] theorem State.lpDropJobs_mem (s : State) (p : Nat) : (s.lpDropJobs p).mem = s.mem := by
  simp -implicitDefEqProofs [State.lpDropJobs]

@[simp] theorem State.greet_mem (s : State) (p kind : Nat) : (s.greet p kind).mem = s.mem := by
  simp -implicitDefEqProofs [State.greet]

@[simp] theorem State.lpToDetect_mem (s : State) (p : Nat) (silent : Bool) : (s.lpToDetect p silent).mem = s.mem := by
  simp -implicitDefEqProofs [State.lpToDetect]

@[simp] theorem State.lpStart_mem (p : Nat) (s : State) : (State.lpStart p s).mem = s.mem := by
  simp -implicitDefEqProofs [State.lpStart]

@[simp] theorem State.lpStop_mem (p : Nat) (s : State) : (State.lpStop p s).mem = s.mem := by
  simp -implicitDefEqProofs [State.lpStop]

@[simp] theorem State.sendLink_mem (s0 : State) (p kind mode : Nat) : (s0.sendLink p kind mode).mem = s0.mem := by
  simp -implicitDefEqProofs [State.sendLink]

@[simp] theorem State.lpPeer_mem (s : State) (p mode flags : Nat) (node : Word) : (s.lpPeer p mode flags node).mem = s.mem := by
  simp -implicitDefEqProofs [State.lpPeer]

@[simp] theorem State.lpAnnounce_mem (s : State) (p : Nat) : (s.lpAnnounce p).mem = s.mem := by
  simp -implicitDefEqProofs [State.lpAnnounce]

@[simp] theorem State.lpAgree_mem (s : State) (p mode flags : Nat) (node : Word) (master : Bool) :
    (s.lpAgree p mode flags node master).mem = s.mem := by
  simp -implicitDefEqProofs [State.lpAgree]

@[simp] theorem State.lpHearAnnounce_mem (s : State) (p mode flags : Nat) (node : Word) :
    (s.lpHearAnnounce p mode flags node).mem = s.mem := by
  simp -implicitDefEqProofs [State.lpHearAnnounce]

@[simp] theorem State.lpHearAnswer_mem (s : State) (p mode flags : Nat) (node : Word) :
    (s.lpHearAnswer p mode flags node).mem = s.mem := by
  simp -implicitDefEqProofs [State.lpHearAnswer]

@[simp] theorem State.lpTrain_mem (s : State) (p : Nat) : (s.lpTrain p).mem = s.mem := by
  unfold State.lpTrain; split <;> simp -implicitDefEqProofs

@[simp] theorem State.lpPhaseEnd_mem (s : State) (p : Nat) : (s.lpPhaseEnd p).mem = s.mem := by
  simp -implicitDefEqProofs [State.lpPhaseEnd]

@[simp] theorem State.lpFail_mem (s : State) (p : Nat) : (s.lpFail p).mem = s.mem := by
  dsimp only [State.lpFail]; split <;> simp -implicitDefEqProofs

@[simp] theorem State.lpSyncFound_mem (s : State) (p errs : Nat) : (s.lpSyncFound p errs).mem = s.mem := by
  simp -implicitDefEqProofs [State.lpSyncFound]

@[simp] theorem State.lpSyncFail_mem (s : State) (p : Nat) : (s.lpSyncFail p).mem = s.mem := by
  simp -implicitDefEqProofs [State.lpSyncFail]

@[simp] theorem State.lpEnterUp_mem (s : State) (p : Nat) : (s.lpEnterUp p).mem = s.mem := by
  simp -implicitDefEqProofs [State.lpEnterUp]

@[simp] theorem State.lpVerdicts_mem (s : State) (p : Nat) : (s.lpVerdicts p).mem = s.mem := by
  unfold State.lpVerdicts; split <;> simp -implicitDefEqProofs

@[simp] theorem State.lpCheckEnd_mem (s0 : State) (p snr : Nat) : (s0.lpCheckEnd p snr).mem = s0.mem := by
  simp -implicitDefEqProofs [State.lpCheckEnd]

@[simp] theorem State.lpVerdict_mem (s : State) (p : Nat) (pass : Bool) : (s.lpVerdict p pass).mem = s.mem := by
  simp -implicitDefEqProofs [State.lpVerdict]

@[simp] theorem State.lpVerdictTimeout_mem (s : State) (p : Nat) : (s.lpVerdictTimeout p).mem = s.mem := by
  simp -implicitDefEqProofs [State.lpVerdictTimeout]

@[simp] theorem State.lpRetrain_mem (s : State) (p : Nat) : (s.lpRetrain p).mem = s.mem := by
  simp -implicitDefEqProofs [State.lpRetrain]

@[simp] theorem State.lpRetrainOwn_mem (s0 : State) (p : Nat) : (s0.lpRetrainOwn p).mem = s0.mem := by
  simp -implicitDefEqProofs [State.lpRetrainOwn]

@[simp] theorem State.lpHearRetrain_mem (s : State) (p : Nat) : (s.lpHearRetrain p).mem = s.mem := by
  simp -implicitDefEqProofs [State.lpHearRetrain]

@[simp] theorem State.lpSnr_mem (s : State) (p snr : Nat) : (s.lpSnr p snr).mem = s.mem := by
  simp -implicitDefEqProofs [State.lpSnr]

@[simp] theorem State.lpEnergyLoss_mem (s : State) (p : Nat) : (s.lpEnergyLoss p).mem = s.mem := by
  simp -implicitDefEqProofs [State.lpEnergyLoss]

@[simp] theorem State.lpModeUpTimer_mem (s0 : State) (p : Nat) : (s0.lpModeUpTimer p).mem = s0.mem := by
  simp -implicitDefEqProofs [State.lpModeUpTimer]

@[simp] theorem State.lpHearModeUp_mem (s : State) (p : Nat) : (s.lpHearModeUp p).mem = s.mem := by
  simp -implicitDefEqProofs [State.lpHearModeUp]

@[simp] theorem State.lpHearDozing_mem (s : State) (p : Nat) : (s.lpHearDozing p).mem = s.mem := by
  simp -implicitDefEqProofs [State.lpHearDozing]

@[simp] theorem State.lpWakePeer_mem (s : State) (p : Nat) : (s.lpWakePeer p).mem = s.mem := by
  simp -implicitDefEqProofs [State.lpWakePeer]

@[simp] theorem State.lpWakeSent_mem (s : State) (p : Nat) : (s.lpWakeSent p).mem = s.mem := by
  simp -implicitDefEqProofs [State.lpWakeSent]

@[simp] theorem State.lpWakeExpiry_mem (s : State) (p : Nat) : (s.lpWakeExpiry p).mem = s.mem := by
  simp -implicitDefEqProofs [State.lpWakeExpiry]

@[simp] theorem State.lpDozing_mem (p : Nat) (s0 : State) : (State.lpDozing p s0).mem = s0.mem := by
  simp -implicitDefEqProofs [State.lpDozing]

@[simp] theorem State.timeSyncSend_mem (s : State) (p : Nat) : (s.timeSyncSend p).mem = s.mem := by
  simp -implicitDefEqProofs [State.timeSyncSend]

@[simp] theorem State.timeSync_mem (s : State) (p seq : Nat) (t1 : Stamp) : (s.timeSync p seq t1).mem = s.mem := by
  simp -implicitDefEqProofs [State.timeSync]

@[simp] theorem State.delayReq_mem (s : State) (p seq : Nat) : (s.delayReq p seq).mem = s.mem := by
  simp -implicitDefEqProofs [State.delayReq]

@[simp] theorem State.latchStamp_mem (s : State) (p k : Nat) (t : Stamp) : (s.latchStamp p k t).mem = s.mem := by
  simp -implicitDefEqProofs [State.latchStamp]

@[simp] theorem State.delayResp_mem (s : State) (p seq : Nat) (t4 : Stamp) : (s.delayResp p seq t4).mem = s.mem := by
  unfold State.delayResp; split <;> simp -implicitDefEqProofs

@[simp] theorem State.stampBlock_mem (s : State) (p : Nat) (b : Block) : (s.stampBlock p b).2.mem = s.mem := by
  dsimp only [State.stampBlock]; (repeat' split) <;> simp -implicitDefEqProofs

@[simp] theorem State.sendBlock_mem (s : State) (p : Nat) (b : Block) : (s.sendBlock p b).mem = s.mem := by
  simp -implicitDefEqProofs [State.sendBlock]

@[simp] theorem State.lpBoundary_mem (s0 : State) (p : Nat) : (s0.lpBoundary p).mem = s0.mem := by
  unfold State.lpBoundary
  dsimp only
  (repeat' split) <;> try simp -implicitDefEqProofs
  all_goals next e => obtain rfl := congrArg Prod.snd e; simp -implicitDefEqProofs

@[simp] theorem State.lpForward_mem (s : State) (p : Nat) (b : Block) : (s.lpForward p b).mem = s.mem := by
  simp -implicitDefEqProofs [State.lpForward]

@[simp] theorem State.lpPass_mem (s : State) (p : Nat) (b : Block) : (s.lpPass p b).mem = s.mem := by
  simp -implicitDefEqProofs [State.lpPass]

@[simp] theorem State.reassemble_mem (s : State) (p : Nat) (b : Block) : (s.reassemble p b).2.mem = s.mem := by
  dsimp only [State.reassemble]; (repeat' split) <;> simp -implicitDefEqProofs

@[simp] theorem State.lpQuality_mem (s : State) (p : Nat) (ok : Bool) : (s.lpQuality p ok).mem = s.mem := by
  simp -implicitDefEqProofs [State.lpQuality]

@[simp] theorem State.lpHearLink_mem (s0 : State) (p : Nat) (b : Bytes) : (s0.lpHearLink p b).mem = s0.mem := by
  dsimp only [State.lpHearLink]; split <;> simp -implicitDefEqProofs

@[simp] theorem State.lpHearTime_mem (s : State) (p : Nat) (b : Bytes) : (s.lpHearTime p b).mem = s.mem := by
  unfold State.lpHearTime; split <;> simp -implicitDefEqProofs

@[simp] theorem State.lpTakeBlock_mem (s : State) (p : Nat) (b : Block) : (s.lpTakeBlock p b).2.mem = s.mem := by
  unfold State.lpTakeBlock
  dsimp only
  (repeat' split) <;> try simp
  all_goals next e => obtain rfl := congrArg Prod.snd e; simp -implicitDefEqProofs

@[simp] theorem State.lpReceive_mem (s : State) (p : Nat) (raw : Bytes) : (s.lpReceive p raw).2.mem = s.mem := by
  unfold State.lpReceive; split <;> simp -implicitDefEqProofs

@[simp] theorem State.lpBeaconHeard_mem (s : State) (p : Nat) (raw : Bytes) : (s.lpBeaconHeard p raw).mem = s.mem := by
  dsimp only [State.lpBeaconHeard]; (repeat' split) <;> simp -implicitDefEqProofs

@[simp] theorem State.retireRange_mem (r : Nat × Nat) (s : State) : (State.retireRange r s).mem = s.mem := by
  simp -implicitDefEqProofs [State.retireRange]

@[simp] theorem State.lpConfirm_mem (s : State) (p : Nat) (u : Bytes) : (s.lpConfirm p u).mem = s.mem := by
  simp -implicitDefEqProofs [State.lpConfirm]

@[simp] theorem State.lpReleaseConfirms_mem (s : State) : s.lpReleaseConfirms.mem = s.mem := by
  simp -implicitDefEqProofs [State.lpReleaseConfirms]

@[simp] theorem State.lpUserDown_mem (s : State) (u : Bytes) : (s.lpUserDown u).mem = s.mem := by
  simp -implicitDefEqProofs [State.lpUserDown]

@[simp] theorem State.lpCfgWrite_mem (s : State) (p : Nat) (w : Word) : (s.lpCfgWrite p w).mem = s.mem := by
  simp -implicitDefEqProofs [State.lpCfgWrite]

@[simp] theorem State.lpClearCounts_mem (s : State) (p : Nat) : (s.lpClearCounts p).mem = s.mem := by
  simp -implicitDefEqProofs [State.lpClearCounts]

@[simp] theorem State.lpCtrlWrite_mem (s : State) (p : Nat) (w : Word) : (s.lpCtrlWrite p w).mem = s.mem := by
  simp -implicitDefEqProofs [State.lpCtrlWrite]

@[simp] theorem State.lpBeaconEnter_mem (p : Nat) (s : State) : (State.lpBeaconEnter p s).mem = s.mem := by
  simp -implicitDefEqProofs [State.lpBeaconEnter]

/-! ### Last milestone -/

@[simp] theorem State.lmRefresh_mem (s : State) : s.lmRefresh.mem = s.mem := by simp -implicitDefEqProofs [State.lmRefresh]

@[simp] theorem State.writeSlot_canon (s : State) (nt : Nat) (limit : Option Nat) (hs : Memory.Canon s.mem) :
    Memory.Canon (s.writeSlot nt limit).mem := by
  unfold State.writeSlot
  split
  · exact hs
  · split
    · exact hs
    · dsimp only
      split
      · exact State.writeNative_canon _ _ _ (State.writeNative_canon _ _ _ hs)
      · exact State.writeNative_canon _ _ _ (State.writeNative_canon _ _ _ (State.writeNative_canon _ _ _ hs))

@[simp] theorem State.flushBegin_mem (s : State) (orderly : Bool) : (s.flushBegin orderly).mem = s.mem := by
  simp -implicitDefEqProofs [State.flushBegin]

@[simp] theorem State.lmcfgWrite_mem (s : State) (w : Word) : (s.lmcfgWrite w).mem = s.mem := by
  simp -implicitDefEqProofs [State.lmcfgWrite]

@[simp] theorem State.vincfgWrite_mem (s : State) (w : Word) : (s.vincfgWrite w).mem = s.mem := by
  simp -implicitDefEqProofs [State.vincfgWrite]

/-! ### Power -/

@[simp] theorem State.setExch_mem (s : State) (e : Exch) (b : Bool) : (s.setExch e b).mem = s.mem := by
  simp -implicitDefEqProofs [State.setExch]

@[simp] theorem State.pstate_mem (s : State) : s.pstate.mem = s.mem := by simp -implicitDefEqProofs [State.pstate]

@[simp] theorem State.setCur_mem (s : State) (v : Nat) : (s.setCur v).mem = s.mem := by simp -implicitDefEqProofs [State.setCur]

@[simp] theorem State.userOff_canon (s : State) (hs : Memory.Canon s.mem) : Memory.Canon s.userOff.mem := by
  simp -implicitDefEqProofs [State.userOff, hs]

@[simp] theorem State.userStart_mem (s : State) : s.userStart.mem = s.mem := by simp -implicitDefEqProofs [State.userStart]

@[simp] theorem State.raiseTo_canon (s : State) (v : Nat) (hs : Memory.Canon s.mem) : Memory.Canon (s.raiseTo v).mem := by
  simp -implicitDefEqProofs [State.raiseTo, hs]

@[simp] theorem State.notifyState_mem (s : State) (old : Word) (st : Status) : (s.notifyState old st).mem = s.mem := by
  simp -implicitDefEqProofs [State.notifyState]

@[simp] theorem State.setRest_mem (s : State) (v : Nat) : (s.setRest v).mem = s.mem := by simp -implicitDefEqProofs [State.setRest]

@[simp] theorem State.applyFloor_canon (s : State) (hs : Memory.Canon s.mem) : Memory.Canon s.applyFloor.mem := by
  simp -implicitDefEqProofs [State.applyFloor, hs]

@[simp] theorem State.toFrc_canon (s : State) (hs : Memory.Canon s.mem) : Memory.Canon s.toFrc.mem := by
  simp -implicitDefEqProofs [State.toFrc, hs]

@[simp] theorem State.toPll_mem (s : State) : s.toPll.mem = s.mem := by simp -implicitDefEqProofs [State.toPll]

@[simp] theorem State.pllLoss_canon (s : State) (hs : Memory.Canon s.mem) : Memory.Canon s.pllLoss.mem := by
  simp -implicitDefEqProofs [State.pllLoss, hs]

@[simp] theorem State.pllLockLoss_canon (s : State) (hs : Memory.Canon s.mem) : Memory.Canon s.pllLockLoss.mem := by
  simp -implicitDefEqProofs [State.pllLockLoss, hs]

@[simp] theorem State.setRefGood_mem (s : State) (r : Nat) (b : Bool) : (s.setRefGood r b).mem = s.mem := by
  simp -implicitDefEqProofs [State.setRefGood]

@[simp] theorem State.refSwitch_mem (s : State) (r cls : Nat) : (s.refSwitch r cls).mem = s.mem := by
  simp -implicitDefEqProofs [State.refSwitch]

@[simp] theorem State.refLost_mem (s : State) (r : Nat) : (s.refLost r).mem = s.mem := by simp -implicitDefEqProofs [State.refLost]

@[simp] theorem State.refFail_canon (s : State) (r : Nat) (hs : Memory.Canon s.mem) : Memory.Canon (s.refFail r).mem := by
  simp -implicitDefEqProofs [State.refFail, hs]

@[simp] theorem State.refOk_mem (s : State) (r : Nat) : (s.refOk r).mem = s.mem := by simp -implicitDefEqProofs [State.refOk]

@[simp] theorem State.pllStart_mem (s : State) : s.pllStart.mem = s.mem := by simp -implicitDefEqProofs [State.pllStart]

@[simp] theorem State.pllStop_mem (s : State) : s.pllStop.mem = s.mem := by simp -implicitDefEqProofs [State.pllStop]

@[simp] theorem State.wakeDone_mem (s : State) : s.wakeDone.mem = s.mem := by simp -implicitDefEqProofs [State.wakeDone]

@[simp] theorem State.raiseDue_canon (s : State) (hs : Memory.Canon s.mem) : Memory.Canon s.raiseDue.mem := by
  simp -implicitDefEqProofs [State.raiseDue, hs]

@[simp] theorem State.pllLocked_canon (s : State) (hs : Memory.Canon s.mem) : Memory.Canon s.pllLocked.mem := by
  simp -implicitDefEqProofs [State.pllLocked, hs]

@[simp] theorem State.pllTimeout_mem (s : State) : s.pllTimeout.mem = s.mem := by simp -implicitDefEqProofs [State.pllTimeout]

@[simp] theorem State.clkcfgWrite_canon (s : State) (w : Word) (hs : Memory.Canon s.mem) : Memory.Canon (s.clkcfgWrite w).mem := by
  simp -implicitDefEqProofs [State.clkcfgWrite, hs]

@[simp] theorem State.pmbVout_mem (s : State) (t : Nat) : (s.pmbVout t).mem = s.mem := by simp -implicitDefEqProofs [State.pmbVout]

@[simp] theorem State.pmbSend_mem (s : State) (t : Nat) : (s.pmbSend t).mem = s.mem := by simp -implicitDefEqProofs [State.pmbSend]

@[simp] theorem State.pmbRequest_mem (s : State) (t : Nat) : (s.pmbRequest t).mem = s.mem := by
  simp -implicitDefEqProofs [State.pmbRequest]

@[simp] theorem State.setVack_mem (s : State) (t : Nat) : (s.setVack t).mem = s.mem := by simp -implicitDefEqProofs [State.setVack]

@[simp] theorem State.pmbIdle_mem (s : State) : s.pmbIdle.mem = s.mem := by simp -implicitDefEqProofs [State.pmbIdle]

@[simp] theorem State.pmbClear_mem (s : State) : s.pmbClear.mem = s.mem := by simp -implicitDefEqProofs [State.pmbClear]

@[simp] theorem State.pmbAbandon_mem (s : State) (t : Nat) : (s.pmbAbandon t).mem = s.mem := by
  simp -implicitDefEqProofs [State.pmbAbandon]

@[simp] theorem State.pmbNext_mem (s : State) : s.pmbNext.mem = s.mem := by
  unfold State.pmbNext; split <;> simp -implicitDefEqProofs

@[simp] theorem State.pmbMet_mem (s : State) (nack pec : Bool) : (s.pmbMet nack pec).mem = s.mem := by
  simp -implicitDefEqProofs [State.pmbMet]

@[simp] theorem State.pmbWriteDone_mem (s : State) (nack pec : Bool) : (s.pmbWriteDone nack pec).mem = s.mem := by
  unfold State.pmbWriteDone; split <;> simp -implicitDefEqProofs

@[simp] theorem State.pmbAck_mem (s : State) : s.pmbAck.mem = s.mem := by unfold State.pmbAck; split <;> simp -implicitDefEqProofs

@[simp] theorem State.pmbPgood_mem (s : State) : s.pmbPgood.mem = s.mem := by simp -implicitDefEqProofs [State.pmbPgood]

@[simp] theorem State.pmbPoll_mem (s : State) (status vout : PmbReply) : (s.pmbPoll status vout).mem = s.mem := by
  unfold State.pmbPoll; split <;> simp -implicitDefEqProofs

@[simp] theorem State.pmbTimeout_mem (s : State) : s.pmbTimeout.mem = s.mem := by
  unfold State.pmbTimeout; split <;> simp -implicitDefEqProofs

@[simp] theorem State.pmbFall_mem (s0 : State) (x : PmbTries) : (s0.pmbFall x).mem = s0.mem := by
  simp -implicitDefEqProofs [State.pmbFall]

@[simp] theorem State.vreqWrite_mem (s : State) (w : Word) : (s.vreqWrite w).mem = s.mem := by
  simp -implicitDefEqProofs [State.vreqWrite]

@[simp] theorem State.newCycle_mem (s : State) : s.newCycle.mem = s.mem := by simp -implicitDefEqProofs [State.newCycle]

@[simp] theorem State.entrySteps_canon (s : State) (hs : Memory.Canon s.mem) : Memory.Canon s.entrySteps.mem := by
  simp -implicitDefEqProofs [State.entrySteps, hs]

@[simp] theorem State.entryGo_canon (s : State) (hs : Memory.Canon s.mem) : Memory.Canon s.entryGo.mem := by
  simp -implicitDefEqProofs [State.entryGo, hs]

@[simp] theorem State.entryStart_canon (s : State) (hs : Memory.Canon s.mem) : Memory.Canon s.entryStart.mem := by
  simp -implicitDefEqProofs [State.entryStart, hs]

@[simp] theorem State.entryDrop_mem (s : State) : s.entryDrop.mem = s.mem := by simp -implicitDefEqProofs [State.entryDrop]

@[simp] theorem State.entryTimeout_mem (s : State) : s.entryTimeout.mem = s.mem := by simp -implicitDefEqProofs [State.entryTimeout]

@[simp] theorem State.exchOpen_mem (s : State) (e : Exch) : (s.exchOpen e).mem = s.mem := by
  simp -implicitDefEqProofs [State.exchOpen]

@[simp] theorem State.exchClose_mem (s : State) (e : Exch) : (s.exchClose e).mem = s.mem := by
  simp -implicitDefEqProofs [State.exchClose]

@[simp] theorem State.returnTimer_canon (s : State) (hs : Memory.Canon s.mem) : Memory.Canon s.returnTimer.mem := by
  simp -implicitDefEqProofs [State.returnTimer, hs]

@[simp] theorem State.relayWindow_mem (s : State) : s.relayWindow.mem = s.mem := by simp -implicitDefEqProofs [State.relayWindow]

/-! ### Resets and boot -/

@[simp] theorem State.regionLoad_mem (s : State) : s.regionLoad.mem = s.mem := by simp -implicitDefEqProofs [State.regionLoad]

@[simp] theorem State.fusesAct_mem (old s : State) : (old.fusesAct s).mem = s.mem := by simp -implicitDefEqProofs [State.fusesAct]

@[simp] theorem State.otpCut_mem (s : State) : s.otpCut.mem = s.mem := by simp -implicitDefEqProofs [State.otpCut]

@[simp] theorem State.workEnds_canon (s : State) (hs : Memory.Canon s.mem) : Memory.Canon s.workEnds.mem := by
  simp -implicitDefEqProofs [State.workEnds, hs]

@[simp] theorem State.ctlCoreLost_mem (s : State) : s.ctlCoreLost.mem = s.mem := by simp -implicitDefEqProofs [State.ctlCoreLost]

@[simp] theorem State.frontEnd_mem (old s : State) : (old.frontEnd s).mem = s.mem := by simp -implicitDefEqProofs [State.frontEnd]

@[simp] theorem State.backupAfter_mem (s : State) : s.backupAfter.mem = s.mem := by simp -implicitDefEqProofs [State.backupAfter]

@[simp] theorem State.powerDown_canon (s0 : State) (hs : Memory.Canon s0.mem) : Memory.Canon s0.powerDown.mem := by
  simp -implicitDefEqProofs [State.powerDown, hs]

@[simp] theorem State.backupLost_mem (s : State) : s.backupLost.mem = s.mem := by simp -implicitDefEqProofs [State.backupLost]

@[simp] theorem State.coldReset_canon (s : State) (cause : Fld) (hs : Memory.Canon s.mem) :
    Memory.Canon (s.coldReset cause).mem := by
  simp -implicitDefEqProofs [State.coldReset, hs]

@[simp] theorem State.warmFields_mem (old s : State) : (old.warmFields s).mem = s.mem := by
  simp -implicitDefEqProofs [State.warmFields]

@[simp] theorem State.warmReset_canon (s0 : State) (causes : List Fld) (hs : Memory.Canon s0.mem) :
    Memory.Canon (s0.warmReset causes).mem := by
  have h1 : Memory.Canon s0.commitNow.workEnds.mem := by simp -implicitDefEqProofs [hs]
  simp -implicitDefEqProofs [State.warmReset, h1]

@[simp] theorem State.provisionCut_mem (s : State) : s.provisionCut.mem = s.mem := by simp -implicitDefEqProofs [State.provisionCut]

@[simp] theorem State.consumersClear_mem (s : State) (cl : Nat) : (s.consumersClear cl).mem = s.mem := by
  simp -implicitDefEqProofs [State.consumersClear]

@[simp] theorem State.clusterReset_canon (s : State) (cl : Nat) (hs : Memory.Canon s.mem) :
    Memory.Canon (s.clusterReset cl).mem := by
  simp -implicitDefEqProofs [State.clusterReset, hs]

@[simp] theorem State.enterRoadside_canon (s0 : State) (cause : Nat) (hs : Memory.Canon s0.mem) :
    Memory.Canon (s0.enterRoadside cause).mem := by
  unfold State.enterRoadside
  extract_lets s s1 s2 s3 s4 s5 s6 s7 s8
  split
  · exact hs
  · have h2 : Memory.Canon s2.mem := by simp -implicitDefEqProofs [s2, s1, s, hs]
    have h3 : Memory.Canon s3.mem := by simp -implicitDefEqProofs [s3, h2]
    have h6 : Memory.Canon s6.mem := by simp -implicitDefEqProofs [s6, s5, s4, h3]
    simp -implicitDefEqProofs [s8, s7, h6]

@[simp] theorem State.configPut_mem (e : Nat × Word) (s : State) : (State.configPut e s).mem = s.mem := by
  unfold State.configPut; split <;> simp -implicitDefEqProofs

@[simp] theorem State.configRestore_canon (s : State) (doze : Bool) (hs : Memory.Canon s.mem) :
    Memory.Canon (s.configRestore doze).mem := by
  simp -implicitDefEqProofs [State.configRestore, hs]

@[simp] theorem State.dirReads_mem (s : State) : s.dirReads.mem = s.mem := by simp -implicitDefEqProofs [State.dirReads]

@[simp] theorem State.writeDir_canon (s : State) (d : BootDir) (hs : Memory.Canon s.mem) : Memory.Canon (s.writeDir d).mem := by
  simp -implicitDefEqProofs [State.writeDir, hs]

@[simp] theorem State.slotReads_mem (s : State) (d : BootDir) (k : Nat) : (s.slotReads d k).mem = s.mem := by
  simp -implicitDefEqProofs [State.slotReads]

@[simp] theorem State.imageSelect_canon (s : State) (hs : Memory.Canon s.mem) : Memory.Canon (s.imageSelect).2.mem := by
  dsimp only [State.imageSelect]; split <;> simp -implicitDefEqProofs [hs]

@[simp] theorem State.bootBit_mem (s : State) (f : Fld) (b : Bool) : (s.bootBit f b).mem = s.mem := by
  simp -implicitDefEqProofs [State.bootBit]

@[simp] theorem State.bootSram_mem (s : State) : (s.bootSram).2.mem = s.mem := by simp -implicitDefEqProofs [State.bootSram]

@[simp] theorem State.regionCheck_mem (s : State) : s.regionCheck.mem = s.mem := by simp -implicitDefEqProofs [State.regionCheck]

@[simp] theorem State.partLoad_mem (s : State) : s.partLoad.mem = s.mem := by simp -implicitDefEqProofs [State.partLoad]

@[simp] theorem State.nomLost_mem (s : State) : s.nomLost.mem = s.mem := by simp -implicitDefEqProofs [State.nomLost]

@[simp] theorem State.bootVcore_mem (s : State) : (s.bootVcore).2.mem = s.mem := by simp -implicitDefEqProofs [State.bootVcore]

@[simp] theorem State.bootVout_mem (s : State) : (s.bootVout).2.mem = s.mem := by simp -implicitDefEqProofs [State.bootVout]

@[simp] theorem State.bootOtp_mem (s : State) : (s.bootOtp).2.mem = s.mem := by
  rw [State.bootOtp]
  generalize hf : (fun (k : Nat) (t : State) =>
    if fuseDisagrees (t.rowBits 7) k then t.raise 1 0x25 3 (BitVec.ofNat 32 k) else t) = f
  have fuse (k : Nat) (t : State) : (f k t).mem = t.mem := by
    rw [show f k t = if fuseDisagrees (t.rowBits 7) k then t.raise 1 0x25 3 (BitVec.ofNat 32 k) else t by rw [← hf]]
    split
    · exact State.raise_mem ..
    · rfl
  split <;> simp -implicitDefEqProofs [-foldOver_cons, fuse]

@[simp] theorem State.bootImage_canon (s : State) (hs : Memory.Canon s.mem) : Memory.Canon (s.bootImage).2.mem := by
  unfold State.bootImage
  split <;> next e => obtain rfl := congrArg Prod.snd e; simp -implicitDefEqProofs [hs]

@[simp] theorem State.bootTables_canon (s : State) (hs : Memory.Canon s.mem) : Memory.Canon (s.bootTables).2.mem := by
  unfold State.bootTables
  extract_lets fail
  have hf (t : State) (ht : Memory.Canon t.mem) : Memory.Canon (fail t).2.mem := by simp -implicitDefEqProofs [fail, ht]
  clear_value fail
  split
  · exact hf _ hs
  · split
    · next s1 e => exact hf _ (by obtain rfl := congrArg Prod.snd e; simp -implicitDefEqProofs [hs])
    · next g s1 e =>
      have h1 : Memory.Canon s1.mem := by obtain rfl := congrArg Prod.snd e; simp -implicitDefEqProofs [hs]
      split
      · next s2 e => exact hf _ (by obtain rfl := congrArg Prod.snd e; simp -implicitDefEqProofs [h1])
      · next p s2 e => obtain rfl := congrArg Prod.snd e; simp -implicitDefEqProofs [h1]

@[simp] theorem State.bootRef_mem (x : Nat × Bool) (s : State) : (State.bootRef x s).mem = s.mem := by
  simp -implicitDefEqProofs [State.bootRef]

@[simp] theorem State.bootPll_mem (s : State) : (s.bootPll).2.mem = s.mem := by simp -implicitDefEqProofs [State.bootPll]

@[simp] theorem State.bootLoops_mem (s : State) : (s.bootLoops).2.mem = s.mem := by
  dsimp only [State.bootLoops]; split <;> simp -implicitDefEqProofs

@[simp] theorem State.firstInstruction_mem (s : State) : s.firstInstruction.mem = s.mem := by
  simp -implicitDefEqProofs [State.firstInstruction]

@[simp] theorem State.notifyReset_mem (s : State) : s.notifyReset.mem = s.mem := by simp -implicitDefEqProofs [State.notifyReset]

@[simp] theorem State.unsealedNote_mem (s : State) : s.unsealedNote.mem = s.mem := by simp -implicitDefEqProofs [State.unsealedNote]

@[simp] theorem State.regionsGrant_mem (s : State) : s.regionsGrant.mem = s.mem := by simp -implicitDefEqProofs [State.regionsGrant]

@[simp] theorem bootRun_canon (l : List (State → Bool × State)) (s : State)
    (hl : ∀ f ∈ l, ∀ t : State, Memory.Canon t.mem → Memory.Canon (f t).2.mem) (hs : Memory.Canon s.mem) :
    Memory.Canon (bootRun l s).2.mem := by
  induction l generalizing s with
  | nil => exact hs
  | cons f fs ih =>
    have h1 := hl f (by simp) s hs
    unfold bootRun
    split
    · next e => rw [e] at h1; exact ih _ (fun g hg => hl g (by simp [hg])) h1
    · exact h1

@[simp] theorem State.handOver_canon (r : Bool × State) (hr : Memory.Canon r.2.mem) : Memory.Canon (State.handOver r).mem := by
  obtain ⟨b, s1⟩ := r
  unfold State.handOver
  cases b with
  | true =>
    have h1 : Memory.Canon s1.mem := hr
    simp only
    split
    · simp -implicitDefEqProofs [h1]
    · split <;> simp -implicitDefEqProofs [h1]
  | false =>
    have h1 : Memory.Canon s1.mem := hr
    simp -implicitDefEqProofs [h1]

@[simp] theorem State.boot_canon (s0 : State) (hs : Memory.Canon s0.mem) : Memory.Canon s0.boot.mem := by
  have hl : ∀ f ∈ bootSteps, ∀ t : State, Memory.Canon t.mem → Memory.Canon (f t).2.mem := by
    simp -implicitDefEqProofs +contextual [bootSteps]
  have h : Memory.Canon ((s0.onOtp fun o => { o with secure := fuseMaj (s0.rowBits 7) 0 }).unsealedNote).mem := by
    simp -implicitDefEqProofs [hs]
  rw [State.boot]
  generalize ((s0.onOtp fun o => { o with secure := fuseMaj (s0.rowBits 7) 0 }).unsealedNote) = s at h ⊢
  split
  · simp -implicitDefEqProofs [bootRun_canon _ _ hl h]
  · next k _ =>
    have h1 : Memory.Canon (bootRun (bootSteps.take (k - 1)) s).2.mem :=
      bootRun_canon _ _ (fun f hf => hl f (List.mem_of_mem_take hf)) h
    split
    · next s1 e =>
      have h2 : Memory.Canon s1.mem := by rw [e] at h1; exact h1
      have h3 := fun u (hu : Memory.Canon u.mem) => State.handOver_canon _ (bootRun_canon _ u hl hu)
      simp -implicitDefEqProofs [h2, h3]
    · simp -implicitDefEqProofs [h1]

@[simp] theorem State.setEnv_mem (s : State) (e : BootEnv) : (s.setEnv e).mem = s.mem := by simp -implicitDefEqProofs [State.setEnv]

@[simp] theorem State.setEnvIf_mem (s : State) (b : Bool) (e : BootEnv) : (s.setEnvIf b e).mem = s.mem := by
  simp -implicitDefEqProofs [State.setEnvIf]

@[simp] theorem State.warmBoot_canon (s : State) (causes : List Fld) (hs : Memory.Canon s.mem) :
    Memory.Canon (s.warmBoot causes).mem := by
  simp -implicitDefEqProofs [State.warmBoot, hs]

@[simp] theorem State.releaseOrWait_canon (s : State) (hs : Memory.Canon s.mem) : Memory.Canon s.releaseOrWait.mem := by
  simp -implicitDefEqProofs [State.releaseOrWait, hs]

@[simp] theorem State.powerOn_canon (s : State) (e : BootEnv) (hs : Memory.Canon s.mem) : Memory.Canon (s.powerOn e).mem := by
  simp -implicitDefEqProofs [State.powerOn, hs]

@[simp] theorem State.pinFall_canon (s : State) (e : BootEnv) (hs : Memory.Canon s.mem) : Memory.Canon (s.pinFall e).mem := by
  simp -implicitDefEqProofs [State.pinFall, hs]

@[simp] theorem State.pinRise_canon (s : State) (e : BootEnv) (hs : Memory.Canon s.mem) : Memory.Canon (s.pinRise e).mem := by
  simp -implicitDefEqProofs [State.pinRise, hs]

@[simp] theorem State.rstctlWrite_canon (s : State) (w : Word) (hs : Memory.Canon s.mem) : Memory.Canon (s.rstctlWrite w).mem := by
  simp -implicitDefEqProofs [State.rstctlWrite, hs]

@[simp] theorem State.mileSettle_canon (s0 : State) (hs : Memory.Canon s0.mem) : Memory.Canon s0.mileSettle.mem := by
  simp -implicitDefEqProofs +contextual [State.mileSettle, hs]

@[simp] theorem State.flcTrip_canon (s : State) (hs : Memory.Canon s.mem) : Memory.Canon s.flcTrip.mem := by
  simp -implicitDefEqProofs [State.flcTrip, hs]

@[simp] theorem State.lastMile_canon (a : State) (hs : Memory.Canon a.mem) : Memory.Canon a.lastMile.mem := by
  unfold State.lastMile
  extract_lets s1 s2 s3 s4 s5 s6
  have h2 : Memory.Canon s2.mem := by simp -implicitDefEqProofs [s2, s1, hs]
  have h4 : Memory.Canon s4.mem := by simp -implicitDefEqProofs [s4, s3, h2]
  simp -implicitDefEqProofs [s6, s5, h4]

@[simp] theorem State.vinTrip_canon (s0 : State) (hs : Memory.Canon s0.mem) : Memory.Canon s0.vinTrip.mem := by
  simp -implicitDefEqProofs [State.vinTrip, hs]

@[simp] theorem State.flushWrite_canon (s : State) (hs : Memory.Canon s.mem) : Memory.Canon s.flushWrite.mem := by
  unfold State.flushWrite; split <;> simp -implicitDefEqProofs [hs]

@[simp] theorem State.park_canon (s : State) (f : Flush) (hs : Memory.Canon s.mem) : Memory.Canon (s.park f).mem := by
  simp -implicitDefEqProofs [State.park, hs]

@[simp] theorem State.parkedPin_canon (s : State) (low : Bool) (hs : Memory.Canon s.mem) : Memory.Canon (s.parkedPin low).mem := by
  simp -implicitDefEqProofs [State.parkedPin, hs]

@[simp] theorem State.flushPark_canon (s : State) (hs : Memory.Canon s.mem) : Memory.Canon s.flushPark.mem := by
  unfold State.flushPark; split <;> simp -implicitDefEqProofs [hs]

@[simp] theorem State.sealTimeout_canon (s : State) (n : Nat) (hs : Memory.Canon s.mem) : Memory.Canon (s.sealTimeout n).mem := by
  unfold State.sealTimeout
  split
  · next f _ =>
    split
    · exact hs
    · have h1 : Memory.Canon ((s.writeSlot f.tripNt (some n)).park f).mem := by simp -implicitDefEqProofs [hs]
      simp -implicitDefEqProofs [h1]
  · exact hs

@[simp] theorem State.busRecovery_canon (s0 : State) (e : BootEnv) (hs : Memory.Canon s0.mem) :
    Memory.Canon (s0.busRecovery e).mem := by
  simp -implicitDefEqProofs [State.busRecovery, hs]

@[simp] theorem State.busAbove_canon (s : State) (e : BootEnv) (level : Nat) (hs : Memory.Canon s.mem) :
    Memory.Canon (s.busAbove e level).mem := by
  simp -implicitDefEqProofs [State.busAbove, hs]

@[simp] theorem State.brownOut_canon (s : State) (n : Nat) (hs : Memory.Canon s.mem) : Memory.Canon (s.brownOut n).mem := by
  dsimp only [State.brownOut]; (repeat' split) <;> simp -implicitDefEqProofs [hs]

@[simp] theorem State.supplyLoss_canon (s : State) (vbakLost : Bool) (hs : Memory.Canon s.mem) :
    Memory.Canon (s.supplyLoss vbakLost).mem := by
  simp -implicitDefEqProofs [State.supplyLoss, hs]

@[simp] theorem State.dozeCommit_canon (s0 : State) (hs : Memory.Canon s0.mem) : Memory.Canon s0.dozeCommit.mem := by
  simp -implicitDefEqProofs [State.dozeCommit, hs]

@[simp] theorem State.wakeDoze_canon (s : State) (e : Exch) (hs : Memory.Canon s.mem) : Memory.Canon (s.wakeDoze e).mem := by
  simp -implicitDefEqProofs [State.wakeDoze, hs]

@[simp] theorem State.wakeHib_canon (s : State) (e : Exch) (hs : Memory.Canon s.mem) : Memory.Canon (s.wakeHib e).mem := by
  simp -implicitDefEqProofs [State.wakeHib, hs]

@[simp] theorem State.hibCommit_canon (s0 : State) (hs : Memory.Canon s0.mem) : Memory.Canon s0.hibCommit.mem := by
  have hd : Memory.Canon (s0.boundary .SYSCTL_SLEEPCFG).powerDown.mem := by simp -implicitDefEqProofs [hs]
  obtain ⟨d, ed⟩ : ∃ d, (s0.boundary .SYSCTL_SLEEPCFG).powerDown = d := ⟨_, rfl⟩
  rw [ed] at hd
  simp only [State.hibCommit, ed]
  split
  · exact hs
  · simp -implicitDefEqProofs [hd]

@[simp] theorem State.wake_canon (s : State) (e : Exch) (hs : Memory.Canon s.mem) : Memory.Canon (s.wake e).mem := by
  simp -implicitDefEqProofs [State.wake, hs]

/-! ### The controller -/

@[simp] theorem State.setTag_mem (s : State) (v : Nat) : (s.setTag v).mem = s.mem := by simp -implicitDefEqProofs [State.setTag]

@[simp] theorem State.setKeyRegs_mem (s : State) (r : RegName) (ok : Fld) (k : Bytes) : (s.setKeyRegs r ok k).mem = s.mem := by
  simp -implicitDefEqProofs [State.setKeyRegs]

@[simp] theorem State.keyRegWrite_mem (s : State) (r : RegName) (ok : Fld) (w : Nat) (v : Word) :
    (s.keyRegWrite r ok w v).mem = s.mem := by
  simp -implicitDefEqProofs [State.keyRegWrite]

@[simp] theorem State.setTagByte_mem (s : State) (o : Nat) (b : Byte) : (s.setTagByte o b).mem = s.mem := by
  simp -implicitDefEqProofs [State.setTagByte]

@[simp] theorem State.setTagBytes_mem (s : State) (o : Nat) (bs : Bytes) : (s.setTagBytes o bs).mem = s.mem := by
  induction bs generalizing s o with
  | nil => rfl
  | cons b l ih => simp [State.setTagBytes, ih]

@[simp] theorem State.checkTag_mem (s : State) (w : Nat) : (s.checkTag w).2.mem = s.mem := by
  unfold State.checkTag; split <;> simp -implicitDefEqProofs

@[simp] theorem State.checkWords_mem (s : State) (l : List Nat) : (s.checkWords l).2.mem = s.mem := by
  have step (l : List Nat) : ∀ x : Bool × State, x.2.mem = s.mem →
      (l.foldl (fun (x : Bool × State) w => let (ok, t) := x.2.checkTag w; (x.1 && ok, t)) x).2.mem = s.mem := by
    induction l with
    | nil => exact fun _ h => h
    | cons w l ih => exact fun x h => ih _ ((x.2.checkTag_mem w).trans h)
  exact step l _ rfl

@[simp] theorem State.checkTags_mem (s : State) (o n : Nat) : (s.checkTags o n).2.mem = s.mem := by
  simp -implicitDefEqProofs [State.checkTags]

@[simp] theorem State.mendTags_mem (s : State) (o n : Nat) : (s.mendTags o n).mem = s.mem := by
  simp -implicitDefEqProofs [State.mendTags]

@[simp] theorem State.writeTags_mem (s : State) (o : Nat) (d : Bytes) : (s.writeTags o d).2.mem = s.mem := by
  unfold State.writeTags
  split <;> next e => obtain rfl := congrArg Prod.snd e; simp -implicitDefEqProofs

@[simp] theorem State.tagAnswer_mem (s : State) (a : Option Bytes) : (s.tagAnswer a).mem = s.mem := by
  simp -implicitDefEqProofs [State.tagAnswer]

@[simp] theorem State.tagFrame_mem (s : State) : s.tagFrame.mem = s.mem := by simp -implicitDefEqProofs [State.tagFrame]

@[simp] theorem State.fieldAppears_mem (s : State) : s.fieldAppears.mem = s.mem := by simp -implicitDefEqProofs [State.fieldAppears]

@[simp] theorem State.fieldLost_mem (s : State) : s.fieldLost.mem = s.mem := by simp -implicitDefEqProofs [State.fieldLost]

@[simp] theorem State.ctlBoundary_mem (s : State) : s.ctlBoundary.mem = s.mem := by simp -implicitDefEqProofs [State.ctlBoundary]

@[simp] theorem State.fieldGone_mem (s : State) : s.fieldGone.mem = s.mem := by simp -implicitDefEqProofs [State.fieldGone]

@[simp] theorem State.tagWake_mem (s0 : State) : s0.tagWake.mem = s0.mem := by
  dsimp only [State.tagWake]; (repeat' split) <;> simp -implicitDefEqProofs

@[simp] theorem State.tagAnticol_mem (s0 : State) (sel : Byte) (known : List Bool) : (s0.tagAnticol sel known).mem = s0.mem := by
  simp -implicitDefEqProofs [State.tagAnticol]

@[simp] theorem State.tagSelect_mem (s0 : State) (sel : Byte) (uid : Bytes) : (s0.tagSelect sel uid).mem = s0.mem := by
  simp -implicitDefEqProofs [State.tagSelect]

@[simp] theorem State.tagHalt_mem (s0 : State) : s0.tagHalt.mem = s0.mem := by
  dsimp only [State.tagHalt]; (repeat' split) <;> simp -implicitDefEqProofs

@[simp] theorem State.quietEnd_mem (s : State) : s.quietEnd.mem = s.mem := by simp -implicitDefEqProofs [State.quietEnd]

@[simp] theorem State.tagFail_mem (s : State) : s.tagFail.mem = s.mem := by simp -implicitDefEqProofs [State.tagFail]

@[simp] theorem State.lockoutEnd_mem (s : State) : s.lockoutEnd.mem = s.mem := by simp -implicitDefEqProofs [State.lockoutEnd]

@[simp] theorem State.tagNext_mem (s : State) (x : TagSession) : (s.tagNext x).mem = s.mem := by
  simp -implicitDefEqProofs [State.tagNext]

@[simp] theorem State.tagServe_mem (s0 : State) (f : State → State) (hf : ∀ t, (f t).mem = t.mem) :
    (s0.tagServe f).mem = s0.mem := by
  unfold State.tagServe
  dsimp only
  (repeat' split) <;> simp [hf]

@[simp] theorem State.tagSecured_mem (s : State) (f : State → State) (hf : ∀ t, (f t).mem = t.mem) :
    (s.tagSecured f).mem = s.mem := by
  unfold State.tagSecured
  split <;> simp [hf]

@[simp] theorem State.tagDrop_mem (s : State) : s.tagDrop.mem = s.mem := by simp -implicitDefEqProofs [State.tagDrop]

@[simp] theorem State.tagServe_canon (s0 : State) (f : State → State) (hf : ∀ t, Memory.Canon t.mem → Memory.Canon (f t).mem)
    (hs : Memory.Canon s0.mem) :
    Memory.Canon (s0.tagServe f).mem := by
  unfold State.tagServe
  extract_lets s
  have h1 : Memory.Canon s.mem := by simp -implicitDefEqProofs [s, hs]
  clear_value s
  split
  · exact h1
  · split
    · simpa -implicitDefEqProofs using h1
    · simpa -implicitDefEqProofs using h1
    · exact hf _ h1
    · exact hf _ h1
    · exact h1

@[simp] theorem State.tagGetId_mem (s0 : State) (par : Bytes) : (s0.tagGetId par).mem = s0.mem := by
  simp -implicitDefEqProofs [State.tagGetId]

@[simp] theorem State.tagGetStatus_mem (s0 : State) (par : Bytes) : (s0.tagGetStatus par).mem = s0.mem := by
  simp -implicitDefEqProofs [State.tagGetStatus]

@[simp] theorem State.tagReadOpen_mem (s : State) (par : Bytes) : (s.tagReadOpen par).mem = s.mem := by
  unfold State.tagReadOpen
  dsimp only
  (repeat' split) <;> try simp
  all_goals next e => obtain rfl := congrArg Prod.snd e; simp -implicitDefEqProofs

@[simp] theorem State.tagReadSec_mem (s : State) (x : TagSession) (par : Bytes) : (s.tagReadSec x par).mem = s.mem := by
  unfold State.tagReadSec
  dsimp only
  (repeat' split) <;> try simp
  all_goals next e => obtain rfl := congrArg Prod.snd e; simp -implicitDefEqProofs

@[simp] theorem State.tagRead_mem (s0 : State) (par : Bytes) : (s0.tagRead par).mem = s0.mem := by
  refine State.tagServe_mem _ _ fun s => ?_
  split
  · split
    · exact State.tagSecured_mem _ _ fun t => State.tagReadSec_mem ..
    · simp
  · simp

@[simp] theorem State.tagWrite_mem (s0 : State) (par : Bytes) : (s0.tagWrite par).mem = s0.mem := by
  refine State.tagServe_mem _ _ fun u => State.tagSecured_mem _ _ fun s => ?_
  dsimp only
  (repeat' split) <;> try simp
  all_goals next e => obtain rfl := congrArg Prod.snd e; simp -implicitDefEqProofs

@[simp] theorem State.tagUnknown_mem (s : State) : s.tagUnknown.mem = s.mem := by
  unfold State.tagUnknown; split <;> simp -implicitDefEqProofs

@[simp] theorem State.tagUndefined_mem (s0 : State) : s0.tagUndefined.mem = s0.mem := by
  simp -implicitDefEqProofs [State.tagUndefined]

@[simp] theorem State.tagUpset_mem (s : State) (f : MemFrame) : (s.tagUpset f).mem = s.mem := by
  simp -implicitDefEqProofs [State.tagUpset]

@[simp] theorem State.tagAuth1_canon (s0 : State) (par : Bytes) (hs : Memory.Canon s0.mem) :
    Memory.Canon (s0.tagAuth1 par).mem := by
  refine State.tagServe_canon _ _ (fun s hs => ?_) hs
  dsimp only
  (repeat' split) <;> simp -implicitDefEqProofs [hs]

@[simp] theorem State.tagAuth2_mem (s0 : State) (par : Bytes) : (s0.tagAuth2 par).mem = s0.mem := by
  unfold State.tagAuth2; split <;> simp -implicitDefEqProofs

@[simp] theorem State.tagEnd_mem (s0 : State) (par : Bytes) : (s0.tagEnd par).mem = s0.mem := by
  refine State.tagServe_mem _ _ fun u => State.tagSecured_mem _ _ fun s => ?_
  (repeat' split) <;> simp

@[simp] theorem State.holdWrite_mem (s : State) (w : Word) : (s.holdWrite w).mem = s.mem := by
  simp -implicitDefEqProofs [State.holdWrite]

@[simp] theorem State.holdTimeout_mem (s : State) : s.holdTimeout.mem = s.mem := by simp -implicitDefEqProofs [State.holdTimeout]

@[simp] theorem State.onReader_mem (s : State) (f : Reader → Reader) : (s.onReader f).mem = s.mem := by
  simp -implicitDefEqProofs [State.onReader]

@[simp] theorem State.rdSend_mem (s : State) (p : RdPhase) (f : Bytes) : (s.rdSend p f).mem = s.mem := by
  simp -implicitDefEqProofs [State.rdSend]

@[simp] theorem State.rdDone_mem (s : State) (r : Reader) (code : Nat) (range : Bool) : (s.rdDone r code range).mem = s.mem := by
  dsimp only [State.rdDone]; split <;> simp -implicitDefEqProofs

@[simp] theorem State.rdCarrier_mem (s : State) : s.rdCarrier.mem = s.mem := by simp -implicitDefEqProofs [State.rdCarrier]

@[simp] theorem State.rdStart_mem (s : State) : s.rdStart.mem = s.mem := by simp -implicitDefEqProofs [State.rdStart]

@[simp] theorem State.rdLevel_mem (s : State) (level : Nat) : (s.rdLevel level).mem = s.mem := by
  simp -implicitDefEqProofs [State.rdLevel]

@[simp] theorem State.rdSelect_mem (s : State) (r : Reader) (b : Bytes) : (s.rdSelect r b).mem = s.mem := by
  simp -implicitDefEqProofs [State.rdSelect]

@[simp] theorem State.rdBcc_mem (s : State) (r : Reader) : (s.rdBcc r).mem = s.mem := by simp -implicitDefEqProofs [State.rdBcc]

@[simp] theorem State.rdAnticol_mem (s : State) (r : Reader) (b : Bytes) (coll : Option Nat) :
    (s.rdAnticol r b coll).mem = s.mem := by
  unfold State.rdAnticol; split <;> simp -implicitDefEqProofs

@[simp] theorem State.rdNextTag_mem (s : State) : s.rdNextTag.mem = s.mem := by simp -implicitDefEqProofs [State.rdNextTag]

@[simp] theorem State.rdSak_mem (s : State) (r : Reader) (sak : Byte) : (s.rdSak r sak).mem = s.mem := by
  simp -implicitDefEqProofs [State.rdSak]

@[simp] theorem State.rdIdent_mem (s : State) (r : Reader) (b : Bytes) : (s.rdIdent r b).mem = s.mem := by
  dsimp only [State.rdIdent]; split <;> simp -implicitDefEqProofs

@[simp] theorem State.rdAuth1_mem (s : State) (r : Reader) (b : Bytes) : (s.rdAuth1 r b).mem = s.mem := by
  simp -implicitDefEqProofs [State.rdAuth1]

@[simp] theorem State.rdPiece_mem (s : State) (r : Reader) (x : TagSession) (n : Nat) : (s.rdPiece r x n).mem = s.mem := by
  unfold State.rdPiece; split <;> simp -implicitDefEqProofs

@[simp] theorem State.rdAuth2_mem (s : State) (r : Reader) (b : Bytes) : (s.rdAuth2 r b).mem = s.mem := by
  simp -implicitDefEqProofs [State.rdAuth2]

@[simp] theorem State.rdWrote_mem (s : State) (r : Reader) (x : TagSession) (n : Nat) (b : Bytes) :
    (s.rdWrote r x n b).mem = s.mem := by
  dsimp only [State.rdWrote]; (repeat' split) <;> simp -implicitDefEqProofs

@[simp] theorem State.rdHalt_mem (s : State) (r : Reader) : (s.rdHalt r).mem = s.mem := by simp -implicitDefEqProofs [State.rdHalt]

@[simp] theorem State.rdAnswer_mem (s : State) (b : Bytes) (coll : Option Nat) : (s.rdAnswer b coll).mem = s.mem := by
  dsimp only [State.rdAnswer]; (repeat' split) <;> simp -implicitDefEqProofs

@[simp] theorem State.rdScanEnd_mem (s : State) (r : Reader) : (s.rdScanEnd r).mem = s.mem := by
  simp -implicitDefEqProofs [State.rdScanEnd]

@[simp] theorem State.rdTimeout_mem (s : State) : s.rdTimeout.mem = s.mem := by
  dsimp only [State.rdTimeout]; (repeat' split) <;> simp -implicitDefEqProofs

@[simp] theorem State.rdRetry_mem (s : State) : s.rdRetry.mem = s.mem := by
  dsimp only [State.rdRetry]; (repeat' split) <;> simp -implicitDefEqProofs

@[simp] theorem State.rdCarrierRetry_mem (s : State) : s.rdCarrierRetry.mem = s.mem := by
  unfold State.rdCarrierRetry; split <;> simp -implicitDefEqProofs

@[simp] theorem State.padPoll_canon (s0 : State) (count : Nat) (hs : Memory.Canon s0.mem) :
    Memory.Canon (s0.padPoll count).mem := by
  simp -implicitDefEqProofs [State.padPoll, hs]

@[simp] theorem State.provisionTimeout_mem (s : State) : s.provisionTimeout.mem = s.mem := by
  unfold State.provisionTimeout; split <;> simp -implicitDefEqProofs

@[simp] theorem State.ctlCfgWrite_mem (s : State) (w : Word) : (s.ctlCfgWrite w).mem = s.mem := by
  simp -implicitDefEqProofs [State.ctlCfgWrite]

/-! ### The error unit -/

@[simp] theorem State.errAck_mem (s : State) (w : Word) : (s.errAck w).mem = s.mem := by
  dsimp only [State.errAck]; (repeat' split) <;> simp -implicitDefEqProofs

@[simp] theorem State.errReport_mem (s : State) (cl : Nat) (w : Word) : (s.errReport cl w).mem = s.mem := by
  simp -implicitDefEqProofs [State.errReport]

@[simp] theorem State.s3_mem (s : State) (source : Nat) (info : Word) : (s.s3 source info).mem = s.mem := by
  simp -implicitDefEqProofs [State.s3]

@[simp] theorem State.synLockLoss_mem (s : State) (p : Nat) : (s.synLockLoss p).mem = s.mem := by
  simp -implicitDefEqProofs [State.synLockLoss]

@[simp] theorem State.wdtRestart_mem (s : State) (n : Nat) : (s.wdtRestart n).mem = s.mem := by
  simp -implicitDefEqProofs [State.wdtRestart]

@[simp] theorem State.wdtCfgWrite_mem (s : State) (n : Nat) (w : Word) : (s.wdtCfgWrite n w).mem = s.mem := by
  simp -implicitDefEqProofs [State.wdtCfgWrite]

@[simp] theorem State.consecUp_mem (s : State) : s.consecUp.mem = s.mem := by simp -implicitDefEqProofs [State.consecUp]

@[simp] theorem State.wdtFire_canon (s : State) (n : Nat) (hs : Memory.Canon s.mem) : Memory.Canon (s.wdtFire n).mem := by
  simp -implicitDefEqProofs [State.wdtFire, hs]

@[simp] theorem State.wdtExpire_canon (s : State) (n : Nat) (hs : Memory.Canon s.mem) : Memory.Canon (s.wdtExpire n).mem := by
  simp -implicitDefEqProofs [State.wdtExpire, hs]

@[simp] theorem State.heldReset_canon (s : State) (hs : Memory.Canon s.mem) : Memory.Canon s.heldReset.mem := by
  simp -implicitDefEqProofs [State.heldReset, hs]

@[simp] theorem State.wdtKick_canon (s : State) (n : Nat) (w : Word) (hs : Memory.Canon s.mem) :
    Memory.Canon (s.wdtKick n w).mem := by
  simp -implicitDefEqProofs [State.wdtKick, hs]

@[simp] theorem State.wdtCycle_mem (n : Nat) (s : State) : (State.wdtCycle n s).mem = s.mem := by
  simp -implicitDefEqProofs [State.wdtCycle]

@[simp] theorem State.consecClear_mem (s : State) : s.consecClear.mem = s.mem := by simp -implicitDefEqProofs [State.consecClear]

@[simp] theorem State.telSnap_mem (s : State) (temp margin : Half) : (s.telSnap temp margin).mem = s.mem := by
  simp -implicitDefEqProofs [State.telSnap]

theorem State.writeImage_canon (s : State) (c : ConfigImage) (t : State) (hs : Memory.Canon s.mem) (e : s.writeImage c = some t) :
    Memory.Canon t.mem := by
  unfold State.writeImage at e
  obtain ⟨w, -, hw⟩ := Option.map_eq_some_iff.mp e
  rw [← hw]
  clear hw e
  dsimp only
  split <;> simp -implicitDefEqProofs [hs]

@[simp] theorem State.ageing_canon (s : State) (hs : Memory.Canon s.mem) : Memory.Canon s.ageing.mem := by
  unfold State.ageing
  split
  · exact hs
  · split
    · simp -implicitDefEqProofs [hs]
    · extract_lets s1 c
      have h1 : Memory.Canon s1.mem := by simp -implicitDefEqProofs [s1, hs]
      cases e : s1.writeImage { c with regs := Tab.put c.regs (RegName.PMB_VREQ.key 0) (s1.reg .PMB_VREQ) } with
      | none => exact h1
      | some t => exact State.writeImage_canon _ _ _ h1 e

/-! ### Replay -/

@[simp] theorem State.ringTake_mem (s : State) (l : List RingRec) : (s.ringTake l).mem = s.mem := by
  dsimp only [State.ringTake]; split <;> simp -implicitDefEqProofs

@[simp] theorem State.discard_mem (s : State) (n : Nat) : (s.discard n).mem = s.mem := by simp -implicitDefEqProofs [State.discard]

@[simp] theorem State.replayLines_canon (s : State) (k : Nat) (h : SlotHead) (good : List Bytes) (hs : Memory.Canon s.mem) :
    Memory.Canon (s.replayLines k h good).mem := by
  simp -implicitDefEqProofs +contextual [State.replayLines, hs]

@[simp] theorem State.replayPlace_mem (s : State) : s.replayPlace.mem = s.mem := by simp -implicitDefEqProofs [State.replayPlace]

@[simp] theorem State.replayFlash_canon (s : State) (a : Nat) (line : Bytes) (hs : Memory.Canon s.mem) :
    Memory.Canon (s.replayFlash a line).mem := by
  simp -implicitDefEqProofs [State.replayFlash, hs]

@[simp] theorem State.replayAction_canon (b : Bytes) (e : (Word × Word) × Nat) (s : State) (hs : Memory.Canon s.mem) :
    Memory.Canon (State.replayAction b e s).mem := by
  dsimp only [State.replayAction]; split <;> simp -implicitDefEqProofs [hs]

@[simp] theorem State.replayCommit_canon (b : Bytes) (s : State) (hs : Memory.Canon s.mem) :
    Memory.Canon (State.replayCommit b s).mem := by
  simp -implicitDefEqProofs +contextual [State.replayCommit, hs]

@[simp] theorem State.replayWrite_mem (s : State) (w : Word) : (s.replayWrite w).mem = s.mem := by
  simp -implicitDefEqProofs [State.replayWrite]

@[simp] theorem State.replayDrop_mem (s : State) (n : Nat) : (s.replayDrop n).mem = s.mem := by
  simp -implicitDefEqProofs [State.replayDrop]

@[simp] theorem State.replayDone_canon (s : State) (hs : Memory.Canon s.mem) : Memory.Canon s.replayDone.mem := by
  unfold State.replayDone
  split
  · exact hs
  · extract_lets raw good s1 s2 s3 s4 s5 s6
    have h2 : Memory.Canon s2.mem := by simp -implicitDefEqProofs [s2, s1, hs]
    have h3 : Memory.Canon s3.mem := foldOver_canon _ (by simp +contextual) _ _ h2
    have h4 : Memory.Canon s4.mem := foldOver_canon _ (by simp +contextual) _ _ h3
    have h6 : Memory.Canon s6.mem := by simp -implicitDefEqProofs [s6, s5, h4]
    split <;> simp -implicitDefEqProofs [h6]

/-! ### The buses -/

@[simp] theorem State.flcResultRead_mem (s : State) : (s.flcResultRead).2.mem = s.mem := by
  unfold State.flcResultRead; split <;> simp -implicitDefEqProofs

@[simp] theorem State.ntTickRead_mem (s : State) (core : Nat) : (s.ntTickRead core).2.mem = s.mem := by
  simp -implicitDefEqProofs [State.ntTickRead]

@[simp] theorem State.readReg_mem (s : State) (who cl : Nat) (r : RegName) (n : Nat) : (s.readReg who cl r n).2.mem = s.mem := by
  unfold State.readReg; split <;> simp -implicitDefEqProofs

@[simp] theorem State.rtcWrite_mem (s : State) (r : RegName) (n : Nat) (w : Word) : (s.rtcWrite r n w).mem = s.mem := by
  unfold State.rtcWrite; split <;> simp -implicitDefEqProofs

@[simp] theorem State.rtcCaptureStart_mem (s : State) : s.rtcCaptureStart.mem = s.mem := by
  simp -implicitDefEqProofs [State.rtcCaptureStart]

@[simp] theorem State.rtcNext_mem (fuel : Nat) (s : State) : (State.rtcNext fuel s).mem = s.mem := by
  induction fuel generalizing s with
  | zero => rfl
  | succ n ih => unfold State.rtcNext; dsimp only; (repeat' split) <;> simp [ih]

@[simp] theorem State.rtcOrder_mem (s : State) (h : Hdr) (op : Nat) (writes : List (RegName × Nat × Word)) :
    (s.rtcOrder h op writes).mem = s.mem := by
  simp -implicitDefEqProofs [State.rtcOrder]

@[simp] theorem State.rtcCaptureDone_mem (s : State) : s.rtcCaptureDone.mem = s.mem := by
  simp -implicitDefEqProofs [State.rtcCaptureDone]

@[simp] theorem State.rtcApply_mem (s : State) (r : RegName) (n : Nat) (w : Word) : (s.rtcApply r n w).mem = s.mem := by
  unfold State.rtcApply; split <;> simp -implicitDefEqProofs

@[simp] theorem State.alarmWake_canon (s0 s : State) (hs : Memory.Canon s.mem) : Memory.Canon (s0.alarmWake s).mem := by
  unfold State.alarmWake
  extract_lets rose
  split
  · exact hs
  · split <;> simp -implicitDefEqProofs [hs]

@[simp] theorem State.rtcWriteDone_canon (s : State) (hs : Memory.Canon s.mem) : Memory.Canon s.rtcWriteDone.mem := by
  unfold State.rtcWriteDone; split <;> simp -implicitDefEqProofs [hs]

@[simp] theorem State.coreEnWrite_mem (s : State) (w : Word) : (s.coreEnWrite w).mem = s.mem := by
  simp -implicitDefEqProofs [State.coreEnWrite]

@[simp] theorem State.queueCfgWrite_mem (s : State) (cl q : Nat) (w : Word) : (s.queueCfgWrite cl q w).mem = s.mem := by
  simp -implicitDefEqProofs [State.queueCfgWrite]

@[simp] theorem State.tmemWrite_mem (s : State) (n : Nat) (w : Word) : (s.tmemWrite n w).mem = s.mem := by
  simp -implicitDefEqProofs [State.tmemWrite]

@[simp] theorem State.evfWrite_mem (s : State) (cl : Nat) (r : RegName) (n : Nat) (w : Word) :
    (s.evfWrite cl r n w).mem = s.mem := by
  unfold State.evfWrite; split <;> simp -implicitDefEqProofs

@[simp] theorem State.sysWrite_canon (s : State) (r : RegName) (n : Nat) (w : Word) (hs : Memory.Canon s.mem) :
    Memory.Canon (s.sysWrite r n w).mem := by
  unfold State.sysWrite; split <;> simp -implicitDefEqProofs [hs]

@[simp] theorem State.timeWrite_mem (s : State) (cl : Nat) (r : RegName) (n : Nat) (w : Word) :
    (s.timeWrite cl r n w).mem = s.mem := by
  unfold State.timeWrite; split <;> simp -implicitDefEqProofs

@[simp] theorem State.storeWrite_canon (s : State) (cl : Nat) (r : RegName) (n : Nat) (w : Word) (hs : Memory.Canon s.mem) :
    Memory.Canon (s.storeWrite cl r n w).mem := by
  unfold State.storeWrite; split <;> simp -implicitDefEqProofs [hs]

@[simp] theorem State.pushWrite_mem (s : State) (cl : Nat) (w : Word) : (s.pushWrite cl w).mem = s.mem := by
  simp -implicitDefEqProofs [State.pushWrite]

@[simp] theorem State.gateWrite_mem (s : State) (n : Nat) (w : Word) : (s.gateWrite n w).mem = s.mem := by
  simp -implicitDefEqProofs [State.gateWrite]

@[simp] theorem State.radioWrite_canon (s : State) (cl : Nat) (r : RegName) (n : Nat) (w : Word) (hs : Memory.Canon s.mem) :
    Memory.Canon (s.radioWrite cl r n w).mem := by
  unfold State.radioWrite; split <;> simp -implicitDefEqProofs [hs]

@[simp] theorem State.writeReg_canon (s : State) (cl : Nat) (r : RegName) (n : Nat) (w : Word) (hs : Memory.Canon s.mem) :
    Memory.Canon (s.writeReg cl r n w).mem := by
  simp -implicitDefEqProofs [State.writeReg, hs]

@[simp] theorem State.deniedLog_mem (s : State) (who a : Nat) : (s.deniedLog who a).mem = s.mem := by
  simp -implicitDefEqProofs [State.deniedLog]

@[simp] theorem State.noRight_mem (s : State) (who a : Nat) : (s.noRight who a).mem = s.mem := by
  simp -implicitDefEqProofs [State.noRight]

@[simp] theorem State.setPadByte_mem (s : State) (c o : Nat) (b : Byte) : (s.setPadByte c o b).mem = s.mem := by
  simp -implicitDefEqProofs [State.setPadByte]

@[simp] theorem State.setByteFor_canon (s : State) (who a : Nat) (b : Byte) (hs : Memory.Canon s.mem) :
    Memory.Canon (s.setByteFor who a b).mem := by
  simp -implicitDefEqProofs [State.setByteFor, hs]

@[simp] theorem State.setBytesFor_canon (s : State) (who a : Nat) (bs : Bytes) (hs : Memory.Canon s.mem) :
    Memory.Canon (s.setBytesFor who a bs).mem := by
  induction bs generalizing s a with
  | nil => exact hs
  | cons b l ih => exact ih _ _ (State.setByteFor_canon _ _ _ _ hs)

@[simp] theorem State.dramRead_mem (s : State) (who a n : Nat) : (s.dramRead who a n).2.2.mem = s.mem := by
  unfold State.dramRead
  (repeat' split) <;> try simp
  all_goals next e => obtain rfl := congrArg Prod.snd e; simp -implicitDefEqProofs

@[simp] theorem State.flashRead_mem (s : State) (who a n : Nat) : (s.flashRead who a n).2.2.mem = s.mem := by
  unfold State.flashRead
  extract_lets off
  split
  · simp -implicitDefEqProofs
  · split <;> next e => obtain rfl := congrArg Prod.snd e; simp -implicitDefEqProofs

@[simp] theorem State.memRead_mem (s : State) (who a n : Nat) : (s.memRead who a n).2.2.mem = s.mem := by
  unfold State.memRead
  (repeat' split) <;> try simp
  all_goals next e => obtain rfl := congrArg Prod.snd e; simp -implicitDefEqProofs

@[simp] theorem State.regRead_mem (s : State) (who a : Nat) : (s.regRead who a).2.2.mem = s.mem := by
  unfold State.regRead
  dsimp only
  (repeat' split) <;> try simp
  all_goals next e => obtain rfl := congrArg Prod.snd e; simp -implicitDefEqProofs

@[simp] theorem State.busRead_mem (s : State) (who a n : Nat) : (s.busRead who a n).2.2.mem = s.mem := by
  simp -implicitDefEqProofs [State.busRead]

@[simp] theorem State.dramWrite_canon (s : State) (who a : Nat) (b : Bytes) (hs : Memory.Canon s.mem) :
    Memory.Canon (s.dramWrite who a b).2.mem := by
  unfold State.dramWrite
  split
  · split
    · exact hs
    · split <;> next e => obtain rfl := congrArg Prod.snd e; simp -implicitDefEqProofs [hs]
  · split <;> simp -implicitDefEqProofs [hs]

@[simp] theorem State.memWrite_canon (s : State) (who a : Nat) (b : Bytes) (hs : Memory.Canon s.mem) :
    Memory.Canon (s.memWrite who a b).2.mem := by
  unfold State.memWrite
  split
  · split
    · simp -implicitDefEqProofs [hs]
    · split <;> next e => obtain rfl := congrArg Prod.snd e; simp -implicitDefEqProofs [hs]
  · split <;> simp -implicitDefEqProofs [hs]

@[simp] theorem State.regWrite_canon (s : State) (who a : Nat) (w : Word) (hs : Memory.Canon s.mem) :
    Memory.Canon (s.regWrite who a w).2.mem := by
  dsimp only [State.regWrite]; (repeat' split) <;> simp -implicitDefEqProofs [hs]

@[simp] theorem State.regPart_mem (s : State) (a : Nat) (b : Bytes) : (s.regPart a b).2.mem = s.mem := by
  simp -implicitDefEqProofs [State.regPart]

@[simp] theorem State.busWrite_canon (s : State) (who a : Nat) (b : Bytes) (hs : Memory.Canon s.mem) :
    Memory.Canon (s.busWrite who a b).2.mem := by
  simp -implicitDefEqProofs [State.busWrite, hs]

/-! ### Jobs -/

@[simp] theorem State.setJob_mem (s : State) (id : Nat) (j : Job) : (s.setJob id j).mem = s.mem := by
  simp -implicitDefEqProofs [State.setJob]

@[simp] theorem State.jobFeed_mem (id : Nat) (s : State) : (State.jobFeed id s).mem = s.mem := by
  dsimp only [State.jobFeed]; (repeat' split) <;> simp -implicitDefEqProofs

@[simp] theorem State.jobMile_canon (s : State) (id : Nat) (w0 w1 : Word) (data : Bytes) (hs : Memory.Canon s.mem) :
    Memory.Canon (s.jobMile id w0 w1 data).mem := by
  unfold State.jobMile
  split
  · simp -implicitDefEqProofs [hs]
  · next e =>
    have h1 := (State.msuOpenFor_mem _ _ _ _ _ _ e).symm ▸ hs
    dsimp only
    split <;> simp -implicitDefEqProofs [h1]

@[simp] theorem State.jobFlashed_canon (s : State) (id : Nat) (j : Job) (hs : Memory.Canon s.mem) :
    Memory.Canon (s.jobFlashed id j).mem := by
  simp -implicitDefEqProofs [State.jobFlashed, hs]

@[simp] theorem State.jobPiece_canon (e : Nat × Nat) (s : State) (hs : Memory.Canon s.mem) :
    Memory.Canon (State.jobPiece e s).mem := by
  unfold State.jobPiece; split <;> simp -implicitDefEqProofs [hs]

@[simp] theorem State.txDeliver_canon (d : TxDone) (s : State) (hs : Memory.Canon s.mem) :
    Memory.Canon (State.txDeliver d s).mem := by
  dsimp only [State.txDeliver]; (repeat' split) <;> simp -implicitDefEqProofs [hs]

@[simp] theorem State.flashReadNow_mem (s : State) (h : Hdr) (a n : Nat) : (s.flashReadNow h a n).mem = s.mem := by
  unfold State.flashReadNow
  split <;> next e => obtain rfl := congrArg Prod.snd e; simp -implicitDefEqProofs

@[simp] theorem State.readWords_mem (s : State) (a n : Nat) : (s.readWords a n).2.mem = s.mem := by
  induction n generalizing s a with
  | zero => rfl
  | succ n ih =>
    unfold State.readWords
    split
    · next e =>
      obtain rfl := congrArg (·.2.2) e
      split <;> next e => obtain rfl := congrArg Prod.snd e; simp -implicitDefEqProofs [ih]
    · next e => obtain rfl := congrArg (·.2.2) e; simp
    · next e => obtain rfl := congrArg (·.2.2) e; simp

@[simp] theorem State.regReadNow_mem (s : State) (h : Hdr) (a n : Nat) : (s.regReadNow h a n).mem = s.mem := by
  unfold State.regReadNow
  split <;> next e => obtain rfl := congrArg Prod.snd e; simp -implicitDefEqProofs

@[simp] theorem State.writeWords_canon (s : State) (a n : Nat) (d : Bytes) (hs : Memory.Canon s.mem) :
    Memory.Canon (s.writeWords a n d).2.mem := by
  induction n generalizing s a d with
  | zero => exact hs
  | succ n ih =>
    unfold State.writeWords
    have h1 := State.busWrite_canon s 0 a (d.take 4) hs
    split
    · next e => rw [e] at h1; exact ih _ _ _ h1
    · next e => rw [e] at h1; exact h1
    · next e => rw [e] at h1; exact h1

@[simp] theorem State.regWriteNow_canon (s : State) (h : Hdr) (a n : Nat) (d : Bytes) (hs : Memory.Canon s.mem) :
    Memory.Canon (s.regWriteNow h a n d).mem := by
  unfold State.regWriteNow
  split <;> next e => obtain rfl := congrArg Prod.snd e; simp -implicitDefEqProofs [hs]

@[simp] theorem State.accessNow_canon (e : Hdr × Nat × Nat × Nat × Bytes) (s : State) (hs : Memory.Canon s.mem) :
    Memory.Canon (State.accessNow e s).mem := by
  simp -implicitDefEqProofs [State.accessNow, hs]

@[simp] theorem State.hcpAccess_canon (s : State) (e : Hdr × Nat × Nat × Nat × Bytes) (hs : Memory.Canon s.mem) :
    Memory.Canon (s.hcpAccess e).mem := by
  simp -implicitDefEqProofs [State.hcpAccess, hs]

@[simp] theorem State.readsDue_canon (s : State) (hs : Memory.Canon s.mem) : Memory.Canon s.readsDue.mem := by
  simp -implicitDefEqProofs +contextual [State.readsDue, hs]

@[simp] theorem State.settleOnce_canon (s : State) (hs : Memory.Canon s.mem) : Memory.Canon s.settleOnce.mem := by
  unfold State.settleOnce
  extract_lets s1 s2
  have h1 : Memory.Canon s1.mem := foldOver_canon _ (fun x t ht => State.txDeliver_canon _ _ ht) _ _ hs
  have h2 : Memory.Canon s2.mem := foldOver_canon _ (fun e t ht => State.flashRecDone_canon _ _ _ ht) _ _ h1
  exact foldOver_canon _ (fun e t ht => State.jobPiece_canon _ _ ht) _ _ h2

@[simp] theorem State.settle_canon (fuel : Nat) (s : State) (hs : Memory.Canon s.mem) : Memory.Canon (State.settle fuel s).mem := by
  induction fuel generalizing s with
  | zero => exact hs
  | succ n ih =>
    unfold State.settle
    split
    · exact ih _ (State.settleOnce_canon _ hs)
    · exact hs

@[simp] theorem State.hostRefresh_mem (s : State) : s.hostRefresh.mem = s.mem := by simp -implicitDefEqProofs [State.hostRefresh]

@[simp] theorem State.relayRefresh_mem (s : State) : s.relayRefresh.mem = s.mem := by simp -implicitDefEqProofs [State.relayRefresh]

@[simp] theorem State.roadDue_canon (s : State) (hs : Memory.Canon s.mem) : Memory.Canon s.roadDue.mem := by
  unfold State.roadDue; split <;> simp -implicitDefEqProofs [hs]

@[simp] theorem State.done_canon (s : State) (hs : Memory.Canon s.mem) : Memory.Canon s.done.mem := by
  unfold State.done
  extract_lets s1 s2 s3
  have h1 : Memory.Canon s1.mem := by simp -implicitDefEqProofs [s1, hs]
  have h2 : Memory.Canon s2.mem := by
    simp -implicitDefEqProofs [s2, foldOver_mem State.jobFeed (fun k t => State.jobFeed_mem k t), h1]
  have h3 : Memory.Canon s3.mem := by simp -implicitDefEqProofs [s3, h2]
  simp -implicitDefEqProofs [h3]

/-! ### The cores -/

@[simp] theorem State.icTouch_mem (s : State) (k line : Nat) : (s.icTouch k line).mem = s.mem := by
  simp -implicitDefEqProofs [State.icTouch]

@[simp] theorem State.icDrop_mem (s : State) (k pos : Nat) : (s.icDrop k pos).mem = s.mem := by
  simp -implicitDefEqProofs [State.icDrop]

@[simp] theorem State.icServe_mem (s : State) (k line : Nat) : (s.icServe k line).2.mem = s.mem := by
  unfold State.icServe; split <;> simp -implicitDefEqProofs

@[simp] theorem State.icUpset_mem (s : State) (k : Nat) (bad : Bool) : (s.icUpset k bad).mem = s.mem := by
  dsimp only [State.icUpset]; split <;> simp -implicitDefEqProofs

@[simp] theorem State.icFlush_mem (s : State) (k : Nat) : (s.icFlush k).mem = s.mem := by simp -implicitDefEqProofs [State.icFlush]

@[simp] theorem State.btcEnter_mem (s : State) (k a n : Nat) : (s.btcEnter k a n).mem = s.mem := by
  simp -implicitDefEqProofs [State.btcEnter]

@[simp] theorem State.fetchRead_mem (s : State) (k a : Nat) : (s.fetchRead k a).2.mem = s.mem := by
  unfold State.fetchRead
  split
  · split
    · simp
    · split <;> next e => obtain rfl := congrArg Prod.snd e; simp -implicitDefEqProofs
  · simp

@[simp] theorem State.fetch_mem (s : State) (k : Nat) : (s.fetch k).2.mem = s.mem := by
  unfold State.fetch
  dsimp only
  split
  · simp -implicitDefEqProofs
  · split
    · simp -implicitDefEqProofs
    · split <;> next e => obtain rfl := congrArg Prod.snd e; simp -implicitDefEqProofs

@[simp] theorem State.setGprF_mem (s : State) (k : Nat) (r : RegF) (v : Word) : (s.setGprF k r v).mem = s.mem := by
  simp -implicitDefEqProofs [State.setGprF]

@[simp] theorem State.fxFlags_mem (s : State) (k : Nat) (ov aov : Bool) : (s.fxFlags k ov aov).mem = s.mem := by
  simp -implicitDefEqProofs [State.fxFlags]

@[simp] theorem State.applyWrites_mem (s : State) (k : Nat) (w : Writes) : (s.applyWrites k w).mem = s.mem := by
  dsimp only [State.applyWrites]; (repeat' split) <;> simp -implicitDefEqProofs

@[simp] theorem State.upsetAt_mem (s : State) (k a : Nat) (u : Upset) : (s.upsetAt k a u).mem = s.mem := by
  dsimp only [State.upsetAt]; (repeat' split) <;> simp -implicitDefEqProofs

@[simp] theorem State.peerMeets_mem (s : State) (k a : Nat) (whole : Bool) : (s.peerMeets k a whole).2.mem = s.mem := by
  unfold State.peerMeets; split <;> simp -implicitDefEqProofs

@[simp] theorem State.commandError_mem (s : State) (a : Word) : (s.commandError a).mem = s.mem := by
  simp -implicitDefEqProofs [State.commandError]

@[simp] theorem State.coreLoad_mem (s : State) (k : Nat) (f : LoadOp) (a : Word) (u : Upset) :
    (s.coreLoad k f a u).2.mem = s.mem := by
  unfold State.coreLoad
  dsimp only
  split
  · rfl
  · split
    · simp
    · split
      · next e => obtain rfl := congrArg (·.2.2) e; simp
      · next e => obtain rfl := congrArg (·.2.2) e; simp
      · next e => obtain rfl := congrArg (·.2.2) e; simp
      · rfl

@[simp] theorem State.coreStore_canon (s : State) (k : Nat) (f : StoreOp) (a v : Word) (u : Upset) (hs : Memory.Canon s.mem) :
    Memory.Canon (s.coreStore k f a v u).2.mem := by
  unfold State.coreStore
  split
  · exact hs
  · split
    · simp -implicitDefEqProofs [hs]
    · dsimp only
      split
      · next e =>
        obtain rfl := congrArg Prod.snd e
        split <;> simp -implicitDefEqProofs [hs]
      · next e => obtain rfl := congrArg Prod.snd e; simp -implicitDefEqProofs [hs]
      · next e => obtain rfl := congrArg Prod.snd e; simp -implicitDefEqProofs [hs]
      · exact hs

@[simp] theorem State.coreAtomic_canon (s : State) (k : Nat) (a : Word) (f : Word → Word) (u : Upset) (hs : Memory.Canon s.mem) :
    Memory.Canon (s.coreAtomic k a f u).2.mem := by
  unfold State.coreAtomic
  split
  · exact hs
  · split
    · exact hs
    · dsimp only
      split
      · next e =>
        obtain rfl := congrArg (·.2.2) e
        split <;> simp -implicitDefEqProofs [hs]
      · next e => obtain rfl := congrArg (·.2.2) e; simp -implicitDefEqProofs [hs]
      · next e => obtain rfl := congrArg (·.2.2) e; simp -implicitDefEqProofs [hs]
      · exact hs

@[simp] theorem State.ucNext_mem (s : State) (k : Nat) : (s.ucNext k).mem = s.mem := by simp -implicitDefEqProofs [State.ucNext]

@[simp] theorem State.crRead_mem (s : State) (k n : Nat) : (s.crRead k n).2.mem = s.mem := by
  unfold State.crRead
  split
  · rfl
  · split
    · rfl
    · split
      · rfl
      · split
        · dsimp only
          split <;> next e => obtain rfl := congrArg Prod.snd e; simp -implicitDefEqProofs
        · rfl

@[simp] theorem State.crWrite_mem (s : State) (k n : Nat) (w : Word) : (s.crWrite k n w).mem = s.mem := by
  unfold State.crWrite; split <;> simp -implicitDefEqProofs

@[simp] theorem State.cxTime_mem (s : State) (k took : Nat) : (s.cxTime k took).mem = s.mem := by
  simp -implicitDefEqProofs [State.cxTime]

/-- The state that the end of an instruction carries. -/
def Ended.carried : Ended → State
  | .next s _ | .waits s | .fault s _ _ | .trapped s _ | .halted s | .gone s | .differs s => s

/-- The state that the end of a micro-operation carries. -/
def MicroEnd.carried : MicroEnd → State
  | .go s _ _ _ | .fault s _ _ => s
  | .stop e => e.carried

theorem Ended.state_canon (k : Nat) (e : Ended) (he : Memory.Canon e.carried.mem) : Memory.Canon (e.state k).mem := by
  cases e with
  | waits s | gone s => exact he
  | next s | fault s | trapped s | halted s | differs s =>
    have hs : Memory.Canon s.mem := he
    simp -implicitDefEqProofs [Ended.state, hs]

theorem State.memOp_canon (s : State) (k : Nat) (op : LOp) (reg : RegF → Word) (u : Upset) (a : Word) (m : MemEnd) (t : State)
    (hs : Memory.Canon s.mem) (h : s.memOp k op reg u = some (a, m, t)) : Memory.Canon t.mem := by
  unfold State.memOp at h
  split at h
  · obtain rfl := congrArg (·.2.2) (Option.some.inj h); simp -implicitDefEqProofs [hs]
  · obtain rfl := congrArg (·.2.2) (Option.some.inj h); simp -implicitDefEqProofs [hs]
  · obtain rfl := congrArg (·.2.2) (Option.some.inj h); simp -implicitDefEqProofs [hs]
  · obtain rfl := congrArg (·.2.2) (Option.some.inj h); simp -implicitDefEqProofs [hs]
  · cases h

theorem State.slotMem_canon (s : State) (k : Nat) (x : Slot) (u : Upset) (a : Word) (m : MemEnd) (t : State)
    (hs : Memory.Canon s.mem) (h : s.slotMem k x u = some (a, m, t)) : Memory.Canon t.mem := by
  unfold State.slotMem at h
  split at h
  · obtain rfl := congrArg (·.2.2) (Option.some.inj h); simp -implicitDefEqProofs [hs]
  · obtain rfl := congrArg (·.2.2) (Option.some.inj h); simp -implicitDefEqProofs [hs]
  · cases h

theorem State.microStep_canon (s : State) (k : Nat) (x : CxFields) (h : Held) (ua : Nat) (op : LOp) (hs : Memory.Canon s.mem) :
    Memory.Canon (s.microStep k x h ua op).carried.mem := by
  unfold State.microStep
  extract_lets reg next
  split
  · exact hs
  · split
    · next e => exact State.memOp_canon _ _ _ _ _ _ _ _ hs e
    · next e => exact State.memOp_canon _ _ _ _ _ _ _ _ hs e
    · next e => exact State.memOp_canon _ _ _ _ _ _ _ _ hs e
    · next e =>
      have h1 := State.memOp_canon _ _ _ _ _ _ _ _ hs e
      split <;> exact h1
    · split
      · split <;> exact hs
      · split <;> exact hs
      · exact hs

theorem State.microFinish_canon (s : State) (k : Nat) (x : CxFields) (h : Held) (hs : Memory.Canon s.mem) :
    Memory.Canon (s.microFinish k x h).carried.mem := by
  unfold State.microFinish
  extract_lets s1 s2
  have h1 : Memory.Canon s1.mem := by unfold s1; split <;> simp -implicitDefEqProofs [hs]
  have h2 : Memory.Canon s2.mem := foldOver_canon _ (fun e t ht => by simp -implicitDefEqProofs [ht]) _ _ h1
  simp -implicitDefEqProofs [Ended.carried, h2]

theorem State.microRun_canon (k : Nat) (x : CxFields) (n took : Nat) (h : Held) (ua : Nat) (s : State) (hs : Memory.Canon s.mem) :
    Memory.Canon (State.microRun k x n took h ua s).carried.mem := by
  induction n generalizing took h ua s with
  | zero => exact hs
  | succ n ih =>
    have hc : Memory.Canon ((s.cxTime k (took + 1)).checkRam (.ucode (clusterOf k) ua)).2.mem := by
      simp -implicitDefEqProofs [hs]
    unfold State.microRun
    split
    · next e => rw [e] at hc; exact hc
    · next s1 e =>
      have h1 : Memory.Canon s1.mem := by rw [e] at hc; exact hc
      extract_lets w
      split
      · exact h1
      · next op _ =>
        have hm := State.microStep_canon s1 k x h ua op h1
        split
        · next e => rw [e] at hm; exact hm
        · next e => rw [e] at hm; exact hm
        · next e =>
          rw [e] at hm
          split
          · exact State.microFinish_canon _ _ _ _ hm
          · exact ih _ _ _ _ hm

theorem State.runCx_canon (s : State) (k : Nat) (rd rs1 rs2 cxn arg : RegF) (hs : Memory.Canon s.mem) :
    Memory.Canon (s.runCx k rd rs1 rs2 cxn arg).carried.mem := by
  unfold State.runCx
  extract_lets n
  split
  · exact hs
  · split
    next v s1 e =>
    have h1 : Memory.Canon s1.mem := by obtain rfl := congrArg Prod.snd e; simp -implicitDefEqProofs [hs]
    split
    · exact hs
    · exact State.microRun_canon _ _ _ _ _ _ _ h1

theorem State.jump_canon (s : State) (k : Nat) (target : Word) (hs : Memory.Canon s.mem) :
    Memory.Canon (s.jump k target).carried.mem := by
  simp -implicitDefEqProofs [State.jump, Ended.carried, hs]

theorem State.runSys_canon (s : State) (k : Nat) (f : SysOp) (code : Word) (hs : Memory.Canon s.mem) :
    Memory.Canon (s.runSys k f code).carried.mem := by
  cases f with
  | trap | drain => exact hs
  | hret | waiti | icinv => simp -implicitDefEqProofs [State.runSys, Ended.carried, hs]
  | brk => unfold State.runSys; dsimp only; split <;> exact hs

theorem State.runControl_canon (s : State) (k : Nat) (op : LOp) (hs : Memory.Canon s.mem) :
    Memory.Canon (s.runControl k op).carried.mem := by
  unfold State.runControl
  split
  · simp -implicitDefEqProofs [Ended.carried, hs]
  · split
    · exact State.jump_canon _ _ _ hs
    · exact hs
  · split
    · exact State.jump_canon _ _ _ hs
    · exact hs
  · exact State.jump_canon _ _ _ (by simp -implicitDefEqProofs [hs])
  · exact State.jump_canon _ _ _ hs
  · extract_lets t
    split
    · exact hs
    · exact State.jump_canon _ _ _ (by simp -implicitDefEqProofs [hs])
  · split <;> next e => obtain rfl := congrArg Prod.snd e; simp -implicitDefEqProofs [Ended.carried, hs]
  · simp -implicitDefEqProofs [Ended.carried, hs]
  · exact State.runSys_canon _ _ _ _ hs
  · exact State.runCx_canon _ _ _ _ _ _ _ hs
  · exact hs

theorem State.execLong_canon (op : LOp) (u : Upset) (k : Nat) (s : State) (hs : Memory.Canon s.mem) :
    Memory.Canon (State.execLong op u k s).carried.mem := by
  unfold State.execLong
  split
  · exact hs
  · split
    · exact hs
    · split
      · simp -implicitDefEqProofs [Ended.carried, hs]
      · split
        · next e => exact State.memOp_canon _ _ _ _ _ _ _ _ hs e
        · next e => exact State.memOp_canon _ _ _ _ _ _ _ _ hs e
        · next e => exact State.memOp_canon _ _ _ _ _ _ _ _ hs e
        · next e =>
          have h1 := State.memOp_canon _ _ _ _ _ _ _ _ hs e
          split
          · exact h1
          · split <;> simp -implicitDefEqProofs [Ended.carried, h1]
        · exact State.runControl_canon _ _ _ hs

theorem State.execPair_canon (a : Slot) (bit15 : Bool) (b : BitVec 15) (u : Upset) (k : Nat) (s : State) (hs : Memory.Canon s.mem) :
    Memory.Canon (State.execPair a bit15 b u k s).carried.mem := by
  unfold State.execPair
  split
  · exact hs
  · split
    · exact hs
    · split
      · exact hs
      · extract_lets wb
        split
        · next e => exact State.slotMem_canon _ _ _ _ _ _ _ hs e
        · next e => exact State.slotMem_canon _ _ _ _ _ _ _ hs e
        · next e => exact State.slotMem_canon _ _ _ _ _ _ _ hs e
        · next e =>
          have h1 := State.slotMem_canon _ _ _ _ _ _ _ hs e
          split
          · exact h1
          · simp -implicitDefEqProofs [Ended.carried, h1]
        · simp -implicitDefEqProofs [Ended.carried, hs]

theorem State.execWord_canon (w : Word) (k : Nat) (s : State) (hs : Memory.Canon s.mem) :
    Memory.Canon (State.execWord w k s).carried.mem := by
  unfold State.execWord
  split
  · split
    · exact State.execPair_canon _ _ _ _ _ _ hs
    · exact hs
  · split
    · exact State.execLong_canon _ _ _ _ hs
    · exact hs

theorem State.coreRun_canon (s : State) (c : Fin 24) (f : Nat → State → Ended) (line : Bool)
    (hf : ∀ k t, Memory.Canon t.mem → Memory.Canon (f k t).carried.mem) (hs : Memory.Canon s.mem) :
    Memory.Canon (s.coreRun c f line).mem := by
  unfold State.coreRun
  extract_lets k
  split
  · exact hs
  · have h1 : Memory.Canon (((s.onCore fun x => { x with lost := [] }).icUpset k line).fetch k).2.mem := by
      simp -implicitDefEqProofs [hs]
    split
    · next e => rw [e] at h1; exact State.roadDue_canon _ (by simp -implicitDefEqProofs; exact h1)
    · next e => rw [e] at h1; exact State.roadDue_canon _ (Ended.state_canon _ _ (hf _ _ h1))
    · next e => rw [e] at h1; exact h1

@[simp] theorem State.runLong_canon (s : State) (c : Fin 24) (op : LOp) (upset : Upset) (hs : Memory.Canon s.mem) :
    Memory.Canon (s.runLong c op upset).mem := State.coreRun_canon _ _ _ _ (State.execLong_canon op upset) hs

@[simp] theorem State.runPair_canon (s : State) (c : Fin 24) (a : Slot) (bit15 : Bool) (b : BitVec 15) (upset : Upset)
    (hs : Memory.Canon s.mem) : Memory.Canon (s.runPair c a bit15 b upset).mem :=
  State.coreRun_canon _ _ _ _ (State.execPair_canon a bit15 b upset) hs

@[simp] theorem State.runWord_canon (s : State) (c : Fin 24) (w : Word) (hs : Memory.Canon s.mem) : Memory.Canon (s.runWord c w).mem :=
  State.coreRun_canon _ _ _ _ (State.execWord_canon w) hs

@[simp] theorem State.takeIrq_mem (s : State) (c : Fin 24) : (s.takeIrq c).mem = s.mem := by
  dsimp only [State.takeIrq]; (repeat' split) <;> simp -implicitDefEqProofs

@[simp] theorem State.waitResume_mem (s : State) (c : Fin 24) : (s.waitResume c).mem = s.mem := by
  simp -implicitDefEqProofs [State.waitResume]

/-! ### Host commands -/

@[simp] theorem State.take_mem (s : State) (h : Hdr) (op arg : Nat) (par data : Bytes) :
    (s.take h op arg par data).2.mem = s.mem := by
  simp -implicitDefEqProofs [State.take]

@[simp] theorem State.opPing_mem (s : State) (h : Hdr) : (s.opPing h).mem = s.mem := by simp -implicitDefEqProofs [State.opPing]

@[simp] theorem State.opGetInfo_mem (s : State) (h : Hdr) : (s.opGetInfo h).mem = s.mem := by
  simp -implicitDefEqProofs [State.opGetInfo]

@[simp] theorem State.opSetPower_canon (s : State) (h : Hdr) (v : Nat) (hs : Memory.Canon s.mem) :
    Memory.Canon (s.opSetPower h v).mem := by
  simp -implicitDefEqProofs [State.opSetPower, hs]

@[simp] theorem State.opReset_mem (s : State) (h : Hdr) (kind : Nat) : (s.opReset h kind).mem = s.mem := by
  simp -implicitDefEqProofs [State.opReset]

@[simp] theorem State.fuseShown_mem (s : State) (fuse : Nat) : (s.fuseShown fuse).mem = s.mem := by
  unfold State.fuseShown; split <;> simp -implicitDefEqProofs

@[simp] theorem State.opBlowFuse_mem (s : State) (h : Hdr) (fuse confirm : Nat) : (s.opBlowFuse h fuse confirm).mem = s.mem := by
  simp -implicitDefEqProofs [State.opBlowFuse]

@[simp] theorem State.opRaiseVersion_mem (s : State) (h : Hdr) (n : Nat) : (s.opRaiseVersion h n).mem = s.mem := by
  simp -implicitDefEqProofs [State.opRaiseVersion]

@[simp] theorem State.cancelTx_mem (s : State) (id : Nat) : (s.cancelTx id).mem = s.mem := by
  unfold State.cancelTx; split <;> simp -implicitDefEqProofs

@[simp] theorem State.cancelMile_canon (s : State) (id : Nat) (hs : Memory.Canon s.mem) : Memory.Canon (s.cancelMile id).mem := by
  unfold State.cancelMile; split <;> simp -implicitDefEqProofs [hs]

@[simp] theorem State.cancelFlash_mem (s : State) (id : Nat) (j : Job) : (s.cancelFlash id j).mem = s.mem := by
  simp -implicitDefEqProofs [State.cancelFlash]

@[simp] theorem State.cancelJob_canon (s : State) (id : Nat) (j : Job) (hs : Memory.Canon s.mem) :
    Memory.Canon (s.cancelJob id j).mem := by
  dsimp only [State.cancelJob]; (repeat' split) <;> simp -implicitDefEqProofs [hs]

@[simp] theorem State.opCancel_canon (s : State) (h : Hdr) (seq : Nat) (hs : Memory.Canon s.mem) :
    Memory.Canon (s.opCancel h seq).mem := by
  unfold State.opCancel; split <;> simp -implicitDefEqProofs [hs]

@[simp] theorem State.imageGo_mem (s : State) (h : Hdr) (slot off : Nat) (p d : Bytes) :
    (s.imageGo h slot off p d).mem = s.mem := by
  simp -implicitDefEqProofs [State.imageGo]

@[simp] theorem State.opImageWrite_mem (s : State) (h : Hdr) (p d : Bytes) : (s.opImageWrite h p d).mem = s.mem := by
  simp -implicitDefEqProofs [State.opImageWrite]

@[simp] theorem State.opDirectoryWrite_mem (s : State) (h : Hdr) (p : Bytes) : (s.opDirectoryWrite h p).mem = s.mem := by
  dsimp only [State.opDirectoryWrite]; (repeat' split) <;> simp -implicitDefEqProofs

@[simp] theorem State.opUserCall_canon (s : State) (h : Hdr) (p d : Bytes) (hs : Memory.Canon s.mem) :
    Memory.Canon (s.opUserCall h p d).mem := by
  simp -implicitDefEqProofs [State.opUserCall, hs]

@[simp] theorem State.callEnd_mem (s : State) (id : Nat) (par data : Bytes) : (s.callEnd id par data).mem = s.mem := by
  simp -implicitDefEqProofs [State.callEnd]

@[simp] theorem State.userAct_mem (s : State) (id cl : Nat) (a : UserAct) : (s.userAct id cl a).mem = s.mem := by
  unfold State.userAct
  split
  · rfl
  · split
    · rfl
    · simp
    · split
      · simp
      · split <;> next e => obtain rfl := congrArg Prod.snd e; simp -implicitDefEqProofs

@[simp] theorem State.userReact_mem (s : State) (n : Nat) (a : UserAct) : (s.userReact n a).mem = s.mem := by
  unfold State.userReact; split <;> simp -implicitDefEqProofs

@[simp] theorem State.callCycle_mem (c : Nat × Nat × Nat) (s : State) : (State.callCycle c s).mem = s.mem := by
  simp -implicitDefEqProofs [State.callCycle]

@[simp] theorem State.opTransportCfg_mem (s : State) (h : Hdr) (rate mask : Nat) : (s.opTransportCfg h rate mask).mem = s.mem := by
  simp -implicitDefEqProofs [State.opTransportCfg]

@[simp] theorem State.opRadioRole_canon (s : State) (h : Hdr) (role : Nat) (hs : Memory.Canon s.mem) :
    Memory.Canon (s.opRadioRole h role).mem := by
  simp -implicitDefEqProofs [State.opRadioRole, hs]

@[simp] theorem State.opPortCfg_mem (s : State) (h : Hdr) (p : Bytes) : (s.opPortCfg h p).mem = s.mem := by
  simp -implicitDefEqProofs [State.opPortCfg]

@[simp] theorem State.opProfileSet_mem (s : State) (h : Hdr) (p : Bytes) : (s.opProfileSet h p).mem = s.mem := by
  simp -implicitDefEqProofs [State.opProfileSet]

@[simp] theorem State.opLaneSet_mem (s : State) (h : Hdr) (p : Bytes) : (s.opLaneSet h p).mem = s.mem := by
  simp -implicitDefEqProofs [State.opLaneSet]

@[simp] theorem State.opLaneStatus_mem (s : State) (h : Hdr) (first n : Nat) : (s.opLaneStatus h first n).mem = s.mem := by
  simp -implicitDefEqProofs [State.opLaneStatus]

@[simp] theorem State.hostTx_mem (s : State) (h : Hdr) (op : Nat) (p d : Bytes) (e : Nat → TxEntry) (fields : Bool) :
    (s.hostTx h op p d e fields).mem = s.mem := by
  unfold State.hostTx
  dsimp only
  split <;> next e => obtain rfl := congrArg Prod.snd e; simp -implicitDefEqProofs

@[simp] theorem State.opTransmit_mem (s0 : State) (h : Hdr) (p d : Bytes) : (s0.opTransmit h p d).mem = s0.mem := by
  simp -implicitDefEqProofs [State.opTransmit]

@[simp] theorem State.opWakeTx_mem (s0 : State) (h : Hdr) (p : Bytes) : (s0.opWakeTx h p).mem = s0.mem := by
  simp -implicitDefEqProofs [State.opWakeTx]

@[simp] theorem State.opLedgerRead_mem (s : State) (h : Hdr) : (s.opLedgerRead h).mem = s.mem := by
  simp -implicitDefEqProofs [State.opLedgerRead]

@[simp] theorem State.opKeyLoad_mem (s : State) (h : Hdr) (p : Bytes) : (s.opKeyLoad h p).mem = s.mem := by
  dsimp only [State.opKeyLoad]; (repeat' split) <;> simp -implicitDefEqProofs

@[simp] theorem State.opEpochSwitch_canon (s : State) (h : Hdr) (g e : Nat) (hs : Memory.Canon s.mem) :
    Memory.Canon (s.opEpochSwitch h g e).mem := by
  simp -implicitDefEqProofs [State.opEpochSwitch, hs]

@[simp] theorem State.opFilterCfg_canon (s : State) (h : Hdr) (p : Bytes) (hs : Memory.Canon s.mem) :
    Memory.Canon (s.opFilterCfg h p).mem := by
  simp -implicitDefEqProofs [State.opFilterCfg, hs]

@[simp] theorem State.opDownlink_mem (s : State) (h : Hdr) (p d : Bytes) : (s.opDownlink h p d).mem = s.mem := by
  simp -implicitDefEqProofs [State.opDownlink]

@[simp] theorem State.opFrameStats_mem (s : State) (h : Hdr) : (s.opFrameStats h).mem = s.mem := by
  simp -implicitDefEqProofs [State.opFrameStats]

@[simp] theorem State.opJournalRead_mem (s : State) (h : Hdr) (first n : Nat) : (s.opJournalRead h first n).mem = s.mem := by
  simp -implicitDefEqProofs [State.opJournalRead]

@[simp] theorem State.opLineRole_canon (s : State) (h : Hdr) (p role : Nat) (hs : Memory.Canon s.mem) :
    Memory.Canon (s.opLineRole h p role).mem := by
  simp -implicitDefEqProofs [State.opLineRole, hs]

@[simp] theorem State.opLineMode_mem (s : State) (h : Hdr) (p mode fall : Nat) : (s.opLineMode h p mode fall).mem = s.mem := by
  simp -implicitDefEqProofs [State.opLineMode]

@[simp] theorem State.opLineStatus_mem (s : State) (h : Hdr) (p : Nat) : (s.opLineStatus h p).mem = s.mem := by
  simp -implicitDefEqProofs [State.opLineStatus]

@[simp] theorem State.opLineRetrain_mem (s : State) (h : Hdr) (p : Nat) : (s.opLineRetrain h p).mem = s.mem := by
  simp -implicitDefEqProofs [State.opLineRetrain]

@[simp] theorem State.opMsOpen_mem (s : State) (h : Hdr) (policy : Nat) : (s.opMsOpen h policy).mem = s.mem := by
  unfold State.opMsOpen
  split
  · simp
  · split
    · simp
    · next e => simp [State.msuOpenFor_mem _ _ _ _ _ _ e]

@[simp] theorem State.opMsAdd_canon (s : State) (h : Hdr) (p : Bytes) (hs : Memory.Canon s.mem) :
    Memory.Canon (s.opMsAdd h p).mem := by
  dsimp only [State.opMsAdd]; split <;> simp -implicitDefEqProofs [hs]

@[simp] theorem State.opMsCommit_mem (s : State) (h : Hdr) (k : Nat) : (s.opMsCommit h k).mem = s.mem := by
  dsimp only [State.opMsCommit]; (repeat' split) <;> simp -implicitDefEqProofs

@[simp] theorem State.opMsAbort_canon (s : State) (h : Hdr) (k : Nat) (hs : Memory.Canon s.mem) :
    Memory.Canon (s.opMsAbort h k).mem := by
  unfold State.opMsAbort; split <;> simp -implicitDefEqProofs [hs]

@[simp] theorem State.opMsStatus_mem (s : State) (h : Hdr) (k : Nat) : (s.opMsStatus h k).mem = s.mem := by
  simp -implicitDefEqProofs [State.opMsStatus]

@[simp] theorem State.opFlashRead_canon (s : State) (h : Hdr) (a n : Nat) (hs : Memory.Canon s.mem) :
    Memory.Canon (s.opFlashRead h a n).mem := by
  simp -implicitDefEqProofs [State.opFlashRead, hs]

@[simp] theorem State.opFlashProgram_mem (s : State) (h : Hdr) (p d : Bytes) : (s.opFlashProgram h p d).mem = s.mem := by
  dsimp only [State.opFlashProgram]; (repeat' split) <;> simp -implicitDefEqProofs

@[simp] theorem State.opFlashErase_mem (s : State) (h : Hdr) (p : Bytes) : (s.opFlashErase h p).mem = s.mem := by
  simp -implicitDefEqProofs [State.opFlashErase]

@[simp] theorem State.opConfigSave_canon (s : State) (h : Hdr) (hs : Memory.Canon s.mem) : Memory.Canon (s.opConfigSave h).mem := by
  unfold State.opConfigSave
  dsimp only
  split
  · simp -implicitDefEqProofs [hs]
  · next e =>
    have h1 := State.writeImage_canon _ _ _ (by simp -implicitDefEqProofs [hs]) e
    simp -implicitDefEqProofs [h1]

@[simp] theorem State.opFlashTables_mem (s : State) (h : Hdr) (t : Nat) : (s.opFlashTables h t).mem = s.mem := by
  unfold State.opFlashTables; split <;> simp -implicitDefEqProofs

@[simp] theorem State.opPartSplit_mem (s : State) (h : Hdr) (b : Nat) : (s.opPartSplit h b).mem = s.mem := by
  simp -implicitDefEqProofs [State.opPartSplit]

@[simp] theorem State.opNtRead_mem (s : State) (h : Hdr) : (s.opNtRead h).mem = s.mem := by
  simp -implicitDefEqProofs [State.opNtRead]

@[simp] theorem State.opNtSet_mem (s : State) (h : Hdr) (sec : Word) (tick : Nat) : (s.opNtSet h sec tick).mem = s.mem := by
  simp -implicitDefEqProofs [State.opNtSet]

@[simp] theorem State.opRtcRead_mem (s : State) (h : Hdr) : (s.opRtcRead h).mem = s.mem := by
  simp -implicitDefEqProofs [State.opRtcRead]

@[simp] theorem State.opRtcSet_mem (s : State) (h : Hdr) (p : Bytes) : (s.opRtcSet h p).mem = s.mem := by
  simp -implicitDefEqProofs [State.opRtcSet]

@[simp] theorem State.opRtcAlarm_mem (s : State) (h : Hdr) (p : Bytes) : (s.opRtcAlarm h p).mem = s.mem := by
  simp -implicitDefEqProofs [State.opRtcAlarm]

@[simp] theorem State.opTrickle_mem (s : State) (h : Hdr) (current limit : Nat) : (s.opTrickle h current limit).mem = s.mem := by
  simp -implicitDefEqProofs [State.opTrickle]

@[simp] theorem State.opCtlMode_mem (s : State) (h : Hdr) (m : Nat) : (s.opCtlMode h m).mem = s.mem := by
  simp -implicitDefEqProofs [State.opCtlMode]

@[simp] theorem State.opTagRead_mem (s : State) (h : Hdr) (o n : Nat) : (s.opTagRead h o n).mem = s.mem := by
  unfold State.opTagRead
  split
  · simp
  · split <;> next e => obtain rfl := congrArg Prod.snd e; simp -implicitDefEqProofs

@[simp] theorem State.opTagWrite_mem (s : State) (h : Hdr) (o : Nat) (d : Bytes) : (s.opTagWrite h o d).mem = s.mem := by
  unfold State.opTagWrite
  split
  · simp
  · split <;> next e => obtain rfl := congrArg Prod.snd e; simp -implicitDefEqProofs

@[simp] theorem State.opTagLock_mem (s : State) (h : Hdr) (mask : Word) : (s.opTagLock h mask).mem = s.mem := by
  simp -implicitDefEqProofs [State.opTagLock]

@[simp] theorem State.opProvision_mem (s : State) (h : Hdr) (p d : Bytes) : (s.opProvision h p d).mem = s.mem := by
  unfold State.opProvision; split <;> simp -implicitDefEqProofs

@[simp] theorem State.opErrRead_mem (s : State) (h : Hdr) (first n : Nat) : (s.opErrRead h first n).mem = s.mem := by
  simp -implicitDefEqProofs [State.opErrRead]

@[simp] theorem State.opChallenge_mem (s : State) (h : Hdr) : (s.opChallenge h).mem = s.mem := by
  simp -implicitDefEqProofs [State.opChallenge]

@[simp] theorem State.opSessionOpen_mem (s : State) (h : Hdr) (p : Bytes) : (s.opSessionOpen h p).mem = s.mem := by
  dsimp only [State.opSessionOpen]; (repeat' split) <;> simp -implicitDefEqProofs

@[simp] theorem State.endSession_mem (s : State) (t : Tp) : (s.endSession t).mem = s.mem := by
  simp -implicitDefEqProofs [State.endSession]

@[simp] theorem State.opSessionClose_mem (s : State) (h : Hdr) : (s.opSessionClose h).mem = s.mem := by
  simp -implicitDefEqProofs [State.opSessionClose]

@[simp] theorem State.opRegRead_canon (s : State) (h : Hdr) (a n : Nat) (hs : Memory.Canon s.mem) :
    Memory.Canon (s.opRegRead h a n).mem := by
  unfold State.opRegRead; split <;> simp -implicitDefEqProofs [hs]

@[simp] theorem State.opRegWrite_canon (s : State) (h : Hdr) (a n : Nat) (d : Bytes) (hs : Memory.Canon s.mem) :
    Memory.Canon (s.opRegWrite h a n d).mem := by
  unfold State.opRegWrite; split <;> simp -implicitDefEqProofs [hs]

@[simp] theorem State.opTelemetry_mem (s : State) (h : Hdr) : (s.opTelemetry h).mem = s.mem := by
  simp -implicitDefEqProofs [State.opTelemetry]

@[simp] theorem State.opEnterRoadside_mem (s : State) (h : Hdr) (confirm : Nat) : (s.opEnterRoadside h confirm).mem = s.mem := by
  simp -implicitDefEqProofs [State.opEnterRoadside]

@[simp] theorem State.opDebugOpen_mem (s : State) (h : Hdr) (scope : Nat) : (s.opDebugOpen h scope).mem = s.mem := by
  simp -implicitDefEqProofs [State.opDebugOpen]

/-! ### The host ports -/

@[simp] theorem State.hcpRun_canon (s : State) (h : Hdr) (op : Nat) (p d : Bytes) (hs : Memory.Canon s.mem) :
    Memory.Canon (s.hcpRun h op p d).mem := by
  unfold State.hcpRun; split <;> simp -implicitDefEqProofs [hs]

@[simp] theorem State.hportCount_mem (s : State) (t : Tp) (f : Fld) : (s.hportCount t f).mem = s.mem := by
  simp -implicitDefEqProofs [State.hportCount]

@[simp] theorem State.refused_mem (s : State) (h : Hdr) (st : Status) : (s.refused h st).mem = s.mem := by
  simp -implicitDefEqProofs [State.refused]

@[simp] theorem State.authPass_mem (s : State) (h : Hdr) : (s.authPass h).mem = s.mem := by
  simp -implicitDefEqProofs [State.authPass]

@[simp] theorem State.memorise_mem (s : State) (h : Hdr) : (s.memorise h).mem = s.mem := by
  simp -implicitDefEqProofs [State.memorise]

@[simp] theorem State.pktEvent_mem (s : State) (t : Tp) : (s.pktEvent t).mem = s.mem := by
  simp -implicitDefEqProofs [State.pktEvent]

@[simp] theorem State.hcpServe_canon (s0 : State) (h : Hdr) (op : Nat) (p d : Bytes) (hs : Memory.Canon s0.mem) :
    Memory.Canon (s0.hcpServe h op p d).mem := by
  dsimp only [State.hcpServe]; split <;> simp -implicitDefEqProofs [hs]

@[simp] theorem State.hcpTake_canon (s : State) (h : Hdr) (flags op : Nat) (p d : Bytes) (hs : Memory.Canon s.mem) :
    Memory.Canon (s.hcpTake h flags op p d).mem := by
  dsimp only [State.hcpTake]; (repeat' split) <;> simp -implicitDefEqProofs [hs]

@[simp] theorem State.hostUse_mem (s : State) (t : Tp) : (s.hostUse t).mem = s.mem := by simp -implicitDefEqProofs [State.hostUse]

@[simp] theorem State.hcpPacket_canon (s : State) (t : Tp) (q : Pkt) (hs : Memory.Canon s.mem) :
    Memory.Canon (s.hcpPacket t q).mem := by
  simp -implicitDefEqProofs [State.hcpPacket, hs]

@[simp] theorem State.hcpCmd_canon (s : State) (c : CmdHead) (op : Nat) (p d : Bytes) (hs : Memory.Canon s.mem) :
    Memory.Canon (s.hcpCmd c op p d).mem := by
  simp -implicitDefEqProofs [State.hcpCmd, hs]

@[simp] theorem State.hcpBad_mem (s : State) (t : Tp) (st : Status) : (s.hcpBad t st).mem = s.mem := by
  simp -implicitDefEqProofs [State.hcpBad]

@[simp] theorem State.hportBytes_canon (s : State) (b : Bytes) (hs : Memory.Canon s.mem) : Memory.Canon (s.hportBytes b).mem := by
  unfold State.hportBytes; split <;> simp -implicitDefEqProofs [hs]

@[simp] theorem State.lineBytes_canon (s : State) (t : Tp) (b : Bytes) (hs : Memory.Canon s.mem) :
    Memory.Canon (s.lineBytes t b).mem := by
  unfold State.lineBytes; split <;> simp -implicitDefEqProofs [hs]

@[simp] theorem State.uartHunt_canon (fuel : Nat) (b : Bytes) (s : State) (hs : Memory.Canon s.mem) :
    Memory.Canon (State.uartHunt fuel b s).mem := by
  induction fuel generalizing s b with
  | zero => simpa -implicitDefEqProofs [State.uartHunt] using hs
  | succ n ih =>
    unfold State.uartHunt
    split
    · simpa -implicitDefEqProofs using hs
    all_goals exact ih _ _ (by simp -implicitDefEqProofs [hs])

@[simp] theorem State.uartBytes_canon (s : State) (b : Bytes) (hs : Memory.Canon s.mem) : Memory.Canon (s.uartBytes b).mem := by
  simp -implicitDefEqProofs [State.uartBytes, hs]

@[simp] theorem State.csnFall_canon (s0 : State) (hs : Memory.Canon s0.mem) : Memory.Canon s0.csnFall.mem := by
  simp -implicitDefEqProofs [State.csnFall, hs]

@[simp] theorem State.csnRise_mem (s : State) : s.csnRise.mem = s.mem := by simp -implicitDefEqProofs [State.csnRise]

@[simp] theorem State.writePacket_canon (s : State) (b : Bytes) (hs : Memory.Canon s.mem) : Memory.Canon (s.writePacket b).mem := by
  simp -implicitDefEqProofs [State.writePacket, hs]

@[simp] theorem State.readPacket_mem (s : State) (n : Nat) : (s.readPacket n).mem = s.mem := by
  dsimp only [State.readPacket]; (repeat' split) <;> simp -implicitDefEqProofs

@[simp] theorem State.readStatus_mem (s : State) (n : Nat) : (s.readStatus n).mem = s.mem := by
  simp -implicitDefEqProofs [State.readStatus]

@[simp] theorem State.hostSends_canon (s : State) (x : HostSend) (hs : Memory.Canon s.mem) : Memory.Canon (s.hostSends x).mem := by
  simp -implicitDefEqProofs [State.hostSends, hs]

@[simp] theorem State.uartCycle_mem (s : State) : s.uartCycle.mem = s.mem := by
  dsimp only [State.uartCycle]; split <;> simp -implicitDefEqProofs

@[simp] theorem State.sessionEnd_mem (s : State) (t : Tp) : (s.sessionEnd t).mem = s.mem := by
  simp -implicitDefEqProofs [State.sessionEnd]

@[simp] theorem State.nonceEnd_mem (s : State) (t : Tp) : (s.nonceEnd t).mem = s.mem := by
  simp -implicitDefEqProofs [State.nonceEnd]

@[simp] theorem State.hcpReset_canon (s : State) (e : BootEnv) (hs : Memory.Canon s.mem) : Memory.Canon (s.hcpReset e).mem := by
  unfold State.hcpReset; split <;> simp -implicitDefEqProofs [hs]

@[simp] theorem State.slotRelease_mem (s : State) (slot : Nat) : (s.slotRelease slot).mem = s.mem := by
  simp -implicitDefEqProofs [State.slotRelease]

/-! ### Tasks -/

@[simp] theorem State.pendSet_mem (s : State) (core k : Nat) : (s.pendSet core k).mem = s.mem := by
  simp -implicitDefEqProofs [State.pendSet]

@[simp] theorem State.retrainTask_mem (s : State) (p : Nat) : (s.retrainTask p).mem = s.mem := by
  simp -implicitDefEqProofs [State.retrainTask]

@[simp] theorem State.task_mem (s : State) (c : Nat) : (s.task c).mem = s.mem := by simp -implicitDefEqProofs [State.task]

@[simp] theorem State.taskInput_mem (hits : List Nat) (at' c : Nat) (s : State) : (State.taskInput hits at' c s).mem = s.mem := by
  simp -implicitDefEqProofs [State.taskInput]

@[simp] theorem State.consumersActivate_mem (s : State) : s.consumersActivate.mem = s.mem := by
  simp -implicitDefEqProofs [State.consumersActivate]

@[simp] theorem State.gpioEdge_mem (s : State) (n : Nat) (rising : Bool) : (s.gpioEdge n rising).mem = s.mem := by
  simp -implicitDefEqProofs [State.gpioEdge]

@[simp] theorem State.beacon_mem (s : State) : s.beacon.mem = s.mem := by simp -implicitDefEqProofs [State.beacon]

@[simp] theorem State.vbakCheck_mem (s : State) (mv : Nat) : (s.vbakCheck mv).mem = s.mem := by
  simp -implicitDefEqProofs [State.vbakCheck]

@[simp] theorem State.backupUp_mem (s : State) : s.backupUp.mem = s.mem := by simp -implicitDefEqProofs [State.backupUp]

@[simp] theorem State.rtcSecond_canon (s : State) (hs : Memory.Canon s.mem) : Memory.Canon s.rtcSecond.mem := by
  simp -implicitDefEqProofs [State.rtcSecond, hs]

@[simp] theorem State.wurWake_canon (s : State) (addr : Half) (group : Byte) (check : Nat) (hs : Memory.Canon s.mem) :
    Memory.Canon (s.wurWake addr group check).mem := by
  unfold State.wurWake
  split
  · exact hs
  · split
    · next e => obtain rfl := congrArg Prod.snd e; simp -implicitDefEqProofs [hs]
    · next s1 e =>
      have h1 : Memory.Canon s1.mem := by obtain rfl := congrArg Prod.snd e; simp -implicitDefEqProofs [hs]
      extract_lets s2
      have h2 : Memory.Canon s2.mem := by simp -implicitDefEqProofs [s2, h1]
      split
      · split
        · simp -implicitDefEqProofs [h2]
        · exact hs
      · split <;> simp -implicitDefEqProofs [h2]

@[simp] theorem State.xt32Good_mem (s : State) : s.xt32Good.mem = s.mem := by simp -implicitDefEqProofs [State.xt32Good]

@[simp] theorem State.rtcCycle_mem (s : State) : s.rtcCycle.mem = s.mem := by simp -implicitDefEqProofs [State.rtcCycle]

@[simp] theorem State.cycleDue_canon (s : State) (hs : Memory.Canon s.mem) : Memory.Canon s.cycleDue.mem := by
  have h1 : Memory.Canon (foldOver State.tmrTake s.tmr.due s.servoCommit).refillDue.launchDue.radioLaunch.mem := by
    simp -implicitDefEqProofs [hs]
  have h2 := (State.settle_canon 128 _ h1)
  have h3 (n : Nat) (t : State) (ht : Memory.Canon t.mem) := State.wdtExpire_canon t n ht
  rw [State.cycleDue]
  exact foldOver_canon _ h3 _ _ (by simp -implicitDefEqProofs [h2])

@[simp] theorem State.tick_canon (s : State) (hs : Memory.Canon s.mem) : Memory.Canon s.tick.mem := by
  simp -implicitDefEqProofs +contextual [State.tick, hs]

@[simp] theorem State.idle_canon (s : State) (hs : Memory.Canon s.mem) : Memory.Canon s.idle.mem := by
  simp -implicitDefEqProofs [State.idle, hs]

@[simp] theorem State.regCmd_canon (s : State) (who : Nat) (r : RegName) (n : Nat) (w : Word) (hs : Memory.Canon s.mem) :
    Memory.Canon (s.regCmd who r n w).mem := by
  dsimp only [State.regCmd]; (repeat' split) <;> simp -implicitDefEqProofs [hs]

@[simp] theorem State.readCmd_mem (s : State) (who : Nat) (r : RegName) (n : Nat) : (s.readCmd who r n).mem = s.mem := by
  dsimp only [State.readCmd]; (repeat' split) <;> simp -implicitDefEqProofs

/-! ### Radio events -/

@[simp] theorem State.launch_mem (s : State) (ref : TxRef) (temp : Int) : (s.launch ref temp).mem = s.mem := by
  unfold State.launch; split <;> simp -implicitDefEqProofs

@[simp] theorem State.backoffOver_mem (s : State) (ref : TxRef) : (s.backoffOver ref).mem = s.mem := by
  unfold State.backoffOver; split <;> simp -implicitDefEqProofs

@[simp] theorem State.frameEnd_mem (s : State) (n quality : Nat) (body : Bytes) : (s.frameEnd n quality body).mem = s.mem := by
  unfold State.frameEnd; split <;> simp -implicitDefEqProofs

@[simp] theorem State.frameSoft_mem (s : State) (n : Nat) (soft : List Soft) : (s.frameSoft n soft).mem = s.mem := by
  unfold State.frameSoft; split <;> simp -implicitDefEqProofs

/-! ### Milestone events -/

@[simp] theorem State.actAdd_canon (s : State) (who kind : Nat) (ms opt : BitVec 6) (target : Half) (p1 p2 p3 : Word)
    (hs : Memory.Canon s.mem) :
    Memory.Canon (s.actAdd who kind ms opt target p1 p2 p3).mem := by
  unfold State.actAdd
  exact State.regCmd_canon _ _ _ _ _ (State.regCmd_canon _ _ _ _ _ (State.regCmd_canon _ _ _ _ _ (State.regCmd_canon _ _ _ _ _ hs)))

/-! ### Line events -/

@[simp] theorem State.lineUnit_canon (s : State) (p : Fin 2) (typ : Nat) (u : Bytes) (hs : Memory.Canon s.mem) :
    Memory.Canon (s.lineUnit p typ u).mem := by
  unfold State.lineUnit; split <;> simp -implicitDefEqProofs [hs]

@[simp] theorem State.unitTaken_canon (s : State) (p : Fin 2) (typ : Nat) (u : Bytes) (hs : Memory.Canon s.mem) :
    Memory.Canon (s.unitTaken p typ u).mem := by
  simp -implicitDefEqProofs [State.unitTaken, hs]

@[simp] theorem State.lineBlock_canon (s : State) (p : Fin 2) (raw : Bytes) (hs : Memory.Canon s.mem) :
    Memory.Canon (s.lineBlock p raw).mem := by
  unfold State.lineBlock
  split <;> next e => obtain rfl := congrArg Prod.snd e; simp -implicitDefEqProofs [hs]

@[simp] theorem State.lineWake_canon (s : State) (p : Fin 2) (pattern : Bool) (hs : Memory.Canon s.mem) :
    Memory.Canon (s.lineWake p pattern).mem := by
  simp -implicitDefEqProofs [State.lineWake, hs]

/-! ### Time events -/

@[simp] theorem State.compareFire_mem (s : State) (k : Nat) : (s.compareFire k).mem = s.mem := by
  simp -implicitDefEqProofs [State.compareFire]

@[simp] theorem State.ntRtcLoad_mem (s : State) : s.ntRtcLoad.mem = s.mem := by simp -implicitDefEqProofs [State.ntRtcLoad]

/-! ### Storage events -/

@[simp] theorem State.moveBegin_mem (s : State) (own : List Piece) (old kind ref : Nat) (record : Bytes) :
    (s.moveBegin own old kind ref record).mem = s.mem := by
  simp -implicitDefEqProofs [State.moveBegin]

@[simp] theorem State.flashRefresh_mem (s : State) (off target ref : Nat) (record : Bytes) :
    (s.flashRefresh off target ref record).mem = s.mem := by
  dsimp only [State.flashRefresh]; (repeat' split) <;> simp -implicitDefEqProofs

@[simp] theorem State.flashPatrol_mem (s : State) (off bits target ref : Nat) (record : Bytes) :
    (s.flashPatrol off bits target ref record).mem = s.mem := by
  unfold State.flashPatrol
  dsimp only
  split
  · rfl
  · split
    · simp
    · split
      · next e => obtain rfl := congrArg Prod.snd e; simp -implicitDefEqProofs
      · next e => obtain rfl := congrArg Prod.snd e; simp -implicitDefEqProofs

@[simp] theorem State.scrubWord_mem (s : State) (w : RamWord) (bits : Nat) : (s.scrubWord w bits).mem = s.mem := by
  unfold State.scrubWord; split <;> simp -implicitDefEqProofs

@[simp] theorem State.sramScrub_mem (s : State) (b bits : Nat) : (s.sramScrub b bits).mem = s.mem := by
  simp -implicitDefEqProofs [State.sramScrub]

end Sys2Proof.Machine
end

section
/-! Every step keeps the canonical form of the memory (R31): by cases on the command at the front of the queue. -/

namespace Sys2Proof.Machine

/-- An outcome whose next state, if it has one, has a canonical memory. -/
def OutcomeCanon : Host.Outcome State Fault Refusal → Prop
  | .next t => Memory.Canon t.mem
  | _ => True

theorem Memory.canon_of_mem_eq {s t : State} (h : t.mem = s.mem) (hs : Memory.Canon s.mem) : Memory.Canon t.mem := h ▸ hs

/-- A state whose memory is canonical: Memory.Canon of a state, for the functions that take a function on states. -/
def State.MemCanon (s : State) : Prop := Memory.Canon s.mem

theorem State.memCanon_iff (s : State) : s.MemCanon ↔ Memory.Canon s.mem := Iff.rfl

theorem State.MemCanon.mem {s : State} (hs : s.MemCanon) : Memory.Canon s.mem := hs

theorem State.powered_memCanon (s : State) (f : State → State) (hf : ∀ t, t.MemCanon → (f t).MemCanon) (hs : s.MemCanon) :
    (s.powered f).MemCanon := by
  unfold State.powered
  split
  · exact hf _ hs
  · exact hs

theorem State.always_memCanon (s : State) (f : State → State) (hf : ∀ t, t.MemCanon → (f t).MemCanon) (hs : s.MemCanon) :
    (s.always f).MemCanon := by
  unfold State.always
  split
  · exact hf _ hs
  · exact hs

theorem exec_canon (i : Instr) (s : State) (hs : Memory.Canon s.mem) : OutcomeCanon (exec i s) := by
  cases i with
  | registerWrite | powerOnReset | brownOut | nresetInAssert | nresetInRelease | debugReset | roadsideBeacon |
  entryConditionsClear | entryWaitTimeout | dozeCommitPoint | hibernateCommitPoint | relayWindowExpiry | lineIdleTimeout |
  padExchangeTimeout | voutCommandDone | pmbPgoodAck | statusWordPoll | pmbRequestTimeout | vinSenseTrip | flushWriteSlot |
  flushPark | flushSealTimeout | busRecoveryRestart | hportCsnFall | hportCsnRise | writePacket | readPacket | readStatus |
  uartGapTimeout | sessionTimeout | nonceExpiry | hcpResetTrigger | slotResourceTimeout | userCall | wakePatternReceived |
  lineWakeDetect | confirm | mgmtDown | userDown | rtcSecond | vbakMeasure | backupPowerUp | xt32Start | gpioEdge |
  consumerActivation | fieldOn | fieldLoss | fieldOff | reqa | wupa | anticollision | select | hlta | getId | read | write | auth1
  | auth2 | endSession | quietExpiry | lockoutExpiry | padPoll | readerAnswer | readerAnswerTimeout | carrierRetry |
  watchdogExpiry | heldResetTaken | consecClear | telemetrySnapshot | ageingCheck | flashPatrol | uartPacket | readerRetry |
  rtcWriteDone | rtcCaptureDone | supplyLoss =>
    exact State.done_canon _ (by simp -implicitDefEqProofs [hs])
  | sysReset =>
    exact State.done_canon _ (State.regCmd_canon _ _ _ _ _ (by simp -implicitDefEqProofs [hs]))
  | nop core rd rs form =>
    cases form with
    | pair => exact State.runPair_canon _ _ _ _ _ _ hs
    | raw => exact State.runWord_canon _ _ _ hs
  | getStatus frame =>
    cases frame with
    | own => exact State.done_canon _ (by simp -implicitDefEqProofs [hs])
    | undefined => exact State.done_canon _ (by simp -implicitDefEqProofs [hs])
  | debugSessionAttach =>
    exact State.done_canon _ (by simp -implicitDefEqProofs [hs])
  | clusterReset | pmbVreqWrite | pllEnWrite | srcSelect | lmcfgFlush | lmcfgArm | rfxLoWrite | portEnable | laneEnable |
  laneDisable | laneKill | laneOffsetWrite | laneBankRun | laneBankStop | vaultLoad | vaultErase | dupFlush | txSubmit |
  syntabClear | msuCmdCommit | msuCmdAbort | msuCmdSetPolicy | journalRetire | msuReplay | lpnWakePeer | lpnClrCnt | lpnRetrain |
  schedPush | queueFlush | schedRun | gateSwapRequest | ntLoad | ntStep | ntCapture | compareArm | compareDisarm | timerStart |
  timerStop | timerRestart | timerCountWrite | rtcHalt | rtcRelease | rtcCapture | rtcAdj | evfFire | evfGrpSet | evfGrpClr |
  clrCoal | coreRelease | program | page | serase | berase | suspend | resume | blank | markBad | otpProgramHalf | otpProgramFuse
  | otpReload | dmcInit | dmcStop | holdRequest | errAck | errReport | wdtKick =>
    exact State.done_canon _ (State.regCmd_canon _ _ _ _ _ hs)
  | setPowerState | ping | getInfo | reset | blowFuse | raiseSecVersion | cancel | imageWrite | directoryWrite | transportCfg |
  radioRole | portCfg | profileSet | laneSet | laneStatus | transmit | wakeTx | ledgerRead | keyLoad | epochSwitch | filterCfg |
  downlink | frameStats | journalRead | lineRole | lineMode | lineStatus | lineRetrain | msOpen | msAdd | msCommit | msAbort |
  msStatus | flashRead | flashProgram | flashErase | configSave | flashTables | partSplitSet | ntRead | ntSet | rtcRead | rtcSet |
  rtcAlarm | trickleCfg | ctlMode | tagRead | tagWrite | tagLock | provision | errRead | sessionChallenge | sessionOpen |
  sessionClose | regRead | regWrite | telemetry | enterRoadside | debugOpen =>
    exact State.done_canon _ (State.hcpCmd_canon _ _ _ _ _ hs)
  | returnTimerExpiry | pllLock | pllLockTimeout | pllLockLoss | synLock | rxReadyRise | synLockLoss | attenStepUp | attenStepDown
  | calibrateEnd | calWindow | calWindowComplete | calDue | syncFound | headerEnd | macHeaderComplete | frameEnd | tagCompare |
  filterLookupDone | receiveTemplateOpen | filterColdSecond | detourRetry | downlinkExpiry | launchPoint | lbtListenEnd |
  lbtBackoffEnd | airtimeStart | femseqStepEnd | txDataEnd | ledgerRefill | synRecalibration | synRecalForce | milestoneCommit |
  flashRecPassed | milestoneWaitTimeout | replayDone | announceTimer | announce | answer | trainingStart | trainingPhaseEnd |
  syncWordFound | syncSearchFail | checkEnd | verdict | verdictTimeout | energyLoss | snrLow | retrain | modeUpTimer | modeUp |
  dozing | lineWakePatternSent | wakeWaitExpiry | beaconBurstReceived | lineBlockReceived | recordConfirmTimeout | timeSyncSend |
  timeSync | delayReq | delayResp | schedBlockChoice | bucketRefill | gateEntryChange | gateSwap | discHoldoverExpiry |
  ntFrcCorrection | ntLoadFromRtc | rtcOffsetSync | compareFire | timerExpiry | sramScrubRead | flashCommandStart |
  programPulseEnd | pagePulseEnd | eraseSubpulseEnd | blankDone | otpProgramDone | dmcFillDone | dramRefresh | mr4Check |
  trackingPause | recentreStep | dramScrubRead | holdTimeout | provisionWaitTimeout | s3Error | dmcReady =>
    exact State.done_canon _ (State.powered_memCanon _ _ (fun t ht => by simp -implicitDefEqProofs [State.memCanon_iff, ht.mem]) hs)
  | pmbPgoodFall | refFail | refGood =>
    exact State.done_canon _ (State.always_memCanon _ _ (fun t ht => by simp -implicitDefEqProofs [State.memCanon_iff, ht.mem]) hs)
  | txpResultRead | msuOpen | schedRresultRead | ntcTickRead | flcResultRead =>
    exact State.done_canon _ (by simp -implicitDefEqProofs [hs])
  | actionWrite | actionJappend | actionEnqRadio | actionEnqLine | actionArmTimer | actionFireEvent | actionEpochSwitch |
  actionFlashRec =>
    exact State.done_canon _ (State.actAdd_canon _ _ _ _ _ _ _ _ _ hs)
  | interruptEntry | waitiResume =>
    exact Memory.canon_of_mem_eq (by simp -implicitDefEqProofs) hs
  | add | sub | and | or | xor | shl | shru | shrs | mul | mulhi | mulhiu | min | max | ceq | cne | clt | cltu | cge | cgeu |
  addq15 | subq15 | mulq15 | absq15 | negq15 | shlq15 | addq31 | subq31 | mulq31 | absq31 | negq31 | shlq31 | mac15 | msu15 |
  mac31 | msu31 | mpy15 | mpy31 | aclr | aset31 | aext15 | aext31 | amvlo | amvhi | amvg | amvtlo | amvthi | amvtg | asra | asla |
  addi | andi | ori | xori | shli | shrui | shrsi | ceqi | cnei | clti | cltui | cgei | cgeui | ldhi | pcrel | bz | bnz | call |
  callr | jmp | crd | cwr | trap | hret | waiti | drain | icinv | brk =>
    exact State.runLong_canon _ _ _ _ hs
  | ld8s | ld8u | ld16s | ld16u | ld32 | st8 | st16 | st32 | swpm | addm | cx =>
    exact State.done_canon _ (State.runLong_canon _ _ _ _ hs)
  | mov | movi | shortAdd | shortSub | shortAnd | shortOr | shortXor | shortAddi | shortShli | shortShrui | shortShrsi | shortClt
  | shortCeq | shortAddq15 | shortSubq15 | shortMulq15 | shortAddq31 | shortMac15 | shortMac31 =>
    exact State.runPair_canon _ _ _ _ _ _ hs
  | shortLd32 | shortSt32 =>
    exact State.done_canon _ (State.runPair_canon _ _ _ _ _ _ hs)

theorem step_canon (s : State) (hs : Memory.Canon s.mem) : OutcomeCanon (step s) := by
  unfold step
  split
  · exact State.idle_canon s hs
  · exact exec_canon _ _ hs

/-- Settles O33: exec_canon for the command at the front of the queue, State.idle_canon for an empty queue. -/
theorem stepKeepsMemoryForm : Obligations.StepKeepsMemoryForm := by
  intro s t hs h
  have hc := step_canon s hs
  rw [h] at hc
  exact hc

end Sys2Proof.Machine
end

section
/-! The address of a register reaches that register (R32): each element of a register decodes to itself, and no two registers of the
map share an address. -/

namespace Sys2Proof.Machine

/-! ### Elements and offsets of one register -/

/-- The offset of the last element. -/
def dimTop : List (Nat × Nat) → Nat
  | [] => 0
  | (n, st) :: l => (n - 1) * st + dimTop l

/-- Each stride passes over what the inner indexes span. -/
def dimsNest : List (Nat × Nat) → Bool
  | [] => true
  | (_, st) :: l => decide (dimTop l < st) && dimsNest l

theorem dimOffset_le_top {l : List (Nat × Nat)} {n : Nat} (hn : n < dimCount l) : dimOffset l n ≤ dimTop l := by
  induction l generalizing n with
  | nil => exact Nat.le_refl 0
  | cons d l ih =>
    obtain ⟨m, st⟩ := d
    have hc : 0 < dimCount l := Nat.pos_of_mul_pos_left (Nat.zero_lt_of_lt hn)
    have hq : n / dimCount l < m := Nat.div_lt_of_lt_mul (by rw [Nat.mul_comm]; exact hn)
    exact Nat.add_le_add (Nat.mul_le_mul_right st (by omega)) (ih (Nat.mod_lt n hc))

/-- The offset of an element decodes to the element. -/
theorem dimIndex_dimOffset {l : List (Nat × Nat)} (hl : dimsNest l = true) {n : Nat} (hn : n < dimCount l) :
    dimIndex l (dimOffset l n) = some n := by
  induction l generalizing n with
  | nil => simp [dimIndex, dimOffset, show n = 0 from Nat.lt_one_iff.mp hn]
  | cons d l ih =>
    obtain ⟨m, st⟩ := d
    obtain ⟨hst, hl⟩ : dimTop l < st ∧ dimsNest l = true := by simpa [dimsNest] using hl
    have hc : 0 < dimCount l := Nat.pos_of_mul_pos_left (Nat.zero_lt_of_lt hn)
    have hq : n / dimCount l < m := Nat.div_lt_of_lt_mul (by rw [Nat.mul_comm]; exact hn)
    have hin : dimOffset l (n % dimCount l) < st := Nat.lt_of_le_of_lt (dimOffset_le_top (Nat.mod_lt n hc)) hst
    have hpos : 0 < st := Nat.zero_lt_of_lt hst
    have hdiv : (n / dimCount l * st + dimOffset l (n % dimCount l)) / st = n / dimCount l := by
      rw [Nat.mul_comm, Nat.mul_add_div hpos, Nat.div_eq_of_lt hin, Nat.add_zero]
    have hmod : (n / dimCount l * st + dimOffset l (n % dimCount l)) % st = dimOffset l (n % dimCount l) := by
      rw [Nat.mul_comm, Nat.mul_add_mod, Nat.mod_eq_of_lt hin]
    rw [dimOffset, dimIndex, hdiv, hmod, if_neg (by omega), ih hl (Nat.mod_lt n hc), Option.map_some, Nat.div_add_mod']

/-! ### Two registers -/

/-- An address stands at an element of a register with this base and these indexes. -/
def Covers (b : Nat) (l : List (Nat × Nat)) (a : Nat) : Prop := b ≤ a ∧ (dimIndex l (a - b)).isSome = true

theorem dimIndex_le_top {l : List (Nat × Nat)} {off : Nat} (h : (dimIndex l off).isSome = true) : off ≤ dimTop l := by
  induction l generalizing off with
  | nil => by_cases h0 : off = 0 <;> simp_all [dimIndex]
  | cons d l ih =>
    obtain ⟨m, st⟩ := d
    rw [dimIndex] at h
    split at h
    · simp at h
    · next hs =>
      have hin := ih (by simpa using h)
      have hq : off / st ≤ m - 1 := by omega
      calc off = off / st * st + off % st := (Nat.div_add_mod' off st).symm
        _ ≤ (m - 1) * st + dimTop l := Nat.add_le_add (Nat.mul_le_mul_right st hq) hin

theorem Covers.le_top {b : Nat} {l : List (Nat × Nat)} {a : Nat} (h : Covers b l a) : b ≤ a ∧ a ≤ b + dimTop l := by
  obtain ⟨hb, hi⟩ := h
  have := dimIndex_le_top hi
  omega

/-- Modulo the outer stride, the inner indexes remain. -/
theorem Covers.mod {b n st : Nat} {l : List (Nat × Nat)} {a : Nat} (h : Covers b ((n, st) :: l) a) (hb : b % st + dimTop l < st) :
    Covers (b % st) l (a % st) := by
  obtain ⟨hba, hi⟩ := h
  rw [dimIndex] at hi
  split at hi
  · simp at hi
  · have hin : (dimIndex l ((a - b) % st)).isSome = true := by simpa using hi
    have htop := dimIndex_le_top hin
    have ha : a % st = b % st + (a - b) % st := by
      conv_lhs => rw [← Nat.add_sub_of_le hba, Nat.add_mod, Nat.mod_eq_of_lt (show b % st + (a - b) % st < st by omega)]
    exact ⟨by omega, by rw [ha, Nat.add_sub_cancel_left]; exact hin⟩

/-- One register ends before the other begins. -/
def rangeApart (b : Nat) (l : List (Nat × Nat)) (b' : Nat) (l' : List (Nat × Nat)) : Bool :=
  Nat.blt (b + dimTop l) b' || Nat.blt (b' + dimTop l') b

theorem rangeApart_iff {b b' : Nat} {l l' : List (Nat × Nat)} :
    rangeApart b l b' l' = true ↔ b + dimTop l < b' ∨ b' + dimTop l' < b := by
  simp [rangeApart]

/-- Whether two registers share no address: one ends before the other begins, or their outer strides agree and they are apart in them. -/
def apart : Nat → List (Nat × Nat) → Nat → List (Nat × Nat) → Bool
  | b, (n, st) :: l, b', (n', st') :: l' => rangeApart b ((n, st) :: l) b' ((n', st') :: l') ||
      (Nat.beq st st' && Nat.blt (b % st + dimTop l) st && Nat.blt (b' % st + dimTop l') st && apart (b % st) l (b' % st) l')
  | b, l, b', l' => rangeApart b l b' l'

theorem apart_of_rangeApart {b b' : Nat} {l l' : List (Nat × Nat)} (h : rangeApart b l b' l' = true) : apart b l b' l' = true := by
  unfold apart
  split
  · rw [h, Bool.true_or]
  · exact h

theorem not_covers_of_rangeApart {b b' a : Nat} {l l' : List (Nat × Nat)} (h : rangeApart b l b' l' = true) (hc : Covers b' l' a) :
    ¬Covers b l a := by
  intro hd
  have := rangeApart_iff.mp h
  have := hc.le_top
  have := hd.le_top
  omega

theorem not_covers_of_apart {b b' a : Nat} {l l' : List (Nat × Nat)} (h : apart b l b' l' = true) (hc : Covers b' l' a) :
    ¬Covers b l a := by
  fun_induction apart b l b' l' generalizing a with
  | case1 b n st l b' n' st' l' ih =>
    simp only [Bool.or_eq_true, Bool.and_eq_true, Nat.beq_eq, Nat.blt_eq] at h
    obtain h | ⟨⟨⟨rfl, hl⟩, hl'⟩, h⟩ := h
    · exact not_covers_of_rangeApart h hc
    · exact fun hd => ih h (hc.mod hl') (hd.mod hl)
  | case2 b l b' l' _ => exact not_covers_of_rangeApart h hc

/-! ### The register map -/

/-- The indexes that an address finds: those within one copy. -/
def RegRow.busDims (row : RegRow) : List (Nat × Nat) :=
  match row.copies with
  | .one => row.dims
  | _ => row.dims.tail

theorem RegRow.instAt_isSome {row : RegRow} {who a : Nat} (h : (row.instAt who a).isSome = true) :
    ∃ b, row.base = some b ∧ Covers b row.busDims a := by
  cases hb : row.base with
  | none => simp [RegRow.instAt, hb] at h
  | some b =>
    by_cases ha : a < b
    · simp [RegRow.instAt, hb, ha] at h
    · refine ⟨b, rfl, Nat.not_lt.mp ha, ?_⟩
      cases hc : row.copies <;> simpa [RegRow.instAt, RegRow.busDims, hb, hc, ha] using h

/-- Two rows of the map that share no address. -/
def RegRow.apart (q r : RegRow) : Bool :=
  match q.base, r.base with
  | some b, some b' => Machine.apart b q.busDims b' r.busDims
  | _, _ => true

theorem RegRow.instAt_eq_none {q r : RegRow} (h : q.apart r = true) {who a : Nat} (hr : (r.instAt who a).isSome = true) :
    q.instAt who a = none := by
  by_contra hq
  obtain ⟨b, hb, hc⟩ := RegRow.instAt_isSome (Option.isSome_iff_ne_none.mpr hq)
  obtain ⟨b', hb', hc'⟩ := RegRow.instAt_isSome hr
  rw [RegRow.apart, hb, hb'] at h
  exact not_covers_of_apart h hc' hc

/-- A scan of rows that share no address finds the row that answers. -/
theorem regScan_of_mem {l : List RegRow} (hl : l.Pairwise fun q r => q.apart r = true) {row : RegRow} (hrow : row ∈ l) {who a n : Nat}
    (h : row.instAt who a = some n) : regScan who a l = some (row.name, n) := by
  induction l with
  | nil => cases hrow
  | cons q l ih =>
    obtain ⟨hq, hl⟩ := List.pairwise_cons.mp hl
    rw [regScan]
    obtain rfl | hrow := List.mem_cons.mp hrow
    · rw [h]
    · rw [RegRow.instAt_eq_none (hq row hrow) (by simp [h])]
      exact ih hl hrow

/-- Where a row begins; a row without an address stands after every other. -/
def RegRow.first (row : RegRow) : Nat := row.base.getD 0x40200000

/-- Whether a row is apart from those of a list, up to the first that begins after its end. -/
def RegRow.apartFrom (q : RegRow) : List RegRow → Bool
  | [] => true
  | r :: l => Nat.blt (q.first + dimTop q.busDims) r.first || (q.apart r && q.apartFrom l)

theorem RegRow.apart_of_lt_first {q r : RegRow} (h : q.first + dimTop q.busDims < r.first) : q.apart r = true := by
  unfold RegRow.apart
  split
  · next b b' hb hb' =>
    rw [RegRow.first, RegRow.first, hb, hb'] at h
    exact apart_of_rangeApart (rangeApart_iff.mpr (Or.inl h))
  · rfl

theorem RegRow.apart_of_apartFrom {q : RegRow} {l : List RegRow} (hl : l.Pairwise fun r t => r.first ≤ t.first)
    (h : q.apartFrom l = true) : ∀ r ∈ l, q.apart r = true := by
  induction l with
  | nil => simp
  | cons r l ih =>
    obtain ⟨hr, hl⟩ := List.pairwise_cons.mp hl
    rw [RegRow.apartFrom, Bool.or_eq_true, Bool.and_eq_true, Nat.blt_eq] at h
    intro t ht
    obtain rfl | ht := List.mem_cons.mp ht
    · exact h.elim RegRow.apart_of_lt_first And.left
    · exact h.elim (fun h => RegRow.apart_of_lt_first (Nat.lt_of_lt_of_le h (hr t ht))) fun h => ih hl h.2 t ht

/-- Whether each row of a list is apart from the later ones. -/
def allApart : List RegRow → Bool
  | [] => true
  | q :: l => q.apartFrom l && allApart l

theorem pairwise_apart_of_allApart {l : List RegRow} (hl : l.Pairwise fun r t => r.first ≤ t.first) (h : allApart l = true) :
    l.Pairwise fun q r => q.apart r = true := by
  induction l with
  | nil => exact List.Pairwise.nil
  | cons q l ih =>
    obtain ⟨-, hl⟩ := List.pairwise_cons.mp hl
    rw [allApart, Bool.and_eq_true] at h
    exact List.pairwise_cons.mpr ⟨RegRow.apart_of_apartFrom hl h.1, ih hl h.2⟩

/-- The rows stand in the order of their addresses. -/
theorem regTable_sorted : regTable.Pairwise fun r t => r.first ≤ t.first := by
  have : IsTrans RegRow fun r t => r.first ≤ t.first := ⟨fun _ _ _ => Nat.le_trans⟩
  exact List.isChain_iff_pairwise.mp (by decide +kernel)

theorem regTable_apart : regTable.Pairwise fun q r => q.apart r = true :=
  pairwise_apart_of_allApart regTable_sorted (by decide +kernel)

/-- Whether a row stands within the register area, its indexes nested. -/
def RegRow.placed (row : RegRow) : Bool :=
  row.base.all fun b => decide (0x40000000 ≤ b ∧ b + dimTop row.busDims < 0x40200000) && dimsNest row.busDims

theorem RegName.ctorIdx_lt_length (r : RegName) : r.ctorIdx < regTable.length := by
  have : regTable.length = 250 := by decide +kernel
  rw [this]
  cases r <;> decide

theorem regRow_eq_getElem (r : RegName) : regRow r = regTable[r.ctorIdx]'r.ctorIdx_lt_length := by
  rw [regRow, List.getD_eq_getElem]

theorem regRow_mem (r : RegName) : regRow r ∈ regTable := by
  rw [regRow_eq_getElem]
  exact List.getElem_mem _

theorem regRow_placed (r : RegName) : (regRow r).placed = true := by
  have rows : ∀ row ∈ regTable, row.placed = true := by decide +kernel
  exact rows _ (regRow_mem r)

theorem regRow_name (r : RegName) : (regRow r).name = r := by
  have rows : ∀ k : Fin regTable.length, regTable[k].name.ctorIdx = k := by decide +kernel
  rw [regRow_eq_getElem]
  exact RegName.ctorIdx_inj _ _ (rows ⟨_, r.ctorIdx_lt_length⟩)

/-- Settles O30: the offset of the element decodes to it, and no other row of the map covers its address. -/
theorem addressesReachTheirRegisters : Obligations.AddressesReachTheirRegisters := by
  intro r n who hcopies hbase hn
  obtain ⟨b, hb⟩ := Option.isSome_iff_exists.mp hbase
  have hdims : (regRow r).busDims = (regRow r).dims := by rw [RegRow.busDims, hcopies]
  obtain ⟨⟨hlo, hhi⟩, hnest⟩ : (0x40000000 ≤ b ∧ b + dimTop (regRow r).dims < 0x40200000) ∧ dimsNest (regRow r).dims = true := by
    simpa [RegRow.placed, hb, hdims] using regRow_placed r
  have haddr : regAddr r n = b + dimOffset (regRow r).dims n := by rw [regAddr, hb, hcopies]
  have htop := dimOffset_le_top hn
  have hinst : (regRow r).instAt who (regAddr r n) = some n := by
    rw [RegRow.instAt, hb, hcopies, haddr]
    simp [dimIndex_dimOffset hnest hn]
  rw [regAt, if_neg (by omega), regScan_of_mem regTable_apart (regRow_mem r) hinst, regRow_name]

end Sys2Proof.Machine
end

section
/-! SWPM and ADDM (R37, R394, R396). First what the error log and the reads leave as they are: an entry of the log changes neither the cores
nor the SRAM, and a read changes no core. -/

namespace Sys2Proof.Machine

/-! ### What the error log and the reads leave as they are -/

@[simp] theorem State.core_ite (c : Prop) [Decidable c] (a b : State) : (if c then a else b).core = if c then a.core else b.core :=
  apply_ite State.core c a b

@[simp] theorem State.sram_ite (c : Prop) [Decidable c] (a b : State) : (if c then a else b).sram = if c then a.sram else b.sram :=
  apply_ite State.sram c a b

@[simp] theorem State.bump_core (s : State) (f : Fld) (n d : Nat) : (s.bump f n d).core = s.core := by
  simp -implicitDefEqProofs [State.bump]

@[simp] theorem State.countClass_core (s : State) (cls : Nat) : (s.countClass cls).core = s.core := by
  simp -implicitDefEqProofs [State.countClass]

@[simp] theorem State.setLog_core (s : State) (k : Nat) (e : LogEntry) : (s.setLog k e).core = s.core := by
  simp -implicitDefEqProofs [State.setLog]

@[simp] theorem State.publish_core (s : State) (p : Nat) : (s.publish p).core = s.core := by
  simp -implicitDefEqProofs [State.publish]

@[simp] theorem State.publishClass_core (s : State) (cls : Nat) : (s.publishClass cls).core = s.core := by
  simp -implicitDefEqProofs [State.publishClass]

@[simp] theorem State.countIn_core (s : State) (k : Nat) (old new : LogEntry) : (s.countIn k old new).core = s.core := by
  simp -implicitDefEqProofs [State.countIn]

@[simp] theorem State.layEntries_core (s : State) (slots : List Nat) (es : List LogEntry) : (s.layEntries slots es).core = s.core := by
  simp -implicitDefEqProofs [State.layEntries]

@[simp] theorem State.renameNotes_core (s : State) (moved : List (Bytes × Bytes)) : (s.renameNotes moved).core = s.core := by
  unfold State.renameNotes
  split
  · rfl
  · refine foldOver_proj State.core _ (fun t u => ?_) _ _
    dsimp only
    split <;> simp

@[simp] theorem State.notifyOn_core (k : Nat) (content : Bytes) (t : Tp) (s : State) : (State.notifyOn k content t s).core = s.core := by
  simp -implicitDefEqProofs [State.notifyOn]

@[simp] theorem State.notify_core (s : State) (k : Nat) (content : Bytes) : (s.notify k content).core = s.core :=
  foldOver_proj State.core _ (State.notifyOn_core k content) _ _

@[simp] theorem State.writeEntry_core (s : State) (slot : Option Nat) (e : LogEntry) : (s.writeEntry slot e).core = s.core := by
  dsimp only [State.writeEntry]; split <;> simp -implicitDefEqProofs

@[simp] theorem State.newEntry_core (s : State) (k : Nat) (e : LogEntry) : (s.newEntry k e).core = s.core := by
  simp -implicitDefEqProofs [State.newEntry]

@[simp] theorem State.wantRoadside_core (s : State) (cause : Nat) : (s.wantRoadside cause).core = s.core := by
  unfold State.wantRoadside; split <;> simp -implicitDefEqProofs

@[simp] theorem State.logFull_core (s : State) (e : LogEntry) : (s.logFull e).core = s.core := by
  simp -implicitDefEqProofs [State.logFull]

@[simp] theorem State.logError_core (s : State) (cls src : Nat) (info : Word) (syndrome : Nat) : (s.logError cls src info syndrome).core = s.core := by
  dsimp only [State.logError]; (repeat' split) <;> simp -implicitDefEqProofs

@[simp] theorem State.raise_core (s : State) (cls code unit : Nat) (info : Word) : (s.raise cls code unit info).core = s.core := by
  simp -implicitDefEqProofs [State.raise]

@[simp] theorem State.deniedLog_core (s : State) (who a : Nat) : (s.deniedLog who a).core = s.core := by
  simp -implicitDefEqProofs [State.deniedLog]

@[simp] theorem State.noDecode_core (s : State) (who : Nat) (addr : Word) : (s.noDecode who addr).core = s.core := by
  simp -implicitDefEqProofs [State.noDecode]

@[simp] theorem State.noRight_core (s : State) (who a : Nat) : (s.noRight who a).core = s.core := by
  simp -implicitDefEqProofs [State.noRight]

@[simp] theorem State.bump_sram (s : State) (f : Fld) (n d : Nat) : (s.bump f n d).sram = s.sram := by
  simp -implicitDefEqProofs [State.bump]

@[simp] theorem State.countClass_sram (s : State) (cls : Nat) : (s.countClass cls).sram = s.sram := by
  simp -implicitDefEqProofs [State.countClass]

@[simp] theorem State.setLog_sram (s : State) (k : Nat) (e : LogEntry) : (s.setLog k e).sram = s.sram := by
  simp -implicitDefEqProofs [State.setLog]

@[simp] theorem State.publish_sram (s : State) (p : Nat) : (s.publish p).sram = s.sram := by
  simp -implicitDefEqProofs [State.publish]

@[simp] theorem State.publishClass_sram (s : State) (cls : Nat) : (s.publishClass cls).sram = s.sram := by
  simp -implicitDefEqProofs [State.publishClass]

@[simp] theorem State.countIn_sram (s : State) (k : Nat) (old new : LogEntry) : (s.countIn k old new).sram = s.sram := by
  simp -implicitDefEqProofs [State.countIn]

@[simp] theorem State.layEntries_sram (s : State) (slots : List Nat) (es : List LogEntry) : (s.layEntries slots es).sram = s.sram := by
  simp -implicitDefEqProofs [State.layEntries]

@[simp] theorem State.renameNotes_sram (s : State) (moved : List (Bytes × Bytes)) : (s.renameNotes moved).sram = s.sram := by
  unfold State.renameNotes
  split
  · rfl
  · refine foldOver_proj State.sram _ (fun t u => ?_) _ _
    dsimp only
    split <;> simp

@[simp] theorem State.notifyOn_sram (k : Nat) (content : Bytes) (t : Tp) (s : State) : (State.notifyOn k content t s).sram = s.sram := by
  simp -implicitDefEqProofs [State.notifyOn]

@[simp] theorem State.notify_sram (s : State) (k : Nat) (content : Bytes) : (s.notify k content).sram = s.sram :=
  foldOver_proj State.sram _ (State.notifyOn_sram k content) _ _

@[simp] theorem State.writeEntry_sram (s : State) (slot : Option Nat) (e : LogEntry) : (s.writeEntry slot e).sram = s.sram := by
  dsimp only [State.writeEntry]; split <;> simp -implicitDefEqProofs

@[simp] theorem State.newEntry_sram (s : State) (k : Nat) (e : LogEntry) : (s.newEntry k e).sram = s.sram := by
  simp -implicitDefEqProofs [State.newEntry]

@[simp] theorem State.wantRoadside_sram (s : State) (cause : Nat) : (s.wantRoadside cause).sram = s.sram := by
  unfold State.wantRoadside; split <;> simp -implicitDefEqProofs

@[simp] theorem State.logFull_sram (s : State) (e : LogEntry) : (s.logFull e).sram = s.sram := by
  simp -implicitDefEqProofs [State.logFull]

@[simp] theorem State.logError_sram (s : State) (cls src : Nat) (info : Word) (syndrome : Nat) : (s.logError cls src info syndrome).sram = s.sram := by
  dsimp only [State.logError]; (repeat' split) <;> simp -implicitDefEqProofs

@[simp] theorem State.raise_sram (s : State) (cls code unit : Nat) (info : Word) : (s.raise cls code unit info).sram = s.sram := by
  simp -implicitDefEqProofs [State.raise]

@[simp] theorem State.deniedLog_sram (s : State) (who a : Nat) : (s.deniedLog who a).sram = s.sram := by
  simp -implicitDefEqProofs [State.deniedLog]

@[simp] theorem State.noDecode_sram (s : State) (who : Nat) (addr : Word) : (s.noDecode who addr).sram = s.sram := by
  simp -implicitDefEqProofs [State.noDecode]

@[simp] theorem State.noRight_sram (s : State) (who a : Nat) : (s.noRight who a).sram = s.sram := by
  simp -implicitDefEqProofs [State.noRight]

@[simp] theorem State.mendRam_core (s : State) (w : RamWord) : (s.mendRam w).core = s.core := by
  simp -implicitDefEqProofs [State.mendRam]

@[simp] theorem State.checkRam_core (s : State) (w : RamWord) : (s.checkRam w).2.core = s.core := by
  unfold State.checkRam; split <;> simp -implicitDefEqProofs

@[simp] theorem State.readReport_core (s : State) (cl0 : Bool) (line n : Nat) : (s.readReport cl0 line n).core = s.core := by
  simp -implicitDefEqProofs [State.readReport]

@[simp] theorem State.arrayRead_core (s : State) (cl0 : Bool) (line : Nat) : (s.arrayRead cl0 line).2.core = s.core := by
  simp -implicitDefEqProofs [State.arrayRead]

@[simp] theorem State.readLine_core (s : State) (cl0 : Bool) (off : Nat) : (s.readLine cl0 off).2.core = s.core := by
  dsimp only [State.readLine]; (repeat' split) <;> simp -implicitDefEqProofs

@[simp] theorem State.flashRead_core (s : State) (who a n : Nat) : (s.flashRead who a n).2.2.core = s.core := by
  unfold State.flashRead
  extract_lets off
  split
  · simp -implicitDefEqProofs
  · split <;> next e => obtain rfl := congrArg Prod.snd e; simp -implicitDefEqProofs

@[simp] theorem State.btcEnter_core (s : State) (k a n : Nat) : (s.btcEnter k a n).core = s.core := by
  simp -implicitDefEqProofs [State.btcEnter]

@[simp] theorem State.dramTouch_core (s : State) (a : Nat) (write : Bool) : (s.dramTouch a write).core = s.core := by
  simp -implicitDefEqProofs [State.dramTouch]

@[simp] theorem State.fresh_core (s : State) (bound : Nat) : (s.fresh bound).2.core = s.core := by
  simp -implicitDefEqProofs [State.fresh]

@[simp] theorem State.raiseDram_core (s : State) (cls : Nat) (addr : Word) : (s.raiseDram cls addr).core = s.core := by
  simp -implicitDefEqProofs [State.raiseDram]

@[simp] theorem State.mendDram_core (s : State) (a : Nat) : (s.mendDram a).core = s.core := by
  simp -implicitDefEqProofs [State.mendDram]

@[simp] theorem State.checkDram_core (s0 : State) (a : Nat) (write : Bool) : (s0.checkDram a write).2.core = s0.core := by
  dsimp only [State.checkDram]; split <;> simp -implicitDefEqProofs

@[simp] theorem State.dramRead_core (s : State) (who a n : Nat) : (s.dramRead who a n).2.2.core = s.core := by
  unfold State.dramRead
  (repeat' split) <;> try simp
  all_goals next e => obtain rfl := congrArg Prod.snd e; simp -implicitDefEqProofs

@[simp] theorem State.memRead_core (s : State) (who a n : Nat) : (s.memRead who a n).2.2.core = s.core := by
  unfold State.memRead
  (repeat' split) <;> try simp
  all_goals next e => obtain rfl := congrArg Prod.snd e; simp -implicitDefEqProofs

@[simp] theorem State.fetchRead_core (s : State) (k a : Nat) : (s.fetchRead k a).2.core = s.core := by
  unfold State.fetchRead
  split
  · split
    · simp
    · split <;> next e => obtain rfl := congrArg Prod.snd e; simp -implicitDefEqProofs
  · simp

/-! ### The fetch and the cores -/

@[simp] theorem State.icTouch_lost (s : State) (k line : Nat) : (s.icTouch k line).core.lost = s.core.lost := rfl

@[simp] theorem State.icServe_lost (s : State) (k line : Nat) : (s.icServe k line).2.core.lost = s.core.lost := by
  unfold State.icServe
  split
  · rfl
  · dsimp only
    split <;> simp [State.icDrop]

/-- A fetch loses no core. -/
theorem State.fetch_lost (s : State) (k : Nat) : (s.fetch k).2.core.lost = s.core.lost := by
  unfold State.fetch
  dsimp only
  split
  · split <;> simp
  · split
    · split <;> simp
    · split
      · next e => obtain rfl := congrArg Prod.snd e; split <;> simp
      all_goals next e => obtain rfl := congrArg Prod.snd e; simp

/-- A core that takes an instruction has met no reset of its own yet. -/
theorem State.coreFetched_lost (s : State) (c : CoreNo) : (s.coreFetched c).core.lost = [] := by
  rw [State.coreFetched, State.fetch_lost]
  rfl

/-! ### The bytes that a core sees -/

theorem pairOf_lt (c : CoreNo) : pairOf c.val < 24 := by
  unfold pairOf
  split <;> omega

theorem State.padCore_of_lt (s : State) {who : Nat} (h : who < 24) : s.padCore who = some (pairOf who) := if_pos h

/-- A byte of a scratchpad has a place of its own. -/
theorem State.padByte_setPadByte (s : State) (c o o' : Nat) (b : Byte) :
    (s.setPadByte c o b).padByte c o' = if o' = o then b else s.padByte c o' := by
  unfold State.setPadByte State.padByte
  split
  · next h => rw [h, Tab.getD_putD_self]
  · next h => rw [Tab.getD_putD_of_ne _ _ _ _ _ _ (by omega)]

theorem State.byteFor_setByteFor (s : State) {who : Nat} (h : who < 24) (a a' : Nat) (b : Byte) :
    (s.setByteFor who a b).byteFor who a' = if a' = a then b else s.byteFor who a' := by
  have hp (t : State) := t.padCore_of_lt h
  unfold State.setByteFor State.byteFor
  simp only [hp, Option.getD_some]
  by_cases ha : inScratch a = true <;> by_cases ha' : inScratch a' = true
  · have : a' - 0x10000000 = a - 0x10000000 ↔ a' = a := by simp [inScratch] at ha ha'; omega
    simp [ha, ha', State.padByte_setPadByte, this]
  · have : a' ≠ a := by rintro rfl; exact ha' ha
    simp [ha, ha', this, State.byte, State.setPadByte]
  · have : a' ≠ a := by rintro rfl; exact ha ha'
    simp [ha, ha', this, State.padByte]
  · by_cases e : a' = a
    · simp [ha, e]
    · simp [ha, ha', e, State.byte_setByte_of_ne]

/-- A store of bytes leaves every other byte that its initiator sees. -/
theorem State.byteFor_setBytesFor_outside (l : Bytes) {who : Nat} (h : who < 24) (s : State) (a x : Nat)
    (hx : x < a ∨ a + l.length ≤ x) : (s.setBytesFor who a l).byteFor who x = s.byteFor who x := by
  induction l generalizing s a with
  | nil => rfl
  | cons b l ih =>
    rw [List.length_cons] at hx
    rw [State.setBytesFor, ih _ _ (by omega), State.byteFor_setByteFor _ h, if_neg (by omega)]

/-- The bytes stored read back. -/
theorem State.byteFor_setBytesFor_inside (l : Bytes) {who : Nat} (h : who < 24) (s : State) (a i : Nat) (hi : i < l.length) :
    (s.setBytesFor who a l).byteFor who (a + i) = l[i] := by
  induction l generalizing s a i with
  | nil => cases hi
  | cons b l ih =>
    rw [State.setBytesFor]
    cases i with
    | zero =>
      rw [State.byteFor_setBytesFor_outside _ h _ _ _ (by omega), State.byteFor_setByteFor _ h, if_pos (by omega), List.getElem_cons_zero]
    | succ i =>
      rw [show a + (i + 1) = a + 1 + i by omega, ih _ _ _ (by simpa using hi), List.getElem_cons_succ]

theorem State.setByteFor_core (s : State) (who a : Nat) (b : Byte) :
    (s.setByteFor who a b).core = { s.core with pad := (s.setByteFor who a b).core.pad } := by
  unfold State.setByteFor
  split <;> rfl

@[simp] theorem State.setByteFor_roadPend (s : State) (who a : Nat) (b : Byte) : (s.setByteFor who a b).roadPend = s.roadPend := by
  unfold State.setByteFor
  split <;> rfl

/-- Of the cores a store of bytes writes the scratchpads alone. -/
theorem State.setBytesFor_core (l : Bytes) (s : State) (who a : Nat) :
    (s.setBytesFor who a l).core = { s.core with pad := (s.setBytesFor who a l).core.pad } := by
  induction l generalizing s a with
  | nil => rfl
  | cons b l ih => rw [State.setBytesFor, ih, State.setByteFor_core]

@[simp] theorem State.setBytesFor_roadPend (l : Bytes) (s : State) (who a : Nat) : (s.setBytesFor who a l).roadPend = s.roadPend := by
  induction l generalizing s a with
  | nil => rfl
  | cons b l ih => rw [State.setBytesFor, ih, State.setByteFor_roadPend]

theorem State.byteFor_congr {s t : State} {who : Nat} (h : who < 24) (hmem : t.mem = s.mem) (hpad : t.core.pad = s.core.pad) (a : Nat) :
    t.byteFor who a = s.byteFor who a := by
  simp only [State.byteFor, State.padCore_of_lt _ h, State.padByte, State.byte, hmem, hpad]

@[simp] theorem State.setGpr_pad (s : State) (c i : Nat) (v : Word) : (s.setGpr c i v).core.pad = s.core.pad := by
  unfold State.setGpr
  split <;> rfl

/-- A register write as every register of the core reads after it. -/
theorem State.gpr_setGpr_ite (s : State) (c i r : Nat) (v : Word) :
    (s.setGpr c i v).gpr c r = if r = i ∧ r ≠ 0 then v else s.gpr c r := by
  unfold State.setGpr State.gpr
  by_cases hi : i = 0
  · by_cases hr : r = 0 <;> simp [hi, hr]
  · by_cases hr : r = i
    · simp [hr, hi]
    · by_cases h0 : r = 0
      · simp [h0]
      · simp [hi, hr, h0, Tab.getD_putD_of_ne _ _ _ _ _ _ (show c * 32 + r ≠ c * 32 + i by omega)]

/-- Four bytes as a little-endian word. -/
theorem leNat_four (b0 b1 b2 b3 : Byte) : BitVec.ofNat 32 (leNat [b0, b1, b2, b3]) = b3 ++ b2 ++ b1 ++ b0 := by
  apply BitVec.eq_of_toNat_eq
  simp only [BitVec.toNat_append, BitVec.toNat_ofNat, leNat]
  rw [← Nat.shiftLeft_add_eq_or_of_lt b2.isLt, ← Nat.shiftLeft_add_eq_or_of_lt b1.isLt, ← Nat.shiftLeft_add_eq_or_of_lt b0.isLt]
  simp only [Nat.shiftLeft_eq]
  omega

/-- The bytes of a word. -/
theorem leBytes_four_getElem (w : Word) (j : Nat) (hj : j < 4) : (leBytes 4 w.toNat)[j]'hj = w.extractLsb' (8 * j) 8 := by
  apply BitVec.eq_of_toNat_eq
  rw [BitVec.extractLsb'_toNat, Nat.shiftRight_eq_div_pow]
  interval_cases j <;> simp [leBytes] <;> omega

/-! ### Accesses of a core to a word without bits in error -/

/-- Without bits in error an access upsets nothing. -/
@[simp] theorem State.upsetAt_none (s : State) (k a : Nat) : s.upsetAt k a {} = s := by
  unfold State.upsetAt State.upsetRam State.upsetDram
  dsimp only
  (repeat' split) <;> simp_all

/-- A word without bits in error passes its memory code. -/
theorem State.checkRam_clean (s : State) {w : RamWord} (h : Tab.getD s.sram.errs w.key 0 = 0) : s.checkRam w = (true, s) := by
  simp [State.checkRam, h]

/-- A core of the pair meets no word, or the other core meets one without bits in error. -/
theorem State.peerMeets_clean (s : State) (k a : Nat) (h : (peerWord k a).all (fun w => Tab.getD s.sram.errs w.key 0 == 0) = true) :
    ∃ p, s.peerMeets k a false = (p, s) ∧ p ≠ some false := by
  unfold State.peerMeets
  cases hw : peerWord k a with
  | none => exact ⟨none, rfl, by simp⟩
  | some w =>
    rw [hw] at h
    have clean := s.checkRam_clean (w := w) (by simpa using h)
    exact ⟨some true, by simp [clean], by simp⟩

/-- The words of the scratchpads and the SRAMs stand below the registers. -/
theorem State.ramWordAt_region {s : State} {who a : Nat} {w : RamWord} (h : s.ramWordAt who a = some w) :
    (inScratch a || inSram a) = true ∧ a < 0x40000000 := by
  unfold State.ramWordAt at h
  split at h
  · next hs => exact ⟨by simp [hs], by simp [inScratch] at hs; omega⟩
  · split at h
    · next hs => exact ⟨by simp [hs.1], by have := hs.1; simp [inSram] at this; omega⟩
    · cases h

theorem State.rights_of_lt (s : State) {k : Nat} (h : k < 24) : s.rights k = [clusterOfWho k] := by
  rw [State.rights, if_pos (by omega)]

/-- A read of a word without bits in error. -/
theorem State.busRead_clean {s : State} {k a n : Nat} {w : RamWord} (hw : s.ramWordAt k a = some w)
    (clean : Tab.getD s.sram.errs w.key 0 = 0) (right : s.memRight k a n = true) :
    s.busRead k a n = (.ok, BitVec.ofNat 32 (leNat (s.bytesFor k a n)), s) := by
  have := (State.ramWordAt_region hw).2
  rw [State.busRead, if_neg (by omega), if_neg (by simp [right]), State.memRead, hw]
  simp only [s.checkRam_clean clean]

/-- A write of a whole word leaves it without bits in error. -/
theorem State.busWrite_word {s : State} {k a : Nat} {b : Bytes} {w : RamWord} (hw : s.ramWordAt k a = some w) (hb : b.length = 4)
    (right : s.memRight k a 4 = true) : s.busWrite k a b = (.ok, (s.mendRam w).setBytesFor k a b) := by
  have := (State.ramWordAt_region hw).2
  rw [State.busWrite, if_neg (by omega), if_neg (by simp [hb, right]), State.memWrite, hw]
  simp only [hb, if_true]

/-- The word that a core sees at an address. -/
def State.wordFor (s : State) (k a : Nat) : Word := s.byteFor k (a + 3) ++ s.byteFor k (a + 2) ++ s.byteFor k (a + 1) ++ s.byteFor k a

theorem State.bytesFor_four (s : State) (k a : Nat) : BitVec.ofNat 32 (leNat (s.bytesFor k a 4)) = s.wordFor k a := leNat_four _ _ _ _

/-- An atomic access to a word without bits in error reads it and writes the new one (R394). -/
theorem State.coreAtomic_clean {s : State} {k : Nat} {x : Word} (f : Word → Word) (align : x.toNat % 4 = 0) (clean : s.cleanAt k x.toNat)
    (right : s.memRight k x.toNat 4 = true) : ∃ w, s.coreAtomic k x f {} =
      (.ok (s.wordFor k x.toNat), (s.mendRam w).setBytesFor k x.toNat (leBytes 4 (f (s.wordFor k x.toNat)).toNat)) := by
  obtain ⟨hclean, hpeer⟩ := clean
  obtain ⟨w, hw, herr⟩ := (Option.any_eq_true _ _).mp hclean
  obtain ⟨p, hp, hne⟩ := s.peerMeets_clean k x.toNat hpeer
  refine ⟨w, ?_⟩
  rw [State.coreAtomic, if_neg (by omega), if_neg (by simp [(State.ramWordAt_region hw).1]), State.upsetAt_none, hp]
  simp only [State.busRead_clean hw (by simpa using herr) right, if_neg hne, State.bytesFor_four]
  rw [State.busWrite_word hw rfl right]

/-- Outside the scratchpad and the SRAMs an atomic access faults without an access (R394). -/
theorem State.coreAtomic_outside {s : State} {k : Nat} {x : Word} (f : Word → Word) (u : Upset) (align : x.toNat % 4 = 0)
    (pad : inScratch x.toNat = false) (sram : inSram x.toNat = false) : s.coreAtomic k x f u = (.fault .storeFault, s) := by
  rw [State.coreAtomic, if_neg (by omega), if_pos (by simp [pad, sram])]

/-- In an SRAM whose domain is not powered an atomic access is answered with an error, and only the error unit notes it (R37). -/
theorem State.coreAtomic_unpowered {s : State} {k : Nat} {x : Word} (align : x.toNat % 4 = 0) (sram : inSram x.toNat = true)
    (off : s.ramWordAt k x.toNat = none) : ∃ t : State, t.mem = s.mem ∧ t.core = s.core ∧ t.sram = s.sram ∧
      ∀ f, s.coreAtomic k x f {} = (.fault .storeFault, t) := by
  have hrange : 0x20000000 ≤ x.toNat ∧ x.toNat < 0x40000000 := by simp [inSram] at sram; omega
  have hpad : inScratch x.toNat = false := by simp [inScratch]; omega
  have herror : (s.busRead k x.toNat 4).1 = .error ∧ (s.busRead k x.toNat 4).2.2.mem = s.mem ∧
      (s.busRead k x.toNat 4).2.2.core = s.core ∧ (s.busRead k x.toNat 4).2.2.sram = s.sram := by
    rw [State.busRead, if_neg (by omega)]
    split
    · simp
    · rw [State.memRead, off]
      have hlow : ¬x.toNat < 0x10000 := by omega
      have hflash : inFlash x.toNat = false := by simp [inFlash]; omega
      have hdram : ¬dramBase ≤ x.toNat := by simp [dramBase]; omega
      simp [hlow, hflash, hdram]
  obtain ⟨herror, hmem, hcore, hsram⟩ := herror
  refine ⟨_, hmem, hcore, hsram, fun f => ?_⟩
  have hpeer : s.peerMeets k x.toNat false = (none, s) := by simp [State.peerMeets, peerWord, hpad]
  rw [State.coreAtomic, if_neg (by omega), if_neg (by simp [sram]), State.upsetAt_none, hpeer]
  dsimp only
  generalize s.busRead k x.toNat 4 = r at herror ⊢
  obtain ⟨e, v, t⟩ := r
  obtain rfl : e = .error := herror
  rfl

/-! ### SWPM and ADDM -/

/-- A long operation that is an atomic access: to the word at x, with a function from the old word to the new one, and the old word
to rd. -/
structure State.AtomicAt (u : State) (k : Nat) (op : LOp) (rd : RegF) (x : Word) (f : Word → Word) : Prop where
  fields : op.fieldsOk = true
  noWrites : op.writes (u.fxMode k) (u.gprF k) (u.acc k) = none
  mem : u.memOp k op (u.gprF k) {} = some (x, u.coreAtomic k x f {})
  dest : op.dest = some rd

theorem State.atomicAt_swpm (u : State) (k : Nat) (rd a b : RegF) :
    u.AtomicAt k (.swpm rd a b) rd (u.gprF k a) fun _ => u.gprF k b := ⟨rfl, rfl, rfl, rfl⟩

theorem State.atomicAt_addm (u : State) (k : Nat) (rd a b : RegF) :
    u.AtomicAt k (.addm rd a b) rd (u.gprF k a) fun w => w + u.gprF k b := ⟨rfl, rfl, rfl, rfl⟩

/-- A long operation whose access delivers a value. -/
theorem State.execLong_mem_ok {u t : State} {k : Nat} {op : LOp} {rd : RegF} {x v : Word} (fields : op.fieldsOk = true)
    (noWrites : op.writes (u.fxMode k) (u.gprF k) (u.acc k) = none) (mem : u.memOp k op (u.gprF k) {} = some (x, .ok v, t))
    (dest : op.dest = some rd) (lost : t.core.lost = []) :
    State.execLong op {} k u = .next (t.setGprF k rd v) (t.pcNext k) := by
  simp [State.execLong, fields, noWrites, mem, dest, lost]

/-- A long operation whose access faults. -/
theorem State.execLong_mem_fault {u t : State} {k : Nat} {op : LOp} {x : Word} {e : Cause} (fields : op.fieldsOk = true)
    (noWrites : op.writes (u.fxMode k) (u.gprF k) (u.acc k) = none) (mem : u.memOp k op (u.gprF k) {} = some (x, .fault e, t)) :
    State.execLong op {} k u = .fault t e x := by
  simp [State.execLong, fields, noWrites, mem]

/-- An atomic access of a core to a word without bits in error: the registers, the bytes and the pc after it. -/
theorem State.coreRun_atomic {s : State} {c : CoreNo} (ready : s.coreReady c) {op : LOp} {rd : RegF} {x : Word} {f : Word → Word}
    (atomic : (s.coreFetched c).AtomicAt (pairOf c.val) op rd x f) (align : x.toNat % 4 = 0)
    (clean : (s.coreFetched c).cleanAt (pairOf c.val) x.toNat) (right : (s.coreFetched c).memRight (pairOf c.val) x.toNat 4 = true) :
    let k := pairOf c.val
    let u := s.coreFetched c
    let t := s.coreRun c (State.execLong op {})
    let old := u.wordFor k x.toNat
    (∀ r, t.gpr k r = if r = rd.toNat ∧ r ≠ 0 then old else u.gpr k r)
      ∧ (∀ j, j < 4 → t.byteFor k (x.toNat + j) = (f old).extractLsb' (8 * j) 8)
      ∧ (∀ z, z < x.toNat ∨ x.toNat + 4 ≤ z → t.byteFor k z = u.byteFor k z) ∧ t.pcOf k = u.pcOf k + 4 := by
  intro k u t old
  have hk : k < 24 := pairOf_lt c
  obtain ⟨fields, noWrites, mem, dest⟩ := atomic
  obtain ⟨w, hw⟩ := u.coreAtomic_clean f align clean right
  rw [hw] at mem
  let m := (u.mendRam w).setBytesFor k x.toNat (leBytes 4 (f old).toNat)
  have hcore : m.core = { u.core with pad := m.core.pad } := State.setBytesFor_core _ _ _ _
  have hgpr (r : Nat) : m.gpr k r = u.gpr k r := by rw [State.gpr, hcore]; rfl
  have hpc : m.pcOf k = u.pcOf k := by rw [State.pcOf, hcore]; rfl
  have hlost : m.core.lost = [] := by rw [hcore]; exact s.coreFetched_lost c
  have ht : t = m.regThenNext k rd old := by
    show s.coreRun c (State.execLong op {}) = _
    rw [State.coreRun_of_ready ready, State.execLong_mem_ok fields noWrites mem dest hlost]
    obtain ⟨-, -, road⟩ := ready
    exact State.roadDue_of_none (s := m.regThenNext k rd old) (by simpa [m, State.mendRam] using road)
  have hbyte (z : Nat) : t.byteFor k z = m.byteFor k z := by
    rw [ht]
    exact State.byteFor_congr hk (by simp [State.regThenNext]) (by simp [State.regThenNext, State.setPc]) z
  have hmend (z : Nat) : (u.mendRam w).byteFor k z = u.byteFor k z := State.byteFor_congr hk (by simp) (by simp) z
  refine ⟨fun r => ?_, fun j hj => ?_, fun z hz => ?_, ?_⟩
  · rw [ht, State.regThenNext, State.gpr_setPc, State.gpr_setGpr_ite, hgpr]
  · rw [hbyte, State.byteFor_setBytesFor_inside _ hk _ _ _ hj, leBytes_four_getElem _ _ hj]
  · rw [hbyte, State.byteFor_setBytesFor_outside _ hk _ _ _ hz, hmend]
  · rw [ht, State.regThenNext, State.pcOf_setPc, hpc]

/-- An atomic access that faults is the exception of its fault. -/
theorem State.coreRun_atomic_fault {s t : State} {c : CoreNo} (ready : s.coreReady c) {op : LOp} {rd : RegF} {x : Word} {f : Word → Word}
    (atomic : (s.coreFetched c).AtomicAt (pairOf c.val) op rd x f)
    (fault : (s.coreFetched c).coreAtomic (pairOf c.val) x f {} = (.fault .storeFault, t)) :
    s.coreRun c (State.execLong op {}) = (t.except (pairOf c.val) .storeFault (t.pcOf (pairOf c.val)) x).roadDue := by
  obtain ⟨fields, noWrites, mem, -⟩ := atomic
  rw [fault] at mem
  rw [State.coreRun_of_ready ready, State.execLong_mem_fault fields noWrites mem]
  rfl

theorem exec_swpm (c : CoreNo) (rd a b : RegF) (s : State) :
    exec (.swpm c rd a b {}) s = .next (s.coreRun c (State.execLong (.swpm rd a b) {})).done := rfl

theorem exec_addm (c : CoreNo) (rd a b : RegF) (s : State) :
    exec (.addm c rd a b {}) s = .next (s.coreRun c (State.execLong (.addm rd a b) {})).done := rfl

/-- Settles O9: both are atomic accesses, which State.coreAtomic_clean, _outside and _unpowered tell apart. -/
theorem atomicOps : Obligations.AtomicOps := by
  intro c rd a b s ready k u x y old swaps align
  have swpm : u.AtomicAt k (.swpm rd a b) rd x fun _ => y := u.atomicAt_swpm k rd a b
  have addm : u.AtomicAt k (.addm rd a b) rd x fun w => w + y := u.atomicAt_addm k rd a b
  refine ⟨fun clean reach => ?_, fun pad sram => ?_, fun sram off => ?_⟩
  · have right : u.memRight k x.toNat 4 = true := by
      rw [State.memRight, State.rights_of_lt _ (show k < 24 from pairOf_lt c)]
      obtain h | h | h := reach <;> simp [h]
    have swapped := State.coreRun_atomic ready swpm align clean right
    have added := State.coreRun_atomic ready addm align clean right
    exact ⟨⟨_, exec_swpm c rd a b s, swapped⟩, ⟨_, exec_addm c rd a b s, added⟩⟩
  · rw [exec_swpm, exec_addm, State.coreRun_atomic_fault ready swpm (State.coreAtomic_outside _ _ align pad sram),
      State.coreRun_atomic_fault ready addm (State.coreAtomic_outside _ _ align pad sram)]
    exact ⟨rfl, rfl⟩
  · obtain ⟨t, hmem, hcore, hsram, fault⟩ := State.coreAtomic_unpowered align sram off
    rw [exec_swpm, exec_addm, State.coreRun_atomic_fault ready swpm (fault _), State.coreRun_atomic_fault ready addm (fault _)]
    exact ⟨t, hmem, hcore, hsram, rfl, rfl⟩

end Sys2Proof.Machine
end

section
/-! What a reset keeps of the flash while a table update of FLC runs (R434): the hypotheses of O36 exclude programs and page programs, but
not the update of the grown-bad or the partial-erase table, whose native lines FLC programs by itself. -/

namespace Sys2Proof.Machine

/-- An update of the grown-bad table whose sector is erased and whose first native line is being programmed. -/
def firstLineUpdate : TabUpdate :=
  { grown := true, add := none, clear := none, req := .firmware, tag := 0, code := 0, lines := some 0 }

/-- The reset state in which that update runs; its table of three entries takes two native lines. -/
def State.updatingTable : State :=
  { State.reset with flc := { updates := [firstLineUpdate], grown := { entries := List.replicate 3 ⟨0, 0, 0, 0⟩ } } }

/-- The sequence number of the other copy of the table, at offset 4 of sector 3, before the reset: that of shipment. -/
theorem State.byte_updatingTable : State.updatingTable.byte 0x08003004 = 0#8 := by decide +kernel

/-- The same byte after a power-on reset: the line that was being programmed stands there, with the next sequence number. -/
theorem State.byte_coldReset_updatingTable : (State.updatingTable.coldReset F.SYSCTL_RSTCAUSE_POR).byte 0x08003004 = 2#8 := by
  decide +kernel

/-- Refutes O36: with no commit, no program, no page program and no OTP work under way, a power-on reset during an update of the grown-bad
table changes the flash byte 0x08003004 from 0 to 2. -/
theorem not_whatResetsKeep : ¬ Obligations.WhatResetsKeep := by
  intro h
  obtain ⟨resets, -⟩ := h State.updatingTable
  obtain ⟨-, cold⟩ := resets rfl rfl rfl rfl
  obtain ⟨flash, -⟩ := cold F.SYSCTL_RSTCAUSE_POR (by simp)
  have kept := flash 0x08003004 (by decide) (by decide)
  rw [State.byte_updatingTable, State.byte_coldReset_updatingTable] at kept
  exact absurd kept (by decide)

end Sys2Proof.Machine
end

section
/-! Updates of status fields alone, and the end of a step that has nothing to do (R46, R49, R100, R486). -/

namespace Sys2Proof.Machine

/-! ### Fields of one register, and updates of registers alone -/

/-- A field of a word keeps its value when another field of it is put. -/
theorem bits_wordPut_of_disjoint (w : Word) {hi lo : Nat} (v : Nat) {hi' lo' : Nat} (hhi : hi < 32) (h : hi' < lo ∨ hi < lo') :
    bits (wordPut w hi lo v).toNat hi' lo' = bits w.toNat hi' lo' := by
  apply Nat.eq_of_testBit_eq
  intro i
  simp only [bits, Nat.testBit_mod_two_pow, Nat.testBit_div_two_pow]
  by_cases hi : i < hi' + 1 - lo'
  · rw [← BitVec.getLsbD, ← BitVec.getLsbD, getLsbD_wordPut _ _ _ _ _ hhi, if_neg (by omega)]
  · simp [hi]

/-- A field keeps its value when another field, of its register or not, is given one. -/
theorem State.fld_setFld_of_disjoint (s : State) (f g : Fld) (v n m : Nat) (hhi : f.hi < 32) (h : g.hi < f.lo ∨ f.hi < g.lo) :
    (s.setFld f v n).fld g m = s.fld g m := by
  rw [State.fld, State.reg_setFld_ite]
  split
  · rename_i e
    rw [bits_wordPut_of_disjoint _ _ hhi h, State.fld, e.1, e.2]
  · rfl

/-- No bit of the field is W1C. -/
def Fld.noW1c (f : Fld) : Bool := BitVec.ofNat 32 ((2 ^ (f.hi + 1 - f.lo) - 1) * 2 ^ f.lo) &&& (regRow f.reg).w1c == 0

/-- Hardware that gives such a field a value raises no flag. -/
theorem Fld.raises_of_noW1c {f : Fld} (h : f.noW1c = true) (v : Nat) : f.raises v = 0 := by
  unfold Fld.raises wordPut
  split
  · rfl
  · dsimp only
    rw [show (0 : Word) = 0#32 from rfl, BitVec.zero_and, BitVec.zero_or, BitVec.and_assoc, eq_of_beq h]
    exact BitVec.and_zero

theorem State.setFld_of_noW1c (s : State) {f : Fld} (h : f.noW1c = true) (v n : Nat) :
    s.setFld f v n = s.setReg f.reg n (wordPut (s.reg f.reg n) f.hi f.lo v) := by
  rw [State.setFld, Fld.raises_of_noW1c h, State.noteRaised, if_pos rfl]

/-- Two states that agree in everything but the registers of a list. -/
def State.SameBut (rs : List RegName) (s t : State) : Prop :=
  t = { s with regs := t.regs } ∧ ∀ (r : RegName) (n : Nat), r ∉ rs → t.reg r n = s.reg r n

namespace State.SameBut
variable {rs : List RegName} {s t u : State}

theorem refl : State.SameBut rs s s := ⟨rfl, fun _ _ _ => rfl⟩

theorem trans (h : State.SameBut rs s t) (h' : State.SameBut rs t u) : State.SameBut rs s u :=
  ⟨by rw [h'.1, h.1], fun r n hr => (h'.2 r n hr).trans (h.2 r n hr)⟩

theorem setFld {f : Fld} (hf : f.noW1c = true) (hr : f.reg ∈ rs) (v n : Nat) : State.SameBut rs s (s.setFld f v n) := by
  refine ⟨?_, fun r m h => ?_⟩
  · rw [s.setFld_of_noW1c hf]; rfl
  · rw [State.reg_setFld_ite, if_neg (fun e : r = f.reg ∧ m = n => h (e.1 ▸ hr))]

theorem fld (h : State.SameBut rs s t) {f : Fld} (hf : f.reg ∉ rs) (n : Nat) : t.fld f n = s.fld f n := by
  rw [State.fld, h.2 _ _ hf, State.fld]

theorem inFld (h : State.SameBut rs s t) {f : Fld} (hf : f.reg ∉ rs) (n : Nat) : t.inFld f n = s.inFld f n := by
  have held : t.held = s.held := by rw [h.1]
  rw [State.inFld, State.inReg, held, h.2 _ _ hf, State.inFld, State.inReg]

end State.SameBut

/-! ### The end of a step that has nothing to do -/

/-- The registers that the end of a step keeps up to date. -/
abbrev statusRegs : List RegName := [.SYSCTL_LMSTAT, .SYSCTL_PSTATE]

theorem State.readsDue_of_nil (s : State) (h : s.hcp.reads = []) : s.readsDue = s := by
  have hcp : { s.hcp with reads := s.hcp.reads.filter s.hcpWaits } = s.hcp := by rw [h, List.filter_nil, ← h]
  rw [State.readsDue, h, List.filter_nil, foldOver_nil, State.onHcp, hcp]

theorem State.settle_of_not_waits (s : State) (h : s.waits = false) (n : Nat) : State.settle n s = s := by
  cases n <;> simp [State.settle, h]

theorem State.offerAgain_of_not (s : State) (h : s.sched.again = false) : s.offerAgain = s := by simp [State.offerAgain, h]

theorem Tab.mem_of_find {α : Type} {t : Tab α} {k : Nat} {v : α} (h : Tab.find t k = some v) : (k, v) ∈ t := by
  induction t with
  | nil => cases h
  | cons e t ih =>
    obtain ⟨j, w⟩ := e
    rw [Tab.find_cons] at h
    split at h
    · rename_i hj; cases h; subst hj; exact List.mem_cons_self
    · exact List.mem_cons_of_mem _ (ih h)

theorem State.readyOne_of_no_request (s : State) (h : ∀ e ∈ s.msu.ms, e.2.request = none) (k : Nat) : State.readyOne k s = s := by
  unfold State.readyOne
  split
  · rfl
  · rename_i m hm
    have none : m.request = .none := h _ (Tab.mem_of_find hm)
    rw [if_pos (by simp [none])]

theorem State.msuReady_of_no_request (s : State) (h : ∀ e ∈ s.msu.ms, e.2.request = none) : s.msuReady = s :=
  foldOver_inv (fun t => t = s) _ (fun k t ht => by subst ht; exact State.readyOne_of_no_request _ h k) _ _ rfl

theorem State.forwardRecords_of_none_waits (s : State) (h : ∀ r ∈ s.msu.ring, r.queued = true ∨ r.retired = true) :
    s.forwardRecords = s := by
  have : s.msu.ring.filter (fun r => !r.queued && !r.retired) = [] := by
    rw [List.filter_eq_nil_iff]
    intro r hr
    rcases h r hr with h | h <;> simp [h]
  rw [State.forwardRecords, this, foldOver_nil]

theorem State.not_isExch_of_noExch (s : State) (h : s.noExch = true) (e : Exch) : s.isExch e = false := by
  rw [State.noExch, beq_iff_eq] at h
  cases e <;> simp [State.isExch, h, Exch.bit, bit]

theorem State.hostRefresh_of_noExch (s : State) (h : s.noExch = true) : s.hostRefresh = s := by
  simp [State.hostRefresh, s.not_isExch_of_noExch h]

theorem State.relayRefresh_of_noExch (s : State) (h : s.noExch = true) : s.relayRefresh = s := by
  simp [State.relayRefresh, s.not_isExch_of_noExch h]

theorem State.notifyLost_of_zero (s : State) (p : Tp) (h : (s.tp p).lost = 0) : s.notifyLost p = s := by simp [State.notifyLost, h]

/-- Last Mile's status follows in SYSCTL_LMSTAT alone. -/
theorem State.sameBut_lmRefresh (s : State) : State.SameBut statusRegs s s.lmRefresh := by
  have one {t : State} {f : Fld} (hf : f.noW1c = true) (hr : f.reg ∈ statusRegs) (v : Nat) := State.SameBut.setFld (s := t) hf hr v 0
  unfold State.lmRefresh State.setFlag
  split
  · exact one (by decide) (by simp) _
  · exact ((one (by decide) (by simp) _).trans (one (by decide) (by simp) _)).trans (one (by decide) (by simp) _)

/-- SYSCTL_PSTATE follows alone, and CUR, REST and RAISE_CAUSE of it do not. -/
theorem State.sameBut_pstate (s : State) : State.SameBut statusRegs s s.pstate :=
  (State.SameBut.setFld (by decide) (by simp) _ _).trans (State.SameBut.setFld (by decide) (by simp) _ _)

/-- The fields of SYSCTL_PSTATE that the end of a step reads. -/
abbrev pstateKept : List Fld := [F.SYSCTL_PSTATE_CUR, F.SYSCTL_PSTATE_REST, F.SYSCTL_PSTATE_RAISE_CAUSE, F.SYSCTL_PSTATE_ROADSIDE]

theorem State.fld_pstate (s : State) {f : Fld} (h : f ∈ pstateKept) : s.pstate.fld f 0 = s.fld f 0 := by
  have apart : (f.hi < 8 ∨ 10 < f.lo) ∧ (f.hi < 11 ∨ 11 < f.lo) := by
    simp only [List.mem_cons, List.not_mem_nil, or_false] at h
    rcases h with rfl | rfl | rfl | rfl <;> decide
  unfold State.pstate State.setFlag
  rw [State.fld_setFld_of_disjoint _ _ _ _ _ _ (by decide) apart.2, State.fld_setFld_of_disjoint _ _ _ _ _ _ (by decide) apart.1]

theorem State.fld_lmRefresh (s : State) (f : Fld) (h : f.reg ≠ .SYSCTL_LMSTAT) : s.lmRefresh.fld f 0 = s.fld f 0 := by
  unfold State.lmRefresh State.setFlag
  split
  · rw [State.fld_setFld_of_ne _ _ _ _ _ _ h]
  · rw [State.fld_setFld_of_ne _ _ _ _ _ _ h, State.fld_setFld_of_ne _ _ _ _ _ _ h, State.fld_setFld_of_ne _ _ _ _ _ _ h]

/-- FLOOR comes from the modes, not from Last Mile's status. -/
theorem State.floorNow_lmRefresh (s : State) : s.lmRefresh.floorNow = s.floorNow := by
  have same := s.sameBut_lmRefresh
  have rf : s.lmRefresh.rf = s.rf := by rw [same.1]
  have core : s.lmRefresh.core = s.core := by rw [same.1]
  simp only [State.floorNow, State.inRoadside, State.flag, State.lpRole, State.fld_lmRefresh s F.SYSCTL_PSTATE_ROADSIDE (by decide), rf, core,
    same.inFld (f := F.LP_CFG_ROLE) (by decide)]
  rfl

theorem State.applyFloor_of_not_above (s : State) (h : s.floorNow = 7 ∨ s.restState ≤ s.floorNow) : s.applyFloor = s.pstate := by
  unfold State.applyFloor
  exact if_neg (by omega)

/-- What the end of a step does to a state in which nothing is due: Last Mile's status and the floor follow. -/
def State.refreshed (s : State) : State := if s.lmRefresh.sysOn && s.lmRefresh.pwr.up then s.lmRefresh.pstate else s.lmRefresh

theorem State.sameBut_refreshed (s : State) : State.SameBut statusRegs s s.refreshed := by
  unfold State.refreshed
  split
  · exact s.sameBut_lmRefresh.trans s.lmRefresh.sameBut_pstate
  · exact s.sameBut_lmRefresh

theorem State.fld_refreshed (s : State) {f : Fld} (h : f ∈ pstateKept) : s.refreshed.fld f 0 = s.fld f 0 := by
  have lm : s.lmRefresh.fld f 0 = s.fld f 0 := by
    refine s.fld_lmRefresh f ?_
    simp only [List.mem_cons, List.not_mem_nil, or_false] at h
    rcases h with rfl | rfl | rfl | rfl <;> decide
  unfold State.refreshed
  split
  · rw [State.fld_pstate _ h, lm]
  · exact lm

/-- With nothing waiting and no exchange open, the end of a step only brings SYSCTL_LMSTAT and SYSCTL_PSTATE up to date. -/
theorem State.done_eq_refreshed (s : State) (waits : s.waits = false) (jobs : s.hcp.jobs = []) (reads : s.hcp.reads = [])
    (again : s.sched.again = false) (road : s.roadPend = none) (exch : s.noExch = true) (ms : ∀ e ∈ s.msu.ms, e.2.request = none)
    (ring : ∀ r ∈ s.msu.ring, r.queued = true ∨ r.retired = true) (lost0 : (s.tp .lp0).lost = 0) (lost1 : (s.tp .lp1).lost = 0)
    (floor : s.floorNow = 7 ∨ s.restState ≤ s.floorNow) : s.done = s.refreshed := by
  have applied : s.lmRefresh.applyFloor = s.lmRefresh.pstate := by
    refine State.applyFloor_of_not_above _ ?_
    rw [State.floorNow_lmRefresh, State.restState, State.fld_lmRefresh _ _ (by decide)]
    exact floor
  have same : s.refreshed = { s with regs := s.refreshed.regs } := s.sameBut_refreshed.1
  have road' : s.refreshed.roadPend = none := by rw [same]; exact road
  have ring' : ∀ r ∈ s.refreshed.msu.ring, r.queued = true ∨ r.retired = true := by rw [same]; exact ring
  have exch' : s.refreshed.noExch = true := by rw [State.noExch, State.fld_refreshed _ (by simp)]; exact exch
  have lost' (p : Tp) : (s.refreshed.tp p).lost = (s.tp p).lost := by rw [same]; rfl
  rw [State.done, s.readsDue_of_nil reads, s.settle_of_not_waits waits, s.offerAgain_of_not again, jobs,
    show foldOver State.jobFeed (Tab.keys []) s = s from rfl]
  rw [s.msuReady_of_no_request ms, applied, ← State.refreshed, State.forwardRecords_of_none_waits _ ring', State.roadDue_of_none road',
    State.hostRefresh_of_noExch _ exch', State.relayRefresh_of_noExch _ exch', foldOver_cons, State.notifyLost_of_zero _ _ (by rw [lost', lost0]),
    foldOver_cons, State.notifyLost_of_zero _ _ (by rw [lost', lost1]), foldOver_nil]

/-- Settles O28: the end of the step is the update of SYSCTL_LMSTAT and SYSCTL_PSTATE, which keeps CUR and REST. -/
theorem endOfStep : Obligations.EndOfStep := by
  unfold Obligations.EndOfStep
  intro u waits jobs reads again road exch ms ring lost0 lost1 floor
  rw [u.done_eq_refreshed waits jobs reads again road exch ms ring lost0 lost1 floor]
  refine ⟨u.sameBut_refreshed.1, ?_, u.fld_refreshed (by simp), u.fld_refreshed (by simp)⟩
  intro r n hlm hp
  exact u.sameBut_refreshed.2 r n (by simp [hlm, hp])

end Sys2Proof.Machine
end

section
/-! What a reply or a notification leaves unchanged, exchanges, and the transports of HCP: HPORT transactions, the UART and what ends with
time (R49, R127, R134 to R148). -/

namespace Sys2Proof.Machine

/-! ### Replies and notifications -/

/-- The second state differs from the first in what the transports and the line ports hold alone. -/
def State.Posted (s t : State) : Prop := t = { s with hcp := { s.hcp with tps := t.hcp.tps }, lp := t.lp }

namespace State.Posted
variable {s t u : State}

theorem refl : State.Posted s s := rfl

theorem trans (h : State.Posted s t) (h' : State.Posted t u) : State.Posted s u := by
  unfold State.Posted at *
  rw [h', h]

theorem regs (h : State.Posted s t) : t.regs = s.regs := by rw [h]
theorem held (h : State.Posted s t) : t.held = s.held := by rw [h]
theorem mem (h : State.Posted s t) : t.mem = s.mem := by rw [h]
theorem pwr (h : State.Posted s t) : t.pwr = s.pwr := by rw [h]
theorem core (h : State.Posted s t) : t.core = s.core := by rw [h]
theorem hcp (h : State.Posted s t) : t.hcp = { s.hcp with tps := t.hcp.tps } := by
  rw [h]

theorem reg (h : State.Posted s t) (r : RegName) (n : Nat) : t.reg r n = s.reg r n := State.reg_congr h.regs r n
theorem fld (h : State.Posted s t) (f : Fld) (n : Nat) : t.fld f n = s.fld f n := by rw [State.fld, h.reg, State.fld]

end State.Posted

theorem State.posted_setTp (s : State) (t : Tp) (x : TpState) : State.Posted s (s.setTp t x) := rfl

theorem State.posted_putPkt (s : State) (t : Tp) (p : Pkt) : State.Posted s (s.putPkt t p) := by
  unfold State.putPkt
  split
  · exact .trans (s.posted_setTp t _) rfl
  · exact s.posted_setTp t _

theorem State.posted_answer (s : State) (h : Hdr) (op fl : Nat) (st : Status) (par data : Bytes) :
    State.Posted s (s.answer h op fl st par data) := by
  unfold State.answer
  dsimp only
  (repeat' split) <;> exact .trans (s.posted_setTp _ _) (State.posted_putPkt _ _ _)

theorem State.posted_reply (s : State) (h : Hdr) (op : Nat) (st : Status) (par data : Bytes) :
    State.Posted s (s.reply h op st par data) := s.posted_answer h op 1 st par data

theorem State.posted_notifyOn (s : State) (k : Nat) (content : Bytes) (t : Tp) : State.Posted s (State.notifyOn k content t s) := by
  unfold State.notifyOn
  dsimp only
  (repeat' split)
  · exact .refl
  · exact s.posted_setTp t _
  · exact .trans (s.posted_setTp t _) (State.posted_putPkt _ _ _)

theorem State.posted_notify (s : State) (k : Nat) (content : Bytes) : State.Posted s (s.notify k content) :=
  foldOver_inv (State.Posted s) _ (fun t u hu => hu.trans (u.posted_notifyOn k content t)) _ _ .refl

theorem State.posted_notifyLost (s : State) (t : Tp) : State.Posted s (s.notifyLost t) := by
  unfold State.notifyLost
  dsimp only
  split
  · exact .refl
  · exact .trans (s.posted_setTp t _) (State.posted_notifyOn _ _ _ _)

theorem Tp.num_inj {a b : Tp} : a.num = b.num ↔ a = b := by cases a <;> cases b <;> decide

@[simp] theorem State.tp_setTp (s : State) (t : Tp) (x : TpState) : (s.setTp t x).tp t = x := by
  simp [State.tp, State.setTp, Tab.getD_put]

theorem State.tp_setTp_of_ne (s : State) {t u : Tp} (x : TpState) (h : u ≠ t) : (s.setTp t x).tp u = s.tp u := by
  simp [State.tp, State.setTp, Tab.getD_put, Tp.num_inj, h]

/-! ### Events and exchanges -/

/-- A producer's event changes the event fabric alone. -/
theorem State.publish_eq (s : State) (p : Nat) : s.publish p = { s with evf := (s.publish p).evf } := by
  unfold State.publish
  (repeat' split) <;> rfl

theorem State.testBit_fld (s : State) (f : Fld) (n i : Nat) :
    (s.fld f n).testBit i = (decide (i < f.hi + 1 - f.lo) && (s.reg f.reg n).getLsbD (i + f.lo)) := by
  rw [State.fld, bits, Nat.testBit_mod_two_pow, Nat.testBit_div_two_pow, BitVec.getLsbD]

theorem bit_eq_testBit (v n : Nat) : bit v n = v.testBit n := by
  rw [bit, Nat.testBit_eq_decide_div_mod_eq, beq_eq_decide]

theorem Exch.bit_lt (e : Exch) : e.bit < 7 := by cases e <;> decide

theorem Exch.bit_inj {a b : Exch} : a.bit = b.bit ↔ a = b := by cases a <;> cases b <;> decide

/-- The exchanges open once one has been opened or ended: that one as told, the others as before (R49). -/
theorem State.isExch_setExch (s : State) (e e' : Exch) (b : Bool) :
    (s.setExch e b).isExch e' = if e' = e then b else s.isExch e' := by
  have he' := e'.bit_lt
  have he := e.bit_lt
  unfold State.isExch State.setExch
  rw [bit_eq_testBit, bit_eq_testBit, State.fld_setFld _ _ _ _ (by decide) (by decide), Nat.testBit_mod_two_pow, ← BitVec.getLsbD,
    getLsbD_wordPut _ _ _ _ _ (by omega)]
  simp only [show (F.SYSCTL_PSTATE_RAISE_CAUSE.hi + 1 - F.SYSCTL_PSTATE_RAISE_CAUSE.lo) = 8 from rfl]
  by_cases h : e' = e
  · subst h
    rw [if_pos rfl, if_pos (by omega)]
    cases b <;> simp [b2n, show e'.bit < 8 by omega]
  · have : e'.bit ≠ e.bit := fun hb => h (Exch.bit_inj.mp hb)
    rw [if_neg h, if_neg (by omega), BitVec.getLsbD_ofNat]
    simp [show e'.bit < 8 by omega, show e'.bit < 32 by omega]

/-- An exchange that opens is open, and no entry is under way any more (R52). -/
theorem State.isExch_exchOpen (s : State) (e : Exch) : (s.exchOpen e).isExch e = true := by
  have : (s.exchOpen e).isExch e = (s.setExch e true).isExch e := rfl
  rw [this, State.isExch_setExch, if_pos rfl]

theorem State.exchOpen_entry (s : State) (e : Exch) : (s.exchOpen e).pwr.entry = none := rfl

@[simp] theorem State.setExch_hcp (s : State) (e : Exch) (b : Bool) : (s.setExch e b).hcp = s.hcp := State.setFld_hcp _ _ _ _
@[simp] theorem State.exchOpen_hcp (s : State) (e : Exch) : (s.exchOpen e).hcp = s.hcp := s.setExch_hcp e true

/-! ### HPORT -/

/-- A transaction that begins while no flush runs: in LISTEN and RUN it opens the host exchange (R49, R135). -/
theorem State.csnFall_of_on (s : State) (off : s.pwr.off = false) (held : s.pwr.held = false) (level : s.level ≤ 1) (flush : s.pwr.flush = none) :
    s.csnFall = ((s.publish 220).onHcp fun x =>
      { x with
        csnLow := true
        served := s.pwr.up && (s.inFld F.HPORT_CFG_ENABLE == 1)
        statusOn := false
        driven := []
        taken := Tab.del x.taken 0 }).exchOpen .host := by
  have pub := s.publish_eq 220
  have level' : (s.publish 220).level = s.level := by rw [pub]; rfl
  have pwr' : (s.publish 220).pwr = s.pwr := by rw [pub]
  have cfg' : (s.publish 220).inFld F.HPORT_CFG_ENABLE = s.inFld F.HPORT_CFG_ENABLE := by rw [pub]; rfl
  unfold State.csnFall
  dsimp only
  rw [State.flushing, level', pwr', cfg', off, held, flush, if_neg (by simp; omega), if_neg (by omega), decide_eq_true level, Bool.true_and]

/-- What READ_PACKET leaves: the bytes driven, and the operation served. -/
def State.driving (s : State) (b : Bytes) (n : Nat) : State :=
  s.onHcp fun y => { y with served := false, driven := (b ++ zeros (n - b.length)).take n }

theorem State.readPacket_empty (s : State) (n : Nat) (h : s.serving = true) (q : (s.tp .hport).queue = []) :
    s.readPacket n = s.driving [] n := by
  simp [State.readPacket, h, q, State.driving]

theorem State.readPacket_part (s : State) (n : Nat) {p : Pkt} {l : List Pkt} (h : s.serving = true) (q : (s.tp .hport).queue = p :: l)
    (short : n < pktLen p) : s.readPacket n = s.driving (pktBytes p) n := by
  simp [State.readPacket, h, q, short, State.driving]

theorem State.readPacket_whole (s : State) (n : Nat) {p : Pkt} {l : List Pkt} (h : s.serving = true) (q : (s.tp .hport).queue = p :: l)
    (whole : pktLen p ≤ n) : s.readPacket n =
      (((s.driving (pktBytes p) n).setTp .hport { s.tp .hport with queue := l }).rateApply .hport p).notifyLost .hport := by
  simp [State.readPacket, h, q, Nat.not_lt.mpr whole, State.driving]

theorem State.rateApply_nil (s : State) (t : Tp) (p : Pkt) (h : s.hcp.rateNext = []) : s.rateApply t p = s := by simp [State.rateApply, h]

/-- The one rate that waits for the reply of a packet applies with it (R141). -/
theorem State.rateApply_one (s : State) (t : Tp) (p : Pkt) {r : RateNext} (h : s.hcp.rateNext = [r]) (tp : r.tp = t.num) (seq : r.seq = p.seq)
    (op : p.opcode = 0x010A) : s.rateApply t p = s.onHcp fun x => { x with rateNext := [], uartRate := r.rate } := by
  simp [State.rateApply, h, tp, seq, op, State.onHcp]

/-- A packet that is not a reply with a rate, on a transport that has lost no notification, just leaves the queue (R138). -/
theorem State.readPacket_done (s : State) (n : Nat) {p : Pkt} {l : List Pkt} (h : s.serving = true) (q : (s.tp .hport).queue = p :: l)
    (whole : pktLen p ≤ n) (lost : (s.tp .hport).lost = 0) (rate : s.hcp.rateNext = []) :
    s.readPacket n = (s.driving (pktBytes p) n).setTp .hport { s.tp .hport with queue := l } := by
  have read : ((s.driving (pktBytes p) n).setTp .hport { s.tp .hport with queue := l }).rateApply .hport p = _ := State.rateApply_nil _ _ _ rate
  rw [s.readPacket_whole n h q whole, read, State.notifyLost_of_zero _ _ (by rw [State.tp_setTp]; exact lost)]

/-- The reply of a TRANSPORT_CFG that leaves the queue puts its rate into force (R141). -/
theorem State.readPacket_rate (s : State) (n : Nat) {p : Pkt} {l : List Pkt} {r : RateNext} (h : s.serving = true)
    (q : (s.tp .hport).queue = p :: l) (whole : pktLen p ≤ n) (rate : s.hcp.rateNext = [r]) (tp : r.tp = 0) (seq : r.seq = p.seq)
    (op : p.opcode = 0x010A) : (s.readPacket n).hcp.uartRate = r.rate ∧ (s.readPacket n).hcp.rateNext = [] := by
  have read : ((s.driving (pktBytes p) n).setTp .hport { s.tp .hport with queue := l }).rateApply .hport p = _ :=
    State.rateApply_one _ _ _ rate tp seq op
  rw [s.readPacket_whole n h q whole, read, (State.posted_notifyLost _ _).hcp]
  exact ⟨rfl, rfl⟩

theorem State.hostSends_packet (s : State) (b : Bytes) : s.hostSends ⟨0x02, b⟩ = s.writePacket b := rfl

theorem State.hostSends_status (s : State) (b : Bytes) : s.hostSends ⟨0x05, b⟩ = s.readStatus b.length := rfl

/-- WRITE_PACKET with one whole packet serves it (R138). -/
theorem State.writePacket_of_packet (s : State) {b : Bytes} {q : Pkt} {len : Nat} (h : s.serving = true) (hq : parsePkt b = .packet q len) :
    s.writePacket b = (s.onHcp fun x => { x with served := false }).hcpPacket .hport q := by
  simp [State.writePacket, h, State.hportBytes, hq]

theorem State.writePacket_of_noSync (s : State) {b : Bytes} (h : s.serving = true) (hb : parsePkt b = .noSync) :
    s.writePacket b = s.onHcp fun x => { x with served := false } := by
  simp [State.writePacket, h, State.hportBytes, hb]

/-! ### The UART -/

theorem parsePkt_nil : parsePkt [] = .short := rfl

theorem State.uartHunt_nil (n : Nat) (s : State) : State.uartHunt n [] s = s.onHcp fun x => { x with uart := [] } := by
  cases n <;> simp [State.uartHunt, parsePkt_nil]

/-- A packet that ends with the bytes on UART_RX is served, and nothing is left (R141). -/
theorem State.uartBytes_of_packet (s : State) (b : Bytes) {q : Pkt} (on : s.sysOn = true)
    (h : parsePkt (s.hcp.uart ++ b) = .packet q (s.hcp.uart ++ b).length) :
    s.uartBytes b = (s.hcpPacket .uart q).onHcp fun x => { x with uart := [] } := by
  simp [State.uartBytes, on, State.uartHunt, h, State.uartHunt_nil, -List.length_append]

/-! ### The commands -/

theorem exec_hportCsnFall (s : State) : exec .hportCsnFall s = .next s.csnFall.done := by rfl
theorem exec_hportCsnRise (s : State) : exec .hportCsnRise s = .next s.csnRise.done := by rfl
theorem exec_writePacket (x : HostSend) (s : State) : exec (.writePacket x) s = .next (s.hostSends x).done := by rfl
theorem exec_readPacket (n : Half) (s : State) : exec (.readPacket n) s = .next (s.readPacket n.toNat).done := by rfl
theorem exec_readStatus (s : State) : exec .readStatus s = .next (s.readStatus 4).done := by rfl
theorem exec_uartPacket (b : Bytes) (s : State) : exec (.uartPacket b) s = .next (s.uartBytes b).done := by rfl
theorem exec_sessionTimeout (t : Tp) (s : State) : exec (.sessionTimeout t) s = .next (s.sessionEnd t).done := by rfl
theorem exec_debugSessionAttach (b : Bool) (s : State) : exec (.debugSessionAttach b) s = .next
    (if b && s.debugDisabled then s
      else (s.onCore fun c => { c with debug := b }).onHcp fun x => { x with debugScope := if b then s.hcp.debugScope else none }).done := by rfl
theorem exec_slotResourceTimeout (k : Fin 2) (s : State) : exec (.slotResourceTimeout k) s = .next (s.slotRelease k.val).done := by rfl

/-- Settles O39, clause by clause: each command is the model's function on the state as its hypotheses fix it. -/
theorem transports : Obligations.Transports := by
  unfold Obligations.Transports
  intro b q len n instr t0 k s ends drives scope
  have serving : s.serving = (s.hcp.csnLow && s.hcp.served) := rfl
  refine ⟨?fall, ⟨_, exec_hportCsnRise s, rfl, rfl, State.inReg_boundary s .HPORT_CFG 0⟩, ?served, ?status, ?unserved, ?uart, by rfl,
    ⟨_, exec_sessionTimeout t0 s, ?session, rfl, rfl⟩, by rfl, ⟨_, exec_slotResourceTimeout k s, fun j => Tab.find_del _ _ _, rfl, rfl⟩, ?attach,
    ?disabled, by rfl⟩
  case fall =>
    intro off held level flush
    refine ⟨_, exec_hportCsnFall s, ?_⟩
    rw [s.csnFall_of_on off held level flush]
    refine ⟨by simp [State.onHcp], State.isExch_exchOpen _ _, State.exchOpen_entry _ _, by simp [State.onHcp]⟩
  case served =>
    intro low srv
    have on : s.serving = true := by rw [serving, low, srv]; rfl
    refine ⟨?packet, ?noSync, ?other, ?whole, ?part, ?empty, ?rate⟩
    case packet =>
      intro hq
      simp only [ends, exec_writePacket, State.hostSends_packet, s.writePacket_of_packet on hq]
    case noSync =>
      intro hq
      simp only [ends, exec_writePacket, State.hostSends_packet, s.writePacket_of_noSync on hq]
    case other =>
      intro hi
      simp only [List.mem_cons, List.not_mem_nil, or_false, not_or] at hi
      obtain ⟨h2, h5, hB⟩ := hi
      simp only [ends, exec_writePacket, State.hostSends, h2, h5, hB, if_false, on, if_true]
    case whole =>
      intro p l hq hlen lost rate
      simp only [ends, exec_readPacket, s.readPacket_done _ on hq hlen lost rate]
      rfl
    case part =>
      intro p l hq hlen
      simp only [ends, exec_readPacket, s.readPacket_part _ on hq hlen]
      rfl
    case empty =>
      intro hq
      simp only [ends, exec_readPacket, s.readPacket_empty _ on hq]
      rfl
    case rate =>
      intro p l r hq hlen rate tp seq op
      exact ⟨_, exec_readPacket n s, s.readPacket_rate _ on hq hlen rate tp seq op⟩
  case status =>
    intro h word sends
    have answers : (s.serving || s.hcp.statusOn) = true := by
      rw [serving]
      rcases h with ⟨low, srv⟩ | on
      · rw [low, srv]; rfl
      · rw [on, Bool.or_true]
    have reads (m : Nat) : s.readStatus m = sends m := by rw [State.readStatus, if_pos answers]
    exact ⟨by simp only [ends, exec_readStatus, reads], by simp only [ends, exec_writePacket, State.hostSends_status, reads]⟩
  case unserved =>
    intro srv
    have off : s.serving = false := by rw [serving, srv, Bool.and_false]
    have packet (m : Nat) : s.readPacket m = s := by simp [State.readPacket, off]
    have idle (st : s.hcp.statusOn = false) (m : Nat) : s.readStatus m = s := by simp [State.readStatus, off, st]
    refine ⟨by simp only [ends, exec_readPacket, packet], fun hi => ?_, fun st => ⟨?_, ?_⟩⟩
    · simp [ends, exec_writePacket, State.hostSends, State.writePacket, packet, off, hi]
    · simp [ends, exec_writePacket, State.hostSends, State.writePacket, packet, off, idle st]
    · simp only [ends, exec_readStatus, idle st]
  case uart =>
    intro on hq
    simp only [ends, exec_uartPacket, s.uartBytes_of_packet b on hq]
  case session =>
    rw [State.sessionEnd, State.endSession, State.tp_setTp]
  case attach =>
    intro intact
    refine (exec_debugSessionAttach true s).trans ?_
    rw [if_neg (by simp [intact])]
    rfl
  case disabled =>
    intro blown
    refine (exec_debugSessionAttach true s).trans ?_
    rw [if_pos (by simp [blown])]

end Sys2Proof.Machine
end

section
/-! What no work of the device touches: where the configuration image stands, the level of NRESET_IN, and the real-time clock with its
calendar and the backup registers (R37, R56, R110). A function f of the model has a lemma f_outer, which says that it leaves them as they
are. -/

namespace Sys2Proof.Machine

/-- The registers of the backup domain that only the clock's own events and writes to them change. -/
abbrev RegName.isClock (r : RegName) : Prop := r = .RTC_TIME ∨ r = .RTC_DATE ∨ r = .RTC_BKP

/-- What lies outside the works of the device: the place of the configuration image and the level of NRESET_IN; the real-time clock; its
calendar and the backup registers. -/
def State.outer (s : State) : (Option Nat × Bool) × RtcState × (RegName → Nat → Word) :=
  ((s.pwr.configAt, s.pwr.pinLow), s.rtc, fun r n => if r.isClock then s.reg r n else 0)

theorem State.outer_eq {s t : State} (image : t.pwr.configAt = s.pwr.configAt) (pin : t.pwr.pinLow = s.pwr.pinLow) (rtc : t.rtc = s.rtc)
    (regs : ∀ (r : RegName) (n : Nat), r.isClock → t.reg r n = s.reg r n) : t.outer = s.outer := by
  unfold State.outer
  rw [image, pin, rtc]
  congr 2
  funext r n
  split
  · rename_i h; exact regs r n h
  · rfl

theorem State.configAt_of_outer {s t : State} (h : t.outer = s.outer) : t.pwr.configAt = s.pwr.configAt := congrArg (·.1.1) h
theorem State.pinLow_of_outer {s t : State} (h : t.outer = s.outer) : t.pwr.pinLow = s.pwr.pinLow := congrArg (·.1.2) h
theorem State.rtc_of_outer {s t : State} (h : t.outer = s.outer) : t.rtc = s.rtc := congrArg (·.2.1) h
theorem State.reg_of_outer {s t : State} (h : t.outer = s.outer) {r : RegName} (hr : r.isClock) (n : Nat) : t.reg r n = s.reg r n := by
  simpa [State.outer, hr] using congrFun (congrFun (congrArg (·.2.2) h) r) n

@[simp] theorem State.outer_ite (c : Prop) [Decidable c] (a b : State) : (if c then a else b).outer = if c then a.outer else b.outer :=
  apply_ite State.outer c a b

@[simp] theorem foldOver_outer {α : Type} (f : α → State → State) (hf : ∀ a s, (f a s).outer = s.outer) (l : List α) (s : State) :
    (foldOver f l s).outer = s.outer :=
  foldOver_proj State.outer f hf l s

/-! ### Registers that a reset keeps -/

theorem Tab.find_keep {α : Type} (t : Tab α) (p : Nat → Bool) (k : Nat) :
    Tab.find (Tab.keep t fun j _ => p j) k = if p k then Tab.find t k else none := by
  induction t with
  | nil => simp [Tab.keep, Tab.find]
  | cons e t ih =>
    obtain ⟨j, v⟩ := e
    rw [Tab.keep, List.filter_cons] at *
    by_cases hj : j = k
    · subst hj
      cases hp : p j with
      | true => simp [Tab.find_cons]
      | false => simpa [Tab.find_cons, hp] using ih
    · cases hp : p j with
      | true => simpa [Tab.find_cons, hj] using ih
      | false => simpa [Tab.find_cons, hj] using ih

/-- A register whose key a test on the keys keeps reads as before. -/
theorem State.reg_of_keep {s t : State} {p : Nat → Bool} (h : t.regs = Tab.keep s.regs fun k _ => p k) {r : RegName} {n : Nat}
    (hp : p (r.key n) = true) : t.reg r n = s.reg r n := by
  rw [State.reg, h, Tab.getD, Tab.find_keep, if_pos hp]
  rfl

theorem RegName.key_mod (r : RegName) (n : Nat) : r.key n % 512 = r.ctorIdx := by
  have := r.ctorIdx_lt
  rw [RegName.key]
  omega

/-- A register whose name is kept reads as before. -/
theorem State.reg_of_keepRegs {s t : State} {p : RegName → Bool} (h : t.regs = s.keepRegs p) {r : RegName} (hr : p r = true) (n : Nat) :
    t.reg r n = s.reg r n := by
  refine State.reg_of_keep (p := fun k => match regTable[k % 512]? with
    | some row => p row.name
    | none => false) h ?_
  rw [RegName.key_mod, List.getElem?_eq_getElem r.ctorIdx_lt_length]
  have name : (regTable[r.ctorIdx]'r.ctorIdx_lt_length).name = r := by rw [← regRow_eq_getElem, regRow_name]
  simp only [name, hr]

theorem RegName.isBackup_of_isClock {r : RegName} (h : r.isClock) : isBackup r = true := by
  rcases h with rfl | rfl | rfl <;> decide

/-- A register file that keeps the backup domain keeps the clock's registers. -/
theorem State.outer_of_keepRegs {s t : State} {p : RegName → Bool} (hp : ∀ r, isBackup r = true → p r = true) (regs : t.regs = s.keepRegs p)
    (image : t.pwr.configAt = s.pwr.configAt) (pin : t.pwr.pinLow = s.pwr.pinLow) (rtc : t.rtc = s.rtc) : t.outer = s.outer :=
  State.outer_eq image pin rtc fun _ n h => State.reg_of_keepRegs regs (hp _ (RegName.isBackup_of_isClock h)) n

/-! ### The updates of a block -/

@[simp] theorem State.setReg_outer (s : State) {r : RegName} (time : r ≠ .RTC_TIME) (date : r ≠ .RTC_DATE) (bkp : r ≠ .RTC_BKP) (n : Nat)
    (v : Word) : (s.setReg r n v).outer = s.outer := by
  refine State.outer_eq (by rfl) (by rfl) (by rfl) (fun r' m h => ?_)
  rw [State.reg_setReg_ite, if_neg]
  rintro ⟨rfl, -⟩
  exact absurd h (by simp [time, date, bkp])

/-- The WLOCK flag of no block stands in a register of the clock. -/
theorem wlockOf_ne_clock (r : RegName) (n : Nat) {r' : RegName} (h : r'.isClock) (n' : Nat) : wlockOf r n ≠ some (r', n') := by
  have rows : ∀ row ∈ regTable, row.wlock ≠ some .RTC_TIME ∧ row.wlock ≠ some .RTC_DATE ∧ row.wlock ≠ some .RTC_BKP := by decide +kernel
  obtain ⟨time, date, bkp⟩ := rows _ (regRow_mem r)
  unfold wlockOf
  cases hw : (regRow r).wlock with
  | none => simp
  | some w => rcases h with rfl | rfl | rfl <;> simp_all

@[simp] theorem State.regStore_outer (s : State) {r : RegName} (time : r ≠ .RTC_TIME) (date : r ≠ .RTC_DATE) (bkp : r ≠ .RTC_BKP) (n : Nat)
    (running : Bool) (w : Word) : (s.regStore r n running w).outer = s.outer := by
  have frame := s.regStore_frame r n running w
  refine State.outer_eq (by rw [frame]) (by rw [frame]) (by rw [frame]) (fun r' m h => ?_)
  rw [State.reg_regStore_ite s running w (wlockOf_ne_clock r n h m), if_neg]
  rintro ⟨rfl, -⟩
  exact absurd h (by simp [time, date, bkp])

@[simp] theorem State.noteRaised_outer (s : State) (r : RegName) (n : Nat) (m : Word) : (s.noteRaised r n m).outer = s.outer := by
  rw [State.noteRaised_eq]; rfl

@[simp] theorem State.setFld_outer (s : State) {r : RegName} (time : r ≠ .RTC_TIME) (date : r ≠ .RTC_DATE) (bkp : r ≠ .RTC_BKP)
    (hi lo v n : Nat) : (s.setFld ⟨r, hi, lo⟩ v n).outer = s.outer := by
  rw [State.setFld, State.noteRaised_outer, State.setReg_outer _ time date bkp]

@[simp] theorem State.setFlag_outer (s : State) {r : RegName} (time : r ≠ .RTC_TIME) (date : r ≠ .RTC_DATE) (bkp : r ≠ .RTC_BKP)
    (hi lo : Nat) (b : Bool) (n : Nat) : (s.setFlag ⟨r, hi, lo⟩ b n).outer = s.outer := s.setFld_outer time date bkp hi lo (b2n b) n

@[simp] theorem State.bump_outer (s : State) {r : RegName} (time : r ≠ .RTC_TIME) (date : r ≠ .RTC_DATE) (bkp : r ≠ .RTC_BKP)
    (hi lo n d : Nat) : (s.bump ⟨r, hi, lo⟩ n d).outer = s.outer := s.setFld_outer time date bkp hi lo _ n

@[simp] theorem State.bumpWrap_outer (s : State) {r : RegName} (time : r ≠ .RTC_TIME) (date : r ≠ .RTC_DATE) (bkp : r ≠ .RTC_BKP)
    (hi lo n d : Nat) : (s.bumpWrap ⟨r, hi, lo⟩ n d).outer = s.outer := s.setFld_outer time date bkp hi lo _ n

@[simp] theorem State.boundary_outer (s : State) (r : RegName) (n : Nat) : (s.boundary r n).outer = s.outer := rfl
@[simp] theorem State.onErr_outer (s : State) (f : ErrState → ErrState) : (s.onErr f).outer = s.outer := rfl
@[simp] theorem State.onEvf_outer (s : State) (f : EvfState → EvfState) : (s.onEvf f).outer = s.outer := rfl
@[simp] theorem State.onHcp_outer (s : State) (f : HcpState → HcpState) : (s.onHcp f).outer = s.outer := rfl
@[simp] theorem State.onCore_outer (s : State) (f : CoreState → CoreState) : (s.onCore f).outer = s.outer := rfl
@[simp] theorem State.onNtc_outer (s : State) (f : NtcState → NtcState) : (s.onNtc f).outer = s.outer := rfl
@[simp] theorem State.onTmr_outer (s : State) (f : TmrState → TmrState) : (s.onTmr f).outer = s.outer := rfl
@[simp] theorem State.onFlc_outer (s : State) (f : FlcState → FlcState) : (s.onFlc f).outer = s.outer := rfl
@[simp] theorem State.onOtp_outer (s : State) (f : OtpState → OtpState) : (s.onOtp f).outer = s.outer := rfl
@[simp] theorem State.onSram_outer (s : State) (f : SramState → SramState) : (s.onSram f).outer = s.outer := rfl
@[simp] theorem State.onDmc_outer (s : State) (f : DmcState → DmcState) : (s.onDmc f).outer = s.outer := rfl
@[simp] theorem State.onRf_outer (s : State) (f : RfState → RfState) : (s.onRf f).outer = s.outer := rfl
@[simp] theorem State.onTxp_outer (s : State) (f : TxpState → TxpState) : (s.onTxp f).outer = s.outer := rfl
@[simp] theorem State.onFrm_outer (s : State) (f : FrmState → FrmState) : (s.onFrm f).outer = s.outer := rfl
@[simp] theorem State.onMsu_outer (s : State) (f : MsuState → MsuState) : (s.onMsu f).outer = s.outer := rfl
@[simp] theorem State.onSched_outer (s : State) (f : SchedState → SchedState) : (s.onSched f).outer = s.outer := rfl
@[simp] theorem State.onLp_outer (s : State) (f : LpState → LpState) : (s.onLp f).outer = s.outer := rfl
@[simp] theorem State.onLine_outer (s : State) (p : Nat) (f : LinePort → LinePort) : (s.onLine p f).outer = s.outer := rfl
@[simp] theorem State.onCtl_outer (s : State) (f : CtlState → CtlState) : (s.onCtl f).outer = s.outer := rfl
@[simp] theorem State.setTp_outer (s : State) (t : Tp) (x : TpState) : (s.setTp t x).outer = s.outer := rfl
@[simp] theorem State.setMile_outer (s : State) (k : Nat) (m : Milestone) : (s.setMile k m).outer = s.outer := rfl
@[simp] theorem State.setPc_outer (s : State) (c : Nat) (v : Word) : (s.setPc c v).outer = s.outer := rfl
@[simp] theorem State.sendUnit_outer (s : State) (p typ addr : Nat) (b : Bytes) : (s.sendUnit p typ addr b).outer = s.outer := rfl
@[simp] theorem State.setByte_outer (s : State) (a : Nat) (b : Byte) : (s.setByte a b).outer = s.outer := rfl
@[simp] theorem State.clearMem_outer (s : State) (a n : Nat) : (s.clearMem a n).outer = s.outer := rfl

@[simp] theorem State.setBytes_outer (s : State) (a : Nat) (b : Bytes) : (s.setBytes a b).outer = s.outer := by
  rw [State.setBytes_eq]; rfl

@[simp] theorem State.fresh_outer (s : State) (bound : Nat) : (s.fresh bound).2.outer = s.outer := rfl
@[simp] theorem State.freshBytes_outer (s : State) (n : Nat) : (s.freshBytes n).2.outer = s.outer := rfl

@[simp] theorem State.publish_outer (s : State) (p : Nat) : (s.publish p).outer = s.outer := by rw [State.publish_eq]; rfl

@[simp] theorem State.onPwr_outer (s : State) (f : PwrState → PwrState) (image : ∀ p, (f p).configAt = p.configAt)
    (pin : ∀ p, (f p).pinLow = p.pinLow) : (s.onPwr f).outer = s.outer :=
  State.outer_eq (image s.pwr) (pin s.pwr) (by rfl) (fun _ _ _ => by rfl)

theorem State.Posted.outer {s t : State} (h : State.Posted s t) : t.outer = s.outer := by rw [h]; rfl

@[simp] theorem State.putPkt_outer (s : State) (t : Tp) (p : Pkt) : (s.putPkt t p).outer = s.outer := (s.posted_putPkt t p).outer
@[simp] theorem State.answer_outer (s : State) (h : Hdr) (op fl : Nat) (st : Status) (par data : Bytes) :
    (s.answer h op fl st par data).outer = s.outer := (s.posted_answer h op fl st par data).outer
@[simp] theorem State.reply_outer (s : State) (h : Hdr) (op : Nat) (st : Status) (par data : Bytes) :
    (s.reply h op st par data).outer = s.outer := (s.posted_reply h op st par data).outer
@[simp] theorem State.notifyOn_outer (k : Nat) (content : Bytes) (t : Tp) (s : State) :
    (State.notifyOn k content t s).outer = s.outer := (s.posted_notifyOn k content t).outer
@[simp] theorem State.notify_outer (s : State) (k : Nat) (content : Bytes) : (s.notify k content).outer = s.outer :=
  (s.posted_notify k content).outer

@[simp] theorem State.setWlock_outer (s : State) (r : RegName) (n : Nat) : (s.setWlock r n).outer = s.outer := by
  have frame := s.setWlock_eq r n
  exact State.outer_eq (by rw [frame]) (by rw [frame]) (by rw [frame])
    fun r' m h => s.reg_setWlock_of_ne (wlockOf_ne_clock r n h m)

@[simp] theorem State.inputFree_outer (c : Nat) (s : State) : (State.inputFree c s).outer = s.outer := by
  simp -implicitDefEqProofs [State.inputFree]

@[simp] theorem State.trialEnd_outer (s : State) (j : Job) (st : Status) : (s.trialEnd j st).outer = s.outer := by
  simp -implicitDefEqProofs [State.trialEnd]

@[simp] theorem State.ownNext_outer (s : State) (j : Job) (st : Status) : (s.ownNext j st).outer = s.outer := by
  simp -implicitDefEqProofs [State.ownNext]

@[simp] theorem State.complete_outer (s : State) (id : Nat) (st : Status) (par data : Bytes) :
    (s.complete id st par data).outer = s.outer := by
  unfold State.complete; split <;> simp -implicitDefEqProofs

@[simp] theorem State.countClass_outer (s : State) (cls : Nat) : (s.countClass cls).outer = s.outer := by
  have counted : (s.bump (clsField cls)).outer = s.outer := by unfold clsField; split <;> simp -implicitDefEqProofs
  exact counted

@[simp] theorem State.publishClass_outer (s : State) (cls : Nat) : (s.publishClass cls).outer = s.outer := by
  simp -implicitDefEqProofs [State.publishClass]

@[simp] theorem State.wantRoadside_outer (s : State) (cause : Nat) : (s.wantRoadside cause).outer = s.outer := by
  unfold State.wantRoadside; split <;> rfl

@[simp] theorem State.setLog_outer (s : State) (k : Nat) (e : LogEntry) : (s.setLog k e).outer = s.outer := rfl

@[simp] theorem State.layEntries_outer (s : State) (slots : List Nat) (es : List LogEntry) : (s.layEntries slots es).outer = s.outer :=
  State.setFld_outer _ (by decide) (by decide) (by decide) _ _ _ _

@[simp] theorem State.renameNotes_outer (s : State) (moved : List (Bytes × Bytes)) : (s.renameNotes moved).outer = s.outer := by
  unfold State.renameNotes
  split
  · rfl
  · refine foldOver_outer _ (fun t u => ?_) _ _
    dsimp only
    split <;> simp

@[simp] theorem State.writeEntry_outer (s : State) (slot : Option Nat) (e : LogEntry) : (s.writeEntry slot e).outer = s.outer := by
  dsimp only [State.writeEntry]; split <;> simp -implicitDefEqProofs

@[simp] theorem State.newEntry_outer (s : State) (k : Nat) (e : LogEntry) : (s.newEntry k e).outer = s.outer := by
  simp -implicitDefEqProofs [State.newEntry]

@[simp] theorem State.logFull_outer (s : State) (e : LogEntry) : (s.logFull e).outer = s.outer := by
  simp -implicitDefEqProofs [State.logFull]

@[simp] theorem State.countIn_outer (s : State) (k : Nat) (old new : LogEntry) : (s.countIn k old new).outer = s.outer := by
  rw [State.countIn, State.publishClass_outer]
  split <;> rfl

@[simp] theorem State.logError_outer (s : State) (cls src : Nat) (info : Word) (syndrome : Nat) :
    (s.logError cls src info syndrome).outer = s.outer := by
  dsimp only [State.logError]; (repeat' split) <;> simp -implicitDefEqProofs

@[simp] theorem State.raise_outer (s : State) (cls code unit : Nat) (info : Word) : (s.raise cls code unit info).outer = s.outer := by
  simp -implicitDefEqProofs [State.raise]

@[simp] theorem State.fatal_outer (s : State) (code unit : Nat) (info : Word) (cause : Nat) :
    (s.fatal code unit info cause).outer = s.outer := by
  simp -implicitDefEqProofs [State.fatal]

@[simp] theorem State.coresLose_outer (s : State) (p : Nat → Bool) : (s.coresLose p).outer = s.outer := by
  have regs : (s.coresLose p).regs = Tab.keep s.regs fun k _ => !(decide (RegName.CORE_CAUSE.ctorIdx ≤ k % 512) && p (k / 512)) := rfl
  refine State.outer_eq (by rfl) (by rfl) (by rfl) (fun r n h => State.reg_of_keep regs ?_)
  rw [RegName.key_mod]
  rcases h with rfl | rfl | rfl <;> rfl

/-- The cores and the SRAM are none of it. -/
theorem State.withCoreSram_outer (s : State) (sram : SramState) (core : CoreState) :
    ({ s with sram := sram, core := core } : State).outer = s.outer := rfl

@[simp] theorem State.clusterLose_outer (cl : Nat) (s : State) : (State.clusterLose cl s).outer = s.outer := by
  unfold State.clusterLose
  extract_lets s1 s2 en keep
  have h1 : s1.outer = s.outer := by simp -implicitDefEqProofs [s1]
  clear_value s1
  have h2 : s2.outer = s1.outer := by
    refine State.outer_eq (by rfl) (by rfl) (by rfl) (fun r n h => State.reg_of_keep (s := s1) (p := fun k =>
      !((k % 512 == RegName.CL_CXDEC.ctorIdx && k / 512 / 32 == cl) || (k % 512 == RegName.CL_UCCFG.ctorIdx && k / 512 == cl))) rfl ?_)
    rw [RegName.key_mod]
    rcases h with rfl | rfl | rfl <;> rfl
  rw [State.setFld_outer _ (by decide) (by decide) (by decide), State.withCoreSram_outer, h2, h1]

@[simp] theorem State.evfRefuse_outer (s : State) : s.evfRefuse.outer = s.outer := by simp -implicitDefEqProofs [State.evfRefuse]

@[simp] theorem State.evfFire_outer (s : State) (cl ch : Nat) : (s.evfFire cl ch).outer = s.outer := by
  unfold State.evfFire
  split
  · simp -implicitDefEqProofs
  · split <;> rfl

@[simp] theorem State.evfRelease_outer (s : State) : s.evfRelease.outer = s.outer := rfl

@[simp] theorem State.discDown_outer (s : State) : s.discDown.outer = s.outer := by simp -implicitDefEqProofs [State.discDown]

@[simp] theorem State.tmrReload_outer (s : State) (n : Nat) : (s.tmrReload n).outer = s.outer := by
  simp -implicitDefEqProofs [State.tmrReload]

@[simp] theorem State.tmrStop_outer (n : Nat) (s : State) : (State.tmrStop n s).outer = s.outer := by
  simp -implicitDefEqProofs [State.tmrStop]

@[simp] theorem State.tmrExpireSelf_outer (s : State) (n : Nat) : (s.tmrExpireSelf n).outer = s.outer := by
  simp -implicitDefEqProofs [State.tmrExpireSelf]

@[simp] theorem State.tmrTake_outer (n : Nat) (s : State) : (State.tmrTake n s).outer = s.outer := by
  simp -implicitDefEqProofs [State.tmrTake]

@[simp] theorem State.tmrCount_outer (s0 : State) (n : Nat) (w : Word) : (s0.tmrCount n w).outer = s0.outer := by
  simp -implicitDefEqProofs [State.tmrCount]

@[simp] theorem State.chargeStop_outer (s : State) : s.chargeStop.outer = s.outer := by simp -implicitDefEqProofs [State.chargeStop]

@[simp] theorem State.mendRam_outer (s : State) (w : RamWord) : (s.mendRam w).outer = s.outer := by
  simp -implicitDefEqProofs [State.mendRam]

@[simp] theorem State.checkRam_outer (s : State) (w : RamWord) : (s.checkRam w).2.outer = s.outer := by
  unfold State.checkRam; split <;> simp -implicitDefEqProofs

@[simp] theorem State.filterCold_outer (s : State) : s.filterCold.outer = s.outer := by simp -implicitDefEqProofs [State.filterCold]

@[simp] theorem State.dramLost_outer (s : State) : s.dramLost.outer = s.outer := by
  simp -implicitDefEqProofs [State.dramLost]

@[simp] theorem State.dmcStop_outer (s : State) : s.dmcStop.outer = s.outer := by
  simp -implicitDefEqProofs [State.dmcStop]

@[simp] theorem State.dmcPllLoss_outer (s : State) : s.dmcPllLoss.outer = s.outer := by
  simp -implicitDefEqProofs [State.dmcPllLoss]

/-- The flash controller is none of it. -/
theorem State.withFlc_outer (s : State) (f : FlcState) : ({ s with flc := f } : State).outer = s.outer := rfl

@[simp] theorem State.setMark_outer (s : State) (w : Nat) (b : Bool) : (s.setMark w b).outer = s.outer := rfl

@[simp] theorem State.setMarks_outer (s : State) (w n : Nat) (b : Bool) : (s.setMarks w n b).outer = s.outer := by
  simp -implicitDefEqProofs [State.setMarks]

@[simp] theorem State.eraseSector_outer (s : State) (sec : Nat) : (s.eraseSector sec).outer = s.outer := by
  unfold State.eraseSector
  extract_lets s1 s2 s3
  have h1 : s1.outer = s.outer := rfl
  have h2 : s2.outer = s.outer := by simp -implicitDefEqProofs [s2, h1]
  rw [State.withFlc_outer]
  simp -implicitDefEqProofs [s3, h2]

@[simp] theorem State.writeNative_outer (s : State) (off : Nat) (b : Bytes) : (s.writeNative off b).outer = s.outer := by
  simp -implicitDefEqProofs [State.writeNative]

@[simp] theorem State.updateTable_outer (s : State) (magic base : Nat) (t : FlTable) (es : List FlEntry) : (s.updateTable magic base t es).2.outer = s.outer := by
  simp -implicitDefEqProofs [State.updateTable]

@[simp] theorem State.setPartial_outer (s : State) (es : List FlEntry) : (s.setPartial es).outer = s.outer := by
  simp -implicitDefEqProofs [State.setPartial]

@[simp] theorem State.addPartial_outer (s : State) (e : FlEntry) : (s.addPartial e).outer = s.outer := by
  simp -implicitDefEqProofs [State.addPartial]

@[simp] theorem State.readReport_outer (s : State) (cl0 : Bool) (line n : Nat) : (s.readReport cl0 line n).outer = s.outer := by
  simp -implicitDefEqProofs [State.readReport]

@[simp] theorem State.arrayRead_outer (s : State) (cl0 : Bool) (line : Nat) : (s.arrayRead cl0 line).2.outer = s.outer := by
  simp -implicitDefEqProofs [State.arrayRead]

@[simp] theorem State.readLine_outer (s : State) (cl0 : Bool) (off : Nat) : (s.readLine cl0 off).2.outer = s.outer := by
  dsimp only [State.readLine]; (repeat' split) <;> simp -implicitDefEqProofs

@[simp] theorem State.readLines_outer (s : State) (cl0 : Bool) (line n best : Nat) : (s.readLines cl0 line n best).2.outer = s.outer := by
  induction n generalizing s line best with
  | zero => rfl
  | succ n ih =>
    unfold State.readLines
    split
    · next e => obtain rfl := congrArg Prod.snd e; simp -implicitDefEqProofs [ih]
    · simp

@[simp] theorem State.readSpan_outer (s : State) (off n : Nat) : (s.readSpan off n).2.outer = s.outer := by
  simp -implicitDefEqProofs [State.readSpan]

@[simp] theorem State.readTable_outer (s : State) (magic sector : Nat) : (s.readTable magic sector).2.outer = s.outer := by
  unfold State.readTable
  dsimp only
  split <;> next e => obtain rfl := congrArg Prod.snd e; simp -implicitDefEqProofs

@[simp] theorem State.openRecord_outer (s : State) (kind off : Nat) : (s.openRecord kind off).outer = s.outer := by
  unfold State.openRecord
  extract_lets k s0 b s1
  have h0 : s0.outer = s.outer := by simp -implicitDefEqProofs [s0]
  rw [State.withFlc_outer]
  simp -implicitDefEqProofs [s1, h0]

@[simp] theorem State.closeRecord_outer (s : State) : s.closeRecord.outer = s.outer := by
  unfold State.closeRecord
  split
  · exact (State.withFlc_outer _ _).trans (State.writeNative_outer _ _ _)
  · rfl

@[simp] theorem State.cutTable_outer (s : State) (u : TabUpdate) : (s.cutTable u).outer = s.outer := by
  simp -implicitDefEqProofs [State.cutTable]

@[simp] theorem State.updWrite_outer (s : State) (u : TabUpdate) (n : Nat) : (s.updWrite u n).outer = s.outer := by
  simp -implicitDefEqProofs [State.updWrite]

@[simp] theorem State.updCut_outer (s : State) : s.updCut.outer = s.outer := by
  dsimp only [State.updCut]; (repeat' split) <;> simp -implicitDefEqProofs

@[simp] theorem State.pageCut_outer (s : State) : s.pageCut.outer = s.outer := by
  unfold State.pageCut; split <;> simp -implicitDefEqProofs

@[simp] theorem State.flcAbort_outer (s : State) : s.flcAbort.outer = s.outer := by
  simp -implicitDefEqProofs +contextual [State.flcAbort]

@[simp] theorem State.bootTable_outer (s : State) (magic base : Nat) : (s.bootTable magic base).2.outer = s.outer := by
  dsimp only [State.bootTable]; split <;> simp -implicitDefEqProofs

@[simp] theorem State.bootRecord_outer (k : Nat) (s : State) : (State.bootRecord k s).outer = s.outer := by
  unfold State.bootRecord
  split
  · next e =>
    obtain rfl := congrArg Prod.snd e
    split <;> simp -implicitDefEqProofs
  · next e => obtain rfl := congrArg Prod.snd e; simp -implicitDefEqProofs

@[simp] theorem State.bootRecords_outer (s : State) : s.bootRecords.outer = s.outer := by
  simp -implicitDefEqProofs +contextual [State.bootRecords]

@[simp] theorem State.eraseRecorded_outer (s : State) (sec : Nat) : (s.eraseRecorded sec).outer = s.outer := by
  simp -implicitDefEqProofs [State.eraseRecorded]

@[simp] theorem State.otpReload_outer (s : State) : s.otpReload.outer = s.outer := by
  refine (State.setReg_outer _ (by decide) (by decide) (by decide) _ _).trans (foldOver_outer _ (fun k t => ?_) _ _)
  dsimp only
  split <;> simp -implicitDefEqProofs [-foldOver_cons]

@[simp] theorem State.otpBurn_outer (s : State) (row half v : Nat) : (s.otpBurn row half v).outer = s.outer := rfl

@[simp] theorem State.setHalf_outer (s : State) (row half : Nat) (h : HalfState) : (s.setHalf row half h).outer = s.outer := rfl

@[simp] theorem State.otpDone_outer (s : State) (cut crcOk : Bool) : (s.otpDone cut crcOk).outer = s.outer := by
  have failed (t : State) (h : t.outer = s.outer) : (t.setFld F.OTP_STAT_FAIL 1).outer = s.outer :=
    (t.setFld_outer (by decide) (by decide) (by decide) _ _ _ _).trans h
  unfold State.otpDone
  split
  · rfl
  · split
    · dsimp only
      split
      · rfl
      · exact failed _ rfl
    · dsimp only
      split
      · rfl
      · split
        · rfl
        · exact failed _ rfl

@[simp] theorem State.ctxFree_outer (s : State) (c : Nat) : (s.ctxFree c).outer = s.outer := by simp -implicitDefEqProofs [State.ctxFree]

@[simp] theorem State.setLane_outer (s : State) (n st : Nat) : (s.setLane n st).outer = s.outer := by
  simp -implicitDefEqProofs [State.setLane]

@[simp] theorem State.dropWindow_outer (s : State) (n : Nat) : (s.dropWindow n).outer = s.outer := by
  simp -implicitDefEqProofs [State.dropWindow]

@[simp] theorem State.laneOff_outer (s : State) (n : Nat) : (s.laneOff n).outer = s.outer := by simp -implicitDefEqProofs [State.laneOff]

@[simp] theorem State.cutCount_outer (s : State) (n : Nat) : (s.cutCount n).outer = s.outer := by
  simp -implicitDefEqProofs [State.cutCount]

@[simp] theorem State.laneCut_outer (n : Nat) (s : State) : (State.laneCut n s).outer = s.outer := by
  unfold State.laneCut; split <;> simp -implicitDefEqProofs

@[simp] theorem State.laneStart_outer (s : State) (n : Nat) : (s.laneStart n).outer = s.outer := by
  simp -implicitDefEqProofs [State.laneStart]

@[simp] theorem State.bankStop_outer (s : State) : s.bankStop.outer = s.outer := by simp -implicitDefEqProofs [State.bankStop]

@[simp] theorem State.bankGo_outer (s : State) : s.bankGo.outer = s.outer := by simp -implicitDefEqProofs [State.bankGo]

@[simp] theorem State.synToLo_outer (s : State) (p : Nat) : (s.synToLo p).outer = s.outer := by simp -implicitDefEqProofs [State.synToLo]

@[simp] theorem State.rxStop_outer (p : Nat) (s : State) : (State.rxStop p s).outer = s.outer := by
  simp -implicitDefEqProofs [State.rxStop]

@[simp] theorem State.setLedger_outer (s : State) (k v : Nat) : (s.setLedger k v).outer = s.outer := by
  simp -implicitDefEqProofs [State.setLedger]

@[simp] theorem State.ledgerClamp_outer (k : Nat) (s : State) : (State.ledgerClamp k s).outer = s.outer := by
  simp -implicitDefEqProofs [State.ledgerClamp]

@[simp] theorem State.pushResult_outer (s : State) (w nt : Word) : (s.pushResult w nt).outer = s.outer := by
  simp -implicitDefEqProofs [State.pushResult]

@[simp] theorem State.txPost_outer (s : State) (e : TxEntry) (code late airStart : Nat) :
    (s.txPost e code late airStart).outer = s.outer := by
  unfold State.txPost; split <;> simp -implicitDefEqProofs

@[simp] theorem State.txAccept_outer (s : State) (e : TxEntry) : (s.txAccept e).2.outer = s.outer := by
  simp -implicitDefEqProofs [State.txAccept]

@[simp] theorem State.txSubmit_outer (s : State) (e : TxEntry) (fields : Bool) : (s.txSubmit e fields).2.outer = s.outer := by
  unfold State.txSubmit; split <;> simp -implicitDefEqProofs

@[simp] theorem State.txRefused_outer (s : State) (code : Nat) : (s.txRefused code).outer = s.outer := by
  simp -implicitDefEqProofs [State.txRefused]

@[simp] theorem State.setExc_outer (s : State) (p : Nat) (x : Excursion) : (s.setExc p x).outer = s.outer := by
  simp -implicitDefEqProofs [State.setExc]

@[simp] theorem State.dropExc_outer (s : State) (p : Nat) : (s.dropExc p).outer = s.outer := by simp -implicitDefEqProofs [State.dropExc]

@[simp] theorem State.release_outer (s : State) (x : Excursion) : (s.release x).outer = s.outer := by
  unfold State.release; split <;> simp -implicitDefEqProofs

@[simp] theorem State.excBack_outer (s : State) (p : Nat) : (s.excBack p).outer = s.outer := by simp -implicitDefEqProofs [State.excBack]

@[simp] theorem State.setPins_outer (s : State) (p pins0 bias0 : Nat) (drv0 : Bool) : (s.setPins p pins0 bias0 drv0).outer = s.outer := by
  simp -implicitDefEqProofs [State.setPins]

@[simp] theorem State.pinsSafe_outer (s : State) (p : Nat) : (s.pinsSafe p).outer = s.outer := by
  simp -implicitDefEqProofs [State.pinsSafe]

@[simp] theorem State.setVtag_outer (s : State) (q v : Nat) : (s.setVtag q v).outer = s.outer := by
  simp -implicitDefEqProofs [State.setVtag]

@[simp] theorem State.airOver_outer (s : State) (p : Nat) (x : Excursion) (cut : Bool) : (s.airOver p x cut).outer = s.outer := by
  simp -implicitDefEqProofs [State.airOver]

@[simp] theorem State.txPull_outer (s : State) (e : TxEntry) : (s.txPull e).outer = s.outer := by
  dsimp only [State.txPull]; (repeat' split) <;> simp -implicitDefEqProofs

@[simp] theorem State.txWithdraw_outer (s : State) (tag : Nat) : (s.txWithdraw tag).outer = s.outer := by
  unfold State.txWithdraw; split <;> simp -implicitDefEqProofs

@[simp] theorem State.txCommit_outer (s : State) (tag : Nat) : (s.txCommit tag).outer = s.outer := by
  simp -implicitDefEqProofs [State.txCommit]

@[simp] theorem State.excStop_outer (s : State) (p : Nat) : (s.excStop p).outer = s.outer := by
  unfold State.excStop; split <;> simp -implicitDefEqProofs

@[simp] theorem State.excPllLoss_outer (p : Nat) (s : State) : (State.excPllLoss p s).outer = s.outer := by
  dsimp only [State.excPllLoss]; (repeat' split) <;> simp -implicitDefEqProofs

@[simp] theorem State.txSilence_outer (s : State) : s.txSilence.outer = s.outer := by simp -implicitDefEqProofs [State.txSilence]

@[simp] theorem State.epochWrite_outer (s : State) (g : Nat) (w : Word) : (s.epochWrite g w).outer = s.outer := by
  simp -implicitDefEqProofs [State.epochWrite]

@[simp] theorem State.setDownlink_outer (s : State) (d : Downlink) : (s.setDownlink d).outer = s.outer := by
  simp -implicitDefEqProofs [State.setDownlink]

@[simp] theorem State.detour_outer (s0 : State) (d : Downlink) : (s0.detour d).outer = s0.outer := by
  unfold State.detour
  dsimp only
  split
  · simp
  · split
    · next e => obtain rfl := congrArg Prod.snd e; simp -implicitDefEqProofs
    · next e =>
      obtain rfl := congrArg Prod.snd e
      split <;> next e => obtain rfl := congrArg Prod.snd e; simp -implicitDefEqProofs

@[simp] theorem State.planDownlink_outer (s0 : State) (x : Ctx) : (s0.planDownlink x).outer = s0.outer := by
  unfold State.planDownlink
  dsimp only
  (repeat' split) <;> try simp -implicitDefEqProofs
  all_goals next e => obtain rfl := congrArg Prod.snd e; simp -implicitDefEqProofs

@[simp] theorem State.setQueue_outer (s : State) (q : Nat) (l : List SchedEntry) : (s.setQueue q l).outer = s.outer := by
  simp -implicitDefEqProofs [State.setQueue]

@[simp] theorem State.wakeQueue_outer (s : State) (q : Nat) (was : Bool) : (s.wakeQueue q was).outer = s.outer := by
  simp -implicitDefEqProofs [State.wakeQueue]

@[simp] theorem State.append_outer (s : State) (q : Nat) (e : SchedEntry) : (s.append q e).outer = s.outer := by
  simp -implicitDefEqProofs [State.append]

@[simp] theorem State.freshen_outer (s : State) (q : Nat) : (s.freshen q).outer = s.outer := by simp -implicitDefEqProofs [State.freshen]

@[simp] theorem State.push_outer (s : State) (cl q addr len : Nat) : (s.push cl q addr len).outer = s.outer := by
  unfold State.push; split <;> simp -implicitDefEqProofs

@[simp] theorem State.entriesCommit_outer (s : State) (k a : Nat) : (s.entriesCommit k a).outer = s.outer := by
  simp -implicitDefEqProofs [State.entriesCommit]

@[simp] theorem State.entriesDrop_outer (s : State) (k : Nat) : (s.entriesDrop k).outer = s.outer := by
  simp -implicitDefEqProofs [State.entriesDrop]

@[simp] theorem State.schedGo_outer (s : State) : s.schedGo.outer = s.outer := by simp -implicitDefEqProofs [State.schedGo]

@[simp] theorem State.schedHalt_outer (s : State) : s.schedHalt.outer = s.outer := by simp -implicitDefEqProofs [State.schedHalt]

@[simp] theorem State.schedLose_outer (s : State) : s.schedLose.outer = s.outer := by simp -implicitDefEqProofs [State.schedLose]

@[simp] theorem State.unitsRestart_outer (s : State) (n : Nat) : (s.unitsRestart n).outer = s.outer := by
  simp -implicitDefEqProofs [State.unitsRestart]

@[simp] theorem State.mileEnd_outer (s : State) (k result : Nat) (st : Status) : (s.mileEnd k result st).outer = s.outer := by
  dsimp only [State.mileEnd]; (repeat' split) <;> simp -implicitDefEqProofs

@[simp] theorem State.mileAbort_outer (s : State) (k result : Nat) (st : Status) : (s.mileAbort k result st).outer = s.outer := by
  unfold State.mileAbort
  split
  · rfl
  · refine (foldOver_outer _ (fun a t => ?_) _ _).trans (by simp -implicitDefEqProofs)
    split <;> simp -implicitDefEqProofs

@[simp] theorem State.ringWrite_outer (s : State) (o : Nat) (bs : Bytes) : (s.ringWrite o bs).outer = s.outer := by
  induction bs generalizing s o with
  | nil => rfl
  | cons b l ih => exact ih _ _

@[simp] theorem State.jappend_outer (s : State) (b : Bytes) : (s.jappend b).outer = s.outer := by
  simp -implicitDefEqProofs [State.jappend]

@[simp] theorem State.pushRecord_outer (r : RingRec) (s : State) : (State.pushRecord r s).outer = s.outer := by
  dsimp only [State.pushRecord]; (repeat' split) <;> simp -implicitDefEqProofs

@[simp] theorem State.forwardRecords_outer (s : State) : s.forwardRecords.outer = s.outer := by
  simp -implicitDefEqProofs [State.forwardRecords]

@[simp] theorem State.land_outer (k cl : Nat) (a : Action) (s : State) : (State.land k cl a s).outer = s.outer := by
  dsimp only [State.land]; (repeat' split) <;> simp -implicitDefEqProofs

@[simp] theorem State.mileDone_outer (s : State) (k : Nat) : (s.mileDone k).outer = s.outer := by
  simp -implicitDefEqProofs [State.mileDone]

@[simp] theorem State.deliver_outer (x : Nat × Bytes) (s : State) : (State.deliver x s).outer = s.outer := by
  unfold State.deliver; split <;> simp -implicitDefEqProofs

@[simp] theorem State.deliverWaiting_outer (s : State) : s.deliverWaiting.outer = s.outer := by
  simp -implicitDefEqProofs +contextual [State.deliverWaiting]

@[simp] theorem State.deliverFrame_outer (s : State) (b : Bytes) : (s.deliverFrame b).outer = s.outer := by
  simp -implicitDefEqProofs [State.deliverFrame]

@[simp] theorem State.mileCommit_outer (s : State) (k : Nat) : (s.mileCommit k).outer = s.outer := by
  unfold State.mileCommit
  split
  · rfl
  · split
    · rfl
    · split
      · simp -implicitDefEqProofs
      · extract_lets cl app seq0 csn s1 s2 s3 s4 s5 s6 s7
        have h1 : s1.outer = s.outer := foldOver_outer _ (fun a t => by simp -implicitDefEqProofs) _ _
        have h2 : s2.outer = s.outer := by simp -implicitDefEqProofs [s2, h1]
        have h3 : s3.outer = s.outer := (foldOver_outer _ (fun a t => by simp -implicitDefEqProofs) _ _).trans (by simp -implicitDefEqProofs [h2])
        have h4 : s4.outer = s.outer := by simp -implicitDefEqProofs [s4, h3]
        have h5 : s5.outer = s.outer := by simp -implicitDefEqProofs [s5, h4]
        clear_value s1 s2 s3 s4 s5
        have h6 : s6.outer = s.outer := by
          unfold s6
          (repeat' split) <;> simp -implicitDefEqProofs [h5]
        have h7 : s7.outer = s.outer := (foldOver_outer _ (fun a t => by split <;> simp -implicitDefEqProofs) _ _).trans h6
        split <;> simp -implicitDefEqProofs [h7]

@[simp] theorem State.commitNow_outer (s : State) : s.commitNow.outer = s.outer := by
  unfold State.commitNow; split <;> simp -implicitDefEqProofs

@[simp] theorem State.msuWarmReset_outer (s : State) : s.msuWarmReset.outer = s.outer := by simp -implicitDefEqProofs [State.msuWarmReset]

@[simp] theorem State.boundaryOf_outer (s : State) (f : Fld) (n : Nat) : (s.boundaryOf f n).outer = s.outer := by
  unfold State.boundaryOf
  dsimp only
  (repeat' split) <;> rfl

@[simp] theorem State.linkBoundary_outer (s : State) (p : Nat) : (s.linkBoundary p).outer = s.outer := by
  simp -implicitDefEqProofs [State.linkBoundary]

@[simp] theorem State.lpLeaveUp_outer (s : State) (p : Nat) : (s.lpLeaveUp p).outer = s.outer := by
  simp -implicitDefEqProofs [State.lpLeaveUp]

@[simp] theorem State.lpGo_outer (s : State) (p st : Nat) : (s.lpGo p st).outer = s.outer := by simp -implicitDefEqProofs [State.lpGo]

@[simp] theorem State.lpDropJobs_outer (s : State) (p : Nat) : (s.lpDropJobs p).outer = s.outer := by
  simp -implicitDefEqProofs [State.lpDropJobs]

@[simp] theorem State.greet_outer (s : State) (p kind : Nat) : (s.greet p kind).outer = s.outer := by
  simp -implicitDefEqProofs [State.greet]

@[simp] theorem State.lpToDetect_outer (s : State) (p : Nat) (silent : Bool) : (s.lpToDetect p silent).outer = s.outer := by
  simp -implicitDefEqProofs [State.lpToDetect]

@[simp] theorem State.lpStart_outer (p : Nat) (s : State) : (State.lpStart p s).outer = s.outer := by
  simp -implicitDefEqProofs [State.lpStart]

@[simp] theorem State.lpStop_outer (p : Nat) (s : State) : (State.lpStop p s).outer = s.outer := by
  simp -implicitDefEqProofs [State.lpStop]

@[simp] theorem State.lpBeaconEnter_outer (p : Nat) (s : State) : (State.lpBeaconEnter p s).outer = s.outer := by
  simp -implicitDefEqProofs [State.lpBeaconEnter]

@[simp] theorem State.writeSlot_outer (s : State) (nt : Nat) (limit : Option Nat) : (s.writeSlot nt limit).outer = s.outer := by
  unfold State.writeSlot
  dsimp only
  (repeat' split) <;> simp -implicitDefEqProofs

@[simp] theorem State.setExch_outer (s : State) (e : Exch) (b : Bool) : (s.setExch e b).outer = s.outer := by
  simp -implicitDefEqProofs [State.setExch]

@[simp] theorem State.pstate_outer (s : State) : s.pstate.outer = s.outer := by simp -implicitDefEqProofs [State.pstate]

@[simp] theorem State.setCur_outer (s : State) (v : Nat) : (s.setCur v).outer = s.outer := by simp -implicitDefEqProofs [State.setCur]

@[simp] theorem State.userOff_outer (s : State) : s.userOff.outer = s.outer := by
  simp -implicitDefEqProofs [State.userOff]

@[simp] theorem State.userStart_outer (s : State) : s.userStart.outer = s.outer := by simp -implicitDefEqProofs [State.userStart]

@[simp] theorem State.raiseTo_outer (s : State) (v : Nat) : (s.raiseTo v).outer = s.outer := by
  simp -implicitDefEqProofs [State.raiseTo]

@[simp] theorem State.notifyState_outer (s : State) (old : Word) (st : Status) : (s.notifyState old st).outer = s.outer := by
  simp -implicitDefEqProofs [State.notifyState]

@[simp] theorem State.setRest_outer (s : State) (v : Nat) : (s.setRest v).outer = s.outer := by simp -implicitDefEqProofs [State.setRest]

@[simp] theorem State.applyFloor_outer (s : State) : s.applyFloor.outer = s.outer := by
  simp -implicitDefEqProofs [State.applyFloor]

@[simp] theorem State.toFrc_outer (s : State) : s.toFrc.outer = s.outer := by
  simp -implicitDefEqProofs [State.toFrc]

@[simp] theorem State.toPll_outer (s : State) : s.toPll.outer = s.outer := by simp -implicitDefEqProofs [State.toPll]

@[simp] theorem State.setRefGood_outer (s : State) (r : Nat) (b : Bool) : (s.setRefGood r b).outer = s.outer := by
  simp -implicitDefEqProofs [State.setRefGood]

@[simp] theorem State.refSwitch_outer (s : State) (r cls : Nat) : (s.refSwitch r cls).outer = s.outer := by
  simp -implicitDefEqProofs [State.refSwitch]

@[simp] theorem State.refLost_outer (s : State) (r : Nat) : (s.refLost r).outer = s.outer := by simp -implicitDefEqProofs [State.refLost]

@[simp] theorem State.refOk_outer (s : State) (r : Nat) : (s.refOk r).outer = s.outer := by simp -implicitDefEqProofs [State.refOk]

@[simp] theorem State.pllStart_outer (s : State) : s.pllStart.outer = s.outer := by simp -implicitDefEqProofs [State.pllStart]

@[simp] theorem State.pmbVout_outer (s : State) (t : Nat) : (s.pmbVout t).outer = s.outer := by simp -implicitDefEqProofs [State.pmbVout]

@[simp] theorem State.pmbSend_outer (s : State) (t : Nat) : (s.pmbSend t).outer = s.outer := by simp -implicitDefEqProofs [State.pmbSend]

@[simp] theorem State.pmbRequest_outer (s : State) (t : Nat) : (s.pmbRequest t).outer = s.outer := by
  simp -implicitDefEqProofs [State.pmbRequest]

@[simp] theorem State.pmbClear_outer (s : State) : s.pmbClear.outer = s.outer := by simp -implicitDefEqProofs [State.pmbClear]

@[simp] theorem State.pmbMet_outer (s : State) (nack pec : Bool) : (s.pmbMet nack pec).outer = s.outer := by
  simp -implicitDefEqProofs [State.pmbMet]

@[simp] theorem State.entryDrop_outer (s : State) : s.entryDrop.outer = s.outer := by simp -implicitDefEqProofs [State.entryDrop]

@[simp] theorem State.regionLoad_outer (s : State) : s.regionLoad.outer = s.outer := by simp -implicitDefEqProofs [State.regionLoad]

@[simp] theorem State.fusesAct_outer (old s : State) : (old.fusesAct s).outer = s.outer := by simp -implicitDefEqProofs [State.fusesAct]

@[simp] theorem State.otpCut_outer (s : State) : s.otpCut.outer = s.outer := by simp -implicitDefEqProofs [State.otpCut]

@[simp] theorem State.workEnds_outer (s : State) : s.workEnds.outer = s.outer := by
  simp -implicitDefEqProofs [State.workEnds]

@[simp] theorem State.ctlCoreLost_outer (s : State) : s.ctlCoreLost.outer = s.outer := by simp -implicitDefEqProofs [State.ctlCoreLost]

@[simp] theorem State.backupAfter_outer (s : State) : s.backupAfter.outer = s.outer := by simp -implicitDefEqProofs [State.backupAfter]

/-- The reset state with what outlives every domain but the backup domain: that domain, the flash and OTP arrays, and what lies outside the
device. -/
def State.onlyBackup (s : State) : State :=
  { State.reset with
    cyc := s.cyc, free := s.free, pending := s.pending, vinLow := s.vinLow, rtc := s.rtc, regs := s.keepRegs isBackup,
    mem := Tab.keep s.mem fun k _ => decide (flashBase ≤ k ∧ k < 0x0A000000),
    flc := s.flc.afterReset, otp := { s.otp with run := none }, rf := { temp := s.rf.temp },
    ctl := { quiet := s.ctl.quiet, recent := s.ctl.recent, errs := s.ctl.errs },
    core := { debug := s.core.debug, lost := List.range 24 },
    pwr := { vbak := s.pwr.vbak, digest := s.pwr.digest, unsealed := s.pwr.unsealed, config := s.pwr.config, env := s.pwr.env,
             pinLow := s.pwr.pinLow, pinFlush := s.pwr.pinFlush, busLow := s.pwr.busLow, configAt := s.pwr.configAt,
             refSeen := s.pwr.refSeen, refDown := s.pwr.refDown } }

theorem State.powerDown_eq (s : State) : s.powerDown = s.workEnds.onlyBackup.backupAfter := by rfl

theorem State.onlyBackup_outer (s : State) : s.onlyBackup.outer = s.outer :=
  State.outer_of_keepRegs (fun _ h => h) (by rfl) (by rfl) (by rfl) (by rfl)

@[simp] theorem State.powerDown_outer (s : State) : s.powerDown.outer = s.outer := by
  rw [State.powerDown_eq, State.backupAfter_outer, State.onlyBackup_outer, State.workEnds_outer]

@[simp] theorem State.coldReset_outer (s : State) {r : RegName} (time : r ≠ .RTC_TIME) (date : r ≠ .RTC_DATE) (bkp : r ≠ .RTC_BKP)
    (hi lo : Nat) : (s.coldReset ⟨r, hi, lo⟩).outer = s.outer := by
  simp -implicitDefEqProofs [State.coldReset, time, date, bkp]

@[simp] theorem State.warmFields_outer (old s : State) : (old.warmFields s).outer = s.outer := by
  simp -implicitDefEqProofs [State.warmFields]

/-- A register file that keeps the backup domain, in any other surroundings. -/
theorem State.withKept_outer (d : State) {s : State} (h : d.outer = s.outer) {p : RegName → Bool} (hp : ∀ r, isBackup r = true → p r = true)
    (mem : List Host.Cell) (err : ErrState) (sram : SramState) (msu : MsuState) :
    ({ d with regs := s.keepRegs p, mem := mem, err := err, sram := sram, msu := msu } : State).outer = s.outer :=
  State.outer_of_keepRegs hp rfl (State.configAt_of_outer (t := d) h) (State.pinLow_of_outer (t := d) h) (State.rtc_of_outer (t := d) h)

theorem setFlds_outer (v : Nat) (l : List Fld) (h : ∀ f ∈ l, ¬f.reg.isClock) (t : State) :
    (foldOver (fun (f : Fld) (u : State) => u.setFld f v) l t).outer = t.outer := by
  induction l generalizing t with
  | nil => rfl
  | cons f l ih =>
    have hf := h f (by simp)
    simp only [RegName.isClock, not_or] at hf
    obtain ⟨time, date, bkp⟩ := hf
    rw [foldOver_cons, ih fun g hg => h g (by simp [hg])]
    exact State.setFld_outer t time date bkp _ _ _ _

theorem isWarm_of_isBackup (r : RegName) (h : isBackup r = true) : isWarm r = true := by simp [isWarm, h]

theorem State.warmReset_outer (s0 : State) {causes : List Fld} (h : ∀ f ∈ causes, ¬f.reg.isClock) :
    (s0.warmReset causes).outer = s0.outer := by
  unfold State.warmReset
  extract_lets s1 due kept s2 s d t t1
  have h1 : s1.outer = s0.outer := by simp -implicitDefEqProofs [s1]
  have h2 : s2.outer = s1.outer := by simp -implicitDefEqProofs [s2]
  have hs : s.outer = s2.outer := by simp -implicitDefEqProofs [s]
  have hd : d.outer = s.outer := by simp -implicitDefEqProofs [d, hs]
  have ht : t.outer = s.outer := State.withKept_outer d hd isWarm_of_isBackup _ _ _ _
  have h1' : t1.outer = t.outer := by simp -implicitDefEqProofs [t1]
  rw [State.filterCold_outer, setFlds_outer _ _ h, State.setFlag_outer _ (by decide) (by decide) (by decide), h1', ht, hs, h2, h1]

/-- A warm reset for one cause. -/
@[simp] theorem State.warmReset_one_outer (s : State) {r : RegName} (time : r ≠ .RTC_TIME) (date : r ≠ .RTC_DATE) (bkp : r ≠ .RTC_BKP)
    (hi lo : Nat) : (s.warmReset [⟨r, hi, lo⟩]).outer = s.outer :=
  s.warmReset_outer (by simp [time, date, bkp])

@[simp] theorem State.enterRoadside_outer (s0 : State) (cause : Nat) : (s0.enterRoadside cause).outer = s0.outer := by
  unfold State.enterRoadside
  extract_lets s s1 s2 s3 s4 s5 s6 s7 s8
  have hs : s.outer = s0.outer := rfl
  split
  · exact hs
  · have h2 : s2.outer = s0.outer := by simp -implicitDefEqProofs [s2, s1, hs]
    have h3 : s3.outer = s0.outer := by simp -implicitDefEqProofs [s3, h2]
    have h6 : s6.outer = s0.outer := by simp -implicitDefEqProofs [s6, s5, s4, h3]
    simp -implicitDefEqProofs [s8, s7, h6]

@[simp] theorem State.configPut_outer (e : Nat × Word) (s : State) : (State.configPut e s).outer = s.outer := by
  unfold State.configPut
  split
  · rfl
  · rename_i row _
    dsimp only
    split
    · rfl
    · refine State.outer_eq (by rfl) (by rfl) (by rfl) (fun r n h => ?_)
      rw [State.reg_setReg_ite]
      split
      · rename_i at'
        obtain ⟨rfl, rfl⟩ := at'
        have mask : configMask row = 0 := by simp [configMask, RegName.isBackup_of_isClock h]
        rw [mask]
        rw [show ~~~(0 : Word) = BitVec.allOnes 32 from rfl, BitVec.and_allOnes, show (0 : Word) = 0#32 from rfl, BitVec.and_zero, BitVec.or_zero]
      · rfl

@[simp] theorem State.configRestore_outer (s : State) (doze : Bool) : (s.configRestore doze).outer = s.outer := by
  simp -implicitDefEqProofs [State.configRestore]

@[simp] theorem State.dirReads_outer (s : State) : s.dirReads.outer = s.outer := by simp -implicitDefEqProofs [State.dirReads]

@[simp] theorem State.writeDir_outer (s : State) (d : BootDir) : (s.writeDir d).outer = s.outer := by
  simp -implicitDefEqProofs [State.writeDir]

@[simp] theorem State.slotReads_outer (s : State) (d : BootDir) (k : Nat) : (s.slotReads d k).outer = s.outer := by
  simp -implicitDefEqProofs [State.slotReads]

@[simp] theorem State.imageSelect_outer (s : State) : (s.imageSelect).2.outer = s.outer := by
  dsimp only [State.imageSelect]; split <;> simp -implicitDefEqProofs

@[simp] theorem State.bootBit_outer (s : State) {r : RegName} (time : r ≠ .RTC_TIME) (date : r ≠ .RTC_DATE) (bkp : r ≠ .RTC_BKP)
    (hi lo : Nat) (b : Bool) : (s.bootBit ⟨r, hi, lo⟩ b).outer = s.outer := s.setFlag_outer time date bkp hi lo b 0

@[simp] theorem State.bootSram_outer (s : State) : (s.bootSram).2.outer = s.outer := by simp -implicitDefEqProofs [State.bootSram]

@[simp] theorem State.regionCheck_outer (s : State) : s.regionCheck.outer = s.outer := by simp -implicitDefEqProofs [State.regionCheck]

@[simp] theorem State.partLoad_outer (s : State) : s.partLoad.outer = s.outer := by simp -implicitDefEqProofs [State.partLoad]

@[simp] theorem State.nomLost_outer (s : State) : s.nomLost.outer = s.outer := by simp -implicitDefEqProofs [State.nomLost]

@[simp] theorem State.bootVcore_outer (s : State) : (s.bootVcore).2.outer = s.outer := by simp -implicitDefEqProofs [State.bootVcore]

@[simp] theorem State.bootVout_outer (s : State) : (s.bootVout).2.outer = s.outer := by simp -implicitDefEqProofs [State.bootVout]

@[simp] theorem State.bootOtp_outer (s : State) : (s.bootOtp).2.outer = s.outer := by
  rw [State.bootOtp]
  generalize hf : (fun (k : Nat) (t : State) =>
    if fuseDisagrees (t.rowBits 7) k then t.raise 1 0x25 3 (BitVec.ofNat 32 k) else t) = f
  have fuse (k : Nat) (t : State) : (f k t).outer = t.outer := by
    rw [show f k t = if fuseDisagrees (t.rowBits 7) k then t.raise 1 0x25 3 (BitVec.ofNat 32 k) else t by rw [← hf]]
    split
    · exact State.raise_outer ..
    · rfl
  split <;> simp -implicitDefEqProofs [-foldOver_cons, fuse]

@[simp] theorem State.bootImage_outer (s : State) : (s.bootImage).2.outer = s.outer := by
  unfold State.bootImage
  split <;> next e => obtain rfl := congrArg Prod.snd e; simp -implicitDefEqProofs

@[simp] theorem State.bootTables_outer (s : State) : (s.bootTables).2.outer = s.outer := by
  unfold State.bootTables
  extract_lets fail
  have hf (t : State) : (fail t).2.outer = t.outer := by simp -implicitDefEqProofs [fail]
  clear_value fail
  split
  · exact hf _
  · split
    · next s1 e => rw [hf]; obtain rfl := congrArg Prod.snd e; simp -implicitDefEqProofs
    · next g s1 e =>
      have h1 : s1.outer = s.outer := by obtain rfl := congrArg Prod.snd e; simp -implicitDefEqProofs
      split
      · next s2 e => rw [hf]; obtain rfl := congrArg Prod.snd e; simp -implicitDefEqProofs [h1]
      · next p s2 e => obtain rfl := congrArg Prod.snd e; simp -implicitDefEqProofs [h1]

@[simp] theorem State.bootRef_outer (x : Nat × Bool) (s : State) : (State.bootRef x s).outer = s.outer := by
  simp -implicitDefEqProofs [State.bootRef]

@[simp] theorem State.bootPll_outer (s : State) : (s.bootPll).2.outer = s.outer := by simp -implicitDefEqProofs [State.bootPll]

@[simp] theorem State.bootLoops_outer (s : State) : (s.bootLoops).2.outer = s.outer := by
  dsimp only [State.bootLoops]; split <;> simp -implicitDefEqProofs

@[simp] theorem State.firstInstruction_outer (s : State) : s.firstInstruction.outer = s.outer := by
  simp -implicitDefEqProofs [State.firstInstruction]

@[simp] theorem State.notifyReset_outer (s : State) : s.notifyReset.outer = s.outer := by simp -implicitDefEqProofs [State.notifyReset]

@[simp] theorem State.unsealedNote_outer (s : State) : s.unsealedNote.outer = s.outer := by simp -implicitDefEqProofs [State.unsealedNote]

@[simp] theorem State.regionsGrant_outer (s : State) : s.regionsGrant.outer = s.outer := by simp -implicitDefEqProofs [State.regionsGrant]

theorem bootRun_outer (l : List (State → Bool × State)) (s : State) (hl : ∀ f ∈ l, ∀ t : State, (f t).2.outer = t.outer) :
    (bootRun l s).2.outer = s.outer := by
  induction l generalizing s with
  | nil => rfl
  | cons f fs ih =>
    have h1 := hl f (by simp) s
    unfold bootRun
    split
    · next e => rw [e] at h1; rw [ih _ (fun g hg => hl g (by simp [hg])), h1]
    · exact h1

@[simp] theorem State.handOver_outer (r : Bool × State) : (State.handOver r).outer = r.2.outer := by
  obtain ⟨b, s1⟩ := r
  unfold State.handOver
  cases b with
  | true =>
    simp only
    split
    · simp -implicitDefEqProofs
    · split <;> simp -implicitDefEqProofs
  | false => simp -implicitDefEqProofs

theorem bootSteps_outer : ∀ f ∈ bootSteps, ∀ t : State, (f t).2.outer = t.outer := by
  simp -implicitDefEqProofs [bootSteps]

@[simp] theorem State.boot_outer (s0 : State) : s0.boot.outer = s0.outer := by
  have h : ((s0.onOtp fun o => { o with secure := fuseMaj (s0.rowBits 7) 0 }).unsealedNote).outer = s0.outer := by
    simp -implicitDefEqProofs
  rw [State.boot]
  generalize ((s0.onOtp fun o => { o with secure := fuseMaj (s0.rowBits 7) 0 }).unsealedNote) = s at h ⊢
  rw [← h]
  split
  · simp -implicitDefEqProofs [bootRun_outer _ _ bootSteps_outer]
  · next k _ =>
    have h1 : (bootRun (bootSteps.take (k - 1)) s).2.outer = s.outer :=
      bootRun_outer _ _ fun f hf => bootSteps_outer f (List.mem_of_mem_take hf)
    split
    · next s1 e =>
      have h2 : s1.outer = s.outer := by rw [e] at h1; exact h1
      simp -implicitDefEqProofs [bootRun_outer _ _ bootSteps_outer, h2]
    · simp -implicitDefEqProofs [h1]

@[simp] theorem State.releaseOrWait_outer (s : State) : s.releaseOrWait.outer = s.outer := by
  simp -implicitDefEqProofs [State.releaseOrWait]

@[simp] theorem State.wakeDoze_outer (s : State) (e : Exch) : (s.wakeDoze e).outer = s.outer := by
  simp -implicitDefEqProofs [State.wakeDoze]

@[simp] theorem State.wakeHib_outer (s : State) (e : Exch) : (s.wakeHib e).outer = s.outer := by
  unfold State.wakeHib
  split
  · rfl
  · extract_lets s1 s2
    have h1 : s1.outer = s.outer := s.coldReset_outer (by decide) (by decide) (by decide) _ _
    clear_value s1
    have h2 : s2.outer = s1.outer := by simp -implicitDefEqProofs [s2]
    clear_value s2
    rw [State.releaseOrWait_outer, State.onPwr_outer _ _ (fun _ => by rfl) (fun _ => by rfl), h2, h1]

end Sys2Proof.Machine
end

section
/-! Which reset each source causes (R79, R99, R109, R110, R152, R493). -/

namespace Sys2Proof.Machine

/-! ### What the sources of a reset leave -/

theorem State.ctlCoreLost_pwr (s : State) : s.ctlCoreLost.pwr = s.pwr := by
  unfold State.ctlCoreLost; split <;> simp

theorem State.reg_ctlCoreLost (s : State) {r : RegName} (h : r ≠ .CTL_STAT) (n : Nat) : s.ctlCoreLost.reg r n = s.reg r n := by
  unfold State.ctlCoreLost; split <;> simp [State.reg_setFld_ite, h]

theorem State.backupLost_pwr (s : State) : s.backupLost.pwr = { s.pwr with vbak := false, digest := [] } := by
  rw [State.backupLost, State.frontEnd, State.ctlCoreLost_pwr]
  simp

theorem State.reg_backupLost (s : State) {r : RegName} (h : r ≠ .CTL_STAT) (n : Nat) : s.backupLost.reg r n = regReset r n := by
  rw [State.backupLost, State.frontEnd, State.reg_ctlCoreLost _ h, State.reg_congr (State.onCtl_regs _ _), State.reg_setFld_ite,
    if_neg (fun e => h e.1), State.reg_setFld_ite, if_neg (fun e => h e.1), State.reg_of_regs_nil _ rfl]

theorem State.coldReset_pinLow (s : State) (f : Fld) (hf : ¬f.reg.isClock) : (s.coldReset f).pwr.pinLow = s.pwr.pinLow := by
  simp only [RegName.isClock, not_or] at hf
  obtain ⟨time, date, bkp⟩ := hf
  exact State.pinLow_of_outer (s.coldReset_outer time date bkp f.hi f.lo)

/-- The state in which valid supplies find the device (R79, R99). -/
def State.supplied (s : State) (e : BootEnv) : State :=
  (({ s with vinLow := false } : State).onPwr fun p => { p with busLow := false, refSeen := [], refDown := [] }).setEnv e

/-- What the power-on reset leaves before its release (R79, R109). -/
def State.poweredOn (s : State) (e : BootEnv) : State :=
  ((if e.vbak then s.supplied e else (s.supplied e).backupLost).coldReset F.SYSCTL_RSTCAUSE_POR).onPwr fun p => { p with vbak := e.vbak }

theorem State.powerOn_of_not_held (s : State) (e : BootEnv) (h : s.pwr.held = false) : s.powerOn e = (s.poweredOn e).releaseOrWait := by
  rw [State.powerOn, if_neg (by simp [h])]
  rfl

theorem State.poweredOn_pinLow (s : State) (e : BootEnv) : (s.poweredOn e).pwr.pinLow = s.pwr.pinLow := by
  have present (d : State) (b : Bool) : (d.onPwr fun p => { p with vbak := b }).pwr.pinLow = d.pwr.pinLow := rfl
  have supplied : (if e.vbak then s.supplied e else (s.supplied e).backupLost).pwr.pinLow = s.pwr.pinLow := by
    split
    · rfl
    · rw [State.backupLost_pwr]; rfl
  exact (present _ _).trans ((State.coldReset_pinLow _ _ (by decide)).trans supplied)

/-- With NRESET_IN high, the release of the power-on reset starts the boot (R79). -/
theorem State.releaseOrWait_of_high (s : State) (h : s.pwr.pinLow = false) : s.releaseOrWait = s.boot := by simp [State.releaseOrWait, h]

theorem State.releaseOrWait_of_low (s : State) (h : s.pwr.pinLow = true) : s.releaseOrWait = s.onPwr fun p => { p with pinWait := true } := by
  simp [State.releaseOrWait, h]

theorem State.brownOut_of_on (s : State) (n : Nat) (level : s.level < 3) (off : s.pwr.off = false) (held : s.pwr.held = false)
    (flush : s.pwr.flush = none) :
    s.brownOut n = (s.coldReset F.SYSCTL_RSTCAUSE_BOR).onPwr fun p => { p with held := true, pinWait := false } := by
  unfold State.brownOut
  rw [if_neg (by simp [off, held]; omega), flush]
  simp [State.onPwr]

theorem State.busAbove_low (s : State) (e : BootEnv) (level : Nat) (h : level ≤ s.releaseLevel) :
    s.busAbove e level = s.onPwr fun p => { p with busLow := decide (level < s.releaseLevel) } := by
  rw [State.busAbove, if_neg (by omega)]

theorem State.busAbove_high (s : State) (e : BootEnv) (level : Nat) (h : level > s.releaseLevel) : s.busAbove e level = s.busRecovery e := by
  rw [State.busAbove, if_pos h]

/-- The state in which the bus has recovered (R99). -/
def State.busUp (s : State) : State := ({ s with vinLow := false } : State).onPwr fun p => { p with busLow := false }

/-- What the recovery of the bus does for a port (R64). -/
def State.portBack (p : Nat) (t : State) : State := if t.portEnabled p && (t.exc p).isNone then t.pinsBack p else t

theorem State.busRecovery_of_running (s : State) (e : BootEnv) (h : s.pwr.parked = false) :
    s.busRecovery e = foldOver State.portBack [0, 1] s.busUp := by
  rw [State.busRecovery, if_pos (by simp [State.onPwr, h])]
  rfl

theorem State.busRecovery_of_parked (s : State) (e : BootEnv) (h : s.pwr.parked = true) :
    s.busRecovery e = (((s.busUp.setEnv e).coldReset (if s.pwr.off then F.SYSCTL_RSTCAUSE_POR else F.SYSCTL_RSTCAUSE_HIB_WAKE)).onPwr
      fun p => { p with after := .recover }).releaseOrWait := by
  rw [State.busRecovery, if_neg (by simp [State.onPwr, h])]
  rfl

/-- The pins of a port are the transmit path's alone. -/
theorem State.portBack_eq (p : Nat) (s : State) : State.portBack p s = { s with txp := { s.txp with
    pins := (State.portBack p s).txp.pins, bias := (State.portBack p s).txp.bias, driver := (State.portBack p s).txp.driver } } := by
  unfold State.portBack State.pinsBack State.pinsRx State.pinsSafe
  (repeat' split) <;> rfl

theorem State.portBack_pins_of_ne (s : State) {p k : Nat} (h : k ≠ p) :
    Tab.getD (State.portBack p s).txp.pins k 0 = Tab.getD s.txp.pins k 0 := by
  have set (a b : Nat) (c : Bool) : Tab.getD (s.setPins p a b c).txp.pins k 0 = Tab.getD s.txp.pins k 0 := Tab.getD_putD_of_ne _ _ _ _ _ _ h
  unfold State.portBack State.pinsBack State.pinsRx State.pinsSafe
  (repeat' split) <;> simp [set]

/-- An enabled port without an excursion shows RXPINS again (R64, R206). -/
theorem State.portBack_pins (s : State) {p : Nat} (vin : s.vinLow = false) (road : s.inRoadside = false) (on : s.portEnabled p = true)
    (idle : s.exc p = none) : Tab.getD (State.portBack p s).txp.pins p 0 = s.fld F.TXP_FEMCFG_RXPINS p := by
  have low : ¬(s.vinLow || s.inRoadside) = true := by simp [vin, road]
  rw [State.portBack, if_pos (by simp [on, idle]), State.pinsBack, if_neg low, State.pinsRx, if_pos on]
  dsimp only [State.setPins, State.onTxp]
  rw [if_neg low, Tab.getD_putD_self]

/-- The recovery of the bus gives each enabled port without an excursion its receive level back. -/
theorem State.busRecovery_pins (s : State) (e : BootEnv) (parked : s.pwr.parked = false) {p : Nat} (hp : p < 2) (road : s.inRoadside = false)
    (on : s.portEnabled p = true) (idle : s.exc p = none) :
    Tab.getD (s.busRecovery e).txp.pins p 0 = s.fld F.TXP_FEMCFG_RXPINS p := by
  have other := State.portBack_eq 0 s.busUp
  have regs : (State.portBack 0 s.busUp).regs = s.regs := by rw [other]; rfl
  rw [s.busRecovery_of_running e parked, foldOver_cons, foldOver_cons, foldOver_nil]
  rcases (by omega : p = 0 ∨ p = 1) with rfl | rfl
  · rw [State.portBack_pins_of_ne _ (by decide)]
    exact s.busUp.portBack_pins rfl road on idle
  · rw [State.portBack_pins (p := 1)]
    · rw [State.fld, State.reg_congr regs]; rfl
    · rw [other]; rfl
    · rw [other]; exact road
    · rw [State.portEnabled, State.flag, State.fld, State.reg_congr regs]; exact on
    · rw [other]; exact idle

theorem State.busRecovery_idle (s : State) (e : BootEnv) (parked : s.pwr.parked = false) (p0 : s.portEnabled 0 = false)
    (p1 : s.portEnabled 1 = false) : s.busRecovery e = s.busUp := by
  have off (p : Nat) (h : s.portEnabled p = false) : State.portBack p s.busUp = s.busUp := by
    rw [State.portBack, if_neg]
    rw [show s.busUp.portEnabled p = s.portEnabled p from rfl, h]
    simp
  rw [s.busRecovery_of_running e parked, foldOver_cons, off 0 p0, foldOver_cons, off 1 p1, foldOver_nil]

/-- The restart after a park, with NRESET_IN high (R105, R106). -/
theorem State.busRecovery_restart (s : State) (e : BootEnv) (parked : s.pwr.parked = true) (pin : s.pwr.pinLow = false) :
    s.busRecovery e = (((s.busUp.setEnv e).coldReset (if s.pwr.off then F.SYSCTL_RSTCAUSE_POR else F.SYSCTL_RSTCAUSE_HIB_WAKE)).onPwr
      fun p => { p with after := .recover }).boot := by
  have cause : ¬(if s.pwr.off then F.SYSCTL_RSTCAUSE_POR else F.SYSCTL_RSTCAUSE_HIB_WAKE).reg.isClock := by split <;> decide
  have high := (State.coldReset_pinLow (s.busUp.setEnv e) _ cause).trans pin
  refine (s.busRecovery_of_parked e parked).trans (State.releaseOrWait_of_high _ ?_)
  rw [State.onPwr_pwr]
  exact high

/-! ### NRESET_IN and writes of RSTCTL -/

/-- The state in which NRESET_IN has fallen outside a flush. -/
def State.pinDown (s : State) : State := s.onPwr fun p => { p with pinLow := true, pinFlush := false }

theorem State.pinFall_of_resets (s : State) (e : BootEnv) (h : s.pinResets = true) (flush : s.pwr.flush = none) :
    s.pinFall e = if !s.err.held.isEmpty then s.pinDown.setFld F.SYSCTL_RSTCAUSE_PIN 1
      else (s.pinDown.setEnv e).warmBoot [F.SYSCTL_RSTCAUSE_PIN] := by
  have down : (s.onPwr fun p => { p with pinLow := true, pinFlush := p.flush.isSome }) = s.pinDown := by
    simp [State.onPwr, State.pinDown, flush]
  unfold State.pinFall
  rw [down, h]
  simp [State.setEnvIf, State.flushing, flush]

/-- An initiator with the rights of CL0 writes any register while the system domain is on (R39). -/
theorem State.regCmd_cl0 (s : State) (who : Nat) (r : RegName) (n : Nat) (w : Word) (on : s.sysOn = true) (h : s.rights who = [0]) :
    s.regCmd who r n w = s.writeReg 0 r n w := by
  rw [State.regCmd, if_neg (by simp [on]), s.regRight_cl0 who r n true h]

theorem State.writeReg_rstctl (s : State) (cl n : Nat) (w : Word) : s.writeReg cl .SYSCTL_RSTCTL n w = s.rstctlWrite w := by
  rw [State.writeReg, if_pos (by decide)]
  rfl

theorem State.rstctlWrite_soft (s : State) (on : s.sysOn = true) (flush : s.flushing = false) :
    s.rstctlWrite 0xC0DE0001#32 = s.warmBoot [F.SYSCTL_RSTCAUSE_SOFT] := by
  rw [State.rstctlWrite, if_neg (by decide), if_pos (by decide), if_pos (by simp [State.resettable, on, flush])]

/-- A write of RSTCTL with the bits of the clusters (R109). -/
theorem State.rstctlWrite_clusters (s : State) (cl1 cl2 : Bool) :
    s.rstctlWrite (0xC0DE0000#32 + BitVec.ofNat 32 (2 * b2n cl1 + 4 * b2n cl2)) =
      (let s1 := if cl1 then s.clusterReset 1 else s
      if cl2 then s1.clusterReset 2 else s1) := by
  have bits' : ∀ cl1 cl2 : Bool, let w := (0xC0DE0000#32 + BitVec.ofNat 32 (2 * b2n cl1 + 4 * b2n cl2)).toNat
      bits w 31 16 = 0xC0DE ∧ bit w 0 = false ∧ bit w 1 = cl1 ∧ bit w 2 = cl2 := by decide
  obtain ⟨key, soft, one, two⟩ := bits' cl1 cl2
  rw [State.rstctlWrite, if_neg (not_not.mpr key), soft, one, two, if_neg (by decide)]

/-! ### Watchdogs -/

/-- What an expiry logs before its reset (R493). -/
def State.wdtLogged (s : State) (w : Nat) : State := (s.raise 2 0x23 w).onErr fun e => { e with wdtDue := e.wdtDue.filter (· != w) }

theorem State.wdtExpire_due (s : State) (w : Nat) (on : s.sysOn = true) (due : w ∈ s.err.wdtDue) : s.wdtExpire w = s.wdtFire w := by
  rw [State.wdtExpire, if_pos (by simp [on, due])]

theorem State.wdtExpire_not_due (s : State) (w : Nat) (due : w ∉ s.err.wdtDue) : s.wdtExpire w = s := by
  rw [State.wdtExpire, if_neg (by simp [due])]

theorem State.wdtFire_cluster (s : State) {w : Nat} (hw : 2 ≤ w) : s.wdtFire w =
    ((s.wdtLogged w).setFld (if w = 2 then F.SYSCTL_RSTCAUSE_CL1_WDT else F.SYSCTL_RSTCAUSE_CL2_WDT) 1).clusterReset (w - 1) := by
  rw [State.wdtFire, if_pos hw]
  rfl

theorem State.wdtFire_warm (s : State) {w : Nat} (hw : w < 2) (free : (s.wdtLogged w).resetHeld = false) :
    s.wdtFire w = (s.wdtLogged w).consecUp.warmBoot [F.SYSCTL_RSTCAUSE_WDT] := by
  rw [State.wdtFire, if_neg (by omega)]
  exact if_neg (by rw [← State.wdtLogged, free]; decide)

/-- The reset held: the cores of the scope stop, and the watchdog stands among those that hold one (R493). -/
theorem State.wdtFire_held (s : State) {w : Nat} (hw : w < 2) (busy : (s.wdtLogged w).resetHeld = true) :
    s.wdtFire w = ((((foldOver (fun (c : Nat) (t : State) => t.halt c) (wdtScope w) (s.wdtLogged w)).setFld F.ERR_WDT_STAT_HELD 1 w).setFld
      F.SYSCTL_RSTCAUSE_WDT 1).onErr fun e => { e with held := if e.held.contains w then e.held else e.held ++ [w] }) := by
  rw [State.wdtFire, if_neg (by omega)]
  exact if_pos busy

theorem mem_held (l : List Nat) (w : Nat) : w ∈ if l.contains w then l else l ++ [w] := by
  split
  · rename_i h; simpa using h
  · simp

theorem State.wdtFire_held_facts (s : State) {w : Nat} (hw : w < 2) (busy : (s.wdtLogged w).resetHeld = true) :
    w ∈ (s.wdtFire w).err.held ∧ (s.wdtFire w).flag F.SYSCTL_RSTCAUSE_WDT = true ∧ (s.wdtFire w).mem = s.mem := by
  rw [s.wdtFire_held hw busy]
  refine ⟨mem_held _ w, ?flag, ?mem⟩
  case flag =>
    have := State.fld_setFld ((foldOver (fun (c : Nat) (t : State) => t.halt c) (wdtScope w) (s.wdtLogged w)).setFld F.ERR_WDT_STAT_HELD 1 w)
      F.SYSCTL_RSTCAUSE_WDT 1 0 (by decide) (by decide)
    exact bne_iff_ne.mpr (ne_of_eq_of_ne this (by decide))
  case mem =>
    have halted (l : List Nat) (t : State) : (foldOver (fun (c : Nat) (t : State) => t.halt c) l t).mem = t.mem :=
      foldOver_mem (fun (c : Nat) (t : State) => t.halt c) (fun _ _ => rfl) _ _
    rw [State.onErr_mem, State.setFld_mem, State.setFld_mem, halted]
    exact State.raise_mem s 2 0x23 w 0

/-! ### The loss of the supplies -/

theorem State.supplyLoss_eq (s : State) (b : Bool) :
    s.supplyLoss b =
      (if b then (s.powerDown.onPwr fun p => { p with off := true, parked := false, vbak := s.pwr.vbak && !b }).backupLost
        else s.powerDown.onPwr fun p => { p with off := true, parked := false, vbak := s.pwr.vbak && !b }).setReg .SYSCTL_LMSTAT 0 0 := by
  rw [State.supplyLoss]

theorem State.supplyLoss_kept (s : State) : (s.supplyLoss false).pwr.off = true ∧ (s.supplyLoss false).pwr.vbak = s.pwr.vbak
    ∧ ∀ n, (s.supplyLoss false).reg .RTC_BKP n = s.reg .RTC_BKP n := by
  have kept (n : Nat) : s.powerDown.reg .RTC_BKP n = s.reg .RTC_BKP n := State.reg_of_outer s.powerDown_outer (.inr (.inr rfl)) n
  rw [State.supplyLoss_eq, if_neg (by decide), State.setReg_pwr, State.onPwr_pwr]
  refine ⟨rfl, Bool.and_true _, fun n => ?_⟩
  rw [State.reg_setReg_of_ne _ _ _ _ _ _ (.inl (by decide)), State.reg_congr (State.onPwr_regs _ _), kept]

theorem State.supplyLoss_lost (s : State) : (s.supplyLoss true).pwr.off = true ∧ (s.supplyLoss true).pwr.vbak = false
    ∧ ∀ n, (s.supplyLoss true).reg .RTC_BKP n = regReset .RTC_BKP n := by
  rw [State.supplyLoss_eq, if_pos rfl, State.setReg_pwr, State.backupLost_pwr, State.onPwr_pwr]
  refine ⟨rfl, rfl, fun n => ?_⟩
  rw [State.reg_setReg_of_ne _ _ _ _ _ _ (.inl (by decide)), State.reg_backupLost _ (by decide) n]

/-! ### The commands -/

theorem exec_powerOnReset (e : BootEnv) (s : State) : exec (.powerOnReset e) s = .next (s.powerOn e).done := by rfl
theorem exec_brownOut (n : Half) (s : State) : exec (.brownOut n) s = .next (s.brownOut n.toNat).done := by rfl
theorem exec_busRecoveryRestart (l : Byte) (e : BootEnv) (s : State) :
    exec (.busRecoveryRestart ⟨l, e⟩) s = .next (s.busAbove e l.toNat).done := by rfl
theorem exec_nresetInAssert (e : BootEnv) (s : State) : exec (.nresetInAssert e) s = .next (s.pinFall e).done := by rfl
theorem exec_nresetInRelease (e : BootEnv) (s : State) : exec (.nresetInRelease e) s = .next (s.pinRise e).done := by rfl
theorem exec_sysReset (who : Who) (e : BootEnv) (s : State) :
    exec (.sysReset who e) s = .next ((s.setEnv e).regCmd who.val .SYSCTL_RSTCTL 0 0xC0DE0001#32).done := by rfl
theorem exec_clusterReset (who : Who) (cl1 cl2 : Bool) (s : State) : exec (.clusterReset who cl1 cl2) s =
    .next (s.regCmd who.val .SYSCTL_RSTCTL 0 (0xC0DE0000#32 + BitVec.ofNat 32 (2 * b2n cl1 + 4 * b2n cl2))).done := by rfl
theorem exec_debugReset (e : BootEnv) (s : State) : exec (.debugReset e) s =
    .next (if s.resettable && s.debugReach 0 then (s.setEnv e).warmBoot [F.SYSCTL_RSTCAUSE_DEBUG] else s).done := by rfl
theorem exec_hcpResetTrigger (e : BootEnv) (s : State) : exec (.hcpResetTrigger e) s = .next (s.hcpReset e).done := by rfl
theorem exec_watchdogExpiry (w : Fin 4) (e : BootEnv) (s : State) :
    exec (.watchdogExpiry w e) s = .next ((s.setEnv e).wdtExpire w.val).done := by rfl
theorem exec_heldResetTaken (e : BootEnv) (s : State) : exec (.heldResetTaken e) s = .next (s.setEnv e).heldReset.done := by rfl
theorem exec_supplyLoss (b : Bool) (s : State) : exec (.supplyLoss b) s = .next (s.supplyLoss b).done := by rfl

/-- Settles O35, source by source. -/
theorem resets : Obligations.Resets := by
  unfold Obligations.Resets
  intro env who n level s ends pinned fresh on up again
  have pinOn := s.poweredOn_pinLow env
  have as (i : Instr) {t u : State} (h : exec i s = .next t.done) (e : t = u) : ends i u := e ▸ h
  refine ⟨?powerOn, ?pinWait, ?brownOut, ?low, ?high, ?release, ?fall, ?fallHeld, ?pinResets, ?warm, ?hcpCluster, ?cluster, ?watchdog, ?notDue, ?held,
    ⟨_, exec_supplyLoss false s, s.supplyLoss_kept⟩, ⟨_, exec_supplyLoss true s, s.supplyLoss_lost⟩⟩
  case powerOn =>
    intro held pin
    exact as _ (exec_powerOnReset env s) ((s.powerOn_of_not_held env held).trans (State.releaseOrWait_of_high _ (pinOn.trans pin)))
  case pinWait =>
    intro held pin
    exact as _ (exec_powerOnReset env s) ((s.powerOn_of_not_held env held).trans (State.releaseOrWait_of_low _ (pinOn.trans pin)))
  case brownOut =>
    intro lvl off held flush
    exact as _ (exec_brownOut n s) (s.brownOut_of_on n.toNat lvl off held flush)
  case low =>
    intro h
    exact as _ (exec_busRecoveryRestart level env s) (s.busAbove_low env _ h)
  case high =>
    intro h
    have restart := exec_busRecoveryRestart level env s
    rw [s.busAbove_high env _ h] at restart
    refine ⟨fun parked p0 p1 => as _ restart (s.busRecovery_idle env parked p0 p1),
      fun parked p hp road on idle => ⟨_, restart, s.busRecovery_pins env parked hp road on idle⟩, fun parked pin => ?_⟩
    have boot := s.busRecovery_restart env parked pin
    refine ⟨fun off => as _ restart (boot.trans ?_), fun off => as _ restart (boot.trans ?_)⟩
    · rw [off, if_neg (by decide)]; rfl
    · rw [off, if_pos rfl]; rfl
  case release =>
    intro wait
    refine ⟨((s.onPwr fun p => { p with pinLow := false, pinFlush := false }).setEnv env).onPwr fun p => { p with pinWait := false }, rfl, rfl, rfl,
      rfl, as _ (exec_nresetInRelease env s) ?_⟩
    rw [State.pinRise, if_pos wait]
  case fall =>
    intro resets held flush
    refine as _ (exec_nresetInAssert env s) ?_
    rw [s.pinFall_of_resets env resets flush, held, if_neg (by decide)]
    rfl
  case fallHeld =>
    intro resets held flush
    refine as _ (exec_nresetInAssert env s) ?_
    rw [s.pinFall_of_resets env resets flush, if_pos (by simpa using held)]
    rfl
  case pinResets =>
    intro lvl off held wait flush
    simp [State.pinResets, lvl, off, held, wait, flush]
  case warm =>
    intro sysOn flush
    have reset : s.resettable = true := by simp [State.resettable, sysOn, flush]
    refine ⟨fun cl0 => as _ (exec_sysReset who env s) ?_, fun reach => as _ (exec_debugReset env s) ?_,
      fun order => as _ (exec_hcpResetTrigger env s) ?_⟩
    · rw [State.regCmd_cl0 (s.setEnv env) _ _ _ _ sysOn cl0, State.writeReg_rstctl, State.rstctlWrite_soft (s.setEnv env) sysOn flush]
      rfl
    · rw [if_pos (by simp [reset, reach])]
      rfl
    · rw [State.hcpReset, order]
      exact if_pos reset
  case hcpCluster =>
    intro k hk order
    refine as _ (exec_hcpResetTrigger env s) ?_
    rw [State.hcpReset, order]
    rcases hk with rfl | rfl <;> rfl
  case cluster =>
    intro sysOn cl0
    have write (cl1 cl2 : Bool) := exec_clusterReset who cl1 cl2 s
    simp only [State.regCmd_cl0 s _ _ _ _ sysOn cl0, State.writeReg_rstctl, State.rstctlWrite_clusters] at write
    exact ⟨write true false, write false true, write true true⟩
  case watchdog =>
    intro w sysOn due u
    have fire := exec_watchdogExpiry w env s
    rw [State.wdtExpire_due (s.setEnv env) w.val sysOn due] at fire
    refine ⟨fun hw free => as _ fire (State.wdtFire_warm _ hw free), fun hw busy => ⟨_, fire, State.wdtFire_held_facts (s.setEnv env) hw busy⟩,
      fun hw => as _ fire ((State.wdtFire_cluster _ hw.ge).trans ?_), fun hw => as _ fire ((State.wdtFire_cluster _ (by omega)).trans ?_)⟩
    · rw [hw, if_pos rfl]; simp only [u, hw]; rfl
    · rw [hw, if_neg (by decide)]; simp only [u, hw]; rfl
  case notDue =>
    intro w due
    exact as _ (exec_watchdogExpiry w env s) (State.wdtExpire_not_due (s.setEnv env) w.val due)
  case held =>
    intro held pulse
    refine as _ (exec_heldResetTaken env s) ?_
    exact if_neg (not_or.mpr ⟨by simpa [State.setEnv] using held, by rw [show (s.setEnv env).pulseRuns = s.pulseRuns from rfl, pulse]; decide⟩)

end Sys2Proof.Machine
end

section
/-! Entries to lower power states, and the end of exchanges (R48, R49, R54 to R56, R95, R96, R124, R156). -/

namespace Sys2Proof.Machine

/-! ### What memory reads once a part of it is lost -/

theorem memDefault_above_flash {a : Nat} (h : 0x0A000000 ≤ a) : memDefault a = 0 := by
  rw [memDefault, if_pos (.inr h)]

theorem State.byte_of_keep {s t : State} {p : Nat → Bool} (h : t.mem = Tab.keep s.mem fun k _ => p k) {a : Nat} (ha : p a = true) :
    t.byte a = s.byte a := by
  rw [State.byte, h, Tab.getD, Tab.find_keep, if_pos ha]; rfl

/-- A byte above the flash that its memory has lost reads 0. -/
theorem byte_of_lost {t : State} {m : List Host.Cell} {p : Nat → Bool} (h : t.mem = Tab.keep m fun k _ => p k) {a : Nat}
    (ha : p a = false) (above : 0x0A000000 ≤ a) : t.byte a = 0 := by
  rw [State.byte, h, Tab.getD, Tab.find_keep, if_neg (by simp [ha]), memDefault_above_flash above]

/-- CL1 and CL2 lose their SRAM with the user domain (R56). -/
theorem State.userOff_byte (s : State) {a : Nat} (h : 0x21080000 ≤ a) (h' : a < 0x21180000) : s.userOff.byte a = 0 := by
  have lost (cl : Nat) (u : State) :
      (State.clusterLose cl u).mem = Tab.keep u.mem fun k _ => decide (k < 0x21000000 + cl * 0x80000 ∨ 0x21000000 + cl * 0x80000 + 0x80000 ≤ k) := by
    rw [State.clusterLose, State.setFld_mem]; rfl
  have last : s.userOff.mem = (State.clusterLose 2 (State.clusterLose 1 s)).mem := rfl
  by_cases h2 : 0x21100000 ≤ a
  · exact byte_of_lost (last.trans (lost 2 _)) (by simp; omega) (by omega)
  · have kept : s.userOff.byte a = (State.clusterLose 1 s).byte a := State.byte_of_keep (last.trans (lost 2 _)) (by simp; omega)
    exact kept.trans (byte_of_lost (lost 1 s) (by simp; omega) (by omega))

/-! ### The current state and the resting state -/

theorem State.cur_congr {s t : State} (h : t.regs = s.regs) : t.cur = s.cur := by
  rw [State.cur, State.fld, State.reg_congr h]; rfl

theorem State.pstate_cur (s : State) : s.pstate.cur = s.cur := s.fld_pstate (by decide)

theorem State.setFld_cur (s : State) (v : Nat) : (s.setFld F.SYSCTL_PSTATE_CUR v).cur = v % 8 :=
  s.fld_setFld F.SYSCTL_PSTATE_CUR v 0 (by decide) (by decide)

theorem State.publish_regs (s : State) (p : Nat) : (s.publish p).regs = s.regs := by rw [State.publish_eq]

theorem State.setCur_cur (s : State) {v : Nat} (h : v < 8) : (s.setCur v).cur = v := by
  have set : (s.setFld F.SYSCTL_PSTATE_CUR v).pstate.cur = v := by rw [State.pstate_cur, State.setFld_cur, Nat.mod_eq_of_lt h]
  unfold State.setCur
  split
  · next e => rw [State.pstate_cur, e]
  · dsimp only
    split
    · rw [State.cur_congr (State.publish_regs _ _), set]
    · exact set

theorem State.pmbRequest_regs (s : State) (t : Nat) :
    (s.pmbRequest t).regs = s.regs ∨ (s.pmbRequest t).regs = (s.setFld F.PMB_STAT_BUSY 1).regs := by
  unfold State.pmbRequest
  split
  · exact .inl rfl
  · exact .inr rfl

theorem State.pmbRequest_cur (s : State) (t : Nat) : (s.pmbRequest t).cur = s.cur := by
  rcases s.pmbRequest_regs t with h | h
  · exact State.cur_congr h
  · rw [State.cur_congr h, State.cur, State.fld_setFld_of_ne _ _ _ _ _ _ (by decide)]; rfl

theorem State.ctlCoreLost_fld (s : State) (f : Fld) (h : f.reg ≠ .CTL_STAT) : s.ctlCoreLost.fld f = s.fld f := by
  rw [State.fld, State.reg_ctlCoreLost _ h]; rfl

/-! ### What the entry leaves -/

/-- An entry to DOZE or HIBERNATE waits while a milestone is open (R54). -/
theorem State.entryClear_of_mile (s : State) (h : s.mileState 0 ≠ 0) : s.entryClear = false := by
  have any : (List.range 64).any (fun k => s.mileState k != 0) = true := List.any_eq_true.2 ⟨0, by decide, by simpa using h⟩
  simp [State.entryClear, any]

theorem State.entryStart_listen (s : State) (level : s.level = 0) (rest : s.restState = 1) (road : s.inRoadside = false)
    (flush : s.pwr.flush = none) (entry : s.pwr.entry = none) (lock : s.pllLocks = true) :
    s.entryStart = ((s.boundary .SYSCTL_SLEEPCFG).userOff.setCur 1).newCycle := by
  rw [State.entryStart, rest, if_neg (by simp [level, road, flush, entry]), if_pos rfl, if_pos lock]

theorem State.entryStart_doze (s : State) (level : s.level ≤ 1) (rest : s.restState = 2) (road : s.inRoadside = false)
    (flush : s.pwr.flush = none) (entry : s.pwr.entry = none) (mile : s.mileState 0 ≠ 0) :
    s.entryStart = { s with pwr := { s.pwr with entry := some 2, ready := false, flushed := false } } := by
  rw [State.entryStart, rest, if_neg (by simp [road, flush, entry]; omega), if_neg (by decide), State.entryGo]
  have busy (f : PwrState → PwrState) : (s.onPwr f).entryClear = false := State.entryClear_of_mile _ mile
  rw [if_neg (by simp [busy])]
  rfl

theorem State.entryGo_doze (s : State) (entry : s.pwr.entry = some 2) (ready : s.pwr.ready = false) (clear : s.entryClear = true)
    (flush : s.pwr.flush = none) : s.entryGo = s.entrySteps := by
  rw [State.entryGo, if_pos (by simp [entry, ready, clear, flush]), if_neg (by simp [entry])]

theorem State.pllStop_off (s : State) :
    s.pllStop.flag F.SYSCTL_CLKCFG_PLL_EN = false ∧ s.pllStop.flag F.SYSCTL_CLKSTAT_PLL_LOCK = false := by
  unfold State.pllStop State.flag
  rw [State.fld_setFld_of_ne _ _ _ _ _ _ (by decide), State.fld_setFld _ _ _ _ (by decide) (by decide),
    State.fld_setFld _ _ _ _ (by decide) (by decide)]
  decide

/-- The steps of an entry leave it ready, with PLL0 off (R95). -/
theorem State.entrySteps_ready (s : State) :
    s.entrySteps.pwr.ready = true ∧ s.entrySteps.flag F.SYSCTL_CLKCFG_PLL_EN = false
      ∧ s.entrySteps.flag F.SYSCTL_CLKSTAT_PLL_LOCK = false := by
  have stopped (u : State) (f : RfState → RfState) (g : SchedState → SchedState) :
      let t := ((u.pllStop.onRf f).onSched g).onPwr fun p => { p with ready := true }
      t.pwr.ready = true ∧ t.flag F.SYSCTL_CLKCFG_PLL_EN = false ∧ t.flag F.SYSCTL_CLKSTAT_PLL_LOCK = false :=
    ⟨rfl, u.pllStop_off⟩
  rw [State.entrySteps]
  exact stopped _ _ _

/-- An entry given up leaves the current state as resting state (R55). -/
theorem State.entryTimeout_given_up (s : State) (entry : s.pwr.entry.isSome = true) (clear : s.entryClear = false) :
    s.entryTimeout.pwr.entry = none ∧ s.entryTimeout.restState = s.cur := by
  have started : ¬(s.pwr.entry.isNone || s.entryClear) = true := by
    rw [Option.isSome_iff_ne_none] at entry; simp [clear, entry]
  rw [State.entryTimeout, if_neg started]
  dsimp only [State.notifyState]
  have told := State.posted_notify ((s.entryDrop.setFld F.SYSCTL_PSTATE_REST s.cur).pstate) 1
    (leBytes 4 (s.reg .SYSCTL_PSTATE).toNat
      ++ leBytes 4 (((s.entryDrop.setFld F.SYSCTL_PSTATE_REST s.cur).pstate).reg .SYSCTL_PSTATE).toNat ++ leBytes 2 Status.stateBusy.code)
  constructor
  · rw [told.pwr, State.pstate, State.setFlag, State.setFld_pwr, State.setFld_pwr, State.setFld_pwr]; rfl
  · rw [State.restState, told.fld, State.fld_pstate _ (by decide), State.fld_setFld _ _ _ _ (by decide) (by decide)]
    exact Nat.mod_eq_of_lt (s.fld_lt F.SYSCTL_PSTATE_CUR 0)

/-! ### The commit points -/

theorem State.newCycle_cur (s : State) : s.newCycle.cur = s.cur := rfl

@[simp] theorem State.newCycle_outer (s : State) : s.newCycle.outer = s.outer := rfl

/-- The addresses that DOZE keeps: the flash, journal SRAM, and the DRAM while it is in self-refresh (R56, R58). -/
def dozeKeeps (dram : Bool) (k : Nat) : Bool :=
  decide ((flashBase ≤ k ∧ k < 0x0A000000) ∨ (0x20400000 ≤ k ∧ k < 0x20440000) ∨ (dram = true ∧ dramBase ≤ k))

theorem dozeKeeps_sram (dram : Bool) {a : Nat} (lo : 0x20000000 ≤ a) (hi : a < 0x20400000) : dozeKeeps dram a = false := by
  have flash : ¬a < 0x0A000000 := by omega
  have journal : ¬0x20400000 ≤ a := by omega
  have outside : ¬dramBase ≤ a := by rw [dramBase]; omega
  simp [dozeKeeps, flash, journal, outside]

theorem State.dozeCommit_kept (s : State) (entry : s.pwr.entry = some 2) (rest : s.restState = 2) (ready : s.pwr.ready = true)
    (clear : s.entryClear = true) (flush : s.pwr.flush = none) :
    s.dozeCommit.cur = 2 ∧ s.dozeCommit.outer = s.outer ∧ ∃ dram, s.dozeCommit.mem = Tab.keep s.mem fun k _ => dozeKeeps dram k := by
  rw [State.dozeCommit, if_neg (by simp [entry, rest, ready, clear, State.flushing, flush])]
  have first : ((s.boundary .SYSCTL_SLEEPCFG).boundaryOf F.LP_WAKECFG_MODE 0).mem = s.mem
      ∧ ((s.boundary .SYSCTL_SLEEPCFG).boundaryOf F.LP_WAKECFG_MODE 0).outer = s.outer := by simp
  generalize (s.boundary .SYSCTL_SLEEPCFG).boundaryOf F.LP_WAKECFG_MODE 0 = b at first ⊢
  obtain ⟨mem, outer⟩ := first
  extract_lets s' kept p d m pw ct t u t1
  have ht : t.outer = b.outer :=
    State.outer_of_keepRegs (p := p) (fun r h => by simp [p, isDoze, h]) (by rfl) (by rfl) (by rfl) (by rfl)
  have ht' : t.mem = Tab.keep b.mem fun k _ => dozeKeeps kept k := by rfl
  clear_value t
  have hu : u.outer = t.outer ∧ u.mem = t.mem := by simp [u, foldOver_cons, foldOver_nil]
  clear_value u
  have h1 : t1.outer = u.outer ∧ t1.mem = u.mem ∧ t1.cur = 2 := by
    simp [t1, State.setFld_cur, apply_ite State.mem]
  clear_value t1
  have last : (t1.ctlCoreLost.onCtl fun c => { c with session := none, auth := none }).cur = t1.cur := t1.ctlCoreLost_fld _ (by decide)
  refine ⟨?_, ?_, kept, ?_⟩
  · rw [State.newCycle_cur, State.pmbRequest_cur, State.pstate_cur, last, h1.2.2]
  · simp [h1.1, hu.1, ht, outer]
  · simp [h1.2.1, hu.2, ht', mem]

theorem State.onlyBackup_mem (s : State) : s.onlyBackup.mem = Tab.keep s.mem fun k _ => decide (flashBase ≤ k ∧ k < 0x0A000000) := rfl

theorem State.powerDown_mem (s : State) :
    s.powerDown.mem = Tab.keep s.workEnds.mem fun k _ => decide (flashBase ≤ k ∧ k < 0x0A000000) := by
  rw [State.powerDown_eq, State.backupAfter_mem, State.onlyBackup_mem]

/-- What HIBERNATE keeps beside the backup domain (R37, R96, R216). -/
def State.keptInHib (s d : State) : State :=
  let wur := s.flag F.SYSCTL_SLEEPCFG_WURX_HIB
  { d with
    regs := s.keepRegs fun r => isBackup r || r == .WUR_CFG || (wur && [.SYSCTL_SLEEPCFG, .WUR_STAT, .WUR_LAST].contains r),
    rf := { d.rf with role := if wur then s.rf.role else 0 }, txp := { lastWake := if wur then s.txp.lastWake else none },
    pwr := { d.pwr with gpioLatch := s.gpioLevels } }

theorem State.keptInHib_mem (s d : State) : (s.keptInHib d).mem = d.mem := rfl

theorem State.keptInHib_outer {s d : State} (h : d.outer = s.outer) : (s.keptInHib d).outer = s.outer :=
  State.outer_of_keepRegs (p := fun r => isBackup r || r == .WUR_CFG
      || (s.flag F.SYSCTL_SLEEPCFG_WURX_HIB && [.SYSCTL_SLEEPCFG, .WUR_STAT, .WUR_LAST].contains r)) (fun r h => by simp [h]) rfl
    (State.configAt_of_outer (t := d) h) (State.pinLow_of_outer (t := d) h) (State.rtc_of_outer (t := d) h)

theorem State.hibernated (v : State) :
    let t := ((v.setFld F.SYSCTL_PSTATE_CUR 3).setFld F.SYSCTL_PSTATE_REST 3).newCycle
    t.cur = 3 ∧ t.restState = 3 ∧ t.outer = v.outer ∧ t.mem = v.mem := by
  have cur : ((v.setFld F.SYSCTL_PSTATE_CUR 3).setFld F.SYSCTL_PSTATE_REST 3).cur = 3 :=
    (State.fld_setFld_of_disjoint _ _ _ _ _ _ (by decide) (by decide)).trans (v.setFld_cur 3)
  have rest : ((v.setFld F.SYSCTL_PSTATE_CUR 3).setFld F.SYSCTL_PSTATE_REST 3).restState = 3 :=
    State.fld_setFld _ _ _ _ (by decide) (by decide)
  exact ⟨cur, rest, by simp, by simp⟩

theorem State.hibCommit_eq (s : State) (entry : s.pwr.entry = some 3) (rest : s.restState = 3) (ready : s.pwr.ready = true)
    (clear : s.entryClear = true) (flush : s.pwr.flush = none) (journal : s.journalDirty = false) :
    s.hibCommit = (((((s.boundary .SYSCTL_SLEEPCFG).keptInHib (s.boundary .SYSCTL_SLEEPCFG).powerDown).backupAfter).setFld
      F.SYSCTL_PSTATE_CUR 3).setFld F.SYSCTL_PSTATE_REST 3).newCycle := by
  rw [State.hibCommit, if_neg (by simp [entry, rest, ready, clear, State.flushing, flush, journal])]
  rfl

/-- HIBERNATE keeps the backup registers and the flash (R56, R96). -/
theorem State.hibCommit_kept (s : State) (entry : s.pwr.entry = some 3) (rest : s.restState = 3) (ready : s.pwr.ready = true)
    (clear : s.entryClear = true) (flush : s.pwr.flush = none) (journal : s.journalDirty = false) :
    s.hibCommit.cur = 3 ∧ s.hibCommit.restState = 3 ∧ s.hibCommit.outer = s.outer
      ∧ ∃ m, s.hibCommit.mem = Tab.keep m fun k _ => decide (flashBase ≤ k ∧ k < 0x0A000000) := by
  rw [s.hibCommit_eq entry rest ready clear flush journal]
  obtain ⟨cur, rest', outer, mem⟩ := (((s.boundary .SYSCTL_SLEEPCFG).keptInHib (s.boundary .SYSCTL_SLEEPCFG).powerDown).backupAfter).hibernated
  rw [State.backupAfter_outer, State.keptInHib_outer (State.powerDown_outer _), State.boundary_outer] at outer
  rw [State.backupAfter_mem, State.keptInHib_mem, State.powerDown_mem] at mem
  exact ⟨cur, rest', outer, _, mem⟩

/-! ### The beacon -/

theorem leBytes_length (n v : Nat) : (leBytes n v).length = n := by
  induction n generalizing v with
  | zero => rfl
  | succ n ih => simp [leBytes, ih]

theorem State.beaconBytes_length (s : State) : s.beaconBytes.length ≤ 120 := by
  have uid : s.uid.length ≤ 7 := List.length_take_le _ _
  simp [State.beaconBytes, beBytes, leBytes_length]
  omega

/-- A beacon is one block (R486). -/
theorem State.beacon_sent (s : State) (on : s.sysOn = true) (beacon : s.lpState 0 = lpBeacon) :
    (s.beacon.line 0).sent = some { typ := 5, bseq := 0, last := true, first := true, hops := 63, addr := 0, payload := s.beaconBytes } := by
  have blocks (t : State) : (unitBlocks 5 0 1 0 t.beaconBytes).head?
      = some { typ := 5, bseq := 0, last := true, first := true, hops := 63, addr := 0, payload := t.beaconBytes } := by
    simp [unitBlocks, t.beaconBytes_length, List.take_of_length_le]
  rw [State.beacon, if_neg (by simp [on]), foldOver_cons, foldOver_cons, foldOver_nil, if_pos beacon, blocks]
  generalize hu : (s.onLine 0 fun x => (some _ : Option Block).elim x x.burstOut) = u
  have sent : (u.line 0).sent = some { typ := 5, bseq := 0, last := true, first := true, hops := 63, addr := 0, payload := s.beaconBytes } := by
    rw [← hu, State.line_onLine, if_pos rfl]; rfl
  split
  · rw [State.line_onLine, if_neg (by decide), sent]
  · exact sent

/-! ### The commands -/

theorem exec_returnTimerExpiry (s : State) : exec .returnTimerExpiry s = .next (s.powered State.returnTimer).done := by rfl
theorem exec_entryConditionsClear (s : State) : exec .entryConditionsClear s = .next s.entryGo.done := by rfl
theorem exec_entryWaitTimeout (s : State) : exec .entryWaitTimeout s = .next s.entryTimeout.done := by rfl
theorem exec_dozeCommitPoint (s : State) : exec .dozeCommitPoint s = .next s.dozeCommit.done := by rfl
theorem exec_hibernateCommitPoint (s : State) : exec .hibernateCommitPoint s = .next s.hibCommit.done := by rfl
theorem exec_relayWindowExpiry (s : State) : exec .relayWindowExpiry s = .next s.relayWindow.done := by rfl
theorem exec_lineIdleTimeout (p : Fin 2) (s : State) :
    exec (.lineIdleTimeout p) s = .next (s.exchClose (if p = 0 then .lp0 else .lp1)).done := by rfl
theorem exec_padExchangeTimeout (s : State) : exec .padExchangeTimeout s = .next (s.exchClose .pad).done := by rfl
theorem exec_roadsideBeacon (s : State) : exec .roadsideBeacon s = .next s.beacon.done := by rfl

/-- An exchange that is open, an HCP command in progress or a reply still to be sent begins no entry (R48, R156). -/
theorem State.returnTimer_of_busy (s : State) (h : s.noExch = false ∨ s.hcp.jobs ≠ [] ∨ s.replying = true) :
    s.powered State.returnTimer = s := by
  have busy : s.returnTimer = s := if_neg (by rcases h with h | h | h <;> simp [h])
  rw [State.powered, busy, ite_self]

theorem State.returnTimer_of_idle (s : State) (on : s.sysOn = true) (exch : s.noExch = true) (jobs : s.hcp.jobs = [])
    (reply : s.replying = false) : s.powered State.returnTimer = s.entryStart := by
  rw [State.powered, if_pos on, State.returnTimer, if_pos (by simp [exch, jobs, reply])]

theorem State.level_of_sysOn (s : State) (h : s.sysOn = true) : s.level ≤ 1 := by
  simp [State.sysOn] at h
  exact h.1.1.1

theorem State.exchClose_ends (s : State) (e : Exch) :
    (∀ e', (s.exchClose e).isExch e' = if e' = e then false else s.isExch e') ∧ (s.exchClose e).mem = s.mem :=
  ⟨fun e' => s.isExch_setExch e e' false, s.setExch_mem e false⟩

/-- Settles O34, by the state that each timer, commit point and expiry leaves before the end of its step. -/
theorem powerStates : Obligations.PowerStates := by
  intro s ends
  have as (i : Instr) {t u : State} (h : exec i s = .next t.done) (e : t = u) : ends i u := e ▸ h
  refine ⟨fun h => as _ (exec_returnTimerExpiry s) (s.returnTimer_of_busy h), ?entry, ?clear, ?timeout, ?commit, ?doze, ?hibernate,
    ?window, ?sync, ?idle, ⟨_, exec_padExchangeTimeout s, s.exchClose_ends .pad⟩, ?beacon⟩
  case entry =>
    intro on exch jobs reply road flush entry
    have begun := s.returnTimer_of_idle on exch jobs reply
    constructor
    · intro level lock rest
      refine ⟨_, as _ (exec_returnTimerExpiry s) (begun.trans (s.entryStart_listen level rest road flush entry lock)), ?_, ?_⟩
      · exact State.setCur_cur _ (by decide)
      · intro a lo hi
        rw [State.byte, State.newCycle_mem, State.setCur_mem]
        exact State.userOff_byte _ lo hi
    · intro rest mile
      exact as _ (exec_returnTimerExpiry s) (begun.trans (s.entryStart_doze (s.level_of_sysOn on) rest road flush entry mile))
  case clear =>
    intro entry ready clear flush
    exact ⟨_, as _ (exec_entryConditionsClear s) (s.entryGo_doze entry ready clear flush), s.entrySteps_ready⟩
  case timeout => exact fun entry clear => ⟨_, exec_entryWaitTimeout s, s.entryTimeout_given_up entry clear⟩
  case commit =>
    intro ready clear flush
    constructor
    · intro entry rest
      obtain ⟨cur, outer, dram, mem⟩ := s.dozeCommit_kept entry rest ready clear flush
      refine ⟨_, exec_dozeCommitPoint s, cur, State.reg_of_outer outer (.inr (.inr rfl)), ?_, ?_⟩
      · intro a lo hi
        exact byte_of_lost mem (dozeKeeps_sram dram lo hi) (by omega)
      · intro a lo hi
        exact State.byte_of_keep mem (by simp [dozeKeeps]; omega)
    · intro entry rest journal
      obtain ⟨cur, rest', outer, m, mem⟩ := s.hibCommit_kept entry rest ready clear flush journal
      refine ⟨_, exec_hibernateCommitPoint s, cur, rest', State.reg_of_outer outer (.inr (.inr rfl)), ?_⟩
      intro a lo hi
      exact byte_of_lost mem (by simp; omega) (by omega)
  case doze => exact fun rest => as _ (exec_dozeCommitPoint s) (if_pos (.inr (.inl rest)))
  case hibernate => exact fun rest => as _ (exec_hibernateCommitPoint s) (if_pos (.inr (.inl rest)))
  case window =>
    exact fun sync => ⟨_, as _ (exec_relayWindowExpiry s) (if_neg (by simp [sync])), s.exchClose_ends .wurx⟩
  case sync => exact fun sync => as _ (exec_relayWindowExpiry s) (if_pos sync)
  case idle => exact fun p => ⟨_, exec_lineIdleTimeout p s, s.exchClose_ends _⟩
  case beacon => exact fun on beacon => ⟨_, _, exec_roadsideBeacon s, s.beacon_sent on beacon, rfl, rfl, rfl, rfl⟩

end Sys2Proof.Machine
end

section
/-! A command of HCP that passes its checks is served by its opcode, and what its parameters say (R129, R134, R144 to R149). -/

namespace Sys2Proof.Machine

/-! ### Parameters -/

theorem leBytes_length_append (n v : Nat) (l : Bytes) : (leBytes n v ++ l).length = n + l.length := by
  rw [List.length_append, leBytes_length]

theorem leNat_leBytes (n v : Nat) : leNat (leBytes n v) = v % 256 ^ n := by
  induction n generalizing v with
  | zero => simp [leBytes, leNat, Nat.mod_one]
  | succ n ih =>
    rw [leBytes, leNat, ih, Nat.pow_succ', Nat.mod_mul, BitVec.toNat_ofNat, Nat.mod_mod]

/-- A little-endian number reads back where it stands in a parameter block. -/
theorem pNat_at (pre post : Bytes) {o n v : Nat} (at_ : o = pre.length) (fits : v < 256 ^ n) : pNat (pre ++ (leBytes n v ++ post)) o n = v := by
  rw [pNat, at_, List.drop_left, List.take_append_of_le_length (leBytes_length n v).ge, List.take_of_length_le (leBytes_length n v).le,
    leNat_leBytes, Nat.mod_eq_of_lt fits]

theorem pNat_parWord (pre post : Bytes) (w : Word) {o : Nat} (at_ : o = pre.length) : pNat (pre ++ (parWord w ++ post)) o 4 = w.toNat :=
  pNat_at pre post at_ w.isLt

theorem pNat_parHalf (pre post : Bytes) (n : Half) {o : Nat} (at_ : o = pre.length) : pNat (pre ++ (parHalf n ++ post)) o 2 = n.toNat :=
  pNat_at pre post at_ n.isLt

theorem pWord_parWord (pre post : Bytes) (w : Word) {o : Nat} (at_ : o = pre.length) : pWord (pre ++ (parWord w ++ post)) o = w := by
  rw [pWord, pNat_parWord pre post w at_, BitVec.ofNat_toNat, BitVec.setWidth_eq]

theorem pByte_at (pre post : Bytes) (b : Byte) {o : Nat} (at_ : o = pre.length) : pByte (pre ++ (b :: post)) o = b.toNat := by
  simp [pByte, at_]

/-! ### The checks -/

/-- The parameters without the session fields are those that the command was given (R142). -/
theorem CmdHead.bodyPar_pkt (c : CmdHead) (op : Nat) (p d : Bytes) : bodyPar (c.pkt op p d) = p := by
  unfold bodyPar CmdHead.pkt CmdHead.par
  cases c.auth with
  | none => exact if_neg (show ¬bit 0 3 = true by decide)
  | some a =>
    obtain ⟨n, g⟩ := a
    have long : (p ++ leBytes 4 n.toNat ++ beBytes 8 g.toNat).length = p.length + 12 := by simp [leBytes_length, beBytes]
    refine (if_pos (show bit 8 3 = true by decide)).trans ?_
    dsimp only
    rw [if_neg (by omega), long, Nat.add_sub_cancel, List.append_assoc, List.take_left]

theorem CmdHead.flags_pkt (c : CmdHead) (op : Nat) (p d : Bytes) :
    bits (c.pkt op p d).flags 7 4 = 0 ∧ bits (c.pkt op p d).flags 2 0 = 0 := by
  unfold CmdHead.pkt
  cases c.auth with
  | none => exact (by decide : bits 0 7 4 = 0 ∧ bits 0 2 0 = 0)
  | some a => exact (by decide : bits 8 7 4 = 0 ∧ bits 8 2 0 = 0)

/-- A new command that no check refuses is served by its opcode (R134). -/
theorem State.hcpCmd_of_passes (s : State) {c : CmdHead} {op : Nat} {p d : Bytes} (h : s.cmdPasses c op p d) :
    s.hcpCmd c op p d = (s.cmdState c op p d).hcpRun (s.cmdHdr c op p d) op p d := by
  obtain ⟨⟨serves, seq, new, takes⟩, accepted⟩ := h
  obtain ⟨high, low⟩ := c.flags_pkt op p d
  have seq' : (s.cmdHdr c op p d).seq ≠ 0xFFFF := fun e => seq (BitVec.eq_of_toNat_eq e)
  have taken : s.hcpCmd c op p d = (s.hostUse c.tp).hcpTake (s.cmdHdr c op p d) (c.pkt op p d).flags op (bodyPar (c.pkt op p d)) d :=
    if_neg (by simp [serves])
  have tp : (s.cmdHdr c op p d).tp = c.tp := rfl
  rw [taken, c.bodyPar_pkt, State.hcpTake, if_neg (by simp [high, low, seq']), tp, new]
  dsimp only
  rw [if_pos takes, State.hcpServe]
  simp only [accepted, tp]
  rfl

/-- A command that passes its checks ends as its opcode leaves it. -/
theorem exec_of_passes {s t : State} {i : Instr} {c : CmdHead} {op : Nat} {p d : Bytes} (e : exec i s = .next (s.hcpCmd c op p d).done)
    (h : s.cmdPasses c op p d) (run : (s.cmdState c op p d).hcpRun (s.cmdHdr c op p d) op p d = t) : exec i s = .next t.done := by
  rw [e, s.hcpCmd_of_passes h, run]

/-! ### The state in which a command is served -/

theorem State.hostUse_hcp (s : State) (t : Tp) : (s.hostUse t).hcp = s.hcp := by
  unfold State.hostUse; split <;> simp

theorem State.pktEvent_hcp (s : State) (t : Tp) : (s.pktEvent t).hcp = s.hcp := by
  unfold State.pktEvent; split
  · rw [State.publish_eq]
  · rfl

theorem State.authPass_nextJob (s : State) (h : Hdr) : (s.authPass h).hcp.nextJob = s.hcp.nextJob := by
  unfold State.authPass; split <;> rfl

/-- The checks of a command take no job number. -/
theorem State.cmdState_nextJob (s : State) (c : CmdHead) (op : Nat) (p d : Bytes) :
    (s.cmdState c op p d).hcp.nextJob = s.hcp.nextJob := by
  rw [State.cmdState, State.authPass_nextJob, State.pktEvent_hcp, ← s.hostUse_hcp c.tp]
  rfl

end Sys2Proof.Machine
end

section
/-! HCP commands of the system group (R46, R51, R119, R121, R126, R141, R147, R152, R155, R156). -/

namespace Sys2Proof.Machine

/-! ### What the functions of these commands leave -/

/-- A field that software may write holds, after a write while its block does not run, what the word says. -/
theorem State.fld_regStore_idle (s : State) (f : Fld) (n : Nat) (w : Word) (hhi : f.hi < 32)
    (rw_ : ∀ i, i ≤ f.hi → f.lo ≤ i → (regRow f.reg).rw.getLsbD i = true) :
    (s.regStore f.reg n false w).fld f n = bits w.toNat f.hi f.lo := by
  refine Nat.eq_of_testBit_eq fun i => ?_
  rw [State.testBit_fld, State.reg_regStore_idle, bits, Nat.testBit_mod_two_pow, Nat.testBit_div_two_pow]
  by_cases h : i < f.hi + 1 - f.lo
  · rw [State.getLsbD_storedWord _ _ _ _ _ _ (by omega), if_pos (by simp [rw_ (i + f.lo) (by omega) (by omega)])]
    rfl
  · simp [h]

theorem State.regStore_hcp (s : State) (r : RegName) (n : Nat) (running : Bool) (w : Word) : (s.regStore r n running w).hcp = s.hcp := by
  rw [State.regStore_frame]

theorem countBelow_le (p : Nat → Bool) (n : Nat) : countBelow p n ≤ n := by
  induction n with
  | zero => exact Nat.le_refl 0
  | succ n ih =>
    rw [countBelow]
    split <;> omega

/-- The entry of a key after a change to that entry alone. -/
theorem Tab.find_map_entry {α : Type} (f : α → α) (t : Tab α) (k : Nat) :
    Tab.find (t.map fun e => if e.1 = k then (e.1, f e.2) else e) k = (Tab.find t k).map f := by
  induction t with
  | nil => rfl
  | cons e t ih =>
    obtain ⟨j, v⟩ := e
    rw [List.map_cons]
    by_cases h : j = k
    · simp [Tab.find, h]
    · simp [Tab.find, h, ih]

/-- A job stands under its number, with what its command said (R145). -/
theorem State.find_accept (s : State) (h : Hdr) (op arg : Nat) (par data : Bytes) :
    Tab.find (s.accept h op arg par data).hcp.jobs s.hcp.nextJob = some { hdr := h, opcode := op, arg, par, data } := by
  rw [State.accept, (State.posted_reply _ _ _ _ _ _).hcp]
  exact (Tab.find_put _ _ _ _).trans (if_pos rfl)

theorem State.accept_slots (s : State) (h : Hdr) (op arg : Nat) (par data : Bytes) :
    (s.accept h op arg par data).hcp.slots = s.hcp.slots := by
  rw [State.accept, (State.posted_reply _ _ _ _ _ _).hcp]; rfl

theorem State.accept_calls (s : State) (h : Hdr) (op arg : Nat) (par data : Bytes) :
    (s.accept h op arg par data).hcp.calls = s.hcp.calls := by
  rw [State.accept, (State.posted_reply _ _ _ _ _ _).hcp]; rfl

theorem State.pstate_hcp (s : State) : s.pstate.hcp = s.hcp := by simp [State.pstate, State.setFlag]

theorem State.setCur_hcp (s : State) (v : Nat) : (s.setCur v).hcp = s.hcp := by
  unfold State.setCur
  split
  · exact s.pstate_hcp
  · dsimp only
    split
    · rw [State.publish_eq, State.pstate_hcp, State.setFld_hcp]
    · rw [State.pstate_hcp, State.setFld_hcp]

theorem State.userStart_hcp (s : State) : s.userStart.hcp = s.hcp := by
  unfold State.userStart
  dsimp only
  rw [foldOver_proj State.hcp _ (fun c t => by split <;> rfl), State.setFld_hcp]

theorem State.setBytes_hcp (s : State) (a : Nat) (b : Bytes) : (s.setBytes a b).hcp = s.hcp := by
  induction b generalizing s a with
  | nil => rfl
  | cons x l ih => rw [State.setBytes, ih, State.setByte_hcp]

theorem State.deliver_hcp (x : Nat × Bytes) (s : State) : (State.deliver x s).hcp = s.hcp := by
  unfold State.deliver
  split
  · rfl
  · dsimp only
    split
    · rfl
    · rw [State.onCore_hcp, State.setBytes_hcp]

theorem State.raiseTo_hcp (s : State) (v : Nat) : (s.raiseTo v).hcp = s.hcp := by
  unfold State.raiseTo
  split
  · rw [State.deliverWaiting, State.onCore_hcp, foldOver_proj State.hcp _ State.deliver_hcp, State.userStart_hcp, State.setCur_hcp]
  · rfl

/-! ### The opcodes -/

theorem State.opSetPower_low (s : State) (h : Hdr) {v : Nat} (range : v ≤ 3) (floor : v ≤ s.floorNow) :
    s.opSetPower h v = (if s.inRoadside then s.setRest v else (s.setRest v).raiseTo v).reply h 0x0102 .ok := by
  rw [State.opSetPower, if_neg (by omega), if_neg (by omega)]

/-- RESET orders its reset behind the reply (R152). -/
theorem State.opReset_ordered (s : State) (h : Hdr) {kind : Nat} (range : kind ≤ 2) :
    (s.opReset h kind).hcp.reset = some kind ∧ (s.opReset h kind).regs = s.regs ∧ (s.opReset h kind).mem = s.mem := by
  rw [State.opReset, if_neg (by omega)]
  have posted := (s.onHcp fun x => { x with reset := some kind }).posted_reply h 0x0103 .ok [] []
  exact ⟨by rw [posted.hcp]; rfl, posted.regs, posted.mem⟩

/-- RAISE_SEC_VERSION leaves the greater of the count and the number of fuses blown (R121). -/
theorem State.opRaiseVersion_raised (s : State) (h : Hdr) {n : Nat} (range : n ≤ 32) (trial : s.flag F.SYSCTL_BOOTSTAT_TRIAL = false)
    (version : n ≤ s.runVersion) (vin : s.vinGood = true) (run : s.otp.run = none) :
    (s.opRaiseVersion h n).fld F.OTP_FUSE_SECVER = max n (secVersion (s.rowBits 7)) := by
  have blown : secVersion (s.rowBits 7) ≤ 32 := countBelow_le _ _
  unfold State.opRaiseVersion
  dsimp only
  rw [if_neg (by omega), if_neg (by simp [trial, vin, run]; omega), (State.posted_reply _ _ _ _ _ _).fld,
    State.fld_setFld _ _ _ _ (by decide) (by decide)]
  exact Nat.mod_eq_of_lt (show max n (secVersion (s.rowBits 7)) < 2 ^ 6 by omega)

theorem State.opRaiseVersion_denied (s : State) (h : Hdr) {n : Nat} (range : n ≤ 32)
    (why : s.flag F.SYSCTL_BOOTSTAT_TRIAL = true ∨ s.runVersion < n ∨ s.vinGood = false ∨ s.otp.run.isSome = true) :
    s.opRaiseVersion h n = s.reply h 0x0105 .denied := by
  unfold State.opRaiseVersion
  dsimp only
  rw [if_neg (by omega), if_pos]
  rcases why with h | h | h | h <;> simp [h]

theorem State.opBlowFuse_confirmed (s : State) (h : Hdr) {fuse : Nat} (range : fuse ≤ 3) :
    s.opBlowFuse h fuse 0x424C4F57 = if !s.fuseOk fuse then s.reply h 0x0104 .denied
      else (s.fusesAct ((s.otpBurn 7 0 (7 * 2 ^ (3 * fuse))).fuseShown fuse)).reply h 0x0104 .ok := by
  rw [State.opBlowFuse, if_neg (by omega)]

/-- IMAGE_WRITE takes the slot and becomes a job (R155). -/
theorem State.imageGo_job (s : State) (h : Hdr) (slot off : Nat) (p : Bytes) {d : Bytes} (some_ : d ≠ []) :
    Tab.find (s.imageGo h slot off p d).hcp.slots slot = some h.tp.num
      ∧ Tab.find (s.imageGo h slot off p d).hcp.jobs s.hcp.nextJob
        = some { hdr := h, opcode := 0x0107, arg := off, par := p, data := d } := by
  have go : s.imageGo h slot off p d = (s.onHcp fun x => { x with slots := Tab.put x.slots slot h.tp.num }).accept h 0x0107 off p d :=
    if_neg (by simp [some_])
  rw [go]
  refine ⟨?_, State.find_accept (s.onHcp fun x => { x with slots := Tab.put x.slots slot h.tp.num }) h 0x0107 off p d⟩
  rw [State.accept_slots]
  exact (Tab.find_put _ _ _ _).trans (if_pos rfl)

theorem State.opImageWrite_free (s : State) (h : Hdr) {p d : Bytes} (slot : pByte p 0 ≤ 1) (page : pNat p 1 4 % 4096 = 0)
    (words : d.length % 4 = 0) (fits : pNat p 1 4 + d.length ≤ s.dirNow.size)
    (own : ∀ t, Tab.find s.hcp.slots (pByte p 0) = some t → t = h.tp.num) :
    s.opImageWrite h p d = s.imageGo h (pByte p 0) (s.dirNow.slotBase (pByte p 0) + pNat p 1 4) p d := by
  have free : ¬((Tab.find s.hcp.slots (pByte p 0)).any fun t => t != h.tp.num) = true := by
    cases held : Tab.find s.hcp.slots (pByte p 0) with
    | none => simp
    | some t => simp [own t held]
  unfold State.opImageWrite
  dsimp only
  rw [if_neg (by omega), if_neg free]

/-- DIRECTORY_WRITE becomes a job that completes with the new sequence number (R119). -/
theorem State.opDirectoryWrite_job (s : State) (h : Hdr) {p : Bytes} (active : pByte p 0 ≤ 1) (trial : pByte p 1 ≤ 1) (tries : pByte p 2 ≤ 3)
    (none_ : ∀ e ∈ s.hcp.jobs, e.2.opcode ≠ 0x0108) (own : ∀ e ∈ s.hcp.slots, e.2 = h.tp.num)
    (image : s.flag F.SYSCTL_BOOTSTAT_ROM_RESP = true ∨ s.slotPasses (s.newDir p) (s.newDir p).active = true) :
    Tab.find (s.opDirectoryWrite h p).hcp.jobs s.hcp.nextJob = some
      { hdr := h, opcode := 0x0108, arg := (s.newDir p).sector, par := p, data := (s.newDir p).bytes, onOk := leBytes 4 (s.newDir p).seq } := by
  have free : (s.hcp.jobs.find? fun e => e.2.opcode == 0x0108) = none := List.find?_eq_none.2 (by simpa using none_)
  have slots : (s.hcp.slots.any fun e => e.2 != h.tp.num) = false := List.any_eq_false.2 (by simpa using own)
  have passes : ¬(!s.flag F.SYSCTL_BOOTSTAT_ROM_RESP && !s.slotPasses (s.newDir p) (s.newDir p).active) = true := by
    rcases image with e | e <;> simp [e]
  unfold State.opDirectoryWrite
  dsimp only [State.take]
  rw [if_neg (by omega), free]
  dsimp only
  rw [if_neg (by simp [slots]), if_neg passes]
  refine (Tab.find_map_entry (fun j : Job => { j with onOk := leBytes 4 (s.newDir p).seq }) _ _).trans ?_
  rw [State.find_accept]
  rfl

/-- The state in which a USER_CALL runs (R156). -/
def State.called (s : State) (h : Hdr) (cl box : Nat) (p d : Bytes) : State :=
  ((s.accept h 0x0109 cl p d).onHcp fun x => { x with calls := x.calls ++ [(s.hcp.nextJob, cl, box)] }).raiseTo 0

theorem State.called_calls (s : State) (h : Hdr) (cl box : Nat) (p d : Bytes) :
    (s.called h cl box p d).hcp.calls = s.hcp.calls ++ [(s.hcp.nextJob, cl, box)] := by
  rw [State.called, State.raiseTo_hcp, ← s.accept_calls h 0x0109 cl p d]
  rfl

theorem State.opUserCall_user (s : State) (h : Hdr) {p : Bytes} (d : Bytes) (cl : pByte p 0 = 1 ∨ pByte p 0 = 2) :
    s.opUserCall h p d = s.called h (pByte p 0) (pByte p 1) p d := if_neg (by omega)

theorem State.opUserCall_other (s : State) (h : Hdr) {p : Bytes} (d : Bytes) (cl : pByte p 0 ≠ 1) (cl' : pByte p 0 ≠ 2) :
    s.opUserCall h p d = s.reply h 0x0109 .badParam := if_pos ⟨cl, cl'⟩

theorem State.userAct_later (s : State) (id cl : Nat) : s.userAct id cl .later = s := by
  unfold State.userAct
  split <;> rfl

theorem State.userReact_later (s : State) (n : Nat) : s.userReact n .later = s := by
  unfold State.userReact
  split
  · exact s.userAct_later _ _
  · rfl

theorem State.userReact_nil (s : State) (n : Nat) (a : UserAct) (h : s.hcp.calls = []) : s.userReact n a = s := by
  rw [State.userReact, h]; rfl

/-- The program of the user cluster answers the one call at once (R156). -/
theorem State.userReact_answer (s : State) (n cl box : Nat) (par data : Bytes) (h : s.hcp.calls = [(n, cl, box)]) (on : s.userOn = true) :
    s.userReact n (.answer par data) = s.callEnd n par data := by
  have found : (s.hcp.calls.find? fun c => n ≤ c.1) = some (n, cl, box) := by rw [h]; simp
  rw [State.userReact, found]
  exact if_neg (by simp [on])

/-- TRANSPORT_CFG sets the mask of its transport; its rate waits for the reply (R141, R147). -/
theorem State.opTransportCfg_set (s : State) (h : Hdr) {rate : Nat} (mask : Nat) (range : rate ≤ 3) :
    let t := s.opTransportCfg h rate mask
    t.mem = s.mem ∧ t.hcp.uartRate = s.hcp.uartRate
      ∧ t.hcp.rateNext = s.hcp.rateNext ++ [⟨h.tp.num, h.seq, rate, if h.tp.port.isSome then (s.reply h 0x010A .ok).queued h.tp else 0⟩]
      ∧ (h.tp = .hport → t.fld F.HPORT_CFG_NOTIFY_MASK = mask % 256) ∧ (h.tp ≠ .hport → (t.tp h.tp).mask = mask) := by
  intro t
  have posted := s.posted_reply h 0x010A .ok [] []
  have ht : t = s.opTransportCfg h rate mask := rfl
  rw [State.opTransportCfg, if_neg (by omega)] at ht
  generalize s.reply h 0x010A .ok = u at posted ht ⊢
  rw [← posted.mem, show s.hcp.uartRate = u.hcp.uartRate by rw [posted.hcp], show s.hcp.rateNext = u.hcp.rateNext by rw [posted.hcp]]
  clear_value t
  dsimp only at ht
  split at ht
  · next hport =>
    subst ht
    rw [State.regStore_mem, State.regStore_hcp]
    refine ⟨rfl, rfl, rfl, fun _ => ?_, fun other => absurd hport other⟩
    refine (State.fld_regStore_idle _ F.HPORT_CFG_NOTIFY_MASK 0 _ (by decide) (by decide)).trans ?_
    exact bits_wordPut _ _ _ _ (by decide) (by decide)
  · next other =>
    subst ht
    exact ⟨rfl, rfl, rfl, fun hport => absurd hport other, fun _ => by rw [State.tp_setTp]⟩

/-! ### The commands -/

theorem exec_ping (c : CmdHead) (s : State) : exec (.ping c) s = .next (s.hcpCmd c 0x0100 []).done := by rfl
theorem exec_getInfo (c : CmdHead) (s : State) : exec (.getInfo c) s = .next (s.hcpCmd c 0x0101 []).done := by rfl
theorem exec_setPowerState (c : CmdHead) (v : Byte) (s : State) : exec (.setPowerState c v) s = .next (s.hcpCmd c 0x0102 [v]).done := by rfl
theorem exec_reset (c : CmdHead) (v : Byte) (s : State) : exec (.reset c v) s = .next (s.hcpCmd c 0x0103 [v]).done := by rfl
theorem exec_blowFuse (c : CmdHead) (v : Byte) (w : Word) (s : State) :
    exec (.blowFuse c v w) s = .next (s.hcpCmd c 0x0104 ([v] ++ parWord w)).done := by rfl
theorem exec_raiseSecVersion (c : CmdHead) (v : Byte) (s : State) : exec (.raiseSecVersion c v) s = .next (s.hcpCmd c 0x0105 [v]).done := by rfl
theorem exec_cancel (c : CmdHead) (n : Half) (s : State) : exec (.cancel c n) s = .next (s.hcpCmd c 0x0106 (parHalf n)).done := by rfl
theorem exec_imageWrite (c : CmdHead) (v : Byte) (w : Word) (d : Bytes) (s : State) :
    exec (.imageWrite c v w d) s = .next (s.hcpCmd c 0x0107 ([v] ++ parWord w) d).done := by rfl
theorem exec_directoryWrite (c : CmdHead) (v v2 v3 : Byte) (s : State) :
    exec (.directoryWrite c v v2 v3) s = .next (s.hcpCmd c 0x0108 [v, v2, v3]).done := by rfl
theorem exec_userCall (c : CmdHead) (v v2 : Byte) (p : Bytes) (d : CallData) (s : State) :
    exec (.userCall c v v2 p d) s = .next ((s.hcpCmd c 0x0109 ([v, v2] ++ p) d.bytes).userReact s.hcp.nextJob d.act).done := by rfl
theorem exec_transportCfg (c : CmdHead) (v v2 : Byte) (s : State) :
    exec (.transportCfg c v v2) s = .next (s.hcpCmd c 0x010A [v, v2]).done := by rfl

/-- Settles O47: each command is served in the state that its checks leave, by what its opcode does there. -/
theorem hcpSystem : Obligations.HcpSystem := by
  intro c v v2 v3 n w d act s ends cmd pc
  refine ⟨fun h => exec_of_passes (exec_ping c s) h rfl, fun h => exec_of_passes (exec_getInfo c s) h rfl, fun h => ?power, fun h => ?reset,
    fun h => ?fuse, fun h => ?version, fun h => ?cancel, fun h => ?image, fun h => ?directory, fun p h => ?call, fun h => ?transport⟩
  case power =>
    have as {t : State} := exec_of_passes (exec_setPowerState c v s) h (t := t)
    generalize s.cmdState c _ _ _ = u, s.cmdHdr c _ _ _ = h at as ⊢
    refine ⟨fun hi => as (if_pos hi), fun lo fl => as ?_, fun lo fl road => as ?_, fun lo fl road => as ?_⟩
    · exact (if_neg (Nat.not_lt.2 lo)).trans (if_pos fl)
    · exact (u.opSetPower_low h lo fl).trans (by rw [road]; rfl)
    · exact (u.opSetPower_low h lo fl).trans (by rw [road]; rfl)
  case reset =>
    have as {t : State} := exec_of_passes (exec_reset c v s) h (t := t)
    exact ⟨fun lo => ⟨_, as rfl, State.opReset_ordered _ _ lo⟩, fun hi => as (if_pos hi)⟩
  case fuse =>
    intro lo confirm
    have as {t : State} := exec_of_passes (exec_blowFuse c v w s) h (t := t)
    have word : pNat ([v] ++ pc) 1 4 = 0x424C4F57 := by simpa [pc, confirm] using pNat_parWord [v] [] w rfl
    generalize s.cmdState c _ _ _ = u, s.cmdHdr c _ _ _ = h at as ⊢
    have run := u.opBlowFuse_confirmed h lo
    rw [← word] at run
    exact ⟨fun ok => as (run.trans (if_neg (by simp [ok]))), fun no => as (run.trans (if_pos (by simp [no])))⟩
  case version =>
    intro lo
    have as {t : State} := exec_of_passes (exec_raiseSecVersion c v s) h (t := t)
    exact ⟨fun trial version vin run => ⟨_, as rfl, State.opRaiseVersion_raised _ _ lo trial version vin run⟩,
      fun why => as (State.opRaiseVersion_denied _ _ lo why)⟩
  case cancel =>
    have as {t : State} := exec_of_passes (exec_cancel c n s) h (t := t)
    have seq : pNat (parHalf n) 0 2 = n.toNat := by simpa using pNat_parHalf [] [] n rfl
    have tp : (s.cmdHdr c 0x0106 (parHalf n) []).tp = c.tp := rfl
    generalize s.cmdState c _ _ _ = u, s.cmdHdr c _ _ _ = h at as tp ⊢
    have run : u.hcpRun h 0x0106 (parHalf n) [] = u.opCancel h n.toNat := congrArg (u.opCancel h) seq
    rw [State.opCancel, tp] at run
    intro j hj
    rw [hj] at run
    exact ⟨fun e => as (by rw [run, e]), fun e he => as (by rw [run, he])⟩
  case image =>
    intro slot page words some_ fits own
    have as {t : State} := exec_of_passes (exec_imageWrite c v w d s) h (t := t)
    have off : pNat ([v] ++ pc) 1 4 = w.toNat := by simpa using pNat_parWord [v] [] w rfl
    have tp : (s.cmdHdr c 0x0107 ([v] ++ pc) d).tp = c.tp := rfl
    generalize s.cmdState c _ _ _ = u, s.cmdHdr c _ _ _ = h at as tp fits own ⊢
    rw [← off] at page fits ⊢
    have run := State.opImageWrite_free u h (p := [v] ++ pc) slot page words fits (tp ▸ own)
    exact ⟨_, as run, tp ▸ u.imageGo_job h v.toNat _ _ some_⟩
  case directory =>
    intro active trial tries none_ own b image
    exact ⟨_, exec_of_passes (exec_directoryWrite c v v2 v3 s) h rfl,
      State.opDirectoryWrite_job (p := [v, v2, v3]) _ (s.cmdHdr c 0x0108 [v, v2, v3] []) active trial tries none_ own image⟩
  case call =>
    have calls {a : UserAct} {t : State} (run : ((s.cmdState c 0x0109 ([v, v2] ++ p) d).hcpRun (s.cmdHdr c 0x0109 ([v, v2] ++ p) d) 0x0109
        ([v, v2] ++ p) d).userReact s.hcp.nextJob a = t) : ends (.userCall c v v2 p ⟨d, a⟩) t := by
      have e := exec_userCall c v v2 p ⟨d, a⟩ s
      rw [s.hcpCmd_of_passes h, run] at e
      exact e
    have num := s.cmdState_nextJob c 0x0109 ([v, v2] ++ p) d
    generalize s.cmdState c _ _ _ = u, s.cmdHdr c _ _ _ = h at calls num ⊢
    rw [← num] at calls ⊢
    beta_reduce
    intro t
    have ht : t = u.called h v.toNat v2.toNat ([v, v2] ++ p) d := rfl
    clear_value t
    have run (cl : v = 1#8 ∨ v = 2#8) : u.hcpRun h 0x0109 ([v, v2] ++ p) d = t := by
      rw [ht]
      exact u.opUserCall_user h d (by rcases cl with rfl | rfl; exacts [.inl rfl, .inr rfl])
    refine ⟨fun cl => ⟨calls (by rw [run cl]), calls (by rw [run cl, State.userReact_later])⟩, fun cl none_ on par data => calls ?_,
      fun cl cl' still => calls ?_⟩
    · have one : t.hcp.calls = [(u.hcp.nextJob, v.toNat, v2.toNat)] := by rw [ht, State.called_calls, none_]; rfl
      rw [run cl, t.userReact_answer _ _ _ par data one on]
    · have refused : u.hcpRun h 0x0109 ([v, v2] ++ p) d = u.reply h 0x0109 .badParam :=
        u.opUserCall_other h d (fun e => cl (BitVec.eq_of_toNat_eq e)) (fun e => cl' (BitVec.eq_of_toNat_eq e))
      rw [refused]
      rcases still with rfl | none_
      · exact State.userReact_later _ _
      · refine State.userReact_nil _ _ _ ?_
        rw [(State.posted_reply _ _ _ _ _ _).hcp]
        exact none_
  case transport =>
    have as {t : State} := exec_of_passes (exec_transportCfg c v v2 s) h (t := t)
    refine ⟨fun lo => ?_, fun hi => as (if_pos hi)⟩
    obtain ⟨mem, rate, next, hport, other⟩ := State.opTransportCfg_set (s.cmdState c 0x010A [v, v2] []) (s.cmdHdr c 0x010A [v, v2] [])
      v2.toNat lo
    exact ⟨_, as rfl, mem, rate, next, fun e => (hport e).trans (Nat.mod_eq_of_lt v2.isLt), other⟩

end Sys2Proof.Machine
end

section
/-! HCP commands of the radio, frame and line groups (R46, R151, R158, R163, R166, R190, R215, R218, R226, R240, R292, R306). -/

namespace Sys2Proof.Machine

/-! ### A profile entry -/

/-- The bits that software may write read as written while the block does not run. -/
theorem State.storedWord_and_rw (s : State) (r : RegName) (n : Nat) (w : Word) :
    s.storedWord r n false w &&& (regRow r).rw = w &&& (regRow r).rw := by
  refine BitVec.eq_of_getLsbD_eq fun i hi => ?_
  rw [BitVec.getLsbD_and, BitVec.getLsbD_and, s.getLsbD_storedWord r n false w i hi]
  cases (regRow r).rw.getLsbD i <;> simp

/-- The words of a profile entry are locked while a lane that runs names it (R190). -/
theorem State.locks_profile (s : State) {r : RegName} (hr : r ∈ profileRegs) (n : Nat) :
    s.locks r n = (s.ptInUse n || ({ s with regs := s.was } : State).ptInUse n) := by
  have was : s.locksWas r n = false ∧ ∀ t : State, t.locksNow r n = t.ptInUse n := by
    simp only [profileRegs, List.mem_cons, List.not_mem_nil, or_false] at hr
    rcases hr with rfl | rfl | rfl | rfl | rfl | rfl <;> exact ⟨rfl, fun _ => rfl⟩
  rw [State.locks, State.nowOrWas, was.1, was.2, was.2, Bool.or_false]

theorem State.ptInUse_congr {s t : State} (h : ∀ r n, r = .LANE_PROFILE ∨ r = .LANE_STAT → t.reg r n = s.reg r n) (k : Nat) :
    t.ptInUse k = s.ptInUse k := by
  simp only [State.ptInUse, State.lanePt, State.laneState, State.fld, h _ _ (.inl rfl), h _ _ (.inr rfl)]

/-- A write to a word of a profile entry locks none. -/
theorem State.locks_regStore_profile (s : State) {r r' : RegName} (hr : r ∈ profileRegs) (hr' : r' ∈ profileRegs) (k : Nat) (w : Word) :
    (s.regStore r k false w).locks r' k = s.locks r' k := by
  have apart : r ≠ .LANE_PROFILE ∧ r ≠ .LANE_STAT := by constructor <;> rintro rfl <;> simp [profileRegs] at hr
  have lanes : (s.regStore r k false w).ptInUse k = s.ptInUse k := by
    refine State.ptInUse_congr (fun q n hq => ?_) k
    rw [State.regStore_idle, State.reg_setReg_ite, if_neg, State.keepInForce_eq]
    · rfl
    · rintro ⟨rfl, -⟩
      exact hq.elim apart.1 apart.2
  have was : ({ s.regStore r k false w with regs := (s.regStore r k false w).was } : State).ptInUse k
      = ({ s with regs := s.was } : State).ptInUse k := by
    rw [State.regStore_frame]; rfl
  rw [State.locks_profile _ hr', State.locks_profile _ hr', lanes, was]

/-- The words of a profile entry, written one after another: each reads as written, and every other register as before. -/
theorem State.profile_stored (k : Nat) (word : Nat → Word) (l : List (RegName × Nat)) (regs : ∀ e ∈ l, e.1 ∈ profileRegs)
    (apart : (l.map Prod.fst).Nodup) (s : State) (free : ∀ r ∈ profileRegs, s.locks r k = false) :
    let t := foldOver (fun (e : RegName × Nat) (t : State) => t.regStore e.1 k (t.locks e.1 k) (word e.2)) l s
    (∀ e ∈ l, t.reg e.1 k &&& (regRow e.1).rw = word e.2 &&& (regRow e.1).rw)
      ∧ ∀ r n, n ≠ k ∨ r ∉ l.map Prod.fst → t.reg r n = s.reg r n := by
  induction l generalizing s with
  | nil => exact ⟨fun e he => absurd he List.not_mem_nil, fun _ _ _ => rfl⟩
  | cons e l ih =>
    have he : e.1 ∈ profileRegs := regs e List.mem_cons_self
    rw [List.map_cons, List.nodup_cons] at apart
    rw [foldOver_cons, free _ he]
    obtain ⟨stored, kept⟩ := ih (fun x hx => regs x (List.mem_cons_of_mem _ hx)) apart.2 (s.regStore e.1 k false (word e.2))
      (fun r hr => by rw [s.locks_regStore_profile he hr, free r hr])
    refine ⟨fun x hx => ?_, fun r n other => ?_⟩
    · rcases List.mem_cons.1 hx with rfl | hx
      · rw [kept _ _ (.inr apart.1), State.reg_regStore_idle, State.storedWord_and_rw]
      · exact stored x hx
    · rw [List.map_cons, List.mem_cons, not_or] at other
      rw [kept r n (other.imp_right And.right), State.regStore_idle, State.reg_setReg_ite, if_neg, State.keepInForce_eq]
      · rfl
      · rintro ⟨rfl, rfl⟩
        exact other.elim (fun h => h rfl) (fun h => h.1 rfl)

theorem State.opProfileSet_stored (s : State) (h : Hdr) {v : Byte} {d : Bytes} (range : v.toNat ≤ 15) (reserved : pNat d 24 8 = 0)
    (free : ∀ r ∈ profileRegs, s.locks r v.toNat = false) :
    let t := s.opProfileSet h ([v] ++ d)
    (∀ i, i < 6 → ∀ r, profileRegs[i]? = some r → t.reg r v.toNat &&& (regRow r).rw = pWord d (4 * i) &&& (regRow r).rw)
      ∧ ∀ j, j ≠ v.toNat → ∀ r, t.reg r j = s.reg r j := by
  have index : pByte ([v] ++ d) 0 = v.toNat := rfl
  have zero : pNat ([v] ++ d) 25 8 = 0 := reserved
  have word (i : Nat) : pWord ([v] ++ d) (1 + 4 * i) = pWord d (4 * i) := by simp [pWord, pNat, Nat.add_comm 1]
  obtain ⟨stored, kept⟩ := State.profile_stored v.toNat (fun i => pWord d (4 * i)) profileRegs.zipIdx (by decide) (by decide) s free
  unfold State.opProfileSet
  simp only [index, zero, word]
  rw [if_neg (by omega)]
  constructor
  · intro i _ r hr
    rw [(State.posted_reply _ _ _ _ _ _).reg]
    exact stored (r, i) (List.mk_mem_zipIdx_iff_getElem?.2 hr)
  · intro j hj r
    rw [(State.posted_reply _ _ _ _ _ _).reg]
    exact kept r j (.inl hj)

/-! ### The opcodes -/

theorem State.opRadioRole_set (s : State) (h : Hdr) {role : Nat} (range : role ≤ 2)
    (scope : role = 2 → s.closed = true → s.hasScope h 0 = true) :
    s.opRadioRole h role = ((s.onRf fun r => { r with role }).applyFloor).reply h 0x0201 .ok := by
  refine (if_neg (Nat.not_lt.2 range)).trans (if_neg ?_)
  rintro ⟨two, closed, none_⟩
  simp [scope two closed] at none_

theorem State.opRadioRole_denied (s : State) (h : Hdr) {role : Nat} (test : role = 2) (closed : s.closed = true)
    (scope : s.hasScope h 0 = false) : s.opRadioRole h role = s.reply h 0x0201 .denied :=
  (if_neg (by omega)).trans (if_pos ⟨test, closed, by simp [scope]⟩)

theorem State.opPortCfg_stood (s : State) (h : Hdr) {v v2 : Byte} {w : Word} (port : v.toNat ≤ 1) (en : v2.toNat ≤ 1) {a t : State}
    (ha : a = s.loWrite v.toNat w) (ht : t = a.rfCtrlWrite v.toNat (wordPut (a.reg .RF_CTRL v.toNat) 0 0 v2.toNat))
    (lo : t.rfLo v.toNat = w.toNat) (on : t.portEnabled v.toNat = (v2 == 1#8)) :
    s.opPortCfg h ([v] ++ parWord w ++ [v2]) = t.reply h 0x0202 .ok := by
  have word : pNat ([v] ++ parWord w ++ [v2]) 1 4 = w.toNat := pNat_parWord [v] [v2] w rfl
  have word' : pWord ([v] ++ parWord w ++ [v2]) 1 = w := pWord_parWord [v] [v2] w rfl
  have enable : pByte ([v] ++ parWord w ++ [v2]) 5 = v2.toNat := pByte_at ([v] ++ parWord w) [] v2 rfl
  have index : pByte ([v] ++ parWord w ++ [v2]) 0 = v.toNat := rfl
  have same : (v2 == 1#8) = (v2.toNat == 1) := by
    rw [Bool.eq_iff_iff, beq_iff_eq, beq_iff_eq, ← BitVec.toNat_inj]; rfl
  unfold State.opPortCfg
  simp only [word, word', enable, index, ← ha, ← ht]
  rw [if_neg (by omega), if_pos ⟨lo, on.trans same⟩]

theorem State.opLaneSet_eq (s : State) (h : Hdr) {v v2 v3 v4 : Byte} {w : Word} (lane : v.toNat ≤ 127) (port : v2.toNat ≤ 1)
    (profile : v3.toNat ≤ 15) (en : v4.toNat ≤ 1) {a b t : State}
    (ha : a = s.regStore .LANE_PROFILE v.toNat (s.locks .LANE_PROFILE v.toNat) (BitVec.ofNat 32 (v2.toNat * 256 + v3.toNat)))
    (hb : b = a.laneOffsetWrite v.toNat w) (ht : t = b.laneCtrlWrite v.toNat (BitVec.ofNat 32 v4.toNat))
    (stood : a.view .LANE_PROFILE v.toNat = BitVec.ofNat 32 (v2.toNat * 256 + v3.toNat)) :
    s.opLaneSet h ([v, v2] ++ parWord w ++ [v3, v4]) = t.reply h 0x0204
      (if b.reg .LANE_OFFSET v.toNat ≠ w ∨ (v4.toNat = 1 ∧ t.laneState v.toNat = 0) then .badParam else .ok)
      [BitVec.ofNat 8 t.unitsHeld] := by
  have word : pWord ([v, v2] ++ parWord w ++ [v3, v4]) 2 = w := pWord_parWord [v, v2] [v3, v4] w rfl
  have entry : pByte ([v, v2] ++ parWord w ++ [v3, v4]) 6 = v3.toNat := pByte_at ([v, v2] ++ parWord w) [v4] v3 rfl
  have enable : pByte ([v, v2] ++ parWord w ++ [v3, v4]) 7 = v4.toNat := by
    have at_ := pByte_at ([v, v2] ++ parWord w ++ [v3]) [] v4 (o := 7) rfl
    rwa [List.append_assoc] at at_
  have index : pByte ([v, v2] ++ parWord w ++ [v3, v4]) 0 = v.toNat := rfl
  have port' : pByte ([v, v2] ++ parWord w ++ [v3, v4]) 1 = v2.toNat := rfl
  unfold State.opLaneSet
  simp only [word, entry, enable, index, port', ← ha, ← hb, ← ht]
  rw [if_neg (by omega), if_neg (by simp [stood])]

/-- A submission of the host: taken, or completed with what refuses it (R194, R218). -/
theorem State.hostTx_eq (s : State) (h : Hdr) (op : Nat) (p d : Bytes) (e : Nat → TxEntry) (fields : Bool) {t : State} :
    (∀ tag, (s.accept h op 0 p d).txSubmit (e s.hcp.nextJob) fields = (.inr tag, t) → s.hostTx h op p d e fields = t)
      ∧ ∀ code, (s.accept h op 0 p d).txSubmit (e s.hcp.nextJob) fields = (.inl code, t) →
        s.hostTx h op p d e fields = (t.txRefused code).complete s.hcp.nextJob (t.txStatus code (e s.hcp.nextJob).port) := by
  constructor <;> intro x hx <;> simp [State.hostTx, State.take, hx]

theorem bit_toNat_byte (v : Byte) (i : Nat) : bit v.toNat i = v.getLsbD i := bit_eq_testBit _ _

/-- The entry that TRANSMIT submits as job id (R191, R218). -/
def State.hostFrame (s : State) (port : Nat) (w w2 w3 : Word) (v2 : Byte) (d : Bytes) (id : Nat) : TxEntry :=
  { txOwn (.job id) w.toNat (startOf s.nt (w2.toNat % 32) w3.toNat) port (s.fld F.TXP_HOSTCFG_PROFILE) 4
      (s.fld F.TXP_HOSTCFG_PRE) d.length (.frame d) (s.flag F.TXP_HOSTCFG_CODED) false (v2.getLsbD 0) with lateOk := v2.getLsbD 1 }

theorem State.opTransmit_eq (s : State) (h : Hdr) {v v2 : Byte} {w w2 w3 : Word} {d : Bytes} (port : v.toNat ≤ 1) (flags : v2.toNat ≤ 3) :
    s.opTransmit h ([v] ++ parWord w ++ parWord w2 ++ parWord w3 ++ [v2]) d =
      (s.boundary .TXP_HOSTCFG).hostTx h 0x0206 ([v] ++ parWord w ++ parWord w2 ++ parWord w3 ++ [v2]) d
        ((s.boundary .TXP_HOSTCFG).hostFrame v.toNat w w2 w3 v2 d)
        (loOk w.toNat && decide (w3.toNat ≤ 99999999) && decide (d.length ≤ 2047)) := by
  have freq : pNat ([v] ++ parWord w ++ parWord w2 ++ parWord w3 ++ [v2]) 1 4 = w.toNat := by
    simp only [List.append_assoc]
    exact pNat_parWord [v] _ w rfl
  have sec : pNat ([v] ++ parWord w ++ parWord w2 ++ parWord w3 ++ [v2]) 5 4 = w2.toNat := by
    rw [List.append_assoc ([v] ++ parWord w ++ parWord w2), List.append_assoc ([v] ++ parWord w)]
    exact pNat_parWord ([v] ++ parWord w) _ w2 rfl
  have tick : pNat ([v] ++ parWord w ++ parWord w2 ++ parWord w3 ++ [v2]) 9 4 = w3.toNat := by
    rw [List.append_assoc ([v] ++ parWord w ++ parWord w2)]
    exact pNat_parWord ([v] ++ parWord w ++ parWord w2) _ w3 rfl
  have fl : pByte ([v] ++ parWord w ++ parWord w2 ++ parWord w3 ++ [v2]) 13 = v2.toNat :=
    pByte_at ([v] ++ parWord w ++ parWord w2 ++ parWord w3) [] v2 rfl
  have index : pByte ([v] ++ parWord w ++ parWord w2 ++ parWord w3 ++ [v2]) 0 = v.toNat := rfl
  unfold State.opTransmit
  simp only [freq, sec, tick, fl, index, bit_toNat_byte]
  rw [if_neg (by omega)]
  rfl

theorem State.opWakeTx_eq (s : State) (h : Hdr) {v v2 : Byte} {w : Word} {n : Half} (port : v.toNat ≤ 1) :
    s.opWakeTx h ([v] ++ parWord w ++ parHalf n ++ [v2]) =
      (s.boundary .TXP_HOSTCFG).hostTx h 0x0207 ([v] ++ parWord w ++ parHalf n ++ [v2]) []
        (fun id => txOwn (.job id) w.toNat s.nt v.toNat ((s.boundary .TXP_HOSTCFG).fld F.TXP_HOSTCFG_PROFILE) 3 0 0
          (.wake n.toNat v2.toNat ((s.boundary .TXP_HOSTCFG).fld F.TXP_HOSTCFG_WAKE_REPEAT + 1)) false false false)
        (loOk w.toNat) := by
  have freq : pNat ([v] ++ parWord w ++ parHalf n ++ [v2]) 1 4 = w.toNat := by
    simp only [List.append_assoc]
    exact pNat_parWord [v] _ w rfl
  have addr : pNat ([v] ++ parWord w ++ parHalf n ++ [v2]) 5 2 = n.toNat := by
    rw [List.append_assoc ([v] ++ parWord w)]
    exact pNat_parHalf ([v] ++ parWord w) _ n rfl
  have group : pByte ([v] ++ parWord w ++ parHalf n ++ [v2]) 7 = v2.toNat := pByte_at ([v] ++ parWord w ++ parHalf n) [] v2 rfl
  have index : pByte ([v] ++ parWord w ++ parHalf n ++ [v2]) 0 = v.toNat := rfl
  unfold State.opWakeTx
  simp only [freq, addr, group, index]
  rw [if_neg (by omega)]
  rfl

/-- A reply that neither accepts nor completes carries its status alone (R133). -/
theorem State.reply_bare (s : State) (h : Hdr) (op : Nat) {st : Status} (ok : st ≠ .ok) (accepted : st ≠ .accepted) (par data : Bytes) :
    s.reply h op st par data = s.reply h op st := by
  simp [State.reply, State.answer, ok, accepted]

/-- KEY_LOAD unwraps 24 bytes: what lies beyond them is not looked at (R151). -/
theorem kwUnwrap_take (kek d : Bytes) : kwUnwrap kek (d.take 24) = kwUnwrap kek d := by
  simp [kwUnwrap, List.take_take, List.drop_take]

/-- What KEY_LOAD does with a key that its wrapping yields (R151, R226). -/
def State.keyLoaded (s : State) (h : Hdr) (g e : Nat) (key : Bytes) : State :=
  if g = 0x80 then (s.setKeyRegs .CTL_TKEY F.CTL_STAT_TKEY_OK key).reply h 0x0301 .ok
  else if g = 0x81 then (s.setKeyRegs .CTL_RKEY F.CTL_STAT_RKEY_OK key).reply h 0x0301 .ok
  else if s.vaultHeld g e then (s.setFld F.FRM_STAT_VAULT_ERR 1).reply h 0x0301 .noSpace
  else (s.vaultPut g e key).reply h 0x0301 .ok

/-- The key that a key of KEY_LOAD is wrapped with: that of the session, or zeros outside one (R151). -/
def State.wrapKey (s : State) (t : Tp) (auth : Bool) : Bytes :=
  match (s.tp t).session with
  | some x => if auth then x.key else zeros 16
  | none => zeros 16

theorem State.opKeyLoad_unwrapped (s : State) (h : Hdr) {v v2 : Byte} {d key : Bytes} (hkey : kwUnwrap (s.wrapKey h.tp h.auth) d = some key)
    (slot : v.toNat ≤ 63 ∨ ((v.toNat = 0x80 ∨ v.toNat = 0x81) ∧ v2.toNat = 0)) :
    s.opKeyLoad h ([v, v2] ++ d) = s.keyLoaded h v.toNat v2.toNat key := by
  have body : ([v, v2] ++ d).drop 2 = d := rfl
  have group : pByte ([v, v2] ++ d) 0 = v.toNat := rfl
  have epoch : pByte ([v, v2] ++ d) 1 = v2.toNat := rfl
  unfold State.opKeyLoad
  simp only [body, group, epoch, kwUnwrap_take]
  rw [if_neg (by simp; omega)]
  split
  · next e => exact absurd (hkey.symm.trans e) nofun
  · next e => rw [Option.some.inj (hkey.symm.trans e)]; rfl

/-- A slot in use refuses a key: VAULT_ERR is set, and the vault keeps what it held (R226). -/
theorem State.vaultRefused (s : State) (h : Hdr) :
    let t := (s.setFld F.FRM_STAT_VAULT_ERR 1).reply h 0x0301 .noSpace
    t.flag F.FRM_STAT_VAULT_ERR = true ∧ t.frm.vault = s.frm.vault := by
  have posted := (s.setFld F.FRM_STAT_VAULT_ERR 1).posted_reply h 0x0301 .noSpace [] []
  constructor
  · rw [State.flag, posted.fld, State.fld_setFld _ _ _ _ (by decide) (by decide)]; decide
  · rw [show State.frm _ = (s.setFld F.FRM_STAT_VAULT_ERR 1).frm by rw [posted], State.setFld_frm]

theorem State.opEpochSwitch_held (s : State) (h : Hdr) {g e : Nat} (range : g ≤ 63) (held : s.slotHolds g e = true) :
    s.opEpochSwitch h g e = (s.accept h 0x0302 g).jobMile s.hcp.nextJob (BitVec.ofNat 32 (0x70000000 + g)) (BitVec.ofNat 32 (256 + e)) [] :=
  if_neg (by simp [held, range])

theorem State.opEpochSwitch_empty (s : State) (h : Hdr) {g e : Nat} (empty : s.slotHolds g e = false) :
    s.opEpochSwitch h g e = s.reply h 0x0302 .badParam := if_pos (.inr (by simp [empty]))

theorem State.opFilterCfg_stood (s : State) (h : Hdr) {w w2 : Word} (dup : w &&& 0x01FFFFFC#32 = 0) (cfg : w2 &&& 0xFF0000FE#32 = 0)
    (stood : (s.dupWrite w).reg .FRM_DUP_CFG &&& 0xFE000001#32 = w &&& 0xFE000001#32) :
    s.opFilterCfg h (parWord w ++ parWord w2) = ((s.dupWrite w).regStore .FRM_CFG 0 false w2).reply h 0x0303 .ok := by
  have first : pWord (parWord w ++ parWord w2) 0 = w := pWord_parWord [] (parWord w2) w rfl
  have second : pWord (parWord w ++ parWord w2) 4 = w2 := by
    simpa only [List.append_nil] using pWord_parWord (parWord w) [] w2 (o := 4) rfl
  unfold State.opFilterCfg
  simp only [first, second]
  rw [if_neg (by simp [dup, cfg]), if_pos (by rw [beq_iff_eq]; exact stood)]

theorem State.opDownlink_taken (s : State) (h : Hdr) {src : BitVec 48} {n : Half} {v : Byte} {d : Bytes} (flags : v.toNat ≤ 3)
    (least : 23 ≤ d.length) (most : d.length ≤ 2047) (ver : macVer d = 0) (typ : macType d = 2) (mac : beNat (macSrc d) = src.toNat) {t : State}
    (ht : t = s.downlinkEnd src.toNat .aborted) (room : t.frm.downlinks.length < 1024) :
    let x : Downlink := { src := src.toNat, frame := d, flags := v.toNat, expiry := n.toNat, job := t.hcp.nextJob }
    let a := (t.accept h 0x0304 0 (leBytes 6 src.toNat ++ parHalf n ++ [v]) d).onFrm fun f => { f with downlinks := f.downlinks ++ [x] }
    s.opDownlink h (leBytes 6 src.toNat ++ parHalf n ++ [v]) d = if v.toNat = 3 then a.detour x else a := by
  have source : pNat (leBytes 6 src.toNat ++ parHalf n ++ [v]) 0 6 = src.toNat := by
    rw [List.append_assoc]
    exact pNat_at [] (parHalf n ++ [v]) rfl src.isLt
  have expiry : pNat (leBytes 6 src.toNat ++ parHalf n ++ [v]) 6 2 = n.toNat := by
    rw [List.append_assoc]
    exact pNat_parHalf (leBytes 6 src.toNat) [v] n rfl
  have fl : pByte (leBytes 6 src.toNat ++ parHalf n ++ [v]) 8 = v.toNat := pByte_at (leBytes 6 src.toNat ++ parHalf n) [] v rfl
  unfold State.opDownlink
  simp only [source, expiry, fl, ← ht, State.take]
  rw [if_neg (by omega), if_neg (by omega)]

theorem State.opJournalRead_some (s : State) (h : Hdr) {first n : Nat} (some_ : s.recordsFrom first n [] ≠ []) :
    s.opJournalRead h first n = s.reply h 0x0306 .ok [] (s.recordsFrom first n []) := by
  simp [State.opJournalRead, some_]

theorem State.opJournalRead_none (s : State) (h : Hdr) {first n : Nat} (asked : n ≠ 0) (none_ : s.recordsFrom first n [] = []) :
    s.opJournalRead h first n = s.reply h 0x0306 .notFound := by
  simp [State.opJournalRead, none_, asked]

theorem State.opLineRetrain_up (s : State) (h : Hdr) {p : Nat} (range : p ≤ 1) (up : s.lpUp p = true) :
    s.opLineRetrain h p =
      let t := (s.accept h 0x0404 p).onLine p fun x => { x with jobs := x.jobs ++ [s.hcp.nextJob] }
      if h.tp.port = some p then t.lpRetrainOwn p else t.lpRetrain p :=
  (if_neg (Nat.not_lt.2 range)).trans (if_neg (by simp [up]))

theorem State.opLineRetrain_down (s : State) (h : Hdr) {p : Nat} (range : p ≤ 1) (down : s.lpUp p = false) :
    s.opLineRetrain h p = s.reply h 0x0404 .linkDown := (if_neg (Nat.not_lt.2 range)).trans (if_pos (by simp [down]))

/-! ### The commands -/

theorem exec_radioRole (c : CmdHead) (v : Byte) (s : State) : exec (.radioRole c v) s = .next (s.hcpCmd c 0x0201 [v]).done := by rfl
theorem exec_portCfg (c : CmdHead) (v : Byte) (w : Word) (v2 : Byte) (s : State) :
    exec (.portCfg c v w v2) s = .next (s.hcpCmd c 0x0202 ([v] ++ parWord w ++ [v2])).done := by rfl
theorem exec_profileSet (c : CmdHead) (v : Byte) (d : Bytes) (s : State) :
    exec (.profileSet c v d) s = .next (s.hcpCmd c 0x0203 ([v] ++ d)).done := by rfl
theorem exec_laneSet (c : CmdHead) (v v2 : Byte) (w : Word) (v3 v4 : Byte) (s : State) :
    exec (.laneSet c v v2 w v3 v4) s = .next (s.hcpCmd c 0x0204 ([v, v2] ++ parWord w ++ [v3, v4])).done := by rfl
theorem exec_laneStatus (c : CmdHead) (v v2 : Byte) (s : State) :
    exec (.laneStatus c v v2) s = .next (s.hcpCmd c 0x0205 [v, v2]).done := by rfl
theorem exec_transmit (c : CmdHead) (v : Byte) (w w2 w3 : Word) (v2 : Byte) (d : Bytes) (s : State) :
    exec (.transmit c v w w2 w3 v2 d) s = .next (s.hcpCmd c 0x0206 ([v] ++ parWord w ++ parWord w2 ++ parWord w3 ++ [v2]) d).done := by rfl
theorem exec_wakeTx (c : CmdHead) (v : Byte) (w : Word) (n : Half) (v2 : Byte) (s : State) :
    exec (.wakeTx c v w n v2) s = .next (s.hcpCmd c 0x0207 ([v] ++ parWord w ++ parHalf n ++ [v2])).done := by rfl
theorem exec_ledgerRead (c : CmdHead) (s : State) : exec (.ledgerRead c) s = .next (s.hcpCmd c 0x0208 []).done := by rfl
theorem exec_keyLoad (c : CmdHead) (v v2 : Byte) (d : Bytes) (s : State) :
    exec (.keyLoad c v v2 d) s = .next (s.hcpCmd c 0x0301 ([v, v2] ++ d)).done := by rfl
theorem exec_epochSwitch (c : CmdHead) (v v2 : Byte) (s : State) :
    exec (.epochSwitch c v v2) s = .next (s.hcpCmd c 0x0302 [v, v2]).done := by rfl
theorem exec_filterCfg (c : CmdHead) (w w2 : Word) (s : State) :
    exec (.filterCfg c w w2) s = .next (s.hcpCmd c 0x0303 (parWord w ++ parWord w2)).done := by rfl
theorem exec_downlink (c : CmdHead) (src : BitVec 48) (n : Half) (v : Byte) (d : Bytes) (s : State) :
    exec (.downlink c src n v d) s = .next (s.hcpCmd c 0x0304 (leBytes 6 src.toNat ++ parHalf n ++ [v]) d).done := by rfl
theorem exec_frameStats (c : CmdHead) (s : State) : exec (.frameStats c) s = .next (s.hcpCmd c 0x0305 []).done := by rfl
theorem exec_journalRead (c : CmdHead) (w : Word) (n : Half) (s : State) :
    exec (.journalRead c w n) s = .next (s.hcpCmd c 0x0306 (parWord w ++ parHalf n)).done := by rfl
theorem exec_lineRole (c : CmdHead) (v v2 : Byte) (s : State) : exec (.lineRole c v v2) s = .next (s.hcpCmd c 0x0401 [v, v2]).done := by rfl
theorem exec_lineMode (c : CmdHead) (v v2 v3 : Byte) (s : State) :
    exec (.lineMode c v v2 v3) s = .next (s.hcpCmd c 0x0402 [v, v2, v3]).done := by rfl
theorem exec_lineStatus (c : CmdHead) (v : Byte) (s : State) : exec (.lineStatus c v) s = .next (s.hcpCmd c 0x0403 [v]).done := by rfl
theorem exec_lineRetrain (c : CmdHead) (v : Byte) (s : State) : exec (.lineRetrain c v) s = .next (s.hcpCmd c 0x0404 [v]).done := by rfl

/-- Settles O49: each command is served in the state that its checks leave, by what its opcode does there. -/
theorem hcpRadioFrameLine : Obligations.HcpRadioFrameLine := by
  intro c v v2 v3 v4 n w w2 w3 src d s ends cmd k
  refine ⟨fun h => ?role, fun h => ?port, fun h => ?profile, fun h => ?lane, fun h => ?lanes, fun h => ?transmit, fun h => ?wake,
    fun h => exec_of_passes (exec_ledgerRead c s) h rfl, fun h => ?key, fun h => ?epoch, fun h => ?filter, fun h => ?downlink,
    fun h => exec_of_passes (exec_frameStats c s) h rfl, fun h => ?journal, fun h => ?lineRole, fun h => ?lineMode, fun h => ?lineStatus,
    fun h => ?retrain⟩
  case role =>
    have as {t : State} := exec_of_passes (t := t) (exec_radioRole c v s) h
    exact ⟨fun range scope => as (State.opRadioRole_set _ _ range scope),
      fun test closed scope => as (State.opRadioRole_denied _ _ test closed scope)⟩
  case port =>
    intro port en a t ha ht lo on
    exact exec_of_passes (exec_portCfg c v w v2 s) h (State.opPortCfg_stood _ _ port en ha ht lo on)
  case profile =>
    intro range reserved free
    exact ⟨_, exec_of_passes (exec_profileSet c v d s) h rfl, State.opProfileSet_stored _ _ range reserved free⟩
  case lane =>
    intro lane port profile en a b t ha hb ht stood
    have as {t : State} := exec_of_passes (t := t) (exec_laneSet c v v2 w v3 v4 s) h
    have run := State.opLaneSet_eq _ (s.cmdHdr c 0x0204 ([v, v2] ++ parWord w ++ [v3, v4]) []) lane port profile en ha hb ht stood
    refine ⟨fun offset on => as (run.trans ?_), fun on off => as (run.trans ?_)⟩
    · rw [if_neg]
      rintro (e | ⟨e, e'⟩)
      · exact e offset
      · exact on.elim (fun z => by simp [z] at e) (fun z => z e')
    · rw [if_pos (.inr ⟨by rw [on]; rfl, off⟩), State.reply_bare _ _ _ (by decide) (by decide)]
  case lanes =>
    intro some_ most last
    have run (u : State) (h : Hdr) : u.opLaneStatus h v.toNat v2.toNat = u.reply h 0x0205 .ok _ :=
      if_neg (by have : v2.toNat ≠ 0 := fun e => some_ (BitVec.eq_of_toNat_eq e)
                 omega)
    exact exec_of_passes (exec_laneStatus c v v2 s) h (run _ _)
  case transmit =>
    have run {t : State} := exec_of_passes (t := t) (exec_transmit c v w w2 w3 v2 d s) h
    generalize s.cmdState c _ _ _ = u, s.cmdHdr c _ _ _ = h at run ⊢
    intro port flags b a e ok
    have eq (t : State) := b.hostTx_eq h 0x0206 ([v] ++ parWord w ++ parWord w2 ++ parWord w3 ++ [v2]) d (b.hostFrame k w w2 w3 v2 d) ok (t := t)
    exact ⟨fun tag t ht => run ((u.opTransmit_eq h port flags).trans ((eq t).1 tag ht)),
      fun code t ht => run ((u.opTransmit_eq h port flags).trans ((eq t).2 code ht))⟩
  case wake =>
    have run {t : State} := exec_of_passes (t := t) (exec_wakeTx c v w n v2 s) h
    generalize s.cmdState c _ _ _ = u, s.cmdHdr c _ _ _ = h at run ⊢
    intro port b a e
    have eq (t : State) := b.hostTx_eq h 0x0207 ([v] ++ parWord w ++ parHalf n ++ [v2]) [] (fun id => txOwn (.job id) w.toNat u.nt k
      (b.fld F.TXP_HOSTCFG_PROFILE) 3 0 0 (.wake n.toNat v2.toNat (b.fld F.TXP_HOSTCFG_WAKE_REPEAT + 1)) false false false) (loOk w.toNat)
      (t := t)
    exact ⟨fun tag t ht => run ((u.opWakeTx_eq h port).trans ((eq t).1 tag ht)),
      fun code t ht => run ((u.opWakeTx_eq h port).trans ((eq t).2 code ht))⟩
  case key =>
    intro kek key hkek hkey
    have as {t : State} := exec_of_passes (t := t) (exec_keyLoad c v v2 d s) h
    have tp : (s.cmdHdr c 0x0301 ([v, v2] ++ d) []).tp = c.tp := rfl
    generalize s.cmdState c _ _ _ = u, s.cmdHdr c _ _ _ = h at as hkek tp ⊢
    have hkey : kwUnwrap (u.wrapKey h.tp h.auth) d = some key := by rw [tp, show u.wrapKey c.tp h.auth = kek from hkek.symm, hkey]
    have load := fun slot => u.opKeyLoad_unwrapped h (v := v) (v2 := v2) hkey slot
    have vault (range : k ≤ 63) : u.keyLoaded h k v2.toNat key = if u.vaultHeld k v2.toNat
        then (u.setFld F.FRM_STAT_VAULT_ERR 1).reply h 0x0301 .noSpace else (u.vaultPut k v2.toNat key).reply h 0x0301 .ok :=
      (if_neg (by omega)).trans (if_neg (by omega))
    refine ⟨fun range free => as ?_, fun range held =>
      ⟨_, as ((load (.inl range)).trans ((vault range).trans (if_pos held))), u.vaultRefused h⟩, fun t e => as ?_, fun r e => as ?_⟩
    · exact (load (.inl range)).trans ((vault range).trans (if_neg (by simp [free])))
    · exact (load (.inr ⟨.inl (by rw [t]; rfl), by rw [e]; rfl⟩)).trans (if_pos (by rw [t]; rfl))
    · exact (load (.inr ⟨.inr (by rw [r]; rfl), by rw [e]; rfl⟩)).trans ((if_neg (by rw [r]; decide)).trans (if_pos (by rw [r]; rfl)))
  case epoch =>
    intro range
    have as {t : State} := exec_of_passes (t := t) (exec_epochSwitch c v v2 s) h
    exact ⟨fun held => as (State.opEpochSwitch_held _ _ range held), fun empty => as (State.opEpochSwitch_empty _ _ empty)⟩
  case filter =>
    intro dup cfg stood
    exact exec_of_passes (exec_filterCfg c w w2 s) h (State.opFilterCfg_stood _ _ dup cfg stood)
  case downlink =>
    intro flags least most ver typ mac t ht room x a
    have as {t : State} := exec_of_passes (t := t) (exec_downlink c src n v d s) h
    have run := State.opDownlink_taken _ (s.cmdHdr c 0x0304 (leBytes 6 src.toNat ++ parHalf n ++ [v]) d) (n := n) flags least most ver typ mac
      ht room
    exact ⟨fun ne => as (run.trans (if_neg ne)), fun e => as (run.trans (if_pos e))⟩
  case journal =>
    have as {t : State} := exec_of_passes (t := t) (exec_journalRead c w n s) h
    have first : pNat (parWord w ++ parHalf n) 0 4 = w.toNat := pNat_parWord [] (parHalf n) w rfl
    have count : pNat (parWord w ++ parHalf n) 4 2 = n.toNat := by simpa only [List.append_nil] using pNat_parHalf (parWord w) [] n (o := 4) rfl
    generalize s.cmdState c _ _ _ = u, s.cmdHdr c _ _ _ = h at as ⊢
    have run : u.hcpRun h 0x0306 (parWord w ++ parHalf n) [] = u.opJournalRead h w.toNat n.toNat := congrArg₂ (u.opJournalRead h) first count
    exact ⟨fun some_ => as (run.trans (u.opJournalRead_some h some_)),
      fun asked none_ => as (run.trans (u.opJournalRead_none h (fun e => asked (BitVec.eq_of_toNat_eq e)) none_))⟩
  case lineRole =>
    intro port role
    have run (u : State) (h : Hdr) : u.opLineRole h v.toNat v2.toNat = State.reply _ h 0x0401 .ok := if_neg (by omega)
    exact exec_of_passes (exec_lineRole c v v2 s) h (run _ _)
  case lineMode =>
    intro port mode fall
    have run (u : State) (h : Hdr) : u.opLineMode h v.toNat v2.toNat v3.toNat = State.reply _ h 0x0402 .ok := if_neg (by omega)
    exact exec_of_passes (exec_lineMode c v v2 v3 s) h (run _ _)
  case lineStatus =>
    intro port
    have run (u : State) (h : Hdr) : u.opLineStatus h v.toNat = u.reply h 0x0403 .ok _ := if_neg (Nat.not_lt.2 port)
    exact exec_of_passes (exec_lineStatus c v s) h (run _ _)
  case retrain =>
    intro port
    have as {t : State} := exec_of_passes (t := t) (exec_lineRetrain c v s) h
    exact ⟨fun down => as (State.opLineRetrain_down _ _ port down), fun up => as (State.opLineRetrain_up _ _ port up)⟩

end Sys2Proof.Machine
end

section
/-! The real-time clock: writes on their way, the calendar, alarms and the backup supply (R49, R56, R351 to R359). -/

namespace Sys2Proof.Machine

/-! ### The calendar -/

/-- The calendar registers show a count of seconds (R351). -/
def State.ShowsCal (t : State) (x : Nat) : Prop :=
  t.fld F.RTC_TIME_HOUR = x % 86400 / 3600 ∧ t.fld F.RTC_TIME_MIN = x % 3600 / 60
    ∧ t.fld F.RTC_TIME_SEC = x % 60 ∧ t.fld F.RTC_DATE_WDAY = (x % calRange / 86400 + 5) % 7 + 1

theorem State.fld_congr {s t : State} {f : Fld} {n : Nat} (h : t.reg f.reg n = s.reg f.reg n) : t.fld f n = s.fld f n := by
  rw [State.fld, h, State.fld]

theorem State.ShowsCal.congr {s t : State} {x : Nat} (h : s.ShowsCal x) (time : t.reg .RTC_TIME = s.reg .RTC_TIME)
    (date : t.reg .RTC_DATE = s.reg .RTC_DATE) : t.ShowsCal x := by
  obtain ⟨hour, min, sec, wday⟩ := h
  exact ⟨(State.fld_congr time).trans hour, (State.fld_congr time).trans min, (State.fld_congr time).trans sec,
    (State.fld_congr date).trans wday⟩

/-- The three fields of the time of day, written one after another, read as written. -/
theorem State.time_set (s : State) {h m c : Nat} (hh : h < 256) (hm : m < 256) (hc : c < 256) :
    let t := ((s.setFld F.RTC_TIME_HOUR h).setFld F.RTC_TIME_MIN m).setFld F.RTC_TIME_SEC c
    t.fld F.RTC_TIME_HOUR = h ∧ t.fld F.RTC_TIME_MIN = m ∧ t.fld F.RTC_TIME_SEC = c := by
  refine ⟨?_, ?_, ?_⟩
  · rw [State.fld_setFld_of_disjoint _ _ _ _ _ _ (by decide) (by decide), State.fld_setFld_of_disjoint _ _ _ _ _ _ (by decide) (by decide),
      State.fld_setFld _ _ _ _ (by decide) (by decide)]
    exact Nat.mod_eq_of_lt hh
  · rw [State.fld_setFld_of_disjoint _ _ _ _ _ _ (by decide) (by decide), State.fld_setFld _ _ _ _ (by decide) (by decide)]
    exact Nat.mod_eq_of_lt hm
  · rw [State.fld_setFld _ _ _ _ (by decide) (by decide)]
    exact Nat.mod_eq_of_lt hc

/-- Setting the calendar writes RTC_TIME and RTC_DATE alone. -/
theorem State.reg_setCal (s : State) (x : Nat) {r : RegName} (time : r ≠ .RTC_TIME) (date : r ≠ .RTC_DATE) (n : Nat) :
    (s.setCal x).reg r n = s.reg r n := by
  simp [State.setCal, State.reg_setFld_ite, time, date]

theorem State.setCal_pwr (s : State) (x : Nat) : (s.setCal x).pwr = s.pwr := by simp [State.setCal]
theorem State.setCal_hcp (s : State) (x : Nat) : (s.setCal x).hcp = s.hcp := by simp [State.setCal]
theorem State.setCal_cyc (s : State) (x : Nat) : (s.setCal x).cyc = s.cyc := by simp [State.setCal]
theorem State.setCal_rtc (s : State) (x : Nat) : (s.setCal x).rtc = s.rtc := by simp [State.setCal]

theorem State.setCal_shows (s : State) (x : Nat) : (s.setCal x).ShowsCal x := by
  unfold State.setCal
  dsimp only
  generalize dateOf (x % calRange / 86400) = ymd
  obtain ⟨y, m, dd⟩ := ymd
  dsimp only
  obtain ⟨hour, min, sec⟩ := s.time_set (h := x % 86400 / 3600) (m := x % 86400 / 60 % 60) (c := x % 86400 % 60) (by omega) (by omega) (by omega)
  generalize ((s.setFld F.RTC_TIME_HOUR (x % 86400 / 3600)).setFld F.RTC_TIME_MIN (x % 86400 / 60 % 60)).setFld F.RTC_TIME_SEC
    (x % 86400 % 60) = t at hour min sec ⊢
  have time (f : Fld) (hf : f.reg = .RTC_TIME) :
      ((((t.setFld F.RTC_DATE_YEAR y).setFld F.RTC_DATE_MONTH m).setFld F.RTC_DATE_DAY dd).setFld F.RTC_DATE_WDAY
        ((x % calRange / 86400 + 5) % 7 + 1)).fld f = t.fld f := by
    refine State.fld_congr ?_
    simp [State.reg_setFld_ite, hf]
  refine ⟨(time _ rfl).trans hour, (time _ rfl).trans (min.trans (by omega)), (time _ rfl).trans (sec.trans (by omega)), ?_⟩
  rw [State.fld_setFld _ _ _ _ (by decide) (by decide)]
  exact Nat.mod_eq_of_lt (show (x % calRange / 86400 + 5) % 7 + 1 < 8 by omega)

theorem State.calSec_congr {s t : State} (h : t.regs = s.regs) : t.calSec = s.calSec := by
  simp only [State.calSec, State.fld, State.reg_congr h]

/-! ### Alarms -/

/-- What the alarms change: RTC_STAT, the event fabric, and their own memory of when they fired. -/
def State.Rung (s t : State) : Prop :=
  (∀ r n, r ≠ .RTC_STAT → t.reg r n = s.reg r n) ∧ t.pwr = s.pwr ∧ t.hcp = s.hcp ∧ t.cyc = s.cyc
    ∧ t.rtc = { s.rtc with fired := t.rtc.fired, back := t.rtc.back, edge := t.rtc.edge }

theorem State.Rung.refl (s : State) : State.Rung s s := ⟨fun _ _ _ => rfl, rfl, rfl, rfl, rfl⟩

theorem State.Rung.trans {s t u : State} (h : State.Rung s t) (h' : State.Rung t u) : State.Rung s u := by
  obtain ⟨reg, pwr, hcp, cyc, rtc⟩ := h
  obtain ⟨reg', pwr', hcp', cyc', rtc'⟩ := h'
  refine ⟨fun r n hr => (reg' r n hr).trans (reg r n hr), pwr'.trans pwr, hcp'.trans hcp, cyc'.trans cyc, ?_⟩
  rw [rtc', rtc]

theorem State.rung_setFld (s : State) (f : Fld) (hf : f.reg = .RTC_STAT) (v : Nat) : State.Rung s (s.setFld f v) := by
  refine ⟨fun r n hr => ?_, by simp, by simp, by simp, by simp⟩
  rw [State.reg_setFld_ite, if_neg]
  rintro ⟨rfl, -⟩
  exact hr hf

theorem State.rung_publish (s : State) (p : Nat) : State.Rung s (s.publish p) := by rw [State.publish_eq]; exact .refl _

theorem State.rung_alarmFire (s : State) (a t : Nat) (passed : Bool) : State.Rung s (s.alarmFire a t passed) := by
  unfold State.alarmFire
  extract_lets s1 p q
  have h1 : State.Rung s s1 := by
    simp only [s1]
    split <;> exact (s.rung_setFld _ rfl _).trans (State.rung_setFld _ _ rfl _)
  refine h1.trans ?_
  obtain ⟨ev, e⟩ : ∃ ev, p = { s1 with evf := ev } := ⟨_, s1.publish_eq _⟩
  rw [e]
  exact ⟨fun _ _ _ => rfl, rfl, rfl, rfl, rfl⟩

theorem State.rung_alarmPast (a t : Nat) (s : State) : State.Rung s (State.alarmPast a t s) := by
  unfold State.alarmPast
  split
  · split
    · exact ⟨fun _ _ _ => rfl, rfl, rfl, rfl, rfl⟩
    · exact .refl s
  · exact .refl s

theorem State.rung_alarms (s : State) (t : Nat) : State.Rung s (s.alarms t) := by
  refine foldOver_inv (State.Rung s) _ (fun a u hu => hu.trans ?_) _ _ (.refl s)
  refine .trans ?_ (State.rung_alarmPast a t _)
  split
  · exact u.rung_alarmFire a t false
  · exact .refl u

theorem State.rung_alarmsAdjust (s : State) (old new : Nat) : State.Rung s (s.alarmsAdjust old new) := by
  refine foldOver_inv (State.Rung s) _ (fun a u hu => hu.trans ?_) _ _ (.refl s)
  split
  · refine .trans ?_ (State.rung_alarmPast a new _)
    split
    · dsimp only
      split
      · exact u.rung_alarmFire a _ true
      · exact .refl u
    · exact .refl u
  · split
    · exact .refl u
    · split
      · (repeat' split) <;> exact ⟨fun _ _ _ => rfl, rfl, rfl, rfl, rfl⟩
      · exact .refl u

theorem State.rung_edgeUndo (s : State) : State.Rung s s.edgeUndo.2 := by
  unfold State.edgeUndo
  split
  · next e _ =>
    split
    · exact .refl s
    · extract_lets s1
      have h1 : State.Rung s s1 := by
        refine foldOver_inv (State.Rung s) _ (fun a u hu => hu.trans ?_) _ _ (.refl s)
        split <;> exact ⟨fun _ _ _ => rfl, rfl, rfl, rfl, rfl⟩
      refine h1.trans ⟨fun r n hr => ?_, rfl, rfl, rfl, rfl⟩
      exact State.reg_setReg_of_ne _ _ _ _ _ _ (.inl hr)
  · exact .refl s

/-! ### Wakes and the end of a write -/

theorem State.exchOpen_outer (s : State) (e : Exch) : (s.exchOpen e).outer = s.outer := by
  simp [State.exchOpen]

theorem State.alarmWake_outer (s u : State) : (State.alarmWake s u).outer = u.outer := by
  unfold State.alarmWake State.wake
  dsimp only
  (repeat' split) <;> simp [State.exchOpen_outer]

/-- Where no alarm flag has risen, nothing wakes (R356). -/
theorem State.alarmWake_of_quiet (s u : State) (alm0 : u.flag F.RTC_STAT_ALM0 = s.flag F.RTC_STAT_ALM0)
    (alm1 : u.flag F.RTC_STAT_ALM1 = s.flag F.RTC_STAT_ALM1) : State.alarmWake s u = u := by
  rw [State.alarmWake, if_pos]
  simp [alm0, alm1]

/-- In LISTEN and RUN an alarm opens the exchange of the clock, at most (R49). -/
theorem State.alarmWake_on (s u : State) (level : u.level ≤ 1) : State.alarmWake s u = u ∨ State.alarmWake s u = u.exchOpen .rtc := by
  unfold State.alarmWake State.wake
  dsimp only
  rw [if_neg (show ¬u.level = 3 by omega), if_neg (show ¬u.level = 2 by omega), if_neg (show ¬u.level = 3 by omega)]
  (repeat' split) <;> simp

theorem State.exchOpen_reg (s : State) (e : Exch) {r : RegName} (hr : r ≠ .SYSCTL_PSTATE) (n : Nat) : (s.exchOpen e).reg r n = s.reg r n := by
  have set : (s.exchOpen e).reg r n = (s.setExch e true).reg r n := rfl
  rw [set, State.setExch, State.reg_setFld_ite, if_neg (fun h => hr h.1)]

theorem State.exchOpen_rtc (s : State) (e : Exch) : (s.exchOpen e).rtc = s.rtc := by
  simp [State.exchOpen, State.entryDrop, State.setExch]

/-- The Supervisor's next command changes no register, and nothing of the clock but the write that sets out. -/
theorem State.rtcNext_keeps (k : Nat) (s : State) :
    (State.rtcNext k s).regs = s.regs ∧ (State.rtcNext k s).rtc.ofsDue = s.rtc.ofsDue := by
  induction k generalizing s with
  | zero => exact ⟨rfl, rfl⟩
  | succ k ih =>
    have next (u : State) (h : Hdr) (op : Nat) (st : Status) (par : Bytes) (hu : u.regs = s.regs ∧ u.rtc = s.rtc) :
        (State.rtcNext k (u.reply h op st par)).regs = s.regs ∧ (State.rtcNext k (u.reply h op st par)).rtc.ofsDue = s.rtc.ofsDue := by
      have posted := u.posted_reply h op st par []
      have rtc : (u.reply h op st par).rtc = u.rtc := by rw [posted]
      exact ⟨(ih _).1.trans (posted.regs.trans hu.1), (ih _).2.trans (by rw [rtc, hu.2])⟩
    unfold State.rtcNext
    split
    · exact ⟨rfl, rfl⟩
    · split
      · exact ⟨rfl, rfl⟩
      · split
        · exact ⟨rfl, rfl⟩
        · dsimp only
          split
          · split
            · exact ⟨rfl, rfl⟩
            · exact next _ _ _ _ _ ⟨rfl, rfl⟩
          · exact next _ _ _ _ _ ⟨rfl, rfl⟩

theorem State.rtcNext_nil (k : Nat) (s : State) (h : s.hcp.rtc = []) : State.rtcNext k s = s := by
  cases k with
  | zero => rfl
  | succ k => simp [State.rtcNext, h]

/-- The state in which a write to the clock has its effect (R352). -/
def State.written (s : State) (r : RegName) (n : Nat) (w : Word) : State := (s.onRtc fun x => { x with wr := none }).rtcApply r n w

theorem State.rtcWriteDone_eq (s : State) {r : RegName} {n : Nat} {w : Word} (hw : s.rtc.wr = some (r, n, w)) :
    s.rtcWriteDone = State.rtcNext (State.alarmWake s (s.written r n w)).hcp.rtc.length (State.alarmWake s (s.written r n w)) := by
  rw [State.rtcWriteDone, hw]; rfl

/-- A write that rings no alarm, with no command of HCP on the clock, has its effect alone. -/
theorem State.rtcWriteDone_of_quiet (s : State) {r : RegName} {n : Nat} {w : Word} (hw : s.rtc.wr = some (r, n, w)) (queue : s.hcp.rtc = [])
    (hcp : (s.written r n w).hcp = s.hcp) (alm0 : (s.written r n w).flag F.RTC_STAT_ALM0 = s.flag F.RTC_STAT_ALM0)
    (alm1 : (s.written r n w).flag F.RTC_STAT_ALM1 = s.flag F.RTC_STAT_ALM1) :
    s.rtcWriteDone = s.written r n w := by
  rw [s.rtcWriteDone_eq hw, s.alarmWake_of_quiet _ alm0 alm1, State.rtcNext_nil _ _ (by rw [hcp, queue])]

/-! ### What each write does -/

theorem State.flag_congr {s t : State} {f : Fld} {n : Nat} (h : t.reg f.reg n = s.reg f.reg n) : t.flag f n = s.flag f n := by
  rw [State.flag, State.fld_congr h, State.flag]

/-- HALT set holds the calendar, with SUB at 0 (R353). -/
theorem State.rtcHalt_held (s : State) (h : s.flag F.RTC_CTRL_HALT = false) :
    let t := s.rtcHalt
    t.rtc.wr = s.rtc.wr ∧ t.flag F.RTC_CTRL_HALT = true ∧ t.reg .RTC_SUB = 0 ∧ t.rtc.sub = 0 ∧ t.hcp = s.hcp
      ∧ ∀ r, r ≠ .RTC_CTRL → r ≠ .RTC_SUB → t.reg r = s.reg r := by
  intro t
  have ht : t = ((s.setFld F.RTC_CTRL_HALT 1).setReg .RTC_SUB 0 0).onRtc fun x =>
      { x with old := some s.calSec, sub := 0, haltAt := some s.cyc } := if_neg (by simp [h])
  have ctrl : t.reg .RTC_CTRL = (s.setFld F.RTC_CTRL_HALT 1).reg .RTC_CTRL := by
    rw [ht]
    exact (State.reg_congr (State.onRtc_regs _ _) _ _).trans (State.reg_setReg_of_ne _ .RTC_SUB .RTC_CTRL 0 0 0 (.inl (by decide)))
  refine ⟨by rw [ht]; simp, ?_, ?_, by rw [ht]; rfl, by rw [ht]; simp, fun r hc hs => ?_⟩
  · rw [State.flag_congr (f := F.RTC_CTRL_HALT) ctrl, State.flag, State.fld_setFld _ _ _ _ (by decide) (by decide)]; decide
  · rw [ht]; exact (State.reg_congr (State.onRtc_regs _ _) _ _).trans (State.reg_setReg _ _ _ _)
  · rw [ht, State.reg_congr (State.onRtc_regs _ _), State.reg_setReg_of_ne _ _ _ _ _ _ (.inl hs), State.reg_setFld_ite, if_neg (fun e => hc e.1)]

/-- A valid setting, with no old time to adjust from, releases the calendar at the time set (R353). -/
theorem State.rtcRelease_valid (s : State) (h : s.flag F.RTC_CTRL_HALT = true) (valid : s.calValid = true) (old : s.rtc.old = none) :
    let t := s.rtcRelease
    t.flag F.RTC_CTRL_HALT = false ∧ t.ShowsCal s.calSec ∧ t.hcp = s.hcp ∧ t.reg .RTC_STAT = s.reg .RTC_STAT := by
  intro t
  have ht : t = ((((s.setFld F.RTC_CTRL_HALT 0).setCal s.calSec).setReg .RTC_SUB 0 0).onRtc fun x =>
      { x with old := none, ofsDue := true, sub := 0 }) := by
    simp only [t, State.rtcRelease, h, valid, old]
    rfl
  have kept (r : RegName) (hs : r ≠ .RTC_SUB) : t.reg r = ((s.setFld F.RTC_CTRL_HALT 0).setCal s.calSec).reg r := by
    rw [ht, State.reg_congr (State.onRtc_regs _ _), State.reg_setReg_of_ne _ _ _ _ _ _ (.inl hs)]
  refine ⟨?_, ?_, ?_, ?_⟩
  · rw [State.flag_congr (f := F.RTC_CTRL_HALT) ((kept _ (by decide)).trans (State.reg_setCal _ _ (by decide) (by decide) 0)), State.flag,
      State.fld_setFld _ _ _ _ (by decide) (by decide)]
    decide
  · exact (State.setCal_shows _ _).congr (kept _ (by decide)) (kept _ (by decide))
  · rw [ht, State.onRtc_hcp, State.setReg_hcp, State.setCal_hcp, State.setFld_hcp]
  · rw [kept _ (by decide), State.reg_setCal _ _ (by decide) (by decide), State.reg_setFld_ite, if_neg (by decide)]

theorem State.rtcRelease_invalid (s : State) (h : s.flag F.RTC_CTRL_HALT = true) (valid : s.calValid = false) :
    s.rtcRelease = s.setFld F.RTC_STAT_BAD_SET 1 := by simp [State.rtcRelease, h, valid]

theorem State.rtcRelease_running (s : State) (h : s.flag F.RTC_CTRL_HALT = false) : s.rtcRelease = s := by simp [State.rtcRelease, h]

/-- An adjustment that stays behind 2000 moves the calendar, and the offset to network time is due (R355). -/
theorem State.calAdjust_moved (s : State) (d : Int) {x : Nat} (hx : (s.calSec : Int) + d = x) :
    (s.calAdjust d).ShowsCal x ∧ (s.calAdjust d).rtc.ofsDue = true := by
  unfold State.calAdjust
  obtain ⟨old, u⟩ := s.edgeUndo
  have moved : ¬(s.calSec : Int) + d < 0 := by omega
  dsimp only
  rw [if_neg moved]
  dsimp only
  rw [hx, Int.toNat_natCast]
  have wrapped : ∀ r, r ≠ .RTC_STAT → (if x ≥ calRange then (u.setCal x).setFld F.RTC_STAT_WRAP 1 else u.setCal x).reg r = (u.setCal x).reg r := by
    intro r hr
    split
    · rw [State.reg_setFld_ite, if_neg (fun e => hr e.1)]
    · rfl
  generalize (if x ≥ calRange then (u.setCal x).setFld F.RTC_STAT_WRAP 1 else u.setCal x) = v at wrapped ⊢
  obtain ⟨reg, -⟩ := v.rung_alarmsAdjust old x
  exact ⟨(u.setCal_shows x).congr ((reg _ 0 (by decide)).trans (wrapped _ (by decide))) ((reg _ 0 (by decide)).trans (wrapped _ (by decide))), rfl⟩

/-! ### A second boundary -/

theorem State.rtcCapture_regs (s : State) :
    let t := s.rtcCapture
    t.reg .RTC_CAPTIME = s.reg .RTC_TIME ∧ t.reg .RTC_CAPDATE = s.reg .RTC_DATE ∧ t.reg .RTC_CAPSUB = s.reg .RTC_SUB
      ∧ t.rtc = s.rtc ∧ t.pwr = s.pwr ∧ t.hcp = s.hcp ∧ t.cyc = s.cyc ∧ t.evf = s.evf
      ∧ ∀ r, r ≠ .RTC_CAPTIME → r ≠ .RTC_CAPDATE → r ≠ .RTC_CAPSUB → t.reg r = s.reg r := by
  refine ⟨?_, ?_, ?_, rfl, rfl, rfl, rfl, rfl, fun r ht hd hs => ?_⟩ <;> simp [State.rtcCapture, State.reg_setReg_ite, *]

/-- What a second boundary leaves: the calendar a second on, SUB at 0, and the power state as it was (R351). -/
theorem State.calSecond_advanced (s : State) :
    let t := s.calSecond
    t.ShowsCal (s.calSec + 1) ∧ t.reg .RTC_SUB = 0 ∧ t.rtc.sub = 0 ∧ t.pwr = s.pwr ∧ t.cyc = s.cyc ∧ t.rtc.capAt = s.rtc.capAt
      ∧ t.reg .SYSCTL_PSTATE = s.reg .SYSCTL_PSTATE ∧ t.reg .RTC_CTRL = s.reg .RTC_CTRL := by
  unfold State.calSecond
  extract_lets s0 x s1 s2 s3
  have h0 : s0.regs = s.regs ∧ s0.rtc = s.rtc ∧ s0.pwr = s.pwr ∧ s0.cyc = s.cyc := by
    simp [s0, foldOver_cons, foldOver_nil]
  have hx : x = s.calSec + 1 := by rw [← State.calSec_congr h0.1]
  clear_value s0 x
  obtain ⟨regs, rtc, pwr, cyc⟩ := h0
  have h1 : s1.ShowsCal x ∧ s1.reg .RTC_SUB = 0 ∧ s1.rtc = s0.rtc ∧ s1.pwr = s0.pwr ∧ s1.cyc = s0.cyc
      ∧ s1.reg .SYSCTL_PSTATE = s0.reg .SYSCTL_PSTATE ∧ s1.reg .RTC_CTRL = s0.reg .RTC_CTRL := by
    have kept (r : RegName) (hs : r ≠ .RTC_SUB) : s1.reg r = (s0.setCal x).reg r := State.reg_setReg_of_ne _ _ _ _ _ _ (.inl hs)
    refine ⟨(s0.setCal_shows x).congr (kept _ (by decide)) (kept _ (by decide)), State.reg_setReg _ _ _ _, ?_, ?_, ?_, ?_, ?_⟩
    · rw [State.setReg_rtc, State.setCal_rtc]
    · rw [State.setReg_pwr, State.setCal_pwr]
    · rw [State.setReg_cyc, State.setCal_cyc]
    · rw [kept _ (by decide), State.reg_setCal _ _ (by decide) (by decide)]
    · rw [kept _ (by decide), State.reg_setCal _ _ (by decide) (by decide)]
  clear_value s1
  have h2 : State.Rung s1 s2 := by
    refine .trans ?_ (State.rung_publish _ 53)
    split
    · exact s1.rung_setFld _ rfl 1
    · exact .refl s1
  clear_value s2
  obtain ⟨reg3, pwr3, -, cyc3, rtc3⟩ := h2
  obtain ⟨reg4, pwr4, -, cyc4, rtc4⟩ := s3.rung_alarms (x % calRange)
  have kept (r : RegName) (hr : r ≠ .RTC_STAT) : (s3.alarms (x % calRange)).reg r = s1.reg r := (reg4 r 0 hr).trans (reg3 r 0 hr)
  obtain ⟨shows, sub, rtc1, pwr1, cyc1, state, ctrl⟩ := h1
  refine ⟨hx ▸ shows.congr (kept _ (by decide)) (kept _ (by decide)), (kept _ (by decide)).trans sub, ?_, ?_, ?_, ?_, ?_, ?_⟩
  · rw [rtc4]; rfl
  · exact pwr4.trans (pwr3.trans (pwr1.trans pwr))
  · exact cyc4.trans (cyc3.trans (cyc1.trans cyc))
  · rw [rtc4, show s3.rtc.capAt = s2.rtc.capAt from rfl, rtc3, rtc1, rtc]
  · exact (kept _ (by decide)).trans (state.trans (State.reg_congr regs .SYSCTL_PSTATE 0))
  · exact (kept _ (by decide)).trans (ctrl.trans (State.reg_congr regs .RTC_CTRL 0))

theorem State.rtcSecond_advanced (s : State) (halt : s.flag F.RTC_CTRL_HALT = false) (vbak : s.pwr.vbak = true) (on : s.cur ≤ 1) :
    s.rtcSecond.reg .RTC_SUB = 0 ∧ s.rtcSecond.rtc.sub = 0 ∧ s.rtcSecond.ShowsCal (s.calSec + 1) := by
  obtain ⟨shows, sub, count, pwr, cyc, capAt, state, ctrl⟩ := s.calSecond_advanced
  have running : s.rtcSecond = State.alarmWake s (if (s.rtc.capAt == some s.cyc) = true then s.calSecond.rtcCapture else s.calSecond) := by
    unfold State.rtcSecond
    dsimp only
    rw [if_neg (by simp [halt, vbak]), if_neg (c := s.flag F.RTC_CTRL_HALT = true) (by simp [halt])]
  rw [running]
  generalize s.calSecond = t at *
  have copied : ∃ u : State, (if (s.rtc.capAt == some s.cyc) = true then t.rtcCapture else t) = u ∧ u.ShowsCal (s.calSec + 1)
      ∧ u.reg .RTC_SUB = 0 ∧ u.rtc.sub = 0 ∧ u.level ≤ 1 := by
    have level (u : State) (hp : u.pwr = t.pwr) (hr : u.reg .SYSCTL_PSTATE = t.reg .SYSCTL_PSTATE) : u.level ≤ 1 := by
      have cur : u.cur = s.cur := State.fld_congr (f := F.SYSCTL_PSTATE_CUR) (hr.trans state)
      unfold State.level
      split <;> omega
    refine ⟨_, rfl, ?_⟩
    split
    · obtain ⟨-, -, -, rtc', pwr', -, -, -, kept⟩ := t.rtcCapture_regs
      have kept' (r : RegName) := kept r
      exact ⟨shows.congr (kept _ (by decide) (by decide) (by decide)) (kept _ (by decide) (by decide) (by decide)),
        (kept _ (by decide) (by decide) (by decide)).trans sub, by rw [rtc']; exact count,
        level _ pwr' (kept _ (by decide) (by decide) (by decide))⟩
    · exact ⟨shows, sub, count, level t rfl rfl⟩
  obtain ⟨u, hu, shows, sub, count, level⟩ := copied
  rw [hu]
  rcases State.alarmWake_on s u level with e | e <;> rw [e]
  · exact ⟨sub, count, shows⟩
  · refine ⟨(u.exchOpen_reg .rtc (by decide) 0).trans sub, by rw [State.exchOpen_rtc]; exact count, ?_⟩
    exact shows.congr (u.exchOpen_reg .rtc (by decide) 0) (u.exchOpen_reg .rtc (by decide) 0)

end Sys2Proof.Machine
end

section
/-! The backup domain, the event fabric and the release of cores (R56, R351, R359, R362 to R367, R374, R375, R381). -/

namespace Sys2Proof.Machine

/-! ### The backup domain -/

/-- The measurement of VBAK shows VBAK_LOW, and stops charging at the limit (R359). -/
theorem State.vbakMeasure_shows (s : State) (powered : Bool) (mv : Nat) :
    let t := s.vbakMeasure powered mv
    t.flag F.RTC_STAT_VBAK_LOW = decide (mv < 2000) ∧ (s.chargeLimit ≤ mv → t.flag F.RTC_STAT_CHARGING = false) := by
  have reads (u : State) (f : RtcState → RtcState) (x : Fld) : (u.onRtc f).fld x = u.fld x := State.fld_congr (State.reg_congr (State.onRtc_regs _ _) _ _)
  unfold State.vbakMeasure State.flag State.setFlag
  simp only [reads]
  refine ⟨?_, fun full => ?_⟩
  · rw [State.fld_setFld_of_disjoint _ _ _ _ _ _ (by decide) (by decide), State.fld_setFld _ _ _ _ (by decide) (by decide)]
    cases decide (mv < 2000) <;> decide
  · rw [State.fld_setFld _ _ _ _ (by decide) (by decide)]
    simp [full, b2n]

theorem State.reg_of_lostKey {s t : State} {p : Nat → Bool} (h : t.regs = Tab.keep s.regs fun k _ => p k) {r : RegName} {n : Nat}
    (hp : p (r.key n) = false) : t.reg r n = regReset r n := by
  rw [State.reg, h, Tab.getD, Tab.find_keep, if_neg (by simp [hp])]

/-- A register that a power state does not keep reads its reset value. -/
theorem State.reg_of_lost {s t : State} {p : RegName → Bool} (h : t.regs = s.keepRegs p) {r : RegName} (hr : p r = false) (n : Nat) :
    t.reg r n = regReset r n := by
  refine State.reg_of_lostKey (p := fun k => match regTable[k % 512]? with
    | some row => p row.name
    | none => false) h ?_
  rw [RegName.key_mod, List.getElem?_eq_getElem r.ctorIdx_lt_length]
  have name : (regTable[r.ctorIdx]'r.ctorIdx_lt_length).name = r := by rw [← regRow_eq_getElem, regRow_name]
  simp [name, hr]

/-- The tag front end has the field that it had, in the state that the loss of its core leaves (R56). -/
theorem State.frontEnd_stat (old s : State) :
    let t := State.frontEnd old s
    t.flag F.CTL_STAT_FIELD = old.flag F.CTL_STAT_FIELD ∧ t.flag F.CTL_STAT_READER_ON = false
      ∧ t.fld F.CTL_STAT_TAG_STATE = (if old.fld F.CTL_STAT_TAG_STATE = 5 then 4 else old.fld F.CTL_STAT_TAG_STATE)
      ∧ (∀ r n, r ≠ .CTL_STAT → t.reg r n = s.reg r n) ∧ t.pwr = s.pwr ∧ t.mem = s.mem := by
  unfold State.frontEnd
  generalize hu : (((s.setFld F.CTL_STAT_FIELD (old.fld F.CTL_STAT_FIELD)).setFld F.CTL_STAT_TAG_STATE (old.fld F.CTL_STAT_TAG_STATE)).onCtl
    fun c => { c with quiet := old.ctl.quiet, recent := old.ctl.recent }) = u
  have field : u.fld F.CTL_STAT_FIELD = old.fld F.CTL_STAT_FIELD := by
    rw [← hu, State.fld_congr (State.reg_congr (State.onCtl_regs _ _) _ _), State.fld_setFld_of_disjoint _ _ _ _ _ _ (by decide) (by decide),
      State.fld_setFld _ _ _ _ (by decide) (by decide)]
    exact Nat.mod_eq_of_lt (old.fld_lt F.CTL_STAT_FIELD 0)
  have tag : u.fld F.CTL_STAT_TAG_STATE = old.fld F.CTL_STAT_TAG_STATE := by
    rw [← hu, State.fld_congr (State.reg_congr (State.onCtl_regs _ _) _ _), State.fld_setFld _ _ _ _ (by decide) (by decide)]
    exact Nat.mod_eq_of_lt (old.fld_lt F.CTL_STAT_TAG_STATE 0)
  have other (r : RegName) (n : Nat) (hr : r ≠ .CTL_STAT) : u.reg r n = s.reg r n := by
    rw [← hu, State.reg_congr (State.onCtl_regs _ _), State.reg_setFld_ite, if_neg (fun e => hr e.1), State.reg_setFld_ite,
      if_neg (fun e => hr e.1)]
  have pwr : u.pwr = s.pwr := by rw [← hu]; simp
  have mem : u.mem = s.mem := by rw [← hu]; simp
  clear hu
  refine ⟨?_, ?_, ?_, fun r n hr => (u.reg_ctlCoreLost hr n).trans (other r n hr), u.ctlCoreLost_pwr.trans pwr, u.ctlCoreLost_mem.trans mem⟩
  · unfold State.ctlCoreLost State.flag
    rw [State.fld_setFld_of_disjoint _ _ _ _ _ _ (by decide) (by decide)]
    split
    · rw [State.fld_setFld_of_disjoint _ _ _ _ _ _ (by decide) (by decide), field]
    · rw [field]
  · unfold State.ctlCoreLost State.flag
    rw [State.fld_setFld _ _ _ _ (by decide) (by decide)]
    decide
  · unfold State.ctlCoreLost
    rw [State.fld_setFld_of_disjoint _ _ _ _ _ _ (by decide) (by decide), tag]
    split
    · rw [State.fld_setFld _ _ _ _ (by decide) (by decide)]; decide
    · exact tag

/-! ### Groups, channels and consumers -/

/-- A group opens unless it has been closed in this cycle, and closes always; the others stay (R374, R375). -/
theorem State.groupSet_bit (s : State) (g : Nat) (hg : g < 16) (opening : Bool) (k : Nat) :
    ((s.groupSet g opening).reg .EVF_GRP_STATE).getLsbD k =
      if k = g ∧ ¬(opening = true ∧ s.evf.closed.contains g = true) then opening else (s.reg .EVF_GRP_STATE).getLsbD k := by
  have set : ((s.setReg .EVF_GRP_STATE 0 (wordPut (s.reg .EVF_GRP_STATE) g g (b2n opening))).reg .EVF_GRP_STATE).getLsbD k =
      if k = g then opening else (s.reg .EVF_GRP_STATE).getLsbD k := by
    rw [State.reg_setReg, getLsbD_wordPut _ _ _ _ _ (by omega)]
    by_cases h : k = g
    · rw [if_pos (by omega), if_pos h, h, Nat.sub_self]
      cases opening <;> decide
    · rw [if_neg (by omega), if_neg h]
  unfold State.groupSet
  cases opening with
  | false => exact Eq.trans rfl (set.trans (by simp))
  | true =>
    by_cases closed : s.evf.closed.contains g = true
    · rw [if_pos (by simp only [closed]; rfl), if_neg (fun e => e.2 ⟨rfl, closed⟩)]
    · simp only [closed, Bool.and_false, Bool.false_eq_true, if_false, if_true, set, and_false, not_false_eq_true, and_true]

/-- Opening a group closes none in this cycle. -/
theorem State.groupSet_closed (s : State) (g : Nat) : (s.groupSet g true).evf = s.evf := by
  unfold State.groupSet
  split
  · rfl
  · simp

/-- The groups that CL0 opens (R374). -/
theorem State.groups_opened (w : Word) (l : List Nat) (hl : ∀ g ∈ l, g < 16) (s : State) (k : Nat) :
    ((foldOver (fun g (t : State) => if bit w.toNat g = true then t.groupSet g true else t) l s).reg .EVF_GRP_STATE).getLsbD k =
      ((l.contains k && bit w.toNat k && !s.evf.closed.contains k) || (s.reg .EVF_GRP_STATE).getLsbD k) := by
  induction l generalizing s with
  | nil => simp [foldOver_nil]
  | cons g l ih =>
    rw [foldOver_cons, ih (fun x hx => hl x (List.mem_cons_of_mem _ hx)), List.contains_cons]
    by_cases named : bit w.toNat g = true
    · rw [if_pos named, State.groupSet_closed, State.groupSet_bit _ _ (hl g List.mem_cons_self)]
      by_cases h : k = g
      · subst h
        cases hc : s.evf.closed.contains k <;> simp [named]
      · simp [h, beq_false_of_ne h]
    · rw [if_neg named]
      by_cases h : k = g
      · subst h; simp [named]
      · simp [beq_false_of_ne h]

/-- The groups that CL0 closes (R374). -/
theorem State.groups_closed (w : Word) (l : List Nat) (hl : ∀ g ∈ l, g < 16) (s : State) (k : Nat) :
    ((foldOver (fun g (t : State) => if bit w.toNat g = true then t.groupSet g false else t) l s).reg .EVF_GRP_STATE).getLsbD k =
      (!(l.contains k && bit w.toNat k) && (s.reg .EVF_GRP_STATE).getLsbD k) := by
  induction l generalizing s with
  | nil => simp [foldOver_nil]
  | cons g l ih =>
    rw [foldOver_cons, ih (fun x hx => hl x (List.mem_cons_of_mem _ hx)), List.contains_cons]
    by_cases named : bit w.toNat g = true
    · rw [if_pos named, State.groupSet_bit _ _ (hl g List.mem_cons_self)]
      by_cases h : k = g
      · subst h; simp [named]
      · simp [h, beq_false_of_ne h]
    · rw [if_neg named]
      by_cases h : k = g
      · subst h; simp [named]
      · simp [beq_false_of_ne h]

/-- CL0 names any group. -/
theorem State.evfGrpWrite_cl0 (s : State) (opening : Bool) (w : Word) :
    s.evfGrpWrite 0 opening w =
      foldOver (fun g (t : State) => if bit w.toNat g = true then t.groupSet g opening else t) (List.range 16) s := by
  simp [State.evfGrpWrite]

/-- CLR_COAL clears the count of a consumer and keeps its OVR (R366). -/
theorem State.clrCoal_clears (s : State) (n : Nat) :
    let t := (s.regStore .EVF_CSTAT n false 0x20000000#32).setFld F.EVF_CSTAT_COAL 0 n
    t.fld F.EVF_CSTAT_COAL n = 0 ∧ t.flag F.EVF_CSTAT_OVR n = s.flag F.EVF_CSTAT_OVR n := by
  refine ⟨by rw [State.fld_setFld _ _ _ _ (by decide) (by decide)]; decide, ?_⟩
  unfold State.flag
  rw [State.fld_setFld_of_disjoint _ _ _ _ _ _ (by decide) (by decide)]
  have bits : (s.regStore .EVF_CSTAT n false 0x20000000#32).fld F.EVF_CSTAT_OVR n = s.fld F.EVF_CSTAT_OVR n := by
    refine Nat.eq_of_testBit_eq fun i => ?_
    rw [State.testBit_fld, State.testBit_fld]
    by_cases h : i < 1
    · obtain rfl : i = 0 := by omega
      rw [State.reg_regStore_idle, State.getLsbD_storedWord _ _ _ _ _ _ (by decide), if_neg (by decide), if_neg (by simp)]
    · simp [h]
  rw [bits]

theorem State.writeReg_clrCoal (s : State) (cl n : Nat) :
    s.writeReg cl .EVF_CSTAT n 0x20000000#32 = (s.regStore .EVF_CSTAT n false 0x20000000#32).setFld F.EVF_CSTAT_COAL 0 n := by
  rw [State.writeReg, if_neg (by decide), if_pos (by decide), State.evfWrite]
  exact if_pos (by decide)

theorem State.writeReg_grpSet (s : State) (cl n : Nat) (w : Word) : s.writeReg cl .EVF_GRP_SET n w = s.evfGrpWrite cl true w := by
  rw [State.writeReg, if_neg (by decide), if_pos (by decide), State.evfWrite]

theorem State.writeReg_grpClr (s : State) (cl n : Nat) (w : Word) : s.writeReg cl .EVF_GRP_CLR n w = s.evfGrpWrite cl false w := by
  rw [State.writeReg, if_neg (by decide), if_pos (by decide), State.evfWrite]

theorem State.writeReg_fire (s : State) (cl n : Nat) (w : Word) : s.writeReg cl .EVF_FIRE n w = s.evfFire cl (bits w.toNat 7 0) := by
  rw [State.writeReg, if_neg (by decide), if_pos (by decide), State.evfWrite]

theorem State.writeReg_coreEn (s : State) (cl n : Nat) (w : Word) : s.writeReg cl .SYSCTL_CORE_EN n w = s.coreEnWrite w := by
  rw [State.writeReg, if_pos (by decide), State.sysWrite]

theorem State.writeReg_rtcCtrl (s : State) (cl n : Nat) (w : Word) : s.writeReg cl .RTC_CTRL n w = s.rtcWrite .RTC_CTRL n w := by
  rw [State.writeReg, if_neg (by decide), if_neg (by decide), if_neg (by decide), if_pos (by decide)]

theorem State.writeReg_rtcAdj (s : State) (cl n : Nat) (w : Word) : s.writeReg cl .RTC_ADJ n w = s.rtcWrite .RTC_ADJ n w := by
  rw [State.writeReg, if_neg (by decide), if_neg (by decide), if_neg (by decide), if_pos (by decide)]

/-- The one event in the fabric reaches its one consumer (R363, R366). -/
theorem State.consumersActivate_one (s : State) {n : Nat} (hn : n < 320) (on : s.evfRuns = true)
    (flight : s.evf.flight = [(s.cyc, .matched [n])]) :
    ∃ at', s.consumersActivate = State.taskInput [n] at' n { s with evf := { s.evf with flight := [] } } := by
  have oldest : s.evfOldest = some s.cyc := by simp [State.evfOldest, flight]
  have arrive : s.evfArrive = ([n], { s with evf := { s.evf with flight := [] } }) := by
    unfold State.evfArrive
    rw [oldest]
    simp [flight, State.stage1, State.stage2]
  have hit : (List.range 320).filter [n].contains = [n] := by
    have only : (List.range 320).filter (· == n) = List.replicate ((List.range 320).count n) n := List.filter_beq n
    rw [List.count_eq_one_of_mem List.nodup_range (List.mem_range.2 hn)] at only
    refine (List.filter_congr fun x _ => ?_).trans only
    simp [beq_eq_decide, eq_comm]
  refine ⟨max s.cyc (s.evfOldest.elim 0 (· + 3)), ?_⟩
  rw [State.consumersActivate, if_neg (by simp [on])]
  simp only [arrive, hit, foldOver_cons, foldOver_nil]

/-- A consumer outside the blocks that can be off or busy takes its task at once (R365, R367). -/
theorem State.taskInput_free (s : State) (at' : Nat) {n : Nat} (hn : n < 185) : State.taskInput [n] at' n s = s.task n := by
  have live : s.taskLive n = true := by
    rw [State.taskLive, if_neg (by omega), if_neg (by omega), if_neg (by omega), if_neg (by omega)]
  have busy : s.busyAt at' n = false := by
    have idle : s.consBusy n = false := by
      rw [State.consBusy, if_neg (by omega), if_neg (by omega), if_neg (by omega), if_neg (by omega)]
    have outside : ((n == 185) || (decide (218 ≤ n) && decide (n < 314)) || (decide (316 ≤ n) && decide (n < 319))) = false := by
      simp; omega
    rw [State.busyAt, idle, outside]; rfl
  have yields : taskYields [n] n = false := by simp [taskYields]; omega
  unfold State.taskInput
  simp [live, busy, yields, State.coalesce]

theorem State.tmrStart_running (s : State) (n : Nat) : (s.tmrStart n).flag F.TMR_TSTAT_RUNNING n = true := by
  unfold State.tmrStart State.tmrLoad State.flag State.setFlag
  rw [State.fld_setFld_of_disjoint _ _ _ _ _ _ (by decide) (by decide), State.fld_congr (State.reg_congr (State.onTmr_regs _ _) _ _),
    State.fld_setFld_of_disjoint _ _ _ _ _ _ (by decide) (by decide), State.fld_setFld _ _ _ _ (by decide) (by decide)]
  decide

/-- A GPIO edge while the fabric runs: IN shows it, and a selected edge is published two cycles later (R362). -/
theorem State.gpioEdge_seen (s : State) (n : Nat) (rising : Bool) (on : s.sysOn = true) (pll : s.onPll = true) :
    (s.gpioEdge n rising).flag F.EVF_GPIO_IN n = rising
      ∧ (bit (s.fld F.EVF_GPIO_EDGE n) (if rising then 0 else 1) = true →
          (s.gpioEdge n rising).evf.flight = s.evf.flight ++ [(s.cyc + 2, .produced (228 + n))])
      ∧ (bit (s.fld F.EVF_GPIO_EDGE n) (if rising then 0 else 1) = false → (s.gpioEdge n rising).evf = s.evf) := by
  have shown : (s.setFlag F.EVF_GPIO_IN rising n).flag F.EVF_GPIO_IN n = rising := by
    rw [State.flag, State.setFlag, State.fld_setFld _ _ _ _ (by decide) (by decide)]
    cases rising <;> decide
  have evf : (s.setFlag F.EVF_GPIO_IN rising n).evf = s.evf := State.setFld_evf _ _ _ _
  have runs : s.evfRuns = true := by rw [State.evfRuns, on, pll]; rfl
  rw [State.gpioEdge, if_neg (by simp [on])]
  dsimp only
  cases selected : bit (s.fld F.EVF_GPIO_EDGE n) (if rising then 0 else 1)
  · rw [if_pos (by rfl)]
    exact ⟨shown, nofun, fun _ => evf⟩
  · rw [if_neg (by simp), if_neg (by simp [runs])]
    exact ⟨shown, fun _ => by rw [evf], nofun⟩

/-! ### The release of cores -/

/-- The number made of the first flags. -/
def flagSum (p : Nat → Bool) (n : Nat) : Nat := (List.range n).foldl (fun a c => a + b2n (p c) * 2 ^ c) 0

theorem flagSum_succ (p : Nat → Bool) (n : Nat) : flagSum p (n + 1) = 2 ^ n * b2n (p n) + flagSum p n := by
  rw [flagSum, List.range_succ, List.foldl_append, List.foldl_cons, List.foldl_nil, ← flagSum, Nat.add_comm, Nat.mul_comm]

theorem b2n_le (b : Bool) : b2n b ≤ 1 := by cases b <;> decide

theorem flagSum_lt (p : Nat → Bool) (n : Nat) : flagSum p n < 2 ^ n := by
  induction n with
  | zero => exact Nat.one_pos
  | succ n ih =>
    have : 2 ^ n * b2n (p n) ≤ 2 ^ n * 1 := Nat.mul_le_mul_left _ (b2n_le _)
    rw [flagSum_succ, Nat.pow_succ]
    omega

theorem testBit_b2n (b : Bool) (k : Nat) : (b2n b).testBit k = (decide (k = 0) && b) := by
  cases k <;> cases b <;> simp [b2n, Nat.testBit_succ]

/-- The bits of a number made of flags are the flags. -/
theorem testBit_flagSum (p : Nat → Bool) (n k : Nat) : (flagSum p n).testBit k = (decide (k < n) && p k) := by
  induction n with
  | zero => simp [flagSum]
  | succ n ih =>
    rw [flagSum_succ, Nat.testBit_two_pow_mul_add _ (flagSum_lt p n), ih, testBit_b2n]
    by_cases h : k < n
    · simp [h, show k < n + 1 by omega]
    · by_cases h' : k = n
      · simp [h']
      · simp [h, show ¬k < n + 1 by omega, show ¬k - n = 0 by omega]

/-- The registers outside the cores keep their values when cores lose theirs. -/
theorem State.reg_coresLose (s : State) (p : Nat → Bool) {r : RegName} (h : r.ctorIdx < RegName.CORE_CAUSE.ctorIdx) (n : Nat) :
    (s.coresLose p).reg r n = s.reg r n := by
  refine State.reg_of_keep (p := fun k => !(decide (RegName.CORE_CAUSE.ctorIdx ≤ k % 512) && p (k / 512))) (by rfl) ?_
  rw [RegName.key_mod]
  simp [h]

/-- A core of a cluster starts at its cluster's address (R381). -/
def State.startCore (s : State) (c : Nat) : State :=
  let u := (s.boundary .SYSCTL_CLSTART (clusterOf c)).coresLose fun k => k == c
  u.setPc c (u.reg .SYSCTL_CLSTART (clusterOf c))

theorem State.reg_startCore (s : State) (c : Nat) {r : RegName} (h : r.ctorIdx < RegName.CORE_CAUSE.ctorIdx) (n : Nat) :
    (s.startCore c).reg r n = s.reg r n := by
  rw [State.startCore, State.reg_congr (State.setPc_regs _ _ _), State.reg_coresLose _ _ h]
  rfl

/-- The core that starts holds zeros and stands at the start address; the other ones stay (R381). -/
theorem State.startCore_core (s : State) (c k : Nat) :
    (s.startCore c).pcOf k = (if k = c then s.reg .SYSCTL_CLSTART (clusterOf c) else s.pcOf k)
      ∧ ∀ i, i < 32 → (s.startCore c).gpr k i = if k = c then 0 else s.gpr k i := by
  have start : ((s.boundary .SYSCTL_CLSTART (clusterOf c)).coresLose fun k => k == c).reg .SYSCTL_CLSTART (clusterOf c)
      = s.reg .SYSCTL_CLSTART (clusterOf c) := (State.reg_coresLose _ _ (by decide) _).trans rfl
  have lost : (s.startCore c).core.pc = Tab.putD (Tab.keep s.core.pc fun j _ => !(j == c)) c 0 (s.reg .SYSCTL_CLSTART (clusterOf c)) := by
    rw [← start]; rfl
  constructor
  · rw [State.pcOf, lost]
    split
    · next h => rw [h, Tab.getD_putD_self]
    · next h =>
      rw [Tab.getD_putD_of_ne (hj := h), Tab.getD, Tab.find_keep, if_pos (by simp [h])]
      rfl
  · intro i hi
    have cells : (s.startCore c).core.gpr = Tab.keep s.core.gpr fun j _ => !(j / 32 == c) := rfl
    have hk : (k * 32 + i) / 32 = k := by omega
    rw [State.gpr, cells, Tab.getD, Tab.find_keep, hk, State.gpr, Tab.getD]
    by_cases h : k = c <;> simp [h]

/-- The cores of a list that are to start do; the other ones stay, and so do the registers outside the cores (R381). -/
theorem State.cores_started (p : Nat → Bool) (l : List Nat) (s : State) :
    let t := foldOver (fun c (u : State) => if p c = true then u.startCore c else u) l s
    (∀ (r : RegName) (n : Nat), r.ctorIdx < RegName.CORE_CAUSE.ctorIdx → t.reg r n = s.reg r n)
      ∧ ∀ k, t.pcOf k = (if k ∈ l ∧ p k = true then s.reg .SYSCTL_CLSTART (clusterOf k) else s.pcOf k)
        ∧ ∀ i, i < 32 → t.gpr k i = if k ∈ l ∧ p k = true then 0 else s.gpr k i := by
  induction l generalizing s with
  | nil => exact ⟨fun _ _ _ => rfl, fun k => ⟨by simp [foldOver_nil], fun i _ => by simp [foldOver_nil]⟩⟩
  | cons c l ih =>
    rw [foldOver_cons]
    by_cases starts : p c = true
    · rw [if_pos starts]
      obtain ⟨reg, core⟩ := ih (s.startCore c)
      refine ⟨fun r n hr => (reg r n hr).trans (s.reg_startCore c hr n), fun k => ?_⟩
      obtain ⟨pc, gpr⟩ := core k
      obtain ⟨pc0, gpr0⟩ := s.startCore_core c k
      rw [s.reg_startCore c (by decide)] at pc
      refine ⟨?_, fun i hi => ?_⟩
      · rw [pc, pc0]
        by_cases h : k = c
        · simp [h, starts]
        · simp [h]
      · rw [gpr i hi, gpr0 i hi]
        by_cases h : k = c
        · simp [h, starts]
        · simp [h]
    · rw [if_neg starts]
      obtain ⟨reg, core⟩ := ih s
      refine ⟨reg, fun k => ?_⟩
      have same : (k ∈ c :: l ∧ p k = true) ↔ (k ∈ l ∧ p k = true) := by
        by_cases h : k = c
        · simp [h, starts]
        · simp [h]
      simp only [same]
      exact core k

/-- What a write of CORE_EN does to the cores of CL0: each is released as its bit says, and one that is released by the write starts
at CL0's address with its registers at zero (R381). -/
theorem State.coreEnWrite_cl0 (s : State) (w : Word) {k : Nat} (lo : 2 ≤ k) (hi : k < 8) :
    (s.coreEnWrite w).released k = w.getLsbD k
      ∧ (w.getLsbD k = true → s.released k = false → (s.coreEnWrite w).pcOf k = s.reg .SYSCTL_CLSTART 0
        ∧ ∀ i, i < 32 → (s.coreEnWrite w).gpr k i = 0) := by
  unfold State.coreEnWrite
  extract_lets old ok now s1 en s2
  have wanted : now k = w.getLsbD k := by
    simp [now, ok, lo, hi, bit_eq_testBit, BitVec.testBit_toNat]
  have enabled : ((s2.reg .SYSCTL_CORE_EN).getLsbD k) = w.getLsbD k := by
    have reads : s2.reg .SYSCTL_CORE_EN = (s1.setFld F.SYSCTL_CORE_EN_EN (en / 4)).reg .SYSCTL_CORE_EN := State.reg_congr (State.onCore_regs _ _) _ _
    have sum : en = flagSum now 24 := rfl
    rw [reads, State.reg_setFld_ite, if_pos ⟨rfl, rfl⟩, getLsbD_wordPut _ _ _ _ _ (by decide), if_pos (by simp; omega), sum,
      show flagSum now 24 / 4 = flagSum now 24 / 2 ^ 2 from rfl, Nat.testBit_div_two_pow, testBit_flagSum]
    simp [show k - 2 + 2 = k by omega, show k < 24 by omega, wanted]
  have start : s2.reg .SYSCTL_CLSTART 0 = s.reg .SYSCTL_CLSTART 0 := by
    rw [State.reg_congr (State.onCore_regs _ _), State.reg_setFld_ite, if_neg (by decide), State.reg_coresLose _ _ (by decide)]
  have same : (fun (c : Nat) (t : State) => if (now c && !bit old c) = true then
      let u := (t.boundary .SYSCTL_CLSTART (clusterOf c)).coresLose fun k => k == c
      u.setPc c (u.reg .SYSCTL_CLSTART (clusterOf c))
    else t) = fun c t => if (now c && !bit old c) = true then t.startCore c else t := rfl
  rw [same]
  obtain ⟨reg, core⟩ := s2.cores_started (fun c => now c && !bit old c) (List.range 24)
  obtain ⟨pc, gpr⟩ := core k
  refine ⟨?_, fun set unreleased => ?_⟩
  · rw [State.released, reg _ _ (by decide), bit_eq_testBit, BitVec.testBit_toNat, enabled]
    simp [show ¬k ≤ 1 by omega]
  · have off : bit old k = false := by
      simpa [State.released, show ¬k ≤ 1 by omega] using unreleased
    have starts : k ∈ List.range 24 ∧ (now k && !bit old k) = true :=
      ⟨List.mem_range.2 (by omega), by rw [wanted, set, off]; rfl⟩
    rw [if_pos starts] at pc
    refine ⟨pc.trans ?_, fun i hi => (gpr i hi).trans (if_pos starts)⟩
    rw [show clusterOf k = 0 from Nat.div_eq_of_lt hi, start]

end Sys2Proof.Machine
end

section
/-! The commands of the clock and of the event fabric (R352 to R359, R362 to R381). -/

namespace Sys2Proof.Machine

/-- A command whose effect is the state `t` ends in `t` and the end of its step. -/
theorem exec_of_effect {i : Instr} {s u t : State} (run : exec i s = .next u.done) (h : u = t) : exec i s = .next t.done := h ▸ run

section
variable {who : Who} {s : State}

/-- A register command of an initiator with the rights of CL0 is its write, while the system domain is on (R39). -/
theorem exec_of_write {i : Instr} {r : RegName} {n : Nat} {w : Word} {u t : State} (on : s.sysOn = true) (h : s.rights who.val = [0])
    (run : exec i s = .next (s.regCmd who.val r n w).done) (write : s.writeReg 0 r n w = u) (hu : u = t) : exec i s = .next t.done :=
  exec_of_effect run ((s.regCmd_cl0 who.val r n w on h).trans (write.trans hu))

theorem exec_rtcHalt (on : s.sysOn = true) (h : s.rights who.val = [0]) : exec (.rtcHalt who) s = .next (s.rtcWrite .RTC_CTRL 0 1).done :=
  exec_of_write on h (by rfl) (s.writeReg_rtcCtrl 0 0 1) rfl

theorem exec_rtcRelease (on : s.sysOn = true) (h : s.rights who.val = [0]) :
    exec (.rtcRelease who) s = .next (s.rtcWrite .RTC_CTRL 0 0).done :=
  exec_of_write on h (by rfl) (s.writeReg_rtcCtrl 0 0 0) rfl

theorem exec_rtcCapture (on : s.sysOn = true) (h : s.rights who.val = [0]) :
    exec (.rtcCapture who) s = .next (s.rtcWrite .RTC_CTRL 0 (0x100#32 + BitVec.ofNat 32 (s.fld F.RTC_CTRL_HALT))).done :=
  exec_of_write on h (by rfl) (s.writeReg_rtcCtrl 0 0 _) rfl

theorem exec_rtcAdj (d : BitVec 24) (on : s.sysOn = true) (h : s.rights who.val = [0]) :
    exec (.rtcAdj who d) s = .next (s.rtcWrite .RTC_ADJ 0 (d.zeroExtend 32)).done :=
  exec_of_write on h (by rfl) (s.writeReg_rtcAdj 0 0 _) rfl

end

theorem exec_rtcWriteDone (s : State) : exec .rtcWriteDone s = .next s.rtcWriteDone.done := by rfl
theorem exec_rtcCaptureDone (s : State) : exec .rtcCaptureDone s = .next s.rtcCaptureDone.done := by rfl
theorem exec_rtcSecond (s : State) : exec .rtcSecond s = .next s.rtcSecond.done := by rfl
theorem exec_vbakMeasure (mv : Half) (s : State) : exec (.vbakMeasure mv) s = .next (s.vbakCheck mv.toNat).done := by rfl
theorem exec_backupPowerUp (s : State) : exec .backupPowerUp s = .next s.backupUp.done := by rfl
theorem exec_xt32Start (s : State) : exec .xt32Start s = .next s.xt32Good.done := by rfl
theorem exec_gpioEdge (pin : Fin 24) (rising : Bool) (s : State) : exec (.gpioEdge pin rising) s = .next (s.gpioEdge pin.val rising).done := by rfl
theorem exec_evfFire (who : Who) (ch : Byte) (s : State) :
    exec (.evfFire who ch) s = .next (s.regCmd who.val .EVF_FIRE 0 (ch.zeroExtend 32)).done := by rfl
theorem exec_consumerActivation (s : State) : exec .consumerActivation s = .next s.consumersActivate.done := by rfl

/-! ### Writes to the clock -/

theorem State.rtcWrite_first (s : State) (h : s.rtc.wr = none) (r : RegName) (n : Nat) (w : Word) :
    s.rtcWrite r n w = { s with rtc := { s.rtc with wr := some (r, n, w) } } := by
  rw [State.rtcWrite, h]; rfl

/-- A write that finds one on its way is dropped (R352). -/
theorem State.rtcWrite_dropped (s : State) (h : s.rtc.wr.isSome = true) (r : RegName) (n : Nat) (w : Word) :
    s.rtcWrite r n w = s.setFld F.RTC_STAT_WDROP 1 := by
  obtain ⟨x, hx⟩ := Option.isSome_iff_exists.1 h
  rw [State.rtcWrite, hx]

/-- The clock with no write on its way. -/
def State.wrClear (s : State) : State := s.onRtc fun x => { x with wr := none }

@[simp] theorem State.wrClear_regs (s : State) : s.wrClear.regs = s.regs := rfl
@[simp] theorem State.wrClear_hcp (s : State) : s.wrClear.hcp = s.hcp := rfl

theorem State.wrClear_reg (s : State) (r : RegName) (n : Nat) : s.wrClear.reg r n = s.reg r n := State.reg_congr s.wrClear_regs r n

theorem State.wrClear_flag (s : State) (f : Fld) (n : Nat) : s.wrClear.flag f n = s.flag f n := State.flag_congr (s.wrClear_reg _ _)

/-- What a write of RTC_CTRL does (R353, R354). -/
theorem State.written_ctrl (s : State) (w : Word) : s.written .RTC_CTRL 0 w =
    let t := if bit w.toNat 0 then s.wrClear.rtcHalt else s.wrClear.rtcRelease
    if bit w.toNat 8 then t.rtcCaptureStart else t := rfl

theorem State.written_halt (s : State) : s.written .RTC_CTRL 0 1 = s.wrClear.rtcHalt := by
  rw [s.written_ctrl, if_neg (by decide), if_pos (by decide)]

theorem State.written_release (s : State) : s.written .RTC_CTRL 0 0 = s.wrClear.rtcRelease := by
  rw [s.written_ctrl, if_neg (by decide), if_neg (by decide)]

theorem State.written_capture (s : State) (h : s.flag F.RTC_CTRL_HALT = false) :
    s.written .RTC_CTRL 0 0x100 = s.wrClear.setFld F.RTC_STAT_CAP_BUSY 1 := by
  rw [s.written_ctrl, if_pos (by decide), if_neg (by decide), State.rtcRelease_running _ ((s.wrClear_flag _ 0).trans h), State.rtcCaptureStart]

/-- The word of RTC_ADJ holds a signed number of 24 bits. -/
theorem sgn_zeroExtend (d : BitVec 24) : sgn 24 (bits (d.zeroExtend 32).toNat 23 0) = d.toInt := by
  have low : bits (d.zeroExtend 32).toNat 23 0 = d.toNat := by
    have := d.isLt
    simp [bits]
    omega
  rw [low, sgn, BitVec.ofNat_toNat, BitVec.setWidth_eq]

theorem State.written_adj (s : State) (d : BitVec 24) : s.written .RTC_ADJ 0 (d.zeroExtend 32) = s.wrClear.calAdjust d.toInt := by
  rw [← sgn_zeroExtend]; rfl

/-- HALT arrives: the calendar is held and the write is off its way (R353). -/
theorem State.rtcWriteDone_halt (s : State) (queue : s.hcp.rtc = []) (hw : s.rtc.wr = some (.RTC_CTRL, 0, 1))
    (run : s.flag F.RTC_CTRL_HALT = false) :
    s.rtcWriteDone.rtc.wr = none ∧ s.rtcWriteDone.flag F.RTC_CTRL_HALT = true ∧ s.rtcWriteDone.reg .RTC_SUB = 0 ∧ s.rtcWriteDone.rtc.sub = 0
      ∧ s.rtcWriteDone.reg .RTC_TIME = s.reg .RTC_TIME := by
  obtain ⟨wr, halt, sub, count, hcp, other⟩ := s.wrClear.rtcHalt_held ((s.wrClear_flag _ 0).trans run)
  rw [← s.written_halt] at wr halt sub count hcp other
  have stat : (s.written .RTC_CTRL 0 1).reg .RTC_STAT 0 = s.reg .RTC_STAT 0 :=
    (other .RTC_STAT (by decide) (by decide)).trans (s.wrClear_reg _ _)
  rw [s.rtcWriteDone_of_quiet hw queue (hcp.trans s.wrClear_hcp) (State.flag_congr stat) (State.flag_congr stat)]
  exact ⟨wr, halt, sub, count, (other .RTC_TIME (by decide) (by decide)).trans (s.wrClear_reg _ _)⟩

/-- A release with a valid setting starts the calendar at it (R353). -/
theorem State.rtcWriteDone_release (s : State) (queue : s.hcp.rtc = []) (hw : s.rtc.wr = some (.RTC_CTRL, 0, 0))
    (halt : s.flag F.RTC_CTRL_HALT = true) (valid : s.calValid = true) (old : s.rtc.old = none) :
    s.rtcWriteDone.flag F.RTC_CTRL_HALT = false ∧ s.rtcWriteDone.ShowsCal s.calSec := by
  obtain ⟨run, shows, hcp, stat⟩ := s.wrClear.rtcRelease_valid ((s.wrClear_flag _ 0).trans halt) valid old
  rw [← s.written_release] at run shows hcp stat
  have stat' := stat.trans (s.wrClear_reg _ _)
  rw [s.rtcWriteDone_of_quiet hw queue (hcp.trans s.wrClear_hcp) (State.flag_congr stat') (State.flag_congr stat')]
  rw [State.calSec_congr s.wrClear_regs] at shows
  exact ⟨run, shows⟩

/-- A release with an invalid setting leaves the calendar held, with BAD_SET (R353). -/
theorem State.rtcWriteDone_badSet (s : State) (queue : s.hcp.rtc = []) (hw : s.rtc.wr = some (.RTC_CTRL, 0, 0))
    (halt : s.flag F.RTC_CTRL_HALT = true) (valid : s.calValid = false) :
    s.rtcWriteDone.flag F.RTC_CTRL_HALT = true ∧ s.rtcWriteDone.flag F.RTC_STAT_BAD_SET = true := by
  have run : s.written .RTC_CTRL 0 0 = s.wrClear.setFld F.RTC_STAT_BAD_SET 1 :=
    s.written_release.trans (s.wrClear.rtcRelease_invalid ((s.wrClear_flag _ 0).trans halt) valid)
  have kept (f : Fld) (h : f.hi < 29 ∨ 29 < f.lo) : (s.written .RTC_CTRL 0 0).flag f = s.flag f := by
    rw [run, State.flag, State.fld_setFld_of_disjoint _ _ _ _ _ _ (by decide) h]
    exact s.wrClear_flag f 0
  rw [s.rtcWriteDone_of_quiet hw queue (by rw [run, State.setFld_hcp, State.wrClear_hcp]) (kept _ (by decide)) (kept _ (by decide))]
  refine ⟨(kept _ (by decide)).trans halt, ?_⟩
  rw [run, State.flag, State.fld_setFld _ _ _ _ (by decide) (by decide)]
  decide

/-- CAPTURE arrives: the copy is begun (R354). -/
theorem State.rtcWriteDone_capture (s : State) (queue : s.hcp.rtc = []) (hw : s.rtc.wr = some (.RTC_CTRL, 0, 0x100))
    (run : s.flag F.RTC_CTRL_HALT = false) :
    s.rtcWriteDone.rtc.wr = none ∧ s.rtcWriteDone.flag F.RTC_STAT_CAP_BUSY = true := by
  have written := s.written_capture run
  have kept (f : Fld) (h : f.hi < 9 ∨ 9 < f.lo) : (s.written .RTC_CTRL 0 0x100).flag f = s.flag f := by
    rw [written, State.flag, State.fld_setFld_of_disjoint _ _ _ _ _ _ (by decide) h]
    exact s.wrClear_flag f 0
  rw [s.rtcWriteDone_of_quiet hw queue (by rw [written, State.setFld_hcp, State.wrClear_hcp]) (kept _ (by decide)) (kept _ (by decide)), written]
  refine ⟨by rw [State.setFld_rtc]; rfl, ?_⟩
  rw [State.flag, State.fld_setFld _ _ _ _ (by decide) (by decide)]
  decide

/-- An adjustment arrives: the calendar moves, and the offset to network time is due (R355). -/
theorem State.rtcWriteDone_adj (s : State) (d : BitVec 24) (hw : s.rtc.wr = some (.RTC_ADJ, 0, d.zeroExtend 32)) {x : Nat}
    (hx : (s.calSec : Int) + d.toInt = x) : s.rtcWriteDone.ShowsCal x ∧ s.rtcWriteDone.rtc.ofsDue = true := by
  obtain ⟨shows, due⟩ := s.wrClear.calAdjust_moved d.toInt (x := x) (by rw [State.calSec_congr s.wrClear_regs, hx])
  rw [← s.written_adj] at shows due
  rw [s.rtcWriteDone_eq hw]
  generalize s.written .RTC_ADJ 0 (d.zeroExtend 32) = u at shows due
  have outer := s.alarmWake_outer u
  generalize State.alarmWake s u = v at outer
  obtain ⟨regs, keeps⟩ := State.rtcNext_keeps v.hcp.rtc.length v
  have reg (r : RegName) (hr : r.isClock) : (State.rtcNext v.hcp.rtc.length v).reg r = u.reg r :=
    (State.reg_congr regs r 0).trans (State.reg_of_outer outer hr 0)
  refine ⟨shows.congr (reg _ (by decide)) (reg _ (by decide)), ?_⟩
  rw [keeps, State.rtc_of_outer outer, due]

/-- The end of a copy: the copy registers show the clock, CAP_BUSY is clear, and the consumer of the capture is free (R354, R367). -/
theorem State.rtcCaptureDone_copied (s : State) (queue : s.hcp.rtc = []) (busy : s.flag F.RTC_STAT_CAP_BUSY = true) :
    s.rtcCaptureDone.flag F.RTC_STAT_CAP_BUSY = false
      ∧ s.rtcCaptureDone.reg .RTC_CAPTIME = s.reg .RTC_TIME ∧ s.rtcCaptureDone.reg .RTC_CAPDATE = s.reg .RTC_DATE
      ∧ s.rtcCaptureDone.reg .RTC_CAPSUB = s.reg .RTC_SUB ∧ Tab.find s.rtcCaptureDone.evf.freed 185 = some s.cyc := by
  obtain ⟨time, date, sub, -, -, hcp, cyc, evf, -⟩ := s.rtcCapture_regs
  unfold State.rtcCaptureDone
  rw [if_neg (by simp [busy])]
  generalize s.rtcCapture = u at *
  dsimp only
  rw [State.rtcNext_nil _ _ (by rw [State.onRtc_hcp, State.setFld_hcp, show (u.inputFree 185).hcp = u.hcp from rfl, hcp, queue])]
  have kept (r : RegName) (hr : r ≠ .RTC_STAT) (f : RtcState → RtcState) :
      (((u.inputFree 185).setFld F.RTC_STAT_CAP_BUSY 0).onRtc f).reg r = u.reg r := by
    rw [State.reg_congr (State.onRtc_regs _ _), State.reg_setFld_ite, if_neg (fun e => hr e.1)]
    rfl
  refine ⟨?_, (kept _ (by decide) _).trans time, (kept _ (by decide) _).trans date, (kept _ (by decide) _).trans sub, ?_⟩
  · rw [State.flag_congr (State.reg_congr (State.onRtc_regs _ _) _ _), State.flag, State.fld_setFld _ _ _ _ (by decide) (by decide)]
    decide
  · rw [State.onRtc_evf, State.setFld_evf, ← cyc]
    exact (Tab.find_put _ _ _ _).trans (if_pos rfl)

/-! ### The backup domain and the fabric -/

/-- The power-up of the backup domain (R56, R351). -/
theorem State.backupUp_resets (s : State) :
    let t := s.backupUp
    (∀ r n, isBackup r = true → r ≠ .CTL_STAT → t.reg r n = regReset r n)
      ∧ t.flag F.CTL_STAT_FIELD = s.flag F.CTL_STAT_FIELD ∧ t.flag F.CTL_STAT_READER_ON = false
      ∧ t.fld F.CTL_STAT_TAG_STATE = (if s.fld F.CTL_STAT_TAG_STATE = 5 then 4 else s.fld F.CTL_STAT_TAG_STATE)
      ∧ (∀ r n, isBackup r = false → t.reg r n = s.reg r n) ∧ t.pwr.vbak = true ∧ t.mem = s.mem := by
  unfold State.backupUp
  obtain ⟨field, reader, tag, reg, pwr, mem⟩ := State.frontEnd_stat s { s with
    regs := s.keepRegs fun r => !isBackup r, rtc := {}, ctl := {}, pwr := { s.pwr with vbak := true, digest := [] } }
  refine ⟨fun r n backup stat => (reg r n stat).trans ?_, field, reader, tag, fun r n other => (reg r n ?_).trans ?_, by rw [pwr], by rw [mem]⟩
  · exact State.reg_of_lost (s := s) (p := fun r => !isBackup r) rfl (by simp [backup]) n
  · rintro rfl
    exact absurd other (by decide)
  · exact State.reg_of_keepRegs (s := s) (p := fun r => !isBackup r) rfl (by simp [other]) n

/-- The task of consumer 113 + n sets GPIO pin n (R365). -/
theorem State.task_gpioSet (s : State) {n : Nat} (hn : n < 24) : s.task (113 + n) = s.setFld F.EVF_GPIO_OUT 1 n := by
  rw [State.task, if_neg (by omega), if_neg (by omega), if_neg (by omega), if_neg (by omega), if_neg (by omega), if_pos (by omega),
    Nat.add_sub_cancel_left]

/-- The task of consumer n < 32 starts a timer (R365). -/
theorem State.task_tmrStart (s : State) {n : Nat} (hn : n < 32) : s.task n = s.tmrStart n := by rw [State.task, if_pos hn]

/-- A software fire with the right to its register (R369). -/
theorem State.regCmd_fire (s : State) {who cl : Nat} (ch : Byte) (on : s.sysOn = true) (right : s.regRight who .EVF_FIRE 0 true = some cl) :
    s.regCmd who .EVF_FIRE 0 (ch.zeroExtend 32) = s.evfFire cl ch.toNat := by
  have chan : bits (ch.zeroExtend 32).toNat 7 0 = ch.toNat := by
    have := ch.isLt
    simp [bits]
    omega
  rw [State.regCmd, if_neg (by simp [on]), right]
  exact (s.writeReg_fire cl 0 _).trans (by rw [chan])

theorem State.evfFire_in (s : State) {cl ch : Nat} (owner : cl = 0 ∨ s.chOwner ch = cl) (runs : s.evfRuns = true) :
    s.evfFire cl ch = { s with evf := { s.evf with flight := s.evf.flight ++ [(s.cyc, .onChannel ch)] } } := by
  rw [State.evfFire, if_neg (by rintro ⟨a, b⟩; exact owner.elim a b), if_pos runs]

theorem contains_range {k n : Nat} (h : k < n) : (List.range n).contains k = true := by simp [h]

theorem bit_zeroExtend_half (g : Half) {k : Nat} (h : k < 16) : bit (g.zeroExtend 32).toNat k = g.getLsbD k := by
  rw [bit_eq_testBit, BitVec.testBit_toNat, BitVec.zeroExtend_eq_setWidth, BitVec.getLsbD_setWidth]
  simp [show k < 32 by omega]

/-- Settles O46, each command by the rule of its write or of its event. -/
theorem clockAndEvents : Obligations.ClockAndEvents := by
  unfold Obligations.ClockAndEvents
  intro who w d mv g pin rising ch c s ends clock
  refine ⟨fun on cl0 => ⟨fun idle => ⟨?_, ?_, ?_, ?_⟩, fun busy i hi => ?_, ⟨_, exec_of_write on cl0 (by rfl) (s.writeReg_grpSet 0 0 _) rfl, ?opened⟩,
      ⟨_, exec_of_write on cl0 (by rfl) (s.writeReg_grpClr 0 0 _) rfl, ?closed⟩,
      ⟨_, exec_of_write on cl0 (by rfl) (s.writeReg_clrCoal 0 c.val) rfl, s.clrCoal_clears c.val⟩,
      ⟨_, exec_of_write on cl0 (by rfl) (s.writeReg_coreEn 0 0 w) rfl, fun k lo hi => s.coreEnWrite_cl0 w lo hi⟩⟩,
    fun queue hw run => ⟨_, exec_rtcWriteDone s, s.rtcWriteDone_halt queue hw run⟩,
    fun queue hw halt => ⟨fun valid old => ⟨_, exec_rtcWriteDone s, s.rtcWriteDone_release queue hw halt valid old⟩,
      fun valid => ⟨_, exec_rtcWriteDone s, s.rtcWriteDone_badSet queue hw halt valid⟩⟩,
    fun queue hw run => ⟨_, exec_rtcWriteDone s, s.rtcWriteDone_capture queue hw run⟩,
    fun x queue hw hx => ⟨_, exec_rtcWriteDone s, s.rtcWriteDone_adj d hw hx⟩,
    fun idle => exec_of_effect (exec_rtcCaptureDone s) (if_pos (by simp [idle])),
    fun queue busy => ⟨_, exec_rtcCaptureDone s, s.rtcCaptureDone_copied queue busy⟩,
    fun run vbak on => ⟨_, exec_rtcSecond s, s.rtcSecond_advanced run vbak on⟩,
    fun off held => ⟨_, exec_of_effect (exec_vbakMeasure mv s) (if_neg (by simp [off, held])), s.vbakMeasure_shows _ mv.toNat⟩,
    ⟨_, exec_backupPowerUp s, s.backupUp_resets⟩, exec_xt32Start s, fun on pll => ?_⟩
  · exact exec_of_effect (exec_rtcHalt on cl0) (s.rtcWrite_first idle _ _ _)
  · exact exec_of_effect (exec_rtcRelease on cl0) (s.rtcWrite_first idle _ _ _)
  · exact exec_of_effect (exec_rtcCapture on cl0) (s.rtcWrite_first idle _ _ _)
  · exact exec_of_effect (exec_rtcAdj d on cl0) (s.rtcWrite_first idle _ _ _)
  · simp only [List.mem_cons, List.not_mem_nil, or_false] at hi
    rcases hi with rfl | rfl | rfl | rfl
    · exact exec_of_effect (exec_rtcHalt on cl0) (s.rtcWrite_dropped busy _ _ _)
    · exact exec_of_effect (exec_rtcRelease on cl0) (s.rtcWrite_dropped busy _ _ _)
    · exact exec_of_effect (exec_rtcCapture on cl0) (s.rtcWrite_dropped busy _ _ _)
    · exact exec_of_effect (exec_rtcAdj d on cl0) (s.rtcWrite_dropped busy _ _ _)
  case opened =>
    intro k hk
    rw [State.evfGrpWrite_cl0, State.groups_opened _ _ (fun _ => List.mem_range.1), contains_range hk, bit_zeroExtend_half g hk]
    simp
  case closed =>
    intro k hk
    rw [State.evfGrpWrite_cl0, State.groups_closed _ _ (fun _ => List.mem_range.1), contains_range hk, bit_zeroExtend_half g hk]
    simp
  have runs : s.evfRuns = true := by rw [State.evfRuns, on, pll]; rfl
  refine ⟨⟨_, exec_gpioEdge pin rising s, s.gpioEdge_seen pin.val rising on pll⟩,
    fun cl right => ⟨fun owner => exec_of_effect (exec_evfFire who ch s) ((s.regCmd_fire ch on right).trans (s.evfFire_in owner runs)),
      fun other foreign => exec_of_effect (exec_evfFire who ch s) ((s.regCmd_fire ch on right).trans (if_pos ⟨other, foreign⟩))⟩,
    fun n hn flight => ?_, fun flight => ?_⟩
  · obtain ⟨at', run⟩ := s.consumersActivate_one (show n < 320 by omega) runs flight
    rw [State.taskInput_free _ _ (by omega), State.task_tmrStart _ hn] at run
    exact ⟨_, exec_of_effect (exec_consumerActivation s) run, State.tmrStart_running _ n⟩
  · obtain ⟨at', run⟩ := s.consumersActivate_one (show 113 + pin.val < 320 by omega) runs flight
    rw [State.taskInput_free _ _ (by omega), State.task_gpioSet _ pin.isLt] at run
    refine ⟨_, exec_of_effect (exec_consumerActivation s) run, ?_, by rw [State.setFld_evf]⟩
    rw [State.flag, State.fld_setFld _ _ _ _ (by decide) (by decide)]
    decide

end Sys2Proof.Machine
end

section
/-! What the end of a step leaves as it is: where the configuration image stands, and the level of NRESET_IN (R56, R110). A function f of
the model that may write the clock's registers has a lemma f_place, which says so. -/

namespace Sys2Proof.Machine

@[simp] theorem State.setReg_place (s : State) (r : RegName) (n : Nat) (v : Word) : (s.setReg r n v).outer.1 = s.outer.1 := rfl

@[simp] theorem State.setFld_place (s : State) (f : Fld) (v n : Nat) : (s.setFld f v n).outer.1 = s.outer.1 := by
  rw [State.setFld, State.noteRaised_outer, State.setReg_place]

@[simp] theorem State.setFlag_place (s : State) (f : Fld) (b : Bool) (n : Nat) : (s.setFlag f b n).outer.1 = s.outer.1 :=
  s.setFld_place f (b2n b) n

@[simp] theorem State.bump_place (s : State) (f : Fld) (n d : Nat) : (s.bump f n d).outer.1 = s.outer.1 := s.setFld_place f _ n

@[simp] theorem State.regStore_place (s : State) (r : RegName) (n : Nat) (running : Bool) (w : Word) :
    (s.regStore r n running w).outer.1 = s.outer.1 := by
  rw [State.outer, s.regStore_frame r n running w]; rfl

@[simp] theorem State.onRtc_place (s : State) (f : RtcState → RtcState) : (s.onRtc f).outer.1 = s.outer.1 := rfl
@[simp] theorem State.onPwr_place (s : State) (f : PwrState → PwrState) (image : ∀ p, (f p).configAt = p.configAt)
    (pin : ∀ p, (f p).pinLow = p.pinLow) : (s.onPwr f).outer.1 = s.outer.1 :=
  Prod.ext (image s.pwr) (pin s.pwr)

@[simp] theorem place_ite (c : Prop) [Decidable c] (x y : (Option Nat × Bool) × RtcState × (RegName → Nat → Word)) :
    (if c then x else y).1 = if c then x.1 else y.1 :=
  apply_ite Prod.fst c x y

@[simp] theorem foldOver_place {α : Type} (f : α → State → State) (hf : ∀ a s, (f a s).outer.1 = s.outer.1) (l : List α) (s : State) :
    (foldOver f l s).outer.1 = s.outer.1 :=
  foldOver_proj (fun s => s.outer.1) f hf l s

@[simp] theorem State.setCtx_outer (s : State) (c : Nat) (x : Ctx) : (s.setCtx c x).outer = s.outer := rfl
@[simp] theorem State.halt_outer (s : State) (c : Nat) : (s.halt c).outer = s.outer := rfl

@[simp] theorem State.notifyLost_place (s : State) (t : Tp) : (s.notifyLost t).outer.1 = s.outer.1 := by
  simp -implicitDefEqProofs [State.notifyLost]

@[simp] theorem State.raiseDram_place (s : State) (cls : Nat) (addr : Word) : (s.raiseDram cls addr).outer.1 = s.outer.1 := by
  simp -implicitDefEqProofs [State.raiseDram]

@[simp] theorem State.noDecode_place (s : State) (who : Nat) (addr : Word) : (s.noDecode who addr).outer.1 = s.outer.1 := by
  simp -implicitDefEqProofs [State.noDecode]

@[simp] theorem State.evfPubWrite_place (s : State) (cl p : Nat) (w : Word) : (s.evfPubWrite cl p w).outer.1 = s.outer.1 := by
  simp -implicitDefEqProofs [State.evfPubWrite]

@[simp] theorem State.evfSubWrite_place (s : State) (cl c : Nat) (w : Word) : (s.evfSubWrite cl c w).outer.1 = s.outer.1 := by
  simp -implicitDefEqProofs [State.evfSubWrite]

@[simp] theorem State.dropPub_place (p : Nat) (s : State) : (State.dropPub p s).outer.1 = s.outer.1 := by
  simp -implicitDefEqProofs [State.dropPub]

@[simp] theorem State.dropSub_place (c : Nat) (s : State) : (State.dropSub c s).outer.1 = s.outer.1 := by
  simp -implicitDefEqProofs [State.dropSub]

@[simp] theorem State.tmrOwnerChanged_place (s : State) (n : Nat) : (s.tmrOwnerChanged n).outer.1 = s.outer.1 := by
  simp -implicitDefEqProofs [State.tmrOwnerChanged]

@[simp] theorem State.cmpOwnerChanged_place (s : State) (k : Nat) : (s.cmpOwnerChanged k).outer.1 = s.outer.1 := by
  simp -implicitDefEqProofs [State.cmpOwnerChanged]

@[simp] theorem State.gpioOwnerChanged_place (s : State) (n : Nat) : (s.gpioOwnerChanged n).outer.1 = s.outer.1 := by
  simp -implicitDefEqProofs [State.gpioOwnerChanged]

@[simp] theorem State.chOwnerChanged_place (s : State) (ch : Nat) : (s.chOwnerChanged ch).outer.1 = s.outer.1 := by
  simp -implicitDefEqProofs [State.chOwnerChanged]

@[simp] theorem State.evfChWrite_place (s : State) (ch : Nat) (w : Word) : (s.evfChWrite ch w).outer.1 = s.outer.1 := by
  simp -implicitDefEqProofs [State.evfChWrite]

@[simp] theorem State.evfGrpOwnWrite_place (s : State) (w : Word) : (s.evfGrpOwnWrite w).outer.1 = s.outer.1 := by
  simp -implicitDefEqProofs [State.evfGrpOwnWrite]

@[simp] theorem State.evfGpioWrite_place (s : State) (cl n : Nat) (w : Word) : (s.evfGpioWrite cl n w).outer.1 = s.outer.1 := by
  simp -implicitDefEqProofs [State.evfGpioWrite]

@[simp] theorem State.groupSet_place (s : State) (g : Nat) (opening : Bool) : (s.groupSet g opening).outer.1 = s.outer.1 := by
  unfold State.groupSet
  split
  · rfl
  · dsimp only
    split <;> rfl

@[simp] theorem State.evfGrpWrite_place (s : State) (cl : Nat) (opening : Bool) (w : Word) :
    (s.evfGrpWrite cl opening w).outer.1 = s.outer.1 := by
  simp -implicitDefEqProofs [State.evfGrpWrite]

@[simp] theorem State.setNt_place (s : State) (t : Nat) : (s.setNt t).outer.1 = s.outer.1 := by simp -implicitDefEqProofs [State.setNt]

@[simp] theorem State.addNt_place (s : State) (d : Int) : (s.addNt d).outer.1 = s.outer.1 := by simp -implicitDefEqProofs [State.addNt]

@[simp] theorem State.discUp_place (s : State) : s.discUp.outer.1 = s.outer.1 := by simp -implicitDefEqProofs [State.discUp]

@[simp] theorem State.ntMoved_place (s : State) : s.ntMoved.outer.1 = s.outer.1 := by
  refine Eq.trans (b := ((s.setFld F.NTC_STAT_STEPPED 1).publish 48).outer.1) rfl ?_
  simp

@[simp] theorem State.setCmpVal_place (s : State) (k v : Nat) : (s.setCmpVal k v).outer.1 = s.outer.1 := rfl

@[simp] theorem State.cmpArm_place (s : State) (k : Nat) (tick : Word) : (s.cmpArm k tick).outer.1 = s.outer.1 := by
  simp -implicitDefEqProofs [State.cmpArm]

@[simp] theorem State.cmpDisarm_place (s : State) (k : Nat) : (s.cmpDisarm k).outer.1 = s.outer.1 := by
  simp -implicitDefEqProofs [State.cmpDisarm]

@[simp] theorem State.cmpFire_place (k : Nat) (s : State) : (State.cmpFire k s).outer.1 = s.outer.1 := by
  simp -implicitDefEqProofs [State.cmpFire]

@[simp] theorem State.cmpSweep_place (s : State) : s.cmpSweep.outer.1 = s.outer.1 := by simp -implicitDefEqProofs [State.cmpSweep]

@[simp] theorem State.tmrLoad_place (s : State) (n : Nat) : (s.tmrLoad n).outer.1 = s.outer.1 := by simp -implicitDefEqProofs [State.tmrLoad]

@[simp] theorem State.tmrStart_place (s : State) (n : Nat) : (s.tmrStart n).outer.1 = s.outer.1 := by
  simp -implicitDefEqProofs [State.tmrStart]

@[simp] theorem State.tmrRestart_place (n : Nat) (s : State) : (State.tmrRestart n s).outer.1 = s.outer.1 := by
  simp -implicitDefEqProofs [State.tmrRestart]

@[simp] theorem State.tmrHalt_place (n : Nat) (s : State) : (State.tmrHalt n s).outer.1 = s.outer.1 := by
  simp -implicitDefEqProofs [State.tmrHalt]

@[simp] theorem State.tmrBufWrite_place (s : State) (n : Nat) (w : Word) : (s.tmrBufWrite n w).outer.1 = s.outer.1 := by
  simp -implicitDefEqProofs [State.tmrBufWrite]

@[simp] theorem State.tmrCtrlWrite_place (s : State) (cl n : Nat) (w : Word) : (s.tmrCtrlWrite cl n w).outer.1 = s.outer.1 := by
  simp -implicitDefEqProofs [State.tmrCtrlWrite]

@[simp] theorem State.cmpCtrlWrite_place (s : State) (cl k : Nat) (w : Word) : (s.cmpCtrlWrite cl k w).outer.1 = s.outer.1 := by
  simp -implicitDefEqProofs [State.cmpCtrlWrite]

@[simp] theorem State.mendDram_place (s : State) (a : Nat) : (s.mendDram a).outer.1 = s.outer.1 := by
  simp -implicitDefEqProofs [State.mendDram]

@[simp] theorem State.dramTouch_place (s : State) (a : Nat) (write : Bool) : (s.dramTouch a write).outer.1 = s.outer.1 := by
  simp -implicitDefEqProofs [State.dramTouch]

@[simp] theorem State.checkDram_place (s0 : State) (a : Nat) (write : Bool) : (s0.checkDram a write).2.outer.1 = s0.outer.1 := by
  dsimp only [State.checkDram]; split <;> simp -implicitDefEqProofs

@[simp] theorem State.dmcInit_place (s : State) : s.dmcInit.outer.1 = s.outer.1 := by
  simp -implicitDefEqProofs [State.dmcInit]

@[simp] theorem State.flcPost_place (s : State) (req : FlcReq) (tag code : Nat) : (s.flcPost req tag code).outer.1 = s.outer.1 := by
  cases req <;> rfl

@[simp] theorem State.flcTag_place (s : State) : (s.flcTag).2.outer.1 = s.outer.1 := by simp -implicitDefEqProofs [State.flcTag]

@[simp] theorem State.flcSuspend_place (s : State) (req : FlcReq) : (s.flcSuspend req).outer.1 = s.outer.1 := by
  have tag := s.flcTag_place
  unfold State.flcSuspend
  generalize s.flcTag = x at tag ⊢
  dsimp only
  split
  · split
    · simp [tag]
    · exact tag
  · simp [tag]

@[simp] theorem State.flcResume_place (s : State) (req : FlcReq) : (s.flcResume req).outer.1 = s.outer.1 := by
  have tag := s.flcTag_place
  unfold State.flcResume
  generalize s.flcTag = x at tag ⊢
  dsimp only
  split
  · split
    · simp [tag]
    · split
      · exact (State.flcPost_place _ _ _ _).trans tag
      · exact tag
  · simp [tag]

theorem State.flcQueue_place (s : State) (w : Word) (req : FlcReq) (t : State) (e : s.flcQueue w req = some t) : t.outer.1 = s.outer.1 := by
  have tag := s.flcTag_place
  unfold State.flcQueue at e
  split at e
  · cases e
  · obtain rfl := Option.some.inj e
    exact tag

@[simp] theorem State.flcWrite_place (s : State) (w : Word) : (s.flcWrite w).outer.1 = s.outer.1 := by
  unfold State.flcWrite
  split
  · simp
  · simp
  · split
    · next e => exact State.flcQueue_place _ _ _ _ e
    · simp

@[simp] theorem State.otpCtrl_place (s : State) (w : Word) : (s.otpCtrl w).outer.1 = s.outer.1 := by
  dsimp only [State.otpCtrl]
  split
  · rfl
  · split
    · simp
    · split
      · split
        · simp
        · rfl
      · split
        · simp
        · rfl
      · simp
      · rfl

@[simp] theorem State.setHist_place (s : State) (n : Nat) (l : List Bool) (open_ : Nat) : (s.setHist n l open_).outer.1 = s.outer.1 := by
  simp -implicitDefEqProofs [State.setHist]

@[simp] theorem State.laneClear_place (s : State) (n : Nat) : (s.laneClear n).outer.1 = s.outer.1 := by
  simp -implicitDefEqProofs [State.laneClear]

@[simp] theorem State.laneEnable_place (s : State) (n : Nat) : (s.laneEnable n).outer.1 = s.outer.1 := by
  dsimp only [State.laneEnable]; (repeat' split) <;> simp -implicitDefEqProofs

@[simp] theorem State.laneDisable_place (s : State) (n : Nat) : (s.laneDisable n).outer.1 = s.outer.1 := by
  simp -implicitDefEqProofs [State.laneDisable]

@[simp] theorem State.laneKill_place (s : State) (n : Nat) : (s.laneKill n).outer.1 = s.outer.1 := by
  simp -implicitDefEqProofs [State.laneKill]

@[simp] theorem State.laneCtrlWrite_place (s : State) (n : Nat) (w : Word) : (s.laneCtrlWrite n w).outer.1 = s.outer.1 := by
  simp -implicitDefEqProofs [State.laneCtrlWrite]

@[simp] theorem State.laneOffsetWrite_place (s : State) (n : Nat) (w : Word) : (s.laneOffsetWrite n w).outer.1 = s.outer.1 := by
  simp -implicitDefEqProofs [State.laneOffsetWrite]

@[simp] theorem State.bankWrite_place (s : State) (w : Word) : (s.bankWrite w).outer.1 = s.outer.1 := by
  simp -implicitDefEqProofs [State.bankWrite]

@[simp] theorem State.gainStep_place (s : State) (p : Nat) : (s.gainStep p).outer.1 = s.outer.1 := by
  simp -implicitDefEqProofs [State.gainStep]

@[simp] theorem State.setAtten_place (s : State) (p v : Nat) : (s.setAtten p v).outer.1 = s.outer.1 := by
  simp -implicitDefEqProofs [State.setAtten]

@[simp] theorem State.rgnWrite_place (s : State) (n : Nat) (w : Word) : (s.rgnWrite n w).outer.1 = s.outer.1 := by
  simp -implicitDefEqProofs [State.rgnWrite]

@[simp] theorem State.synClear_place (s : State) (p : Nat) : (s.synClear p).outer.1 = s.outer.1 := by
  simp -implicitDefEqProofs [State.synClear]

@[simp] theorem State.txWrite_place (s : State) (w3 : Word) : (s.txWrite w3).outer.1 = s.outer.1 := by
  unfold State.txWrite
  dsimp only
  split <;> next e => obtain rfl := congrArg Prod.snd e; simp -implicitDefEqProofs

@[simp] theorem State.txResultRead_place (s : State) : (s.txResultRead).2.outer.1 = s.outer.1 := by
  unfold State.txResultRead; split <;> simp -implicitDefEqProofs

@[simp] theorem State.pinsRx_place (s : State) (p : Nat) : (s.pinsRx p).outer.1 = s.outer.1 := by simp -implicitDefEqProofs [State.pinsRx]

@[simp] theorem State.pinsBack_place (s : State) (p : Nat) : (s.pinsBack p).outer.1 = s.outer.1 := by
  simp -implicitDefEqProofs [State.pinsBack]

@[simp] theorem State.femcfgWrite_place (s : State) (p : Nat) (running : Bool) (w : Word) :
    (s.femcfgWrite p running w).outer.1 = s.outer.1 := by
  simp -implicitDefEqProofs [State.femcfgWrite]

@[simp] theorem State.loWrite_place (s : State) (p : Nat) (w : Word) : (s.loWrite p w).outer.1 = s.outer.1 := by
  dsimp only [State.loWrite]; (repeat' split) <;> simp -implicitDefEqProofs

@[simp] theorem State.portOn_place (s : State) (p : Nat) : (s.portOn p).outer.1 = s.outer.1 := by simp -implicitDefEqProofs [State.portOn]

@[simp] theorem State.portOff_place (s : State) (p : Nat) : (s.portOff p).outer.1 = s.outer.1 := by simp -implicitDefEqProofs [State.portOff]

@[simp] theorem State.portDrop_place (s : State) (p : Nat) : (s.portDrop p).outer.1 = s.outer.1 := by
  simp -implicitDefEqProofs [State.portDrop]

@[simp] theorem State.rfCtrlWrite_place (s : State) (p : Nat) (w : Word) : (s.rfCtrlWrite p w).outer.1 = s.outer.1 := by
  simp -implicitDefEqProofs [State.rfCtrlWrite]

@[simp] theorem State.wurCfgWrite_place (s : State) (w : Word) : (s.wurCfgWrite w).outer.1 = s.outer.1 := by
  simp -implicitDefEqProofs [State.wurCfgWrite]

@[simp] theorem State.frmCount_place (s : State) (k : Nat) : (s.frmCount k).outer.1 = s.outer.1 := by
  simp -implicitDefEqProofs [State.frmCount]

@[simp] theorem State.dropKeys_place (s : State) (p : KeyLine → Bool) : (s.dropKeys p).outer.1 = s.outer.1 := by
  simp -implicitDefEqProofs [State.dropKeys]

@[simp] theorem State.vaultNow_place (s : State) (g e : Nat) (key : Bytes) : (s.vaultNow g e key).outer.1 = s.outer.1 := by
  simp -implicitDefEqProofs [State.vaultNow]

@[simp] theorem State.vaultPut_place (s : State) (g e : Nat) (key : Bytes) : (s.vaultPut g e key).outer.1 = s.outer.1 := by
  simp -implicitDefEqProofs [State.vaultPut]

@[simp] theorem State.vaultLoad_place (s : State) (g e : Nat) : (s.vaultLoad g e).outer.1 = s.outer.1 := by
  simp -implicitDefEqProofs [State.vaultLoad]

@[simp] theorem State.vaultErase_place (s : State) (g e : Nat) : (s.vaultErase g e).outer.1 = s.outer.1 := by
  simp -implicitDefEqProofs [State.vaultErase]

@[simp] theorem State.vaultWrite_place (s : State) (w : Word) : (s.vaultWrite w).outer.1 = s.outer.1 := by
  unfold State.vaultWrite; split <;> simp -implicitDefEqProofs

@[simp] theorem State.dupPut_place (s : State) (t : Bytes) (w : Nat) (e : DupEntry) : (s.dupPut t w e).outer.1 = s.outer.1 := by
  simp -implicitDefEqProofs [State.dupPut]

@[simp] theorem State.repeatAnswer_place (s : State) (c : Nat) (x : Ctx) (w : Nat) (e : DupEntry) : (s.repeatAnswer c x w e).outer.1 = s.outer.1 := by
  simp -implicitDefEqProofs [State.repeatAnswer]

@[simp] theorem State.ackResult_place (s : State) (a : AckOf) (aired : Bool) : (s.ackResult a aired).outer.1 = s.outer.1 := by
  dsimp only [State.ackResult]; (repeat' split) <;> simp -implicitDefEqProofs

@[simp] theorem State.dupFlush_place (s : State) : s.dupFlush.outer.1 = s.outer.1 := by
  simp -implicitDefEqProofs +contextual [State.dupFlush]

@[simp] theorem State.dupWrite_place (s : State) (w : Word) : (s.dupWrite w).outer.1 = s.outer.1 := by
  simp -implicitDefEqProofs [State.dupWrite]

@[simp] theorem State.dropDownlink_place (s : State) (src : Nat) : (s.dropDownlink src).outer.1 = s.outer.1 := by
  simp -implicitDefEqProofs [State.dropDownlink]

@[simp] theorem State.downlinkPull_place (s : State) (job : Nat) : (s.downlinkPull job).outer.1 = s.outer.1 := by
  simp -implicitDefEqProofs [State.downlinkPull]

@[simp] theorem State.downlinkFail_place (s : State) (d : Downlink) (mode : Nat) : (s.downlinkFail d mode).outer.1 = s.outer.1 := by
  simp -implicitDefEqProofs [State.downlinkFail]

@[simp] theorem State.downlinkResult_place (s : State) (job mode code : Nat) : (s.downlinkResult job mode code).outer.1 = s.outer.1 := by
  unfold State.downlinkResult; split <;> simp -implicitDefEqProofs

@[simp] theorem State.pageResult_place (s : State) (job code : Nat) : (s.pageResult job code).outer.1 = s.outer.1 := by
  unfold State.pageResult; split <;> simp -implicitDefEqProofs

@[simp] theorem State.gateMove_place (s : State) (n : Nat) : (s.gateMove n).outer.1 = s.outer.1 := by
  simp -implicitDefEqProofs [State.gateMove]

@[simp] theorem State.gateSwapPlan_place (s : State) (n : Nat) : (s.gateSwapPlan n).outer.1 = s.outer.1 := by
  simp -implicitDefEqProofs [State.gateSwapPlan]

@[simp] theorem State.refillQueue_place (q : Nat) (s : State) : (State.refillQueue q s).outer.1 = s.outer.1 := by
  simp -implicitDefEqProofs [State.refillQueue]

@[simp] theorem State.refillAll_place (s : State) : s.refillAll.outer.1 = s.outer.1 := by simp -implicitDefEqProofs [State.refillAll]

@[simp] theorem State.unbar_place (s : State) (q : Nat) (ok : Bool) : (s.unbar q ok).outer.1 = s.outer.1 := by
  simp -implicitDefEqProofs [State.unbar]

@[simp] theorem State.pushRResult_place (s : State) (q code addr : Nat) : (s.pushRResult q code addr).outer.1 = s.outer.1 := by
  simp -implicitDefEqProofs [State.pushRResult]

@[simp] theorem State.rresultRead_place (s : State) : (s.rresultRead).2.outer.1 = s.outer.1 := by
  unfold State.rresultRead; split <;> simp -implicitDefEqProofs

@[simp] theorem State.radioEnd_place (s : State) (q code : Nat) : (s.radioEnd q code).outer.1 = s.outer.1 := by
  unfold State.radioEnd; split <;> simp -implicitDefEqProofs

@[simp] theorem State.flushQueue_place (s : State) (q : Nat) : (s.flushQueue q).outer.1 = s.outer.1 := by
  dsimp only [State.flushQueue]; (repeat' split) <;> simp -implicitDefEqProofs

@[simp] theorem State.schedCtrlWrite_place (s : State) (w : Word) : (s.schedCtrlWrite w).outer.1 = s.outer.1 := by
  simp -implicitDefEqProofs [State.schedCtrlWrite]

@[simp] theorem State.schedClusterReset_place (s : State) (cl : Nat) : (s.schedClusterReset cl).outer.1 = s.outer.1 := by
  simp -implicitDefEqProofs [State.schedClusterReset]

@[simp] theorem State.radioOffer_place (s0 : State) : s0.radioOffer.outer.1 = s0.outer.1 := by simp -implicitDefEqProofs [State.radioOffer]

@[simp] theorem State.offerAgain_place (s : State) : s.offerAgain.outer.1 = s.outer.1 := by simp -implicitDefEqProofs [State.offerAgain]

@[simp] theorem State.radioResult_place (s : State) (q code : Nat) : (s.radioResult q code).outer.1 = s.outer.1 := by
  simp -implicitDefEqProofs [State.radioResult]

@[simp] theorem State.openMile_place (s : State) (k owner policy : Nat) (m : Milestone) :
    (s.openMile k owner policy m).outer.1 = s.outer.1 := by
  simp -implicitDefEqProofs [State.openMile]

theorem State.msuOpenFor_place (s : State) (cl policy : Nat) (tp : Option Tp) (k : Nat) (t : State)
    (e : s.msuOpenFor cl policy tp = some (k, t)) :
    t.outer.1 = s.outer.1 := by
  unfold State.msuOpenFor at e
  split at e
  · cases e
  · obtain ⟨j, -, hj⟩ := Option.map_eq_some_iff.mp e
    obtain rfl := congrArg Prod.snd hj
    simp -implicitDefEqProofs

@[simp] theorem State.msuOpenRead_place (s : State) (cl : Nat) : (s.msuOpenRead cl).2.outer.1 = s.outer.1 := by
  unfold State.msuOpenRead
  split
  · next e => exact State.msuOpenFor_place _ _ _ _ _ _ e
  · simp

@[simp] theorem State.putAction_place (s : State) (k : Nat) (a : Action) : (s.putAction k a).outer.1 = s.outer.1 := by
  unfold State.putAction; split <;> simp -implicitDefEqProofs

@[simp] theorem State.addLast_place (s : State) (cl k : Nat) (a : Action) : (s.addLast cl k a).2.outer.1 = s.outer.1 := by
  unfold State.addLast
  split
  · dsimp only
    split <;> next e => obtain rfl := congrArg Prod.snd e; simp -implicitDefEqProofs
  · split <;> simp -implicitDefEqProofs
  · split
    · simp -implicitDefEqProofs
    · dsimp only
      (repeat' split) <;> simp -implicitDefEqProofs

@[simp] theorem State.msuAdd_place (s : State) (cl : Nat) (tp : Option Tp) (w0 w1 w2 w3 : Word) : (s.msuAdd cl tp w0 w1 w2 w3).2.outer.1 = s.outer.1 := by
  dsimp only [State.msuAdd]; split <;> simp -implicitDefEqProofs

@[simp] theorem State.msuCmdErr_place (s : State) : s.msuCmdErr.outer.1 = s.outer.1 := by simp -implicitDefEqProofs [State.msuCmdErr]

@[simp] theorem State.msuActWrite_place (s : State) (cl : Nat) (w3 : Word) : (s.msuActWrite cl w3).outer.1 = s.outer.1 := by
  simp -implicitDefEqProofs [State.msuActWrite]

@[simp] theorem State.jretire_place (s : State) (seq : Nat) : (s.jretire seq).outer.1 = s.outer.1 := by
  simp -implicitDefEqProofs [State.jretire]

@[simp] theorem State.readyOne_place (k : Nat) (s : State) : (State.readyOne k s).outer.1 = s.outer.1 := by
  unfold State.readyOne; split <;> simp -implicitDefEqProofs

@[simp] theorem State.msuReady_place (s : State) : s.msuReady.outer.1 = s.outer.1 := by simp -implicitDefEqProofs [State.msuReady]

@[simp] theorem State.mileRequest_place (s : State) (k : Nat) : (s.mileRequest k).outer.1 = s.outer.1 := by
  unfold State.mileRequest; split <;> simp -implicitDefEqProofs

@[simp] theorem State.flashRecDone_place (s : State) (rec code : Nat) : (s.flashRecDone rec code).outer.1 = s.outer.1 := by
  dsimp only [State.flashRecDone]; split <;> simp -implicitDefEqProofs

@[simp] theorem State.mileTxResult_place (s : State) (k : Nat) (e : TxEntry) (code : Nat) : (s.mileTxResult k e code).outer.1 = s.outer.1 := by
  unfold State.mileTxResult; split <;> simp -implicitDefEqProofs

@[simp] theorem State.msuCommit_place (s : State) (cl k : Nat) : (s.msuCommit cl k).outer.1 = s.outer.1 := by
  unfold State.msuCommit; split <;> simp -implicitDefEqProofs

@[simp] theorem State.msuAbort_place (s : State) (cl k : Nat) : (s.msuAbort cl k).outer.1 = s.outer.1 := by
  simp -implicitDefEqProofs [State.msuAbort]

@[simp] theorem State.msuPolicy_place (s : State) (cl k policy : Nat) : (s.msuPolicy cl k policy).outer.1 = s.outer.1 := by
  unfold State.msuPolicy; split <;> simp -implicitDefEqProofs

@[simp] theorem State.msuCmdWrite_place (s : State) (cl : Nat) (w : Word) : (s.msuCmdWrite cl w).outer.1 = s.outer.1 := by
  unfold State.msuCmdWrite; split <;> simp -implicitDefEqProofs

@[simp] theorem State.msuClusterReset_place (s : State) (cl : Nat) : (s.msuClusterReset cl).outer.1 = s.outer.1 := by
  simp -implicitDefEqProofs +contextual [State.msuClusterReset]

@[simp] theorem State.ntFollow_place (s : State) : s.ntFollow.outer.1 = s.outer.1 := by simp -implicitDefEqProofs [State.ntFollow]

@[simp] theorem State.ntMoveFollow_place (s : State) : s.ntMoveFollow.outer.1 = s.outer.1 := by simp -implicitDefEqProofs [State.ntMoveFollow]

@[simp] theorem State.servoUndo_place (s : State) : s.servoUndo.outer.1 = s.outer.1 := by
  unfold State.servoUndo; split <;> simp -implicitDefEqProofs

@[simp] theorem State.ntLoad_place (s : State) (sec : Word) (tick : Nat) : (s.ntLoad sec tick).outer.1 = s.outer.1 := by
  simp -implicitDefEqProofs [State.ntLoad]

@[simp] theorem State.ntStep_place (s : State) (d : Int) : (s.ntStep d).outer.1 = s.outer.1 := by simp -implicitDefEqProofs [State.ntStep]

@[simp] theorem State.ntcCtrlWrite_place (s : State) (w : Word) : (s.ntcCtrlWrite w).outer.1 = s.outer.1 := by
  simp -implicitDefEqProofs [State.ntcCtrlWrite]

@[simp] theorem State.ntCapture_place (s : State) (cl : Nat) : (s.ntCapture cl).outer.1 = s.outer.1 := by
  simp -implicitDefEqProofs [State.ntCapture]

@[simp] theorem State.ntSrcWrite_place (s : State) (w : Word) : (s.ntSrcWrite w).outer.1 = s.outer.1 := by
  simp -implicitDefEqProofs [State.ntSrcWrite]

@[simp] theorem State.sendLink_place (s0 : State) (p kind mode : Nat) : (s0.sendLink p kind mode).outer.1 = s0.outer.1 := by
  simp -implicitDefEqProofs [State.sendLink]

@[simp] theorem State.lpRetrain_place (s : State) (p : Nat) : (s.lpRetrain p).outer.1 = s.outer.1 := by
  simp -implicitDefEqProofs [State.lpRetrain]

@[simp] theorem State.lpWakePeer_place (s : State) (p : Nat) : (s.lpWakePeer p).outer.1 = s.outer.1 := by
  simp -implicitDefEqProofs [State.lpWakePeer]

@[simp] theorem State.lpCfgWrite_place (s : State) (p : Nat) (w : Word) : (s.lpCfgWrite p w).outer.1 = s.outer.1 := by
  simp -implicitDefEqProofs [State.lpCfgWrite]

@[simp] theorem State.lpClearCounts_place (s : State) (p : Nat) : (s.lpClearCounts p).outer.1 = s.outer.1 := by
  simp -implicitDefEqProofs [State.lpClearCounts]

@[simp] theorem State.lpCtrlWrite_place (s : State) (p : Nat) (w : Word) : (s.lpCtrlWrite p w).outer.1 = s.outer.1 := by
  simp -implicitDefEqProofs [State.lpCtrlWrite]

@[simp] theorem State.lmRefresh_place (s : State) : s.lmRefresh.outer.1 = s.outer.1 := by simp -implicitDefEqProofs [State.lmRefresh]

@[simp] theorem State.flushBegin_place (s : State) (orderly : Bool) : (s.flushBegin orderly).outer.1 = s.outer.1 := by
  simp -implicitDefEqProofs [State.flushBegin]

@[simp] theorem State.lmcfgWrite_place (s : State) (w : Word) : (s.lmcfgWrite w).outer.1 = s.outer.1 := by
  simp -implicitDefEqProofs [State.lmcfgWrite]

@[simp] theorem State.vincfgWrite_place (s : State) (w : Word) : (s.vincfgWrite w).outer.1 = s.outer.1 := by
  simp -implicitDefEqProofs [State.vincfgWrite]

@[simp] theorem State.pllStop_place (s : State) : s.pllStop.outer.1 = s.outer.1 := by simp -implicitDefEqProofs [State.pllStop]

@[simp] theorem State.clkcfgWrite_place (s : State) (w : Word) : (s.clkcfgWrite w).outer.1 = s.outer.1 := by
  simp -implicitDefEqProofs [State.clkcfgWrite]

@[simp] theorem State.vreqWrite_place (s : State) (w : Word) : (s.vreqWrite w).outer.1 = s.outer.1 := by
  simp -implicitDefEqProofs [State.vreqWrite]

@[simp] theorem State.exchClose_place (s : State) (e : Exch) : (s.exchClose e).outer.1 = s.outer.1 := by
  simp -implicitDefEqProofs [State.exchClose]

@[simp] theorem State.provisionCut_place (s : State) : s.provisionCut.outer.1 = s.outer.1 := by simp -implicitDefEqProofs [State.provisionCut]

@[simp] theorem State.consumersClear_place (s : State) (cl : Nat) : (s.consumersClear cl).outer.1 = s.outer.1 := by
  simp -implicitDefEqProofs [State.consumersClear]

@[simp] theorem State.clusterReset_place (s : State) (cl : Nat) : (s.clusterReset cl).outer.1 = s.outer.1 := by
  simp -implicitDefEqProofs [State.clusterReset]

theorem State.warmReset_place (s0 : State) (causes : List Fld) : (s0.warmReset causes).outer.1 = s0.outer.1 := by
  unfold State.warmReset
  extract_lets s1 due kept s2 s d t t1
  have h1 : s1.outer = s0.outer := by simp -implicitDefEqProofs [s1]
  have h2 : s2.outer = s1.outer := by simp -implicitDefEqProofs [s2]
  have hs : s.outer = s2.outer := by simp -implicitDefEqProofs [s]
  have hd : d.outer = s.outer := by simp -implicitDefEqProofs [d, hs]
  have ht : t.outer = s.outer := State.withKept_outer d hd isWarm_of_isBackup _ _ _ _
  have h1' : t1.outer = t.outer := by simp -implicitDefEqProofs [t1]
  rw [State.filterCold_outer, foldOver_place _ (fun f u => u.setFld_place f 1 0), State.setFlag_place, h1', ht, hs, h2, h1]

@[simp] theorem State.warmBoot_place (s : State) (causes : List Fld) : (s.warmBoot causes).outer.1 = s.outer.1 := by
  rw [State.warmBoot, State.boot_outer, s.warmReset_place causes]

@[simp] theorem State.rstctlWrite_place (s : State) (w : Word) : (s.rstctlWrite w).outer.1 = s.outer.1 := by
  simp -implicitDefEqProofs [State.rstctlWrite]

@[simp] theorem State.keyRegWrite_place (s : State) (r : RegName) (ok : Fld) (w : Nat) (v : Word) :
    (s.keyRegWrite r ok w v).outer.1 = s.outer.1 := by
  simp -implicitDefEqProofs [State.keyRegWrite]

@[simp] theorem State.checkTag_place (s : State) (w : Nat) : (s.checkTag w).2.outer.1 = s.outer.1 := by
  unfold State.checkTag; split <;> simp -implicitDefEqProofs

@[simp] theorem State.ctlBoundary_place (s : State) : s.ctlBoundary.outer.1 = s.outer.1 := by simp -implicitDefEqProofs [State.ctlBoundary]

@[simp] theorem State.holdWrite_place (s : State) (w : Word) : (s.holdWrite w).outer.1 = s.outer.1 := by
  simp -implicitDefEqProofs [State.holdWrite]

@[simp] theorem State.ctlCfgWrite_place (s : State) (w : Word) : (s.ctlCfgWrite w).outer.1 = s.outer.1 := by
  simp -implicitDefEqProofs [State.ctlCfgWrite]

@[simp] theorem State.errAck_place (s : State) (w : Word) : (s.errAck w).outer.1 = s.outer.1 := by
  dsimp only [State.errAck]; (repeat' split) <;> simp -implicitDefEqProofs

@[simp] theorem State.errReport_place (s : State) (cl : Nat) (w : Word) : (s.errReport cl w).outer.1 = s.outer.1 := by
  simp -implicitDefEqProofs [State.errReport]

@[simp] theorem State.wdtRestart_place (s : State) (n : Nat) : (s.wdtRestart n).outer.1 = s.outer.1 := by
  simp -implicitDefEqProofs [State.wdtRestart]

@[simp] theorem State.wdtCfgWrite_place (s : State) (n : Nat) (w : Word) : (s.wdtCfgWrite n w).outer.1 = s.outer.1 := by
  simp -implicitDefEqProofs [State.wdtCfgWrite]

@[simp] theorem State.consecUp_place (s : State) : s.consecUp.outer.1 = s.outer.1 := by simp -implicitDefEqProofs [State.consecUp]

@[simp] theorem State.wdtFire_place (s : State) (n : Nat) : (s.wdtFire n).outer.1 = s.outer.1 := by
  simp -implicitDefEqProofs [State.wdtFire]

@[simp] theorem State.wdtKick_place (s : State) (n : Nat) (w : Word) : (s.wdtKick n w).outer.1 = s.outer.1 := by
  simp -implicitDefEqProofs [State.wdtKick]

@[simp] theorem State.replayWrite_place (s : State) (w : Word) : (s.replayWrite w).outer.1 = s.outer.1 := by
  simp -implicitDefEqProofs [State.replayWrite]

@[simp] theorem State.flcResultRead_place (s : State) : (s.flcResultRead).2.outer.1 = s.outer.1 := by
  unfold State.flcResultRead; split <;> simp -implicitDefEqProofs

@[simp] theorem State.ntTickRead_place (s : State) (core : Nat) : (s.ntTickRead core).2.outer.1 = s.outer.1 := by
  simp -implicitDefEqProofs [State.ntTickRead]

@[simp] theorem State.readReg_place (s : State) (who cl : Nat) (r : RegName) (n : Nat) : (s.readReg who cl r n).2.outer.1 = s.outer.1 := by
  unfold State.readReg; split <;> simp -implicitDefEqProofs

@[simp] theorem State.rtcWrite_place (s : State) (r : RegName) (n : Nat) (w : Word) : (s.rtcWrite r n w).outer.1 = s.outer.1 := by
  unfold State.rtcWrite; split <;> simp -implicitDefEqProofs

@[simp] theorem State.coreEnWrite_place (s : State) (w : Word) : (s.coreEnWrite w).outer.1 = s.outer.1 := by
  simp -implicitDefEqProofs [State.coreEnWrite]

@[simp] theorem State.queueCfgWrite_place (s : State) (cl q : Nat) (w : Word) : (s.queueCfgWrite cl q w).outer.1 = s.outer.1 := by
  simp -implicitDefEqProofs [State.queueCfgWrite]

@[simp] theorem State.tmemWrite_place (s : State) (n : Nat) (w : Word) : (s.tmemWrite n w).outer.1 = s.outer.1 := by
  simp -implicitDefEqProofs [State.tmemWrite]

@[simp] theorem State.evfWrite_place (s : State) (cl : Nat) (r : RegName) (n : Nat) (w : Word) :
    (s.evfWrite cl r n w).outer.1 = s.outer.1 := by
  unfold State.evfWrite; split <;> simp -implicitDefEqProofs

@[simp] theorem State.sysWrite_place (s : State) (r : RegName) (n : Nat) (w : Word) : (s.sysWrite r n w).outer.1 = s.outer.1 := by
  unfold State.sysWrite; split <;> simp -implicitDefEqProofs

@[simp] theorem State.timeWrite_place (s : State) (cl : Nat) (r : RegName) (n : Nat) (w : Word) :
    (s.timeWrite cl r n w).outer.1 = s.outer.1 := by
  unfold State.timeWrite; split <;> simp -implicitDefEqProofs

@[simp] theorem State.storeWrite_place (s : State) (cl : Nat) (r : RegName) (n : Nat) (w : Word) : (s.storeWrite cl r n w).outer.1 = s.outer.1 := by
  unfold State.storeWrite; split <;> simp -implicitDefEqProofs

@[simp] theorem State.pushWrite_place (s : State) (cl : Nat) (w : Word) : (s.pushWrite cl w).outer.1 = s.outer.1 := by
  simp -implicitDefEqProofs [State.pushWrite]

@[simp] theorem State.gateWrite_place (s : State) (n : Nat) (w : Word) : (s.gateWrite n w).outer.1 = s.outer.1 := by
  simp -implicitDefEqProofs [State.gateWrite]

@[simp] theorem State.radioWrite_place (s : State) (cl : Nat) (r : RegName) (n : Nat) (w : Word) : (s.radioWrite cl r n w).outer.1 = s.outer.1 := by
  unfold State.radioWrite; split <;> simp -implicitDefEqProofs

@[simp] theorem State.writeReg_place (s : State) (cl : Nat) (r : RegName) (n : Nat) (w : Word) : (s.writeReg cl r n w).outer.1 = s.outer.1 := by
  simp -implicitDefEqProofs [State.writeReg]

@[simp] theorem State.deniedLog_place (s : State) (who a : Nat) : (s.deniedLog who a).outer.1 = s.outer.1 := by
  simp -implicitDefEqProofs [State.deniedLog]

@[simp] theorem State.noRight_place (s : State) (who a : Nat) : (s.noRight who a).outer.1 = s.outer.1 := by
  simp -implicitDefEqProofs [State.noRight]

@[simp] theorem State.setPadByte_place (s : State) (c o : Nat) (b : Byte) : (s.setPadByte c o b).outer.1 = s.outer.1 := rfl

@[simp] theorem State.setByteFor_place (s : State) (who a : Nat) (b : Byte) : (s.setByteFor who a b).outer.1 = s.outer.1 := by
  simp -implicitDefEqProofs [State.setByteFor]

@[simp] theorem State.setBytesFor_place (s : State) (who a : Nat) (bs : Bytes) : (s.setBytesFor who a bs).outer.1 = s.outer.1 := by
  induction bs generalizing s a with
  | nil => rfl
  | cons b l ih => exact (ih _ _).trans (State.setByteFor_place _ _ _ _)

@[simp] theorem State.dramRead_place (s : State) (who a n : Nat) : (s.dramRead who a n).2.2.outer.1 = s.outer.1 := by
  unfold State.dramRead
  (repeat' split) <;> try simp
  all_goals next e => obtain rfl := congrArg Prod.snd e; simp -implicitDefEqProofs

@[simp] theorem State.flashRead_place (s : State) (who a n : Nat) : (s.flashRead who a n).2.2.outer.1 = s.outer.1 := by
  unfold State.flashRead
  extract_lets off
  split
  · simp -implicitDefEqProofs
  · split <;> next e => obtain rfl := congrArg Prod.snd e; simp -implicitDefEqProofs

@[simp] theorem State.memRead_place (s : State) (who a n : Nat) : (s.memRead who a n).2.2.outer.1 = s.outer.1 := by
  unfold State.memRead
  (repeat' split) <;> try simp
  all_goals next e => obtain rfl := congrArg Prod.snd e; simp

@[simp] theorem State.regRead_place (s : State) (who a : Nat) : (s.regRead who a).2.2.outer.1 = s.outer.1 := by
  unfold State.regRead
  dsimp only
  split
  · split
    · rfl
    · simp
  · (repeat' split) <;> try simp
    all_goals next e => obtain rfl := congrArg Prod.snd e; simp

@[simp] theorem State.busRead_place (s : State) (who a n : Nat) : (s.busRead who a n).2.2.outer.1 = s.outer.1 := by
  simp -implicitDefEqProofs [State.busRead]

@[simp] theorem State.dramWrite_place (s : State) (who a : Nat) (b : Bytes) : (s.dramWrite who a b).2.outer.1 = s.outer.1 := by
  unfold State.dramWrite
  split
  · split
    · rfl
    · split <;> next e => obtain rfl := congrArg Prod.snd e; simp -implicitDefEqProofs
  · split <;> simp -implicitDefEqProofs

@[simp] theorem State.memWrite_place (s : State) (who a : Nat) (b : Bytes) : (s.memWrite who a b).2.outer.1 = s.outer.1 := by
  unfold State.memWrite
  split
  · split
    · simp
    · split <;> next e => obtain rfl := congrArg Prod.snd e; simp
  · split <;> simp

@[simp] theorem State.regWrite_place (s : State) (who a : Nat) (w : Word) : (s.regWrite who a w).2.outer.1 = s.outer.1 := by
  dsimp only [State.regWrite]; (repeat' split) <;> simp -implicitDefEqProofs

@[simp] theorem State.regPart_place (s : State) (a : Nat) (b : Bytes) : (s.regPart a b).2.outer.1 = s.outer.1 := by
  simp -implicitDefEqProofs [State.regPart]

@[simp] theorem State.busWrite_place (s : State) (who a : Nat) (b : Bytes) : (s.busWrite who a b).2.outer.1 = s.outer.1 := by
  simp -implicitDefEqProofs [State.busWrite]

@[simp] theorem State.setJob_place (s : State) (id : Nat) (j : Job) : (s.setJob id j).outer.1 = s.outer.1 := by
  simp -implicitDefEqProofs [State.setJob]

@[simp] theorem State.jobFeed_place (id : Nat) (s : State) : (State.jobFeed id s).outer.1 = s.outer.1 := by
  dsimp only [State.jobFeed]; (repeat' split) <;> simp -implicitDefEqProofs

@[simp] theorem State.jobMile_place (s : State) (id : Nat) (w0 w1 : Word) (data : Bytes) : (s.jobMile id w0 w1 data).outer.1 = s.outer.1 := by
  unfold State.jobMile
  split
  · simp
  · next e =>
    have h1 := State.msuOpenFor_place _ _ _ _ _ _ e
    dsimp only
    split <;> simp [h1]

@[simp] theorem State.jobFlashed_place (s : State) (id : Nat) (j : Job) : (s.jobFlashed id j).outer.1 = s.outer.1 := by
  simp -implicitDefEqProofs [State.jobFlashed]

@[simp] theorem State.jobPiece_place (e : Nat × Nat) (s : State) : (State.jobPiece e s).outer.1 = s.outer.1 := by
  unfold State.jobPiece; split <;> simp -implicitDefEqProofs

@[simp] theorem State.txDeliver_place (d : TxDone) (s : State) : (State.txDeliver d s).outer.1 = s.outer.1 := by
  dsimp only [State.txDeliver]; (repeat' split) <;> simp -implicitDefEqProofs

@[simp] theorem State.flashReadNow_place (s : State) (h : Hdr) (a n : Nat) : (s.flashReadNow h a n).outer.1 = s.outer.1 := by
  unfold State.flashReadNow
  split <;> next e => obtain rfl := congrArg Prod.snd e; simp -implicitDefEqProofs

@[simp] theorem State.readWords_place (s : State) (a n : Nat) : (s.readWords a n).2.outer.1 = s.outer.1 := by
  induction n generalizing s a with
  | zero => rfl
  | succ n ih =>
    unfold State.readWords
    split
    · next e =>
      obtain rfl := congrArg (·.2.2) e
      split <;> next e => obtain rfl := congrArg Prod.snd e; simp -implicitDefEqProofs [ih]
    · next e => obtain rfl := congrArg (·.2.2) e; simp
    · next e => obtain rfl := congrArg (·.2.2) e; simp

@[simp] theorem State.regReadNow_place (s : State) (h : Hdr) (a n : Nat) : (s.regReadNow h a n).outer.1 = s.outer.1 := by
  unfold State.regReadNow
  split <;> next e => obtain rfl := congrArg Prod.snd e; simp -implicitDefEqProofs

@[simp] theorem State.writeWords_place (s : State) (a n : Nat) (d : Bytes) : (s.writeWords a n d).2.outer.1 = s.outer.1 := by
  induction n generalizing s a d with
  | zero => rfl
  | succ n ih =>
    unfold State.writeWords
    have h1 := State.busWrite_place s 0 a (d.take 4)
    split
    · next e => rw [e] at h1; exact (ih _ _ _).trans h1
    · next e => rw [e] at h1; exact h1
    · next e => rw [e] at h1; exact h1

@[simp] theorem State.regWriteNow_place (s : State) (h : Hdr) (a n : Nat) (d : Bytes) : (s.regWriteNow h a n d).outer.1 = s.outer.1 := by
  unfold State.regWriteNow
  split <;> next e => obtain rfl := congrArg Prod.snd e; simp -implicitDefEqProofs

@[simp] theorem State.accessNow_place (e : Hdr × Nat × Nat × Nat × Bytes) (s : State) : (State.accessNow e s).outer.1 = s.outer.1 := by
  simp -implicitDefEqProofs [State.accessNow]

@[simp] theorem State.readsDue_place (s : State) : s.readsDue.outer.1 = s.outer.1 := by
  simp -implicitDefEqProofs +contextual [State.readsDue]

@[simp] theorem State.settleOnce_place (s : State) : s.settleOnce.outer.1 = s.outer.1 := by
  unfold State.settleOnce
  extract_lets s1 s2
  have h1 : s1.outer.1 = s.outer.1 := foldOver_place _ (fun x t => State.txDeliver_place x t) _ _
  have h2 : s2.outer.1 = s1.outer.1 := foldOver_place _ (fun (e : Nat × Nat) t => State.flashRecDone_place t e.1 e.2) _ _
  exact (foldOver_place _ (fun e t => State.jobPiece_place e t) _ _).trans (h2.trans h1)

@[simp] theorem State.settle_place (fuel : Nat) (s : State) : (State.settle fuel s).outer.1 = s.outer.1 := by
  induction fuel generalizing s with
  | zero => rfl
  | succ n ih =>
    unfold State.settle
    split
    · exact (ih _).trans s.settleOnce_place
    · rfl

@[simp] theorem State.hostRefresh_place (s : State) : s.hostRefresh.outer.1 = s.outer.1 := by simp -implicitDefEqProofs [State.hostRefresh]

@[simp] theorem State.relayRefresh_place (s : State) : s.relayRefresh.outer.1 = s.outer.1 := by simp -implicitDefEqProofs [State.relayRefresh]

@[simp] theorem State.roadDue_place (s : State) : s.roadDue.outer.1 = s.outer.1 := by
  unfold State.roadDue; split <;> simp -implicitDefEqProofs

@[simp] theorem State.done_place (s : State) : s.done.outer.1 = s.outer.1 := by
  unfold State.done
  extract_lets s1 s2 s3
  have h1 : s1.outer.1 = s.outer.1 := by simp [s1]
  have h2 : s2.outer.1 = s1.outer.1 := by simp [s2]
  have h3 : s3.outer.1 = s2.outer.1 := by simp [s3]
  simp [h3, h2, h1]

end Sys2Proof.Machine
end

section
/-! CONFIG_SAVE in a state where work in progress bears the number that the next job gets (R56, R436, log entry 42). The statement of CONFIG_SAVE
takes the sector from the work in progress before the command, the model from that with the command's own job, and a state need not keep the
two numbers apart. -/

namespace Sys2Proof.Machine

theorem exec_configSave (c : CmdHead) (s : State) : exec (.configSave c) s = .next (s.hcpCmd c 0x0604 []).done := by rfl

/-- A configuration image written stands in the sector that wear levelling gives (R436). -/
theorem State.writeImage_configAt {s t : State} {x : ConfigImage} (h : s.writeImage x = some t) :
    t.pwr.configAt = s.wearTarget (fun u => u) s.spareSectors 4096 := by
  unfold State.writeImage at h
  obtain ⟨sec, target, rfl⟩ := Option.map_eq_some_iff.1 h
  rw [target]
  dsimp only
  split
  · rw [State.configAt_of_outer (State.eraseRecorded_outer _ _)]
    rfl
  · rfl

/-- CONFIG_SAVE chooses its sector with its own job among the work in progress. -/
theorem State.opConfigSave_configAt (s : State) (h : Hdr) {sec : Nat}
    (target : (s.accept h 0x0604 0).wearTarget (fun u => u) (s.accept h 0x0604 0).spareSectors 4096 = some sec) :
    (s.opConfigSave h).pwr.configAt = some sec := by
  unfold State.opConfigSave State.take
  dsimp only
  cases image : (s.accept h 0x0604 0).writeImage s.configNow with
  | none =>
    rw [State.writeImage, target] at image
    cases image
  | some t =>
    dsimp only
    rw [State.configAt_of_outer ((State.complete_outer _ _ _ _ _).trans (State.fresh_outer _ _)), State.writeImage_configAt image, target]

/-- The end of a step keeps where the configuration image stands. -/
theorem State.configAt_done (s : State) : s.done.pwr.configAt = s.pwr.configAt := congrArg Prod.fst s.done_place

/-- The command of the host. -/
def saveCmd : CmdHead := ⟨.hport, 5, none⟩

/-- A piece of the Supervisor's own work, which is to write sector 8. -/
def sectorWork (h : Hdr) : Job := { hdr := h, opcode := 0x10001, arg := 0, par := [], data := [], own := [⟨1, 8 * 4096, []⟩] }

/-- RUN, with the firmware up and HPORT on; work on sector 8 bears the number that the next job gets. -/
def saveState : State :=
  let s := (((State.reset.setFld F.SYSCTL_PSTATE_CUR 0).setFld F.FLC_PART_B 16).setReg .HPORT_CFG 0 1).onPwr fun p => { p with up := true }
  s.onHcp fun h => { h with jobs := [(h.nextJob, sectorWork (s.cmdHdr saveCmd 0x0604 [] []))] }

theorem saveState_passes : saveState.cmdPasses saveCmd 0x0604 [] [] := by decide +kernel

/-- Before the command, the work in progress holds sector 8. -/
theorem saveState_target :
    let u := saveState.cmdState saveCmd 0x0604 [] []
    u.wearTarget (fun x => x) u.spareSectors 4096 = some 9 := by decide +kernel

/-- The command's job takes its place. -/
theorem saveState_taken :
    let t := (saveState.cmdState saveCmd 0x0604 [] []).accept (saveState.cmdHdr saveCmd 0x0604 [] []) 0x0604 0
    t.wearTarget (fun x => x) t.spareSectors 4096 = some 8 := by decide +kernel

/-- Refutes O50: a piece of the Supervisor's own work that bears the number of the next job keeps sector 8 in use before CONFIG_SAVE, and the
command's job replaces it, so that the image goes to sector 8 where the statement has 9. The statement has no hypothesis that the jobs in progress bear numbers below
the next one. -/
theorem not_hcpMilestoneFlashTag : ¬ Obligations.HcpMilestoneFlashTag := by
  unfold Obligations.HcpMilestoneFlashTag
  intro all
  obtain ⟨-, -, -, -, -, -, -, -, save, -⟩ := all saveCmd 0 0 0 0 0 0 0 [] [] saveState
  obtain ⟨found, -⟩ := save saveState_passes
  obtain ⟨t, ends, -, -, claimed⟩ := found (by rw [saveState_target]; rfl)
  have ran := exec_of_passes (exec_configSave saveCmd saveState) saveState_passes rfl
  have same : ((saveState.cmdState saveCmd 0x0604 [] []).opConfigSave (saveState.cmdHdr saveCmd 0x0604 [] [])).done = t.done :=
    Host.Outcome.next.inj (ran.symm.trans ends)
  have at8 := State.opConfigSave_configAt _ _ saveState_taken
  rw [← State.configAt_done, same, State.configAt_done, claimed, saveState_target] at at8
  exact absurd at8 (by decide)

end Sys2Proof.Machine
end

section
/-! What the works of the device leave as it is (R80 to R101, R292): the registers of the clock selection, of the power state, of the trip level
and of the regulator, with the requests to the regulator, a wake under way and a flush; the level of the bus that the comparator has found; the
counters of the line ports and the units taken for the user clusters; and the front-end pins. A function f of the model that leaves them all has
a lemma f_steady; one that may bring the pins to their safe level has a lemma f_footing, which says that it leaves the others. -/

namespace Sys2Proof.Machine

/-- Registers that commits, errors, the radio and the bring-up of the line ports do not write. -/
@[simp] abbrev RegName.stands (r : RegName) : Prop :=
  r = .SYSCTL_CLKSTAT ∨ r = .SYSCTL_PSTATE ∨ r = .SYSCTL_VINCFG ∨ r = .PMB_STAT ∨ r = .LP_CNT

/-- The registers that stand, with the regulator's requests, a wake under way and a flush, the bus, and the units for the user clusters. -/
def State.footing (s : State) : (PmbState × Bool × Option Flush) × Bool × List Bytes × (RegName → Nat → Word) :=
  ((s.pwr.pmb, s.pwr.waking, s.pwr.flush), s.vinLow, s.lp.userDown, fun r n => if r.stands then s.reg r n else 0)

/-- The footing and the front-end pins. -/
def State.steady (s : State) : ((PmbState × Bool × Option Flush) × Bool × List Bytes × (RegName → Nat → Word)) × Tab Nat :=
  (s.footing, s.txp.pins)

theorem State.footing_eq {s t : State} (pwr : (t.pwr.pmb, t.pwr.waking, t.pwr.flush) = (s.pwr.pmb, s.pwr.waking, s.pwr.flush))
    (vin : t.vinLow = s.vinLow) (user : t.lp.userDown = s.lp.userDown) (regs : ∀ (r : RegName) (n : Nat), r.stands → t.reg r n = s.reg r n) :
    t.footing = s.footing := by
  unfold State.footing
  rw [pwr, vin, user]
  congr 3
  funext r n
  split
  · next h => exact regs r n h
  · rfl

theorem State.steady_eq {s t : State} (pwr : (t.pwr.pmb, t.pwr.waking, t.pwr.flush) = (s.pwr.pmb, s.pwr.waking, s.pwr.flush))
    (vin : t.vinLow = s.vinLow) (user : t.lp.userDown = s.lp.userDown) (pins : t.txp.pins = s.txp.pins)
    (regs : ∀ (r : RegName) (n : Nat), r.stands → t.reg r n = s.reg r n) : t.steady = s.steady :=
  Prod.ext (State.footing_eq pwr vin user regs) pins

theorem State.footing_of_steady {s t : State} (h : t.steady = s.steady) : t.footing = s.footing := congrArg (·.1) h
theorem State.pins_of_steady {s t : State} (h : t.steady = s.steady) : t.txp.pins = s.txp.pins := congrArg (·.2) h

theorem State.pmb_of_footing {s t : State} (h : t.footing = s.footing) : t.pwr.pmb = s.pwr.pmb := congrArg (·.1.1) h
theorem State.waking_of_footing {s t : State} (h : t.footing = s.footing) : t.pwr.waking = s.pwr.waking := congrArg (·.1.2.1) h
theorem State.flush_of_footing {s t : State} (h : t.footing = s.footing) : t.pwr.flush = s.pwr.flush := congrArg (·.1.2.2) h
theorem State.vinLow_of_footing {s t : State} (h : t.footing = s.footing) : t.vinLow = s.vinLow := congrArg (·.2.1) h
theorem State.userDown_of_footing {s t : State} (h : t.footing = s.footing) : t.lp.userDown = s.lp.userDown := congrArg (·.2.2.1) h

theorem State.reg_of_footing {s t : State} (h : t.footing = s.footing) {r : RegName} (hr : r.stands) (n : Nat) : t.reg r n = s.reg r n := by
  have at_ : (if r.stands then t.reg r n else 0) = if r.stands then s.reg r n else 0 := congrFun (congrFun (congrArg (·.2.2.2) h) r) n
  rwa [if_pos hr, if_pos hr] at at_

theorem State.fld_of_footing {s t : State} (h : t.footing = s.footing) {f : Fld} (hf : f.reg.stands) (n : Nat) : t.fld f n = s.fld f n := by
  rw [State.fld, State.reg_of_footing h hf, State.fld]

@[simp] theorem State.steady_ite (c : Prop) [Decidable c] (a b : State) : (if c then a else b).steady = if c then a.steady else b.steady :=
  apply_ite State.steady c a b

@[simp] theorem foldOver_steady {α : Type} (f : α → State → State) (hf : ∀ a s, (f a s).steady = s.steady) (l : List α) (s : State) :
    (foldOver f l s).steady = s.steady :=
  foldOver_proj State.steady f hf l s

/-! ### The updates of a block -/

@[simp] theorem State.setReg_steady (s : State) {r : RegName} (h : ¬r.stands) (n : Nat) (v : Word) : (s.setReg r n v).steady = s.steady := by
  refine State.steady_eq (by rfl) (by rfl) (by rfl) (by rfl) (fun r' m h' => ?_)
  rw [State.reg_setReg_ite, if_neg]
  rintro ⟨rfl, -⟩
  exact h h'

@[simp] theorem State.noteRaised_steady (s : State) (r : RegName) (n : Nat) (m : Word) : (s.noteRaised r n m).steady = s.steady := by
  rw [State.noteRaised_eq]; rfl

@[simp] theorem State.setFld_steady (s : State) {r : RegName} (h : ¬r.stands) (hi lo v n : Nat) :
    (s.setFld ⟨r, hi, lo⟩ v n).steady = s.steady := by
  rw [State.setFld, State.noteRaised_steady, State.setReg_steady _ h]

@[simp] theorem State.setFlag_steady (s : State) {r : RegName} (h : ¬r.stands) (hi lo : Nat) (b : Bool) (n : Nat) :
    (s.setFlag ⟨r, hi, lo⟩ b n).steady = s.steady := s.setFld_steady h hi lo (b2n b) n

@[simp] theorem State.bump_steady (s : State) {r : RegName} (h : ¬r.stands) (hi lo n d : Nat) :
    (s.bump ⟨r, hi, lo⟩ n d).steady = s.steady := s.setFld_steady h hi lo _ n

@[simp] theorem State.bumpWrap_steady (s : State) {r : RegName} (h : ¬r.stands) (hi lo n d : Nat) :
    (s.bumpWrap ⟨r, hi, lo⟩ n d).steady = s.steady := s.setFld_steady h hi lo _ n

/-- A write to a block that does not run sets no WLOCK flag. -/
@[simp] theorem State.regStore_idle_steady (s : State) {r : RegName} (h : ¬r.stands) (n : Nat) (w : Word) :
    (s.regStore r n false w).steady = s.steady := by
  rw [State.regStore_idle, State.setReg_steady _ h, State.keepInForce_eq]; rfl

/-- The cores and the SRAM are none of it. -/
theorem State.withCoreSram_steady (s : State) (sram : SramState) (core : CoreState) :
    ({ s with sram := sram, core := core } : State).steady = s.steady := rfl

@[simp] theorem State.boundary_steady (s : State) (r : RegName) (n : Nat) : (s.boundary r n).steady = s.steady := rfl
@[simp] theorem State.onErr_steady (s : State) (f : ErrState → ErrState) : (s.onErr f).steady = s.steady := rfl
@[simp] theorem State.onEvf_steady (s : State) (f : EvfState → EvfState) : (s.onEvf f).steady = s.steady := rfl
@[simp] theorem State.onHcp_steady (s : State) (f : HcpState → HcpState) : (s.onHcp f).steady = s.steady := rfl
@[simp] theorem State.onCore_steady (s : State) (f : CoreState → CoreState) : (s.onCore f).steady = s.steady := rfl
@[simp] theorem State.onTmr_steady (s : State) (f : TmrState → TmrState) : (s.onTmr f).steady = s.steady := rfl
@[simp] theorem State.onFlc_steady (s : State) (f : FlcState → FlcState) : (s.onFlc f).steady = s.steady := rfl
@[simp] theorem State.onSram_steady (s : State) (f : SramState → SramState) : (s.onSram f).steady = s.steady := rfl
@[simp] theorem State.onDmc_steady (s : State) (f : DmcState → DmcState) : (s.onDmc f).steady = s.steady := rfl
@[simp] theorem State.onRf_steady (s : State) (f : RfState → RfState) : (s.onRf f).steady = s.steady := rfl
@[simp] theorem State.onFrm_steady (s : State) (f : FrmState → FrmState) : (s.onFrm f).steady = s.steady := rfl
@[simp] theorem State.onMsu_steady (s : State) (f : MsuState → MsuState) : (s.onMsu f).steady = s.steady := rfl
@[simp] theorem State.onSched_steady (s : State) (f : SchedState → SchedState) : (s.onSched f).steady = s.steady := rfl
@[simp] theorem State.onLine_steady (s : State) (p : Nat) (f : LinePort → LinePort) : (s.onLine p f).steady = s.steady := rfl
@[simp] theorem State.onCtl_steady (s : State) (f : CtlState → CtlState) : (s.onCtl f).steady = s.steady := rfl
@[simp] theorem State.setTp_steady (s : State) (t : Tp) (x : TpState) : (s.setTp t x).steady = s.steady := rfl
@[simp] theorem State.setMile_steady (s : State) (k : Nat) (m : Milestone) : (s.setMile k m).steady = s.steady := rfl
@[simp] theorem State.setPc_steady (s : State) (c : Nat) (v : Word) : (s.setPc c v).steady = s.steady := rfl
@[simp] theorem State.sendUnit_steady (s : State) (p typ addr : Nat) (b : Bytes) : (s.sendUnit p typ addr b).steady = s.steady := rfl
@[simp] theorem State.setByte_steady (s : State) (a : Nat) (b : Byte) : (s.setByte a b).steady = s.steady := rfl
@[simp] theorem State.clearMem_steady (s : State) (a n : Nat) : (s.clearMem a n).steady = s.steady := rfl

@[simp] theorem State.onTxp_steady (s : State) (f : TxpState → TxpState) (pins : ∀ t, (f t).pins = t.pins) : (s.onTxp f).steady = s.steady :=
  State.steady_eq (by rfl) (by rfl) (by rfl) (pins s.txp) (fun _ _ _ => by rfl)

@[simp] theorem State.onLp_steady (s : State) (f : LpState → LpState) (user : ∀ l, (f l).userDown = l.userDown) : (s.onLp f).steady = s.steady :=
  State.steady_eq (by rfl) (by rfl) (user s.lp) (by rfl) (fun _ _ _ => by rfl)

@[simp] theorem State.onPwr_steady (s : State) (f : PwrState → PwrState)
    (pwr : ∀ p, ((f p).pmb, (f p).waking, (f p).flush) = (p.pmb, p.waking, p.flush)) : (s.onPwr f).steady = s.steady :=
  State.steady_eq (pwr s.pwr) (by rfl) (by rfl) (by rfl) (fun _ _ _ => by rfl)

@[simp] theorem State.setBytes_steady (s : State) (a : Nat) (b : Bytes) : (s.setBytes a b).steady = s.steady := by
  rw [State.setBytes_eq]; rfl

@[simp] theorem State.fresh_steady (s : State) (bound : Nat) : (s.fresh bound).2.steady = s.steady := rfl
@[simp] theorem State.freshBytes_steady (s : State) (n : Nat) : (s.freshBytes n).2.steady = s.steady := rfl

@[simp] theorem State.publish_steady (s : State) (p : Nat) : (s.publish p).steady = s.steady := by rw [State.publish_eq]; rfl

@[simp] theorem State.putPkt_steady (s : State) (t : Tp) (p : Pkt) : (s.putPkt t p).steady = s.steady := by
  unfold State.putPkt; dsimp only; split <;> simp -implicitDefEqProofs

@[simp] theorem State.answer_steady (s : State) (h : Hdr) (op fl : Nat) (st : Status) (par data : Bytes) :
    (s.answer h op fl st par data).steady = s.steady := by
  unfold State.answer; dsimp only; (repeat' split) <;> simp -implicitDefEqProofs

@[simp] theorem State.notifyOn_steady (k : Nat) (content : Bytes) (t : Tp) (s : State) : (State.notifyOn k content t s).steady = s.steady := by
  unfold State.notifyOn; dsimp only; (repeat' split) <;> simp -implicitDefEqProofs

@[simp] theorem State.notify_steady (s : State) (k : Nat) (content : Bytes) : (s.notify k content).steady = s.steady :=
  foldOver_steady _ (State.notifyOn_steady k content) _ _

@[simp] theorem State.inputFree_steady (c : Nat) (s : State) : (State.inputFree c s).steady = s.steady := by
  simp -implicitDefEqProofs [State.inputFree]

@[simp] theorem State.trialEnd_steady (s : State) (j : Job) (st : Status) : (s.trialEnd j st).steady = s.steady := by
  simp -implicitDefEqProofs [State.trialEnd]

@[simp] theorem State.ownNext_steady (s : State) (j : Job) (st : Status) : (s.ownNext j st).steady = s.steady := by
  simp -implicitDefEqProofs [State.ownNext]

@[simp] theorem State.complete_steady (s : State) (id : Nat) (st : Status) (par data : Bytes) :
    (s.complete id st par data).steady = s.steady := by
  unfold State.complete; split <;> simp -implicitDefEqProofs

@[simp] theorem State.countClass_steady (s : State) (cls : Nat) : (s.countClass cls).steady = s.steady := by
  have counted : (s.bump (clsField cls)).steady = s.steady := by unfold clsField; split <;> simp -implicitDefEqProofs
  exact counted

@[simp] theorem State.publishClass_steady (s : State) (cls : Nat) : (s.publishClass cls).steady = s.steady := by
  simp -implicitDefEqProofs [State.publishClass]

@[simp] theorem State.wantRoadside_steady (s : State) (cause : Nat) : (s.wantRoadside cause).steady = s.steady := by
  unfold State.wantRoadside; split <;> rfl

@[simp] theorem State.layEntries_steady (s : State) (slots : List Nat) (es : List LogEntry) : (s.layEntries slots es).steady = s.steady :=
  State.setFld_steady _ (by simp) _ _ _ _

@[simp] theorem State.renameNotes_steady (s : State) (moved : List (Bytes × Bytes)) : (s.renameNotes moved).steady = s.steady := by
  unfold State.renameNotes
  split
  · rfl
  · refine foldOver_steady _ (fun t u => ?_) _ _
    dsimp only
    split <;> simp

@[simp] theorem State.writeEntry_steady (s : State) (slot : Option Nat) (e : LogEntry) : (s.writeEntry slot e).steady = s.steady := by
  dsimp only [State.writeEntry]; split <;> simp -implicitDefEqProofs

@[simp] theorem State.newEntry_steady (s : State) (k : Nat) (e : LogEntry) : (s.newEntry k e).steady = s.steady := by
  simp -implicitDefEqProofs [State.newEntry]

@[simp] theorem State.logFull_steady (s : State) (e : LogEntry) : (s.logFull e).steady = s.steady := by
  simp -implicitDefEqProofs [State.logFull]

@[simp] theorem State.countIn_steady (s : State) (k : Nat) (old new : LogEntry) : (s.countIn k old new).steady = s.steady := by
  rw [State.countIn, State.publishClass_steady]
  split <;> rfl

@[simp] theorem State.logError_steady (s : State) (cls src : Nat) (info : Word) (syndrome : Nat) :
    (s.logError cls src info syndrome).steady = s.steady := by
  dsimp only [State.logError]; (repeat' split) <;> simp -implicitDefEqProofs

@[simp] theorem State.raise_steady (s : State) (cls code unit : Nat) (info : Word) : (s.raise cls code unit info).steady = s.steady := by
  simp -implicitDefEqProofs [State.raise]

@[simp] theorem State.fatal_steady (s : State) (code unit : Nat) (info : Word) (cause : Nat) :
    (s.fatal code unit info cause).steady = s.steady := by
  simp -implicitDefEqProofs [State.fatal]

@[simp] theorem State.coresLose_steady (s : State) (p : Nat → Bool) : (s.coresLose p).steady = s.steady := by
  have regs : (s.coresLose p).regs = Tab.keep s.regs fun k _ => !(decide (RegName.CORE_CAUSE.ctorIdx ≤ k % 512) && p (k / 512)) := rfl
  refine State.steady_eq (by rfl) (by rfl) (by rfl) (by rfl) (fun r n h => State.reg_of_keep regs ?_)
  rw [RegName.key_mod]
  rcases h with rfl | rfl | rfl | rfl | rfl <;> rfl

@[simp] theorem State.clusterLose_steady (cl : Nat) (s : State) : (State.clusterLose cl s).steady = s.steady := by
  unfold State.clusterLose
  extract_lets s1 s2 en keep
  have h1 : s1.steady = s.steady := by simp -implicitDefEqProofs [s1]
  clear_value s1
  have h2 : s2.steady = s1.steady := by
    refine State.steady_eq (by rfl) (by rfl) (by rfl) (by rfl) (fun r n h => State.reg_of_keep (s := s1) (p := fun k =>
      !((k % 512 == RegName.CL_CXDEC.ctorIdx && k / 512 / 32 == cl) || (k % 512 == RegName.CL_UCCFG.ctorIdx && k / 512 == cl))) rfl ?_)
    rw [RegName.key_mod]
    rcases h with rfl | rfl | rfl | rfl | rfl <;> rfl
  rw [State.setFld_steady _ (by simp), State.withCoreSram_steady, h2, h1]

@[simp] theorem State.evfRefuse_steady (s : State) : s.evfRefuse.steady = s.steady := by simp -implicitDefEqProofs [State.evfRefuse]

@[simp] theorem State.evfFire_steady (s : State) (cl ch : Nat) : (s.evfFire cl ch).steady = s.steady := by
  unfold State.evfFire
  split
  · simp -implicitDefEqProofs
  · split <;> rfl

@[simp] theorem State.evfRelease_steady (s : State) : s.evfRelease.steady = s.steady := rfl

@[simp] theorem State.discDown_steady (s : State) : s.discDown.steady = s.steady := by simp -implicitDefEqProofs [State.discDown]

@[simp] theorem State.tmrReload_steady (s : State) (n : Nat) : (s.tmrReload n).steady = s.steady := by
  simp -implicitDefEqProofs [State.tmrReload]

@[simp] theorem State.tmrStop_steady (n : Nat) (s : State) : (State.tmrStop n s).steady = s.steady := by
  simp -implicitDefEqProofs [State.tmrStop]

@[simp] theorem State.tmrExpireSelf_steady (s : State) (n : Nat) : (s.tmrExpireSelf n).steady = s.steady := by
  simp -implicitDefEqProofs [State.tmrExpireSelf]

@[simp] theorem State.tmrTake_steady (n : Nat) (s : State) : (State.tmrTake n s).steady = s.steady := by
  simp -implicitDefEqProofs [State.tmrTake]

@[simp] theorem State.tmrCount_steady (s0 : State) (n : Nat) (w : Word) : (s0.tmrCount n w).steady = s0.steady := by
  simp -implicitDefEqProofs [State.tmrCount]

@[simp] theorem State.chargeStop_steady (s : State) : s.chargeStop.steady = s.steady := by simp -implicitDefEqProofs [State.chargeStop]

@[simp] theorem State.filterCold_steady (s : State) : s.filterCold.steady = s.steady := by simp -implicitDefEqProofs [State.filterCold]

@[simp] theorem State.dramLost_steady (s : State) : s.dramLost.steady = s.steady := by
  simp -implicitDefEqProofs [State.dramLost]

@[simp] theorem State.dmcStop_steady (s : State) : s.dmcStop.steady = s.steady := by
  simp -implicitDefEqProofs [State.dmcStop]

@[simp] theorem State.dmcPllLoss_steady (s : State) : s.dmcPllLoss.steady = s.steady := by
  simp -implicitDefEqProofs [State.dmcPllLoss]

@[simp] theorem State.setMark_steady (s : State) (w : Nat) (b : Bool) : (s.setMark w b).steady = s.steady := rfl

@[simp] theorem State.setMarks_steady (s : State) (w n : Nat) (b : Bool) : (s.setMarks w n b).steady = s.steady := by
  simp -implicitDefEqProofs [State.setMarks]

@[simp] theorem State.writeNative_steady (s : State) (off : Nat) (b : Bytes) : (s.writeNative off b).steady = s.steady := by
  simp -implicitDefEqProofs [State.writeNative]

@[simp] theorem State.cutTable_steady (s : State) (u : TabUpdate) : (s.cutTable u).steady = s.steady := by
  simp -implicitDefEqProofs [State.cutTable]

@[simp] theorem State.updWrite_steady (s : State) (u : TabUpdate) (n : Nat) : (s.updWrite u n).steady = s.steady := by
  simp -implicitDefEqProofs [State.updWrite]

@[simp] theorem State.updCut_steady (s : State) : s.updCut.steady = s.steady := by
  dsimp only [State.updCut]; (repeat' split) <;> simp -implicitDefEqProofs

@[simp] theorem State.pageCut_steady (s : State) : s.pageCut.steady = s.steady := by
  unfold State.pageCut; split <;> simp -implicitDefEqProofs

@[simp] theorem State.otpDone_steady (s : State) (cut crcOk : Bool) : (s.otpDone cut crcOk).steady = s.steady := by
  have failed (t : State) (h : t.steady = s.steady) : (t.setFld F.OTP_STAT_FAIL 1).steady = s.steady :=
    (t.setFld_steady (by simp) _ _ _ _).trans h
  unfold State.otpDone
  split
  · rfl
  · split
    · dsimp only
      split
      · rfl
      · exact failed _ rfl
    · dsimp only
      split
      · rfl
      · split
        · rfl
        · exact failed _ rfl

@[simp] theorem State.ctxFree_steady (s : State) (c : Nat) : (s.ctxFree c).steady = s.steady := by simp -implicitDefEqProofs [State.ctxFree]

@[simp] theorem State.setLane_steady (s : State) (n st : Nat) : (s.setLane n st).steady = s.steady := by
  simp -implicitDefEqProofs [State.setLane]

@[simp] theorem State.dropWindow_steady (s : State) (n : Nat) : (s.dropWindow n).steady = s.steady := by
  simp -implicitDefEqProofs [State.dropWindow]

@[simp] theorem State.laneOff_steady (s : State) (n : Nat) : (s.laneOff n).steady = s.steady := by simp -implicitDefEqProofs [State.laneOff]

@[simp] theorem State.cutCount_steady (s : State) (n : Nat) : (s.cutCount n).steady = s.steady := by
  simp -implicitDefEqProofs [State.cutCount]

@[simp] theorem State.laneCut_steady (n : Nat) (s : State) : (State.laneCut n s).steady = s.steady := by
  unfold State.laneCut; split <;> simp -implicitDefEqProofs

@[simp] theorem State.laneStart_steady (s : State) (n : Nat) : (s.laneStart n).steady = s.steady := by
  simp -implicitDefEqProofs [State.laneStart]

@[simp] theorem State.bankStop_steady (s : State) : s.bankStop.steady = s.steady := by simp -implicitDefEqProofs [State.bankStop]

@[simp] theorem State.bankGo_steady (s : State) : s.bankGo.steady = s.steady := by simp -implicitDefEqProofs [State.bankGo]

@[simp] theorem State.synToLo_steady (s : State) (p : Nat) : (s.synToLo p).steady = s.steady := by simp -implicitDefEqProofs [State.synToLo]

@[simp] theorem State.rxStop_steady (p : Nat) (s : State) : (State.rxStop p s).steady = s.steady := by
  simp -implicitDefEqProofs [State.rxStop]

@[simp] theorem State.setLedger_steady (s : State) (k v : Nat) : (s.setLedger k v).steady = s.steady := by
  simp -implicitDefEqProofs [State.setLedger]

@[simp] theorem State.ledgerClamp_steady (k : Nat) (s : State) : (State.ledgerClamp k s).steady = s.steady := by
  simp -implicitDefEqProofs [State.ledgerClamp]

@[simp] theorem State.pushResult_steady (s : State) (w nt : Word) : (s.pushResult w nt).steady = s.steady := by
  simp -implicitDefEqProofs [State.pushResult]

@[simp] theorem State.txPost_steady (s : State) (e : TxEntry) (code late airStart : Nat) :
    (s.txPost e code late airStart).steady = s.steady := by
  unfold State.txPost; split <;> simp -implicitDefEqProofs

@[simp] theorem State.txAccept_steady (s : State) (e : TxEntry) : (s.txAccept e).2.steady = s.steady := by
  simp -implicitDefEqProofs [State.txAccept]

@[simp] theorem State.txSubmit_steady (s : State) (e : TxEntry) (fields : Bool) : (s.txSubmit e fields).2.steady = s.steady := by
  unfold State.txSubmit; split <;> simp -implicitDefEqProofs

@[simp] theorem State.txRefused_steady (s : State) (code : Nat) : (s.txRefused code).steady = s.steady := by
  simp -implicitDefEqProofs [State.txRefused]

@[simp] theorem State.setExc_steady (s : State) (p : Nat) (x : Excursion) : (s.setExc p x).steady = s.steady := by
  simp -implicitDefEqProofs [State.setExc]

@[simp] theorem State.dropExc_steady (s : State) (p : Nat) : (s.dropExc p).steady = s.steady := by simp -implicitDefEqProofs [State.dropExc]

@[simp] theorem State.release_steady (s : State) (x : Excursion) : (s.release x).steady = s.steady := by
  unfold State.release; split <;> simp -implicitDefEqProofs

@[simp] theorem State.excBack_steady (s : State) (p : Nat) : (s.excBack p).steady = s.steady := by simp -implicitDefEqProofs [State.excBack]

@[simp] theorem State.setVtag_steady (s : State) (q v : Nat) : (s.setVtag q v).steady = s.steady := by
  simp -implicitDefEqProofs [State.setVtag]

@[simp] theorem State.airOver_steady (s : State) (p : Nat) (x : Excursion) (cut : Bool) : (s.airOver p x cut).steady = s.steady := by
  simp -implicitDefEqProofs [State.airOver]

@[simp] theorem State.txPull_steady (s : State) (e : TxEntry) : (s.txPull e).steady = s.steady := by
  dsimp only [State.txPull]; (repeat' split) <;> simp -implicitDefEqProofs

@[simp] theorem State.txWithdraw_steady (s : State) (tag : Nat) : (s.txWithdraw tag).steady = s.steady := by
  unfold State.txWithdraw; split <;> simp -implicitDefEqProofs

@[simp] theorem State.txCommit_steady (s : State) (tag : Nat) : (s.txCommit tag).steady = s.steady := by
  simp -implicitDefEqProofs [State.txCommit]

@[simp] theorem State.epochWrite_steady (s : State) (g : Nat) (w : Word) : (s.epochWrite g w).steady = s.steady := by
  simp -implicitDefEqProofs [State.epochWrite]

@[simp] theorem State.setDownlink_steady (s : State) (d : Downlink) : (s.setDownlink d).steady = s.steady := by
  simp -implicitDefEqProofs [State.setDownlink]

@[simp] theorem State.detour_steady (s0 : State) (d : Downlink) : (s0.detour d).steady = s0.steady := by
  unfold State.detour
  dsimp only
  split
  · simp
  · split
    · next e => obtain rfl := congrArg Prod.snd e; simp -implicitDefEqProofs
    · next e =>
      obtain rfl := congrArg Prod.snd e
      split <;> next e => obtain rfl := congrArg Prod.snd e; simp -implicitDefEqProofs

@[simp] theorem State.planDownlink_steady (s0 : State) (x : Ctx) : (s0.planDownlink x).steady = s0.steady := by
  unfold State.planDownlink
  dsimp only
  (repeat' split) <;> try simp -implicitDefEqProofs
  all_goals next e => obtain rfl := congrArg Prod.snd e; simp -implicitDefEqProofs

@[simp] theorem State.setQueue_steady (s : State) (q : Nat) (l : List SchedEntry) : (s.setQueue q l).steady = s.steady := by
  simp -implicitDefEqProofs [State.setQueue]

@[simp] theorem State.wakeQueue_steady (s : State) (q : Nat) (was : Bool) : (s.wakeQueue q was).steady = s.steady := by
  simp -implicitDefEqProofs [State.wakeQueue]

@[simp] theorem State.append_steady (s : State) (q : Nat) (e : SchedEntry) : (s.append q e).steady = s.steady := by
  simp -implicitDefEqProofs [State.append]

@[simp] theorem State.freshen_steady (s : State) (q : Nat) : (s.freshen q).steady = s.steady := by simp -implicitDefEqProofs [State.freshen]

@[simp] theorem State.push_steady (s : State) (cl q addr len : Nat) : (s.push cl q addr len).steady = s.steady := by
  unfold State.push; split <;> simp -implicitDefEqProofs

@[simp] theorem State.entriesCommit_steady (s : State) (k a : Nat) : (s.entriesCommit k a).steady = s.steady := by
  simp -implicitDefEqProofs [State.entriesCommit]

@[simp] theorem State.entriesDrop_steady (s : State) (k : Nat) : (s.entriesDrop k).steady = s.steady := by
  simp -implicitDefEqProofs [State.entriesDrop]

@[simp] theorem State.schedGo_steady (s : State) : s.schedGo.steady = s.steady := by simp -implicitDefEqProofs [State.schedGo]

@[simp] theorem State.schedHalt_steady (s : State) : s.schedHalt.steady = s.steady := by simp -implicitDefEqProofs [State.schedHalt]

@[simp] theorem State.schedLose_steady (s : State) : s.schedLose.steady = s.steady := by simp -implicitDefEqProofs [State.schedLose]

@[simp] theorem State.unitsRestart_steady (s : State) (n : Nat) : (s.unitsRestart n).steady = s.steady := by
  simp -implicitDefEqProofs [State.unitsRestart]

@[simp] theorem State.mileEnd_steady (s : State) (k result : Nat) (st : Status) : (s.mileEnd k result st).steady = s.steady := by
  dsimp only [State.mileEnd]; (repeat' split) <;> simp -implicitDefEqProofs

@[simp] theorem State.mileAbort_steady (s : State) (k result : Nat) (st : Status) : (s.mileAbort k result st).steady = s.steady := by
  unfold State.mileAbort
  split
  · rfl
  · refine (foldOver_steady _ (fun a t => ?_) _ _).trans (by simp -implicitDefEqProofs)
    split <;> simp -implicitDefEqProofs

@[simp] theorem State.ringWrite_steady (s : State) (o : Nat) (bs : Bytes) : (s.ringWrite o bs).steady = s.steady := by
  induction bs generalizing s o with
  | nil => rfl
  | cons b l ih => exact ih _ _

@[simp] theorem State.jappend_steady (s : State) (b : Bytes) : (s.jappend b).steady = s.steady := by
  simp -implicitDefEqProofs [State.jappend]

@[simp] theorem State.pushRecord_steady (r : RingRec) (s : State) : (State.pushRecord r s).steady = s.steady := by
  dsimp only [State.pushRecord]; (repeat' split) <;> simp -implicitDefEqProofs

@[simp] theorem State.forwardRecords_steady (s : State) : s.forwardRecords.steady = s.steady := by
  simp -implicitDefEqProofs [State.forwardRecords]

@[simp] theorem State.land_steady (k cl : Nat) (a : Action) (s : State) : (State.land k cl a s).steady = s.steady := by
  dsimp only [State.land]; (repeat' split) <;> simp -implicitDefEqProofs

@[simp] theorem State.mileDone_steady (s : State) (k : Nat) : (s.mileDone k).steady = s.steady := by
  simp -implicitDefEqProofs [State.mileDone]

@[simp] theorem State.deliver_steady (x : Nat × Bytes) (s : State) : (State.deliver x s).steady = s.steady := by
  unfold State.deliver; split <;> simp -implicitDefEqProofs

@[simp] theorem State.deliverWaiting_steady (s : State) : s.deliverWaiting.steady = s.steady := by
  simp -implicitDefEqProofs +contextual [State.deliverWaiting]

@[simp] theorem State.deliverFrame_steady (s : State) (b : Bytes) : (s.deliverFrame b).steady = s.steady := by
  simp -implicitDefEqProofs [State.deliverFrame]

@[simp] theorem State.mileCommit_steady (s : State) (k : Nat) : (s.mileCommit k).steady = s.steady := by
  unfold State.mileCommit
  split
  · rfl
  · split
    · rfl
    · split
      · simp -implicitDefEqProofs
      · extract_lets cl app seq0 csn s1 s2 s3 s4 s5 s6 s7
        have h1 : s1.steady = s.steady := foldOver_steady _ (fun a t => by simp -implicitDefEqProofs) _ _
        have h2 : s2.steady = s.steady := by simp -implicitDefEqProofs [s2, h1]
        have h3 : s3.steady = s.steady := (foldOver_steady _ (fun a t => by simp -implicitDefEqProofs) _ _).trans (by simp -implicitDefEqProofs [h2])
        have h4 : s4.steady = s.steady := by simp -implicitDefEqProofs [s4, h3]
        have h5 : s5.steady = s.steady := by simp -implicitDefEqProofs [s5, h4]
        clear_value s1 s2 s3 s4 s5
        have h6 : s6.steady = s.steady := by
          unfold s6
          (repeat' split) <;> simp -implicitDefEqProofs [h5]
        have h7 : s7.steady = s.steady := (foldOver_steady _ (fun a t => by split <;> simp -implicitDefEqProofs) _ _).trans h6
        split <;> simp -implicitDefEqProofs [h7]

@[simp] theorem State.commitNow_steady (s : State) : s.commitNow.steady = s.steady := by
  unfold State.commitNow; split <;> simp -implicitDefEqProofs

@[simp] theorem State.boundaryOf_steady (s : State) (f : Fld) (n : Nat) : (s.boundaryOf f n).steady = s.steady := by
  unfold State.boundaryOf
  dsimp only
  (repeat' split) <;> rfl

@[simp] theorem State.linkBoundary_steady (s : State) (p : Nat) : (s.linkBoundary p).steady = s.steady := by
  simp -implicitDefEqProofs [State.linkBoundary]

@[simp] theorem State.lpLeaveUp_steady (s : State) (p : Nat) : (s.lpLeaveUp p).steady = s.steady := by
  simp -implicitDefEqProofs [State.lpLeaveUp]

@[simp] theorem State.lpGo_steady (s : State) (p st : Nat) : (s.lpGo p st).steady = s.steady := by simp -implicitDefEqProofs [State.lpGo]

@[simp] theorem State.lpDropJobs_steady (s : State) (p : Nat) : (s.lpDropJobs p).steady = s.steady := by
  simp -implicitDefEqProofs [State.lpDropJobs]

@[simp] theorem State.greet_steady (s : State) (p kind : Nat) : (s.greet p kind).steady = s.steady := by
  simp -implicitDefEqProofs [State.greet]

@[simp] theorem State.lpToDetect_steady (s : State) (p : Nat) (silent : Bool) : (s.lpToDetect p silent).steady = s.steady := by
  simp -implicitDefEqProofs [State.lpToDetect]

@[simp] theorem State.lpStart_steady (p : Nat) (s : State) : (State.lpStart p s).steady = s.steady := by
  simp -implicitDefEqProofs [State.lpStart]

@[simp] theorem State.lpStop_steady (p : Nat) (s : State) : (State.lpStop p s).steady = s.steady := by
  simp -implicitDefEqProofs [State.lpStop]

@[simp] theorem State.userOff_steady (s : State) : s.userOff.steady = s.steady := by
  simp -implicitDefEqProofs [State.userOff]

@[simp] theorem State.userStart_steady (s : State) : s.userStart.steady = s.steady := by simp -implicitDefEqProofs [State.userStart]

@[simp] theorem State.regionLoad_steady (s : State) : s.regionLoad.steady = s.steady := by simp -implicitDefEqProofs [State.regionLoad]

@[simp] theorem State.fusesAct_steady (old s : State) : (old.fusesAct s).steady = s.steady := by simp -implicitDefEqProofs [State.fusesAct]

@[simp] theorem State.otpCut_steady (s : State) : s.otpCut.steady = s.steady := by simp -implicitDefEqProofs [State.otpCut]

/-! ### What may bring the pins to their safe level -/

@[simp] theorem State.pinsSafe_footing (s : State) (p : Nat) : (s.pinsSafe p).footing = s.footing := rfl

/-- What happens when an excursion is cut or ended on its port: the airing's own pins, or nothing that the pins show. -/
theorem State.excStop_cases (s : State) (p : Nat) :
    (s.excStop p).steady = s.steady ∨ ∃ t : State, t.steady = s.steady ∧ (s.excStop p).steady = (t.pinsSafe p).steady := by
  unfold State.excStop
  split
  · exact .inl rfl
  · next x _ =>
    dsimp only
    split
    · exact .inr ⟨s.airOver p x true, s.airOver_steady p x true, State.dropExc_steady _ p⟩
    · exact .inl (by rw [State.dropExc_steady, State.release_steady])

@[simp] theorem State.excStop_footing (s : State) (p : Nat) : (s.excStop p).footing = s.footing := by
  rcases s.excStop_cases p with h | ⟨t, ht, h⟩
  · exact State.footing_of_steady h
  · exact (State.footing_of_steady h).trans ((t.pinsSafe_footing p).trans (State.footing_of_steady ht))

/-- The loss of PLL0 ends an excursion, and posts the result of one that was airing (R529). -/
theorem State.excPllLoss_steady (p : Nat) (s : State) :
    (State.excPllLoss p s).steady = s.steady ∨ (State.excPllLoss p s).steady = (s.excStop p).steady := by
  unfold State.excPllLoss
  split
  · exact .inl rfl
  · split
    · split
      · exact .inr (State.txPost_steady _ _ _ _ _)
      · exact .inr rfl
    · exact .inr rfl

@[simp] theorem State.excPllLoss_footing (p : Nat) (s : State) : (State.excPllLoss p s).footing = s.footing := by
  rcases State.excPllLoss_steady p s with h | h
  · exact State.footing_of_steady h
  · exact (State.footing_of_steady h).trans (s.excStop_footing p)

/-- The front-end pins of both ports are at their safe level (R64). -/
def State.pinsLow (s : State) : Prop := ∀ p, p < 2 → Tab.getD s.txp.pins p 0 = 0

theorem State.pinsLow_of_steady {s t : State} (h : t.steady = s.steady) (low : s.pinsLow) : t.pinsLow := by
  unfold State.pinsLow
  rw [State.pins_of_steady h]
  exact low

theorem State.getD_pinsSafe (s : State) (p q : Nat) :
    Tab.getD (s.pinsSafe p).txp.pins q 0 = if q = p then 0 else Tab.getD s.txp.pins q 0 := by
  have pins : (s.pinsSafe p).txp.pins = Tab.putD s.txp.pins p 0 0 := by
    rw [State.pinsSafe, State.setPins, ite_self]; rfl
  rw [pins]
  split
  · next h => rw [h, Tab.getD_putD_self]
  · next h => rw [Tab.getD_putD_of_ne _ _ _ _ _ _ h]

theorem State.pinsLow_pinsSafe {s : State} (low : s.pinsLow) (p : Nat) : (s.pinsSafe p).pinsLow := by
  intro q hq
  rw [State.getD_pinsSafe]
  split
  · rfl
  · exact low q hq

theorem State.pinsLow_of_both (s : State) : ((s.pinsSafe 0).pinsSafe 1).pinsLow := by
  intro q hq
  rw [State.getD_pinsSafe, State.getD_pinsSafe]
  split
  · rfl
  · rw [if_pos (by omega)]

theorem State.pinsLow_excStop {s : State} (low : s.pinsLow) (p : Nat) : (s.excStop p).pinsLow := by
  rcases s.excStop_cases p with h | ⟨t, ht, h⟩
  · exact State.pinsLow_of_steady h low
  · exact State.pinsLow_of_steady h (State.pinsLow_pinsSafe (State.pinsLow_of_steady ht low) p)

theorem State.pinsLow_excPllLoss {s : State} (low : s.pinsLow) (p : Nat) : (State.excPllLoss p s).pinsLow := by
  rcases State.excPllLoss_steady p s with h | h
  · exact State.pinsLow_of_steady h low
  · exact State.pinsLow_of_steady h (State.pinsLow_excStop low p)

theorem State.txSilence_footing (s : State) : s.txSilence.footing = s.footing :=
  (State.footing_of_steady (State.onTxp_steady _ _ fun _ => rfl)).trans ((State.excStop_footing _ 1).trans (s.excStop_footing 0))

theorem State.pinsLow_txSilence {s : State} (low : s.pinsLow) : s.txSilence.pinsLow :=
  State.pinsLow_of_steady (State.onTxp_steady _ _ fun _ => rfl) (State.pinsLow_excStop (State.pinsLow_excStop low 0) 1)

/-- What a move of the clock to FRC does before and after the excursions end. -/
theorem State.toFrc_parts (s : State) (h : s.onPll = true) : ∃ u : State, u.steady = (s.setFld F.SYSCTL_CLKSTAT_SRC_CUR 0).steady
    ∧ s.toFrc.steady = (foldOver State.excPllLoss [0, 1] u).steady := by
  unfold State.toFrc
  rw [if_neg (by simp [h])]
  extract_lets bank sched s1 s2 lines s3
  refine ⟨s2, ?_, ?_⟩
  · simp -implicitDefEqProofs [s2, s1]
  · simp -implicitDefEqProofs [s3, -foldOver_cons]

/-- A move of the clock to FRC selects it, and leaves the rest of what stands (R94). -/
theorem State.toFrc_footing (s : State) (h : s.onPll = true) : s.toFrc.footing = (s.setFld F.SYSCTL_CLKSTAT_SRC_CUR 0).footing := by
  obtain ⟨u, before, after⟩ := s.toFrc_parts h
  exact (State.footing_of_steady after).trans
    ((foldOver_proj State.footing _ State.excPllLoss_footing _ u).trans (State.footing_of_steady before))

theorem State.toFrc_of_frc (s : State) (h : s.onPll = false) : s.toFrc = s := by simp [State.toFrc, h]

theorem State.pinsLow_toFrc {s : State} (low : s.pinsLow) : s.toFrc.pinsLow := by
  cases h : s.onPll with
  | false => rwa [s.toFrc_of_frc h]
  | true =>
    obtain ⟨u, before, after⟩ := s.toFrc_parts h
    exact State.pinsLow_of_steady after (foldOver_inv State.pinsLow _ (fun p _ low => State.pinsLow_excPllLoss low p) _ _
      (State.pinsLow_of_steady before low))

/-- PLL0 is selected, and the rest of what stands stays (R92). -/
theorem State.toPll_footing (s : State) (h : s.onPll = false) : s.toPll.footing = (s.setFld F.SYSCTL_CLKSTAT_SRC_CUR 1).footing := by
  unfold State.toPll
  rw [if_neg (by simp [h])]
  extract_lets s1 s2 s3 s4 s5
  refine State.footing_of_steady ?_
  have h2 : s2.steady = (s.setFld F.SYSCTL_CLKSTAT_SRC_CUR 1).steady := by simp -implicitDefEqProofs [s2, s1]
  have h3 : s3.steady = s2.steady := by simp -implicitDefEqProofs [s3]
  have h5 : s5.steady = s3.steady := by simp -implicitDefEqProofs [s5, s4]
  have start : (foldOver State.lpStart [0, 1] s5).steady = s5.steady := foldOver_steady _ State.lpStart_steady _ _
  refine (foldOver_steady _ (fun p t => ?_) _ _).trans (start.trans (h5.trans (h3.trans h2)))
  split
  · exact t.synToLo_steady p
  · rfl

end Sys2Proof.Machine
end

section
/-! Voltage requests, the references, PLL0 and the selection of the clock (R81 to R94, R497). -/

namespace Sys2Proof.Machine

/-! ### The flags and fields of a state after an update -/

/-- A flag that hardware sets reads 1. -/
theorem State.flag_setFld_one (s : State) (f : Fld) (n : Nat) (hhi : f.hi < 32) (one : f.lo = f.hi) : (s.setFld f 1 n).flag f n = true := by
  rw [State.flag, s.fld_setFld f 1 n hhi (Nat.le_of_eq one), one, Nat.add_sub_cancel_left]; rfl

/-- A field that hardware clears reads 0. -/
theorem State.flag_setFld_zero (s : State) (f : Fld) (n : Nat) (hhi : f.hi < 32) (hlo : f.lo ≤ f.hi) : (s.setFld f 0 n).flag f n = false := by
  rw [State.flag, s.fld_setFld f 0 n hhi hlo, Nat.zero_mod]; rfl

theorem State.flag_setFlag (s : State) (f : Fld) (b : Bool) (n : Nat) (hhi : f.hi < 32) (one : f.lo = f.hi) :
    (s.setFlag f b n).flag f n = b := by
  cases b with
  | true => exact s.flag_setFld_one f n hhi one
  | false => exact s.flag_setFld_zero f n hhi (Nat.le_of_eq one)

theorem State.flag_setFld_of_ne (s : State) (f g : Fld) (v n m : Nat) (h : g.reg ≠ f.reg) : (s.setFld f v n).flag g m = s.flag g m := by
  rw [State.flag, s.fld_setFld_of_ne f g v n m h, State.flag]

theorem State.flag_setFld_of_disjoint (s : State) (f g : Fld) (v n m : Nat) (hhi : f.hi < 32) (h : g.hi < f.lo ∨ f.hi < g.lo) :
    (s.setFld f v n).flag g m = s.flag g m := by
  rw [State.flag, s.fld_setFld_of_disjoint f g v n m hhi h, State.flag]

theorem State.flag_of_footing {s t : State} (h : t.footing = s.footing) {f : Fld} (hf : f.reg.stands) (n : Nat) : t.flag f n = s.flag f n := by
  rw [State.flag, State.fld_of_footing h hf, State.flag]

theorem State.fld_onPwr (s : State) (g : PwrState → PwrState) (f : Fld) (n : Nat) : (s.onPwr g).fld f n = s.fld f n := rfl

/-! ### A voltage request (R82 to R84) -/

theorem State.writeReg_vreq (s : State) (cl n : Nat) (w : Word) : s.writeReg cl .PMB_VREQ n w = s.vreqWrite w := by
  rw [State.writeReg, if_pos (by decide)]; rfl

theorem exec_pmbVreqWrite {who : Who} {s : State} (w : Word) (on : s.sysOn = true) (cl0 : s.rights who.val = [0]) :
    exec (.pmbVreqWrite who w) s = .next (s.vreqWrite w).done :=
  exec_of_write on cl0 (by rfl) (s.writeReg_vreq 0 0 w) rfl

/-- The target that a write asks for, clamped to the range of VCORE_NOM (R82). -/
theorem State.vcoreNom_setVtarget (s : State) (v : Nat) (h : v < 256) :
    (s.setFld F.PMB_VREQ_VTARGET v).vcoreNom = Nat.min 170 (Nat.max 150 v) := by
  rw [State.vcoreNom, State.fld_setFld _ _ _ _ (by decide) (by decide), Nat.mod_eq_of_lt (by exact h)]

theorem State.vreqWrite_eq (s : State) (w : Word) :
    s.vreqWrite w = (s.setFld F.PMB_VREQ_VTARGET (w.toNat % 256)).pmbRequest (Nat.min 170 (Nat.max 150 (w.toNat % 256))) := by
  have low : bits w.toNat 7 0 = w.toNat % 256 := by simp [bits]
  unfold State.vreqWrite
  rw [low]
  dsimp only
  rw [s.vcoreNom_setVtarget _ (Nat.mod_lt _ (by decide))]

theorem State.vreqWrite_first (s : State) (w : Word) (idle : s.pwr.pmb.sending = none) :
    (s.vreqWrite w).fld F.PMB_VREQ_VTARGET = w.toNat % 256
      ∧ (s.vreqWrite w).pwr.pmb.sending = some (Nat.min 170 (Nat.max 150 (w.toNat % 256)))
      ∧ (s.vreqWrite w).flag F.PMB_STAT_BUSY = true := by
  rw [State.vreqWrite_eq, State.pmbRequest, if_neg (by simp [idle])]
  refine ⟨?_, rfl, State.flag_setFld_one _ F.PMB_STAT_BUSY 0 (by decide) rfl⟩
  refine (State.fld_setFld_of_ne _ F.PMB_STAT_BUSY F.PMB_VREQ_VTARGET 1 0 0 (by decide)).trans ?_
  exact (State.fld_setFld _ _ _ _ (by decide) (by decide)).trans (Nat.mod_mod _ _)

theorem State.vreqWrite_waits (s : State) (w : Word) {x : Nat} (busy : s.pwr.pmb.sending = some x) :
    (s.vreqWrite w).pwr.pmb.sending = some x
      ∧ (s.vreqWrite w).pwr.pmb.next = some (Nat.min 170 (Nat.max 150 (w.toNat % 256))) := by
  rw [State.vreqWrite_eq, State.pmbRequest, if_pos (by simp [busy])]
  exact ⟨by simpa using busy, rfl⟩

/-! ### What a request meets (R81, R83, R85) -/

theorem exec_voutCommandDone (nack pec : Bool) (s : State) : exec (.voutCommandDone nack pec) s = .next (s.pmbWriteDone nack pec).done := by rfl
theorem exec_pmbPgoodAck (s : State) : exec .pmbPgoodAck s = .next s.pmbPgood.done := by rfl
theorem exec_statusWordPoll (status vout : PmbReply) (s : State) :
    exec (.statusWordPoll status vout) s = .next (s.pmbPoll status vout).done := by rfl
theorem exec_pmbRequestTimeout (s : State) : exec .pmbRequestTimeout s = .next s.pmbTimeout.done := by rfl

/-- An event of the always-on domain happens while the system domain is powered. -/
theorem State.always_on (s : State) (f : State → State) (on : s.sysOn = true) : s.always f = f s := by
  simp only [State.sysOn, Bool.and_eq_true, decide_eq_true_eq] at on
  obtain ⟨⟨⟨level, off⟩, held⟩, pin⟩ := on
  exact if_pos (by simp [off, held, pin, Nat.le_succ_of_le level])

theorem State.powered_on (s : State) (f : State → State) (on : s.sysOn = true) : s.powered f = f s := if_pos on

/-- VACK takes a value that fits (R83). -/
theorem State.setVack_fld (s : State) {x : Nat} (h : x < 256) : (s.setVack x).fld F.PMB_STAT_VACK = x := by
  unfold State.setVack
  split
  · next e => exact e
  · rw [State.fld_of_footing (State.footing_of_steady (State.publish_steady _ _)) (by decide)]
    exact (s.fld_setFld F.PMB_STAT_VACK x 0 (by decide) (by decide)).trans (Nat.mod_eq_of_lt h)

theorem State.setVack_busy (s : State) (x : Nat) : (s.setVack x).flag F.PMB_STAT_BUSY = s.flag F.PMB_STAT_BUSY := by
  unfold State.setVack
  split
  · rfl
  · rw [State.flag_of_footing (State.footing_of_steady (State.publish_steady _ _)) (by decide)]
    exact s.flag_setFld_of_disjoint F.PMB_STAT_VACK F.PMB_STAT_BUSY x 0 0 (by decide) (.inr (by decide))

theorem State.setVack_pmb (s : State) (x : Nat) : (s.setVack x).pwr.pmb = s.pwr.pmb := by
  unfold State.setVack
  split
  · rfl
  · rw [State.pmb_of_footing (State.footing_of_steady (State.publish_steady _ _)), State.setFld_pwr]

/-- A lower target shows in VACK when its write is taken; each target then waits for its acknowledgement (R83). -/
theorem State.pmbWriteDone_taken (s : State) {x : Nat} (send : s.pwr.pmb.sending = some x) (last : s.pwr.pmb.next = none) :
    s.pmbWriteDone false false = (if x < s.fld F.PMB_STAT_VACK then s.setVack x else s).onPwr fun p =>
      { p with pmb := { p.pmb with sending := none, awaiting := some x } } := by
  have next : (if x < s.fld F.PMB_STAT_VACK then s.setVack x else s).pwr.pmb.next = none := by
    split
    · rw [State.setVack_pmb, last]
    · exact last
  unfold State.pmbWriteDone
  rw [send]
  dsimp only
  rw [if_neg (by decide), State.pmbNext, State.onPwr_pwr]
  dsimp only
  rw [next]

/-- A write that was not acknowledged is tried again (R85). -/
theorem State.pmbWriteDone_nack (s : State) {x : Nat} (send : s.pwr.pmb.sending = some x) (last : s.pwr.pmb.next = none)
    (left : s.pwr.pmb.retries < s.fld F.PMB_CFG_RETRIES) :
    s.pmbWriteDone true false =
      (s.setFld F.PMB_STAT_NACK 1).onPwr fun p => { p with pmb := { p.pmb with retries := p.pmb.retries + 1 } } := by
  unfold State.pmbWriteDone
  rw [send]
  dsimp only
  rw [if_pos (by decide), if_neg (by simp [last]), if_pos left]
  rfl

/-- An acknowledgement ends the request, with VACK at its target (R83). -/
theorem State.pmbAck_ends (s : State) {x : Nat} (wait : s.pwr.pmb.awaiting = some x) (h : x < 256) :
    s.pmbAck.fld F.PMB_STAT_VACK = x ∧ s.pmbAck.flag F.PMB_STAT_BUSY = false ∧ s.pmbAck.pwr.pmb.awaiting = none := by
  unfold State.pmbAck
  rw [wait]
  refine ⟨State.setVack_fld _ h, (State.setVack_busy _ x).trans (s.flag_setFld_zero F.PMB_STAT_BUSY 0 (by decide) (by decide)), ?_⟩
  exact congrArg PmbState.awaiting (State.setVack_pmb s.pmbIdle x)

/-- A poll that shows no fault and a voltage within 15 mV of the target acknowledges it (R83). -/
theorem State.pmbPoll_met (s : State) {x : Nat} (status vout : Half) (wait : s.pwr.pmb.awaiting = some x)
    (polls : s.flag F.PMB_CFG_PGOOD_USE = false) (fault : status.getLsbD 15 = false) (off : status.getLsbD 11 = false)
    (near : ((vout.toNat * 1000 * voutDen s.pwr.pmb.exp : Nat) - (x * 5 * voutNum s.pwr.pmb.exp : Nat) : Int).natAbs ≤ 15 * voutNum s.pwr.pmb.exp) :
    s.pmbPoll ⟨status, s.pmbReadCode 0x79 status, false⟩ ⟨vout, s.pmbReadCode 0x8B vout, false⟩ =
      (s.onPwr fun p => { p with pmb := { p.pmb with pollRetries := 0 } }).pmbAck := by
  unfold State.pmbPoll
  simp only [wait, polls]
  rw [if_neg (by simp), if_neg (by simp)]
  refine if_neg ?_
  rw [bit_eq_testBit, bit_eq_testBit, BitVec.testBit_toNat, BitVec.testBit_toNat, fault, off]
  simpa using near

/-- What a transaction met shows in its flags alone (R81, R85). -/
theorem State.pmbMet_parts (s : State) (nack pec : Bool) :
    (s.pmbMet nack pec).pwr = s.pwr ∧ (nack = true → (s.pmbMet nack pec).flag F.PMB_STAT_NACK = true)
      ∧ (pec = true → (s.pmbMet nack pec).flag F.PMB_STAT_PEC_ERR = true) := by
  refine ⟨?_, ?_, ?_⟩
  · cases nack <;> cases pec <;> simp [State.pmbMet]
  · rintro rfl
    have set := s.flag_setFld_one F.PMB_STAT_NACK 0 (by decide) rfl
    cases pec with
    | false => exact set
    | true => exact (State.flag_setFld_of_disjoint _ F.PMB_STAT_PEC_ERR F.PMB_STAT_NACK 1 0 0 (by decide) (.inl (by decide))).trans set
  · rintro rfl
    exact State.flag_setFld_one _ F.PMB_STAT_PEC_ERR 0 (by decide) rfl

/-- A poll with a reply that fails is tried again, with the flags of what it met (R81, R85). -/
theorem State.pmbPoll_retried (s : State) {x : Nat} (status vout : PmbReply) (wait : s.pwr.pmb.awaiting = some x)
    (polls : s.flag F.PMB_CFG_PGOOD_USE = false) (left : s.pwr.pmb.pollRetries < s.fld F.PMB_CFG_RETRIES) {nack pec : Bool}
    (hn : (status.nack || vout.nack) = nack)
    (hp : (!status.nack && status.code != s.pmbReadCode 0x79 status.word || !vout.nack && vout.code != s.pmbReadCode 0x8B vout.word) = pec)
    (fails : (nack || pec) = true) :
    (nack = true → (s.pmbPoll status vout).flag F.PMB_STAT_NACK = true) ∧ (pec = true → (s.pmbPoll status vout).flag F.PMB_STAT_PEC_ERR = true)
      ∧ (s.pmbPoll status vout).pwr.pmb.awaiting = some x
      ∧ (s.pmbPoll status vout).pwr.pmb.pollRetries = s.pwr.pmb.pollRetries + 1 := by
  have run : s.pmbPoll status vout =
      (s.pmbMet nack pec).onPwr fun p => { p with pmb := { p.pmb with pollRetries := p.pmb.pollRetries + 1 } } := by
    unfold State.pmbPoll
    simp only [wait, polls, hn, hp]
    rw [if_neg (by simp), if_pos fails, if_pos left]
  obtain ⟨pwr, flagN, flagP⟩ := s.pmbMet_parts nack pec
  rw [run]
  exact ⟨flagN, flagP, (congrArg (·.pmb.awaiting) pwr).trans wait, congrArg (·.pmb.pollRetries + 1) pwr⟩

/-! ### A request abandoned, and a fall of PMB_PGOOD (R85) -/
theorem State.wantRoadside_asked (s : State) (cause : Nat) : (s.wantRoadside cause).roadPend.isSome = true := by
  unfold State.wantRoadside
  split
  · next e => rw [e]; rfl
  · rfl

/-- A fatal error asks for Roadside, or finds it asked for (R119). -/
theorem State.fatal_asked (s : State) (code unit : Nat) (info : Word) (cause : Nat) : (s.fatal code unit info cause).roadPend.isSome = true :=
  State.wantRoadside_asked _ cause

/-- A lower target that goes without an acknowledgement is given up, with its flag and its CLEAR_FAULTS (R80, R85). -/
theorem State.pmbTimeout_lower (s : State) (wait : s.pwr.pmb.awaiting = some 130) :
    s.pmbTimeout.flag F.PMB_STAT_TIMEOUT = true ∧ s.pmbTimeout.pwr.pmb.awaiting = none
      ∧ s.pmbTimeout.pwr.pmb.clears = s.pwr.pmb.clears + 1 := by
  have run : s.pmbTimeout = ((s.pmbIdle.setFld F.PMB_STAT_TIMEOUT 1).raise 1 0x01 0).pmbClear := by
    unfold State.pmbTimeout
    rw [wait]
    dsimp only [State.pmbAbandon]
    rw [if_pos (by rfl)]
  have keep := State.footing_of_steady (State.raise_steady (s.pmbIdle.setFld F.PMB_STAT_TIMEOUT 1) 1 0x01 0 0)
  have pmb := State.pmb_of_footing keep
  rw [State.setFld_pwr] at pmb
  rw [run]
  refine ⟨(State.flag_of_footing keep (by decide) 0).trans (State.flag_setFld_one _ _ 0 (by decide) rfl), ?_, ?_⟩
  · exact congrArg PmbState.awaiting pmb
  · exact congrArg (·.clears + 1) (pmb.trans (by rfl))

/-- A fall of PMB_PGOOD with an output fault in STATUS_WORD is fatal (R85). -/
theorem State.pmbFall_fault (s : State) (status : Half) (uses : s.flag F.PMB_CFG_PGOOD_USE = true) (idle : s.flag F.PMB_STAT_BUSY = false)
    (fault : status.getLsbD 15 = true) :
    (s.pmbFall ⟨status, 0, 0⟩).roadPend.isSome = true ∧ (s.pmbFall ⟨status, 0, 0⟩).pwr.pmb.clears = s.pwr.pmb.clears + 1 := by
  have run : s.pmbFall ⟨status, 0, 0⟩ = (s.fatal 0x01 0 (BitVec.ofNat 32 status.toNat) 0x14).pmbClear := by
    unfold State.pmbFall
    have met : s.pmbMet (0 != 0) (0 != 0) = s := rfl
    simp only [met]
    rw [if_neg (by simp [uses, idle]), if_neg (by simp), if_pos (by rw [bit_eq_testBit, BitVec.testBit_toNat, fault])]
  rw [run]
  exact ⟨State.fatal_asked _ _ _ _ _,
    congrArg (·.clears + 1) (State.pmb_of_footing (State.footing_of_steady (State.fatal_steady s _ _ _ _)))⟩

/-! ### The references (R87 to R90) -/

/-- The flag of a reference. -/
def refFld (r : Nat) : Fld := if r = 0 then F.SYSCTL_CLKSTAT_REFA_GOOD else F.SYSCTL_CLKSTAT_REFB_GOOD

theorem State.refGood_eq (s : State) (r : Nat) : s.refGood r = s.flag (refFld r) := by
  unfold State.refGood refFld
  split <;> rfl

theorem State.setRefGood_eq (s : State) (r : Nat) (b : Bool) : s.setRefGood r b = s.setFlag (refFld r) b := by
  unfold State.setRefGood refFld
  split <;> rfl

theorem refFld_reg (r : Nat) : (refFld r).reg = .SYSCTL_CLKSTAT := by unfold refFld; split <;> rfl

/-- The flags of the references are two bits that no other field of the register has. -/
theorem refFld_bits (r : Nat) : (refFld r).lo = (refFld r).hi ∧ (refFld r).hi < 4 := by
  unfold refFld
  split <;> decide

theorem State.refGood_setRefGood (s : State) (r : Nat) (b : Bool) : (s.setRefGood r b).refGood r = b := by
  obtain ⟨one, low⟩ := refFld_bits r
  rw [State.refGood_eq, State.setRefGood_eq]
  exact s.flag_setFlag _ b 0 (by omega) one

/-- A field above the references' flags stays when one of them is given a value. -/
theorem State.fld_setRefGood (s : State) (r : Nat) (b : Bool) (f : Fld) (h : 4 ≤ f.lo) : (s.setRefGood r b).fld f = s.fld f := by
  obtain ⟨-, low⟩ := refFld_bits r
  rw [State.setRefGood_eq]
  exact s.fld_setFld_of_disjoint (refFld r) f _ 0 0 (by omega) (.inr (by omega))

theorem State.refGood_setRefGood_of_ne (s : State) {r q : Nat} (b : Bool) (hr : r < 2) (hq : q < 2) (h : q ≠ r) :
    (s.setRefGood r b).refGood q = s.refGood q := by
  rw [State.refGood_eq, State.setRefGood_eq, State.refGood_eq]
  refine s.flag_setFld_of_disjoint _ _ _ 0 0 (by have := refFld_bits r; omega) ?_
  unfold refFld
  rcases show r = 0 ∧ q = 1 ∨ r = 1 ∧ q = 0 by omega with ⟨rfl, rfl⟩ | ⟨rfl, rfl⟩ <;> decide

theorem State.refGood_of_reg {s t : State} (h : t.reg .SYSCTL_CLKSTAT = s.reg .SYSCTL_CLKSTAT) (r : Nat) : t.refGood r = s.refGood r := by
  rw [State.refGood_eq, State.refGood_eq]
  exact State.flag_congr (by rw [refFld_reg]; exact h)

/-- A reference's flag stays when a field above the flags is given a value. -/
theorem State.refGood_setFld (s : State) (f : Fld) (v r : Nat) (hhi : f.hi < 32) (h : 4 ≤ f.lo) : (s.setFld f v).refGood r = s.refGood r := by
  rw [State.refGood_eq, State.refGood_eq]
  exact s.flag_setFld_of_disjoint f _ v 0 0 hhi (.inl (by have := refFld_bits r; omega))

theorem State.refSwitch_moves (s : State) {r : Nat} (cls : Nat) (h : r < 2) :
    (s.refSwitch r cls).fld F.SYSCTL_CLKSTAT_REF_ACTIVE = r
      ∧ (s.refSwitch r cls).fld F.SYSCTL_CLKSTAT_REF_SWITCHES = Nat.min 255 (s.fld F.SYSCTL_CLKSTAT_REF_SWITCHES + 1)
      ∧ ∀ q, (s.refSwitch r cls).refGood q = s.refGood q := by
  have keep : (s.refSwitch r cls).footing = ((s.setFld F.SYSCTL_CLKSTAT_REF_ACTIVE r).bump F.SYSCTL_CLKSTAT_REF_SWITCHES).footing :=
    State.footing_of_steady ((State.raise_steady _ _ _ _ _).trans (State.publish_steady _ _))
  refine ⟨?_, ?_, fun q => ?_⟩
  · refine (State.fld_of_footing keep (by decide) 0).trans ?_
    refine (State.fld_setFld_of_disjoint _ F.SYSCTL_CLKSTAT_REF_SWITCHES F.SYSCTL_CLKSTAT_REF_ACTIVE _ 0 0 (by decide) (.inl (by decide))).trans ?_
    exact (s.fld_setFld F.SYSCTL_CLKSTAT_REF_ACTIVE r 0 (by decide) (by decide)).trans (Nat.mod_eq_of_lt h)
  · refine (State.fld_of_footing keep (by decide) 0).trans ((State.fld_setFld _ _ _ 0 (by decide) (by decide)).trans ?_)
    rw [s.fld_setFld_of_disjoint F.SYSCTL_CLKSTAT_REF_ACTIVE F.SYSCTL_CLKSTAT_REF_SWITCHES r 0 0 (by decide) (.inr (by decide))]
    have width : s.fld F.SYSCTL_CLKSTAT_REF_SWITCHES < 256 := s.fld_lt F.SYSCTL_CLKSTAT_REF_SWITCHES 0
    simp only [satAdd, Nat.min_def]
    split <;> split <;> omega
  · rw [State.refGood_of_reg (State.reg_of_footing keep (by simp) 0)]
    exact (State.refGood_setFld _ _ _ q (by decide) (by decide)).trans (State.refGood_setFld _ _ _ q (by decide) (by decide))

/-- A move of the clock to FRC leaves FRC selected (R94). -/
theorem State.toFrc_onPll (s : State) : s.toFrc.onPll = false := by
  cases h : s.onPll with
  | false => rw [s.toFrc_of_frc h, h]
  | true => exact (State.flag_of_footing (s.toFrc_footing h) (by decide) 0).trans (s.flag_setFld_zero _ 0 (by decide) (by decide))

/-- The loss of PLL0's lock leaves the clock on FRC, without the lock (R94, R497). -/
theorem State.pllLoss_parts (s : State) : s.pllLoss.onPll = false ∧ s.pllLoss.flag F.SYSCTL_CLKSTAT_PLL_LOCK = false :=
  ⟨(State.flag_setFld_of_disjoint _ F.SYSCTL_CLKSTAT_PLL_LOCK F.SYSCTL_CLKSTAT_SRC_CUR 0 0 0 (by decide) (.inr (by decide))).trans s.toFrc_onPll,
    State.flag_setFld_zero _ F.SYSCTL_CLKSTAT_PLL_LOCK 0 (by decide) (by decide)⟩

/-- The failure of the reference in use, where the other one is good (R88). -/
theorem State.refFail_moves (s : State) {r : Nat} (hr : r < 2) (good : s.refGood r = true) (en : s.flag F.SYSCTL_CLKCFG_PLL_EN = true)
    (use : s.fld F.SYSCTL_CLKSTAT_REF_ACTIVE = r) (other : s.refGood (1 - r) = true) :
    s.refFail r = ((s.setRefGood r false).refLost r).refSwitch (1 - r) 1 := by
  have other' : ((s.setRefGood r false).refLost r).refGood (1 - r) = true :=
    (s.refGood_setRefGood_of_ne false hr (by omega) (by omega)).trans other
  unfold State.refFail
  rw [if_neg (by simp [good]), if_neg (by simp [en, use]), if_pos other']

/-- The failure of the reference in use, where the other one is not good (R90). -/
theorem State.refFail_last (s : State) {r : Nat} (hr : r < 2) (good : s.refGood r = true) (en : s.flag F.SYSCTL_CLKCFG_PLL_EN = true)
    (use : s.fld F.SYSCTL_CLKSTAT_REF_ACTIVE = r) (other : s.refGood (1 - r) = false) :
    s.refFail r = ((s.setRefGood r false).refLost r).pllLoss.fatal 0x00 0 0 0x11 := by
  have other' : ((s.setRefGood r false).refLost r).refGood (1 - r) = false :=
    (s.refGood_setRefGood_of_ne false hr (by omega) (by omega)).trans other
  unfold State.refFail
  rw [if_neg (by simp [good]), if_neg (by simp [en, use]), if_neg (by simp [other'])]

theorem State.fatal_frc (s : State) (code unit : Nat) (info : Word) (cause : Nat) :
    (s.fatal code unit info cause).onPll = s.onPll
      ∧ (s.fatal code unit info cause).flag F.SYSCTL_CLKSTAT_PLL_LOCK = s.flag F.SYSCTL_CLKSTAT_PLL_LOCK := by
  have keep := State.footing_of_steady (s.fatal_steady code unit info cause)
  exact ⟨State.flag_of_footing keep (by decide) 0, State.flag_of_footing keep (by decide) 0⟩

/-- A reference that is good again, where PLL0 does not go back to it (R89). -/
theorem State.refOk_kept (s : State) (r : Nat) (stay : s.flag F.SYSCTL_CLKCFG_REF_REVERT = false) :
    (s.refOk r).refGood r = true ∧ (s.refOk r).fld F.SYSCTL_CLKSTAT_REF_ACTIVE = s.fld F.SYSCTL_CLKSTAT_REF_ACTIVE := by
  unfold State.refOk
  rw [if_neg (by simp [stay])]
  exact ⟨s.refGood_setRefGood r true, s.fld_setRefGood r true F.SYSCTL_CLKSTAT_REF_ACTIVE (by decide)⟩

/-! ### PLL0 and the clock selection (R91 to R94, R497) -/

theorem State.writeReg_clkcfg (s : State) (cl n : Nat) (w : Word) : s.writeReg cl .SYSCTL_CLKCFG n w = s.clkcfgWrite w := by
  rw [State.writeReg, if_pos (by decide)]; rfl

theorem bit_wordPut_same (w : Word) (k : Nat) (b : Bool) (h : k < 32) : bit (wordPut w k k (b2n b)).toNat k = b := by
  rw [bit_eq_testBit, BitVec.testBit_toNat, getLsbD_wordPut _ _ _ _ _ h, if_pos ⟨le_rfl, le_rfl⟩, Nat.sub_self]
  cases b <;> rfl

theorem bit_wordPut_of_ne (w : Word) (v : Nat) {k j : Nat} (h : k < 32) (ne : j ≠ k) : bit (wordPut w k k v).toNat j = bit w.toNat j := by
  rw [bit_eq_testBit, BitVec.testBit_toNat, getLsbD_wordPut _ _ _ _ _ h, if_neg (by omega), bit_eq_testBit, BitVec.testBit_toNat]

/-- A flag of one bit is that bit of its register. -/
theorem State.bit_reg (s : State) (r : RegName) (k n : Nat) : bit (s.reg r n).toNat k = s.flag ⟨r, k, k⟩ n := by
  have width : k + 1 - k = 1 := by omega
  rw [State.flag, State.fld, bits, bit, width, Nat.pow_one]
  have := Nat.mod_two_eq_zero_or_one ((s.reg r n).toNat / 2 ^ k)
  rcases this with h | h <;> rw [h] <;> rfl

/-- The preferences of a write of SYSCTL_CLKCFG (R89). -/
def State.clkPrefs (s : State) (w : Word) : State :=
  (s.setFlag F.SYSCTL_CLKCFG_REF_REVERT (bit w.toNat 8)).setFlag F.SYSCTL_CLKCFG_REF_PREF (bit w.toNat 7)

theorem State.clkPrefs_flag (s : State) (w : Word) {f : Fld} (h : f.reg ≠ .SYSCTL_CLKCFG) : (s.clkPrefs w).flag f = s.flag f :=
  (State.flag_setFld_of_ne _ F.SYSCTL_CLKCFG_REF_PREF f _ 0 0 h).trans (State.flag_setFld_of_ne _ F.SYSCTL_CLKCFG_REF_REVERT f _ 0 0 h)

theorem State.clkPrefs_en (s : State) (w : Word) : (s.clkPrefs w).flag F.SYSCTL_CLKCFG_PLL_EN = s.flag F.SYSCTL_CLKCFG_PLL_EN :=
  (State.flag_setFld_of_disjoint _ F.SYSCTL_CLKCFG_REF_PREF F.SYSCTL_CLKCFG_PLL_EN _ 0 0 (by decide) (.inl (by decide))).trans
    (State.flag_setFld_of_disjoint _ F.SYSCTL_CLKCFG_REF_REVERT F.SYSCTL_CLKCFG_PLL_EN _ 0 0 (by decide) (.inl (by decide)))

theorem State.pllStart_parts (s : State) : s.pllStart.flag F.SYSCTL_CLKCFG_PLL_EN = true ∧ s.pllStart.onPll = s.onPll := by
  refine ⟨?_, ?_⟩
  · exact (State.flag_setFld_of_ne _ F.SYSCTL_CLKSTAT_REF_ACTIVE F.SYSCTL_CLKCFG_PLL_EN _ 0 0 (by decide)).trans
      (s.flag_setFld_one F.SYSCTL_CLKCFG_PLL_EN 0 (by decide) rfl)
  · exact (State.flag_setFld_of_disjoint _ F.SYSCTL_CLKSTAT_REF_ACTIVE F.SYSCTL_CLKSTAT_SRC_CUR _ 0 0 (by decide) (.inr (by decide))).trans
      (s.flag_setFld_of_ne F.SYSCTL_CLKCFG_PLL_EN F.SYSCTL_CLKSTAT_SRC_CUR _ 0 0 (by decide))

theorem State.pllStop_parts (s : State) : s.pllStop.flag F.SYSCTL_CLKCFG_PLL_EN = false ∧ s.pllStop.onPll = s.onPll := by
  refine ⟨?_, ?_⟩
  · exact (State.flag_setFld_of_ne _ F.SYSCTL_CLKSTAT_PLL_LOCK F.SYSCTL_CLKCFG_PLL_EN _ 0 0 (by decide)).trans
      (s.flag_setFld_zero F.SYSCTL_CLKCFG_PLL_EN 0 (by decide) (by decide))
  · exact (State.flag_setFld_of_disjoint _ F.SYSCTL_CLKSTAT_PLL_LOCK F.SYSCTL_CLKSTAT_SRC_CUR _ 0 0 (by decide) (.inr (by decide))).trans
      (s.flag_setFld_of_ne F.SYSCTL_CLKCFG_PLL_EN F.SYSCTL_CLKSTAT_SRC_CUR _ 0 0 (by decide))

/-- PLL0 enabled while the clock comes from FRC (R91, R93). -/
theorem State.clkcfgWrite_start (s : State) {w : Word} (en : bit w.toNat 3 = true) (src : bit w.toNat 0 = false) (frc : s.onPll = false) :
    (s.clkcfgWrite w).flag F.SYSCTL_CLKCFG_PLL_EN = true ∧ (s.clkcfgWrite w).onPll = false := by
  have run : s.clkcfgWrite w = (if s.flag F.SYSCTL_CLKCFG_PLL_EN then s.clkPrefs w else (s.clkPrefs w).pllStart).toFrc := by
    simp only [State.clkcfgWrite, en, src]
    rfl
  have prefs : (s.clkPrefs w).onPll = false := (s.clkPrefs_flag w (by decide)).trans frc
  rw [run]
  refine ⟨?_, State.toFrc_onPll _⟩
  cases h : s.flag F.SYSCTL_CLKCFG_PLL_EN with
  | true => rw [if_pos rfl, State.toFrc_of_frc _ prefs, State.clkPrefs_en, h]
  | false =>
    obtain ⟨on, same⟩ := (s.clkPrefs w).pllStart_parts
    rw [if_neg (by decide), State.toFrc_of_frc _ (same.trans prefs), on]

/-- PLL0 disabled while the clock comes from FRC (R93). -/
theorem State.clkcfgWrite_stop (s : State) {w : Word} (en : bit w.toNat 3 = false) (src : bit w.toNat 0 = false)
    (frc : s.nowOrWas State.onPll = false) :
    (s.clkcfgWrite w).flag F.SYSCTL_CLKCFG_PLL_EN = false ∧ (s.clkcfgWrite w).mem = s.mem := by
  have now : s.onPll = false := (Bool.or_eq_false_iff.1 frc).1
  have run : s.clkcfgWrite w = (if s.flag F.SYSCTL_CLKCFG_PLL_EN then (s.clkPrefs w).pllStop else s.clkPrefs w).toFrc := by
    simp only [State.clkcfgWrite, en, src, frc]
    cases s.flag F.SYSCTL_CLKCFG_PLL_EN <;> rfl
  have prefs : (s.clkPrefs w).onPll = false := (s.clkPrefs_flag w (by decide)).trans now
  have mem : (s.clkPrefs w).mem = s.mem := by simp [State.clkPrefs, State.setFlag]
  rw [run]
  cases h : s.flag F.SYSCTL_CLKCFG_PLL_EN with
  | true =>
    obtain ⟨off, same⟩ := (s.clkPrefs w).pllStop_parts
    rw [if_pos rfl, State.toFrc_of_frc _ (same.trans prefs)]
    exact ⟨off, (by simp [State.pllStop] : (s.clkPrefs w).pllStop.mem = (s.clkPrefs w).mem).trans mem⟩
  | false =>
    rw [if_neg (by decide), State.toFrc_of_frc _ prefs]
    exact ⟨(s.clkPrefs_en w).trans h, mem⟩

/-- A write that leaves PLL_EN as it is and asks for PLL0 selects it while it is locked (R92). -/
theorem State.clkcfgWrite_toPll (s : State) {w : Word} (en : bit w.toNat 3 = s.flag F.SYSCTL_CLKCFG_PLL_EN) (src : bit w.toNat 0 = true)
    (lock : s.flag F.SYSCTL_CLKSTAT_PLL_LOCK = true) : (s.clkcfgWrite w).onPll = true := by
  have run : s.clkcfgWrite w = if (s.clkPrefs w).flag F.SYSCTL_CLKSTAT_PLL_LOCK then (s.clkPrefs w).toPll else s.clkPrefs w := by
    simp only [State.clkcfgWrite, en, src]
    cases s.flag F.SYSCTL_CLKCFG_PLL_EN <;> rfl
  rw [run, State.clkPrefs_flag _ _ (by decide), lock, if_pos rfl]
  cases h : (s.clkPrefs w).onPll with
  | true => rw [State.toPll, if_pos h, h]
  | false => exact (State.flag_of_footing (State.toPll_footing _ h) (by decide) 0).trans (State.flag_setFld_one _ _ 0 (by decide) rfl)

/-- A write that asks for FRC leaves it selected (R92). -/
theorem State.clkcfgWrite_toFrc (s : State) {w : Word} (src : bit w.toNat 0 = false) : (s.clkcfgWrite w).onPll = false := by
  simp only [State.clkcfgWrite, src]
  exact State.toFrc_onPll _

/-! ### The lock (R54, R91, R97) -/

theorem State.pstate_reg (s : State) {r : RegName} (h : r ≠ .SYSCTL_PSTATE) (n : Nat) : s.pstate.reg r n = s.reg r n := by
  rw [State.pstate, State.setFlag, State.reg_setFld_ite, if_neg (fun e => h e.1), State.reg_setFld_ite, if_neg (fun e => h e.1)]

theorem State.pstate_pwr (s : State) : s.pstate.pwr = s.pwr := by simp [State.pstate, State.setFlag]

/-- A new current state changes SYSCTL_PSTATE alone, of the registers and the power state. -/
theorem State.setCur_keeps (s : State) (v : Nat) :
    (∀ (r : RegName) (n : Nat), r ≠ .SYSCTL_PSTATE → (s.setCur v).reg r n = s.reg r n) ∧ (s.setCur v).pwr = s.pwr
      ∧ (∀ f : Fld, f ∈ [F.SYSCTL_PSTATE_REST, F.SYSCTL_PSTATE_ROADSIDE] → (s.setCur v).fld f = s.fld f) := by
  have kept (f : Fld) (h : f ∈ [F.SYSCTL_PSTATE_REST, F.SYSCTL_PSTATE_ROADSIDE]) : f ∈ pstateKept ∧ F.SYSCTL_PSTATE_CUR.hi < f.lo := by
    simp only [List.mem_cons, List.not_mem_nil, or_false] at h
    rcases h with rfl | rfl <;> decide
  unfold State.setCur
  split
  · exact ⟨fun r n h => s.pstate_reg h n, s.pstate_pwr, fun f h => s.fld_pstate (kept f h).1⟩
  · extract_lets s1
    have pub : (if s.onPll then s1.publish 380 else s1).regs = s1.regs ∧ (if s.onPll then s1.publish 380 else s1).pwr = s1.pwr := by
      split
      · rw [State.publish_eq]; exact ⟨rfl, rfl⟩
      · exact ⟨rfl, rfl⟩
    refine ⟨fun r n h => ?_, ?_, fun f h => ?_⟩
    · rw [State.reg_congr pub.1, State.pstate_reg _ h, State.reg_setFld_ite, if_neg (fun e => h e.1)]
    · rw [pub.2, State.pstate_pwr, State.setFld_pwr]
    · rw [State.fld_congr (State.reg_congr pub.1 _ _), State.fld_pstate _ (kept f h).1,
        State.fld_setFld_of_disjoint _ _ _ _ _ _ (by decide) (.inr (kept f h).2)]

theorem State.raiseTo_cases (s : State) (v : Nat) :
    s.raiseTo v = s ∨ (s.raiseTo v).steady = (s.setCur v).steady := by
  unfold State.raiseTo
  split
  · exact .inr ((State.deliverWaiting_steady _).trans (State.userStart_steady _))
  · exact .inl rfl

/-- A raise touches neither the lock nor a wake. -/
theorem State.raiseTo_lock (s : State) (v : Nat) :
    (s.raiseTo v).flag F.SYSCTL_CLKSTAT_PLL_LOCK = s.flag F.SYSCTL_CLKSTAT_PLL_LOCK ∧ (s.raiseTo v).pwr.waking = s.pwr.waking := by
  obtain ⟨regs, pwr, -⟩ := s.setCur_keeps v
  rcases s.raiseTo_cases v with h | h
  · rw [h]; exact ⟨rfl, rfl⟩
  · have keep := State.footing_of_steady h
    exact ⟨(State.flag_of_footing keep (by decide) 0).trans (State.flag_congr (regs _ 0 (by decide))),
      (State.waking_of_footing keep).trans (by rw [pwr])⟩

theorem State.raiseDue_lock (s : State) :
    s.raiseDue.flag F.SYSCTL_CLKSTAT_PLL_LOCK = s.flag F.SYSCTL_CLKSTAT_PLL_LOCK ∧ s.raiseDue.pwr.waking = s.pwr.waking := by
  unfold State.raiseDue
  split
  · exact ⟨rfl, rfl⟩
  · split <;> exact s.raiseTo_lock _

/-- From LISTEN, with PLL0 locked, a raise to RUN takes place (R54). -/
theorem State.raiseTo_run (s : State) (cur : s.cur = 1) (lock : s.flag F.SYSCTL_CLKSTAT_PLL_LOCK = true) : (s.raiseTo 0).cur = 0 := by
  have run : s.raiseTo 0 = (s.setCur 0).userStart.deliverWaiting := if_pos ⟨by omega, by omega, lock⟩
  rw [run]
  exact (State.fld_of_footing (State.footing_of_steady ((State.deliverWaiting_steady _).trans (State.userStart_steady _))) (by decide) 0).trans
    (s.setCur_cur (by decide))

theorem State.pllLocked_runs (s : State) (runs : s.pllRuns = true) :
    s.pllLocked = (s.setFld F.SYSCTL_CLKSTAT_PLL_LOCK 1).wakeDone.raiseDue := if_pos runs

theorem State.wakeDone_still (s : State) (still : s.pwr.waking = false) : s.wakeDone = s := if_neg (by simp [still])

/-- A wake from DOZE is complete in LISTEN, with what the raise that follows reads as it was (R97). -/
theorem State.wakeDone_parts (s : State) (wake : s.pwr.waking = true) :
    s.wakeDone.cur = 1 ∧ s.wakeDone.pwr.waking = false ∧ s.wakeDone.hcp = s.hcp
      ∧ s.wakeDone.restState = s.restState ∧ s.wakeDone.inRoadside = s.inRoadside
      ∧ s.wakeDone.flag F.SYSCTL_CLKSTAT_PLL_LOCK = s.flag F.SYSCTL_CLKSTAT_PLL_LOCK := by
  have run : s.wakeDone = (s.onPwr fun p => { p with waking := false }).setCur 1 := if_pos wake
  obtain ⟨regs, pwr, flds⟩ := (s.onPwr fun p => { p with waking := false }).setCur_keeps 1
  rw [run]
  refine ⟨State.setCur_cur _ (by decide), by rw [pwr]; rfl, State.setCur_hcp _ _, flds _ (by simp), ?_, State.flag_congr (regs _ 0 (by decide))⟩
  exact congrArg (· != 0) (flds F.SYSCTL_PSTATE_ROADSIDE (by simp))

/-- PLL0 locks while a wake from DOZE is under way: LISTEN, and RUN where a call or the resting state asks for it (R54, R91, R97). -/
theorem State.pllLocked_wakes (s : State) (runs : s.pllRuns = true) (wake : s.pwr.waking = true) :
    s.pllLocked.flag F.SYSCTL_CLKSTAT_PLL_LOCK = true ∧ s.pllLocked.pwr.waking = false
      ∧ (s.hcp.calls = [] → 1 ≤ s.restState → s.pllLocked.cur = 1)
      ∧ (s.inRoadside = false → (s.hcp.calls ≠ [] ∨ s.restState = 0) → s.pllLocked.cur = 0) := by
  rw [s.pllLocked_runs runs]
  obtain ⟨cur, awake, hcp, rest, road, lock⟩ := (s.setFld F.SYSCTL_CLKSTAT_PLL_LOCK 1).wakeDone_parts (by simpa using wake)
  generalize (s.setFld F.SYSCTL_CLKSTAT_PLL_LOCK 1).wakeDone = u at cur awake hcp rest road lock ⊢
  rw [State.flag_setFld_one _ _ 0 (by decide) rfl] at lock
  rw [State.setFld_hcp] at hcp
  replace rest : u.restState = s.restState := rest.trans (s.fld_setFld_of_ne F.SYSCTL_CLKSTAT_PLL_LOCK F.SYSCTL_PSTATE_REST 1 0 0 (by decide))
  replace road : u.inRoadside = s.inRoadside :=
    road.trans (s.flag_setFld_of_ne F.SYSCTL_CLKSTAT_PLL_LOCK F.SYSCTL_PSTATE_ROADSIDE 1 0 0 (by decide))
  obtain ⟨lock', awake'⟩ := u.raiseDue_lock
  refine ⟨lock'.trans lock, awake'.trans awake, fun calls low => ?_, fun out asked => ?_⟩
  · unfold State.raiseDue
    rw [hcp, calls, rest]
    split
    · exact cur
    · rw [if_pos (by rfl), State.raiseTo, if_neg (by omega), cur]
  · unfold State.raiseDue
    rw [road, out, if_neg (by decide), hcp, rest]
    split
    · next none =>
      rw [asked.resolve_left (by simpa using none)]
      exact u.raiseTo_run cur lock
    · exact u.raiseTo_run cur lock

/-- A loss of lock moves the clock to FRC and is logged (R94, R497). -/
theorem State.pllLockLoss_frc (s : State) (lock : s.flag F.SYSCTL_CLKSTAT_PLL_LOCK = true) :
    s.pllLockLoss.onPll = false ∧ s.pllLockLoss.flag F.SYSCTL_CLKSTAT_PLL_LOCK = false := by
  have keep := State.footing_of_steady (s.pllLoss.raise_steady 2 0x00 0 0)
  obtain ⟨frc, unlocked⟩ := s.pllLoss_parts
  rw [State.pllLockLoss, if_pos lock]
  exact ⟨(State.flag_of_footing keep (by decide) 0).trans frc, (State.flag_of_footing keep (by decide) 0).trans unlocked⟩

/-! ### The statement -/

section
variable {who : Who} {s : State}

/-- PLL_EN_WRITE leaves SRC as it is (R93). -/
theorem exec_pllEnWrite (en : Bool) (on : s.sysOn = true) (cl0 : s.rights who.val = [0]) :
    exec (.pllEnWrite who en) s = .next (s.clkcfgWrite (wordPut (s.reg .SYSCTL_CLKCFG) 3 3 (b2n en))).done :=
  exec_of_write on cl0 (by rfl) (s.writeReg_clkcfg 0 0 _) rfl

/-- SRC_SELECT leaves PLL_EN as it is (R92). -/
theorem exec_srcSelect (pll : Bool) (on : s.sysOn = true) (cl0 : s.rights who.val = [0]) :
    exec (.srcSelect who pll) s = .next (s.clkcfgWrite (wordPut (s.reg .SYSCTL_CLKCFG) 0 0 (b2n pll))).done :=
  exec_of_write on cl0 (by rfl) (s.writeReg_clkcfg 0 0 _) rfl

theorem exec_pmbPgoodFall {x : PmbTries} (on : s.sysOn = true) : exec (.pmbPgoodFall x) s = .next (s.pmbFall x).done :=
  exec_of_effect (by rfl) (s.always_on _ on)

theorem exec_refFail {r : Fin 2} (on : s.sysOn = true) : exec (.refFail r) s = .next (s.refFail r.val).done :=
  exec_of_effect (by rfl) (s.always_on _ on)

theorem exec_refGood {r : Fin 2} (on : s.sysOn = true) : exec (.refGood r) s = .next (s.refOk r.val).done :=
  exec_of_effect (by rfl) (s.always_on _ on)

theorem exec_pllLock (on : s.sysOn = true) : exec .pllLock s = .next s.pllLocked.done :=
  exec_of_effect (by rfl) (s.powered_on _ on)

theorem exec_pllLockTimeout (on : s.sysOn = true) : exec .pllLockTimeout s = .next s.pllTimeout.done :=
  exec_of_effect (by rfl) (s.powered_on _ on)

theorem exec_pllLockLoss (on : s.sysOn = true) : exec .pllLockLoss s = .next s.pllLockLoss.done :=
  exec_of_effect (by rfl) (s.powered_on _ on)

end

/-- The exponent of a regulator that counts in fractions, and of one that counts in multiples (R81). -/
theorem volt_neg (m : Nat) : voutNum (-(m : Int)) = 2 ^ m ∧ voutDen (-(m : Int)) = 1 := by
  constructor
  · rw [voutNum, Int.neg_neg, Int.toNat_natCast]
  · rw [voutDen, Int.toNat_of_nonpos (by omega), Nat.pow_zero]

theorem volt_pos (m : Nat) : voutNum (m : Int) = 1 ∧ voutDen (m : Int) = 2 ^ m := by
  constructor
  · rw [voutNum, Int.toNat_of_nonpos (by omega), Nat.pow_zero]
  · rw [voutDen, Int.toNat_natCast]

theorem State.pmbPoll_acks (s : State) {x : Nat} (status vout : Half) (wait : s.pwr.pmb.awaiting = some x) (h : x < 256)
    (polls : s.flag F.PMB_CFG_PGOOD_USE = false) (fault : status.getLsbD 15 = false) (off : status.getLsbD 11 = false)
    (near : ((vout.toNat * 1000 * voutDen s.pwr.pmb.exp : Nat) - (x * 5 * voutNum s.pwr.pmb.exp : Nat) : Int).natAbs ≤ 15 * voutNum s.pwr.pmb.exp) :
    ∃ t : State, exec (.statusWordPoll ⟨status, s.pmbReadCode 0x79 status, false⟩ ⟨vout, s.pmbReadCode 0x8B vout, false⟩) s = .next t.done
      ∧ t.fld F.PMB_STAT_VACK = x ∧ t.pwr.pmb.awaiting = none := by
  obtain ⟨vack, -, ended⟩ := (s.onPwr fun p => { p with pmb := { p.pmb with pollRetries := 0 } }).pmbAck_ends wait h
  exact ⟨_, exec_of_effect (exec_statusWordPoll _ _ s) (s.pmbPoll_met status vout wait polls fault off near), vack, ended⟩

/-- Settles O37: each command by the rule of its write or of its event. -/
theorem voltageAndClocks : Obligations.VoltageAndClocks := by
  unfold Obligations.VoltageAndClocks
  intro who w status vout r s ends target
  refine ⟨fun on cl0 => ⟨fun idle => ⟨_, exec_pmbVreqWrite w on cl0, s.vreqWrite_first w idle⟩,
      fun x busy => ⟨_, exec_pmbVreqWrite w on cl0, s.vreqWrite_waits w busy⟩,
      fun frc src => ⟨⟨_, exec_pllEnWrite true on cl0, ?start⟩, ⟨_, exec_pllEnWrite false on cl0, ?stop⟩⟩,
      fun lock => ⟨_, exec_srcSelect true on cl0, ?toPll⟩, ⟨_, exec_srcSelect false on cl0, ?toFrc⟩⟩,
    fun x send last => ⟨fun low => ⟨_, exec_of_effect (exec_voutCommandDone _ _ s) (s.pmbWriteDone_taken send last), ?lower⟩,
      fun high => ⟨_, exec_of_effect (exec_voutCommandDone _ _ s) (s.pmbWriteDone_taken send last), ?higher⟩,
      fun left => ⟨_, exec_of_effect (exec_voutCommandDone _ _ s) (s.pmbWriteDone_nack send last left), ?again⟩⟩,
    fun x wait fits => ⟨fun uses => ⟨_, exec_of_effect (exec_pmbPgoodAck s) (if_pos uses), s.pmbAck_ends wait fits⟩,
      fun polls fault off => ⟨fun m hm near => s.pmbPoll_acks status vout wait fits polls fault off ?fraction,
        fun m hm near => s.pmbPoll_acks status vout wait fits polls fault off ?multiple⟩,
      fun polls left => ?nack, fun e polls left bad => ?code⟩,
    fun wait => ⟨_, exec_pmbRequestTimeout s, s.pmbTimeout_lower wait⟩, fun on => ?_⟩
  case start =>
    exact s.clkcfgWrite_start (bit_wordPut_same _ 3 true (by decide))
      ((bit_wordPut_of_ne _ _ (by decide) (by decide)).trans ((s.bit_reg _ 0 0).trans src)) (Bool.or_eq_false_iff.1 frc).1
  case stop =>
    exact s.clkcfgWrite_stop (bit_wordPut_same _ 3 false (by decide))
      ((bit_wordPut_of_ne _ _ (by decide) (by decide)).trans ((s.bit_reg _ 0 0).trans src)) frc
  case toPll =>
    exact s.clkcfgWrite_toPll ((bit_wordPut_of_ne _ _ (by decide) (by decide)).trans (s.bit_reg _ 3 0))
      (bit_wordPut_same _ 0 true (by decide)) lock
  case toFrc => exact s.clkcfgWrite_toFrc (bit_wordPut_same _ 0 false (by decide))
  case lower =>
    rw [if_pos low]
    exact ⟨s.setVack_fld (low.trans (s.fld_lt F.PMB_STAT_VACK 0)), rfl, rfl⟩
  case higher =>
    rw [if_neg (by omega)]
    exact ⟨rfl, rfl, rfl⟩
  case again => exact ⟨s.flag_setFld_one F.PMB_STAT_NACK 0 (by decide) rfl, by simpa using send, by simp⟩
  case fraction =>
    obtain ⟨num, den⟩ := volt_neg m
    rw [hm, num, den, Nat.mul_one]
    exact near
  case multiple =>
    obtain ⟨num, den⟩ := volt_pos m
    rw [hm, num, den, Nat.mul_one, Nat.mul_one, Nat.mul_right_comm]
    exact near
  case nack =>
    obtain ⟨nack, -, still⟩ := s.pmbPoll_retried ⟨status, 0, true⟩ ⟨vout, 0, false⟩ wait polls left rfl rfl rfl
    exact ⟨_, exec_statusWordPoll _ _ s, nack rfl, still⟩
  case code =>
    obtain ⟨-, pec, still⟩ := s.pmbPoll_retried ⟨status, e, false⟩ ⟨vout, s.pmbReadCode 0x8B vout, false⟩ wait polls left
      (pec := true) rfl (by simpa using bad) rfl
    exact ⟨_, exec_statusWordPoll _ _ s, pec rfl, still⟩
  refine ⟨fun uses idle fault => ⟨_, exec_pmbPgoodFall on, s.pmbFall_fault status uses idle fault⟩,
    fun good en use => ⟨fun other => ⟨_, exec_of_effect (exec_refFail on) (s.refFail_moves r.isLt good en use other), ?moves⟩,
      fun other => ⟨_, exec_of_effect (exec_refFail on) (s.refFail_last r.isLt good en use other), ?last⟩⟩,
    fun stay => ⟨_, exec_refGood on, s.refOk_kept r.val stay⟩,
    fun runs => ⟨fun still => exec_of_effect (exec_pllLock on) ?still,
      fun wake => ⟨_, exec_pllLock on, s.pllLocked_wakes runs wake⟩⟩,
    fun en lock => exec_of_effect (exec_pllLockTimeout on) (if_pos ⟨en, by simp [lock]⟩),
    fun lock => ⟨_, exec_pllLockLoss on, s.pllLockLoss_frc lock⟩⟩
  case moves =>
    obtain ⟨active, switches, refs⟩ := ((s.setRefGood r.val false).refLost r.val).refSwitch_moves 1 (show 1 - r.val < 2 by omega)
    refine ⟨(refs _).trans (s.refGood_setRefGood r.val false), active, switches.trans ?_⟩
    exact congrArg (fun n => Nat.min 255 (n + 1)) (s.fld_setRefGood r.val false F.SYSCTL_CLKSTAT_REF_SWITCHES (by decide))
  case last =>
    obtain ⟨frc, lock⟩ := ((s.setRefGood r.val false).refLost r.val).pllLoss.fatal_frc 0x00 0 0 0x11
    obtain ⟨frc', lock'⟩ := ((s.setRefGood r.val false).refLost r.val).pllLoss_parts
    exact ⟨frc.trans frc', lock.trans lock', State.fatal_asked _ _ _ _ _⟩
  case still =>
    rw [s.pllLocked_runs runs, State.wakeDone_still _ (by simpa using still)]

end Sys2Proof.Machine
end

section
/-! Last Mile: arming, the trip, the flush and the park (R96 to R107). -/

namespace Sys2Proof.Machine

/-! ### The trip (R64, R99, R101) -/

theorem exec_vinSenseTrip (s : State) : exec .vinSenseTrip s = .next s.vinTrip.done := by rfl

@[simp] theorem State.ctxs_steady (l : List Nat) (s : State) : (foldOver (fun (c : Nat) (t : State) => t.ctxFree c) l s).steady = s.steady :=
  foldOver_steady _ (fun c t => t.ctxFree_steady c) l s

@[simp] theorem State.mileSettle_steady (s : State) : s.mileSettle.steady = s.steady := by
  unfold State.mileSettle
  refine (State.ctxs_steady _ _).trans ((foldOver_steady _ (fun k t => ?_) _ _).trans s.commitNow_steady)
  split
  · exact t.mileAbort_steady k 7 .aborted
  · rfl

@[simp] theorem State.flcTrip_steady (s : State) : s.flcTrip.steady = s.steady := by simp -implicitDefEqProofs [State.flcTrip]

/-- What a trip of the comparator does before Last Mile: the bus is low, an OTP program ends, the pins are safe and charging stops. -/
def State.tripped (s : State) : State := (((({ s with vinLow := true } : State).otpCut).pinsSafe 0).pinsSafe 1).chargeStop

/-- The work that Last Mile stops while the clock still runs (R101). -/
def State.tripStop (s : State) : State :=
  let s1 := ((s.txSilence).mileSettle).chargeStop
  let s2 := ((s1.userOff.bankStop).schedHalt).schedLose
  let s3 := (s2.onRf fun r => { r with runAgain := false }).onSched fun d => { d with runAgain := false }
  (foldOver State.lpStop [0, 1] s3).dmcStop

/-- What Last Mile does once the clock has moved to FRC, before the flush begins (R101). -/
def State.tripEnd (s : State) : State :=
  let s4 := s.onRf fun r => { r with runAgain := false }
  let s5 := ((s4.entryDrop).setFld F.SYSCTL_PSTATE_RAISE_CAUSE 0).onHcp fun _ => {}
  let s6 := ((s5.onErr fun e => { e with held := [] }).onCtl fun c => { c with reader := none, waiting := none }).setFld F.CTL_STAT_READER_ON 0
  s6.flcTrip.onFlc fun f => { f with pulseEnded := false }

theorem State.lastMile_eq (s : State) : s.lastMile = s.tripStop.toFrc.tripEnd.flushBegin false := rfl

theorem State.tripped_parts (s : State) :
    s.tripped.pwr.flush = s.pwr.flush ∧ s.tripped.vinLow = true
      ∧ s.tripped.flag F.SYSCTL_VINCFG_LM_EN = s.flag F.SYSCTL_VINCFG_LM_EN ∧ s.tripped.pinsLow := by
  have keep : s.tripped.footing = ({ s with vinLow := true } : State).footing :=
    (State.footing_of_steady (State.chargeStop_steady _)).trans
      ((State.pinsSafe_footing _ 1).trans ((State.pinsSafe_footing _ 0).trans (State.footing_of_steady (State.otpCut_steady _))))
  exact ⟨(State.flush_of_footing keep).trans rfl, State.vinLow_of_footing keep, (State.flag_of_footing keep (by decide) 0).trans rfl,
    State.pinsLow_of_steady (State.chargeStop_steady _) (State.pinsLow_of_both _)⟩

theorem State.tripStop_parts (s : State) (low : s.pinsLow) : s.tripStop.vinLow = s.vinLow ∧ s.tripStop.pinsLow := by
  have keep : s.tripStop.steady = s.txSilence.steady := by
    have lines (t : State) : (foldOver State.lpStop [0, 1] t).steady = t.steady := foldOver_steady _ State.lpStop_steady _ t
    simp -implicitDefEqProofs [State.tripStop, lines, -foldOver_cons]
  exact ⟨(State.vinLow_of_footing (State.footing_of_steady keep)).trans (State.vinLow_of_footing s.txSilence_footing),
    State.pinsLow_of_steady keep (State.pinsLow_txSilence low)⟩

theorem State.toFrc_vinLow (s : State) : s.toFrc.vinLow = s.vinLow := by
  cases h : s.onPll with
  | false => rw [s.toFrc_of_frc h]
  | true => exact (State.vinLow_of_footing (s.toFrc_footing h)).trans (s.setFld_vinLow _ _ _)

/-- Every exchange ends, and neither the bus nor the pins change. -/
theorem State.tripEnd_parts (s : State) (low : s.pinsLow) : s.tripEnd.vinLow = s.vinLow ∧ s.tripEnd.pinsLow ∧ s.tripEnd.noExch = true := by
  have keep : s.tripEnd.steady = (s.entryDrop.setFld F.SYSCTL_PSTATE_RAISE_CAUSE 0).steady := by
    simp -implicitDefEqProofs [State.tripEnd]
    rfl
  have foot := State.footing_of_steady keep
  refine ⟨(State.vinLow_of_footing foot).trans (State.setFld_vinLow _ _ _ _), State.pinsLow_of_steady keep ?_, ?_⟩
  · intro p hp
    rw [State.setFld_txp]
    exact low p hp
  · rw [State.noExch, State.fld_of_footing foot (by decide), State.fld_setFld _ _ _ _ (by decide) (by decide)]
    rfl

/-- A trip with Last Mile enabled and no flush of its own under way is Last Mile (R101, R103). -/
theorem State.vinTrip_runs (s : State) (level : s.level < 3) (off : s.pwr.off = false) (held : s.pwr.held = false)
    (pin : s.pwr.pinWait = false) (high : s.vinLow = false) (en : s.flag F.SYSCTL_VINCFG_LM_EN = true)
    (free : ∀ f, s.pwr.flush = some f → f.orderly = true) : s.vinTrip = s.tripped.lastMile := by
  obtain ⟨flush, -, lm, -⟩ := s.tripped_parts
  have early : (s.tripped.pwr.flush.any fun f => !f.orderly) = false := by
    rw [flush]
    cases h : s.pwr.flush with
    | none => rfl
    | some f => simp [free f h]
  have goes : (!s.tripped.flag F.SYSCTL_VINCFG_LM_EN || s.tripped.pwr.flush.any fun f => !f.orderly) = false := by rw [lm, en, early]; rfl
  unfold State.vinTrip
  rw [if_neg (by simp [off, held, pin, high]; omega)]
  exact if_neg (Bool.eq_false_iff.1 goes)

/-- Last Mile leaves a flush that is not orderly, with the pins safe, no exchange and an empty queue (R64, R101). -/
theorem State.lastMile_parts (s : State) (low : s.pinsLow) (bus : s.vinLow = true) :
    (∃ f, s.lastMile.pwr.flush = some f ∧ f.orderly = false ∧ f.sealed = false) ∧ s.lastMile.vinLow = true ∧ s.lastMile.pinsLow
      ∧ s.lastMile.flag F.SYSCTL_LMSTAT_FLUSH_ACTIVE = true ∧ s.lastMile.noExch = true ∧ s.lastMile.flc.queue = [] := by
  obtain ⟨bus1, low1⟩ := s.tripStop_parts low
  obtain ⟨bus2, low2, exch⟩ := s.tripStop.toFrc.tripEnd_parts (State.pinsLow_toFrc low1)
  rw [State.lastMile_eq]
  generalize s.tripStop.toFrc.tripEnd = u at bus2 low2 exch
  refine ⟨⟨_, rfl, rfl, rfl⟩, ?_, ?_, u.flag_setFld_one F.SYSCTL_LMSTAT_FLUSH_ACTIVE 0 (by decide) rfl, ?_, rfl⟩
  · exact (u.setFld_vinLow _ _ _).trans (bus2.trans ((State.toFrc_vinLow _).trans (bus1.trans bus)))
  · intro p hp
    exact (congrArg (Tab.getD ·.pins p 0) (u.setFld_txp _ _ _)).trans (low2 p hp)
  · exact (congrArg (· == 0) (u.fld_setFld_of_ne F.SYSCTL_LMSTAT_FLUSH_ACTIVE F.SYSCTL_PSTATE_RAISE_CAUSE 1 0 0 (by decide))).trans exch

/-! ### Arming and the orderly flush (R96, R100) -/

theorem State.writeReg_lmcfg (s : State) (cl n : Nat) (w : Word) : s.writeReg cl .SYSCTL_LMCFG n w = s.lmcfgWrite w := by
  rw [State.writeReg, if_pos (by decide)]; rfl

section
variable {who : Who} {s : State}

theorem exec_lmcfgArm (area : BitVec 5) (on : s.sysOn = true) (cl0 : s.rights who.val = [0]) :
    exec (.lmcfgArm who area) s = .next (s.lmcfgWrite (0x100#32 + area.zeroExtend 32)).done :=
  exec_of_write on cl0 (by rfl) (s.writeReg_lmcfg 0 0 _) rfl

theorem exec_lmcfgFlush (on : s.sysOn = true) (cl0 : s.rights who.val = [0]) :
    exec (.lmcfgFlush who) s = .next (s.lmcfgWrite (wordPut (s.reg .SYSCTL_LMCFG) 9 9 1)).done :=
  exec_of_write on cl0 (by rfl) (s.writeReg_lmcfg 0 0 _) rfl

end

/-- Where a slot lies, and whether its area is clear, comes from AREA and the boundary. -/
theorem State.areaOk_congr {s t : State} (area : t.fld F.SYSCTL_LMCFG_AREA = s.fld F.SYSCTL_LMCFG_AREA)
    (part : t.fld F.FLC_PART_B = s.fld F.FLC_PART_B) : t.areaOk = s.areaOk := by
  rw [State.areaOk, State.lmArea, area, State.partB, part]; rfl

theorem State.slotErased_congr {s t : State} (area : t.fld F.SYSCTL_LMCFG_AREA = s.fld F.SYSCTL_LMCFG_AREA) (flc : t.flc = s.flc) (k : Nat) :
    t.slotErased k = s.slotErased k := by
  have off : t.slotOff k = s.slotOff k := by rw [State.slotOff, State.lmArea, area]; rfl
  rw [State.slotErased, State.slotErased, State.slotHurt, State.slotHurt, off, flc]

/-- SLOT_READY and ARMED, in an area that is clear, with its first slot erased (R100). -/
theorem State.lmRefresh_ready (s : State) (area : s.areaOk = true) (slot : s.slotErased 0 = true) :
    s.lmRefresh.fld F.SYSCTL_LMSTAT_SLOT_READY ≠ 0 ∧ s.lmRefresh.flag F.SYSCTL_LMSTAT_ARMED = s.flag F.SYSCTL_LMCFG_ARM := by
  unfold State.lmRefresh
  rw [if_neg (by simp [area]), slot]
  extract_lets ready old data
  have some_ : ready ≠ 0 := by simp [ready, b2n]
  have width : ready % 4 = ready := Nat.mod_eq_of_lt (by simp only [ready, b2n]; split <;> split <;> omega)
  refine ⟨?_, (State.flag_setFlag _ F.SYSCTL_LMSTAT_ARMED _ 0 (by decide) rfl).trans (by simp [some_])⟩
  rw [State.setFlag, State.fld_setFld_of_disjoint _ _ _ _ _ _ (by decide) (.inl (by decide)),
    State.fld_setFld_of_disjoint _ _ _ _ _ _ (by decide) (.inl (by decide)), State.fld_setFld _ _ _ _ (by decide) (by decide)]
  exact fun h => some_ (width.symm.trans h)

theorem State.lmRefresh_keeps (s : State) : s.lmRefresh.flc = s.flc ∧ s.lmRefresh.pwr = s.pwr
    ∧ ∀ f : Fld, f.reg ≠ .SYSCTL_LMSTAT → s.lmRefresh.fld f = s.fld f := by
  refine ⟨?_, ?_, s.fld_lmRefresh⟩ <;>
  · unfold State.lmRefresh
    split <;> simp [State.setFlag]

/-- AREA takes a value, and with it SLOT_DATA where it is a new one (SYSCTL_LMCFG). -/
def State.areaSet (s : State) (area : Nat) : State :=
  if area = s.lmArea then s else (s.setFld F.SYSCTL_LMCFG_AREA area).setFld F.SYSCTL_LMSTAT_SLOT_DATA 0

theorem State.areaSet_parts (s : State) {area : Nat} (h : area < 32) : (s.areaSet area).fld F.SYSCTL_LMCFG_AREA = area
    ∧ (s.areaSet area).fld F.FLC_PART_B = s.fld F.FLC_PART_B ∧ (s.areaSet area).flc = s.flc ∧ (s.areaSet area).mem = s.mem := by
  unfold State.areaSet
  split
  · next same => exact ⟨same.symm, rfl, rfl, rfl⟩
  · refine ⟨?_, ?_, by simp, by simp⟩
    · rw [State.fld_setFld_of_ne _ _ _ _ _ _ (by decide), State.fld_setFld _ _ _ _ (by decide) (by decide), Nat.mod_eq_of_lt (by exact h)]
    · rw [State.fld_setFld_of_ne _ _ _ _ _ _ (by decide), State.fld_setFld_of_ne _ _ _ _ _ _ (by decide)]

/-- A state with the flash of another, and an area that is clear and erased there, finds it so too. -/
theorem State.slot_fits {s t : State} {area : Nat} (h : area < 32) (clear : (s.setFld F.SYSCTL_LMCFG_AREA area).areaOk = true)
    (erased : (s.setFld F.SYSCTL_LMCFG_AREA area).slotErased 0 = true) (at_ : t.fld F.SYSCTL_LMCFG_AREA = area)
    (part : t.fld F.FLC_PART_B = s.fld F.FLC_PART_B) (flc : t.flc = s.flc) : t.areaOk = true ∧ t.slotErased 0 = true := by
  have area' : t.fld F.SYSCTL_LMCFG_AREA = (s.setFld F.SYSCTL_LMCFG_AREA area).fld F.SYSCTL_LMCFG_AREA :=
    at_.trans ((s.fld_setFld _ _ _ (by decide) (by decide)).trans (Nat.mod_eq_of_lt h)).symm
  have part' : t.fld F.FLC_PART_B = (s.setFld F.SYSCTL_LMCFG_AREA area).fld F.FLC_PART_B :=
    part.trans (s.fld_setFld_of_ne _ _ _ _ _ (by decide)).symm
  exact ⟨(State.areaOk_congr area' part').trans clear, (State.slotErased_congr area' (flc.trans (s.setFld_flc _ _ _).symm) 0).trans erased⟩

/-- A write that arms, in a clear area whose first slot is erased (R100). -/
theorem State.lmcfgWrite_arms (s : State) {w : Word} {area : Nat} (low : bits w.toNat 4 0 = area) (arm : bit w.toNat 8 = true)
    (noFlush : bit w.toNat 9 = false) (h : area < 32) (unarmed : s.nowOrWas (fun u => u.flag F.SYSCTL_LMSTAT_ARMED) = false)
    (clear : (s.setFld F.SYSCTL_LMCFG_AREA area).areaOk = true) (erased : (s.setFld F.SYSCTL_LMCFG_AREA area).slotErased 0 = true) :
    (s.lmcfgWrite w).flag F.SYSCTL_LMCFG_ARM = true ∧ (s.lmcfgWrite w).flag F.SYSCTL_LMSTAT_ARMED = true
      ∧ (s.lmcfgWrite w).fld F.SYSCTL_LMCFG_AREA = area ∧ (s.lmcfgWrite w).mem = s.mem := by
  obtain ⟨areaU, partU, flcU, memU⟩ := s.areaSet_parts h
  have fits {t : State} (at_ : t.fld F.SYSCTL_LMCFG_AREA = area) (part : t.fld F.FLC_PART_B = s.fld F.FLC_PART_B) (flc : t.flc = s.flc) :=
    State.slot_fits h clear erased at_ part flc
  obtain ⟨okU, slotU⟩ := fits areaU partU flcU
  obtain ⟨ready, -⟩ := (s.areaSet area).lmRefresh_ready okU slotU
  obtain ⟨flc2, -, flds2⟩ := (s.areaSet area).lmRefresh_keeps
  have ok2 := (fits ((flds2 _ (by decide)).trans areaU) ((flds2 _ (by decide)).trans partU) (flc2.trans flcU)).1
  have run : s.lmcfgWrite w = ((s.areaSet area).lmRefresh.setFld F.SYSCTL_LMCFG_ARM 1).lmRefresh := by
    simp only [State.lmcfgWrite, low, arm, noFlush, unarmed, Bool.false_eq_true, if_false, if_true, false_and]
    rw [← State.areaSet, if_neg (by simp [ready, ok2])]
  obtain ⟨ok3, slot3⟩ := fits (t := (s.areaSet area).lmRefresh.setFld F.SYSCTL_LMCFG_ARM 1)
    ((State.fld_setFld_of_disjoint _ _ _ _ _ _ (by decide) (.inl (by decide))).trans ((flds2 _ (by decide)).trans areaU))
    ((State.fld_setFld_of_ne _ _ _ _ _ _ (by decide)).trans ((flds2 _ (by decide)).trans partU))
    ((State.setFld_flc _ _ _ _).trans (flc2.trans flcU))
  rw [run]
  have armed := State.flag_setFld_one (s.areaSet area).lmRefresh F.SYSCTL_LMCFG_ARM 0 (by decide) rfl
  have area3 := State.fld_setFld_of_disjoint (s.areaSet area).lmRefresh F.SYSCTL_LMCFG_ARM F.SYSCTL_LMCFG_AREA 1 0 0 (by decide) (.inl (by decide))
  have mem3 : ((s.areaSet area).lmRefresh.setFld F.SYSCTL_LMCFG_ARM 1).lmRefresh.mem = s.mem := by simp [memU]
  generalize (s.areaSet area).lmRefresh.setFld F.SYSCTL_LMCFG_ARM 1 = v at ok3 slot3 armed area3 mem3 ⊢
  exact ⟨(congrArg (· != 0) (v.fld_lmRefresh F.SYSCTL_LMCFG_ARM (by decide))).trans armed, ((v.lmRefresh_ready ok3 slot3).2).trans armed,
    (v.fld_lmRefresh F.SYSCTL_LMCFG_AREA (by decide)).trans (area3.trans ((flds2 _ (by decide)).trans areaU)), mem3⟩

/-- A write that asks for a flush while Last Mile is armed starts an orderly one, after what else it does (R96). -/
theorem State.lmcfgWrite_flushes (s : State) {w : Word} (low : bits w.toNat 4 0 = s.lmArea) (flush : bit w.toNat 9 = true)
    (armed : s.flag F.SYSCTL_LMSTAT_ARMED = true) (free : s.pwr.flush = none) :
    ∃ u : State, s.lmcfgWrite w = u.flushBegin true ∧ u.mem = s.mem := by
  simp only [State.lmcfgWrite, low, flush, armed, free, if_true, Option.isNone_none, and_self]
  refine ⟨_, rfl, ?_⟩
  rw [State.lmRefresh_mem]
  (repeat' split) <;> simp

/-! ### What a flush writes, and the park (R101, R103, R106) -/

theorem exec_flushWriteSlot (s : State) : exec .flushWriteSlot s = .next s.flushWrite.done := by rfl
theorem exec_flushPark (s : State) : exec .flushPark s = .next s.flushPark.done := by rfl
theorem exec_flushSealTimeout (n : Half) (s : State) : exec (.flushSealTimeout n) s = .next (s.sealTimeout n.toNat).done := by rfl

theorem slotHeader_length (seq sec tick count tail head len : Nat) : (slotHeader seq sec tick count tail head len).length = 32 := by
  simp [slotHeader, leBytes_length, zeros]

theorem State.byte_writeNative_outside (s : State) (off : Nat) (b : Bytes) {a : Nat} (h : a < flashBase + off ∨ flashBase + off + b.length ≤ a) :
    (s.writeNative off b).byte a = s.byte a := by
  have mem : (s.writeNative off b).mem = (s.setBytes (flashBase + off) b).mem := State.setMarks_mem _ _ _ _
  rw [State.byte, mem, ← State.byte, State.byte_setBytes_outside _ _ _ _ h]

theorem State.writeSlot_clean (s : State) (nt : Nat) (limit : Option Nat) (clean : s.journalDirty = false) : s.writeSlot nt limit = s := by
  unfold State.writeSlot
  split
  · rfl
  · exact if_pos (by simp [clean])

/-- A sealed flush writes nothing outside the header, the data and the seal of its slot (R101). -/
theorem State.byte_writeSlot_outside (s : State) (nt : Nat) {k a : Nat} (slot : s.flushSlot = some k) (dirty : s.journalDirty = true)
    (h : a < flashBase + s.slotOff k ∨ flashBase + s.slotOff k + 36 + s.slotData.length ≤ a) : (s.writeSlot nt none).byte a = s.byte a := by
  unfold State.writeSlot
  rw [slot]
  dsimp only
  rw [if_neg (by simp [dirty]), State.byte_writeNative_outside _ _ _ (by rw [leBytes_length]; omega),
    State.byte_writeNative_outside _ _ _ (by omega), State.byte_writeNative_outside _ _ _ (by rw [slotHeader_length]; omega)]

/-- A flush that is not orderly is sealed once its slot is written (R101). -/
theorem State.flushWrite_seals (s : State) {f : Flush} (runs : s.pwr.flush = some f) (hard : f.orderly = false) (unsealed : f.sealed = false)
    (quiet : s.flashQuiet = true) :
    s.flushWrite = (s.writeSlot f.tripNt none).onPwr fun p => { p with flush := some { f with sealed := true } } := by
  unfold State.flushWrite
  rw [runs]
  dsimp only
  rw [if_neg (by simp [unsealed, quiet]), if_neg (by simp [hard])]

theorem State.flushPark_sealed (s : State) {f : Flush} (runs : s.pwr.flush = some f) (hard : f.orderly = false) (isSealed : f.sealed = true) :
    s.flushPark = (s.park f).parkedPin s.pwr.pinFlush := by
  unfold State.flushPark
  rw [runs]
  exact if_neg (by simp [hard, isSealed])

theorem State.powerDown_off (s : State) : s.powerDown.pwr.off = false := by
  have keep (u : State) : u.backupAfter.pwr = u.pwr := by
    rw [State.backupAfter, State.chargeStop, State.setFld_pwr, State.ctlCoreLost_pwr, State.setFld_pwr, State.setFld_pwr]
  rw [State.powerDown_eq, keep]
  rfl

/-- What the loss of power at a park leaves, with the time that the flush took (R101). -/
def State.parkDown (s : State) (f : Flush) : State :=
  (s.setFld F.SYSCTL_LMSTAT_LAST_TIME (min 65535 ((s.cyc - f.tripCyc) / 1000))).powerDown

/-- The marks of a park in HIBERNATE, with the trip level and the GPIO levels that it keeps (R65, R106). -/
def State.parkMarks (s : State) (vincfg : Word) (gpio : Tab Nat) : State :=
  ((s.setFld F.SYSCTL_PSTATE_CUR 3).setReg .SYSCTL_VINCFG 0 vincfg).onPwr fun p => { p with parked := true, gpioLatch := gpio }

theorem State.park_vbak (s : State) (f : Flush) (vbak : s.pwr.vbak = true) : s.park f =
    (s.parkDown f).parkMarks (s.reg .SYSCTL_VINCFG) (if s.level = 2 then s.pwr.gpioLatch else s.gpioLevels) := if_pos vbak

theorem State.parkMarks_cur (s : State) (vincfg : Word) (gpio : Tab Nat) : (s.parkMarks vincfg gpio).cur = 3 := by
  rw [State.parkMarks, State.cur, State.fld_onPwr, State.fld_congr (State.reg_setReg_of_ne _ _ _ _ _ _ (.inl (by decide)))]
  exact s.setFld_cur 3

theorem State.parkMarks_off (s : State) (vincfg : Word) (gpio : Tab Nat) : (s.parkMarks vincfg gpio).pwr.off = s.pwr.off := by
  rw [State.parkMarks, State.onPwr_pwr, State.setReg_pwr, State.setFld_pwr]

theorem State.park_parked (s : State) (f : Flush) : (s.park f).pwr.parked = true := by
  unfold State.park
  split <;> rfl

/-- With VBAK present the device parks in HIBERNATE (R106). -/
theorem State.park_hibernates (s : State) (f : Flush) (vbak : s.pwr.vbak = true) : (s.park f).cur = 3 ∧ (s.park f).pwr.off = false := by
  rw [s.park_vbak f vbak]
  exact ⟨State.parkMarks_cur _ _ _, (State.parkMarks_off _ _ _).trans (State.powerDown_off _)⟩

/-- Without VBAK the device parks in OFF (R106). -/
theorem State.park_off (s : State) (f : Flush) (vbak : s.pwr.vbak = false) : (s.park f).pwr.off = true := by
  unfold State.park
  rw [if_neg (by simp [vbak])]
  rfl

theorem State.parkedPin_high (s : State) : s.parkedPin false = s := rfl

theorem State.parkedPin_off (s : State) (low : Bool) (off : s.pwr.off = true) : s.parkedPin low = s := if_neg (by simp [off])

theorem State.parkedPin_low (s : State) (on : s.pwr.off = false) : s.parkedPin true = s.warmBoot [F.SYSCTL_RSTCAUSE_PIN] := if_pos (by simp [on])

/-- Without a seal in time, the device parks with the slot unsealed (R103). -/
theorem State.sealTimeout_parks (s : State) {f : Flush} (n : Nat) (runs : s.pwr.flush = some f) (hard : f.orderly = false)
    (unsealed : f.sealed = false) (pin : s.pwr.pinFlush = false) :
    (s.sealTimeout n).pwr.parked = true ∧ (s.sealTimeout n).pwr.unsealed = (s.journalDirty && s.flushSlot.isSome) := by
  have run : s.sealTimeout n =
      ((s.writeSlot f.tripNt (some n)).park f).onPwr fun p => { p with unsealed := s.journalDirty && s.flushSlot.isSome } := by
    unfold State.sealTimeout
    rw [runs]
    dsimp only
    rw [if_neg (by simp [hard, unsealed]), pin, State.parkedPin_high]
  rw [run]
  exact ⟨State.park_parked _ f, rfl⟩

/-! ### The statement -/

/-- The write that arms names its area, asks for ARM and for no flush (R100). -/
theorem bits_armWord (area : BitVec 5) : bits (0x100#32 + area.zeroExtend 32).toNat 4 0 = area.toNat
    ∧ bit (0x100#32 + area.zeroExtend 32).toNat 8 = true ∧ bit (0x100#32 + area.zeroExtend 32).toNat 9 = false := by
  have word : (0x100#32 + area.zeroExtend 32).toNat = 256 + area.toNat := by
    have := area.isLt
    rw [BitVec.toNat_add, BitVec.zeroExtend_eq_setWidth, BitVec.toNat_setWidth]
    simp only [BitVec.toNat_ofNat]
    omega
  have := area.isLt
  rw [word]
  refine ⟨?_, ?_, ?_⟩
  · simp only [bits]; omega
  · simp only [bit, beq_iff_eq]; omega
  · simp only [bit, beq_eq_false_iff_ne]; omega

/-- Settles O38: each command by the rule of its event or of its write. -/
theorem lastMile : Obligations.LastMile := by
  unfold Obligations.LastMile
  intro who area n s ends
  refine ⟨fun bus => exec_of_effect (exec_vinSenseTrip s) (if_pos (by simp [bus])), fun level off held pin high en free => ?trip,
    fun on cl0 => ⟨fun unarmed clear erased => ⟨_, exec_lmcfgArm area on cl0, ?arm⟩, fun armed free => ?orderly⟩,
    fun f runs hard => ⟨fun unsealed quiet => ⟨fun clean => ?clean, fun k slot dirty => ?sealed⟩,
      fun isSealed => ⟨fun vbak low => ⟨?low, s.park_hibernates f vbak⟩, fun vbak high => ?hibernate, fun vbak => ?off⟩,
      fun unsealed pin => ⟨_, exec_flushSealTimeout n s, s.sealTimeout_parks n.toNat runs hard unsealed pin⟩⟩⟩
  case trip =>
    obtain ⟨-, bus, -, low⟩ := s.tripped_parts
    obtain ⟨⟨f, flush, hard, unsealed⟩, bus', low', rest⟩ := s.tripped.lastMile_parts low bus
    exact ⟨_, f, exec_of_effect (exec_vinSenseTrip s) (s.vinTrip_runs level off held pin high en free), flush, hard, unsealed, bus', low', rest⟩
  case arm =>
    obtain ⟨low, arm, noFlush⟩ := bits_armWord area
    exact s.lmcfgWrite_arms low arm noFlush area.isLt unarmed clear erased
  case orderly =>
    have low : bits (wordPut (s.reg .SYSCTL_LMCFG) 9 9 1).toNat 4 0 = s.lmArea := bits_wordPut_of_disjoint _ _ (by decide) (.inl (by decide))
    obtain ⟨u, run, mem⟩ := s.lmcfgWrite_flushes low (bit_wordPut_same _ 9 true (by decide)) armed free
    exact ⟨_, _, exec_of_effect (exec_lmcfgFlush on cl0) run, rfl, rfl, rfl, (u.setFld_mem _ _ _).trans mem⟩
  case clean =>
    refine exec_of_effect (exec_flushWriteSlot s) ((s.flushWrite_seals runs hard unsealed quiet).trans ?_)
    rw [s.writeSlot_clean _ _ clean]
    rfl
  case sealed =>
    exact ⟨_, exec_of_effect (exec_flushWriteSlot s) (s.flushWrite_seals runs hard unsealed quiet), rfl,
      fun a outside => s.byte_writeSlot_outside f.tripNt slot dirty outside⟩
  case low =>
    refine exec_of_effect (exec_flushPark s) ((s.flushPark_sealed runs hard isSealed).trans ?_)
    rw [low, State.parkedPin_low _ (s.park_hibernates f vbak).2]
  case hibernate =>
    obtain ⟨cur, on⟩ := s.park_hibernates f vbak
    refine ⟨_, exec_of_effect (exec_flushPark s) ((s.flushPark_sealed runs hard isSealed).trans ?_), cur, s.park_parked f, on⟩
    rw [high, State.parkedPin_high]
  case off =>
    have gone := s.park_off f vbak
    exact ⟨_, exec_of_effect (exec_flushPark s) ((s.flushPark_sealed runs hard isSealed).trans (State.parkedPin_off _ _ gone)), gone, s.park_parked f⟩

end Sys2Proof.Machine
end

section
/-! The line ports at work: blocks, units, sleep, the wake of a peer and time transfer (R283 to R305). -/

namespace Sys2Proof.Machine

/-! ### Registers of a port -/

/-- Only a register's own value and the value held for its boundary make the value in force. -/
theorem State.inReg_congr {s t : State} {r : RegName} {n : Nat} (reg : t.reg r n = s.reg r n) (held : t.held = s.held) : t.inReg r n = s.inReg r n := by
  rw [State.inReg, State.inReg, reg, held]

theorem State.inFld_congr {s t : State} {f : Fld} {n : Nat} (reg : t.reg f.reg n = s.reg f.reg n) (held : t.held = s.held) :
    t.inFld f n = s.inFld f n := by rw [State.inFld, State.inReg_congr reg held, State.inFld]

theorem wordPut_whole (w : Word) (v : Nat) : wordPut w 31 0 v = BitVec.ofNat 32 v := by
  refine BitVec.eq_of_getLsbD_eq fun j hj => ?_
  rw [getLsbD_wordPut _ _ _ _ _ (by decide), if_pos ⟨Nat.zero_le j, by omega⟩, BitVec.getLsbD_ofNat]
  simp [hj]

/-- A count goes up by one, and every other register stays (LPn_CNT_k). -/
theorem State.reg_lpCount (s : State) (p k : Nat) (r : RegName) (n : Nat) :
    (s.lpCount p k).reg r n = if r = .LP_CNT ∧ n = p * 8 + k then s.reg .LP_CNT (p * 8 + k) + 1 else s.reg r n := by
  rw [State.lpCount, State.bumpWrap, State.reg_setFld_ite]
  refine if_congr Iff.rfl ?_ rfl
  rw [wordPut_whole]
  apply BitVec.eq_of_toNat_eq
  simp [State.fld, bits]

theorem State.reg_lpCount_of_ne (s : State) (p k : Nat) {r : RegName} (h : r ≠ .LP_CNT) (n : Nat) : (s.lpCount p k).reg r n = s.reg r n := by
  rw [State.reg_lpCount, if_neg (fun e => h e.1)]

theorem State.lpCount_lp (s : State) (p k : Nat) : (s.lpCount p k).lp = s.lp := s.setFld_lp _ _ _
theorem State.lpCount_held (s : State) (p k : Nat) : (s.lpCount p k).held = s.held := s.setFld_held _ _ _
theorem State.lpCount_line (s : State) (p k q : Nat) : (s.lpCount p k).line q = s.line q := by rw [State.line, State.lpCount_lp, State.line]

theorem State.onLine_self (s : State) (p : Nat) (f : LinePort → LinePort) : (s.onLine p f).line p = f (s.line p) := by
  rw [State.line_onLine, if_pos rfl]

theorem State.lpState_congr {s t : State} {p : Nat} (h : t.reg .LP_STAT p = s.reg .LP_STAT p) : t.lpState p = s.lpState p := State.fld_congr h

theorem State.lpState_setFld (s : State) {hi lo : Nat} (v p q : Nat) (hhi : hi < 32) (h : 3 < lo) :
    (s.setFld ⟨.LP_STAT, hi, lo⟩ v p).lpState q = s.lpState q :=
  s.fld_setFld_of_disjoint _ F.LP_STAT_STATE v p q hhi (.inl h)

/-! ### A port moves to a state (R287) -/

/-- Leaving UP touches no register. -/
theorem State.lpLeaveUp_regs (s : State) (p : Nat) : (s.lpLeaveUp p).regs = s.regs := by
  unfold State.lpLeaveUp
  split
  · rfl
  · simp [State.unitsRestart, State.publish_regs]

/-- A move changes its port's STATE and UP, and its quality, alone of the registers. -/
theorem State.reg_lpGo (s : State) (p st : Nat) {r : RegName} (h : r ≠ .LP_QUAL) (n : Nat) :
    (s.lpGo p st).reg r n = ((s.setFld F.LP_STAT_STATE st p).setFlag F.LP_STAT_UP (st == lpUpState) p).reg r n := by
  unfold State.lpGo
  extract_lets s1 s2 s3
  have r1 : s1.regs = s.regs := by
    unfold s1
    split
    · rfl
    · exact s.lpLeaveUp_regs p
  have r2 : s2.reg r n = ((s.setFld F.LP_STAT_STATE st p).setFlag F.LP_STAT_UP (st == lpUpState) p).reg r n := by
    simp only [s2, State.setFlag, State.reg_setFld_ite, State.reg_congr r1]
  have r3 : s3.regs = s2.regs := by
    unfold s3
    split <;> rfl
  split
  · rw [State.reg_congr r3, r2]
  · rw [State.reg_setReg_of_ne _ _ _ _ _ _ (.inl h), State.reg_congr r3, r2]

theorem State.lpGo_state (s : State) (p : Nat) {st : Nat} (h : st < 16) : (s.lpGo p st).lpState p = st := by
  rw [State.lpState, State.fld_congr (s.reg_lpGo p st (by decide) p), State.setFlag,
    State.fld_setFld_of_disjoint _ _ _ _ _ _ (by decide) (.inl (by decide)), State.fld_setFld _ _ _ _ (by decide) (by decide)]
  exact Nat.mod_eq_of_lt h

theorem State.reg_lpGo_of_ne (s : State) (p st : Nat) {r : RegName} (stat : r ≠ .LP_STAT) (qual : r ≠ .LP_QUAL) (n : Nat) :
    (s.lpGo p st).reg r n = s.reg r n := by
  rw [s.reg_lpGo p st qual, State.setFlag, State.reg_setFld_ite, if_neg (fun e => stat e.1), State.reg_setFld_ite, if_neg (fun e => stat e.1)]

/-! ### The value of a field at its boundary (R9, R12) -/

@[simp] theorem State.boundaryOf_reg (s : State) (f : Fld) (n : Nat) (r : RegName) (m : Nat) : (s.boundaryOf f n).reg r m = s.reg r m := by
  unfold State.boundaryOf
  split
  · rfl
  · dsimp only
    split <;> rfl

@[simp] theorem State.boundaryOf_lp (s : State) (f : Fld) (n : Nat) : (s.boundaryOf f n).lp = s.lp := by
  unfold State.boundaryOf
  split
  · rfl
  · dsimp only
    split <;> rfl

/-- What waits for a boundary after the one of a field: nothing of its register, or a word with the field's own value. -/
theorem State.held_boundaryOf (s : State) (f : Fld) (n : Nat) : Tab.find (s.boundaryOf f n).held (f.reg.key n) = none
    ∨ ∃ h, Tab.find (s.boundaryOf f n).held (f.reg.key n) = some (wordPut h f.hi f.lo (s.fld f n)) := by
  unfold State.boundaryOf
  split
  · next none => exact .inl none
  · next h _ =>
    dsimp only
    split
    · exact .inl (by rw [State.boundary, Tab.find_del, if_pos rfl])
    · exact .inr ⟨h, by rw [Tab.find_put, if_pos rfl]⟩

theorem getLsbD_wordPut_fld (s : State) (f : Fld) (n : Nat) (h : Word) {j : Nat} (hhi : f.hi < 32) (lo : f.lo ≤ j) (hi : j ≤ f.hi) :
    (wordPut h f.hi f.lo (s.fld f n)).getLsbD j = (s.reg f.reg n).getLsbD j := by
  rw [getLsbD_wordPut _ _ _ _ _ hhi, if_pos ⟨lo, hi⟩, State.fld, bits, Nat.testBit_mod_two_pow, Nat.testBit_div_two_pow,
    Nat.sub_add_cancel lo, BitVec.getLsbD]
  simp [show j - f.lo < f.hi + 1 - f.lo by omega]

theorem bits_congr {v w : Word} {hi lo : Nat} (h : ∀ j, lo ≤ j → j ≤ hi → v.getLsbD j = w.getLsbD j) :
    bits v.toNat hi lo = bits w.toNat hi lo := by
  apply Nat.eq_of_testBit_eq
  intro i
  simp only [bits, Nat.testBit_mod_two_pow, Nat.testBit_div_two_pow]
  by_cases inside : i < hi + 1 - lo
  · rw [← BitVec.getLsbD, ← BitVec.getLsbD, h _ (by omega) (by omega)]
  · simp [inside]

/-- At its boundary, a field's last written value is in force. -/
theorem State.inFld_boundaryOf (s : State) (f : Fld) (n : Nat) (hhi : f.hi < 32) : (s.boundaryOf f n).inFld f n = s.fld f n := by
  rw [State.inFld, State.inReg, State.boundaryOf_reg]
  rcases s.held_boundaryOf f n with none | ⟨h, waits⟩
  · rw [none, State.fld]
  · rw [waits]
    refine bits_congr (w := s.reg f.reg n) fun j lo hi => ?_
    rw [BitVec.getLsbD_or, BitVec.getLsbD_and, BitVec.getLsbD_and, BitVec.getLsbD_not, getLsbD_wordPut_fld s f n h hhi lo hi]
    simp only [show j < 32 by omega, decide_true, Bool.true_and]
    cases (s.reg f.reg n).getLsbD j <;> cases (regRow f.reg).boundary.getLsbD j <;> rfl

/-! ### Sleep and wake (R287, R299) -/

section
variable {s : State}

theorem exec_dozing {p : Fin 2} (on : s.sysOn = true) : exec (.dozing p) s = .next (s.lpHearDozing p.val).done :=
  exec_of_effect (by rfl) (s.powered_on _ on)

theorem exec_lineWakePatternSent {p : Fin 2} (on : s.sysOn = true) : exec (.lineWakePatternSent p) s = .next (s.lpWakeSent p.val).done :=
  exec_of_effect (by rfl) (s.powered_on _ on)

theorem exec_wakeWaitExpiry {p : Fin 2} (on : s.sysOn = true) : exec (.wakeWaitExpiry p) s = .next (s.lpWakeExpiry p.val).done :=
  exec_of_effect (by rfl) (s.powered_on _ on)

end

theorem State.writeReg_lpCtrl (s : State) (cl n : Nat) (w : Word) : s.writeReg cl .LP_CTRL n w = s.lpCtrlWrite n w := by
  rw [State.writeReg, if_neg (by decide), if_neg (by decide), if_neg (by decide), if_neg (by decide), if_neg (by decide), State.radioWrite]

theorem State.lpCtrlWrite_wake (s : State) (p : Nat) : s.lpCtrlWrite p 4#32 = s.lpWakePeer p := rfl
theorem State.lpCtrlWrite_clear (s : State) (p : Nat) : s.lpCtrlWrite p 2#32 = s.lpClearCounts p := rfl

section
variable {who : Who} {s : State}

theorem exec_lpnWakePeer {p : Fin 2} (on : s.sysOn = true) (cl0 : s.rights who.val = [0]) :
    exec (.lpnWakePeer who p) s = .next (s.lpWakePeer p.val).done :=
  exec_of_write on cl0 (by rfl) (s.writeReg_lpCtrl 0 p.val 4#32) (s.lpCtrlWrite_wake p.val)

theorem exec_lpnClrCnt {p : Fin 2} (on : s.sysOn = true) (cl0 : s.rights who.val = [0]) :
    exec (.lpnClrCnt who p) s = .next (s.lpClearCounts p.val).done :=
  exec_of_write on cl0 (by rfl) (s.writeReg_lpCtrl 0 p.val 2#32) (s.lpCtrlWrite_clear p.val)

end

/-- The state of a port does not depend on what the port holds. -/
theorem State.lpState_onLine (s : State) (p q : Nat) (f : LinePort → LinePort) : (s.onLine p f).lpState q = s.lpState q := rfl

theorem State.lpWakePeer_state (s : State) {p : Nat} (quiet : s.lpState p = lpQuiet) : (s.lpWakePeer p).lpState p = lpWake := by
  unfold State.lpWakePeer
  rw [if_pos quiet]
  exact (State.lpState_onLine _ _ _ _).trans (State.lpGo_state _ p (by decide))

theorem foldOver_setReg_zero (r : RegName) (i : Nat → Nat) (l : List Nat) (s : State) (r' : RegName) (n : Nat) :
    (foldOver (fun (k : Nat) (t : State) => t.setReg r (i k) 0) l s).reg r' n = if r' = r ∧ n ∈ l.map i then 0 else s.reg r' n := by
  induction l generalizing s with
  | nil => simp
  | cons k l ih =>
    rw [foldOver_cons, ih, State.reg_setReg_ite]
    by_cases later : n ∈ l.map i <;> by_cases here : n = i k <;> by_cases name : r' = r <;> simp [later, here, name]

/-- A clear of the counts puts the port's own eight to 0, and no other register changes (LPn_CNT_k). -/
theorem State.lpClearCounts_parts (s : State) (p : Nat) : (∀ k, k < 8 → (s.lpClearCounts p).reg .LP_CNT (p * 8 + k) = 0)
    ∧ ∀ r n, (r, n / 8) ≠ (.LP_CNT, p) → (s.lpClearCounts p).reg r n = s.reg r n := by
  have at_ (r : RegName) (n : Nat) : (s.lpClearCounts p).reg r n = if r = .LP_CNT ∧ n ∈ (List.range 8).map (p * 8 + ·) then 0 else s.reg r n :=
    foldOver_setReg_zero .LP_CNT (p * 8 + ·) _ s r n
  refine ⟨fun k hk => ?_, fun r n other => ?_⟩
  · rw [at_, if_pos ⟨rfl, List.mem_map_of_mem (List.mem_range.2 hk)⟩]
  · rw [at_, if_neg]
    rintro ⟨rfl, own⟩
    obtain ⟨k, hk, rfl⟩ := List.mem_map.1 own
    exact other (by rw [show (p * 8 + k) / 8 = p by have := List.mem_range.1 hk; omega])

/-- DOZING makes the port QUIET (R299). -/
theorem State.lpHearDozing_quiet (s : State) {p : Nat} (at_ : s.lpState p = lpDetect ∨ s.lpState p = lpUpState) :
    (s.lpHearDozing p).lpState p = lpQuiet ∧ ((s.lpHearDozing p).line p).train = none := by
  unfold State.lpHearDozing
  rw [if_pos at_]
  exact ⟨(State.lpState_onLine _ _ _ _).trans (s.lpGo_state p (by decide)), by rw [State.onLine_self]⟩

/-- Outside the states of a wake, or without a wake, its end does nothing (R299). -/
theorem State.lpWakeExpiry_idle (s : State) {p : Nat} (h : (s.line p).wakes = 0 ∨ s.lpState p = lpOff ∨ s.lpState p = lpQuiet
    ∨ s.lpState p = lpUpState ∨ s.lpState p = lpBeacon) : s.lpWakeExpiry p = s := by
  unfold State.lpWakeExpiry
  refine if_pos ?_
  rcases h with none | off | quiet | up | beacon
  · exact .inr none
  · exact .inl (by rw [off]; decide)
  · exact .inl (by rw [quiet]; decide)
  · exact .inl (by rw [up]; decide)
  · exact .inl (by rw [beacon]; decide)

/-- The states in which a wake waits for UP (R299). -/
def State.wakeWaits (s : State) (p : Nat) : Prop :=
  (s.lpState p = lpDetect ∨ (lpHalfM ≤ s.lpState p ∧ s.lpState p ≤ lpCheck)) ∧ 0 < (s.line p).wakes

theorem State.wakeWaits_goes {s : State} {p : Nat} (h : s.wakeWaits p) :
    ¬((s.lpState p ≠ lpDetect ∧ (s.lpState p < lpHalfM ∨ lpCheck < s.lpState p)) ∨ (s.line p).wakes = 0) := by
  obtain ⟨at_, some_⟩ := h
  rintro (⟨detect, outside⟩ | none)
  · obtain ⟨low, high⟩ := at_.resolve_left detect
    omega
  · omega

/-- With a try left, the wake pattern goes out again (R299). -/
theorem State.lpWakeExpiry_again (s : State) {p : Nat} (h : s.wakeWaits p) (left : (s.line p).wakes < Nat.max 1 (s.inFld F.LP_WAKECFG_WAKE_TRIES p)) :
    (s.lpWakeExpiry p).lpState p = lpWake := by
  unfold State.lpWakeExpiry
  dsimp only
  rw [if_neg (State.wakeWaits_goes h), if_pos left]
  exact (State.lpState_onLine _ _ _ _).trans (s.lpGo_state p (by decide))

/-- After the last try the port is QUIET, with WAKE_FAIL (R299). -/
theorem State.lpWakeExpiry_last (s : State) {p : Nat} (h : s.wakeWaits p) (last : Nat.max 1 (s.inFld F.LP_WAKECFG_WAKE_TRIES p) ≤ (s.line p).wakes) :
    (s.lpWakeExpiry p).lpState p = lpQuiet ∧ (s.lpWakeExpiry p).flag F.LP_STAT_WAKE_FAIL p = true := by
  unfold State.lpWakeExpiry
  dsimp only
  rw [if_neg (State.wakeWaits_goes h), if_neg (Nat.not_lt.2 last)]
  exact ⟨(State.lpState_onLine _ _ _ _).trans ((State.lpState_setFld _ 1 p p (by decide) (by decide)).trans (s.lpGo_state p (by decide))),
    (s.lpGo p lpQuiet).flag_setFld_one F.LP_STAT_WAKE_FAIL p (by decide) rfl⟩

/-! ### The wake pattern sent: DETECT (R287, R299) -/

/-- What the bring-up of a port reads of the ports: their states, and how often each has sent the wake pattern. -/
def State.portView (s : State) : (Nat → Word) × (Nat → Nat) := (fun p => s.reg .LP_STAT p, fun p => (s.line p).wakes)

theorem State.lpState_of_view {s t : State} (h : t.portView = s.portView) (p : Nat) : t.lpState p = s.lpState p :=
  State.lpState_congr (congrFun (congrArg (·.1) h) p)

theorem State.wakes_of_view {s t : State} (h : t.portView = s.portView) (p : Nat) : (t.line p).wakes = (s.line p).wakes :=
  congrFun (congrArg (·.2) h) p

theorem State.onLine_view (s : State) (p : Nat) (f : LinePort → LinePort) (h : ∀ x, (f x).wakes = x.wakes) : (s.onLine p f).portView = s.portView := by
  refine Prod.ext rfl (funext fun q => ?_)
  show ((s.onLine p f).line q).wakes = (s.line q).wakes
  rw [State.line_onLine]
  split
  · next e => rw [h, e]
  · rfl

theorem State.boundaryOf_view (s : State) (f : Fld) (n : Nat) : (s.boundaryOf f n).portView = s.portView := by
  simp only [State.portView, State.boundaryOf_reg, State.line, State.boundaryOf_lp]

theorem State.linkBoundary_view (s : State) (p : Nat) : (s.linkBoundary p).portView = s.portView :=
  (State.boundaryOf_view _ _ _).trans ((State.boundaryOf_view _ _ _).trans (State.boundaryOf_view _ _ _))

theorem State.putPkt_view (s : State) (t : Tp) (k : Pkt) : (s.putPkt t k).portView = s.portView := by
  unfold State.putPkt
  split
  · exact State.onLine_view _ _ (fun x => { x with own := x.own ++ _ }) fun _ => rfl
  · rfl

theorem State.answer_view (s : State) (h : Hdr) (op fl : Nat) (st : Status) (par data : Bytes) :
    (s.answer h op fl st par data).portView = s.portView := by
  unfold State.answer
  dsimp only
  (repeat' split) <;> exact State.putPkt_view _ _ _

theorem State.complete_view (s : State) (id : Nat) (st : Status) (par data : Bytes) : (s.complete id st par data).portView = s.portView := by
  unfold State.complete
  split
  · rfl
  · dsimp only
    split
    · unfold State.ownNext
      split <;> rfl
    · refine (State.answer_view _ _ _ _ _ _ _).trans ?_
      unfold State.trialEnd
      split
      · simp only [State.portView, State.reg_setFld_ite, State.line, State.setFld_lp]
        rfl
      · rfl

theorem State.lpDropJobs_view (s : State) (p : Nat) : (s.lpDropJobs p).portView = s.portView := by
  refine (foldOver_proj State.portView _ (fun j t => ?_) _ _).trans (s.onLine_view p (fun x => { x with jobs := [] }) fun _ => rfl)
  split
  · rfl
  · exact t.complete_view j .linkDown [] []

theorem State.greet_view (s : State) (p kind : Nat) : (s.greet p kind).portView = s.portView := s.onLine_view p _ fun _ => rfl

/-- An end or through port that goes to DETECT is there, with its tries as they were (R287). -/
theorem State.lpToDetect_view (s : State) {p : Nat} (role : s.fld F.LP_CFG_ROLE p < 2) (silent : Bool) :
    (s.lpToDetect p silent).portView = (s.lpGo p lpDetect).portView := by
  have active : ((s.lpGo p lpDetect).boundaryOf F.LP_CFG_ROLE p).lpRole p ≠ 2 := by
    rw [State.lpRole, State.inFld_boundaryOf _ _ _ (by decide), State.fld_congr (s.reg_lpGo_of_ne p lpDetect (by decide) (by decide) p)]
    omega
  unfold State.lpToDetect
  dsimp only
  rw [if_neg active]
  refine (State.onLine_view _ p _ fun _ => by rfl).trans ?_
  have dropped := (State.linkBoundary_view _ p).trans ((State.lpDropJobs_view _ p).trans ((s.lpGo p lpDetect).boundaryOf_view F.LP_CFG_ROLE p))
  split
  · exact dropped
  · exact (State.greet_view _ p 0).trans dropped

theorem State.lpGo_wakes (s : State) (p st q : Nat) : ((s.lpGo p st).line q).wakes = (s.line q).wakes := by
  have left : ((s.lpLeaveUp p).line q).wakes = (s.line q).wakes := by
    unfold State.lpLeaveUp
    split
    · rfl
    · rw [State.line, State.onHcp_lp, ← State.line, State.wakes_of_view (State.onLine_view _ p _ fun _ => by rfl) q]
      rw [State.line, State.unitsRestart, State.onSched_lp, State.publish_eq, ← State.line]
      rfl
  unfold State.lpGo
  extract_lets s1 s2 s3
  have r1 : (s1.line q).wakes = (s.line q).wakes := by
    unfold s1
    split
    · rfl
    · exact left
  have r2 : s2.lp = s1.lp := by simp only [s2, State.setFlag, State.setFld_lp]
  have r3 : s3.lp = s2.lp := by
    unfold s3
    split <;> rfl
  have r4 : (if st = lpCheck ∨ st = lpUpState then s3 else s3.setReg .LP_QUAL p 0).lp = s3.lp := by split <;> rfl
  rw [State.line, r4, r3, r2, ← State.line, r1]

/-- The wake pattern has gone out once more, and the port is in DETECT (R299). -/
theorem State.lpWakeSent_detects (s : State) {p : Nat} (wake : s.lpState p = lpWake) (role : s.fld F.LP_CFG_ROLE p < 2) :
    (s.lpWakeSent p).lpState p = lpDetect ∧ ((s.lpWakeSent p).line p).wakes = (s.line p).wakes + 1 := by
  have view := s.lpToDetect_view role false
  unfold State.lpWakeSent
  rw [if_pos wake]
  refine ⟨(State.lpState_onLine _ _ _ _).trans ((State.lpState_of_view view p).trans (s.lpGo_state p (by decide))), ?_⟩
  rw [State.onLine_self]
  exact congrArg (· + 1) ((State.wakes_of_view view p).trans (s.lpGo_wakes p lpDetect p))

/-! ### Bursts in DETECT and QUIET (R283, R294, R301) -/

theorem exec_beaconBurstReceived {p : Fin 2} {raw : Bytes} {s : State} (on : s.sysOn = true) :
    exec (.beaconBurstReceived p raw) s = .next (s.lpBeaconHeard p.val raw).done :=
  exec_of_effect (by rfl) (s.powered_on _ on)

section
variable {s : State} {p : Nat} {raw : Bytes}

theorem State.lpBeaconHeard_bad (at_ : s.lpState p = lpDetect ∨ s.lpState p = lpQuiet) (bad : parseBlock raw = none) :
    s.lpBeaconHeard p raw = s.lpCount p 2 := by
  unfold State.lpBeaconHeard
  rw [if_neg (by tauto), bad]

theorem State.lpBeaconHeard_block (at_ : s.lpState p = lpDetect ∨ s.lpState p = lpQuiet) {b : Block} (good : parseBlock raw = some b) :
    s.lpBeaconHeard p raw =
      if b.typ = 5 then (s.setFld F.LP_STAT_BEACON_SEEN 1 p).lpPass p b else if b.linkLocal then s else s.lpCount p 5 := by
  unfold State.lpBeaconHeard
  rw [if_neg (by tauto), good]

end

theorem State.lpRole_setStat (s : State) (hi lo v p q : Nat) : (s.setFld ⟨.LP_STAT, hi, lo⟩ v p).lpRole q = s.lpRole q := by
  have cfg : (s.setFld ⟨.LP_STAT, hi, lo⟩ v p).inFld F.LP_CFG_ROLE q = s.inFld F.LP_CFG_ROLE q := by
    refine State.inFld_congr ?_ (s.setFld_held _ _ _)
    rw [State.reg_setFld_ite, if_neg (fun e => by simpa using e.1)]
  rw [State.lpRole, cfg, State.lpRole]

/-- A BEACON is not a unit that a node takes (R285). -/
theorem State.takes_beacon (s : State) {b : Block} (h : b.typ = 5) : s.takes b = false := by
  unfold State.takes Block.downward
  rw [h]
  rfl

/-- An end port drops a BEACON (R301). -/
theorem State.lpPass_beacon_end (s : State) {p : Nat} {b : Block} (h : b.typ = 5) (ends : s.lpRole p ≠ 1) : s.lpPass p b = s.lpCount p 5 := by
  unfold State.lpPass
  dsimp only
  rw [if_neg (fun e => ends e.1), s.takes_beacon h]
  rfl

/-- A through port forwards a block for others to the other port, when that one is in UP and has room (R294, R296). -/
theorem State.lpPass_forwards (s : State) {p : Nat} {b : Block} (through : s.lpRole p = 1) (others : s.takenOnly b = false) (typ : b.typ < 10)
    (hops : 1 ≤ b.hops) (through' : s.lpRole (1 - p) = 1) (up : s.lpState (1 - p) = lpUpState) (room : (s.line (1 - p)).fwd.length < 64) :
    s.lpPass p b = s.onLine (1 - p) fun x => { x with fwd := x.fwd ++ [{ b with hops := b.hops - 1 }] } := by
  unfold State.lpPass
  dsimp only
  rw [if_pos ⟨through, by rw [others]; rfl, typ, hops⟩]
  unfold State.lpForward
  dsimp only
  rw [if_neg (by rintro (h | h) <;> contradiction), if_neg (Nat.not_le.2 room)]

/-! ### Blocks in UP (R283 to R286, R292) -/

theorem exec_lineBlockReceived {p : Fin 2} {raw : Bytes} {s : State} (on : s.sysOn = true) :
    exec (.lineBlockReceived p raw) s = .next (s.lineBlock p raw).done :=
  exec_of_effect (by rfl) (s.powered_on _ on)

theorem State.sendLink_steady (s : State) (p kind mode : Nat) : (s.sendLink p kind mode).steady = s.steady := by
  simp -implicitDefEqProofs [State.sendLink]

theorem State.lpRetrain_steady (s : State) (p : Nat) : (s.lpRetrain p).steady = s.steady := by
  unfold State.lpRetrain
  split
  · rfl
  · exact (State.onLine_steady _ _ _).trans (s.sendLink_steady p 3 _)

theorem State.lpQuality_steady (s : State) (p : Nat) (ok : Bool) : (s.lpQuality p ok).steady = s.steady := by
  simp -implicitDefEqProofs [State.lpQuality, State.lpRetrain_steady]

/-- A good block neither sends the port to DETECT nor retrains it (R292). -/
theorem State.lpQuality_good (s : State) (p : Nat) :
    ∃ f : LinePort → LinePort, s.lpQuality p true = s.onLine p f := by
  refine ⟨fun y => { y with received := y.received + 1, badRun := 0, bad := (s.line p).bad.filter fun n => n + 1024 > (s.line p).received }, ?_⟩
  unfold State.lpQuality
  dsimp only
  rw [if_neg (by simp), if_neg (by simp)]
  rfl

/-- A block with a bad check is received and counted, and goes nowhere (R283). -/
theorem State.lineBlock_bad (s : State) {p : Fin 2} {raw : Bytes} (up : s.lpState p.val = lpUpState) (bad : parseBlock raw = none) :
    s.lineBlock p raw = ((s.lpCount p.val 1).lpCount p.val 2).lpQuality p.val false := by
  have run : s.lpReceive p.val raw = (none, ((s.lpCount p.val 1).lpCount p.val 2).lpQuality p.val false) := by
    unfold State.lpReceive
    dsimp only
    rw [if_neg (by tauto), bad, up]
    rfl
  rw [State.lineBlock, run]

theorem State.lineBlock_bad_counts (s : State) {p : Fin 2} {raw : Bytes} (up : s.lpState p.val = lpUpState) (bad : parseBlock raw = none) :
    (s.lineBlock p raw).reg .LP_CNT (p.val * 8 + 1) = s.reg .LP_CNT (p.val * 8 + 1) + 1
      ∧ (s.lineBlock p raw).reg .LP_CNT (p.val * 8 + 2) = s.reg .LP_CNT (p.val * 8 + 2) + 1
      ∧ (s.lineBlock p raw).mem = s.mem ∧ (s.lineBlock p raw).lp.userDown = s.lp.userDown := by
  have keep := State.footing_of_steady (((s.lpCount p.val 1).lpCount p.val 2).lpQuality_steady p.val false)
  have cnt (n : Nat) := State.reg_of_footing keep (r := .LP_CNT) (by simp) n
  rw [s.lineBlock_bad up bad]
  refine ⟨?_, ?_, ?_, ?_⟩
  · rw [cnt, State.reg_lpCount, if_neg (by omega), State.reg_lpCount, if_pos ⟨rfl, rfl⟩]
  · rw [cnt, State.reg_lpCount, if_pos ⟨rfl, rfl⟩, State.reg_lpCount, if_neg (by omega)]
  · rw [State.lpQuality_mem, State.lpCount, State.bumpWrap, State.setFld_mem, State.lpCount, State.bumpWrap, State.setFld_mem]
  · rw [State.userDown_of_footing keep, State.lpCount_lp, State.lpCount_lp]

/-! ### A unit taken (R284 to R286) -/

theorem State.takes_congr {s t : State} (reg : t.reg .FRM_NODE 0 = s.reg .FRM_NODE 0) (held : t.held = s.held) (b : Block) : t.takes b = s.takes b := by
  unfold State.takes
  rw [State.inReg_congr reg held]

theorem State.lpWakePeer_userDown (s : State) (p : Nat) : (s.lpWakePeer p).lp.userDown = s.lp.userDown := by
  unfold State.lpWakePeer
  split
  · refine State.userDown_of_footing (State.footing_of_steady ?_)
    simp -implicitDefEqProofs
  · rfl

/-- Passing a block on takes no unit for the user clusters. -/
theorem State.lpPass_userDown (s : State) (p : Nat) (b : Block) : (s.lpPass p b).lp.userDown = s.lp.userDown := by
  have count (q k : Nat) : (s.lpCount q k).lp.userDown = s.lp.userDown := by rw [State.lpCount_lp]
  have forward : (s.lpForward p b).lp.userDown = s.lp.userDown := by
    unfold State.lpForward
    dsimp only
    split
    · split
      · rw [State.lpWakePeer_userDown, count]
      · exact count _ _
    · split
      · exact count _ _
      · rfl
  unfold State.lpPass
  dsimp only
  split
  · exact forward
  · split
    · rfl
    · exact count _ _

/-- A block that is a unit of its own completes it (R286). -/
theorem State.reassemble_whole (s : State) (p : Nat) {b : Block} (first : b.first = true) (last : b.last = true) :
    (s.reassemble p b).1 = some b.payload ∧ (s.reassemble p b).2.lp.userDown = s.lp.userDown := by
  unfold State.reassemble
  dsimp only
  rw [if_pos first, if_pos last]
  refine ⟨rfl, ?_⟩
  split
  · exact (congrArg LpState.userDown (s.lpCount_lp p 6) :)
  · rfl

/-- A whole USER_DOWN block for this node is taken for the user clusters (R284, R285). -/
theorem State.lineBlock_user (s : State) {p : Fin 2} {raw : Bytes} {b : Block} (up : s.lpState p.val = lpUpState) (good : parseBlock raw = some b)
    (typ : b.typ = 7) (first : b.first = true) (last : b.last = true) (mine : s.takes b = true) :
    (s.lineBlock p raw).lp.userDown = s.lp.userDown ++ [b.payload] := by
  obtain ⟨f, quality⟩ := (s.lpCount p.val 1).lpQuality_good p.val
  have mine' : ((s.lpCount p.val 1).onLine p.val f).takes b = true :=
    (State.takes_congr (s.reg_lpCount_of_ne p.val 1 (by decide) 0) (s.lpCount_held p.val 1) b).trans mine
  have user : ((s.lpCount p.val 1).onLine p.val f).lp.userDown = s.lp.userDown := (congrArg LpState.userDown (s.lpCount_lp p.val 1) :)
  have received : s.lpReceive p.val raw = ((s.lpCount p.val 1).onLine p.val f).lpTakeBlock p.val b := by
    unfold State.lpReceive
    dsimp only
    rw [if_neg (by tauto), good]
    dsimp only
    rw [if_pos up, quality]
  generalize (s.lpCount p.val 1).onLine p.val f = t at mine' user received
  obtain ⟨unit, kept⟩ := (t.lpPass p.val b).reassemble_whole p.val first last
  have taken : t.lpTakeBlock p.val b = (some (b.typ, b.payload), ((t.lpPass p.val b).reassemble p.val b).2) := by
    unfold State.lpTakeBlock
    dsimp only
    rw [if_neg (by omega), if_neg (by omega), if_neg (by omega), if_neg (by simp [mine']), ← Prod.mk.eta (p := (t.lpPass p.val b).reassemble p.val b), unit]
  rw [State.lineBlock, received, taken, typ]
  exact congrArg (· ++ [b.payload]) (kept.trans ((t.lpPass_userDown p.val b).trans user))

/-! ### Units taken (R268, R284, R298, R302) -/

section
variable {s : State}

theorem State.unitTaken_up (s : State) (p : Fin 2) (typ : Nat) (u : Bytes) (on : s.sysOn = true) (up : s.lpState p.val = lpUpState) :
    s.unitTaken p typ u = s.lineUnit p typ u := by
  unfold State.unitTaken
  exact if_pos (by simp [on, up])

theorem exec_confirm {p : Fin 2} {u : Bytes} (on : s.sysOn = true) (up : s.lpState p.val = lpUpState) :
    exec (.confirm p u) s = .next (s.lpConfirm p.val u).done :=
  exec_of_effect (by rfl) (s.unitTaken_up p 2 u on up)

theorem exec_mgmtDown {p : Fin 2} {u : Bytes} (on : s.sysOn = true) (up : s.lpState p.val = lpUpState) :
    exec (.mgmtDown p u) s = .next ((s.publish (204 + 5 * p.val)).lineBytes (lineTp p) u).done :=
  exec_of_effect (by rfl) (s.unitTaken_up p 3 u on up)

theorem exec_userDown {p : Fin 2} {u : Bytes} (on : s.sysOn = true) (up : s.lpState p.val = lpUpState) :
    exec (.userDown p u) s = .next (s.lpUserDown u).done :=
  exec_of_effect (by rfl) (s.unitTaken_up p 7 u on up)

end

theorem State.publish_msu (s : State) (k : Nat) : (s.publish k).msu = s.msu := by rw [State.publish_eq]

/-- While a replay runs, the ranges of a CONFIRM are kept for its end (R306). -/
theorem State.lpConfirm_held (s : State) (p : Nat) (u : Bytes) (replay : s.msu.replay.isSome = true) :
    (s.lpConfirm p u).lp.heldConfirms = s.lp.heldConfirms ++ confirmRanges 15 u ∧ (s.lpConfirm p u).msu = s.msu := by
  have run : s.lpConfirm p u = (s.publish (203 + 5 * p)).onLp fun x => { x with heldConfirms := x.heldConfirms ++ confirmRanges 15 u } :=
    if_pos replay
  rw [run]
  refine ⟨?_, s.publish_msu _⟩
  rw [State.publish_eq]
  rfl

theorem mem_of_mem_dropRetired {r : RingRec} {l : List RingRec} (h : r ∈ dropRetired l) : r ∈ l := by
  induction l with
  | nil => exact h
  | cons x l ih =>
    unfold dropRetired at h
    split at h
    · exact List.mem_cons_of_mem _ (ih h)
    · exact h

/-- A record that stands unretired after the retirement of another one stood so before, under another number (R268). -/
theorem State.mem_jretire {s : State} {seq : Nat} {r : RingRec} (h : r ∈ (s.jretire seq).msu.ring) (live : r.retired = false) :
    r ∈ s.msu.ring ∧ r.seq ≠ seq := by
  unfold State.jretire at h
  split at h
  · obtain ⟨x, hx, rfl⟩ := List.mem_map.1 (mem_of_mem_dropRetired h)
    by_cases own : x.seq = seq
    · rw [if_pos own] at live
      exact absurd live (by simp)
    · rw [if_neg own] at live ⊢
      exact ⟨hx, own⟩
  · next none =>
    rw [State.setFld_msu] at h
    exact ⟨h, fun e => none (List.any_eq_true.2 ⟨r, h, by simp [e, live]⟩)⟩

theorem State.mem_jretires {r : RingRec} (live : r.retired = false) (l : List Nat) (s : State)
    (h : r ∈ (foldOver (fun (q : Nat) (t : State) => t.jretire q) l s).msu.ring) : r ∈ s.msu.ring ∧ r.seq ∉ l := by
  induction l generalizing s with
  | nil => exact ⟨h, List.not_mem_nil⟩
  | cons q l ih =>
    rw [foldOver_cons] at h
    obtain ⟨before, rest⟩ := ih _ h
    obtain ⟨first, other⟩ := State.mem_jretire before live
    exact ⟨first, List.not_mem_cons_of_ne_of_not_mem other rest⟩

/-- The numbers of the records of a range that are not retired yet. -/
def State.rangeHits (s : State) (c : Nat × Nat) : List Nat :=
  (List.range s.msu.ring.length).filterMap fun i => (s.msu.ring[i]?).bind fun x =>
    if !x.retired && (x.seq + 4294967296 - c.1) % 4294967296 < c.2 then some x.seq else none

theorem State.mem_rangeHits {s : State} {c : Nat × Nat} {r : RingRec} (h : r ∈ s.msu.ring) (live : r.retired = false)
    (inside : (r.seq + 4294967296 - c.1) % 4294967296 < c.2) : r.seq ∈ s.rangeHits c := by
  obtain ⟨i, hi, rfl⟩ := List.mem_iff_getElem.1 h
  refine List.mem_filterMap.2 ⟨i, List.mem_range.2 hi, ?_⟩
  rw [List.getElem?_eq_getElem hi]
  simp [live, inside]

/-- Retiring a range leaves no unretired record in it (R298). -/
theorem State.mem_retireRange {s : State} {c : Nat × Nat} {r : RingRec} (h : r ∈ (State.retireRange c s).msu.ring) (live : r.retired = false) :
    r ∈ s.msu.ring ∧ ¬(r.seq + 4294967296 - c.1) % 4294967296 < c.2 := by
  have ring : (State.retireRange c s).msu.ring = (foldOver (fun (q : Nat) (t : State) => t.jretire q) (s.rangeHits c) s).msu.ring := by
    unfold State.retireRange
    dsimp only
    split
    · rw [State.setFld_msu]; rfl
    · rfl
  rw [ring] at h
  obtain ⟨stood, missed⟩ := State.mem_jretires live _ _ h
  exact ⟨stood, fun inside => missed (State.mem_rangeHits stood live inside)⟩

theorem State.mem_retireRanges {r : RingRec} (live : r.retired = false) (l : List (Nat × Nat)) (s : State)
    (h : r ∈ (foldOver State.retireRange l s).msu.ring) :
    r ∈ s.msu.ring ∧ ∀ c ∈ l, ¬(r.seq + 4294967296 - c.1) % 4294967296 < c.2 := by
  induction l generalizing s with
  | nil => exact ⟨h, fun c hc => absurd hc List.not_mem_nil⟩
  | cons c l ih =>
    rw [foldOver_cons] at h
    obtain ⟨before, rest⟩ := ih _ h
    obtain ⟨first, out⟩ := State.mem_retireRange before live
    refine ⟨first, fun d hd => ?_⟩
    rcases List.mem_cons.1 hd with rfl | hd
    · exact out
    · exact rest d hd

theorem State.lpConfirm_retires (s : State) (p : Nat) (u : Bytes) (replay : s.msu.replay = none) {r : RingRec}
    (h : r ∈ (s.lpConfirm p u).msu.ring) (live : r.retired = false) :
    ∀ c ∈ confirmRanges 15 u, ¬(r.seq + 4294967296 - c.1) % 4294967296 < c.2 := by
  have run : s.lpConfirm p u = foldOver State.retireRange (confirmRanges 15 u) (s.publish (203 + 5 * p)) := if_neg (by simp [replay])
  rw [run] at h
  exact (State.mem_retireRanges live _ _ h).2

theorem State.lineBytes_whole (s : State) (t : Tp) {u : Bytes} {q : Pkt} (h : parsePkt u = .packet q u.length) : s.lineBytes t u = s.hcpPacket t q := by
  unfold State.lineBytes
  rw [h]
  exact if_pos rfl

/-! ### A record unconfirmed (R298) -/

theorem exec_recordConfirmTimeout {seq : Word} {s : State} (on : s.sysOn = true) :
    exec (.recordConfirmTimeout seq) s = .next (s.recordTimeout seq.toNat).done :=
  exec_of_effect (by rfl) (s.powered_on _ on)

theorem State.queue_append (s : State) (q : Nat) (e : SchedEntry) : (s.append q e).queue q = s.queue q ++ [e] := by
  have set : (s.setQueue q (s.queue q ++ [e])).queue q = s.queue q ++ [e] := Tab.getD_putD_self _ _ _ _
  unfold State.append State.wakeQueue
  split
  · exact set
  · exact set

theorem State.queue_push (s : State) {cl q addr len : Nat} (taken : s.pushRefusal cl q addr len = none) :
    (s.push cl q addr len).queue q = s.queue q ++ [⟨addr, len, none⟩] := by
  unfold State.push
  rw [taken]
  exact s.queue_append q _

/-- An unconfirmed record is pushed again, where a queue takes it (R298). -/
theorem State.recordTimeout_pushes (s : State) {seq q : Nat} {r : RingRec}
    (found : (s.msu.ring.find? fun y => y.seq == seq && !y.retired && y.queued) = some r) (queue : s.recordQueue = some q)
    (taken : s.pushRefusal 0 q (ringBase + r.offset) r.length = none) :
    (s.recordTimeout seq).queue q = s.queue q ++ [⟨ringBase + r.offset, r.length, none⟩] := by
  unfold State.recordTimeout
  rw [found]
  dsimp only
  generalize hu : (s.onMsu fun u => { u with ring := u.ring.map fun x => if x.seq = seq then { x with queued := false } else x }) = v
  have queue' : v.recordQueue = some q := by rw [← hu]; exact queue
  have taken' : v.pushRefusal 0 q (ringBase + r.offset) r.length = none := by rw [← hu]; exact taken
  have same : v.queue q = s.queue q := by rw [← hu]; rfl
  unfold State.pushRecord
  rw [queue']
  dsimp only
  rw [taken', ← same]
  exact v.queue_push taken'

/-! ### What a boundary sends (R297, R304, R311) -/

theorem exec_schedBlockChoice {p : Fin 2} {s : State} (on : s.sysOn = true) : exec (.schedBlockChoice p) s = .next (s.lpBoundary p.val).done :=
  exec_of_effect (by rfl) (s.powered_on _ on)

/-- The second state has the footing, the pins and the ports of the first. -/
def State.PortsKept (s t : State) : Prop := t.steady = s.steady ∧ t.lp = s.lp

theorem State.PortsKept.trans {s t u : State} (h : State.PortsKept s t) (h' : State.PortsKept t u) : State.PortsKept s u :=
  ⟨h'.1.trans h.1, h'.2.trans h.2⟩

theorem State.setFld_portsKept (s : State) {r : RegName} (h : ¬r.stands) (hi lo v n : Nat) : State.PortsKept s (s.setFld ⟨r, hi, lo⟩ v n) :=
  ⟨s.setFld_steady h hi lo v n, s.setFld_lp _ _ _⟩

theorem State.foldOver_portsKept {α : Type} (f : α → State → State) (hf : ∀ a t, State.PortsKept t (f a t)) (l : List α) (s : State) :
    State.PortsKept s (foldOver f l s) :=
  foldOver_inv (State.PortsKept s) f (fun a t h => h.trans (hf a t)) l s ⟨rfl, rfl⟩

theorem State.onSched_portsKept (s : State) (f : SchedState → SchedState) : State.PortsKept s (s.onSched f) := ⟨s.onSched_steady f, s.onSched_lp f⟩

theorem State.unbar_portsKept (s : State) (q : Nat) (ok : Bool) : State.PortsKept s (s.unbar q ok) := by
  have tag (v : Nat) : State.PortsKept s (s.setVtag q v) := ⟨s.setVtag_steady q v, s.setReg_lp _ _ _⟩
  unfold State.unbar
  split
  · split
    · exact (tag _).trans (State.onSched_portsKept _ _)
    · exact ⟨rfl, rfl⟩
  · exact s.onSched_portsKept _

theorem State.boundary_portsKept (s : State) (r : RegName) (n : Nat) : State.PortsKept s (s.boundary r n) := ⟨s.boundary_steady r n, rfl⟩

theorem State.refillQueue_portsKept (q : Nat) (s : State) : State.PortsKept s (State.refillQueue q s) := by
  unfold State.refillQueue
  exact (((s.boundary_portsKept _ q).trans (State.boundary_portsKept _ _ q)).trans (State.boundary_portsKept _ _ q)).trans
    (State.onSched_portsKept _ _)

theorem State.refillDue_portsKept (s : State) : State.PortsKept s s.refillDue := by
  unfold State.refillDue
  split
  · exact ⟨rfl, rfl⟩
  · unfold State.refillAll
    split
    · exact (State.foldOver_portsKept _ State.refillQueue_portsKept (List.range 144) s).trans (State.onSched_portsKept _ _)
    · exact s.onSched_portsKept _

/-- The scheduler's choice changes neither the ports nor their counters. -/
theorem State.schedPick_portsKept (s : State) (n len : Nat) : State.PortsKept s (s.schedPick n len).2 := by
  unfold State.schedPick
  split
  · exact ⟨rfl, rfl⟩
  · dsimp only
    refine (s.refillDue_portsKept.trans (State.foldOver_portsKept _ (fun q t => ?_) _ _)).trans (State.foldOver_portsKept _ (fun q t => ?_) _ _)
    · exact (t.setFld_portsKept (by decide) _ _ _ q).trans (State.unbar_portsKept _ q _)
    · exact t.setFld_portsKept (by decide) _ _ _ q

/-- A block sent is the port's last one, and is counted (R297). -/
theorem State.sendBlock_parts (s : State) (p : Nat) (b : Block) : ((s.sendBlock p b).line p).sent = some b
    ∧ ((s.sendBlock p b).line p).link = (s.line p).link ∧ ((s.sendBlock p b).line p).fwd = (s.line p).fwd
    ∧ (s.sendBlock p b).reg .LP_CNT (p * 8) = s.reg .LP_CNT (p * 8) + 1 := by
  have reg : (s.sendBlock p b).reg .LP_CNT (p * 8) = (s.lpCount p 0).reg .LP_CNT (p * 8) := rfl
  unfold State.sendBlock at reg ⊢
  rw [State.onLine_self, State.lpCount_line]
  exact ⟨rfl, rfl, rfl, reg.trans ((s.reg_lpCount p 0 .LP_CNT (p * 8)).trans (if_pos ⟨rfl, rfl⟩))⟩

theorem State.lpBoundary_up (s : State) {p : Nat} (up : s.lpState p = lpUpState) : ¬s.lpState p = lpQuiet ∧ ¬s.lpState p ≠ lpUpState := by
  rw [up]; decide

/-- A LINK block that waits goes first (R297). -/
theorem State.lpBoundary_link (s : State) {p : Nat} {b : Block} {l : List Block} (up : s.lpState p = lpUpState) (link : (s.line p).link = b :: l)
    (plain : b.typ ≠ 8) : ∃ u : State, State.PortsKept s u ∧ s.lpBoundary p = (u.onLine p fun y => { y with link := l }).sendBlock p b := by
  obtain ⟨notQuiet, isUp⟩ := s.lpBoundary_up up
  refine ⟨(s.schedPick p (blockTicks (s.lpMode p))).2, s.schedPick_portsKept _ _, ?_⟩
  unfold State.lpBoundary
  dsimp only
  rw [if_neg notQuiet, if_neg isUp, link]
  dsimp only
  rw [State.stampBlock, if_pos plain]

/-- Then a block forwarded from the other port (R297). -/
theorem State.lpBoundary_fwd (s : State) {p : Nat} {b : Block} {l : List Block} (up : s.lpState p = lpUpState) (link : (s.line p).link = [])
    (fwd : (s.line p).fwd = b :: l) :
    ∃ u : State, State.PortsKept s u ∧ s.lpBoundary p = ((u.onLine p fun y => { y with fwd := l }).lpCount p 3).sendBlock p b := by
  obtain ⟨notQuiet, isUp⟩ := s.lpBoundary_up up
  refine ⟨(s.schedPick p (blockTicks (s.lpMode p))).2, s.schedPick_portsKept _ _, ?_⟩
  unfold State.lpBoundary
  dsimp only
  rw [if_neg notQuiet, if_neg isUp, link, fwd]

/-- With nothing to send, an IDLE block goes out (R297). -/
theorem State.lpBoundary_idle (s : State) {p : Nat} (up : s.lpState p = lpUpState) (link : (s.line p).link = []) (fwd : (s.line p).fwd = [])
    (own : (s.line p).own = []) (halted : s.schedRuns = false) : s.lpBoundary p = s.sendBlock p idleBlock := by
  obtain ⟨notQuiet, isUp⟩ := s.lpBoundary_up up
  have pick : s.schedPick p (blockTicks (s.lpMode p)) = (none, s) := if_pos (by simp [halted])
  unfold State.lpBoundary
  dsimp only
  rw [if_neg notQuiet, if_neg isUp, link, fwd, own, pick]

/-! ### Time transfer (R303 to R305) -/

section
variable {s : State} {p : Fin 2} (seq : Half)

theorem exec_timeSyncSend (on : s.sysOn = true) : exec (.timeSyncSend p) s = .next (s.timeSyncSend p.val).done :=
  exec_of_effect (by rfl) (s.powered_on _ on)

theorem exec_delayReq (on : s.sysOn = true) : exec (.delayReq p seq) s = .next (s.delayReq p.val seq.toNat).done :=
  exec_of_effect (by rfl) (s.powered_on _ on)

variable (sec : Word) (tick : BitVec 27) (frac : BitVec 4)

theorem exec_timeSync (on : s.sysOn = true) :
    exec (.timeSync p seq sec tick frac) s = .next (s.timeSync p.val seq.toNat ⟨sec.toNat, tick.toNat, frac.toNat⟩).done :=
  exec_of_effect (by rfl) (s.powered_on _ on)

theorem exec_delayResp (on : s.sysOn = true) :
    exec (.delayResp p seq sec tick frac) s = .next (s.delayResp p.val seq.toNat ⟨sec.toNat, tick.toNat, frac.toNat⟩).done :=
  exec_of_effect (by rfl) (s.powered_on _ on)

end

/-- The slave keeps a SYNC's stamps and sends DELAY_REQ (R304). -/
theorem State.timeSync_parts (s : State) {p : Nat} (seq : Nat) (t : Stamp) (slave : s.timeOn p false = true) :
    ((s.timeSync p seq t).line p).sync = some (seq, t, s.rxStamp p)
      ∧ ((s.timeSync p seq t).line p).link = (s.line p).link ++ [timeBlock 1 seq ⟨0, 0, 0⟩] := by
  unfold State.timeSync
  rw [if_neg (by simp [slave]), State.onLine_self]
  exact ⟨rfl, rfl⟩

/-- A set of four stamps with its number, latched in the port's registers (R305). -/
def State.latchSet (s : State) (p seq : Nat) (t1 t2 t3 t4 : Stamp) : State :=
  ((((s.latchStamp p 0 t1).latchStamp p 1 t2).latchStamp p 2 t3).latchStamp p 3 t4).setReg .LP_TSSEQ p (BitVec.ofNat 32 seq)

/-- A new set shows in TSNEW, and in TSOVR where the last one had not been read (R305). -/
def State.showSet (s : State) (p : Nat) (unread : Bool) : State :=
  if unread then s.setFld F.LP_STAT_TSOVR 1 p else (s.setFld F.LP_STAT_TSNEW 1 p).publish (202 + 5 * p)

theorem State.reg_latchStamp_of_ne (s : State) (p k : Nat) (t : Stamp) {r : RegName} (sec : r ≠ .LP_TS_SEC) (sub : r ≠ .LP_TS_SUB) (n : Nat) :
    (s.latchStamp p k t).reg r n = s.reg r n := by
  rw [State.latchStamp, State.reg_setReg_of_ne _ _ _ _ _ _ (.inl sub), State.reg_setFld_ite, if_neg (fun e => sec e.1)]

theorem State.reg_latchSet_of_ne (s : State) (p seq : Nat) (t1 t2 t3 t4 : Stamp) {r : RegName} (sec : r ≠ .LP_TS_SEC) (sub : r ≠ .LP_TS_SUB)
    (num : r ≠ .LP_TSSEQ) (n : Nat) : (s.latchSet p seq t1 t2 t3 t4).reg r n = s.reg r n := by
  rw [State.latchSet, State.reg_setReg_of_ne _ _ _ _ _ _ (.inl num)]
  simp only [State.reg_latchStamp_of_ne _ _ _ _ sec sub]

/-- The last stamp of a set shows its second. -/
theorem State.fld_latchSet (s : State) (p seq : Nat) (t1 t2 t3 t4 : Stamp) (fits : t4.sec < 2 ^ 32) :
    (s.latchSet p seq t1 t2 t3 t4).fld F.LP_TS_SEC_SEC (p * 4 + 3) = t4.sec := by
  rw [State.latchSet, State.fld_congr (State.reg_setReg_of_ne _ _ _ _ _ _ (.inl (by decide))), State.latchStamp,
    State.fld_congr (State.reg_setReg_of_ne _ _ _ _ _ _ (.inl (by decide))), State.fld_setFld _ _ _ _ (by decide) (by decide)]
  exact Nat.mod_eq_of_lt fits

theorem State.latchStamp_kept (s : State) (p k : Nat) (t : Stamp) : (s.latchStamp p k t).held = s.held ∧ (s.latchStamp p k t).sched = s.sched := by
  rw [State.latchStamp, State.setReg_held, State.setReg_sched]
  exact ⟨s.setFld_held _ _ _, s.setFld_sched _ _ _⟩

theorem State.latchSet_kept (s : State) (p seq : Nat) (t1 t2 t3 t4 : Stamp) :
    (s.latchSet p seq t1 t2 t3 t4).held = s.held ∧ (s.latchSet p seq t1 t2 t3 t4).sched = s.sched := by
  have held (u : State) (k : Nat) (t : Stamp) := (u.latchStamp_kept p k t).1
  have sched (u : State) (k : Nat) (t : Stamp) := (u.latchStamp_kept p k t).2
  rw [State.latchSet, State.setReg_held, State.setReg_sched]
  exact ⟨by rw [held, held, held, held], by rw [sched, sched, sched, sched]⟩

theorem State.showSet_kept (s : State) (p : Nat) (unread : Bool) : (s.showSet p unread).held = s.held ∧ (s.showSet p unread).sched = s.sched
    ∧ (∀ q, (s.showSet p unread).lpState q = s.lpState q) ∧ ∀ r n, r ≠ .LP_STAT → (s.showSet p unread).reg r n = s.reg r n := by
  unfold State.showSet
  split
  · exact ⟨s.setFld_held _ _ _, s.setFld_sched _ _ _, fun q => s.lpState_setFld 1 p q (by decide) (by decide),
      fun r n h => by rw [State.reg_setFld_ite, if_neg (fun e => h e.1)]⟩
  · refine ⟨?_, ?_, fun q => ?_, fun r n h => ?_⟩
    · rw [State.publish_eq]; exact s.setFld_held _ _ _
    · rw [State.publish_eq]; exact s.setFld_sched _ _ _
    · rw [State.lpState_congr (State.reg_congr (State.publish_regs _ _) _ _)]
      exact s.lpState_setFld 1 p q (by decide) (by decide)
    · rw [State.reg_congr (State.publish_regs _ _), State.reg_setFld_ite, if_neg (fun e => h e.1)]

theorem State.showSet_new (s : State) (p : Nat) : (s.showSet p (s.flag F.LP_STAT_TSNEW p)).flag F.LP_STAT_TSNEW p = true := by
  unfold State.showSet
  split
  · next unread => rw [State.flag_setFld_of_disjoint _ _ _ _ _ _ (by decide) (.inr (by decide)), unread]
  · rw [State.flag_congr (State.reg_congr (State.publish_regs _ _) _ _), State.flag_setFld_one _ _ _ (by decide) rfl]

/-- Which port the line source follows comes from the ports' states and roles, the selection and the record queue (R303, R336). -/
theorem State.lineSource_congr {s t : State} (disc : t.reg .NTC_DISC 0 = s.reg .NTC_DISC 0) (stat : ∀ q, t.lpState q = s.lpState q)
    (cfg : ∀ q, t.reg .LP_CFG q = s.reg .LP_CFG q) (held : t.held = s.held) (sched : t.sched = s.sched) (p : Nat) :
    t.lineSource p = s.lineSource p := by
  have src : t.ntSrc = s.ntSrc := State.fld_congr disc
  have up (q : Nat) : t.lpUp q = s.lpUp q := congrArg (· == 9) (stat q)
  have faces (q : Nat) : t.inFld F.LP_CFG_UPSTREAM q = s.inFld F.LP_CFG_UPSTREAM q := State.inFld_congr (cfg q) held
  have queue : t.recordQueue = s.recordQueue := by simp only [State.recordQueue, up, faces, sched]
  rw [State.lineSource, src, queue, State.lineSource]

/-- A DELAY_RESP that closes the set of the last SYNC latches it, and no clock follows it where the line source is another (R305). -/
theorem State.delayResp_latches (s : State) {p seq : Nat} {t1 t2 t3 : Stamp} (t4 : Stamp) (slave : s.timeOn p false = true)
    (sync : (s.line p).sync = some (seq, t1, t2)) (sent : (s.line p).t3 = some t3) (other : s.lineSource p = false) :
    s.delayResp p seq t4 =
      ((s.latchSet p seq t1 t2 t3 t4).showSet p (s.flag F.LP_STAT_TSNEW p)).onLine p fun x => { x with sync := none, t3 := none } := by
  obtain ⟨held1, sched1⟩ := s.latchSet_kept p seq t1 t2 t3 t4
  obtain ⟨held2, sched2, stat2, regs2⟩ := (s.latchSet p seq t1 t2 t3 t4).showSet_kept p (s.flag F.LP_STAT_TSNEW p)
  have regs1 {r : RegName} (sec : r ≠ .LP_TS_SEC) (sub : r ≠ .LP_TS_SUB) (num : r ≠ .LP_TSSEQ) (n : Nat) :=
    s.reg_latchSet_of_ne p seq t1 t2 t3 t4 sec sub num n
  have source : ((s.latchSet p seq t1 t2 t3 t4).showSet p (s.flag F.LP_STAT_TSNEW p)).lineSource p = false := by
    rw [← other]
    refine State.lineSource_congr ?_ (fun q => ?_) (fun q => ?_) (held2.trans held1) (sched2.trans sched1) p
    · rw [regs2 _ _ (by decide), regs1 (by decide) (by decide) (by decide)]
    · rw [stat2, State.lpState_congr (regs1 (by decide) (by decide) (by decide) q)]
    · rw [regs2 _ _ (by decide), regs1 (by decide) (by decide) (by decide)]
  unfold State.delayResp
  rw [sync, sent]
  dsimp only
  rw [if_neg (by simp [slave])]
  exact if_pos (by rw [← Bool.not_false]; exact congrArg (!·) source)

theorem State.delayResp_parts (s : State) {p seq : Nat} {t1 t2 t3 : Stamp} (t4 : Stamp) (slave : s.timeOn p false = true)
    (sync : (s.line p).sync = some (seq, t1, t2)) (sent : (s.line p).t3 = some t3) (other : s.lineSource p = false) (fits : t4.sec < 2 ^ 32) :
    (s.delayResp p seq t4).reg .LP_TSSEQ p = BitVec.ofNat 32 seq ∧ (s.delayResp p seq t4).flag F.LP_STAT_TSNEW p = true
      ∧ ((s.delayResp p seq t4).line p).sync = none ∧ (s.delayResp p seq t4).fld F.LP_TS_SEC_SEC (p * 4 + 3) = t4.sec := by
  obtain ⟨-, -, -, regs⟩ := (s.latchSet p seq t1 t2 t3 t4).showSet_kept p (s.flag F.LP_STAT_TSNEW p)
  have new : s.flag F.LP_STAT_TSNEW p = (s.latchSet p seq t1 t2 t3 t4).flag F.LP_STAT_TSNEW p :=
    (State.flag_congr (s.reg_latchSet_of_ne p seq t1 t2 t3 t4 (by decide) (by decide) (by decide) p)).symm
  have num : (s.latchSet p seq t1 t2 t3 t4).reg .LP_TSSEQ p = BitVec.ofNat 32 seq := State.reg_setReg _ _ _ _
  rw [s.delayResp_latches t4 slave sync sent other]
  refine ⟨(regs _ _ (by decide)).trans num, ?_, by rw [State.onLine_self],
    (State.fld_congr (regs _ _ (by decide))).trans (s.fld_latchSet p seq t1 t2 t3 t4 fits)⟩
  rw [new]
  exact State.showSet_new _ p

/-! ### A wake from DOZE by the line (R49, R97, R300) -/

theorem exec_lineWakeDetect (p : Fin 2) (pattern : Bool) (s : State) : exec (.lineWakeDetect p pattern) s = .next (s.lineWake p pattern).done := by rfl

theorem State.security_congr {s t : State} (h : t.otp = s.otp) : t.security = s.security := by
  unfold State.security State.closed State.secureBoot State.rowBits State.halfBits
  rw [h]

theorem State.pmbRequest_otp (s : State) (t : Nat) : (s.pmbRequest t).otp = s.otp := by
  unfold State.pmbRequest State.pmbSend State.pmbVout
  split <;> simp

/-- The wake pattern on an end port of a device in DOZE and DEVELOPMENT wakes it on the warm path (R97, R300). -/
theorem State.lineWake_dozing (s : State) (p : Fin 2) (doze : s.level = 2) (still : s.pwr.flush = none) (ends : s.lpRole p.val = 0)
    (development : s.security = 0) :
    s.lineWake p true = ((((((((s.onPwr fun w => { w with waking := true }).setExch (lineExch p) true).pstate).pmbRequest
      s.vcoreNom).regionLoad.firstInstruction).configRestore true).regionsGrant).notifyReset) := by
  have heard : s.lineWake p true = s.wakeDoze (lineExch p) := by
    unfold State.lineWake
    rw [if_pos (by simp [ends]), if_pos doze]
  have inForce : ((((s.onPwr fun w => { w with waking := true }).setExch (lineExch p) true).pstate).pmbRequest s.vcoreNom).security = 0 := by
    refine (State.security_congr ?_).trans development
    rw [State.pmbRequest_otp]
    simp [State.pstate, State.setFlag, State.setExch]
  rw [heard]
  unfold State.wakeDoze
  rw [if_neg (by simp [doze, State.flushing, still])]
  exact if_neg (fun e => e.1 inForce)

/-! ### The statement -/

/-- What a burst does in DETECT and QUIET, by its block (R283, R294, R301). -/
theorem State.lpBeaconHeard_cases (s : State) {p : Nat} {raw : Bytes} {b : Block} (at_ : s.lpState p = lpDetect ∨ s.lpState p = lpQuiet)
    (good : parseBlock raw = some b) :
    (b.typ = 5 → s.lpRole p ≠ 1 → s.lpBeaconHeard p raw = (s.setFld F.LP_STAT_BEACON_SEEN 1 p).lpCount p 5)
      ∧ (b.typ = 5 → s.lpRole p = 1 → s.takenOnly b = false → 1 ≤ b.hops → s.lpRole (1 - p) = 1 → s.lpState (1 - p) = lpUpState →
        (s.line (1 - p)).fwd.length < 64 → (s.lpBeaconHeard p raw).flag F.LP_STAT_BEACON_SEEN p = true
          ∧ ((s.lpBeaconHeard p raw).line (1 - p)).fwd = (s.line (1 - p)).fwd ++ [{ b with hops := b.hops - 1 }])
      ∧ (b.typ ≠ 5 → b.linkLocal = false → s.lpBeaconHeard p raw = s.lpCount p 5)
      ∧ (b.linkLocal = true → s.lpBeaconHeard p raw = s) := by
  have seen := s.flag_setFld_one F.LP_STAT_BEACON_SEEN p (by decide) rfl
  have role (q : Nat) := s.lpRole_setStat 30 30 1 p q
  have line (q : Nat) : (s.setFld F.LP_STAT_BEACON_SEEN 1 p).line q = s.line q := by rw [State.line, State.setFld_lp, State.line]
  rw [State.lpBeaconHeard_block at_ good]
  refine ⟨fun beacon ends => ?_, fun beacon through others hops through' up room => ?_, fun other far => ?_, fun near => ?_⟩
  · rw [if_pos beacon]
    exact State.lpPass_beacon_end _ beacon (by rwa [role])
  · have node : (s.setFld F.LP_STAT_BEACON_SEEN 1 p).takenOnly b = false := by
      rw [State.takenOnly, State.inReg_congr (by rw [State.reg_setFld_ite, if_neg (by simp)]) (s.setFld_held _ _ _)]
      exact others
    rw [if_pos beacon, State.lpPass_forwards _ ((role p).trans through) node (by omega) hops ((role _).trans through')
      ((s.lpState_setFld 1 p (1 - p) (by decide) (by decide)).trans up) (by rwa [line]), State.onLine_self, line]
    exact ⟨seen, rfl⟩
  · rw [if_neg other, if_neg (by simp [far])]
  · have notBeacon : b.typ ≠ 5 := fun e => by simp [Block.linkLocal, e] at near
    rw [if_neg notBeacon, if_pos near]

/-- What a boundary sends while the port is in UP (R297). -/
theorem State.lpBoundary_sends (s : State) {p : Nat} (up : s.lpState p = lpUpState) :
    (∀ b l, (s.line p).link = b :: l → b.typ ≠ 8 → ((s.lpBoundary p).line p).sent = some b ∧ ((s.lpBoundary p).line p).link = l
        ∧ (s.lpBoundary p).reg .LP_CNT (p * 8) = s.reg .LP_CNT (p * 8) + 1)
      ∧ (∀ b l, (s.line p).link = [] → (s.line p).fwd = b :: l → ((s.lpBoundary p).line p).sent = some b ∧ ((s.lpBoundary p).line p).fwd = l)
      ∧ ((s.line p).link = [] → (s.line p).fwd = [] → (s.line p).own = [] → s.schedRuns = false →
        ((s.lpBoundary p).line p).sent = some idleBlock ∧ (s.lpBoundary p).reg .LP_CNT (p * 8) = s.reg .LP_CNT (p * 8) + 1) := by
  refine ⟨fun b l link plain => ?_, fun b l link fwd => ?_, fun link fwd own halted => ?_⟩
  · obtain ⟨u, ⟨keep, -⟩, run⟩ := s.lpBoundary_link up link plain
    obtain ⟨sent, left, -, counted⟩ := (u.onLine p fun y => { y with link := l }).sendBlock_parts p b
    have before : u.reg .LP_CNT (p * 8) = s.reg .LP_CNT (p * 8) := State.reg_of_footing (State.footing_of_steady keep) (by simp) _
    rw [run]
    refine ⟨sent, left.trans (by rw [State.onLine_self]), counted.trans ?_⟩
    exact congrArg (· + 1) before
  · obtain ⟨u, -, run⟩ := s.lpBoundary_fwd up link fwd
    obtain ⟨sent, -, left, -⟩ := ((u.onLine p fun y => { y with fwd := l }).lpCount p 3).sendBlock_parts p b
    rw [run]
    exact ⟨sent, left.trans (by rw [State.lpCount_line, State.onLine_self])⟩
  · obtain ⟨sent, -, -, counted⟩ := s.sendBlock_parts p idleBlock
    rw [s.lpBoundary_idle up link fwd own halted]
    exact ⟨sent, counted⟩

/-- Settles O43: each command by the rule of its event, of its unit or of its write. -/
theorem lineTraffic : Obligations.LineTraffic := by
  unfold Obligations.LineTraffic
  refine ⟨fun who p raw u seq sec tick frac s on => ?_, fun p s doze still ends development =>
    exec_of_effect (exec_lineWakeDetect p true s) (s.lineWake_dozing p doze still ends development)⟩
  intro ends x t1
  refine ⟨fun cl0 => ⟨fun quiet => ⟨_, exec_lpnWakePeer on cl0, s.lpWakePeer_state quiet⟩, ⟨_, exec_lpnClrCnt on cl0, s.lpClearCounts_parts p.val⟩⟩,
    fun at_ => ⟨_, exec_dozing on, s.lpHearDozing_quiet at_⟩,
    fun wake role => ⟨_, exec_lineWakePatternSent on, s.lpWakeSent_detects wake role⟩,
    fun idle => exec_of_effect (exec_wakeWaitExpiry on) (s.lpWakeExpiry_idle idle),
    fun at_ some_ => ⟨fun left => ⟨_, exec_wakeWaitExpiry on, s.lpWakeExpiry_again ⟨at_, some_⟩ left⟩,
      fun last => ⟨_, exec_wakeWaitExpiry on, s.lpWakeExpiry_last ⟨at_, some_⟩ last⟩⟩,
    fun at_ => ⟨fun bad => exec_of_effect (exec_beaconBurstReceived on) (State.lpBeaconHeard_bad at_ bad), fun b good => ?burst⟩,
    fun up => ?up,
    fun r q found queue taken => ⟨_, exec_recordConfirmTimeout on, s.recordTimeout_pushes found queue taken⟩,
    fun master => ⟨exec_of_effect (exec_timeSyncSend on) (if_neg (by simp [master])), exec_of_effect (exec_delayReq seq on) (if_neg (by simp [master]))⟩,
    fun slave => ⟨⟨_, exec_timeSync seq sec tick frac on, s.timeSync_parts seq.toNat t1 slave⟩, fun a b c sync sent other =>
      ⟨_, exec_delayResp seq sec tick frac on, s.delayResp_parts t1 slave sync sent other sec.isLt⟩⟩⟩
  case burst =>
    obtain ⟨dropped, forwarded, other, near⟩ := s.lpBeaconHeard_cases at_ good
    exact ⟨fun beacon role => exec_of_effect (exec_beaconBurstReceived on) (dropped beacon role),
      fun beacon role others hops role' up room => ⟨_, exec_beaconBurstReceived on, forwarded beacon role others hops role' up room⟩,
      fun typ far => exec_of_effect (exec_beaconBurstReceived on) (other typ far),
      fun link => exec_of_effect (exec_beaconBurstReceived on) (near link)⟩
  case up =>
    obtain ⟨link, fwd, idle⟩ := s.lpBoundary_sends up
    exact ⟨fun bad => ⟨_, exec_lineBlockReceived on, s.lineBlock_bad_counts up bad⟩,
      fun b good typ first last mine => ⟨_, exec_lineBlockReceived on, s.lineBlock_user up good typ first last mine⟩,
      fun replay => ⟨_, exec_confirm on up, s.lpConfirm_held p.val u replay⟩,
      fun replay => ⟨_, exec_confirm on up, fun r mem live => s.lpConfirm_retires p.val u replay mem live⟩,
      fun q whole => exec_of_effect (exec_mgmtDown on up) (State.lineBytes_whole _ _ whole), exec_userDown on up,
      fun b l some_ plain => ⟨_, exec_schedBlockChoice on, link b l some_ plain⟩,
      fun b l none some_ => ⟨_, exec_schedBlockChoice on, fwd b l none some_⟩,
      fun none none' none'' halted => ⟨_, exec_schedBlockChoice on, idle none none' none'' halted⟩⟩

end Sys2Proof.Machine
end

section
/-! Taking an exception: what its entry writes, and the operations and words that raise one (R127, R385, R394, R395, R399, R400). -/

namespace Sys2Proof.Machine

/-! ### The entry -/

/-- The exception registers after an entry (R400). -/
theorem State.enter_regs (s : State) (k : Nat) (x : Cause) (reta faddr : Word) :
    let t := s.enter k x reta faddr
    t.reg .CORE_RETA k = reta &&& 0xFFFFFFFC#32 ∧ t.reg .CORE_CAUSE k = BitVec.ofNat 32 x.code ∧ t.reg .CORE_FADDR k = faddr
      ∧ t.reg .CORE_SSTAT k = s.reg .CORE_STATUS k &&& 7#32 := by
  refine ⟨?_, ?_, ?_, ?_⟩ <;> simp [State.enter, State.reg_setFld_ite, State.reg_setReg_ite]

/-- An entry clears IE and sets HND (R400). -/
theorem State.enter_status (s : State) (k : Nat) (x : Cause) (reta faddr : Word) :
    (s.enter k x reta faddr).flag F.CORE_STATUS_IE k = false ∧ (s.enter k x reta faddr).flag F.CORE_STATUS_HND k = true := by
  constructor
  · rw [State.flag, State.enter, State.fld_setPc, State.fld_setFld_of_disjoint _ _ _ _ _ _ (by decide) (by decide),
      State.fld_setFld _ _ _ _ (by decide) (by decide)]
    rfl
  · rw [State.flag, State.enter, State.fld_setPc, State.fld_setFld _ _ _ _ (by decide) (by decide)]
    rfl

/-- An entry goes to the handler of its code (R400). -/
theorem State.enter_pc (s : State) (k : Nat) (x : Cause) (reta faddr : Word) :
    (s.enter k x reta faddr).pcOf k = s.reg .CORE_HBASE k + BitVec.ofNat 32 (x.code * 0x20) := by
  simp [State.enter, State.reg_setFld_ite, State.reg_setReg_ite]

/-- An entry leaves the general registers, the accumulators and the memory as they were. -/
theorem State.enter_frame (s : State) (k : Nat) (x : Cause) (reta faddr : Word) :
    let t := s.enter k x reta faddr
    t.core.gpr = s.core.gpr ∧ t.core.acc = s.core.acc ∧ t.mem = s.mem := by
  refine ⟨?_, ?_, ?_⟩ <;> simp [State.enter, State.setPc]

/-- Outside a handler an exception is its entry (R400). -/
theorem State.except_enter {s : State} {k : Nat} (h : s.flag F.CORE_STATUS_HND k = false) (x : Cause) (reta faddr : Word) :
    s.except k x reta faddr = s.enter k x reta faddr := if_neg (by simp [h])

/-! ### Who halts a core -/

/-- An attached debug session reaches the cores of CL0 in DEVELOPMENT and after DEBUG_OPEN, and the others always (R127). -/
theorem State.debugReach_iff (s : State) (k : Nat) :
    s.debugReach k = true ↔ s.core.debug = true ∧ (s.security = 0 ∨ k / 8 ≠ 0 ∨ s.hcp.debugScope.isSome = true) := by
  simp [State.debugReach, clusterOf, or_assoc]

/-! ### Operations and words that raise an exception -/

/-- Two fields one behind the other, as a number. -/
theorem toNat_append_eq_add {m n : Nat} (x : BitVec m) (y : BitVec n) : (x ++ y).toNat = x.toNat * 2 ^ n + y.toNat := by
  rw [BitVec.toNat_append, Nat.shiftLeft_eq, Nat.mul_comm, Nat.two_pow_add_eq_or_of_lt y.isLt]

section
variable {s : State} {c : CoreNo}

/-- An operation of OP 0x2A whose unused fields are 0, on a core that takes it. -/
theorem exec_sysOp {f : SysOp} {a b : RegF} {i : Instr} (run : exec i s = .next (s.runLong c (.sys f 0 a b))) (h : s.coreReady c)
    (fields : f = .trap ∨ (a = 0 ∧ b = 0)) :
    exec i s = .next (((s.coreFetched c).runSys (pairOf c.val) f (BitVec.ofNat 32 (a.toNat * 32 + b.toNat))).state (pairOf c.val)).roadDue := by
  have ok : (LOp.sys f 0 a b).fieldsOk = true := by rcases fields with rfl | ⟨rfl, rfl⟩ <;> simp [LOp.fieldsOk]
  rw [run, State.runLong, State.coreRun_of_ready h, State.execLong_control _ _ _ ok rfl rfl]
  rfl

/-- The 10-bit code of TRAP is its two fields one behind the other (R394). -/
theorem trapCode_eq (a b : RegF) : a.toNat * 32 + b.toNat = (a ++ b).toNat := (toNat_append_eq_add a b).symm

/-- A long operation with an unused field that is not 0 is illegal, with its word in FADDR (R394, R399). -/
theorem exec_unusedField {op : LOp} {i : Instr} (run : exec i s = .next (s.runLong c op)) (h : s.coreReady c) (bad : op.fieldsOk = false) :
    exec i s = .next ((s.coreFetched c).except (pairOf c.val) .illegal ((s.coreFetched c).pcOf (pairOf c.val)) op.encode).roadDue := by
  have illegal (k : Nat) (u : State) : State.execLong op {} k u = .fault u .illegal op.encode := by simp [State.execLong, bad]
  rw [run, State.runLong, State.coreRun_of_ready h, illegal]
  rfl

/-- The word of ABSQ15 by its fields (R394). -/
theorem encode_absq15 (rd a b : RegF) : (LOp.rr .absq15 rd a b).encode = 0#1 ++ 1#6 ++ rd ++ a ++ b ++ 3#10 := by
  have hrd := rd.isLt
  have ha := a.isLt
  have hb := b.isLt
  apply BitVec.eq_of_toNat_eq
  simp only [toNat_append_eq_add, LOp.encode, encRR, AluOp.code, BitVec.toNat_ofNat]
  omega

/-- A word that no row lists is illegal, with the word in FADDR (R385, R394, R395, R399). -/
theorem exec_unlistedWord {w : Word} {i : Instr} (run : exec i s = .next (s.runWord c w)) (h : s.coreReady c)
    (unlisted : (w.msb = false ∧ decodeLong w = none) ∨ (w.msb = true ∧ decodeSlot (w.extractLsb' 16 15) = none)) :
    exec i s = .next ((s.coreFetched c).except (pairOf c.val) .illegal ((s.coreFetched c).pcOf (pairOf c.val)) w).roadDue := by
  have illegal (k : Nat) (u : State) : State.execWord w k u = .fault u .illegal w := by
    rcases unlisted with ⟨long, none_⟩ | ⟨pair, none_⟩
    · simp [State.execWord, long, none_]
    · simp [State.execWord, pair, none_]
  rw [run, State.runWord, State.coreRun_of_ready h, illegal]
  rfl

end

/-- Settles O14: the entry writes the exception registers, and TRAP, BRK and the illegal words end in it. -/
theorem exceptionEntry : Obligations.ExceptionEntry := by
  unfold Obligations.ExceptionEntry
  intro c rd a b s ready k u
  refine ⟨fun x reta faddr hnd => ?entry, ?trap, fun free => ?brk, fun reached => ?halt, u.debugReach_iff k, fun used => ?field,
    fun w unlisted => exec_unlistedWord (by rfl) ready unlisted⟩
  case entry =>
    intro t
    have ht : t = u.enter k x reta faddr := State.except_enter hnd x reta faddr
    obtain ⟨retaReg, cause, faddrReg, sstat⟩ := u.enter_regs k x reta faddr
    obtain ⟨ie, hnd'⟩ := u.enter_status k x reta faddr
    rw [ht]
    exact ⟨retaReg, cause, faddrReg, sstat, ie, hnd', u.enter_pc k x reta faddr, u.enter_frame k x reta faddr⟩
  case trap =>
    have run := exec_sysOp (f := .trap) (a := a) (b := b) (i := .trap c 0 a b) (by rfl) ready (.inl rfl)
    rw [trapCode_eq] at run
    exact run
  case brk =>
    have run := exec_sysOp (f := .brk) (a := 0) (b := 0) (i := .brk c 0 0 0) (by rfl) ready (.inr ⟨rfl, rfl⟩)
    rw [State.runSys, if_neg (by simp [show (s.coreFetched c).debugReach (pairOf c.val) = false from free])] at run
    exact run
  case halt =>
    have run := exec_sysOp (f := .brk) (a := 0) (b := 0) (i := .brk c 0 0 0) (by rfl) ready (.inr ⟨rfl, rfl⟩)
    obtain ⟨-, -, road⟩ := ready
    rw [State.runSys, if_pos reached] at run
    rw [run]
    exact congrArg _ (State.roadDue_of_none (s := u.halt k) road)
  case field =>
    rw [← encode_absq15]
    exact exec_unusedField (op := .rr .absq15 rd a b) (by rfl) ready (beq_false_of_ne used)

end Sys2Proof.Machine
end

section
/-! The commands of HCP on the real-time clock: writes to the backup domain, one behind another, and the answer behind the last
(R352 to R354, R356). -/

namespace Sys2Proof.Machine

/-! ### What a write that arrives leaves of HCP, of the write on its way and of the power state -/

/-- The second state has the commands of HCP, the write on its way and the power state of the first. -/
def State.KeepsOrders (s t : State) : Prop := t.hcp = s.hcp ∧ t.rtc.wr = s.rtc.wr ∧ t.level = s.level

namespace State.KeepsOrders
variable {s t u : State}

theorem refl : State.KeepsOrders s s := ⟨rfl, rfl, rfl⟩

theorem trans (h : State.KeepsOrders s t) (h' : State.KeepsOrders t u) : State.KeepsOrders s u :=
  ⟨h'.1.trans h.1, h'.2.1.trans h.2.1, h'.2.2.trans h.2.2⟩

/-- The power state is CUR, and whether a wake is under way (R97). -/
theorem of_fields (hcp : t.hcp = s.hcp) (wr : t.rtc.wr = s.rtc.wr) (pwr : t.pwr = s.pwr)
    (cur : t.fld F.SYSCTL_PSTATE_CUR = s.fld F.SYSCTL_PSTATE_CUR) : State.KeepsOrders s t :=
  ⟨hcp, wr, by rw [State.level, pwr, State.cur, cur, State.level, State.cur]⟩

theorem setFld {f : Fld} (h : f.reg ≠ .SYSCTL_PSTATE) (v n : Nat) : State.KeepsOrders s (s.setFld f v n) :=
  of_fields (s.setFld_hcp f v n) (by rw [State.setFld_rtc]) (s.setFld_pwr f v n) (s.fld_setFld_of_ne f _ v n 0 (Ne.symm h))

theorem setReg {r : RegName} (h : r ≠ .SYSCTL_PSTATE) (n : Nat) (v : Word) : State.KeepsOrders s (s.setReg r n v) :=
  of_fields rfl rfl rfl (State.fld_congr (State.reg_setReg_of_ne s r .SYSCTL_PSTATE n 0 v (.inl (Ne.symm h))))

theorem onRtc {f : RtcState → RtcState} (h : ∀ x, (f x).wr = x.wr) : State.KeepsOrders s (s.onRtc f) :=
  of_fields rfl (h s.rtc) rfl rfl

theorem fresh (n : Nat) : State.KeepsOrders s (s.fresh n).2 := of_fields rfl rfl rfl rfl

theorem of_rung (h : State.Rung s t) : State.KeepsOrders s t := by
  obtain ⟨reg, pwr, hcp, -, rtc⟩ := h
  exact of_fields hcp (congrArg RtcState.wr rtc :) pwr (State.fld_congr (reg .SYSCTL_PSTATE 0 (by decide)))

theorem setCal (x : Nat) : State.KeepsOrders s (s.setCal x) :=
  of_fields (s.setCal_hcp x) (by rw [State.setCal_rtc]) (s.setCal_pwr x) (State.fld_congr (s.reg_setCal x (by decide) (by decide) 0))

/-- No write of a register changes SYSCTL_PSTATE: it has no bit for software, and no block's WLOCK flag. -/
theorem regStore (r : RegName) (n : Nat) (running : Bool) (w : Word) : State.KeepsOrders s (s.regStore r n running w) := by
  have rows : ∀ row ∈ regTable, row.wlock ≠ some .SYSCTL_PSTATE := by decide +kernel
  have readOnly : (regRow .SYSCTL_PSTATE).rw = 0 ∧ (regRow .SYSCTL_PSTATE).w1c = 0 := by decide +kernel
  have apart : wlockOf r n ≠ some (.SYSCTL_PSTATE, 0) := by
    have row := rows _ (regRow_mem r)
    unfold wlockOf
    cases hw : (regRow r).wlock with
    | none => simp
    | some x => rw [hw] at row; intro e; simp at e; simp [e.1] at row
  have kept : (s.regStore r n running w).reg .SYSCTL_PSTATE 0 = s.reg .SYSCTL_PSTATE 0 := by
    rw [State.reg_regStore_ite s running w apart]
    split
    · next e =>
      obtain ⟨rfl, rfl⟩ := e
      refine BitVec.eq_of_getLsbD_eq fun i hi => ?_
      simp [State.getLsbD_storedWord _ _ _ _ _ _ hi, readOnly.1, readOnly.2]
    · rfl
  have frame := s.regStore_frame r n running w
  exact of_fields (by rw [frame]) (by rw [frame]) (by rw [frame]) (State.fld_congr kept)

/-- The end of the clock's exchange leaves CUR as it is. -/
theorem exchClose (e : Exch) : State.KeepsOrders s (s.exchClose e) :=
  of_fields (s.setFld_hcp _ _ _) (by rw [State.exchClose, State.setExch, State.setFld_rtc]) (s.setFld_pwr _ _ _)
    (State.fld_setFld_of_disjoint _ _ _ _ _ _ (by decide) (by decide))

theorem rtcHalt : State.KeepsOrders s s.rtcHalt := by
  unfold State.rtcHalt
  split
  · exact refl
  · exact (setFld (by decide) _ _).trans ((setReg (by decide) _ _).trans (onRtc fun _ => rfl))

theorem rtcRelease : State.KeepsOrders s s.rtcRelease := by
  unfold State.rtcRelease
  split
  · exact refl
  · split
    · exact setFld (by decide) _ _
    · have started : State.KeepsOrders s (((s.setFld F.RTC_CTRL_HALT 0).setCal s.calSec).setReg .RTC_SUB 0 0) :=
        (setFld (by decide) _ _).trans ((setCal _).trans (setReg (by decide) _ _))
      refine .trans ?_ (onRtc fun _ => rfl)
      split
      · exact started.trans (of_rung (State.rung_alarmsAdjust _ _ _))
      · exact started

theorem calAdjust (d : Int) : State.KeepsOrders s (s.calAdjust d) := by
  have undone := of_rung s.rung_edgeUndo
  unfold State.calAdjust
  generalize s.edgeUndo = e at undone ⊢
  obtain ⟨old, u⟩ := e
  have moved : State.KeepsOrders s (if (s.calSec : Int) + d < 0 then u.fresh calRange else (((s.calSec : Int) + d).toNat, u)).2 := by
    split
    · exact undone.trans (fresh _)
    · exact undone
  dsimp only
  generalize (if (s.calSec : Int) + d < 0 then u.fresh calRange else (((s.calSec : Int) + d).toNat, u)) = m at moved ⊢
  obtain ⟨t, v⟩ := m
  refine (moved.trans (setCal t)).trans (.trans ?_ ((of_rung (State.rung_alarmsAdjust _ old t)).trans (onRtc fun _ => rfl)))
  split
  · exact setFld (by decide) _ _
  · exact refl

theorem wdaySet : State.KeepsOrders s s.wdaySet := by
  unfold State.wdaySet
  dsimp only
  split
  · exact setFld (by decide) _ _
  · exact (fresh 8).trans (setFld (by decide) _ _)

/-- A write that arrives keeps what HCP has ordered. -/
theorem rtcApply (r : RegName) (n : Nat) (w : Word) : State.KeepsOrders s (s.rtcApply r n w) := by
  unfold State.rtcApply
  split
  case h_1 =>
    have clocked : State.KeepsOrders s (if bit w.toNat 0 then s.rtcHalt else s.rtcRelease) := by
      split
      · exact rtcHalt
      · exact rtcRelease
    dsimp only
    split
    · exact clocked.trans (setFld (by decide) _ _)
    · exact clocked
  case h_2 =>
    dsimp only
    split
    · exact regStore _ _ _ _
    · exact (regStore _ _ _ _).trans wdaySet
  case h_3 => exact calAdjust _
  case h_4 =>
    dsimp only
    split
    · exact regStore _ _ _ _
    · split
      · exact regStore _ _ _ _
      · exact (regStore _ _ _ _).trans (exchClose _)
  case h_5 =>
    dsimp only
    split
    · exact regStore _ _ _ _
    · exact (regStore _ _ _ _).trans (setFld (by decide) _ _)
  case h_6 => exact regStore _ _ _ _

end State.KeepsOrders

/-- In LISTEN and RUN a write arrives and wakes nobody: what HCP has ordered stands, and no write is on its way (R352, R356). -/
theorem State.arrived_orders (s : State) (level : s.level ≤ 1) (r : RegName) (n : Nat) (w : Word) :
    (State.alarmWake s (s.written r n w)).hcp = s.hcp ∧ (State.alarmWake s (s.written r n w)).rtc.wr = none := by
  obtain ⟨hcp, wr, level'⟩ : State.KeepsOrders s.wrClear (s.written r n w) := .rtcApply r n w
  rcases State.alarmWake_on s (s.written r n w) (level'.trans_le level) with e | e <;> rw [e]
  · exact ⟨hcp, wr⟩
  · refine ⟨Eq.trans ?_ hcp, by rw [State.exchOpen_rtc]; exact wr⟩
    simp [State.exchOpen, State.entryDrop, State.setExch]

/-! ### The next command -/

/-- The word that sets out for a write: a capture leaves HALT as it is (R354). -/
def State.sentWrite (s : State) (y : RegName × Nat × Word) : RegName × Nat × Word :=
  (y.1, y.2.1, if y.1 = .RTC_CTRL ∧ y.2.2 = 0x100 then y.2.2 ||| (s.reg .RTC_CTRL &&& 1) else y.2.2)

theorem State.sentWrite_plain (s : State) {y : RegName × Nat × Word} (h : y.1 ≠ .RTC_CTRL ∨ y.2.2 ≠ 0x100) : s.sentWrite y = y := by
  rw [State.sentWrite, if_neg (by tauto)]

section
variable {s : State} {o : RtcOrder} {rest : List RtcOrder}

/-- While a write is on its way the commands wait (R352). -/
theorem State.rtcNext_busy (k : Nat) (busy : s.rtc.wr.isSome = true) : State.rtcNext k s = s := by
  cases k with
  | zero => rfl
  | succ k =>
    rw [State.rtcNext]
    split
    · rfl
    · rw [if_pos busy]

/-- The next write of the first command sets out (R352). -/
theorem State.rtcNext_sends (k : Nat) {y : RegName × Nat × Word} {l : List (RegName × Nat × Word)} (idle : s.rtc.wr = none)
    (queue : s.hcp.rtc = o :: rest) (writes : o.writes = y :: l) :
    State.rtcNext (k + 1) s =
      { s with rtc := { s.rtc with wr := some (s.sentWrite y) }, hcp := { s.hcp with rtc := { o with writes := l } :: rest } } := by
  simp [State.rtcNext, queue, idle, writes, State.onRtc, State.onHcp, State.sentWrite]

/-- A command other than RTC_READ, the only one, is answered once its writes have arrived: RTC_SET by whether the calendar runs (R353). -/
theorem State.rtcNext_answers (idle : s.rtc.wr = none) (queue : s.hcp.rtc = [o]) (writes : o.writes = []) (op : o.op ≠ 0x0703) :
    State.rtcNext 1 s = ({ s with hcp := { s.hcp with rtc := [] } } : State).reply o.hdr o.op
      (if o.op = 0x0704 ∧ s.flag F.RTC_CTRL_HALT then .badParam else .ok) := by
  simp [State.rtcNext, queue, idle, writes, op, State.onHcp]

/-- RTC_READ, the only command, is answered with the copy once that is complete (R354). -/
theorem State.rtcNext_reads (idle : s.rtc.wr = none) (queue : s.hcp.rtc = [o]) (writes : o.writes = []) (op : o.op = 0x0703)
    (copied : s.flag F.RTC_STAT_CAP_BUSY = false) :
    State.rtcNext 1 s = ({ s with hcp := { s.hcp with rtc := [] } } : State).reply o.hdr 0x0703 .ok
      ({ s with hcp := { s.hcp with rtc := [] } } : State).calBytes := by
  simp [State.rtcNext, queue, idle, writes, op, copied, State.onHcp]

end

/-! ### Setting out, arriving, and the end of a copy -/

theorem State.rtcOrder_idle (s : State) (h : Hdr) (op : Nat) (y : RegName × Nat × Word) (l : List (RegName × Nat × Word))
    (idle : s.rtc.wr = none) (queue : s.hcp.rtc = []) :
    s.rtcOrder h op (y :: l) = { s with rtc := { s.rtc with wr := some (s.sentWrite y) }, hcp := { s.hcp with rtc := [⟨h, op, l⟩] } } := by
  have first : (s.onHcp fun x => { x with rtc := x.rtc ++ [⟨h, op, y :: l⟩] }).hcp.rtc = [⟨h, op, y :: l⟩] := by simp [queue]
  unfold State.rtcOrder
  dsimp only
  rw [first]
  exact State.rtcNext_sends (s := s.onHcp fun x => { x with rtc := x.rtc ++ [⟨h, op, y :: l⟩] }) 0 idle first rfl

theorem State.rtcOrder_busy (s : State) (h : Hdr) (op : Nat) (l : List (RegName × Nat × Word)) (busy : s.rtc.wr.isSome = true) :
    s.rtcOrder h op l = { s with hcp := { s.hcp with rtc := s.hcp.rtc ++ [⟨h, op, l⟩] } } :=
  State.rtcNext_busy (s := s.onHcp fun x => { x with rtc := x.rtc ++ [⟨h, op, l⟩] }) _ busy

/-- A write of a command arrives and the next one sets out (R352). -/
theorem State.rtcWriteDone_sends (s : State) {o : RtcOrder} {rest : List RtcOrder} {r : RegName} {n : Nat} {w : Word} {y : RegName × Nat × Word}
    {l : List (RegName × Nat × Word)} (level : s.level ≤ 1) (hw : s.rtc.wr = some (r, n, w)) (queue : s.hcp.rtc = o :: rest)
    (writes : o.writes = y :: l) (plain : y.2.2 ≠ 0x100#32) :
    let a := State.alarmWake s (s.written r n w)
    s.rtcWriteDone = { a with rtc := { a.rtc with wr := some y }, hcp := { a.hcp with rtc := { o with writes := l } :: rest } } := by
  intro a
  obtain ⟨hcp, idle⟩ : a.hcp = s.hcp ∧ a.rtc.wr = none := s.arrived_orders level r n w
  have queue' : a.hcp.rtc = o :: rest := by rw [hcp, queue]
  rw [s.rtcWriteDone_eq hw, show (State.alarmWake s (s.written r n w)).hcp.rtc.length = rest.length + 1 from congrArg List.length queue',
    State.rtcNext_sends _ idle queue' writes, a.sentWrite_plain (.inr plain)]

/-- The last write of the only command arrives, and the command is answered (R352, R353). -/
theorem State.rtcWriteDone_answers (s : State) {o : RtcOrder} {r : RegName} {n : Nat} {w : Word} (level : s.level ≤ 1)
    (hw : s.rtc.wr = some (r, n, w)) (queue : s.hcp.rtc = [o]) (writes : o.writes = []) (op : o.op ≠ 0x0703) :
    let a := State.alarmWake s (s.written r n w)
    s.rtcWriteDone = ({ a with hcp := { a.hcp with rtc := [] } } : State).reply o.hdr o.op
      (if o.op = 0x0704 ∧ a.flag F.RTC_CTRL_HALT then .badParam else .ok) := by
  intro a
  obtain ⟨hcp, idle⟩ : a.hcp = s.hcp ∧ a.rtc.wr = none := s.arrived_orders level r n w
  have queue' : a.hcp.rtc = [o] := by rw [hcp, queue]
  rw [s.rtcWriteDone_eq hw, show (State.alarmWake s (s.written r n w)).hcp.rtc.length = 1 from congrArg List.length queue',
    State.rtcNext_answers idle queue' writes op]

/-- The copy is complete, and no command has been answered yet (R354). -/
def State.copied (s : State) : State :=
  ((s.rtcCapture.inputFree 185).setFld F.RTC_STAT_CAP_BUSY 0).onRtc fun x => { x with capAt := some s.cyc }

theorem State.rtcCaptureDone_eq (s : State) (busy : s.flag F.RTC_STAT_CAP_BUSY = true) :
    s.rtcCaptureDone = State.rtcNext s.copied.hcp.rtc.length s.copied := if_neg (by simp [busy])

theorem State.copied_clock (s : State) :
    s.copied.flag F.RTC_STAT_CAP_BUSY = false ∧ s.copied.reg .RTC_CAPTIME = s.reg .RTC_TIME ∧ s.copied.reg .RTC_CAPDATE = s.reg .RTC_DATE
      ∧ s.copied.reg .RTC_CAPSUB = s.reg .RTC_SUB ∧ s.copied.hcp = s.hcp ∧ s.copied.rtc.wr = s.rtc.wr := by
  obtain ⟨time, date, sub, rtc, -, hcp, -, -, -⟩ := s.rtcCapture_regs
  have kept (r : RegName) (hr : r ≠ .RTC_STAT) : s.copied.reg r = s.rtcCapture.reg r := by
    rw [State.copied, State.reg_congr (State.onRtc_regs _ _), State.reg_setFld_ite, if_neg (fun e => hr e.1)]
    rfl
  refine ⟨?_, by rw [kept _ (by decide), time], by rw [kept _ (by decide), date], by rw [kept _ (by decide), sub], ?_, ?_⟩
  · rw [State.copied, State.flag_congr (State.reg_congr (State.onRtc_regs _ _) _ _), State.flag, State.fld_setFld _ _ _ _ (by decide) (by decide)]
    decide
  · rw [State.copied, State.onRtc_hcp, State.setFld_hcp]; exact hcp
  · rw [State.copied, State.onRtc_rtc, State.setFld_rtc]; exact (congrArg RtcState.wr rtc :)

/-- RTC_READ is answered at the end of its copy (R354). -/
theorem State.rtcCaptureDone_answers (s : State) {o : RtcOrder} (idle : s.rtc.wr = none) (queue : s.hcp.rtc = [o]) (writes : o.writes = [])
    (op : o.op = 0x0703) (busy : s.flag F.RTC_STAT_CAP_BUSY = true) :
    ∃ t : State, s.rtcCaptureDone = t.reply o.hdr 0x0703 .ok t.calBytes ∧ t.flag F.RTC_STAT_CAP_BUSY = false
      ∧ t.reg .RTC_CAPTIME = s.reg .RTC_TIME ∧ t.reg .RTC_CAPDATE = s.reg .RTC_DATE ∧ t.reg .RTC_CAPSUB = s.reg .RTC_SUB := by
  obtain ⟨done, time, date, sub, hcp, wr⟩ := s.copied_clock
  have queue' : s.copied.hcp.rtc = [o] := by rw [hcp, queue]
  refine ⟨{ s.copied with hcp := { s.copied.hcp with rtc := [] } }, ?_, done, time, date, sub⟩
  rw [s.rtcCaptureDone_eq busy, queue']
  exact State.rtcNext_reads (wr.trans idle) queue' writes op done

end Sys2Proof.Machine
end

section
/-! HCP commands of the diagnostic and time groups, and what happens to a command that is not served
(R122, R127, R134, R142, R143, R146, R150, R331, R352 to R354, R488). -/

namespace Sys2Proof.Machine

/-! ### A command that is not served -/

section
variable {s : State} {c : CmdHead} {op : Nat} {p d : Bytes}

/-- A transport that takes no commands ignores them (R123). -/
theorem State.hcpCmd_ignored (off : s.serves c.tp = false) : s.hcpCmd c op p d = s := if_pos (by simp [off])

theorem State.hcpCmd_received (on : s.serves c.tp = true) :
    s.hcpCmd c op p d = (s.hostUse c.tp).hcpTake (s.cmdHdr c op p d) (c.pkt op p d).flags op p d := by
  refine (if_neg (by simp [on])).trans ?_
  rw [c.bodyPar_pkt]
  rfl

/-- The head of a command passes the checks of FLAGS and SEQ (R134). -/
theorem CmdHead.headOk (seq : c.seq ≠ 0xFFFF#16) :
    ¬(bits (c.pkt op p d).flags 7 4 ≠ 0 ∨ bits (c.pkt op p d).flags 2 0 ≠ 0 ∨ (s.cmdHdr c op p d).seq = 0xFFFF) := by
  obtain ⟨high, low⟩ := c.flags_pkt op p d
  have seq' : (s.cmdHdr c op p d).seq ≠ 0xFFFF := fun e => seq (BitVec.eq_of_toNat_eq e)
  simp [high, low, seq']

/-- A repeat gets the remembered reply again, or nothing while there is none (R146). -/
theorem State.hcpCmd_repeat (on : s.serves c.tp = true) (seq : c.seq ≠ 0xFFFF#16) {m : Remembered}
    (found : (((s.hostUse c.tp).tp c.tp).memory.find? fun m => m.seq == (s.cmdHdr c op p d).seq && m.crc == (s.cmdHdr c op p d).crc) = some m) :
    (m.reply = none → s.hcpCmd c op p d = s.hostUse c.tp)
      ∧ ∀ q, m.reply = some q → s.hcpCmd c op p d = (s.hostUse c.tp).putPkt c.tp q := by
  have tp : (s.cmdHdr c op p d).tp = c.tp := rfl
  constructor
  · intro none_
    rw [State.hcpCmd_received on, State.hcpTake, if_neg (c.headOk seq), tp, found]
    simp only [none_]
  · intro q some_
    rw [State.hcpCmd_received on, State.hcpTake, if_neg (c.headOk seq), tp, found]
    simp only [some_]

/-- A new command without a slot or room for its reply is answered BUSY (R148). -/
theorem State.hcpCmd_busy (on : s.serves c.tp = true) (seq : c.seq ≠ 0xFFFF#16)
    (new : (((s.hostUse c.tp).tp c.tp).memory.find? fun m => m.seq == (s.cmdHdr c op p d).seq && m.crc == (s.cmdHdr c op p d).crc) = none)
    (full : (s.hostUse c.tp).takesCmd c.tp = false) :
    s.hcpCmd c op p d = ((s.hostUse c.tp).reply (s.cmdHdr c op p d) op .busy).refused (s.cmdHdr c op p d) .busy := by
  have tp : (s.cmdHdr c op p d).tp = c.tp := rfl
  rw [State.hcpCmd_received on, State.hcpTake, if_neg (c.headOk seq), tp, new]
  exact if_neg (by simp [full])

/-- A new command that a check refuses is answered with its status (R134). -/
theorem State.hcpCmd_refused (h : s.cmdNew c op p d) {st : Status} (ready : st ≠ .busy)
    (why : (((s.hostUse c.tp).takeSlot c.tp).memorise (s.cmdHdr c op p d)).hcpRefusal (s.cmdHdr c op p d) op p d = some st) :
    s.hcpCmd c op p d = ((((s.hostUse c.tp).takeSlot c.tp).memorise (s.cmdHdr c op p d)).reply (s.cmdHdr c op p d) op st).refused
      (s.cmdHdr c op p d) st := by
  obtain ⟨on, seq, new, takes⟩ := h
  have tp : (s.cmdHdr c op p d).tp = c.tp := rfl
  rw [State.hcpCmd_received on, State.hcpTake, if_neg (c.headOk seq), tp, new]
  dsimp only
  rw [if_pos takes, State.hcpServe]
  simp only [why]
  rw [if_neg ready]

end

/-- What DEBUG_OPEN is served by. The opcode is a variable: the kernel, given its number, would first compute the shadow of the fuses. -/
theorem State.hcpRun_debugOpen (s : State) (h : Hdr) {op : Nat} (hop : op = 0x0908) (p d : Bytes) :
    s.hcpRun h op p d = s.opDebugOpen h (pByte p 0) := by
  unfold State.hcpRun
  split
  case h_60 => rfl
  case h_61 => contradiction
  all_goals omega

/-- The function of DEBUG_OPEN is off once DEBUG_DISABLE is blown (R152). -/
theorem State.opOff_debugOpen (s : State) {op : Nat} (hop : op = 0x0908) (p : Bytes) : s.opOff op p = s.debugDisabled := by
  unfold State.opOff
  split
  case h_7 => rfl
  case h_8 => contradiction
  all_goals omega

/-- Once DEBUG_DISABLE is blown, DEBUG_OPEN is not available, in Roadside or not (R127, R152). -/
theorem State.hcpRefusal_debugOpen (s : State) (h : Hdr) (p d : Bytes) (blown : s.debugDisabled = true) :
    s.hcpRefusal h 0x0908 p d = some .notAvailable := by
  have row : opRow 0x0908 = some { plen := 1, dmax := 0, a := true, r := true } := by decide
  have off : s.opOff 0x0908 p = true := (s.opOff_debugOpen rfl p).trans blown
  simp [State.hcpRefusal, row, off]

/-! ### Sessions -/

theorem State.tp_sendUnit (s : State) (n typ addr : Nat) (b : Bytes) (t : Tp) : (s.sendUnit n typ addr b).tp t = s.tp t := rfl

/-- A packet that is put into a reply queue leaves the challenge and the session of its transport. -/
theorem State.tp_putPkt (s : State) (t : Tp) (q : Pkt) :
    ((s.putPkt t q).tp t).challenge = (s.tp t).challenge ∧ ((s.putPkt t q).tp t).session = (s.tp t).session := by
  unfold State.putPkt
  split
  · rw [State.tp_sendUnit, State.tp_setTp]
    exact ⟨rfl, rfl⟩
  · rw [State.tp_setTp]
    exact ⟨rfl, rfl⟩

/-- An answer leaves the challenge of its transport (R142). -/
theorem State.answer_challenge (s : State) (h : Hdr) (op fl : Nat) (st : Status) (par data : Bytes) :
    ((s.answer h op fl st par data).tp h.tp).challenge = (s.tp h.tp).challenge := by
  unfold State.answer
  dsimp only
  (repeat' split) <;> rw [(State.tp_putPkt _ _ _).1, State.tp_setTp]

theorem State.reply_challenge (s : State) (h : Hdr) (op : Nat) (st : Status) (par data : Bytes) :
    ((s.reply h op st par data).tp h.tp).challenge = (s.tp h.tp).challenge := s.answer_challenge h op 1 st par data

theorem State.accept_challenge (s : State) (h : Hdr) (op arg : Nat) (par data : Bytes) :
    ((s.accept h op arg par data).tp h.tp).challenge = (s.tp h.tp).challenge := State.answer_challenge _ h op 1 .accepted [] []

theorem State.trialEnd_hcp (s : State) (j : Job) (st : Status) : (s.trialEnd j st).hcp = s.hcp := by
  unfold State.trialEnd
  split
  · exact s.setFld_hcp _ _ _
  · rfl

section
variable {s : State} {id : Nat} {j : Job}

/-- The completion of a job of HCP ends the job and answers it (R145). -/
theorem State.complete_eq (found : Tab.find s.hcp.jobs id = some j) (host : j.isOwn = false) (st : Status) (par data : Bytes) :
    s.complete id st par data =
      ((s.onHcp fun x => { x with jobs := Tab.del x.jobs id, slots := slotsAfter x.slots j }).trialEnd j st).answer j.hdr j.opcode 3 st
        (if par.isEmpty then j.onOk else par) data := by
  simp [State.complete, found, host]

theorem State.complete_jobs (found : Tab.find s.hcp.jobs id = some j) (host : j.isOwn = false) (st : Status) (par data : Bytes) :
    Tab.find (s.complete id st par data).hcp.jobs id = none := by
  rw [State.complete_eq found host, (State.posted_answer _ _ _ _ _ _ _).hcp, State.trialEnd_hcp]
  exact (Tab.find_del _ _ _).trans (if_pos rfl)

theorem State.complete_challenge (found : Tab.find s.hcp.jobs id = some j) (host : j.isOwn = false) (st : Status) (par data : Bytes) :
    ((s.complete id st par data).tp j.hdr.tp).challenge = (s.tp j.hdr.tp).challenge := by
  rw [State.complete_eq found host, State.answer_challenge, State.tp, State.trialEnd_hcp]
  rfl

end

/-- The state in which SESSION_OPEN is judged: the nonce is spent (R142). -/
def State.nonceSpent (s : State) (h : Hdr) (p : Bytes) : State :=
  (s.accept h 0x0902 0 p []).setTp h.tp { (s.accept h 0x0902 0 p []).tp h.tp with challenge := none }

theorem State.nonceSpent_job (s : State) (h : Hdr) (p : Bytes) :
    Tab.find (s.nonceSpent h p).hcp.jobs s.hcp.nextJob = some { hdr := h, opcode := 0x0902, arg := 0, par := p, data := [] } :=
  s.find_accept h 0x0902 0 p []

theorem State.nonceSpent_challenge (s : State) (h : Hdr) (p : Bytes) : ((s.nonceSpent h p).tp h.tp).challenge = none := by
  rw [State.nonceSpent, State.tp_setTp]

/-- A session with a key and a scope begins on a transport (R142). -/
def State.sessionBegin (s : State) (t : Tp) (key : Bytes) (scope : Nat) : State :=
  s.onHcp fun q => { q with tps := Tab.modify q.tps t.num {} fun y =>
    { y with session := some { key, scope, hostCtr := 0, devCtr := 0, fails := 0 } } }

theorem State.tp_sessionBegin (s : State) (t : Tp) (key : Bytes) (scope : Nat) :
    (s.sessionBegin t key scope).tp t = { s.tp t with session := some { key, scope, hostCtr := 0, devCtr := 0, fails := 0 } } := by
  simp [State.sessionBegin, State.tp, State.onHcp, Tab.modify, Tab.getD_put]

/-- SESSION_OPEN without a challenge fails, and its job is over (R142, R143). -/
theorem State.opSessionOpen_none (s : State) (h : Hdr) (p : Bytes) (none_ : (s.tp h.tp).challenge = none) :
    ((s.opSessionOpen h p).tp h.tp).challenge = none ∧ Tab.find (s.opSessionOpen h p).hcp.jobs s.hcp.nextJob = none := by
  have failed : s.opSessionOpen h p = ((s.nonceSpent h p).complete s.hcp.nextJob .authFail).authFailed h.tp := by
    simp only [State.opSessionOpen, State.take, s.accept_challenge, none_]
    rfl
  have job := s.nonceSpent_job h p
  rw [failed, State.authFailed, State.tp_setTp]
  exact ⟨(State.complete_challenge job rfl _ _ _).trans (s.nonceSpent_challenge h p), State.complete_jobs job rfl _ _ _⟩

/-- SESSION_OPEN with the key that challenge and signature give opens the session (R142). -/
theorem State.opSessionOpen_opens (s : State) (h : Hdr) (p : Bytes) {x : Challenge} {key : Bytes} (open_ : (s.tp h.tp).challenge = some x)
    (hkey : s.sessionKey h x p = some key) :
    ((s.opSessionOpen h p).tp h.tp).challenge = none
      ∧ ((s.opSessionOpen h p).tp h.tp).session = some { key, scope := pNat p 64 4, hostCtr := 0, devCtr := 0, fails := 0 } := by
  have opened : s.opSessionOpen h p = ((s.nonceSpent h p).complete s.hcp.nextJob .ok).sessionBegin h.tp key (pNat p 64 4) := by
    simp only [State.opSessionOpen, State.take, s.accept_challenge, open_, hkey]
    rfl
  rw [opened, State.tp_sessionBegin]
  exact ⟨(State.complete_challenge (s.nonceSpent_job h p) rfl _ _ _).trans (s.nonceSpent_challenge h p), rfl⟩

theorem State.opSessionClose_ends (s : State) (h : Hdr) :
    ((s.opSessionClose h).tp h.tp).session = none ∧ (s.opSessionClose h).regs = s.regs ∧ (s.opSessionClose h).mem = s.mem := by
  have posted := s.posted_reply h 0x0903 .ok [] []
  exact ⟨by rw [State.opSessionClose, State.endSession, State.tp_setTp], posted.regs, posted.mem⟩

/-- SESSION_CHALLENGE keeps the nonce and the key that it gives out (R142). -/
theorem State.opChallenge_given (s : State) (h : Hdr) :
    ∃ key, (s.freshBytes 16).1.length = 16
      ∧ ((s.opChallenge h).tp h.tp).challenge = some ⟨(s.freshBytes 16).1, key, pubKey key⟩
      ∧ s.opChallenge h = ((((s.freshBytes 16).2.fresh (p256n - 1)).2).setTp h.tp { s.tp h.tp with
          challenge := some ⟨(s.freshBytes 16).1, key, pubKey key⟩ }).reply h 0x0901 .ok ((s.freshBytes 16).1 ++ pubKey key) := by
  refine ⟨((s.freshBytes 16).2.fresh (p256n - 1)).1 + 1, leBytes_length _ _, ?_, rfl⟩
  rw [State.opChallenge, State.reply_challenge, State.tp_setTp]

/-! ### Registers and debug -/

/-- The address and the count of REG_READ and REG_WRITE (R150). -/
theorem pNat_wordHalf (w : Word) (n : Half) :
    pNat (parWord w ++ parHalf n) 0 4 = w.toNat ∧ pNat (parWord w ++ parHalf n) 4 2 = n.toNat :=
  ⟨pNat_parWord [] (parHalf n) w rfl, by simpa only [List.append_nil] using pNat_parHalf (parWord w) [] n (o := 4) rfl⟩

theorem State.opRegRead_refused (s : State) (h : Hdr) {a n : Nat} {st : Status} (why : s.regRefusal h a n = some st) :
    s.opRegRead h a n = s.reply h 0x0904 st := by rw [State.opRegRead, why]

theorem State.opRegRead_waits (s : State) (h : Hdr) {a n : Nat} (may : s.regRefusal h a n = none) (wait : s.hcpWaits (h, 0x0904, a, n, []) = true) :
    s.opRegRead h a n = { s with hcp := { s.hcp with reads := s.hcp.reads ++ [(h, 0x0904, a, n, [])] } } := by
  rw [State.opRegRead, may]
  exact if_pos wait

theorem State.opRegRead_now (s : State) (h : Hdr) {a n : Nat} (may : s.regRefusal h a n = none) (go : s.hcpWaits (h, 0x0904, a, n, []) = false) :
    s.opRegRead h a n = s.regReadNow h a n := by
  rw [State.opRegRead, may]
  exact if_neg (by simp [go])

theorem State.opRegWrite_refused (s : State) (h : Hdr) {a n : Nat} (d : Bytes) {st : Status} (why : s.regRefusal h a n = some st) :
    s.opRegWrite h a n d = s.reply h 0x0905 st := by rw [State.opRegWrite, why]

theorem State.opRegWrite_waits (s : State) (h : Hdr) {a n : Nat} {d : Bytes} (may : s.regRefusal h a n = none)
    (wait : s.hcpWaits (h, 0x0905, a, n, d) = true) :
    s.opRegWrite h a n d = { s with hcp := { s.hcp with reads := s.hcp.reads ++ [(h, 0x0905, a, n, d)] } } := by
  rw [State.opRegWrite, may]
  exact if_pos wait

theorem State.opRegWrite_now (s : State) (h : Hdr) {a n : Nat} {d : Bytes} (may : s.regRefusal h a n = none)
    (go : s.hcpWaits (h, 0x0905, a, n, d) = false) {st : Option Status} {t : State} (written : s.writeWords a n d = (st, t)) :
    s.opRegWrite h a n d = t.reply h 0x0905 (st.getD .ok) := by
  have now : s.opRegWrite h a n d = s.regWriteNow h a n d := by
    rw [State.opRegWrite, may]
    exact if_neg (by simp [go])
  rw [now, State.regWriteNow, written]
  cases st <;> rfl

theorem State.opDebugOpen_opens (s : State) (h : Hdr) (scope : Nat) (may : s.security = 0 ∨ s.hasScope h 0 = true) :
    (s.opDebugOpen h scope).hcp.debugScope = some scope ∧ (s.opDebugOpen h scope).regs = s.regs ∧ (s.opDebugOpen h scope).mem = s.mem := by
  have posted := (s.onHcp fun x => { x with debugScope := some scope }).posted_reply h 0x0908 .ok [] []
  rw [State.opDebugOpen, if_neg (by rintro ⟨closed, none_⟩; exact may.elim closed fun e => by simp [e] at none_)]
  exact ⟨by rw [posted.hcp]; rfl, posted.regs, posted.mem⟩

/-! ### Time -/

/-- NT_SET of a tick that no second has sets SET_ERR and moves nothing (R331). -/
theorem State.opNtSet_refused (s : State) (h : Hdr) (sec : Word) {tick : Nat} (range : 99999999 < tick) :
    let t := s.opNtSet h sec tick
    t.flag F.NTC_STAT_SET_ERR = true ∧ t.ntSec = s.ntSec ∧ t.ntTick = s.ntTick := by
  have refused : s.opNtSet h sec tick = (s.setFld F.NTC_STAT_SET_ERR 1).reply h 0x0702 .badParam := by
    rw [State.opNtSet, if_pos range, State.ntLoad, if_pos range]
  have posted := (s.setFld F.NTC_STAT_SET_ERR 1).posted_reply h 0x0702 .badParam [] []
  rw [refused]
  refine ⟨?_, ?_, ?_⟩
  · rw [State.flag, posted.fld, State.fld_setFld _ _ _ _ (by decide) (by decide)]; decide
  · rw [State.ntSec, posted.reg, State.reg_setFld_ite, if_neg (by decide), State.ntSec]
  · rw [State.ntTick, posted.fld, State.fld_setFld_of_ne _ _ _ _ _ _ (by decide), State.ntTick]

theorem State.opNtSet_loads (s : State) (h : Hdr) (sec : Word) {tick : Nat} (range : tick ≤ 99999999) :
    s.opNtSet h sec tick = (s.ntLoad sec tick).reply h 0x0702 .ok := if_neg (Nat.not_lt.2 range)

/-- The last byte of an 8-byte calendar, and its first (R360). -/
theorem pByte_calendar (cal : BitVec 64) (l : Bytes) :
    pByte (leBytes 8 cal.toNat ++ l) 7 = cal.toNat / 2 ^ 56 ∧ pByte (leBytes 8 cal.toNat ++ l) 0 = cal.toNat % 256 := by
  have fits := cal.isLt
  constructor
  · simp [pByte, leBytes]
    omega
  · simp [pByte, leBytes]

/-- A command on the clock sets out with its first write, or waits behind the one on its way (R352). -/
theorem exec_order {s u : State} {i : Instr} {h : Hdr} {op : Nat} {y sent : RegName × Nat × Word} {l : List (RegName × Nat × Word)}
    (as : ∀ {t : State}, u.rtcOrder h op (y :: l) = t → exec i s = .next t.done) (word : u.sentWrite y = sent) :
    (u.rtc.wr = none → u.hcp.rtc = [] →
        exec i s = .next ({ u with rtc := { u.rtc with wr := some sent }, hcp := { u.hcp with rtc := [⟨h, op, l⟩] } } : State).done)
      ∧ (u.rtc.wr.isSome = true →
        exec i s = .next ({ u with hcp := { u.hcp with rtc := u.hcp.rtc ++ [⟨h, op, y :: l⟩] } } : State).done) :=
  ⟨fun idle queue => as (word ▸ u.rtcOrder_idle h op y l idle queue), fun busy => as (u.rtcOrder_busy h op _ busy)⟩

/-! ### The commands -/

theorem exec_errRead (c : CmdHead) (v v2 : Byte) (s : State) : exec (.errRead c v v2) s = .next (s.hcpCmd c 0x0900 [v, v2]).done := by rfl
theorem exec_sessionChallenge (c : CmdHead) (s : State) : exec (.sessionChallenge c) s = .next (s.hcpCmd c 0x0901 []).done := by rfl
theorem exec_sessionOpen (c : CmdHead) (e : Bytes) (w : Word) (k g : Bytes) (s : State) :
    exec (.sessionOpen c e w k g) s = .next (s.hcpCmd c 0x0902 (e ++ parWord w ++ k ++ g)).done := by rfl
theorem exec_sessionClose (c : CmdHead) (s : State) : exec (.sessionClose c) s = .next (s.hcpCmd c 0x0903 []).done := by rfl
theorem exec_regRead (c : CmdHead) (w : Word) (n : Half) (s : State) :
    exec (.regRead c w n) s = .next (s.hcpCmd c 0x0904 (parWord w ++ parHalf n)).done := by rfl
theorem exec_regWrite (c : CmdHead) (w : Word) (n : Half) (l : List Word) (s : State) :
    exec (.regWrite c w n l) s = .next (s.hcpCmd c 0x0905 (parWord w ++ parHalf n) (l.flatMap parWord)).done := by rfl
theorem exec_telemetry (c : CmdHead) (s : State) : exec (.telemetry c) s = .next (s.hcpCmd c 0x0906 []).done := by rfl
theorem exec_enterRoadside (c : CmdHead) (w : Word) (s : State) :
    exec (.enterRoadside c w) s = .next (s.hcpCmd c 0x0907 (parWord w)).done := by rfl
theorem exec_debugOpen (c : CmdHead) (v : Byte) (s : State) : exec (.debugOpen c v) s = .next (s.hcpCmd c 0x0908 [v]).done := by rfl
theorem exec_ntRead (c : CmdHead) (s : State) : exec (.ntRead c) s = .next (s.hcpCmd c 0x0701 []).done := by rfl
theorem exec_ntSet (c : CmdHead) (w w2 : Word) (s : State) :
    exec (.ntSet c w w2) s = .next (s.hcpCmd c 0x0702 (parWord w ++ parWord w2)).done := by rfl
theorem exec_rtcRead (c : CmdHead) (s : State) : exec (.rtcRead c) s = .next (s.hcpCmd c 0x0703 []).done := by rfl
theorem exec_rtcSet (c : CmdHead) (cal : BitVec 64) (s : State) :
    exec (.rtcSet c cal) s = .next (s.hcpCmd c 0x0704 (leBytes 8 cal.toNat)).done := by rfl
theorem exec_rtcAlarm (c : CmdHead) (v : Byte) (cal : BitVec 64) (v2 : Byte) (s : State) :
    exec (.rtcAlarm c v cal v2) s = .next (s.hcpCmd c 0x0705 ([v] ++ leBytes 8 cal.toNat ++ [v2])).done := by rfl
theorem exec_trickleCfg (c : CmdHead) (v v2 : Byte) (s : State) :
    exec (.trickleCfg c v v2) s = .next (s.hcpCmd c 0x0706 [v, v2]).done := by rfl

/-- Settles O48: a command that is not served by the check that stops it, a served one by what its opcode does in the state that its checks
leave, and the clock's answers by the write or the copy that they wait for. -/
theorem hcpDiagnosticAndTime : Obligations.HcpDiagnosticAndTime := by
  intro c v v2 n w w2 e k g cal l s ends cmd cb orders
  refine ⟨fun off => exec_of_effect (exec_ping c s) (State.hcpCmd_ignored off), fun on seq m found => ?again,
    fun new h u st hh hu why ready => ?refused,
    fun on seq new full => exec_of_effect (exec_ping c s) (State.hcpCmd_busy on seq new full),
    fun h => exec_of_passes (exec_errRead c v v2 s) h rfl, fun h => ?challenge, fun he hk hg h => ?open_, fun h => ?close, fun h => ?read,
    fun h => ?write, fun h => exec_of_passes (exec_telemetry c s) h rfl, fun h => ?roadside, fun new h u hh hu blown => ?disabled,
    fun h => ?debug, fun h => exec_of_passes (exec_ntRead c s) h rfl, fun h => ?ntSet, fun h => ?rtcRead, fun h => ?rtcSet,
    fun h => ?rtcAlarm, fun h => ?trickle, fun o rest r m x level flush hw queue => ?arrived, fun o rest idle queue writes op busy one => ?copied⟩
  case again =>
    obtain ⟨none_, some_⟩ := State.hcpCmd_repeat on seq found
    exact ⟨fun hm => exec_of_effect (exec_ping c s) (none_ hm), fun q hq => exec_of_effect (exec_ping c s) (some_ q hq)⟩
  case refused =>
    subst hh hu
    exact exec_of_effect (exec_enterRoadside c w s) (State.hcpCmd_refused new ready why)
  case challenge =>
    obtain ⟨key, len, kept, eq⟩ := State.opChallenge_given (s.cmdState c 0x0901 [] []) (s.cmdHdr c 0x0901 [] [])
    exact ⟨_, key, rfl, _, exec_of_passes (exec_sessionChallenge c s) h rfl, len, kept, eq⟩
  case open_ =>
    have as {t : State} := exec_of_passes (t := t) (exec_sessionOpen c e w k g s) h
    have scope : pNat (e ++ parWord w ++ k ++ g) 64 4 = w.toNat := by
      simp only [List.append_assoc]
      exact pNat_parWord e (k ++ g) w he.symm
    refine ⟨fun none_ => ⟨_, as rfl, State.opSessionOpen_none _ _ _ none_⟩, fun x key open_ hkey => ⟨_, as rfl, ?_⟩⟩
    have opened := State.opSessionOpen_opens _ (s.cmdHdr c 0x0902 (e ++ parWord w ++ k ++ g) []) _ open_ hkey
    rwa [scope] at opened
  case close => exact ⟨_, exec_of_passes (exec_sessionClose c s) h rfl, State.opSessionClose_ends _ _⟩
  case read =>
    have as {t : State} := exec_of_passes (t := t) (exec_regRead c w n s) h
    obtain ⟨addr, count⟩ := pNat_wordHalf w n
    generalize s.cmdState c _ _ _ = u, s.cmdHdr c _ _ _ = h at as ⊢
    have run : u.hcpRun h 0x0904 (parWord w ++ parHalf n) [] = u.opRegRead h w.toNat n.toNat := congrArg₂ (u.opRegRead h) addr count
    refine ⟨fun st why => as (run.trans (u.opRegRead_refused h why)), fun may => ⟨fun wait => as (run.trans (u.opRegRead_waits h may wait)),
      fun go r t words => ?_⟩⟩
    have now := run.trans (u.opRegRead_now h may go)
    rw [State.regReadNow, words] at now
    exact ⟨fun b hb => as (by rw [now, hb]), fun st hst => as (by rw [now, hst])⟩
  case write =>
    intro _
    have as {t : State} := exec_of_passes (t := t) (exec_regWrite c w n l s) h
    obtain ⟨addr, count⟩ := pNat_wordHalf w n
    generalize s.cmdState c _ _ _ = u, s.cmdHdr c _ _ _ = h at as ⊢
    have run : u.hcpRun h 0x0905 (parWord w ++ parHalf n) (l.flatMap parWord) = u.opRegWrite h w.toNat n.toNat (l.flatMap parWord) :=
      congrArg₂ (fun a m => u.opRegWrite h a m (l.flatMap parWord)) addr count
    exact ⟨fun st why => as (run.trans (u.opRegWrite_refused h _ why)), fun may => ⟨fun wait => as (run.trans (u.opRegWrite_waits h may wait)),
      fun go st t written => as (run.trans (u.opRegWrite_now h may go written))⟩⟩
  case roadside =>
    have as {t : State} := exec_of_passes (t := t) (exec_enterRoadside c w s) h
    have word : pNat (parWord w) 0 4 = w.toNat := by simpa only [List.append_nil, List.nil_append] using pNat_parWord [] [] w (o := 0) rfl
    generalize s.cmdState c _ _ _ = u, s.cmdHdr c _ _ _ = h at as ⊢
    have run : u.hcpRun h 0x0907 (parWord w) [] = u.opEnterRoadside h w.toNat := congrArg (u.opEnterRoadside h) word
    refine ⟨fun hw out => as (run.trans ?_), fun hw inside => as (run.trans ?_), fun hw => as (run.trans (if_pos ?_))⟩
    · rw [State.opEnterRoadside, if_neg (by rw [hw]; decide), if_neg (by simp [out])]
    · rw [State.opEnterRoadside, if_neg (by rw [hw]; decide), if_pos inside]
    · exact fun same => hw (BitVec.eq_of_toNat_eq same)
  case disabled =>
    subst hh hu
    exact exec_of_effect (exec_debugOpen c v s) (State.hcpCmd_refused new (by decide) (State.hcpRefusal_debugOpen _ _ _ _ blown))
  case debug =>
    have as {t : State} := exec_of_passes (t := t) (exec_debugOpen c v s) h
    generalize s.cmdState c _ _ _ = u, s.cmdHdr c _ _ _ = h at as ⊢
    have run : u.hcpRun h 0x0908 [v] [] = u.opDebugOpen h v.toNat := u.hcpRun_debugOpen h rfl [v] []
    exact ⟨fun may => ⟨_, as run, u.opDebugOpen_opens h v.toNat may⟩, fun closed scope => as (run.trans (if_pos ⟨closed, by simp [scope]⟩))⟩
  case ntSet =>
    have as {t : State} := exec_of_passes (t := t) (exec_ntSet c w w2 s) h
    have sec : pWord (parWord w ++ parWord w2) 0 = w := pWord_parWord [] (parWord w2) w rfl
    have tick : pNat (parWord w ++ parWord w2) 4 4 = w2.toNat := by simpa only [List.append_nil] using pNat_parWord (parWord w) [] w2 (o := 4) rfl
    generalize s.cmdState c _ _ _ = u, s.cmdHdr c _ _ _ = h at as ⊢
    have run : u.hcpRun h 0x0702 (parWord w ++ parWord w2) [] = u.opNtSet h w w2.toNat := congrArg₂ (u.opNtSet h) sec tick
    exact ⟨fun range => as (run.trans (u.opNtSet_loads h w range)), fun range => ⟨_, as run, u.opNtSet_refused h w range⟩⟩
  case rtcRead => exact exec_order (exec_of_passes (exec_rtcRead c s) h) rfl
  case rtcSet =>
    have as {t : State} := exec_of_passes (t := t) (exec_rtcSet c cal s) h
    have last : pByte cb 7 = cal.toNat / 2 ^ 56 := by simpa only [List.append_nil] using (pByte_calendar cal []).1
    generalize s.cmdState c _ _ _ = u, s.cmdHdr c _ _ _ = h at as ⊢
    have run : u.hcpRun h 0x0704 cb [] = u.opRtcSet h cb := rfl
    refine ⟨fun fits => exec_order (fun order => as (run.trans ((if_neg ?_).trans order))) ?_, fun large => as (run.trans (if_pos ?_))⟩
    · omega
    · exact u.sentWrite_plain (.inr (by decide))
    · omega
  case rtcAlarm =>
    beta_reduce
    intro time
    have as {t : State} := exec_of_passes (t := t) (exec_rtcAlarm c v cal v2 s) h
    obtain ⟨last, first⟩ := pByte_calendar cal [v2]
    have flags : pByte ([v] ++ cb ++ [v2]) 9 = v2.toNat := pByte_at ([v] ++ cb) [] v2 rfl
    have alarm : pByte ([v] ++ cb ++ [v2]) 0 = v.toNat := rfl
    have body : ([v] ++ cb ++ [v2]).drop 1 = cb ++ [v2] := rfl
    generalize s.cmdState c _ _ _ = u, s.cmdHdr c _ _ _ = h at as ⊢
    have run : u.hcpRun h 0x0705 ([v] ++ cb ++ [v2]) [] = u.opRtcAlarm h ([v] ++ cb ++ [v2]) := rfl
    unfold State.opRtcAlarm at run
    simp only [flags, alarm, body, last, first, cb] at run
    refine ⟨fun range flag fits mask => exec_order (fun order => as (run.trans ((if_neg ?_).trans order))) ?_, fun large => as (run.trans (if_pos ?_))⟩
    · omega
    · exact u.sentWrite_plain (.inl (by simp))
    · omega
  case trickle =>
    have as {t : State} := exec_of_passes (t := t) (exec_trickleCfg c v v2 s) h
    generalize s.cmdState c _ _ _ = u, s.cmdHdr c _ _ _ = h at as ⊢
    have run : u.hcpRun h 0x0706 [v, v2] [] = u.opTrickle h v.toNat v2.toNat := rfl
    refine ⟨fun current limit => exec_order (fun order => as (run.trans ((if_neg ?_).trans order))) ?_, fun large => as (run.trans (if_pos large))⟩
    · omega
    · exact u.sentWrite_plain (.inl (by simp))
  case arrived =>
    refine ⟨fun y l writes plain => exec_of_effect (exec_rtcWriteDone s) (s.rtcWriteDone_sends level hw queue writes plain),
      fun writes op one => exec_of_effect (exec_rtcWriteDone s) ?_⟩
    subst one
    exact s.rtcWriteDone_answers level hw queue writes op
  case copied =>
    subst one
    obtain ⟨t, answered, done, time, date, sub⟩ := s.rtcCaptureDone_answers idle queue writes op busy
    exact ⟨t, exec_of_effect (exec_rtcCaptureDone s) answered, done, time, date, sub⟩

end Sys2Proof.Machine
end

section
/-! The RF ports: what blanking, readiness and the errors leave of the ports (R158 to R160, R187, R480 to R489). -/

namespace Sys2Proof.Machine

/-! ### Registers after an update of something else -/

@[simp] theorem State.setFld_reg_of_ne (s : State) {r r' : RegName} (h : r' ≠ r) (hi lo v n m : Nat) :
    (s.setFld ⟨r, hi, lo⟩ v n).reg r' m = s.reg r' m := by rw [State.reg_setFld_ite, if_neg (fun e => h e.1)]

@[simp] theorem State.publish_reg (s : State) (p : Nat) (r : RegName) (n : Nat) : (s.publish p).reg r n = s.reg r n :=
  State.reg_congr (s.publish_regs p) r n

@[simp] theorem State.publish_txp (s : State) (p : Nat) : (s.publish p).txp = s.txp := by rw [State.publish_eq]

@[simp] theorem State.onRf_reg (s : State) (f : RfState → RfState) (r : RegName) (n : Nat) : (s.onRf f).reg r n = s.reg r n := rfl
@[simp] theorem State.onTxp_reg (s : State) (f : TxpState → TxpState) (r : RegName) (n : Nat) : (s.onTxp f).reg r n = s.reg r n := rfl
@[simp] theorem State.onFrm_reg (s : State) (f : FrmState → FrmState) (r : RegName) (n : Nat) : (s.onFrm f).reg r n = s.reg r n := rfl
@[simp] theorem State.onErr_reg (s : State) (f : ErrState → ErrState) (r : RegName) (n : Nat) : (s.onErr f).reg r n = s.reg r n := rfl
@[simp] theorem State.onPwr_reg (s : State) (f : PwrState → PwrState) (r : RegName) (n : Nat) : (s.onPwr f).reg r n = s.reg r n := rfl
@[simp] theorem State.onSched_reg (s : State) (f : SchedState → SchedState) (r : RegName) (n : Nat) : (s.onSched f).reg r n = s.reg r n := rfl
@[simp] theorem State.boundary_reg (s : State) (q : RegName) (k : Nat) (r : RegName) (n : Nat) : (s.boundary q k).reg r n = s.reg r n := rfl

/-! ### What lanes and errors leave of the ports -/

/-- What the ports hold beside their synthesisers: the transmit path and the status of each port. -/
def State.front (s : State) : TxpState × (Nat → Word) := (s.txp, fun p => s.reg .RF_STAT p)

theorem State.exc_of_front {s t : State} (h : t.front = s.front) (p : Nat) : t.exc p = s.exc p := by
  rw [State.exc, show t.txp = s.txp from congrArg (·.1) h, State.exc]

theorem State.rfStat_of_front {s t : State} (h : t.front = s.front) (p : Nat) : t.reg .RF_STAT p = s.reg .RF_STAT p :=
  congrFun (congrArg (·.2) h) p

theorem State.front_congr {s t : State} (txp : t.txp = s.txp) (regs : t.regs = s.regs) : t.front = s.front := by
  unfold State.front
  rw [txp]
  simp only [State.reg_congr regs]

@[simp] theorem State.setFld_front (s : State) {r : RegName} (h : r ≠ .RF_STAT) (hi lo v n : Nat) :
    (s.setFld ⟨r, hi, lo⟩ v n).front = s.front := by
  unfold State.front
  rw [State.setFld_txp]
  simp only [s.setFld_reg_of_ne (Ne.symm h)]

@[simp] theorem State.bumpWrap_front (s : State) {r : RegName} (h : r ≠ .RF_STAT) (hi lo n d : Nat) :
    (s.bumpWrap ⟨r, hi, lo⟩ n d).front = s.front := s.setFld_front h hi lo _ n
@[simp] theorem State.bump_front (s : State) {r : RegName} (h : r ≠ .RF_STAT) (hi lo n d : Nat) :
    (s.bump ⟨r, hi, lo⟩ n d).front = s.front := s.setFld_front h hi lo _ n
@[simp] theorem State.publish_front (s : State) (p : Nat) : (s.publish p).front = s.front := State.front_congr (s.publish_txp p) (s.publish_regs p)
@[simp] theorem State.unpublish_front (s : State) (p : Nat) : (s.unpublish p).front = s.front := rfl
@[simp] theorem State.onRf_front (s : State) (f : RfState → RfState) : (s.onRf f).front = s.front := rfl
@[simp] theorem State.onFrm_front (s : State) (f : FrmState → FrmState) : (s.onFrm f).front = s.front := rfl
@[simp] theorem State.onErr_front (s : State) (f : ErrState → ErrState) : (s.onErr f).front = s.front := rfl

theorem State.Posted.front {s t : State} (h : State.Posted s t) : t.front = s.front := State.front_congr (by rw [h]) h.regs

@[simp] theorem State.front_ite (c : Prop) [Decidable c] (a b : State) : (if c then a else b).front = if c then a.front else b.front :=
  apply_ite State.front c a b

@[simp] theorem State.laneOff_front (s : State) (n : Nat) : (s.laneOff n).front = s.front := by simp -implicitDefEqProofs [State.laneOff, State.setLane]

@[simp] theorem State.cutCount_front (s : State) (n : Nat) : (s.cutCount n).front = s.front := by simp -implicitDefEqProofs [State.cutCount]

@[simp] theorem State.laneCut_front (n : Nat) (s : State) : (State.laneCut n s).front = s.front := by
  unfold State.laneCut; split <;> simp -implicitDefEqProofs [State.ctxFree]

@[simp] theorem State.peakUndo_front (s : State) : s.peakUndo.front = s.front := by simp -implicitDefEqProofs [State.peakUndo]

@[simp] theorem State.syncUndo_front (n : Nat) (s : State) : (State.syncUndo n s).front = s.front := by
  unfold State.syncUndo
  split
  · split <;> simp -implicitDefEqProofs
  · split <;> simp -implicitDefEqProofs

/-- Blanking begins with BLANKED up and RX_READY down; what it does to the lanes leaves the ports as they are (R187). -/
theorem State.blank_front (s : State) (p : Nat) :
    (s.blank p).front = ((s.setFld F.RF_STAT_BLANKED 1 p).setFld F.RF_STAT_RX_READY 0 p).front := by
  unfold State.blank
  rw [foldOver_proj State.front _ (fun n t => by simp -implicitDefEqProofs [State.dropWindow, State.setLane]), foldOver_proj State.front _ State.syncUndo_front,
    State.publish_front]

@[simp] theorem State.countClass_front (s : State) (cls : Nat) : (s.countClass cls).front = s.front := by
  have counted : (s.bump (clsField cls)).front = s.front := by unfold clsField; split <;> simp -implicitDefEqProofs
  exact counted

@[simp] theorem State.publishClass_front (s : State) (cls : Nat) : (s.publishClass cls).front = s.front := by simp -implicitDefEqProofs [State.publishClass]

@[simp] theorem State.wantRoadside_front (s : State) (cause : Nat) : (s.wantRoadside cause).front = s.front := by
  unfold State.wantRoadside; split <;> rfl

@[simp] theorem State.renameNotes_front (s : State) (moved : List (Bytes × Bytes)) : (s.renameNotes moved).front = s.front := by
  unfold State.renameNotes
  split
  · rfl
  · refine foldOver_proj State.front _ (fun t u => ?_) _ _
    dsimp only
    split <;> rfl

@[simp] theorem State.layEntries_front (s : State) (slots : List Nat) (es : List LogEntry) : (s.layEntries slots es).front = s.front :=
  State.setFld_front _ (by decide) _ _ _ _

@[simp] theorem State.writeEntry_front (s : State) (slot : Option Nat) (e : LogEntry) : (s.writeEntry slot e).front = s.front := by
  have noted (t : State) (content : Bytes) : (t.notify 3 content).front = t.front := (t.posted_notify 3 content).front
  dsimp only [State.writeEntry]
  split <;> simp -implicitDefEqProofs [noted]

@[simp] theorem State.countIn_front (s : State) (k : Nat) (old new : LogEntry) : (s.countIn k old new).front = s.front := by
  rw [State.countIn, State.publishClass_front]
  split <;> rfl

/-- An error leaves the ports as they are. -/
@[simp] theorem State.raise_front (s : State) (cls code unit : Nat) (info : Word) : (s.raise cls code unit info).front = s.front := by
  dsimp only [State.raise, State.logError]
  (repeat' split) <;> simp -implicitDefEqProofs [State.newEntry, State.logFull]

/-! ### The end of an excursion -/

theorem State.exc_dropExc (s : State) (p : Nat) : (s.dropExc p).exc p = none := by
  rw [State.exc, State.dropExc, State.onTxp_txp, Tab.find_del, if_pos rfl]

/-- A result is posted without a change of the excursions. -/
theorem State.txPost_exc (s : State) (e : TxEntry) (code late airStart p : Nat) : (s.txPost e code late airStart).exc p = s.exc p := by
  have same : (s.txPost e code late airStart).txp.exc = s.txp.exc := by
    unfold State.txPost
    dsimp only
    split
    · split <;> rfl
    · rw [State.pushResult, State.publish_txp]; rfl
  rw [State.exc, same, State.exc]

theorem State.excStop_exc (s : State) (p : Nat) : (s.excStop p).exc p = none := by
  unfold State.excStop
  split
  · assumption
  · exact State.exc_dropExc _ p

/-- A port that PLL0 leaves has no excursion any more (R529). -/
theorem State.excPllLoss_exc (p : Nat) (s : State) : (State.excPllLoss p s).exc p = none := by
  unfold State.excPllLoss
  split
  · assumption
  · split
    · split
      · rw [State.txPost_exc, State.excStop_exc]
      · exact s.excStop_exc p
    · exact s.excStop_exc p

end Sys2Proof.Machine
end

section
/-! RF ports, their synthesisers and attenuation (R158 to R160, R177, R187, R195 to R197, R496). -/

namespace Sys2Proof.Machine

/-! ### One lane among the lanes of a fold -/

/-- In a fold over different lanes, what a lane shows comes from its own turn, when that turn alone changes it. -/
theorem foldOver_at {σ β : Type} (g : σ → β) (f : Nat → σ → σ) (n : Nat) (others : ∀ m s, m ≠ n → g (f m s) = g s) (l : List Nat)
    (once : l.Nodup) (mem : n ∈ l) (s : σ) : ∃ t, g t = g s ∧ g (foldOver f l s) = g (f n t) := by
  induction l generalizing s with
  | nil => cases mem
  | cons m l ih =>
    obtain ⟨fresh, once⟩ := List.nodup_cons.1 once
    by_cases here : m = n
    · subst here
      refine ⟨s, rfl, ?_⟩
      have rest : ∀ (l : List Nat) (t : σ), m ∉ l → g (foldOver f l t) = g t := by
        intro l
        induction l with
        | nil => intros; rfl
        | cons a l ih =>
          intro t absent
          rw [List.mem_cons, not_or] at absent
          rw [foldOver_cons, ih _ absent.2, others a t (Ne.symm absent.1)]
      exact rest l (f m s) fresh
    · obtain ⟨t, same, last⟩ := ih once ((List.mem_cons.1 mem).resolve_left (Ne.symm here)) (f m s)
      exact ⟨t, same.trans (others m s here), last⟩

/-- The registers of its own that a lane's moves write. -/
abbrev RegName.ofLane (r : RegName) : Prop := r = .LANE_STAT ∨ r = .LANE_CTRL ∨ r = .LANE_CNT_CUT

/-- The second state differs from the first in registers of lane n alone, as far as registers go. -/
def State.LaneLocal (n : Nat) (s t : State) : Prop := ∀ r m, ¬(r.ofLane ∧ m = n) → t.reg r m = s.reg r m

namespace State.LaneLocal
variable {n : Nat} {s t u : State}

theorem refl : State.LaneLocal n s s := fun _ _ _ => rfl

theorem trans (h : State.LaneLocal n s t) (h' : State.LaneLocal n t u) : State.LaneLocal n s u := fun r m e => (h' r m e).trans (h r m e)

theorem setFld {r : RegName} (h : r.ofLane) (hi lo v : Nat) : State.LaneLocal n s (s.setFld ⟨r, hi, lo⟩ v n) := by
  intro r' m e
  rw [State.reg_setFld_ite, if_neg]
  rintro ⟨rfl, rfl⟩
  exact e ⟨h, rfl⟩

theorem setLane (v : Nat) : State.LaneLocal n s (s.setLane n v) := setFld (.inl rfl) _ _ _

theorem onRf (h : State.LaneLocal n s t) (f : RfState → RfState) : State.LaneLocal n s (t.onRf f) :=
  h.trans fun r m _ => t.onRf_reg f r m

theorem laneOff : State.LaneLocal n s (s.laneOff n) := by
  unfold State.laneOff
  exact (((((setLane 0).trans (setFld (.inl rfl) _ _ _)).trans (setFld (.inl rfl) _ _ _)).trans (setFld (.inr (.inl rfl)) _ _ _)).trans
    (setFld (.inl rfl) _ _ _)).onRf _

theorem laneSearch : State.LaneLocal n s (s.laneSearch n) := by
  unfold State.laneSearch
  dsimp only
  split
  · exact .trans (fun _ _ _ => rfl) laneOff
  · exact .trans (fun _ _ _ => rfl) (setLane 3)

end State.LaneLocal

theorem State.laneState_setLane (s : State) (n : Nat) {v : Nat} (h : v < 8) : (s.setLane n v).laneState n = v :=
  (s.fld_setFld F.LANE_STAT_STATE v n (by decide) (by decide)).trans (Nat.mod_eq_of_lt h)

theorem State.laneState_congr {s t : State} {n : Nat} (h : t.reg .LANE_STAT n = s.reg .LANE_STAT n) : t.laneState n = s.laneState n :=
  State.fld_congr h

theorem State.bankRuns_congr {s t : State} (h : t.reg .LANE_BANK_STAT 0 = s.reg .LANE_BANK_STAT 0) : t.bankRuns = s.bankRuns :=
  State.flag_congr h

theorem State.rxReady_congr {s t : State} {p : Nat} (h : t.reg .RF_STAT p = s.reg .RF_STAT p) : t.rxReady p = s.rxReady p :=
  State.flag_congr h

theorem State.blanked_congr {s t : State} {p : Nat} (h : t.reg .RF_STAT p = s.reg .RF_STAT p) : t.blanked p = s.blanked p :=
  State.flag_congr h

theorem State.portEnabled_congr {s t : State} {p : Nat} (h : t.reg .RF_STAT p = s.reg .RF_STAT p) : t.portEnabled p = s.portEnabled p :=
  State.flag_congr h

theorem State.mem_lanesOf {s : State} {p n : Nat} : n ∈ s.lanesOf p ↔ n < 128 ∧ s.lanePort n = p := by
  simp [State.lanesOf]

theorem State.nodup_lanesOf (s : State) (p : Nat) : (s.lanesOf p).Nodup := List.nodup_range.filter _

/-! ### Commands -/

section
variable {who : Who} {p : Fin 2} {s : State}

theorem State.writeReg_rfLo (s : State) (cl n : Nat) (w : Word) : s.writeReg cl .RF_LO n w = s.loWrite n w := by
  rw [State.writeReg, if_neg (by decide), if_neg (by decide), if_neg (by decide), if_neg (by decide), if_neg (by decide), State.radioWrite]

theorem State.writeReg_rfCtrl (s : State) (cl n : Nat) (w : Word) : s.writeReg cl .RF_CTRL n w = s.rfCtrlWrite n w := by
  rw [State.writeReg, if_neg (by decide), if_neg (by decide), if_neg (by decide), if_neg (by decide), if_neg (by decide), State.radioWrite]

/-- A write of CLEAR empties the synthesiser table behind the write of the register (R196). -/
theorem State.writeReg_synClear (s : State) (cl n : Nat) (w : Word) :
    s.writeReg cl .RF_SYNCFG n (w ||| 2#32) = (s.regStore .RF_SYNCFG n false (w ||| 2#32)).synClear n := by
  have clear : bit (w ||| 2#32).toNat 1 = true := by
    rw [bit_eq_testBit, BitVec.testBit_toNat, BitVec.getLsbD_or, show (2#32).getLsbD 1 = true from rfl, Bool.or_true]
  rw [State.writeReg, if_neg (by decide), if_neg (by decide), if_neg (by decide), if_neg (by decide), if_neg (by decide), State.radioWrite]
  exact if_pos clear

variable (on : s.sysOn = true)
include on

theorem exec_rfxLoWrite (w : Word) (cl0 : s.rights who.val = [0]) : exec (.rfxLoWrite who p w) s = .next (s.loWrite p.val w).done :=
  exec_of_write on cl0 (by rfl) (s.writeReg_rfLo 0 p.val w) rfl

theorem exec_portEnable (w : Word) (cl0 : s.rights who.val = [0]) : exec (.portEnable who p w) s = .next (s.rfCtrlWrite p.val w).done :=
  exec_of_write on cl0 (by rfl) (s.writeReg_rfCtrl 0 p.val w) rfl

theorem exec_syntabClear (w : Word) (cl0 : s.rights who.val = [0]) :
    exec (.syntabClear who p w) s = .next ((s.regStore .RF_SYNCFG p.val false (w ||| 2#32)).synClear p.val).done :=
  exec_of_write on cl0 (by rfl) (s.writeReg_synClear 0 p.val w) rfl

theorem exec_synLock : exec (.synLock p) s = .next (s.synLock p.val).done := exec_of_effect (by rfl) (s.powered_on _ on)
theorem exec_rxReadyRise : exec (.rxReadyRise p) s = .next (s.rxReadyRise p.val).done := exec_of_effect (by rfl) (s.powered_on _ on)
theorem exec_synLockLoss : exec (.synLockLoss p) s = .next (s.synLockLoss p.val).done := exec_of_effect (by rfl) (s.powered_on _ on)
theorem exec_attenStepDown : exec (.attenStepDown p) s = .next (s.attenDown p.val).done := exec_of_effect (by rfl) (s.powered_on _ on)

theorem exec_attenStepUp (clip high : Bool) : exec (.attenStepUp p ⟨clip, high⟩) s = .next (s.attenUp p.val clip high).done :=
  exec_of_effect (by rfl) (s.powered_on _ on)

theorem exec_synRecalibration (temp : Half) : exec (.synRecalibration p temp) s = .next (s.synRecal p.val temp.toInt false).done :=
  exec_of_effect (by rfl) (s.powered_on _ on)

theorem exec_synRecalForce (temp : Half) : exec (.synRecalForce p temp) s = .next (s.synRecal p.val temp.toInt true).done :=
  exec_of_effect (by rfl) (s.powered_on _ on)

end

/-! ### The synthesiser's move to RFx_LO (R159, R195, R197) -/

@[simp] theorem State.synToLo_reg (s : State) (p : Nat) {r : RegName} (h : r ≠ .RF_SYNSTAT) (n : Nat) : (s.synToLo p).reg r n = s.reg r n :=
  s.setFld_reg_of_ne h _ _ _ _ _

@[simp] theorem State.synToLo_front (s : State) (p : Nat) : (s.synToLo p).front = s.front := s.setFld_front (by decide) _ _ _ _

theorem State.synState_setFld (s : State) (p : Nat) {v : Nat} (h : v < 4) :
    (s.setFld F.RF_SYNSTAT_SYN_STATE v p).fld F.RF_SYNSTAT_SYN_STATE p = v :=
  (s.fld_setFld _ v p (by decide) (by decide)).trans (Nat.mod_eq_of_lt h)

/-- A lock without an excursion is one at RFx_LO, which ends the move and records the temperature (R197). -/
theorem State.synLock_atLo (s : State) {p : Nat} (moving : s.fld F.RF_SYNSTAT_SYN_STATE p = 1) (home : s.exc p = none) (on : s.portEnabled p = true) :
    (s.synLock p).fld F.RF_SYNSTAT_SYN_STATE p = 0 ∧ Tab.find (s.synLock p).rf.loTemp p = some s.rf.temp
      ∧ ∀ j, j ∈ (s.synLock p).rf.toLo → j ≠ p := by
  have lock : s.synLock p = (s.setFld F.RF_SYNSTAT_SYN_STATE 0 p).onRf fun r =>
      { r with toLo := r.toLo.filter (· != p), recal := r.recal.filter (· != p), loTemp := Tab.put r.loTemp p r.temp } := by
    unfold State.synLock
    rw [if_neg (by simp [moving]), home]
    exact if_neg (by simp [on])
  rw [lock]
  refine ⟨s.synState_setFld p (by decide), ?_, fun j mem => ?_⟩
  · rw [State.onRf_rf, Tab.find_put, if_pos rfl, State.setFld_rf]
  · simpa using (List.mem_filter.1 mem).2

/-- The lock of an excursion's move: the channel is listened to, or it is clear (R195, R198). -/
theorem State.synLock_away (s : State) {p : Nat} {x : Excursion} {e : TxEntry} (moving : s.fld F.RF_SYNSTAT_SYN_STATE p = 1)
    (away : s.exc p = some x) (phase : x.phase = .moving) (entry : x.entry = some e) :
    (s.synLock p).exc p = some { x with phase := if x.lbtTicks = 0 then .clear else .locked }
      ∧ (s.synLock p).fld F.RF_SYNSTAT_SYN_STATE p = 2 := by
  have lock : s.synLock p = ((if x.stored then s.synUse p e.freq else s.synStore p e.freq).setFld F.RF_SYNSTAT_SYN_STATE 2 p).setExc p
      { x with phase := if x.lbtTicks = 0 then .clear else .locked } := by
    unfold State.synLock
    rw [if_neg (by simp [moving]), away]
    dsimp only
    rw [phase, entry]
  rw [lock]
  refine ⟨?_, State.synState_setFld _ p (by decide)⟩
  rw [State.exc, State.setExc, State.onTxp_txp, Tab.find_put, if_pos rfl]

/-! ### RFx_LO and RFx_CTRL (R158 to R160) -/

/-- A new LO of an enabled port stands, and the port is not ready until it has locked there (R158, R159). -/
theorem State.loWrite_moves (s : State) {p : Nat} {w : Word} (free : s.portHeld p = false) (on : s.portEnabled p = true) (ok : loOk w.toNat = true) :
    (s.loWrite p w).rfLo p = w.toNat ∧ (s.loWrite p w).rxReady p = false := by
  have regs (r : RegName) (h : r ≠ .RF_SYNSTAT) :
      (s.loWrite p w).reg r p = ((s.setReg .RF_LO p w).setFld F.RF_STAT_RX_READY 0 p).reg r p := by
    unfold State.loWrite
    rw [if_neg (by simp [free]), if_neg (by simp [on]), if_neg (by simp [ok])]
    dsimp only
    (repeat' split)
    · rfl
    · exact State.synToLo_reg _ p h p
    · rfl
    · exact State.synToLo_reg _ p h p
  refine ⟨?_, (State.rxReady_congr (regs .RF_STAT (by decide))).trans (State.flag_setFld_zero _ _ p (by decide) (by decide))⟩
  rw [State.rfLo, regs .RF_LO (by decide), State.setFld_reg_of_ne _ (by decide), State.reg_setReg]

/-- What a write of RFx_CTRL does before EN acts: the attenuation is taken, at once where AGC is off (R160). -/
def State.gainWrite (s : State) (p : Nat) (w : Word) : State :=
  let s1 := (s.setFld F.RF_CTRL_ATTEN (bits w.toNat 10 8) p).setFld F.RF_CTRL_AGC (bits w.toNat 4 4) p
  if bit w.toNat 4 then s1 else s1.setAtten p (bits w.toNat 10 8)

theorem State.rfCtrlWrite_eq (s : State) (p : Nat) (w : Word) : s.rfCtrlWrite p w =
    if bit w.toNat 0 = s.portEnabled p then s.gainWrite p w
    else if s.portHeld p then (s.gainWrite p w).setWlock .RF_CTRL p
    else if !bit w.toNat 0 then (s.gainWrite p w).portDrop p
    else if !loOk (s.rfLo p) then (s.gainWrite p w).setFld F.RF_STAT_RANGE_ERR 1 p
    else (s.gainWrite p w).portOn p := rfl

theorem State.setAtten_cases (s : State) (p v : Nat) :
    s.setAtten p v = s ∨ s.setAtten p v = (s.setFld F.RF_STAT_ATTEN_CUR v p).gainStep p := by
  unfold State.setAtten
  split
  · exact .inl rfl
  · exact .inr rfl

/-- The attenuation has a field of its own beside the flags of a port. -/
theorem State.flag_setAtten (s : State) (p v : Nat) {f : Fld} (h : f.reg = .RF_STAT → f.hi < 8) (n : Nat) :
    (s.setAtten p v).flag f n = s.flag f n := by
  rcases s.setAtten_cases p v with e | e <;> rw [e]
  by_cases stat : f.reg = .RF_STAT
  · exact s.flag_setFld_of_disjoint F.RF_STAT_ATTEN_CUR f v p n (by decide) (.inl (h stat))
  · exact s.flag_setFld_of_ne F.RF_STAT_ATTEN_CUR f v p n stat

theorem State.setAtten_reg (s : State) (p v : Nat) {r : RegName} (h : r ≠ .RF_STAT) (n : Nat) : (s.setAtten p v).reg r n = s.reg r n := by
  rcases s.setAtten_cases p v with e | e <;> rw [e]
  exact s.setFld_reg_of_ne h _ _ _ _ _

theorem State.gainWrite_reg (s : State) (p : Nat) (w : Word) {r : RegName} (stat : r ≠ .RF_STAT) (ctrl : r ≠ .RF_CTRL) (n : Nat) :
    (s.gainWrite p w).reg r n = s.reg r n := by
  unfold State.gainWrite
  dsimp only
  split <;> simp [State.setAtten_reg _ _ _ stat, ctrl]

theorem State.gainWrite_enabled (s : State) (p : Nat) (w : Word) : (s.gainWrite p w).portEnabled p = s.portEnabled p := by
  have taken : (((s.setFld F.RF_CTRL_ATTEN (bits w.toNat 10 8) p).setFld F.RF_CTRL_AGC (bits w.toNat 4 4) p)).portEnabled p = s.portEnabled p :=
    State.portEnabled_congr (by simp)
  unfold State.gainWrite
  dsimp only
  split
  · exact taken
  · exact (State.flag_setAtten _ p _ (f := F.RF_STAT_ENABLED) (fun _ => by decide) p).trans taken

theorem State.gainWrite_agc (s : State) (p : Nat) (w : Word) : (s.gainWrite p w).flag F.RF_CTRL_AGC p = w.getLsbD 4 := by
  have taken : ((s.setFld F.RF_CTRL_ATTEN (bits w.toNat 10 8) p).setFld F.RF_CTRL_AGC (bits w.toNat 4 4) p).flag F.RF_CTRL_AGC p = w.getLsbD 4 := by
    rw [State.flag, State.fld_setFld _ _ _ _ (by decide) (by decide), ← BitVec.testBit_toNat, Nat.testBit_eq_decide_div_mod_eq]
    simp only [bits]
    simp [beq_eq_decide]
  unfold State.gainWrite
  dsimp only
  split
  · exact taken
  · exact (State.flag_setAtten _ p _ (f := F.RF_CTRL_AGC) (fun e => absurd e (by decide)) p).trans taken

@[simp] theorem State.setPins_reg (s : State) (p pins bias : Nat) (drv : Bool) (r : RegName) (n : Nat) :
    (s.setPins p pins bias drv).reg r n = s.reg r n := rfl

theorem State.pinsRx_reg (s : State) (p : Nat) (r : RegName) (n : Nat) : (s.pinsRx p).reg r n = s.reg r n := by
  unfold State.pinsRx; split <;> rfl

/-- EN on a port that is off writes EN and ENABLED, and starts the synthesiser where PLL0 runs (R159). -/
theorem State.portOn_reg (s : State) (p : Nat) {r : RegName} (h : r ≠ .RF_SYNSTAT) (n : Nat) :
    (s.portOn p).reg r n = ((s.setFld F.RF_CTRL_EN 1 p).setFld F.RF_STAT_ENABLED 1 p).reg r n := by
  unfold State.portOn
  dsimp only
  split
  · rw [State.synToLo_reg _ _ h, State.pinsRx_reg]
  · rw [State.pinsRx_reg]

theorem State.portDrop_parts (s : State) (p : Nat) :
    (s.portDrop p).portEnabled p = false ∧ (s.portDrop p).rxReady p = false ∧ (s.portDrop p).exc p = none := by
  unfold State.portDrop
  generalize off : State.excPllLoss p s = u
  have regs : (u.portOff p).reg .RF_STAT p
      = (((u.setFld F.RF_CTRL_EN 0 p).setFld F.RF_STAT_ENABLED 0 p).setFld F.RF_STAT_RX_READY 0 p).reg .RF_STAT p := by
    unfold State.portOff State.pinsSafe
    rw [State.onRf_reg, State.setPins_reg, State.setFld_reg_of_ne _ (by decide)]
  refine ⟨(State.portEnabled_congr regs).trans ?_, (State.rxReady_congr regs).trans ?_, ?_⟩
  · exact (State.flag_setFld_of_disjoint _ F.RF_STAT_RX_READY F.RF_STAT_ENABLED 0 p p (by decide) (.inl (by decide))).trans
      (State.flag_setFld_zero _ _ p (by decide) (by decide))
  · exact State.flag_setFld_zero _ _ p (by decide) (by decide)
  · have exc : (u.portOff p).exc p = u.exc p := by
      simp [State.exc, State.portOff, State.pinsSafe, State.setPins]
    rw [exc, ← off, State.excPllLoss_exc]

section
variable {s : State} {p : Nat} {w : Word}

theorem State.rfCtrlWrite_enables (free : s.portHeld p = false) (en : w.getLsbD 0 = true) (off : s.portEnabled p = false)
    (ok : loOk (s.rfLo p) = true) : (s.rfCtrlWrite p w).portEnabled p = true ∧ (s.rfCtrlWrite p w).rfLo p = s.rfLo p
      ∧ (s.rfCtrlWrite p w).flag F.RF_CTRL_AGC p = w.getLsbD 4 := by
  have en' : bit w.toNat 0 = true := by rw [bit_eq_testBit, BitVec.testBit_toNat, en]
  rw [State.rfCtrlWrite_eq, if_neg (by simp [en', off]), if_neg (by simp [free]), if_neg (by simp [en']), if_neg (by simp [ok])]
  refine ⟨?_, ?_, ?_⟩
  · rw [State.portEnabled_congr (State.portOn_reg _ p (by decide) p)]
    exact State.flag_setFld_one _ F.RF_STAT_ENABLED p (by decide) rfl
  · rw [State.rfLo, State.portOn_reg _ p (by decide), State.setFld_reg_of_ne _ (by decide), State.setFld_reg_of_ne _ (by decide),
      s.gainWrite_reg p w (by decide) (by decide), State.rfLo]
  · rw [State.flag_congr (State.portOn_reg _ p (by decide) p), State.flag_setFld_of_ne _ _ _ _ _ _ (by decide),
      State.flag_setFld_of_disjoint _ _ _ _ _ _ (by decide) (.inr (by decide)), State.gainWrite_agc]

theorem State.rfCtrlWrite_outOfRange (free : s.portHeld p = false) (en : w.getLsbD 0 = true) (off : s.portEnabled p = false)
    (bad : loOk (s.rfLo p) = false) :
    (s.rfCtrlWrite p w).portEnabled p = false ∧ (s.rfCtrlWrite p w).flag F.RF_STAT_RANGE_ERR p = true := by
  have en' : bit w.toNat 0 = true := by rw [bit_eq_testBit, BitVec.testBit_toNat, en]
  rw [State.rfCtrlWrite_eq, if_neg (by simp [en', off]), if_neg (by simp [free]), if_neg (by simp [en']), if_pos (by simp [bad])]
  refine ⟨?_, State.flag_setFld_one _ _ p (by decide) rfl⟩
  rw [State.portEnabled, State.flag_setFld_of_disjoint _ _ _ _ _ _ (by decide) (.inl (by decide))]
  exact (s.gainWrite_enabled p w).trans off

theorem State.rfCtrlWrite_disables (free : s.portHeld p = false) (en : w.getLsbD 0 = false) (on : s.portEnabled p = true) :
    (s.rfCtrlWrite p w).portEnabled p = false ∧ (s.rfCtrlWrite p w).rxReady p = false ∧ (s.rfCtrlWrite p w).exc p = none := by
  have en' : bit w.toNat 0 = false := by rw [bit_eq_testBit, BitVec.testBit_toNat, en]
  rw [State.rfCtrlWrite_eq, if_neg (by simp [en', on]), if_neg (by simp [free]), if_pos (by simp [en'])]
  exact State.portDrop_parts _ p

end

/-- CLEAR leaves no entry of its port in the table, and those of the other (R196). -/
theorem State.synClear_count (s : State) (p q : Nat) : (s.synClear p).synCount q = if q = p then 0 else s.synCount q := by
  unfold State.synCount State.synClear Tab.keep
  rw [State.onRf_rf, List.filter_filter]
  split
  · next h =>
    subst h
    rw [List.length_eq_zero_iff, List.filter_eq_nil_iff]
    rintro e -
    by_cases own : e.1 / 256 = q <;> simp [own]
  · next h =>
    refine congrArg List.length (List.filter_congr fun e _ => ?_)
    by_cases own : e.1 / 256 = q <;> simp [own, h]

/-! ### Readiness and the loss of lock (R159, R177, R187, R496) -/

/-- What readiness does to a lane of its port. -/
def State.riseLane (n : Nat) (t : State) : State :=
  if t.laneState n = 6 then (if t.rf.calibrated.contains n then t.laneSearch n else t.setLane n 2)
  else if t.laneState n = 1 && t.bankRuns then t.setLane n 2 else t

theorem State.rxRise_eq (s : State) (p : Nat) : s.rxRise p = foldOver State.riseLane (s.lanesOf p)
    (((s.setFld F.RF_STAT_BLANKED 0 p).setFld F.RF_STAT_RX_READY 1 p).publish (185 + 2 * p)) := rfl

theorem State.riseLane_local (n : Nat) (t : State) : State.LaneLocal n t (State.riseLane n t) := by
  unfold State.riseLane
  split
  · split
    · exact .laneSearch
    · exact .setLane 2
  · split
    · exact .setLane 2
    · exact .refl

/-- RX_READY is up, and blanking has ended. -/
theorem State.rxRise_ready (s : State) (p : Nat) : (s.rxRise p).rxReady p = true ∧ (s.rxRise p).blanked p = false := by
  have stat : (s.rxRise p).reg .RF_STAT p = ((s.setFld F.RF_STAT_BLANKED 0 p).setFld F.RF_STAT_RX_READY 1 p).reg .RF_STAT p := by
    rw [State.rxRise_eq, foldOver_proj (fun t => t.reg .RF_STAT p) _ (fun n t => State.riseLane_local n t _ _ (by simp)), State.publish_reg]
  rw [State.rxReady_congr stat, State.blanked_congr stat]
  exact ⟨State.flag_setFld_one _ _ p (by decide) rfl,
    (State.flag_setFld_of_disjoint _ F.RF_STAT_RX_READY F.RF_STAT_BLANKED 1 p p (by decide) (.inr (by decide))).trans
      (State.flag_setFld_zero _ _ p (by decide) (by decide))⟩

/-- A lane in HOLD calibrates once its port is ready (R177). -/
theorem State.rxRise_lane (s : State) {p n : Nat} (lane : n < 128) (port : s.lanePort n = p) (hold : s.laneState n = 1) (runs : s.bankRuns = true) :
    (s.rxRise p).laneState n = 2 := by
  obtain ⟨t, same, last⟩ := foldOver_at (fun t => (t.reg .LANE_STAT n, t.reg .LANE_BANK_STAT 0)) State.riseLane n
    (fun m t other => by rw [State.riseLane_local m t _ _ (by simp [Ne.symm other]), State.riseLane_local m t _ _ (by simp)]) (s.lanesOf p)
    (s.nodup_lanesOf p) (State.mem_lanesOf.2 ⟨lane, port⟩) (((s.setFld F.RF_STAT_BLANKED 0 p).setFld F.RF_STAT_RX_READY 1 p).publish (185 + 2 * p))
  have before : t.laneState n = 1 ∧ t.bankRuns = true := by
    constructor
    · exact (State.laneState_congr ((congrArg (·.1) same).trans (by simp))).trans hold
    · exact (State.bankRuns_congr ((congrArg (·.2) same).trans (by simp))).trans runs
  rw [State.rxRise_eq, State.laneState_congr (congrArg (·.1) last), State.riseLane, if_neg (by simp [before.1]), if_pos (by simp [before]),
    State.laneState_setLane _ _ (by decide)]

theorem State.pinsBack_reg (s : State) (p : Nat) (r : RegName) (n : Nat) : (s.pinsBack p).reg r n = s.reg r n := by
  unfold State.pinsBack
  split
  · rfl
  · exact s.pinsRx_reg p r n

theorem State.rxReadyRise_rises (s : State) {p : Nat} (on : s.portEnabled p = true) (pll : s.onPll = true)
    (locked : s.fld F.RF_SYNSTAT_SYN_STATE p = 0) (home : s.rf.toLo.contains p = false) (down : s.rxReady p = false) (exc : s.exc p = none) :
    s.rxReadyRise p = ((s.dropExc p).pinsBack p).rxRise p := by
  unfold State.rxReadyRise
  rw [exc]
  exact if_pos (by simp only [on, pll, locked, home, down]; rfl)

theorem State.rxReadyRise_ready (s : State) {p : Nat} (ready : s.rxReady p = true) : s.rxReadyRise p = s := by
  unfold State.rxReadyRise
  simp only [ready, Bool.not_true, Bool.and_false, Bool.false_and, Bool.false_eq_true, if_false]

/-- A port that loses lock is blanked, and its excursion has ended (R496). -/
theorem State.synLockLoss_parts (s : State) {p : Nat} (on : s.portEnabled p = true) (pll : s.onPll = true) :
    (s.synLockLoss p).rxReady p = false ∧ (s.synLockLoss p).blanked p = true ∧ (s.synLockLoss p).exc p = none := by
  have front : (s.synLockLoss p).front
      = (((State.excPllLoss p s).setFld F.RF_STAT_BLANKED 1 p).setFld F.RF_STAT_RX_READY 0 p).front := by
    unfold State.synLockLoss
    rw [if_neg (by simp [on, pll]), State.raise_front, State.synToLo_front, State.blank_front]
  have stat := State.rfStat_of_front front p
  refine ⟨(State.rxReady_congr stat).trans (State.flag_setFld_zero _ _ p (by decide) (by decide)), (State.blanked_congr stat).trans ?_, ?_⟩
  · exact (State.flag_setFld_of_disjoint _ F.RF_STAT_RX_READY F.RF_STAT_BLANKED 0 p p (by decide) (.inr (by decide))).trans
      (State.flag_setFld_one _ _ p (by decide) rfl)
  · rw [State.exc_of_front front, State.exc, State.setFld_txp, State.setFld_txp]
    exact State.excPllLoss_exc p s

/-! ### Attenuation (R160) -/

theorem State.setAtten_same (s : State) {p v : Nat} (h : s.fld F.RF_STAT_ATTEN_CUR p = v) : s.setAtten p v = s := if_pos h

theorem State.setAtten_fld (s : State) (p : Nat) {v : Nat} (h : v < 8) : (s.setAtten p v).fld F.RF_STAT_ATTEN_CUR p = v := by
  unfold State.setAtten
  split
  · assumption
  · exact (s.fld_setFld F.RF_STAT_ATTEN_CUR v p (by decide) (by decide)).trans (Nat.mod_eq_of_lt h)

/-- CLIP is noted first (R160). -/
def State.clipNoted (s : State) (p : Nat) (clip : Bool) : State := if clip then s.setFld F.RF_STAT_CLIP 1 p else s

theorem State.attenUp_eq (s : State) (p : Nat) (clip high : Bool) : s.attenUp p clip high =
    if high && (s.clipNoted p clip).portEnabled p && (s.clipNoted p clip).flag F.RF_CTRL_AGC p && (s.clipNoted p clip).fld F.RF_STAT_ATTEN_CUR p < 7
    then (s.clipNoted p clip).setAtten p ((s.clipNoted p clip).fld F.RF_STAT_ATTEN_CUR p + 1) else s.clipNoted p clip := rfl

/-- CLIP is none of the fields that decide a step. -/
theorem State.clipNoted_parts (s : State) (p : Nat) (clip : Bool) :
    (s.clipNoted p clip).portEnabled p = s.portEnabled p ∧ (s.clipNoted p clip).flag F.RF_CTRL_AGC p = s.flag F.RF_CTRL_AGC p
      ∧ (s.clipNoted p clip).fld F.RF_STAT_ATTEN_CUR p = s.fld F.RF_STAT_ATTEN_CUR p ∧ (s.clipNoted p clip).rf = s.rf := by
  cases clip with
  | false => exact ⟨rfl, rfl, rfl, rfl⟩
  | true =>
    exact ⟨s.flag_setFld_of_disjoint F.RF_STAT_CLIP F.RF_STAT_ENABLED 1 p p (by decide) (.inl (by decide)),
      s.flag_setFld_of_ne F.RF_STAT_CLIP F.RF_CTRL_AGC 1 p p (by decide),
      s.fld_setFld_of_disjoint F.RF_STAT_CLIP F.RF_STAT_ATTEN_CUR 1 p p (by decide) (.inl (by decide)), by simp [State.clipNoted]⟩

theorem State.attenUp_clips (s : State) (p : Nat) (high : Bool) : (s.attenUp p true high).flag F.RF_STAT_CLIP p = true := by
  have noted : (s.clipNoted p true).flag F.RF_STAT_CLIP p = true := s.flag_setFld_one F.RF_STAT_CLIP p (by decide) rfl
  rw [State.attenUp_eq]
  split
  · rcases State.setAtten_cases (s.clipNoted p true) p ((s.clipNoted p true).fld F.RF_STAT_ATTEN_CUR p + 1) with e | e <;> rw [e]
    · exact noted
    · exact (State.flag_setFld_of_disjoint _ F.RF_STAT_ATTEN_CUR F.RF_STAT_CLIP _ p p (by decide) (.inr (by decide))).trans noted
  · exact noted

theorem State.attenUp_stays (s : State) {p : Nat} (clip : Bool) {high : Bool} (h : high = false ∨ s.portEnabled p = false ∨ s.flag F.RF_CTRL_AGC p = false
    ∨ 7 ≤ s.fld F.RF_STAT_ATTEN_CUR p) :
    (s.attenUp p clip high).fld F.RF_STAT_ATTEN_CUR p = s.fld F.RF_STAT_ATTEN_CUR p ∧ (s.attenUp p clip high).rf = s.rf := by
  obtain ⟨on, agc, cur, rf⟩ := s.clipNoted_parts p clip
  rw [State.attenUp_eq, on, agc, cur, if_neg]
  · exact ⟨cur, rf⟩
  · rcases h with h | h | h | h
    · simp [h]
    · simp [h]
    · simp [h]
    · simp [Nat.not_lt.2 h]

theorem State.attenUp_steps (s : State) {p : Nat} (clip : Bool) (on : s.portEnabled p = true) (agc : s.flag F.RF_CTRL_AGC p = true)
    (room : s.fld F.RF_STAT_ATTEN_CUR p < 7) : (s.attenUp p clip true).fld F.RF_STAT_ATTEN_CUR p = s.fld F.RF_STAT_ATTEN_CUR p + 1 := by
  obtain ⟨on', agc', cur, -⟩ := s.clipNoted_parts p clip
  rw [State.attenUp_eq, on', agc', cur, if_pos (by simp [on, agc, room])]
  exact State.setAtten_fld _ p (by omega)

theorem State.attenDown_steps (s : State) {p : Nat} (on : s.portEnabled p = true) (agc : s.flag F.RF_CTRL_AGC p = true) (idle : s.portBusy p = false)
    (room : 0 < s.fld F.RF_STAT_ATTEN_CUR p) : (s.attenDown p).fld F.RF_STAT_ATTEN_CUR p = s.fld F.RF_STAT_ATTEN_CUR p - 1 := by
  have bound : s.fld F.RF_STAT_ATTEN_CUR p < 8 := s.fld_lt F.RF_STAT_ATTEN_CUR p
  unfold State.attenDown
  rw [if_pos (by simp [on, agc, idle, room])]
  exact s.setAtten_fld p (by omega)

theorem State.attenDown_stays (s : State) {p : Nat} (h : s.portBusy p = true ∨ s.fld F.RF_STAT_ATTEN_CUR p = 0) : s.attenDown p = s := by
  unfold State.attenDown
  rcases h with h | h
  · rw [if_neg (by simp [h])]
  · rw [if_neg (by simp [h])]

/-! ### Recalibration (R197) -/

section
variable {s : State} {p : Nat} {temp : Int}

theorem State.synRecal_goes (moved : 5 ≤ (temp - Tab.getD s.rf.loTemp p temp).natAbs)
    (free : (s.onRf fun r => { r with temp := temp }).portFree p = true) {force : Bool}
    (clear : force = true ∨ s.portBusy p = false ∧ (∀ e f, e ∈ s.txp.timed → e.port = p → s.planned e = some f → s.nt + s.leadTicks f + 8000 < f.start)
      ∧ ∀ q, s.sched.offer = some q → s.radioPortOf q ≠ p) :
    s.synRecal p temp force = ((s.onRf fun r => { r with temp := temp }).blank p).synToLo p := by
  unfold State.synRecal
  dsimp only
  rw [if_neg (by simp [moved, free]), if_neg]
  rcases clear with forced | ⟨idle, timed, offer⟩
  · simp [forced]
  · have none1 : (s.txp.timed.any fun e => e.port == p && (s.planned e).any fun f => decide (f.start ≤ s.nt + s.leadTicks f + 8000)) = false := by
      rw [List.any_eq_false]
      intro e mem
      cases plan : s.planned e with
      | none => simp
      | some f =>
        by_cases port : e.port = p
        · simpa [port] using timed e f mem port plan
        · simp [port]
    have none2 : (s.sched.offer.any fun q => s.radioPortOf q == p) = false := by
      cases off : s.sched.offer with
      | none => rfl
      | some q => simpa using offer q off
    rw [idle, none1, none2]
    simp

theorem State.synRecal_stays (still : ¬5 ≤ (temp - Tab.getD s.rf.loTemp p temp).natAbs) (due : s.rf.recal.contains p = false) (force : Bool) :
    s.synRecal p temp force = s.onRf fun r => { r with temp := temp } := by
  unfold State.synRecal
  exact if_pos (by simp only [ge_iff_le, still, decide_false, due, Bool.or_self, Bool.not_false, Bool.true_or])

end

/-- Settles O51: each command by the rule of its write or of its event. -/
theorem portsAndSynthesisers : Obligations.PortsAndSynthesisers := by
  unfold Obligations.PortsAndSynthesisers
  intro who p w clip high temp s on ends k warm moved
  refine ⟨fun cl0 => ⟨fun held => ⟨fun same => ?_, fun other => ?_⟩, fun free => ⟨fun off => ?_, fun en ok => ?_, fun en bad => ?_, ?_, ?_, ?_⟩, ?_⟩,
    fun moving home en => ⟨_, exec_synLock on, s.synLock_atLo moving home en⟩,
    fun x e moving away phase entry => ?lock,
    fun en pll locked home down exc => ?rise,
    fun ready => exec_of_effect (exec_rxReadyRise on) (s.rxReadyRise_ready ready),
    fun en pll => ⟨_, exec_synLockLoss on, s.synLockLoss_parts en pll⟩,
    ⟨_, exec_attenStepUp on clip high, fun clips => clips ▸ s.attenUp_clips k high, fun h => s.attenUp_stays clip h, fun up en agc room => ?_⟩,
    fun en agc idle room => ⟨_, exec_attenStepDown on, s.attenDown_steps en agc idle room⟩,
    fun h => exec_of_effect (exec_attenStepDown on) (s.attenDown_stays h),
    fun far free => ⟨exec_of_effect (exec_synRecalForce on temp) (State.synRecal_goes far free (.inl rfl)), fun idle timed offer =>
      exec_of_effect (exec_synRecalibration on temp) (State.synRecal_goes far free (.inr ⟨idle, timed, offer⟩))⟩,
    fun near due => ⟨exec_of_effect (exec_synRecalibration on temp) (State.synRecal_stays near due false),
      exec_of_effect (exec_synRecalForce on temp) (State.synRecal_stays near due true)⟩⟩
  · exact exec_of_effect (exec_rfxLoWrite on w cl0) ((if_pos held).trans (if_pos same))
  · exact exec_of_effect (exec_rfxLoWrite on w cl0) ((if_pos held).trans (if_neg other))
  · exact exec_of_effect (exec_rfxLoWrite on w cl0) ((if_neg (by simp [show s.portHeld p.val = false from free])).trans
      (if_pos (by simp [show s.portEnabled p.val = false from off])))
  · exact ⟨_, exec_rfxLoWrite on w cl0, s.loWrite_moves free en ok⟩
  · exact exec_of_effect (exec_rfxLoWrite on w cl0) ((if_neg (by simp [show s.portHeld p.val = false from free])).trans
      ((if_neg (by simp [show s.portEnabled p.val = true from en])).trans (if_pos (by simp [bad]))))
  · exact fun en off ok => ⟨_, exec_portEnable on w cl0, State.rfCtrlWrite_enables free en off ok⟩
  · exact fun en off bad => ⟨_, exec_portEnable on w cl0, State.rfCtrlWrite_outOfRange free en off bad⟩
  · exact fun en off => ⟨_, exec_portEnable on w cl0, State.rfCtrlWrite_disables free en off⟩
  · refine ⟨_, exec_syntabClear on w cl0, ?_, ?_⟩
    · rw [State.synClear_count, if_pos rfl]
    · rw [State.synClear_count, if_neg (by omega), State.synCount, State.regStore_frame, State.synCount]
  case lock =>
    obtain ⟨found, syn⟩ := s.synLock_away moving away phase entry
    refine ⟨_, _, exec_synLock on, found, syn, ?_⟩
    by_cases none : x.lbtTicks = 0 <;> simp [none]
  case rise =>
    have run := exec_of_effect (exec_rxReadyRise (p := p) on) (s.rxReadyRise_rises en pll locked home down exc)
    have regs (r : RegName) (n : Nat) : ((s.dropExc k).pinsBack k).reg r n = s.reg r n := State.pinsBack_reg _ _ _ _
    obtain ⟨ready, unblanked⟩ := State.rxRise_ready ((s.dropExc k).pinsBack k) k
    refine ⟨_, run, ready, unblanked, fun n lane port hold runs => State.rxRise_lane _ lane ?_ ?_ ?_⟩
    · exact (State.fld_congr (regs .LANE_PROFILE n)).trans port
    · exact (State.laneState_congr (regs .LANE_STAT n)).trans hold
    · exact (State.bankRuns_congr (regs .LANE_BANK_STAT 0)).trans runs
  · subst up
    exact s.attenUp_steps clip en agc room

end Sys2Proof.Machine
end

section
/-! What the end of a step leaves of RUNNING while no transport has a record (R179). A function f of the model that posts nothing to a
transport has a lemma f_still; one that may has a lemma hushes_f. -/

namespace Sys2Proof.Machine

/-- The records of the transports and the status of the lane bank. -/
def State.still (s : State) : Tab TpState × Word := (s.hcp.tps, s.reg .LANE_BANK_STAT 0)

theorem State.still_eq {s t : State} (tps : t.hcp.tps = s.hcp.tps) (stat : t.reg .LANE_BANK_STAT 0 = s.reg .LANE_BANK_STAT 0) : t.still = s.still := by
  rw [State.still, tps, stat, State.still]

theorem State.bankRuns_of_still {s t : State} (h : t.still = s.still) : t.bankRuns = s.bankRuns := State.bankRuns_congr (congrArg (·.2) h)

@[simp] theorem State.still_ite (c : Prop) [Decidable c] (a b : State) : (if c then a else b).still = if c then a.still else b.still :=
  apply_ite State.still c a b

@[simp] theorem foldOver_still {α : Type} (f : α → State → State) (hf : ∀ a s, (f a s).still = s.still) (l : List α) (s : State) :
    (foldOver f l s).still = s.still :=
  foldOver_proj State.still f hf l s

/-! ### The updates of a block -/

@[simp] theorem State.setReg_still (s : State) {r : RegName} (h : r ≠ .LANE_BANK_STAT) (n : Nat) (v : Word) : (s.setReg r n v).still = s.still :=
  State.still_eq rfl (by rw [State.reg_setReg_ite, if_neg (fun e => h e.1.symm)])

@[simp] theorem State.noteRaised_still (s : State) (r : RegName) (n : Nat) (m : Word) : (s.noteRaised r n m).still = s.still := by
  rw [State.noteRaised_eq]; rfl

@[simp] theorem State.setFld_still (s : State) {r : RegName} (h : r ≠ .LANE_BANK_STAT) (hi lo v n : Nat) :
    (s.setFld ⟨r, hi, lo⟩ v n).still = s.still := by
  rw [State.setFld, State.noteRaised_still, State.setReg_still _ h]

@[simp] theorem State.setFlag_still (s : State) {r : RegName} (h : r ≠ .LANE_BANK_STAT) (hi lo : Nat) (b : Bool) (n : Nat) :
    (s.setFlag ⟨r, hi, lo⟩ b n).still = s.still := s.setFld_still h hi lo (b2n b) n

@[simp] theorem State.bumpWrap_still (s : State) {r : RegName} (h : r ≠ .LANE_BANK_STAT) (hi lo n d : Nat) :
    (s.bumpWrap ⟨r, hi, lo⟩ n d).still = s.still := s.setFld_still h hi lo _ n

@[simp] theorem State.onCore_still (s : State) (f : CoreState → CoreState) : (s.onCore f).still = s.still := rfl
@[simp] theorem State.onFlc_still (s : State) (f : FlcState → FlcState) : (s.onFlc f).still = s.still := rfl
@[simp] theorem State.onDmc_still (s : State) (f : DmcState → DmcState) : (s.onDmc f).still = s.still := rfl
@[simp] theorem State.onRf_still (s : State) (f : RfState → RfState) : (s.onRf f).still = s.still := rfl
@[simp] theorem State.onTxp_still (s : State) (f : TxpState → TxpState) : (s.onTxp f).still = s.still := rfl
@[simp] theorem State.onFrm_still (s : State) (f : FrmState → FrmState) : (s.onFrm f).still = s.still := rfl
@[simp] theorem State.onMsu_still (s : State) (f : MsuState → MsuState) : (s.onMsu f).still = s.still := rfl
@[simp] theorem State.onSched_still (s : State) (f : SchedState → SchedState) : (s.onSched f).still = s.still := rfl
@[simp] theorem State.onPwr_still (s : State) (f : PwrState → PwrState) : (s.onPwr f).still = s.still := rfl
@[simp] theorem State.setMile_still (s : State) (k : Nat) (m : Milestone) : (s.setMile k m).still = s.still := rfl
@[simp] theorem State.setPc_still (s : State) (c : Nat) (v : Word) : (s.setPc c v).still = s.still := rfl
@[simp] theorem State.setByte_still (s : State) (a : Nat) (b : Byte) : (s.setByte a b).still = s.still := rfl
@[simp] theorem State.boundary_still (s : State) (r : RegName) (n : Nat) : (s.boundary r n).still = s.still := rfl
@[simp] theorem State.setJob_still (s : State) (id : Nat) (j : Job) : (s.setJob id j).still = s.still := rfl

@[simp] theorem State.onHcp_still (s : State) (f : HcpState → HcpState) (tps : ∀ h, (f h).tps = h.tps) : (s.onHcp f).still = s.still :=
  State.still_eq (tps s.hcp) rfl

@[simp] theorem State.setBytes_still (s : State) (a : Nat) (b : Bytes) : (s.setBytes a b).still = s.still := by
  rw [State.setBytes_eq]; rfl

@[simp] theorem State.publish_still (s : State) (p : Nat) : (s.publish p).still = s.still := by rw [State.publish_eq]; rfl

/-! ### Power states, transmissions and queues -/

@[simp] theorem State.pstate_still (s : State) : s.pstate.still = s.still := by simp -implicitDefEqProofs [State.pstate]

@[simp] theorem State.setCur_still (s : State) (v : Nat) : (s.setCur v).still = s.still := by simp -implicitDefEqProofs [State.setCur]

@[simp] theorem State.userStart_still (s : State) : s.userStart.still = s.still := by simp -implicitDefEqProofs [State.userStart]

@[simp] theorem State.deliver_still (x : Nat × Bytes) (s : State) : (State.deliver x s).still = s.still := by
  unfold State.deliver; split <;> simp -implicitDefEqProofs

@[simp] theorem State.raiseTo_still (s : State) (v : Nat) : (s.raiseTo v).still = s.still := by
  simp -implicitDefEqProofs [State.raiseTo, State.deliverWaiting]

@[simp] theorem State.exchClose_still (s : State) (e : Exch) : (s.exchClose e).still = s.still := by
  simp -implicitDefEqProofs [State.exchClose, State.setExch]

@[simp] theorem State.hostRefresh_still (s : State) : s.hostRefresh.still = s.still := by simp -implicitDefEqProofs [State.hostRefresh]

@[simp] theorem State.relayRefresh_still (s : State) : s.relayRefresh.still = s.still := by simp -implicitDefEqProofs [State.relayRefresh]

@[simp] theorem State.lmRefresh_still (s : State) : s.lmRefresh.still = s.still := by simp -implicitDefEqProofs [State.lmRefresh]

@[simp] theorem State.ctxFree_still (s : State) (c : Nat) : (s.ctxFree c).still = s.still := by simp -implicitDefEqProofs [State.ctxFree]

@[simp] theorem State.setQueue_still (s : State) (q : Nat) (l : List SchedEntry) : (s.setQueue q l).still = s.still := by
  simp -implicitDefEqProofs [State.setQueue]

@[simp] theorem State.entriesDrop_still (s : State) (k : Nat) : (s.entriesDrop k).still = s.still := by
  simp -implicitDefEqProofs [State.entriesDrop]

@[simp] theorem State.txPost_still (s : State) (e : TxEntry) (code late airStart : Nat) : (s.txPost e code late airStart).still = s.still := by
  dsimp only [State.txPost, State.pushResult]; (repeat' split) <;> simp -implicitDefEqProofs

@[simp] theorem State.release_still (s : State) (x : Excursion) : (s.release x).still = s.still := by
  unfold State.release; split <;> simp -implicitDefEqProofs [State.setLedger]

@[simp] theorem State.excBack_still (s : State) (p : Nat) : (s.excBack p).still = s.still := by
  simp -implicitDefEqProofs [State.excBack, State.setExc, State.synToLo]

@[simp] theorem State.txPull_still (s : State) (e : TxEntry) : (s.txPull e).still = s.still := by
  dsimp only [State.txPull]; (repeat' split) <;> simp -implicitDefEqProofs

@[simp] theorem State.txWithdraw_still (s : State) (tag : Nat) : (s.txWithdraw tag).still = s.still := by
  unfold State.txWithdraw; split <;> simp -implicitDefEqProofs

@[simp] theorem State.txSubmit_still (s : State) (e : TxEntry) (fields : Bool) : (s.txSubmit e fields).2.still = s.still := by
  unfold State.txSubmit; split <;> simp -implicitDefEqProofs [State.txAccept]

@[simp] theorem State.setVtag_still (s : State) (q v : Nat) : (s.setVtag q v).still = s.still := by simp -implicitDefEqProofs [State.setVtag]

@[simp] theorem State.append_still (s : State) (q : Nat) (e : SchedEntry) : (s.append q e).still = s.still := by
  simp -implicitDefEqProofs [State.append, State.wakeQueue]

@[simp] theorem State.push_still (s : State) (cl q addr len : Nat) : (s.push cl q addr len).still = s.still := by
  unfold State.push; split <;> simp -implicitDefEqProofs [State.freshen]

@[simp] theorem State.pushRecord_still (r : RingRec) (s : State) : (State.pushRecord r s).still = s.still := by
  dsimp only [State.pushRecord]; (repeat' split) <;> simp -implicitDefEqProofs

@[simp] theorem State.forwardRecords_still (s : State) : s.forwardRecords.still = s.still := by simp -implicitDefEqProofs [State.forwardRecords]

@[simp] theorem State.unbar_still (s : State) (q : Nat) (ok : Bool) : (s.unbar q ok).still = s.still := by simp -implicitDefEqProofs [State.unbar]

@[simp] theorem State.offerAgain_still (s : State) : s.offerAgain.still = s.still := by
  simp -implicitDefEqProofs [State.offerAgain, State.radioOffer]

@[simp] theorem State.radioResult_still (s : State) (q code : Nat) : (s.radioResult q code).still = s.still := by
  dsimp only [State.radioResult, State.radioEnd]; (repeat' split) <;> simp -implicitDefEqProofs [State.pushRResult]

/-! ### Frames and downlinks -/

@[simp] theorem State.setCtx_still (s : State) (c : Nat) (x : Ctx) : (s.setCtx c x).still = s.still := rfl

@[simp] theorem State.frmCount_still (s : State) (k : Nat) : (s.frmCount k).still = s.still := by simp -implicitDefEqProofs [State.frmCount]

@[simp] theorem State.dupPut_still (s : State) (t : Bytes) (w : Nat) (e : DupEntry) : (s.dupPut t w e).still = s.still := by
  simp -implicitDefEqProofs [State.dupPut, State.mendDram, State.dramTouch]

@[simp] theorem State.repeatAnswer_still (s : State) (c : Nat) (x : Ctx) (w : Nat) (e : DupEntry) : (s.repeatAnswer c x w e).still = s.still := by
  simp -implicitDefEqProofs [State.repeatAnswer]

@[simp] theorem State.ackResult_still (s : State) (a : AckOf) (aired : Bool) : (s.ackResult a aired).still = s.still := by
  dsimp only [State.ackResult]; (repeat' split) <;> simp -implicitDefEqProofs

@[simp] theorem State.dropDownlink_still (s : State) (src : Nat) : (s.dropDownlink src).still = s.still := by
  simp -implicitDefEqProofs [State.dropDownlink]

@[simp] theorem State.downlinkFail_still (s : State) (d : Downlink) (mode : Nat) : (s.downlinkFail d mode).still = s.still := by
  simp -implicitDefEqProofs [State.downlinkFail, State.setDownlink, State.downlinkPull]

@[simp] theorem State.pageResult_still (s : State) (job code : Nat) : (s.pageResult job code).still = s.still := by
  unfold State.pageResult; split <;> simp -implicitDefEqProofs

/-! ### Jobs and milestones -/

@[simp] theorem State.ownNext_still (s : State) (j : Job) (st : Status) : (s.ownNext j st).still = s.still := by
  simp -implicitDefEqProofs [State.ownNext]

@[simp] theorem State.trialEnd_still (s : State) (j : Job) (st : Status) : (s.trialEnd j st).still = s.still := by
  simp -implicitDefEqProofs [State.trialEnd]

@[simp] theorem State.flcTag_still (s : State) : (s.flcTag).2.still = s.still := by simp -implicitDefEqProofs [State.flcTag]

@[simp] theorem State.jobFeed_still (id : Nat) (s : State) : (State.jobFeed id s).still = s.still := by
  dsimp only [State.jobFeed]; (repeat' split) <;> simp -implicitDefEqProofs

@[simp] theorem State.readyOne_still (k : Nat) (s : State) : (State.readyOne k s).still = s.still := by
  unfold State.readyOne; split <;> simp -implicitDefEqProofs

@[simp] theorem State.msuReady_still (s : State) : s.msuReady.still = s.still := by simp -implicitDefEqProofs [State.msuReady]

@[simp] theorem State.mileRequest_still (s : State) (k : Nat) : (s.mileRequest k).still = s.still := by
  unfold State.mileRequest; split <;> simp -implicitDefEqProofs

@[simp] theorem State.openMile_still (s : State) (k owner policy : Nat) (m : Milestone) : (s.openMile k owner policy m).still = s.still := by
  simp -implicitDefEqProofs [State.openMile]

theorem State.msuOpenFor_still (s : State) (cl policy : Nat) (tp : Option Tp) (k : Nat) (t : State) (e : s.msuOpenFor cl policy tp = some (k, t)) :
    t.still = s.still := by
  unfold State.msuOpenFor at e
  split at e
  · cases e
  · obtain ⟨j, -, opened⟩ := Option.map_eq_some_iff.mp e
    obtain rfl := congrArg Prod.snd opened
    simp -implicitDefEqProofs

@[simp] theorem State.putAction_still (s : State) (k : Nat) (a : Action) : (s.putAction k a).still = s.still := by
  unfold State.putAction; split <;> simp -implicitDefEqProofs

end Sys2Proof.Machine
end

section
/-! RUNNING at the end of a step. -/

namespace Sys2Proof.Machine

/-- Where no transport has a record after a change, none had one before it, and the lane bank's status is the same. -/
def State.Hushes (s t : State) : Prop := t.hcp.tps = [] → t.still = s.still

namespace State.Hushes
variable {s t u : State}

theorem of_still (h : t.still = s.still) : State.Hushes s t := fun _ => h

theorem of_loud (h : t.hcp.tps ≠ []) : State.Hushes s t := fun e => absurd e h

theorem refl : State.Hushes s s := of_still rfl

theorem trans (h : State.Hushes s t) (h' : State.Hushes t u) : State.Hushes s u := fun none =>
  have same := h' none
  same.trans (h ((congrArg (·.1) same).symm.trans none))

theorem still_left (h : State.Hushes t u) (same : t.still = s.still) : State.Hushes s u := (of_still same).trans h

theorem still_right (h : State.Hushes s t) (same : u.still = t.still) : State.Hushes s u := h.trans (of_still same)

theorem foldOver {α : Type} {f : α → State → State} (hf : ∀ a v, State.Hushes v (f a v)) (l : List α) :
    State.Hushes s (Machine.foldOver f l s) :=
  foldOver_inv (State.Hushes s) f (fun a v h => h.trans (hf a v)) l s refl

end State.Hushes

/-! ### A reply or a notification leaves a record -/

theorem Tab.put_ne_nil {α : Type} (t : Tab α) (k : Nat) (v : α) : Tab.put t k v ≠ [] := fun none => by
  have found := Tab.find_put t k k v
  rw [none, if_pos rfl] at found
  cases found

theorem State.setTp_loud (s : State) (t : Tp) (x : TpState) : (s.setTp t x).hcp.tps ≠ [] := Tab.put_ne_nil _ _ _

theorem State.putPkt_loud (s : State) (t : Tp) (p : Pkt) : (s.putPkt t p).hcp.tps ≠ [] := by
  unfold State.putPkt
  split
  · exact s.setTp_loud t _
  · exact s.setTp_loud t _

theorem State.answer_loud (s : State) (h : Hdr) (op fl : Nat) (st : Status) (par data : Bytes) : (s.answer h op fl st par data).hcp.tps ≠ [] := by
  unfold State.answer
  dsimp only
  (repeat' split) <;> exact State.putPkt_loud _ _ _

theorem State.hushes_notifyOn (s : State) (k : Nat) (content : Bytes) (t : Tp) : State.Hushes s (State.notifyOn k content t s) := by
  unfold State.notifyOn
  dsimp only
  (repeat' split)
  · exact .refl
  · exact .of_loud (s.setTp_loud t _)
  · exact .of_loud (State.putPkt_loud _ _ _)

theorem State.hushes_notify (s : State) (k : Nat) (content : Bytes) : State.Hushes s (s.notify k content) :=
  .foldOver (fun t v => v.hushes_notifyOn k content t) _

theorem State.hushes_notifyLost (s : State) (t : Tp) : State.Hushes s (s.notifyLost t) := by
  unfold State.notifyLost
  dsimp only
  split
  · exact .refl
  · exact .trans (.of_loud (s.setTp_loud t _)) (State.hushes_notifyOn _ _ _ _)

/-! ### Results -/

theorem State.hushes_complete (s : State) (id : Nat) (st : Status) (par data : Bytes) : State.Hushes s (s.complete id st par data) := by
  unfold State.complete
  split
  · exact .refl
  · dsimp only
    split
    · exact .of_still (by simp -implicitDefEqProofs)
    · exact .of_loud (State.answer_loud _ _ _ _ _ _ _)

theorem State.hushes_mileEnd (s : State) (k result : Nat) (st : Status) : State.Hushes s (s.mileEnd k result st) := by
  unfold State.mileEnd
  dsimp only
  split
  · exact .of_still (by simp -implicitDefEqProofs)
  · refine .still_left (.foldOver (fun j v => v.hushes_complete j st [] []) _) ?_
    split <;> simp -implicitDefEqProofs

theorem State.hushes_mileAbort (s : State) (k result : Nat) (st : Status) : State.Hushes s (s.mileAbort k result st) := by
  unfold State.mileAbort
  split
  · exact .refl
  · refine .still_right (.still_left (State.hushes_mileEnd _ k result st) (s.entriesDrop_still k)) (foldOver_still _ (fun a v => ?_) _ _)
    split <;> simp -implicitDefEqProofs

theorem State.hushes_flashRecDone (s : State) (rec code : Nat) : State.Hushes s (s.flashRecDone rec code) := by
  unfold State.flashRecDone
  dsimp only
  split
  · exact .refl
  · split
    · exact .still_left (State.hushes_mileEnd _ _ _ _) (by simp -implicitDefEqProofs)
    · exact .of_still (by simp -implicitDefEqProofs)

theorem State.hushes_mileTxResult (s : State) (k : Nat) (e : TxEntry) (code : Nat) : State.Hushes s (s.mileTxResult k e code) := by
  unfold State.mileTxResult
  dsimp only
  split
  · exact .of_still (by simp -implicitDefEqProofs)
  · (repeat' split)
    · exact .refl
    · exact .of_still (by simp -implicitDefEqProofs)
    · exact .of_still (by simp -implicitDefEqProofs)
    · exact s.hushes_mileAbort k 4 _

theorem State.hushes_addLast (s : State) (cl k : Nat) (a : Action) : State.Hushes s (s.addLast cl k a).2 := by
  unfold State.addLast
  split
  · dsimp only
    split <;> next e => obtain rfl := congrArg Prod.snd e; exact .of_still (by simp -implicitDefEqProofs)
  · split <;> exact .of_still (by simp -implicitDefEqProofs)
  · split
    · exact .of_still (s.putAction_still k a)
    · dsimp only
      (repeat' split)
      · exact .of_still (s.putAction_still k a)
      · exact s.hushes_mileAbort k 3 _
      · exact s.hushes_mileAbort k 3 _
      · exact .of_still (s.putAction_still k a)

theorem State.hushes_jobMile (s : State) (id : Nat) (w0 w1 : Word) (data : Bytes) : State.Hushes s (s.jobMile id w0 w1 data) := by
  unfold State.jobMile
  split
  · exact s.hushes_complete id .noSpace [] []
  · next k s1 e =>
    have added (a : Action) : State.Hushes s ((s1.setMile k { jobs := [id] }).addLast 0 k a).2 :=
      .still_left (State.hushes_addLast _ 0 k a) ((s1.setMile_still k _).trans (State.msuOpenFor_still _ _ _ _ _ _ e))
    dsimp only
    split
    · exact (added _).still_right (State.mileRequest_still _ k)
    · exact added _

theorem State.hushes_jobPiece (e : Nat × Nat) (s : State) : State.Hushes s (State.jobPiece e s) := by
  unfold State.jobPiece State.jobFlashed
  split
  · exact .refl
  · dsimp only
    (repeat' split)
    · exact s.hushes_complete e.1 _ [] []
    · exact .of_still (s.setJob_still e.1 _)
    · exact .still_left (State.hushes_jobMile _ _ _ _ _) (s.setJob_still e.1 _)
    · exact .still_left (State.hushes_jobMile _ _ _ _ _) (s.setJob_still e.1 _)
    · exact .still_left (State.hushes_complete _ e.1 .ok [] []) (s.setJob_still e.1 _)

theorem State.hushes_downlinkResult (s : State) (job mode code : Nat) : State.Hushes s (s.downlinkResult job mode code) := by
  unfold State.downlinkResult
  split
  · exact .refl
  · split
    · exact .still_left (State.hushes_complete _ _ .ok _ []) (by simp -implicitDefEqProofs)
    · exact .of_still (State.downlinkFail_still _ _ _)

theorem State.hushes_txDeliver (d : TxDone) (s : State) : State.Hushes s (State.txDeliver d s) := by
  unfold State.txDeliver
  extract_lets s1
  have acked : s1.still = s.still := by
    unfold s1
    split <;> simp -implicitDefEqProofs
  clear_value s1
  refine .still_left ?_ acked
  split
  · exact .refl
  · exact s1.hushes_complete _ _ _ []
  · exact s1.hushes_mileTxResult _ _ _
  · exact s1.hushes_downlinkResult _ _ _
  · exact .of_still (s1.pageResult_still _ _)
  · exact .of_still (s1.radioResult_still _ _)

theorem State.hushes_settleOnce (s : State) : State.Hushes s s.settleOnce := by
  unfold State.settleOnce
  extract_lets s1 s2
  have first : State.Hushes s s1 := .still_left (.foldOver State.hushes_txDeliver _) (s.onTxp_still _)
  have second : State.Hushes s1 s2 := .still_left (.foldOver (fun (e : Nat × Nat) t => t.hushes_flashRecDone e.1 e.2) _) (s1.onFlc_still _)
  exact (first.trans second).trans (.still_left (.foldOver State.hushes_jobPiece _) (s2.onFlc_still _))

theorem State.hushes_settle (fuel : Nat) (s : State) : State.Hushes s (State.settle fuel s) := by
  induction fuel generalizing s with
  | zero => exact .refl
  | succ n ih =>
    unfold State.settle
    split
    · exact s.hushes_settleOnce.trans (ih _)
    · exact .refl

/-! ### Accesses by HCP -/

theorem State.accessNow_loud (e : Hdr × Nat × Nat × Nat × Bytes) (s : State) : (State.accessNow e s).hcp.tps ≠ [] := by
  unfold State.accessNow State.flashReadNow State.regReadNow State.regWriteNow
  dsimp only
  (repeat' split) <;> exact State.answer_loud _ _ _ _ _ _ _

/-- A function that leaves a record whatever the state leaves one over a list that is not empty. -/
theorem foldOver_loud {α : Type} {f : α → State → State} (hf : ∀ a s, (f a s).hcp.tps ≠ []) {l : List α} (some : l ≠ []) (s : State) :
    (foldOver f l s).hcp.tps ≠ [] := by
  induction l generalizing s with
  | nil => exact absurd rfl some
  | cons a l ih =>
    rw [foldOver_cons]
    cases l with
    | nil => exact hf a s
    | cons b l => exact ih (by simp) (f a s)

/-- Every access that is done is answered. -/
theorem State.hushes_readsDue (s : State) : State.Hushes s s.readsDue := by
  unfold State.readsDue
  by_cases due : (s.hcp.reads.filter fun e => !s.hcpWaits e) = []
  · rw [due]
    exact .of_still (s.onHcp_still _ fun _ => rfl)
  · exact .of_loud (foldOver_loud State.accessNow_loud due _)

/-! ### The floor and Roadside -/

theorem State.hushes_setRest (s : State) (v : Nat) : State.Hushes s (s.setRest v) := by
  unfold State.setRest
  dsimp only
  (repeat' split)
  · exact .of_still s.pstate_still
  · exact .still_left (State.hushes_notify _ 1 _) (by simp -implicitDefEqProofs)
  · exact .still_right (.still_left (State.hushes_notify _ 1 _) (by simp -implicitDefEqProofs)) (State.onPwr_still _ _)

theorem State.hushes_applyFloor (s : State) : State.Hushes s s.applyFloor := by
  unfold State.applyFloor
  dsimp only
  split
  · exact (s.hushes_setRest _).still_right (State.raiseTo_still _ _)
  · exact .of_still s.pstate_still

theorem State.waking_of_steady {s t : State} (h : t.steady = s.steady) : t.pwr.waking = s.pwr.waking := State.waking_of_footing (State.footing_of_steady h)

theorem State.lpBeaconEnter_steady (p : Nat) (s : State) : (State.lpBeaconEnter p s).steady = s.steady := by
  simp -implicitDefEqProofs [State.lpBeaconEnter]

/-- No wake is under way once Roadside has been entered (R123). -/
theorem State.enterRoadside_waking (s : State) (cause : Nat) (out : s.inRoadside = false) : (s.enterRoadside cause).pwr.waking = false := by
  have out' : ({ s with roadPend := none } : State).inRoadside = false := out
  unfold State.enterRoadside
  rw [if_neg (by simp [out'])]
  extract_lets s1 s2 s3 s4 s5 s6 s7 s8
  exact State.waking_of_steady (foldOver_steady _ State.lpBeaconEnter_steady _ _)

theorem State.enterRoadside_inside (s : State) (cause : Nat) (inside : s.inRoadside = true) : s.enterRoadside cause = { s with roadPend := none } :=
  if_pos inside

/-- An entry to Roadside that is due is made, and no wake outlasts it; or nothing is due but its note. -/
theorem State.roadDue_cases (s : State) : s.roadDue.pwr.waking = false ∨ s.roadDue.still = s.still := by
  unfold State.roadDue
  split
  · exact .inr rfl
  · next c _ =>
    dsimp only
    cases out : s.inRoadside with
    | true => exact .inr (by rw [if_neg (by simp), s.enterRoadside_inside c out]; rfl)
    | false =>
      have ended := s.enterRoadside_waking c out
      refine .inl ?_
      split
      · rw [State.notifyReset, (State.posted_notify _ _ _).pwr]
        split
        · exact ended
        · exact (State.waking_of_steady (by simp -implicitDefEqProofs [State.firstInstruction])).trans ended
      · exact ended

/-! ### The end of a step -/

@[simp] theorem State.exchClose_pwr (s : State) (e : Exch) : (s.exchClose e).pwr = s.pwr := by simp [State.exchClose, State.setExch]

/-- A step that ends without a transport's record, and with a wake under way, ends with RUNNING as its command left it: its end has done no
access and entered no Roadside. -/
theorem State.bankRuns_done (s : State) (tps : s.done.hcp.tps = []) (waking : s.done.pwr.waking = true) : s.done.bankRuns = s.bankRuns := by
  suffices hushed : State.Hushes s s.done from State.bankRuns_of_still (hushed tps)
  unfold State.done at waking ⊢
  extract_lets s1 s2 s3 at waking
  extract_lets
  generalize road : s3.forwardRecords.roadDue = r at waking ⊢
  have h1 : State.Hushes s s1 := (s.hushes_readsDue.trans (State.hushes_settle _ _)).still_right (State.offerAgain_still _)
  have h2 : s2.still = s1.still := by simp -implicitDefEqProofs [s2]
  have h3 : State.Hushes s2 s3 := by
    unfold s3
    split
    · exact s2.hushes_applyFloor
    · exact .refl
  have last (v : State) : State.Posted v (foldOver (fun (p : Tp) (t : State) => t.notifyLost p) [.lp0, .lp1] v) :=
    foldOver_inv (State.Posted v) _ (fun p t h => h.trans (t.posted_notifyLost p)) _ _ .refl
  have h4 : r.still = s3.still := by
    have up : r.pwr.waking = true := by
      rw [(last _).pwr] at waking
      rw [← waking]
      unfold State.hostRefresh State.relayRefresh
      dsimp only
      (repeat' split) <;> simp
    rcases s3.forwardRecords.roadDue_cases with ended | same
    · rw [road, up] at ended
      cases ended
    · exact (congrArg State.still road.symm).trans (same.trans s3.forwardRecords_still)
  have h5 : r.hostRefresh.relayRefresh.still = r.still := by simp
  exact ((((h1.still_right h2).trans h3).still_right h4).still_right h5).trans (.foldOver (fun p t => t.hushes_notifyLost p) _)

end Sys2Proof.Machine
end

section
/-! The lane bank: RUN in Roadside (R123, R179). -/

namespace Sys2Proof.Machine

theorem State.writeReg_bankCtrl (s : State) (cl n : Nat) (w : Word) : s.writeReg cl .LANE_BANK_CTRL n w = s.bankWrite w := by
  rw [State.writeReg, if_neg (by decide), if_neg (by decide), if_neg (by decide), if_neg (by decide), if_neg (by decide), State.radioWrite]

theorem exec_laneBankRun {who : Who} {s : State} (on : s.sysOn = true) (cl0 : s.rights who.val = [0]) :
    exec (.laneBankRun who) s = .next (s.bankWrite 1#32).done :=
  exec_of_write on cl0 (by rfl) (s.writeReg_bankCtrl 0 0 1#32) rfl

/-- In Roadside the lanes stay stopped: RUN answers START_ERR (R123). -/
theorem State.bankWrite_inRoadside (s : State) (inside : s.inRoadside = true) : s.bankWrite 1#32 = s.setFld F.LANE_BANK_STAT_START_ERR 1 := by
  unfold State.bankWrite
  rw [if_pos (by decide), if_neg (by simp [inside])]

theorem State.bankRuns_startErr (s : State) : (s.setFld F.LANE_BANK_STAT_START_ERR 1).bankRuns = s.bankRuns :=
  s.flag_setFld_of_disjoint F.LANE_BANK_STAT_START_ERR F.LANE_BANK_STAT_RUNNING 1 0 0 (by decide) (by decide)

/-- Roadside, with PLL0 selected and the last mile armed, and with a wake under way, which no entry to Roadside leaves. -/
def roadsideAwake : State :=
  (((State.reset.setFld F.SYSCTL_PSTATE_ROADSIDE 1).setFld F.SYSCTL_LMSTAT_ARMED 1).setFld F.SYSCTL_CLKSTAT_SRC_CUR 1).onPwr
    fun p => { p with waking := true }

/-- Its step ends without a transport's record, and with the wake under way. -/
theorem roadsideAwake_done : ((roadsideAwake.setFld F.LANE_BANK_STAT_START_ERR 1).done.hcp.tps.isEmpty,
    (roadsideAwake.setFld F.LANE_BANK_STAT_START_ERR 1).done.pwr.waking) = (true, true) := by decide +kernel

/-- Refutes O52: in Roadside RUN answers START_ERR and the lanes stay stopped (R123), although PLL0 is selected and the last mile is armed,
where the statement has RUN start the bank. -/
theorem not_lanes : ¬ Obligations.Lanes := by
  unfold Obligations.Lanes
  intro holds
  have on : roadsideAwake.sysOn = true := by decide
  have cl0 : roadsideAwake.rights 0 = [0] := by decide
  have stopped : roadsideAwake.bankRuns = false := by decide
  obtain ⟨commands, -⟩ := holds 0 0 0 0 0 0 0 0 [] 0 [] 0 roadsideAwake on
  obtain ⟨-, -, -, -, -, -, -, -, run, -⟩ := commands cl0
  obtain ⟨t, ends, runs, -⟩ := run (by decide) (by decide) stopped
  rw [exec_laneBankRun on cl0, State.bankWrite_inRoadside _ (by decide)] at ends
  have done : (roadsideAwake.setFld F.LANE_BANK_STAT_START_ERR 1).done = t.done := Host.Outcome.next.inj ends
  obtain ⟨tps, waking⟩ := Prod.mk.inj roadsideAwake_done
  rw [List.isEmpty_iff] at tps
  have left := State.bankRuns_done _ tps waking
  rw [done] at tps waking left
  rw [State.bankRuns_startErr, stopped, State.bankRuns_done t tps waking, runs] at left
  cases left

end Sys2Proof.Machine
end
